-- ==== Sys2Proof/Word.lean ====
section
/-! DEFINITION. The word types of the model: bytes, byte strings, and the instance numbers of engines, host
ports, lanes and client ports (spec/00_scope.md, Names and identifiers). -/

namespace Sys2Proof

/-- One byte that crosses a host port, a line or a client lane. -/
abbrev Byte := BitVec 8

/-- A byte string, first byte first. -/
abbrev Bytes := List (BitVec 8)

/-- Engine number: 0 to 3 for WE0 to WE3. -/
abbrev Eng := Fin 4

/-- Host-port number: 0 to 3 for HP0 to HP3. -/
abbrev Hp := Fin 4

/-- Client lane k, that is CIk together with COk. -/
abbrev LaneNo := Fin 64

/-- Client-port number: 0 to 63 for CP0 to CP63. -/
abbrev Cp := Fin 64

end Sys2Proof
end

