-- ==== Sys2Proof/Syntax.lean ====
section
/-! DEFINITION. The commands of the block: one constructor of `Instr` per row of spec/opcode_table.json, with the
operands that the row's command or event carries.  A row that is a host opcode carries the accepted request whose
execution it is (R50, R53).  A row that is an event carries what the environment measured or delivered, so that no
measured value is invented by the model. -/

namespace Sys2Proof

/-- The authentication key and prefix in force when a request's trailer check began (R46, R333). -/
structure AuthContext where
  key : Bytes
  sessionStart : BitVec 48
  wrap : BitVec 16
  deriving DecidableEq, Repr

/-- An accepted Tabger request (R43): everything its execution and its reply need.  `flag0` is VER_FLAGS bit 0,
which is checked only at step 11 of R53. -/
structure Request where
  port : Hp
  tag : Byte
  seq : BitVec 16
  auth : Option AuthContext
  chain : Bool
  prio : Bool
  flag0 : Bool
  params : Bytes
  deriving DecidableEq, Repr

/-- How a packet crosses the I3C bus (R41). -/
inductive Xfer where
  | sdr
  | ddr (code : Byte)
  deriving DecidableEq, Repr

/-- A complex number. -/
structure Cx where
  re : Rat := 0
  im : Rat := 0
  deriving DecidableEq, Repr, Inhabited

/-- One value for each quadrant XI, XQ, YI and YQ: a converter sample, or a point of the signal. -/
structure Quad where
  xi : Rat := 0
  xq : Rat := 0
  yi : Rat := 0
  yq : Rat := 0
  deriving DecidableEq, Repr, Inhabited

/-- The taps of the four equaliser filters xx, xy, yx, yy: 31 places each, the centre at place 15 (R141, R161). -/
abbrev TapSet := Vector (Vector Cx 31) 4

/-- No taps. -/
def noTaps : TapSet := Vector.replicate 4 (Vector.replicate 31 {})

/-- What the front-end correction has learnt from the signal (R132): the offset of each quadrant, the gain of Q against
I and the part of I in Q of each polarisation, and the adaptive skew of each quadrant in 0.1 ps. -/
structure FrontEnd where
  offset : Quad := {}
  gainX : Rat := 1
  gainY : Rat := 1
  orthoX : Rat := 0
  orthoY : Rat := 0
  skew : Vector Int 4 := Vector.replicate 4 0
  deriving DecidableEq, Repr

/-- A measurement that an engine's own event carries. -/
structure EngineReading (α : Type) where
  engine : Eng
  value : α
  deriving DecidableEq, Repr

/-- The gradients over the 64 symbols of one tap update, one for each error that can steer the taps (R141). -/
structure TapGradients where
  cma : TapSet
  pilot : TapSet
  decision : TapSet
  deriving DecidableEq, Repr

/-- What the engine has seen over one tap update: the timing error in symbols (R136), the movement of the carrier in Hz
(R143), and the ADC samples since the row that carried samples last (R130). -/
structure LoopErrors where
  timing : Rat
  carrier : Int
  samples : List Quad := []
  deriving DecidableEq, Repr

/-- One window advance of the decoder (R202): the noise variance of each quadrant over the last 1.024 ms (R146). -/
structure Advance where
  noise : Quad
  deriving DecidableEq, Repr

/-- What ends a receiver capture: the ADC samples since the row that carried samples last (R130, R161). -/
structure CaptureInput where
  samples : List Quad
  deriving DecidableEq, Repr

/-- Where a frame was found: its cycle-phase stream, the bit position of its header in it, and the instant at which the
header crossed the line receive plane, in 1/16 ns of module time (R205). -/
structure FrameArrival where
  stream : Fin 5
  position : Nat
  arrival : Nat
  deriving DecidableEq, Repr

/-- What the adaptation of a lane's receiver has settled on: the CTLE's peaking and the DFE's taps (R269). -/
structure Adaptation where
  ctle : Byte
  dfe : Vector Int 12
  deriving DecidableEq, Repr

/-- Bit errors that a lane's PRBS checker has counted (R273). -/
structure LaneReading where
  lane : LaneNo
  errors : Nat
  deriving DecidableEq, Repr

/-- One estimate of a converter measurement: offset in 1/64 LSB, gain in 0.001 %, skew in fs (R171). -/
structure Estimate where
  offset : Int
  gain : Int
  skew : Int
  deriving DecidableEq, Repr

/-- What one engine's monitors measured in a short interval (R154, R155). -/
structure ShortMeasure where
  pIn : BitVec 16
  snrE : BitVec 16
  sopRate : BitVec 32
  pOut : BitVec 16
  freqErr : BitVec 32
  /-- residual dispersion from the taps, 0.1 ps/nm (R140) -/
  residual : Int
  /-- what the front end has learnt (R132) -/
  frontEnd : FrontEnd
  deriving DecidableEq, Repr

/-- What is measured over a short interval: the engines' monitors, the bit errors of each lane's PRBS checker while locked
that are not counted yet, and the RS-FEC codewords of each port, corrected and uncorrectable (R154, R273, R282). -/
structure ShortReport where
  engines : List ShortMeasure
  lanes : List Nat
  ports : List (Nat × Nat)
  deriving DecidableEq, Repr

/-- What one engine's monitors measured over a long interval (R155). -/
structure LongMeasure where
  osnr : BitVec 16
  cdResid : BitVec 32
  dgd : BitVec 16
  pdl : BitVec 16
  deriving DecidableEq, Repr

/-- Direction: ingress is host toward fibre. -/
inductive Dir where
  | ingress | egress
  deriving DecidableEq, Repr

/-- A received ordered set or its end (R259). -/
inductive OrderedSet where
  | localFault | localEnd | remoteFault | remoteEnd
  deriving DecidableEq, Repr

/-- A lane receiver's phase leaving its wander allowance (R267). -/
inductive Slip where
  | lost | repeated
  deriving DecidableEq, Repr

/-- A PTP message crossing a port (R407 to R411).  Instants are offsets from now, in 2^-16 ns. -/
structure PtpMessage where
  dir : Dir
  /-- the client frame, destination address first, FCS included -/
  frame : Bytes
  /-- instant at the CI plane (ingress) or the CO plane (egress) -/
  client : Int
  /-- instant at the line transmit plane (ingress) or the line receive plane (egress) -/
  line : Int
  deriving DecidableEq, Repr

/-- What a fuse row holds (R180, R334). -/
inductive FuseContent where
  | slice (conv : Fin 8) (index : Fin 256)
  | tileBandgap
  | hubBandgap
  | sensor (n : Fin 104)
  /-- rows 0 to 8 of the owner key, and row 9, which records its provisioning -/
  | owner (i : Fin 10)
  deriving DecidableEq, Repr

/-- A fuse row: its die, row number and content, and its word, 31 data bits below an even parity bit (R180). -/
structure FuseRow where
  die : Byte
  row : BitVec 16
  content : FuseContent
  word : BitVec 32
  deriving DecidableEq, Repr

/-- What the reset timeline found (R180, R183, R440, R508): the straps, and where fuses and the factory region no longer
read as they are held. -/
structure ReadyReport where
  /-- the sixteen-fold averages of STRAP0 and STRAP1, each reading taken in turn (at most nine) -/
  strap0 : List (BitVec 12)
  strap1 : List (BitVec 12)
  fuses : List FuseRow
  /-- offset and byte of the factory region -/
  factory : List (Nat × Byte)
  /-- microseconds from the trigger to ready -/
  readyTime : BitVec 32
  deriving DecidableEq, Repr

/-- A heartbeat as one voter sees it: its state-parity summary is clean, and its journal sequence number (R467). -/
structure Heartbeat where
  parity : Bool
  journal : BitVec 32
  deriving DecidableEq, Repr

/-- The commands of the block, one per row of spec/opcode_table.json, in the table's order. -/
inductive Instr where
  | requestPacket (p : Hp) (addr : BitVec 7) (x : Xfer) (bytes : Bytes)
  | replyRead (p : Hp) (addr : BitVec 7) (x : Xfer)
  | ibiRepeat (p : Hp)
  | cccEntdaa (p : Hp) (rivals : List (BitVec 64)) (addr : BitVec 7)
  | cccSetdasa (p : Hp) (static : BitVec 7) (addr : BitVec 7)
  | cccSetnewda (p : Hp) (to_ : BitVec 7) (addr : BitVec 7)
  | cccRstdaa (p : Hp)
  | cccEnec (p : Hp) (to_ : Option (BitVec 7))
  | cccDisec (p : Hp) (to_ : Option (BitVec 7))
  | cccGetpid (p : Hp) (to_ : BitVec 7)
  | cccGetbcr (p : Hp) (to_ : BitVec 7)
  | cccGetdcr (p : Hp) (to_ : BitVec 7)
  | cccGetstatus (p : Hp) (to_ : BitVec 7)
  | cccGetmwl (p : Hp) (to_ : BitVec 7)
  | cccGetmrl (p : Hp) (to_ : BitVec 7)
  | cccSetmwl (p : Hp) (to_ : Option (BitVec 7)) (value : BitVec 16)
  | cccSetmrl (p : Hp) (to_ : Option (BitVec 7)) (value : BitVec 16)
  | cccEnthdr0 (p : Hp)
  | cccOther (p : Hp) (to_ : Option (BitVec 7)) (code : Byte)
  | portInfo (r : Request)
  | portConfig (r : Request)
  | portReset (r : Request)
  | portEcho (r : Request)
  | eventRead (r : Request)
  | tenancySet (r : Request)
  | tenancyGet (r : Request)
  | wsInfo (r : Request)
  | wsRead (r : Request)
  | wsFind (r : Request)
  | sluiceCommit (r : Request)
  | sluiceCancel (r : Request)
  | sluiceDiscard (r : Request)
  | sluiceStatus (r : Request)
  | commitBoundary (id : Nat)
  | ackDeadline (id : Nat)
  | responderTarget (id : Nat)
  | pairedTxSwitch (id : Nat)
  | pairedRxSwitch (id : Nat)
  | txConfigWrite (r : Request)
  | txConfigRead (r : Request)
  | txStatus (r : Request)
  | txBiasHold (r : Request)
  | frameTransmit
  | lockerLocked (e : Eng)
  | biasAcquired (e : Eng)
  | txReady (e : Eng) (pOut : BitVec 16) (freqErr : BitVec 32)
  | depEnd (e : Eng)
  | txQuenched (e : Eng)
  | laserFault (e : Eng) (cause : Fin 3)
  | txPowerFault (e : Eng) (pOut : BitVec 16) (nearest : BitVec 16)
  | rxConfigWrite (r : Request)
  | rxConfigRead (r : Request)
  | rxStatus (r : Request)
  | rxMonitor (r : Request)
  | rxReacquire (r : Request)
  | rxFreeze (r : Request)
  | rxCapture (r : Request)
  | rxCaptureDone (e : Eng) (c : CaptureInput)
  | rxCaptureRead (r : Request)
  | losTimer (v : EngineReading (BitVec 16))
  | lightTimer (v : EngineReading (BitVec 16))
  | freqEstimated (v : EngineReading Int)
  | cdSearchPassEnd (e : Eng) (best : Option (Nat × Nat))
  | timingLock (v : EngineReading (List Rat))
  | timingLockLost (v : EngineReading (List Rat))
  | cmaConverged (e : Eng)
  | pilotFound (v : EngineReading (List Quad))
  | carrierLockLost (v : EngineReading (List Quad))
  | rxStateTimeout (e : Eng)
  | tapUpdate (e : Eng) (g : TapGradients) (u : LoopErrors)
  | calConfigWrite (r : Request)
  | calConfigRead (r : Request)
  | calStatus (r : Request)
  | calSliceRead (r : Request)
  | calRecords (r : Request)
  | calApply (e : Eng) (conv : Fin 8)
  | calMeasureDone (e : Eng) (conv : Fin 4) (pairs : List (Estimate × Estimate))
  | calIntervalEnd (e : Eng) (conv : Fin 4)
  | dacCalStepDone (e : Eng) (pairs : List (Estimate × Estimate))
  | fecConfigWrite (r : Request)
  | fecConfigRead (r : Request)
  | fecStatus (r : Request)
  | decoderAdvance (e : Eng) (a : Advance)
  | groupHuntDone (e : Eng) (noise : Quad)
  | profileWrite (r : Request)
  | profileRead (r : Request)
  | frameConfigWrite (r : Request)
  | frameConfigRead (r : Request)
  | slotmapWrite (r : Request)
  | slotmapRead (r : Request)
  | frameStatus (r : Request)
  | frameReceive (e : Eng) (f : FrameArrival)
  | scSlot (e : Eng) (byte : Byte) (valid : Bool)
  | cportWrite (r : Request)
  | cportRead (r : Request)
  | laneEqWrite (r : Request)
  | laneEqRead (r : Request)
  | lanePower (r : Request)
  | clientLoopback (r : Request)
  | prbsControl (r : Request)
  | synceWrite (r : Request)
  | synceRead (r : Request)
  | laneStatus (r : Request)
  | portStatus (r : Request)
  | clientFrameRx (c : Cp) (frame : Bytes) (pcsError : Bool)
  | laneFrameRx (l : LaneNo) (symbols : List (Fin 4)) (slip : Option Slip)
  | clientOrderedSetRx (c : Cp) (set : OrderedSet)
  | portFailDetect (c : Cp) (signalLost : BitVec 16) (clockLost : BitVec 16) (pcsLost : Bool)
  | portFailClearTimer (c : Cp)
  | laneAdaptDone (l : LaneNo) (a : Adaptation)
  | flowPortWrite (r : Request)
  | flowPortRead (r : Request)
  | etypeWrite (r : Request)
  | etypeRead (r : Request)
  | flowAdd (r : Request)
  | flowDelete (r : Request)
  | flowLookup (r : Request)
  | ctxLoad (r : Request)
  | ctxFill (r : Request)
  | ctxFillDone
  | ctxRead (r : Request)
  | ctxRekey (r : Request)
  | ctxReload (r : Request)
  | sealConfigWrite (r : Request)
  | sealConfigRead (r : Request)
  | contextFetchDone (d : Dir)
  | millraceAdmit (d : Dir)
  | lineEgressFrame (c : Cp) (frame : Bytes)
  | graceExpiry
  | keyLoad (r : Request)
  | keyRewrite (r : Request)
  | keyRewriteGraceEnd
  | keyErase (r : Request)
  | keyErasePoint
  | keyEraseDone
  | keyStatus (r : Request)
  | portkeyLoad (r : Request)
  | portkeyErase (r : Request)
  | portkeyStatus (r : Request)
  | millraceStatus (r : Request)
  | ownerProvision (r : Request)
  | ownerProvisionDone (agrees : Bool)
  | ownerStatus (r : Request)
  | idChallenge (r : Request)
  | memConfigWrite (r : Request)
  | memConfigRead (r : Request)
  | memStatus (r : Request)
  | memLogRead (r : Request)
  | memWordRead (r : Request)
  | memInject (r : Request)
  | channelTrainingDone (c : Fin 8)
  | channelTrainingFail (c : Fin 8)
  | memSweepDone (nanoseconds : BitVec 32)
  | eddyRead
  | mergeRetire (c : Fin 8)
  | hwConfigWrite (r : Request)
  | hwConfigRead (r : Request)
  | hwPhaseStep (r : Request)
  | hwStatus (r : Request)
  | hwInputStatus (r : Request)
  | inputQualifyTimer (input : Fin 14) (freq : BitVec 32)
  | inputLoss (input : Fin 14) (cause : BitVec 4)
  | buildOutWindowEnd (phase : Int)
  | hwLockDeclared
  | wtrExpiry (input : Fin 14)
  | holdoverSecond
  | phaseStepApply
  | phaseSlewEnd
  | refoutRestart
  | ovenStable
  | tdConfigWrite (r : Request)
  | tdConfigRead (r : Request)
  | tdSet (r : Request)
  | tdStatus (r : Request)
  | ptpPortWrite (r : Request)
  | ptpPortRead (r : Request)
  | tpoWrite (r : Request)
  | tpoRead (r : Request)
  | captureRead (r : Request)
  | tslogRead (r : Request)
  | ptpEventMessage (c : Cp) (m : PtpMessage)
  | syncLossTimeout (d : Fin 2)
  | tpoEdge (n : Fin 4)
  | captureEdge (input : Fin 3) (quarters : Nat)
  | decimatorReset
  | gaugeSeqWrite (r : Request)
  | gaugeSeqRead (r : Request)
  | gaugeInject (r : Request)
  | gaugeCalibrate (r : Request)
  | gaugeCalDone (offsets : List Int) (gain : Int)
  | gaugeCheckWrite (r : Request)
  | gaugeStatus (r : Request)
  | gaugeResultRead (r : Request)
  | gaCycleStart (codes : List (BitVec 12)) (check : BitVec 12)
  | gbConversionEnd (raw : BitVec 12)
  | gbPassTick
  | weirPolicyWrite (r : Request)
  | weirPolicyRead (r : Request)
  | weirStatus (r : Request)
  | weirSensorRead (r : Request)
  | weirReading (temps : List (BitVec 16))
  | weirReleaseTimer
  | hardwiredTrip
  | supStatus (r : Request)
  | supSwap (r : Request)
  | swapWindowEnd
  | supRestore (r : Request)
  | restoreComplete (passes : Bool) (tenths : BitVec 16)
  | autoRestoreTimer (unit : Fin 2)
  | supConfigWrite (r : Request)
  | supConfigRead (r : Request)
  | refereeWindow (beats : Vector (Option Heartbeat) 3)
  | supParityFault
  | supIllegalState
  | journalRecordFail
  | voterDisagree (votes : Vector Bool 3)
  | takeoverComplete (duration : BitVec 16)
  | ctrConfigWrite (r : Request)
  | ctrConfigRead (r : Request)
  | ctrSnapshot (r : Request)
  | ctrSnapshotTick
  | ctrRead (r : Request)
  | ctrClear (r : Request)
  | frRead (r : Request)
  | tagConfigWrite (r : Request)
  | tagLogRead (r : Request)
  | shortIntervalEnd (m : ShortReport)
  | longIntervalEnd (engines : List LongMeasure)
  | moduleReset (r : Request)
  | moduleResetBegin
  | resetInfo (r : Request)
  | nvRead (r : Request)
  | nvWrite (r : Request)
  | nvWriteDone
  | powerOnTrigger
  | supplyLoss (aux : Bool)
  | tripLatchRelease
  | resetNAssert
  | resetNDeassert (lowNs : Nat)
  | vioLoss
  | moduleReady (report : ReadyReport)
  | tapReset
  | jtagBypass
  | jtagIdcode
  | jtagSamplePreload (preload : Option (List Bool)) (pins : List Bool)
  | jtagExtest
  | jtagClamp
  | jtagHighz
  | tileLinkFail (e : Eng)
  | vioRestored
  | p3v3AuxApplied
  | prbsCheckerLock (l : LaneNo)
  | prbsCheckerRelock (v : LaneReading)
  | ppsOutEdge (n : Fin 2)
  | outputTimeSlewEnd
  | tdSetApply (d : Fin 2)
  | immediateEffectBoundary
  deriving DecidableEq, Repr

end Sys2Proof
end

