-- ==== Sys2Proof/Config.lean ====
section
/-! DEFINITION. Free values: what the spec leaves open, as constants with no body.  A claim holds whatever they are
(log 5). -/

namespace Sys2Proof.Config

/-- The free value numbered by the state's counter, as a natural number cut to the width it is used at (log 5). -/
opaque freeValue : Nat → Nat

/-- Bucket of a flow key under the first of the two hash functions that the spec leaves to the module (log 8). -/
opaque flowHashA : Nat → Nat

/-- Bucket of a flow key under the second hash function (log 8). -/
opaque flowHashB : Nat → Nat

/-- The on-hub tag of a flow key, R286, which is internal to the module (log 8). -/
opaque flowTag : Nat → Nat

/-- Column of G, the matrix that makes the check of a word from its data, before R356's properties are asked of it: the
matrix is internal to the module (log 7). -/
opaque dataColumn : Nat → BitVec 16

/-- Column of A, the matrix that makes the check of a word from its address, likewise (log 7). -/
opaque addressColumn : Nat → BitVec 16

/-- Q in 0.01 dB of an error ratio num / den for which the formula of R156 gives no value: a ratio of 0, or one near or
above 1/2 (log 14). -/
opaque openQuality (num den : Nat) : Int

/-- Factory front-end skew of an engine's quadrant in 0.1 ps, from its RX_SKEW record, whose format is internal (R132,
R182; log 35). -/
opaque factorySkew (engine quadrant : Nat) : Int

/-- Sample `n` of a quadrant's samples delayed by a number of sample periods: the interpolation is not stated (R112, R132;
log 35). -/
opaque delayed (samples : List Rat) (delay : Rat) (n : Nat) : Rat

/-- The square root of a number as the hardware holds it: the amplitude of a pilot, the RMS of a quadrant (R108, R113;
log 35). -/
opaque squareRoot (v : Rat) : Rat

/-- The ratio of amplitudes that a number of hundredths of a decibel stands for, as the hardware holds it (R112, R113;
log 35). -/
opaque decibels (hundredths : Int) : Rat

/-- The root-raised-cosine response of a roll-off at a time in symbol periods: its digital form is not stated, only its
tolerance (R110; log 35). -/
opaque rootRaisedCosine (rolloff time : Rat) : Rat

/-- Sample of the impulse response of a fibre with a dispersion in ps/nm about a channel centre in MHz, at a sample rate in
GS/s (R111; log 35). -/
opaque fibre (dispersion : Int) (centre : Nat) (rate : Rat) (index : Int) : Cx

/-- Sample of the factory inverse of a quadrant's DAC, driver and modulator response, from the modulator transfer curves,
whose format is internal (R112, R182; log 35). -/
opaque modulatorInverse (engine quadrant : Nat) (index : Int) : Rat

/-- Sample of the response that rises linearly in dB from 0 at baud/8 to a number of tenths of a decibel at baud/2 and is
constant above (R112; log 35). -/
opaque preEmphasis (tenths index : Int) : Rat

/-- Coefficient of a resampler kernel at a phase and tap, 12 bits: the ROM's content is not stated (R133, R134;
log 35). -/
opaque kernelRom (kernel phase tap : Nat) : BitVec 12

/-- Movement of the 48-bit ratio word by the timing loop: bandwidth in kHz, timing error in symbols, present word.  The
loop's coefficients are not stated (R136; log 35). -/
opaque timingLoop (bandwidth : Nat) (error : Rat) (word : BitVec 48) : Int

/-- Sample of the impulse response of the inverse fibre of a dispersion in ps/nm about a channel centre in MHz, at a sample
rate in GS/s and an FFT size: its digital form is not stated (R138; log 35). -/
opaque fibreInverse (dispersion : Int) (centre : Nat) (rate : Rat) (fft index : Nat) : Cx

/-- Equaliser taps re-interpolated from one tap spacing to another, both in ps: the interpolation is not stated (R152;
log 35). -/
opaque reinterpolated (taps : TapSet) (old new : Rat) : TapSet

/-- A unit vector at an angle in turns: cosine and sine as the hardware computes them (R143, R145; log 35). -/
opaque unitVector (turns : Rat) : Cx

/-- Angle in turns of a received point against a reference (R145; log 35). -/
opaque angleOf (received reference : Cx) : Rat

/-- Refinement in turns of an interpolated phase by blind phase search on a window of data symbols (R145; log 35). -/
opaque phaseSearch (window : List Cx) (phase : Rat) : Rat

/-- Symbols of lane `place` of `lanes` that carry a frame, preamble first, as IEEE 802.3 codes it for the port type:
256B/257B, RS(544,514), alignment markers and Gray-coded PAM4, none of which the spec states (R257, R258; log 19). -/
opaque ethernetSymbols (lanes place : Nat) (frame : List (BitVec 8)) : List (Fin 4)

/-- The frame that IEEE 802.3's receive path makes of a port's lanes, with a flag for a PCS error control character; the
operand says whether the host sent one (R257; log 19). -/
opaque ethernetFrame (lanes : List (List (Fin 4))) (pcsError : Bool) : List (BitVec 8) × Bool

/-- Number, on the hub, of one of the ten owner-key fuse rows: the map of rows is internal to each die (R180, R334;
log 2). -/
opaque ownerRow : Nat → BitVec 16

/-- Frames that stage 7 can hold while the egress bank has no room for them (R323; log 5). -/
opaque egressHold : Nat

/-- The SCI under which an egress context verifies a frame whose SecTAG carries none: the spec states no source for it
(log 18). -/
opaque peerSci : Nat → Nat

/-- The SSCI under which an egress context of an XPN suite verifies: the spec states it for ingress contexts only
(log 18). -/
opaque peerSsci : Nat → Nat

/-- Fixed transmit latency of an engine: 2^−16 ns from the MFC tick of a frame to its header at the line transmit plane,
R227; the spec gives no figure (log 13). -/
opaque txLatency : Nat → Nat

/-- Frequency offset in 2^−48 to which a domain's proportional-integral loop of a bandwidth in mHz comes by a new offset in
2^−16 ns, before its limit of ±100 ppm; `n` numbers the use.  The gains are not stated (R404; log 16). -/
opaque servoLoop (bandwidth : Nat) (offset freq : Int) (n : Nat) : Int

/-- SCALE of a Gauge channel, a factory value of each module (R428, log 9). -/
opaque gaugeScale : Nat → Nat

/-- OFFSET of a Gauge channel, a factory value of each module (R428, log 9). -/
opaque gaugeOffset : Nat → Nat

end Sys2Proof.Config
end

