-- ==== Sys2Proof/Machine/EngineTypes.lean ====
section
/-! DEFINITION. The data types of one wavelength engine: its staged and active parameters, transmitter, receiver,
converters, decoder, framer and deframer (spec chapters 02, 05 to 09).  Each field's comment gives its width, the
rule that names it and its reset value. -/

namespace Sys2Proof.Machine

/-- A staged parameter and its active copy (R74, R76). -/
structure Staged (α : Type) where
  staged : α
  active : α
  deriving DecidableEq, Repr

/-- One QUAD entry of the transmit configuration (R126). -/
structure QuadConfig where
  /-- 8 bits; 05 R126; reset 0 -/
  pe : Byte := 0
  /-- 8 bits; 05 R126; reset 0 -/
  gain : Byte := 0
  /-- 16 bits; 05 R126; reset 0 -/
  skew : BitVec 16 := 0
  deriving DecidableEq, Repr

/-- Transmit configuration of an engine, class TX (R126). -/
structure TxConfig where
  /-- 16 bits; 05 R126; reset 0 -/
  chan : BitVec 16 := 0
  /-- 16 bits signed; 05 R126; reset 0 -/
  fine : BitVec 16 := 0
  /-- 16 bits; 05 R126; reset 0 -/
  atten : BitVec 16 := 0
  /-- 8 bits; 05 R126; reset 0 -/
  rolloff : Byte := 0
  /-- 8 bits; 05 R126; reset 0 -/
  dacBackoff : Byte := 0
  /-- 32 bits signed; 05 R126; reset 0 -/
  txcd : BitVec 32 := 0
  /-- four QUAD entries; 05 R126; reset 0 -/
  quad : Vector QuadConfig 4 := Vector.replicate 4 {}
  deriving DecidableEq, Repr

/-- Receive configuration of an engine, class RX (R163). -/
structure RxConfig where
  /-- 8 bits; 06 R163; reset 0 -/
  cdMode : Byte := 0
  /-- 8 bits; 06 R163; reset 0 -/
  kernel : Byte := 0
  /-- 8 bits; 06 R163; reset 0 -/
  mimoTaps : Byte := 0
  /-- 32 bits signed; 06 R163; reset 0 -/
  cdHint : BitVec 32 := 0
  /-- 32 bits; 06 R163; reset 0 -/
  cdSpan : BitVec 32 := 0
  /-- 8 bits; 06 R163; reset 0 -/
  mimoMu : Byte := 0
  /-- 8 bits; 06 R163; reset 0 -/
  trBw : Byte := 0
  /-- 8 bits; 06 R163; reset 0 -/
  cprAvg : Byte := 0
  /-- 8 bits; 06 R163; reset 0 -/
  flags : Byte := 0
  /-- 16 bits; 06 R163; reset 0 -/
  losThr : BitVec 16 := 0
  /-- four signed 16-bit entries; 06 R163; reset 0 -/
  feSkew : Vector (BitVec 16) 4 := Vector.replicate 4 0
  deriving DecidableEq, Repr

/-- Calibration configuration of an engine, class CONV (R186). -/
structure CalConfig where
  /-- 8 bits; 07 R186; reset 0x03 -/
  adcMode : Byte := 3
  /-- 8 bits; 07 R186; reset 0x01 -/
  dacMode : Byte := 1
  /-- 16 bits; 07 R186; reset 0 -/
  tolOffset : BitVec 16 := 0
  /-- 16 bits; 07 R186; reset 0 -/
  tolGain : BitVec 16 := 0
  /-- 16 bits; 07 R186; reset 0 -/
  tolSkew : BitVec 16 := 0
  /-- 16 bits; 07 R186; reset 0 -/
  interval : BitVec 16 := 0
  /-- 8 bits; 07 R186; reset 4 -/
  attempts : Byte := 4
  deriving DecidableEq, Repr

/-- Decoder configuration of an engine, class FEC (R213). -/
structure FecConfig where
  /-- 8 bits; 08 R213; reset 0 -/
  w : Byte := 0
  /-- 8 bits; 08 R213; reset 0 -/
  i : Byte := 0
  /-- 8 bits; 08 R213; reset 0 -/
  flags : Byte := 0
  deriving DecidableEq, Repr

/-- Frame configuration of an engine, class FRAME (R250). -/
structure FrameConfig where
  /-- 8 bits; 09 R250; reset 0 -/
  txLinkid : Byte := 0
  /-- 8 bits; 09 R250; reset 0 -/
  expLinkid : Byte := 0
  /-- 8 bits; 09 R250; reset 0 -/
  confirmN : Byte := 0
  /-- 8 bits; 09 R250; reset 0 -/
  lofN : Byte := 0
  /-- 8 bits; 09 R250; reset 0 -/
  scFlags : Byte := 0
  /-- 8 bits; 09 R250; reset 0 -/
  selMode : Byte := 0
  /-- 32 bits; 09 R250; reset 0 -/
  scKey : BitVec 32 := 0
  /-- 16 bits; 09 R250; reset 0 -/
  twinTag : BitVec 16 := 0
  /-- 64 bits; 09 R250; reset 0 -/
  scNonce : BitVec 64 := 0
  deriving DecidableEq, Repr

/-- Slot map and MAPGEN of an engine, class SLOTMAP (R251). -/
structure SlotMap where
  /-- 8 bits; 09 R251; reset 0 -/
  mapgen : Byte := 0
  /-- 128 entries of 8 bits; 09 R251; reset 0 -/
  entries : Vector Byte 128 := Vector.replicate 128 0
  deriving DecidableEq, Repr

/-- One entry of a lane group's EtherType table (R312). -/
structure EtypeEntry where
  /-- 16 bits; 11 R312; reset 0 -/
  etype : BitVec 16 := 0
  /-- 8 bits; 11 R312; reset 0 -/
  flags : Byte := 0
  deriving DecidableEq, Repr

/-- Every staged parameter that belongs to one engine (R78, classes 0 to 7 without the client ports). -/
structure EngineParams where
  /-- 32 bits; 02 R22; reset 0 -/
  profile : BitVec 32 := 0
  slotmap : SlotMap := {}
  frame : FrameConfig := {}
  fec : FecConfig := {}
  tx : TxConfig := {}
  rx : RxConfig := {}
  cal : CalConfig := {}
  /-- 15 entries; 11 R312; reset 0 -/
  etype : Vector EtypeEntry 15 := Vector.replicate 15 {}
  deriving DecidableEq, Repr

/-- Which side of a paired commit still runs on its old values (R96). -/
inductive HeldSide where
  | transmit | receive
  deriving DecidableEq, Repr

/-- Transmitter state (R127). -/
inductive TxMode where
  | dark | enabling | lit | departing | quenching | laserFault | heldDark
  deriving DecidableEq, Repr

/-- A dual-polarisation symbol: the amplitudes' signed values on XI, XQ, YI, YQ, or a pilot, whose four quadrants are +√E
for a set bit and −√E otherwise, with the energy E in 1/32 (R105, R108). -/
inductive Symbol where
  | data (xi xq yi yq : Int)
  | pilot (energy32 : Nat) (xi xq yi yq : Bool)
  deriving DecidableEq, Repr

/-- Which groups a transmit chain sends next (R198, R199). -/
inductive ChainPhase where
  | idle | opening (groups : Nat) | data | closing (groups : Nat)
  deriving DecidableEq, Repr

/-- The transmit chain: matcher, code and pilots (R101 to R109, R191 to R200, R222). -/
structure TxChain where
  /-- four phases; 08 R197, R198; reset no chain -/
  phase : ChainPhase := .idle
  /-- LINE code of the running chain; 08 R197; reset 0 -/
  line : Nat := 0
  /-- counter; 05 R104 block counter; reset 0 -/
  block : Nat := 0
  /-- counter; 05 R108 symbol period t; reset 0 -/
  period : Nat := 0
  /-- ns of line time not yet filled with symbol periods; 05 R25; reset 0 -/
  time : Rat := 0
  /-- bits of the stream before the first bit of the frame of a chain change; 08 R199; reset none -/
  stopAfter : Option Nat := none
  /-- LINE code of the chain that follows the termination groups; 08 R199; reset none -/
  nextLine : Option Nat := none
  /-- period at which the termination groups began; 08 R200; reset none -/
  closeAt : Option Nat := none
  /-- 15 bits; 05 R109; reset 0x2D2D, the seed of each chain -/
  lfsr : BitVec 15 := 0x2D2D
  /-- 32 blocks of 256 bits; 08 R193 position τ−1; reset virtual zeros -/
  prev1 : List (BitVec 256) := []
  /-- 32 blocks of 256 bits; 08 R193 position τ−2; reset virtual zeros -/
  prev2 : List (BitVec 256) := []
  /-- bits; 05 R102 the data stream not yet taken; reset empty -/
  stream : List Bool := []
  /-- data symbols waiting for their period; 05 R103; reset empty -/
  waiting : List Symbol := []
  /-- symbols sent in the last frame; 05 R108; reset empty -/
  sent : List Symbol := []
  /-- symbols of the running chain sent in the frame before, which the filters still reach; 05 R114; reset empty -/
  past : List Symbol := []
  /-- a chain that ended within the last frame: how many of `sent` are its own, its LINE code, the number of its symbol
  periods, and those before; 05 R114; reset none -/
  ended : Option (Nat × Nat × Nat × List Symbol) := none
  /-- ns; 09 R222 L; reset 0 -/
  lag : Rat := 0
  /-- counter; 09 R222 E; reset 0 -/
  owed : Nat := 0
  /-- ns; 09 R222 tile duration at which E is counted; reset 0 -/
  tile : Rat := 0
  deriving DecidableEq, Repr

/-- CANN (R92). -/
structure Cann where
  token : BitVec 32 := 0
  target : BitVec 32 := 0
  mask : BitVec 16 := 0
  phase : BitVec 2 := 0
  deriving DecidableEq, Repr

/-- CACK (R92). -/
structure Cack where
  token : BitVec 32 := 0
  target : BitVec 32 := 0
  response : BitVec 4 := 0
  deriving DecidableEq, Repr

/-- The overhead fields of tiles 0 to 3 (R223, R225). -/
structure Overhead where
  omitted : BitVec 3 := 0
  scValid : Bool := false
  scEnc : Bool := false
  scb : Byte := 0
  depReason : Byte := 0
  depLeft : Byte := 0
  aps : BitVec 32 := 0
  fstat : BitVec 64 := 0
  bdiSum : BitVec 16 := 0
  bdiSlot : BitVec 128 := 0
  cann : Cann := {}
  cack : Cack := {}
  ltsSec : BitVec 48 := 0
  ltsNs : BitVec 32 := 0
  ltsFrac : BitVec 16 := 0
  ltsTs : BitVec 4 := 0
  echoValid : Bool := false
  echo : BitVec 32 := 0
  dwell : BitVec 32 := 0
  deriving DecidableEq, Repr

/-- A transmitted frame before scrambling: header fields, overhead and payload tiles (R216, R218, R223). -/
structure TxFrame where
  fn : BitVec 32
  mapgen : BitVec 4
  linkid : BitVec 8
  profile : BitVec 4
  overhead : Overhead
  tiles : List Bytes
  deriving DecidableEq, Repr

/-- Transmitter of an engine (R120 to R128, R219). -/
structure TxState where
  /-- seven codes; 05 R127 STATE; reset dark -/
  mode : TxMode := .dark
  /-- 1 while the laser tunes and locks (steps 1 and 2), 3 while the bias loops acquire, 4 from the ramp on (steps 4 and
  5), 0 when not enabling; 05 R120; reset 0 -/
  step : Nat := 0
  /-- 8 bits; 05 R127 LAST_QUENCH; reset 0 -/
  lastQuench : Byte := 0
  /-- 8 bits; 05 R121 reason of the quench in progress; reset 0 -/
  reason : Byte := 0
  /-- one bit; 05 R123 an enable follows the quench in progress; reset 0 -/
  enableNext : Bool := false
  /-- one bit; 05 R219 an enable that follows takes a new FN; reset 0 -/
  newFn : Bool := false
  /-- faceplate power that the attenuator commands, 10^-8 dBm; 05 R117; reset full attenuation, −35 dBm -/
  setpoint : Int := -3500000000
  /-- offset from the channel to which the laser is tuned, 10^-7 MHz; 05 R116; reset DESIGN CHOICE 0, log 12 -/
  tuned : Int := 0
  /-- profile word that the frames of a DEP for LINE 0x0 still carry; 05 R121; reset none -/
  depProfile : Option (BitVec 32) := none
  /-- 6 bits; 05 R127 TRACKING: bias loops acquired; reset 0 -/
  acquired : BitVec 6 := 0
  /-- 6 bits; 05 R128 HOLD set by the host; reset 0 -/
  hostHold : BitVec 6 := 0
  /-- 6 bits; 05 R118 loops held for any cause; reset all, because the laser is dark -/
  held : BitVec 6 := 0x3F
  /-- 16 bits; 05 R127 P_OUT; reset DESIGN CHOICE 0, log 12 -/
  pOut : BitVec 16 := 0
  /-- 32 bits; 05 R127 FREQ_ERR; reset DESIGN CHOICE 0, log 12 -/
  freqErr : BitVec 32 := 0
  /-- 16 bits; 05 R127 CLIPPED; reset 0 -/
  clipped : BitVec 16 := 0
  /-- samples clipped in the running short interval; 05 R113; reset 0 -/
  clippedNow : Nat := 0
  /-- DAC samples of the last frame's time, full scale 1; 05 R110 to R113; reset none -/
  samples : List Quad := []
  /-- one bit; 05 R122 a declared laser fault holds the engine dark; reset 0 -/
  fault : Bool := false
  /-- one bit; 05 R122 active LINE has been 0x0 since the fault; reset 0 -/
  faultOff : Bool := false
  /-- one bit; 09 R219 the transmitter runs; reset 0 -/
  running : Bool := false
  /-- 32 bits; 01 R16 FN; reset DESIGN CHOICE 0, log 12 (set at every start) -/
  fn : BitVec 32 := 0
  /-- DEP frames still to send; 05 R121; reset none -/
  depLeft : Option Nat := none
  chain : TxChain := {}
  cann : Cann := {}
  cack : Cack := {}
  /-- 64 bits; 09 R225 FSTAT refreshed once per short interval; reset 0 -/
  fstat : BitVec 64 := 0
  /-- FN and departure, in 2^-16 ns of module time, of the last 2^20 frames, newest first; 09 R228; reset none -/
  departs : List (BitVec 32 × Int) := []
  /-- the frame begun at the last MFC tick; 09 R216; reset none -/
  frame : Option TxFrame := none
  /-- one 23-bit PRBS register a slot; 02 R35; reset none, seeded at the commit frame -/
  prbs : List (BitVec 23) := []
  deriving DecidableEq, Repr

/-- Receiver state (R148). -/
inductive RxMode where
  | off | waitLight | freq | cd | clock | premix | pilot | decode | track | hold
  deriving DecidableEq, Repr

/-- A dispersion search pass: the CD_MODE it uses, the values of its coarse pass, the step of its fine pass, and the
range that its values are clipped to (R139, R151). -/
structure CdSearch where
  mode : Byte
  coarse : List Int
  fine : Nat
  range : Nat
  deriving DecidableEq, Repr

/-- The pilot candidate that was kept: its symbol position, its rotation by quarter turns and polarisation order, and
what follows from its bits: the LFSR state of the next pilot and the symbol-period count t of the next symbol, which a
candidate has for its own first pilot (R144). -/
structure PilotGrid where
  position : Nat
  rotation : Fin 4
  swapped : Bool
  lfsr : BitVec 15
  t : Nat
  deriving DecidableEq, Repr

/-- The performance monitors of the last completed intervals (R154). -/
structure RxMonitor where
  pIn : BitVec 16 := 0
  osnr : BitVec 16 := 0
  snrE : BitVec 16 := 0
  q : BitVec 16 := 0
  berPre : BitVec 32 := 0
  cdTotal : BitVec 32 := 0
  cdResid : BitVec 32 := 0
  dgd : BitVec 16 := 0
  pdl : BitVec 16 := 0
  sopRate : BitVec 32 := 0
  freqOff : BitVec 32 := 0
  clkOff : BitVec 32 := 0
  valid : BitVec 16 := 0
  pilotErr : BitVec 32 := 0
  time : BitVec 48 := 0
  deriving DecidableEq, Repr

/-- A symbol in stage 6: its value once the frequency offset is out and the polarisations are in order, and, for a pilot,
the four bits that the sequence gives it (R143 to R145). -/
structure HeldSymbol where
  value : Quad
  pilot : Option (BitVec 4)
  deriving DecidableEq, Repr

/-- What the stages of a receive chain hold from one sample to the next (R130). -/
structure RxPipe where
  /-- the last ADC samples, which the skew correction still reaches; 06 R132; reset none -/
  raw : List Quad := []
  /-- corrected samples that the resampler's taps still reach, oldest first; 06 R133; reset none -/
  front : List Quad := []
  /-- place of the next output behind the first of them, 40 fractional bits; 06 R133 phase accumulator; reset DESIGN CHOICE
  0, log 12 -/
  acc : Nat := 0
  /-- kernel before the last change and the outputs of the cross-fade so far; 06 R135; reset none -/
  fade : Option (Nat × Nat) := none
  /-- the overlap of the next block; 06 R138; reset none -/
  overlap : List Quad := []
  /-- resampled samples that do not yet fill a block; 06 R138; reset none -/
  fill : List Quad := []
  /-- compensated samples that the equaliser's taps still reach; 06 R141; reset none -/
  bulk : List Quad := []
  /-- place of the next symbol behind the first of them, in fifths of a sample; 06 R141; reset DESIGN CHOICE 0, log 12 -/
  fifth : Nat := 0
  /-- phase, in turns, by which the frequency offset has turned; 06 R143; reset DESIGN CHOICE 0, log 12 -/
  turns : Rat := 0
  /-- the last 4,096 symbols with the offset taken out; 06 R144; reset none -/
  recent : List Quad := []
  /-- the last 64 symbols that have left carrier recovery, as they came; 06 R145; reset none -/
  before : List HeldSymbol := []
  /-- symbols from the last pilot on, not yet recovered; 06 R145; reset none -/
  held : List HeldSymbol := []
  /-- phases of the last pilot left behind, X and Y; 06 R145; reset none -/
  last : Option (Rat × Rat) := none
  /-- the last 1,024 pilots, newest first, true for one in error; 06 R145; reset none -/
  flags : List Bool := []
  /-- pilot errors in the running short interval; 06 R154 PILOT_ERR; reset 0 -/
  errors : Nat := 0
  /-- number of the decoder's chain at whose end the pilot grid has begun anew; 06 R152; reset none -/
  restarted : Option Nat := none
  /-- data symbols recovered that wait for the decoder; 06 R146; reset none -/
  out : List Quad := []
  deriving DecidableEq, Repr

/-- A capture in progress and the request it will answer (R161). -/
structure CaptureJob where
  request : Request
  point : Byte
  count : Nat
  /-- 48 bits; module time of the boundary at which the capture starts -/
  start : BitVec 48
  deriving DecidableEq, Repr

/-- Receiver of an engine (R148 to R165). -/
structure RxState where
  /-- ten codes; 06 R148 STATE; reset OFF -/
  mode : RxMode := .off
  /-- 8 bits; 06 R165 LAST_RELOCK; reset 0 -/
  lastRelock : Byte := 0
  /-- 4 bits; 06 R160 FROZEN; reset 0 -/
  frozen : BitVec 4 := 0
  /-- signed ps/nm; 06 R165 CD_BULK; reset DESIGN CHOICE 0, log 12 -/
  cdBulk : Int := 0
  /-- 32 bits; 06 R165 ACQ_COUNT; reset 0 -/
  acqCount : BitVec 32 := 0
  /-- 32 bits; 06 R165 ACQ_TIME; reset 0 -/
  acqTime : BitVec 32 := 0
  /-- 48 bits; 06 R165 module time of the last entry into FREQ; reset 0 -/
  freqEntry : BitVec 48 := 0
  /-- one bit; 06 R151 the next search is the fast one; reset 0 -/
  fast : Bool := false
  /-- one bit; 06 R137 LINEn offered; reset 0 -/
  lineOffered : Bool := false
  /-- active MIMO tap count; 06 R142 TAPS; reset DESIGN CHOICE 7, log 12 -/
  taps : Nat := 7
  /-- the four filters' taps, unused ones zero; 06 R141; reset DESIGN CHOICE all zero, log 12 -/
  eq : TapSet := noTaps
  /-- 06 R132 offsets, gains, orthogonalisation and adaptive skew learnt; reset DESIGN CHOICE no correction, log 12 -/
  frontEnd : FrontEnd := {}
  /-- 48 bits, 40 of them fractional; 06 R133 ρ; reset DESIGN CHOICE 1, log 12 -/
  rho : BitVec 48 := 0x10000000000
  /-- Hz; 06 R143 carrier offset held; reset DESIGN CHOICE 0, log 12 -/
  carrier : Int := 0
  /-- 06 R144 pilot candidate kept, its count and register those of the next symbol; reset none -/
  grid : Option PilotGrid := none
  /-- DAC samples that come back over the Oxbow loop and wait for the ADCs; 02 R34; reset none -/
  looped : List Quad := []
  /-- 06 R130 what the receive stages hold -/
  pipe : RxPipe := {}
  /-- 06 R139 dispersion search pass in progress; reset none -/
  search : Option CdSearch := none
  /-- one bit; 06 R157 SOP_RATE was above its limit in the last interval; reset 0 -/
  sopFast : Bool := false
  /-- 0 to 2; 06 R153 short intervals that end until the first complete one after a switch has ended; reset 0 -/
  postSwitch : Nat := 0
  monitor : RxMonitor := {}
  /-- up to 65,536 bytes; 06 R161 capture buffer; reset DESIGN CHOICE empty, log 12 -/
  capture : Bytes := []
  /-- 06 R161 a running capture; reset none -/
  capturing : Option CaptureJob := none
  deriving DecidableEq, Repr

/-- State of one ADC slice (R169). -/
inductive SliceMode where
  | active | spare | underTest | retired
  deriving DecidableEq, Repr

/-- One ADC slice or DAC phase of a calibration table (R169, R170). -/
structure Slice where
  /-- four codes; 07 R169; reset ACTIVE for 0 to 239, SPARE for 240 to 255 -/
  mode : SliceMode := .active
  /-- 0 to 239; 07 R169 position; reset p for slice p -/
  pos : Nat := 0
  /-- one bit; 07 R173; reset 0 -/
  marginal : Bool := false
  /-- one bit; 07 R180; reset 0 -/
  fuseFailed : Bool := false
  /-- 8 bits signed; 07 R170; reset the fuse row -/
  offset : BitVec 8 := 0
  /-- 8 bits signed; 07 R170; reset the fuse row -/
  gain : BitVec 8 := 0
  /-- 10 bits signed; 07 R170; reset the fuse row -/
  skew : BitVec 10 := 0
  /-- order in which the slice was last placed in service, 0 never; 07 R174; reset 1 for slices 0 to 239, otherwise 0 -/
  placed : Nat := 0
  deriving DecidableEq, Repr

/-- The 256 slices of an ADC as the fuses give them: positions 0 to 239 in service, 240 to 255 spare (R169, R170);
trims DESIGN CHOICE 0, log 2. -/
def fuseSlices : Vector Slice 256 :=
  Vector.ofFn fun i =>
    if i.val < 240 then { mode := .active, pos := i.val, placed := 1 } else { mode := .spare, pos := 0 }

/-- The four phases of a DAC as the fuses give them (R170); trims DESIGN CHOICE 0, log 2. -/
def fusePhases : Vector Slice 4 := Vector.ofFn fun i => { pos := i.val }

/-- Where an ADC's sequencer stands: no step, the slice under test is measured, the wait, the closing apply is due, or a
step that a stop of the clock or a Gauge hold has discarded, to begin again at its slice (R174, R179). -/
inductive CalPhase where
  | idle | measuring | waiting | closing | discarded
  deriving DecidableEq, Repr

/-- One ADC's calibration sequencer and tables (R168 to R176). -/
structure Adc where
  /-- active calibration table of 256 slices; 07 R168; reset fuse values -/
  active : Vector Slice 256 := fuseSlices
  /-- shadow calibration table; 07 R168; reset equal to the active table -/
  shadow : Vector Slice 256 := fuseSlices
  /-- five codes; 07 R174, R179; reset idle -/
  phase : CalPhase := .idle
  /-- slice under test; 07 R187 UNDER_TEST; reset none -/
  test : Option (Fin 256) := none
  /-- position that the slice under test held; 07 R190; reset none -/
  heldPos : Option Nat := none
  /-- settings with which the running step began, where a commit has replaced them since; 07 R179; reset none -/
  cfg : Option CalConfig := none
  /-- what the closing apply raises: event code and cause; 07 R173, R175; reset none -/
  verdict : Option (BitVec 16 × Byte) := none
  /-- slice last tested; 07 R174; reset 255, so that slice 0 comes first -/
  last : Fin 256 := 255
  /-- 16 bits; 07 R187 SWEEPS; reset 0 -/
  sweeps : BitVec 16 := 0
  /-- one bit; 07 R176 the first sweep has ended; reset 0 -/
  swept : Bool := false
  /-- steps done in the running sweep; 07 R175; reset 0 -/
  steps : Nat := 0
  /-- steps that the running sweep takes; 07 R175; reset 256 -/
  todo : Nat := 256
  /-- 48 bits; 07 R190 module time at which the first sweep started; reset 0 -/
  sweepStart : BitVec 48 := 0
  /-- one bit; 07 R175 spares exhausted; reset 0 -/
  exhausted : Bool := false
  /-- number of placements in service so far; 07 R174; reset 1 -/
  placements : Nat := 1
  deriving DecidableEq, Repr

/-- One DAC's phases (R177). -/
structure Dac where
  /-- active table of four phases; 07 R177; reset fuse values -/
  active : Vector Slice 4 := fusePhases
  /-- shadow table; 07 R168; reset equal to the active table -/
  shadow : Vector Slice 4 := fusePhases
  /-- phase whose result waits for this DAC's apply, with the cause it is marginal for, 0 where it is not; 07 R177, R178;
  reset none -/
  due : Option (Fin 4 × Byte) := none
  /-- 0 to 3; 07 R177 phases measured in the running sweep; reset 0 -/
  measured : Nat := 0
  /-- 48 bits; 07 R190 module time at which the running sweep began; reset none -/
  began : Option (BitVec 48) := none
  /-- 16 bits; 07 R187 SWEEPS; reset 0 -/
  sweeps : BitVec 16 := 0
  /-- one bit; 07 R187 the first sweep has ended; reset 0 -/
  swept : Bool := false
  deriving DecidableEq, Repr

/-- The converters of an engine (R167 to R178). -/
structure CalState where
  /-- four ADCs, XI XQ YI YQ; 07 R167 -/
  adc : Vector Adc 4 := Vector.replicate 4 {}
  /-- four DACs, XI XQ YI YQ; 07 R167 -/
  dac : Vector Dac 4 := Vector.replicate 4 {}
  /-- 0 to 15; 07 R177 DAC phase now measured; reset 0 -/
  dacPhase : Fin 16 := 0
  /-- settings with which the running DAC step began, where a commit has replaced them since; 07 R179; reset none -/
  dacCfg : Option CalConfig := none
  /-- one bit; 07 R179 Gauge hold in force; reset 0 -/
  held : Bool := false
  /-- one bit; 07 R180 the engine's bandgap fuse row or the hub's failed; reset by the fuses -/
  fuseInvalid : Bool := false
  deriving DecidableEq, Repr

/-- Decoder statistics of one interval (R214). -/
structure FecInterval where
  positions : Nat := 0
  uncorr : Nat := 0
  corrected : Nat := 0
  iterations : Nat := 0
  advances : Nat := 0
  bits : Nat := 0
  deriving DecidableEq, Repr

/-- A position in the decoder's window (R202): its LLRs in the order of its coded bits, and what is known of it. -/
structure WindowPosition where
  /-- 8,192 LLRs of −31 to 31 -/
  llr : List Int
  /-- 8,192 flags: known bits, whose LLRs are held -/
  pinned : List Bool
  /-- the same LLRs with the messages of the check rows so far; none before the first -/
  soft : List Int := []
  /-- 7-bit messages of the check rows of this position: for each base row, 256 checks for each of 32 columns -/
  messages : List (List Int) := []
  /-- known bits whose channel hard decision was wrong -/
  known : Nat
  /-- LINE code of its chain -/
  line : Nat
  /-- number of its chain at this receiver -/
  chain : Nat
  /-- its place in its chain, where the chain's start was known -/
  index : Option Nat
  /-- it belongs to a data group -/
  data : Bool
  /-- it is the last position of its group -/
  last : Bool
  /-- matcher block number of its group's first block, counted from a block of cycle index 0 in stream 0 -/
  block : Nat
  /-- FNR of the first frame begun in its chain, in the first data group of a chain whose start was known -/
  chainStart : Option (BitVec 32)
  deriving DecidableEq, Repr

/-- One of the data streams that the de-shaper offers the deframer (R205). -/
structure RxStream where
  /-- bit position of the first bit held -/
  start : Nat := 0
  bits : List Bool := []
  /-- bit ranges that uncorrectable positions carried, first bit and the bit after the last -/
  hurt : List (Nat × Nat) := []
  deriving DecidableEq, Repr

/-- A change of receive chain that is known in advance: the position of frame F in the data stream, the LINE code of the
new chain, and the FNR of the first frame begun in it; once the deframer is out of SYNC, the number of data groups up to
the one that carries that position (R199). -/
structure ChainChange where
  bit : Nat
  groups : Option Nat := none
  line : Nat
  fnr : BitVec 32
  deriving DecidableEq, Repr

/-- Decoder of an engine (R201 to R214). -/
structure FecState where
  /-- one bit; 08 R204 mapping groups aligned; reset 0 -/
  aligned : Bool := false
  /-- data symbols; 08 R215 group offset; reset 0 -/
  offset : Nat := 0
  /-- 0 to 4 or unknown; 08 R205 cycle phase; reset unknown -/
  phase : Option (Fin 5) := none
  /-- 1 to 4, or 0 for none; 08 R208 active I; reset 0, no profile (R213) -/
  iActive : Nat := 0
  /-- 32 bits; 08 R214 CHAIN_FNR; reset 0 -/
  chainFnr : BitVec 32 := 0
  /-- one bit; 08 R201 ET_OFF in force; reset 0 -/
  etOff : Bool := false
  /-- one bit; 08 R211 dLOF came in TRACK: the fraction test runs; reset 0 -/
  testing : Bool := false
  /-- LINE code of the chain whose groups come in; 08 R197; reset 0 -/
  line : Nat := 0
  /-- 08 R198 groups that come in next; reset none -/
  coming : ChainPhase := .idle
  /-- number of the chain that comes in; 08 R197; reset 0 -/
  chain : Nat := 0
  /-- place in its chain of the position that comes in next, where known; 08 R193; reset unknown -/
  index : Option Nat := none
  /-- block number of the data group that comes in next; 08 R205; reset 0 -/
  block : Nat := 0
  /-- first group of a chain is still to come: FNR of the first frame begun in it; 08 R214; reset none -/
  chainStart : Option (BitVec 32) := none
  /-- 08 R199 change of chain known in advance; reset none -/
  change : Option ChainChange := none
  /-- data symbols after carrier recovery that do not yet fill a group; 08 R196; reset none -/
  symbols : List Quad := []
  /-- channel hard decisions of the last ten positions that came in, oldest first; 08 R204, R211; reset none -/
  heard : List (List (BitVec 256)) := []
  /-- positions not yet output, oldest first; 08 R202; reset none -/
  window : List WindowPosition := []
  /-- the last two positions output of the running chain, newest first, 32 blocks each; 08 R193; reset none -/
  before : List (List (BitVec 256)) := []
  /-- decided positions of the group that is being output, in order; 08 R196; reset none -/
  decided : List (List (BitVec 256)) := []
  /-- one bit; 08 R206 a position of that group was uncorrectable; reset 0 -/
  hurt : Bool := false
  /-- five data streams; 08 R205; reset empty -/
  streams : Vector RxStream 5 := Vector.replicate 5 {}
  /-- running interval; 08 R214; reset 0 -/
  now : FecInterval := {}
  /-- last completed interval; 08 R214; reset 0 -/
  last : FecInterval := {}
  /-- uncorrectable positions in the running long interval; 08 R215; reset 0 -/
  longUncorr : Nat := 0
  /-- E and N of R156 over the running long interval; 17 R453; reset 0 -/
  longErrors : Nat := 0
  longBits : Nat := 0
  deriving DecidableEq, Repr

/-- One Brihezu frame as the deframer finds it in a data stream, still scrambled (R216 to R224). -/
structure RxFrame where
  /-- cycle-phase stream, R205 -/
  stream : Fin 5
  /-- bit position of the header in its stream -/
  position : Nat
  /-- frame bits 0 to 63 -/
  header : BitVec 64
  /-- frame bits 64 to 2,047: tiles 0 to 3 without the header -/
  overhead : BitVec 1984
  /-- the bits that follow, up to the end of the longest frame of the profile -/
  rest : List Bool
  /-- bit ranges of its stream that uncorrectable Vangide positions carried (R206) -/
  hurt : List (Nat × Nat)
  /-- instant at which the header crossed the line receive plane, in 1/16 ns of module time -/
  arrival : Nat
  deriving DecidableEq, Repr

/-- Deframer state (R236). -/
inductive DeframerMode where
  | off | hunt | sync
  deriving DecidableEq, Repr

/-- A frame-start candidate of the hunt (R235, R236). -/
structure Candidate where
  stream : Fin 5
  /-- bit position at which the candidate's next header is expected -/
  next : Nat
  fn : BitVec 32
  count : Nat
  /-- OMIT of its last frame was 0 to 4 -/
  omitOk : Bool
  deriving DecidableEq, Repr

/-- A three-frame filter: consecutive bad and good frames (R237). -/
structure Filter where
  bad : Nat := 0
  good : Nat := 0
  deriving DecidableEq, Repr

/-- Deframer of an engine and what it received (R236 to R242, R252). -/
structure Deframer where
  /-- three codes; 09 R236; reset OFF -/
  mode : DeframerMode := .off
  /-- 09 R235 candidates of the hunt; reset none -/
  cands : List Candidate := []
  /-- one bit; 09 R236 ambiguity reported in this hunt; reset 0 -/
  ambiguous : Bool := false
  /-- counter; 09 R236 misses; reset 0 -/
  misses : Nat := 0
  /-- 32 bits; 09 R236 FN expected next; reset 0 -/
  expect : BitVec 32 := 0
  /-- bit position expected next; 09 R235; reset 0 -/
  next : Nat := 0
  /-- one bit; 09 R236 the preceding frame failed OHC; reset 0 -/
  ohcBad : Bool := false
  /-- 32 bits; 04 R92 token of the ABORT that CANN last carried, until it carries something else; reset none -/
  abortSeen : Option (BitVec 32) := none
  /-- 32 bits; 04 R95 token of a responder's commit that has ended here, while the initiator's ABORT may still come; reset
  none -/
  disarmed : Option (BitVec 32) := none
  /-- 32 bits; 09 R236 J noted; reset none -/
  jump : Option (BitVec 32) := none
  /-- 32 bits; 09 R252 FNR; reset DESIGN CHOICE 0, log 12 -/
  fnr : BitVec 32 := 0
  /-- 4 bits; 09 R252 RX_PROFILE; reset DESIGN CHOICE 0, log 12 -/
  rxProfile : BitVec 4 := 0
  /-- 8 bits; 09 R252 RX_LINKID; reset DESIGN CHOICE 0, log 12 -/
  rxLinkid : BitVec 8 := 0
  /-- 4 bits; 09 R252 RX_MAPGEN; reset DESIGN CHOICE 0, log 12 -/
  rxMapgen : BitVec 4 := 0
  /-- the overhead of the last accepted frame; 09 R252; reset DESIGN CHOICE all zero, log 12 -/
  rx : Overhead := {}
  /-- one bit; 09 R237 dLOS; reset 0 -/
  los : Bool := false
  /-- one bit; 09 R237 dLOF; reset 0 -/
  lof : Bool := false
  /-- one bit; 09 R237 dMAP; reset 0 -/
  map : Bool := false
  /-- one bit; 09 R237 dLINK; reset 0 -/
  link : Bool := false
  /-- one bit; 09 R237 dBDI; reset 0 -/
  bdi : Bool := false
  /-- one bit; 09 R237 dTWIN, lower member; reset 0 -/
  twin : Bool := false
  /-- one bit; 09 R240 dLOS preceded by departure; reset 0 -/
  departed : Bool := false
  mapFilter : Filter := {}
  linkFilter : Filter := {}
  bdiFilter : Filter := {}
  twinFilter : Filter := {}
  /-- one bit; 09 R240 frame.far.departing raised for this departure; reset 0 -/
  departing : Bool := false
  /-- 48 bits; 09 R240 module time of the last DEP frame; reset none -/
  lastDep : Option (BitVec 48) := none
  /-- 128 bits; 09 R252 REPLACED; reset 0 -/
  replaced : BitVec 128 := 0
  /-- 32 bits; 09 R252 OHC_FAIL; reset 0 -/
  ohcFail : BitVec 32 := 0
  /-- up to 64 delays in 1/16 ns; 09 R228; reset none -/
  rtd : List Nat := []
  /-- up to 64 differences in 2^-16 ns; 15 R410 θ; reset none -/
  theta : List Int := []
  /-- arrival of the last accepted frame, 1/16 ns; 09 R227; reset none -/
  arrival : Option Nat := none
  /-- one bit each; 09 R241 mismatch of TWIN_TAG, and of ROLE, reported and not cleared; reset 0 -/
  apsTag : Bool := false
  apsRole : Bool := false
  /-- one bit; 09 R245 the last accepted frame carried SC_ENC; reset 0 -/
  lastEnc : Bool := false
  /-- one 23-bit PRBS register a slot, none before its first 23 bits; 02 R35; reset none -/
  prbs : List (BitVec 23) := []
  /-- errored PRBS bits a slot; 02 R35; reset none -/
  prbsErrors : List Nat := []
  deriving DecidableEq, Repr

/-- A copy of one frame waiting in the Twin delay store (R31, R241). -/
structure TwinCopy where
  fn : BitVec 32
  usable : Bool
  arrival : Nat
  /-- module time at which the copy came; 01 R11 T1 of what it carries -/
  came : BitVec 48
  tiles : List Bytes
  /-- the member's receive parameters at the frame: its profile and its map -/
  params : EngineParams
  deriving DecidableEq, Repr

/-- Side channel of an engine (R243 to R246). -/
structure SideChannel where
  /-- bytes sampled with VALID = 1 and the module time of their slot; 09 R244; reset empty -/
  ingress : List (BitVec 48 × Byte) := []
  /-- up to 8 bytes; 09 R244; reset empty -/
  egress : List Byte := []
  /-- byte and VALID now on SCn_RXD; 09 R243; reset VALID 0 -/
  rxd : Option Byte := none
  /-- 16 bits; 09 R252 SC_SLIPS; reset 0 -/
  slips : BitVec 16 := 0
  /-- slips in the running long interval; 09 R253; reset 0 -/
  longSlips : Nat := 0
  /-- one bit; 09 R246 key absent; reset 0 -/
  keyAbsent : Bool := false
  /-- 16 bytes; 09 R245 transmit shift register, none outside a cipher run; reset none -/
  txShift : Option Bytes := none
  /-- 16 bytes; 09 R245 receive shift register; reset none -/
  rxShift : Option Bytes := none
  deriving DecidableEq, Repr

/-- Slot accounts of one engine in a direction are collector counters; the Twin pair state lives with its lower
member (R241, R242, R32). -/
structure TwinState where
  /-- 0 none, 1 lower, 2 higher; 09 R252 SELECTED; reset 0 -/
  selected : Fin 3 := 0
  /-- changes of selection in the running short interval; 09 R242; reset 0 -/
  changes : Nat := 0
  /-- signed 1/16 ns; 09 R252 TWIN_SKEW; reset 0 -/
  skew : Int := 0
  /-- one bit; 02 R32 the later member is not selectable; reset 0 -/
  tooFar : Bool := false
  /-- one bit each; 09 R225 the copies of the last frame were usable, lower and higher member; reset 0 -/
  lowerOk : Bool := false
  higherOk : Bool := false
  /-- 1 lower, 2 higher; 09 R253 the member usable first in the running series of usable frames; reset 0 -/
  firstOk : Fin 3 := 0
  /-- copies waiting, lower member; 02 R31; reset empty -/
  lower : List TwinCopy := []
  /-- copies waiting, higher member; 02 R31; reset empty -/
  higher : List TwinCopy := []
  /-- 32 bits; 02 R32, R36 number of the frame last delivered to the lower member's lane group; reset none -/
  lastFn : Option (BitVec 32) := none
  deriving DecidableEq, Repr

/-- A paired commit that the engine has completed as initiator: a late ABORT still raises commit.split (R96, R97). -/
structure PairDone where
  token : BitVec 32
  id : Nat
  applied : BitVec 4
  ref : Eng
  deriving DecidableEq, Repr

/-- One wavelength engine. -/
structure Engine where
  params : Staged EngineParams := ⟨{}, {}⟩
  /-- 04 R96 old values on which the later side of a paired commit still runs; reset none -/
  later : Option (HeldSide × EngineParams) := none
  /-- 04 R96, R97 last paired commit completed as initiator while the far end may still send ABORT; reset none -/
  pairDone : Option PairDone := none
  /-- one bit; 01 R6 tile failed; reset 0 -/
  tileFailed : Bool := false
  tx : TxState := {}
  rx : RxState := {}
  cal : CalState := {}
  fec : FecState := {}
  deframer : Deframer := {}
  sc : SideChannel := {}
  twin : TwinState := {}
  /-- 1 to 4; 17 R452 I_LIMIT; reset 4 -/
  iLimit : Nat := 4
  /-- 7 to 31; 17 R452 TAP_LIMIT; reset 31 -/
  tapLimit : Nat := 31
  /-- the limits computed by the last readings, newest first, up to 64; 17 R452; reset empty -/
  iComputed : List Nat := []
  tapComputed : List Nat := []
  /-- 0.01 dB; 17 R453 TAP_PENALTY; reset 0 -/
  tapPenalty : BitVec 16 := 0
  /-- 16 bits; 08 R209 MARGIN_USED; reset 0 -/
  marginUsed : BitVec 16 := 0
  /-- one bit; 17 R463 a throttle change awaits its event in this short interval; reset 0 -/
  throttled : Bool := false
  deriving DecidableEq, Repr

end Sys2Proof.Machine
end

