-- ==== Sys2Proof/Machine/Bytes.lean ====
section
/-! DEFINITION. Big-endian fields of byte strings (R3) and the two checks the module computes over bytes: the CRC-32
of R45 and the CRC-16 of R218. -/

namespace Sys2Proof.Machine

/-- The unsigned value of a big-endian byte string (R3). -/
def beValue (b : Bytes) : Nat := b.foldl (fun a x => a * 256 + x.toNat) 0

/-- The field of `n` bytes at offset `o`, big-endian; bytes past the end count as absent. -/
def field (b : Bytes) (o n : Nat) : Nat := beValue ((b.drop o).take n)

/-- One-byte field. -/
def u8 (b : Bytes) (o : Nat) : BitVec 8 := BitVec.ofNat 8 (field b o 1)
/-- Two-byte field. -/
def u16 (b : Bytes) (o : Nat) : BitVec 16 := BitVec.ofNat 16 (field b o 2)
/-- Four-byte field. -/
def u32 (b : Bytes) (o : Nat) : BitVec 32 := BitVec.ofNat 32 (field b o 4)
/-- Six-byte field. -/
def u48 (b : Bytes) (o : Nat) : BitVec 48 := BitVec.ofNat 48 (field b o 6)
/-- Eight-byte field. -/
def u64 (b : Bytes) (o : Nat) : BitVec 64 := BitVec.ofNat 64 (field b o 8)

/-- `n` bytes, big-endian, of a natural number (its low 8n bits). -/
def beBytes : Nat → Nat → Bytes
  | 0, _ => []
  | n + 1, v => beBytes n (v / 256) ++ [BitVec.ofNat 8 (v % 256)]

/-- `n` bytes, big-endian, of a bit vector. -/
def be {w : Nat} (n : Nat) (v : BitVec w) : Bytes := beBytes n v.toNat

/-- `n` zero bytes. -/
def zeros (n : Nat) : Bytes := List.replicate n 0

/-- The `n` bytes from offset `o` are all present and zero (R5). -/
def zeroAt (b : Bytes) (o n : Nat) : Bool := ((b.drop o).take n).all (· == 0)

/-- The `n` bytes from offset `o`. -/
def slice (b : Bytes) (o n : Nat) : Bytes := (b.drop o).take n

/-- Exactly `n` bytes: cut, or padded with zeros. -/
def fit (n : Nat) (b : Bytes) : Bytes := (b.take n) ++ zeros (n - b.length)

/-- One bit as a number. -/
def bit (b : Bool) (i : Nat) : Nat := if b then 2 ^ i else 0

/-- One byte from a number. -/
def byte (n : Nat) : Byte := BitVec.ofNat 8 n

/-- The lower of a value and the largest that `w` bits hold: a saturating field. -/
def sat (w n : Nat) : BitVec w := BitVec.ofNat w (min n (2 ^ w - 1))

/-- Add one, saturating. -/
def bump {w : Nat} (v : BitVec w) : BitVec w := if v == BitVec.allOnes w then v else v + 1

/-- A signed number clipped to what `w` bits hold. -/
def satInt (w : Nat) (i : Int) : BitVec w :=
  BitVec.ofInt w (max (-(2 ^ (w - 1) : Int)) (min i (2 ^ (w - 1) - 1)))

/-- Byte-wise exclusive or. -/
def xorBytes (a b : Bytes) : Bytes := List.zipWith (· ^^^ ·) a b

/-- Cut a byte string into blocks of `n`, the last one possibly short; at most `fuel` blocks. -/
def blocks (n : Nat) : Nat → Bytes → List Bytes
  | 0, _ => []
  | fuel + 1, b => if b.isEmpty then [] else b.take n :: blocks n fuel (b.drop n)

/-- One bit of the reflected CRC-32 register (R45). -/
def crc32Bit (c : BitVec 32) : BitVec 32 :=
  if c.getLsbD 0 then (c >>> 1) ^^^ 0xEDB88320#32 else c >>> 1

/-- One byte of the reflected CRC-32 (R45). -/
def crc32Byte (c : BitVec 32) (b : Byte) : BitVec 32 :=
  (List.range 8).foldl (fun c _ => crc32Bit c) (c ^^^ b.setWidth 32)

/-- CRC-32 of R45: polynomial 0x04C1_1DB7 reflected, initial value and final XOR all ones. -/
def crc32 (b : Bytes) : BitVec 32 := b.foldl crc32Byte 0xFFFFFFFF#32 ^^^ 0xFFFFFFFF#32

end Sys2Proof.Machine
end

