-- ==== Sys2Proof/Machine/Profiles.lean ====
section
/-! DEFINITION. The line profiles as tables and exact arithmetic: rate and baud (R25), decoder defaults and design
limits (R26, R207), receiver defaults and dispersion search (R138, R139, R164), the delay store (R31). -/

namespace Sys2Proof.Machine

/-- One line profile: every figure the tables of R25, R26, R101, R105, R139, R164, R198 bind. -/
structure Profile where
  slots : Nat
  /-- label bits m per 2-D symbol -/
  m : Nat
  /-- base rows M of the code -/
  rows : Nat
  /-- b of R25, information bits per dual-polarisation symbol, times 10^8 -/
  bits8 : Nat
  /-- symbol rate in GBd, exact -/
  baudNum : Nat
  baudDen : Nat
  positions : Nat
  ns : Nat
  counts : List Nat
  ks : List Nat
  /-- mean energy per dimension E of R105, in 1/32 -/
  energy32 : Nat
  window : Nat
  iters : Nat
  /-- R27 range in ps/nm -/
  cdRange : Nat
  coarse : Nat
  fine : Nat
  kernel : Nat
  taps : Nat
  cprAvg : Nat
  trBw : Nat
  deriving DecidableEq, Repr

/-- The six line profiles, by LINE code (R22); none for 0x0 and the reserved codes. -/
def profileOf : Nat → Option Profile
  | 1 => some { slots := 128, m := 8, rows := 4, bits8 := 1141875000, baudNum := 520000, baudDen := 1827,
                positions := 1, ns := 1024, counts := [148, 130, 99, 66, 38, 19, 8, 4],
                ks := [1228, 1229, 1229, 1229, 1229], energy32 := 916, window := 12, iters := 2, cdRange := 3000, coarse := 100,
                fine := 5, kernel := 1, taps := 15, cprAvg := 32, trBw := 3 }
  | 2 => some { slots := 96, m := 6, rows := 4, bits8 := 876093750, baudNum := 1568000, baudDen := 5607,
                positions := 3, ns := 4096, counts := [240, 170, 80, 22],
                ks := [819, 819, 819, 819, 820], energy32 := 303, window := 12, iters := 2, cdRange := 12000, coarse := 200,
                fine := 10, kernel := 2, taps := 19, cprAvg := 24, trBw := 3 }
  | 3 => some { slots := 64, m := 4, rows := 4, bits8 := 580781250, baudNum := 1056000, baudDen := 3717,
                positions := 1, ns := 2048, counts := [404, 108],
                ks := [371, 371, 371, 371, 372], energy32 := 86, window := 12, iters := 2, cdRange := 30000, coarse := 400,
                fine := 20, kernel := 1, taps := 23, cprAvg := 16, trBw := 3 }
  | 4 => some { slots := 32, m := 4, rows := 6, bits8 := 383906250, baudNum := 544000, baudDen := 2457,
                positions := 1, ns := 2048, counts := [476, 36],
                ks := [179, 179, 179, 179, 180], energy32 := 50, window := 12, iters := 2, cdRange := 100000, coarse := 1000,
                fine := 50, kernel := 3, taps := 31, cprAvg := 16, trBw := 3 }
  | 5 => some { slots := 32, m := 4, rows := 3, bits8 := 575859375, baudNum := 1088000, baudDen := 7371,
                positions := 1, ns := 2048, counts := [422, 90],
                ks := [332, 333, 333, 333, 333], energy32 := 77, window := 4, iters := 2, cdRange := 12000, coarse := 200,
                fine := 10, kernel := 4, taps := 11, cprAvg := 8, trBw := 4 }
  | 6 => some { slots := 32, m := 4, rows := 4, bits8 := 689062500, baudNum := 54400, baudDen := 441,
                positions := 1, ns := 2048, counts := [],
                ks := [], energy32 := 160, window := 12, iters := 1, cdRange := 12000, coarse := 200,
                fine := 10, kernel := 5, taps := 15, cprAvg := 12, trBw := 3 }
  | _ => none

/-- Mean energy per dimension E (R105). -/
def Profile.energy (p : Profile) : Rat := mkRat p.energy32 32

/-- S of a LINE code, zero when it names no profile. -/
def slotsOf (line : Nat) : Nat := match profileOf line with | some p => p.slots | none => 0

/-- Tile duration in ns: 163.84 / (16 + 8S) (R217). -/
def tileTime (line : Nat) : Rat := mkRat 16384 (100 * (16 + 8 * slotsOf line))

/-- Symbol periods per frame: the bits of a full frame over b (R25). -/
def periodsPerFrame (p : Profile) : Rat := mkRat ((16 + 8 * p.slots) * 512 * 100000000) p.bits8

/-- Fixed groups at a chain's start, and at its end (R198): one group of Cascade's three positions each way, otherwise
one start group and two termination groups. -/
def startGroups (_line : Nat) : Nat := 1
/-- Fixed groups at a chain's end (R198). -/
def endGroups (line : Nat) : Nat := if line == 2 then 1 else 2

/-- Rows of the design-limit table for one rate: W with the limits at I = 1 to 4, in 10^-4 (R207). -/
def limitRows (rows : Nat) : List (Nat × List Nat) :=
  if rows == 3 then [(4, [70, 90, 98, 102]), (8, [90, 115, 122, 126]), (12, [100, 125, 131, 135]),
    (16, [103, 128, 134, 138])]
  else if rows == 4 then [(4, [115, 145, 156, 162]), (8, [145, 185, 195, 201]), (12, [160, 200, 209, 215]),
    (16, [164, 205, 214, 220])]
  else [(4, [205, 250, 268, 278]), (8, [260, 315, 330, 338]), (12, [285, 340, 353, 360]), (16, [292, 348, 361, 368])]

/-- The design limit of R207 in 1/40,000: linear interpolation between the listed windows, which lie four apart. -/
def limit40k (rows w i : Nat) : Nat :=
  let at_ := fun (k : Nat) => (((limitRows rows).getD k (0, [])).2).getD (i - 1) 0
  let k := (w - 4) / 4
  let f := (w - 4) % 4
  at_ k * (4 - f) + at_ (k + 1) * f

/-- Allotment A in frames and usable delay U of a Twin pair (R31). -/
def delayStore (bothPairs : Bool) (slots : Nat) : Nat × Nat :=
  let a := (if bothPairs then 67108864 else 134217728) / (4096 * slots)
  (a, a * 61 / 64)

/-- Constellation amplitude levels: 1, 3, 5 and on, one for each half level of PAM (R107). -/
def levels (m : Nat) : List Nat := (List.range (2 ^ (m / 2 - 1))).map fun i => 2 * i + 1

/-- Gray label of amplitude level `a` (0 for amplitude 1) of 2^(m/2 − 1) levels, as a number: the reflected Gray code
of the PAM level with its sign bit removed (R107). -/
def grayLabel (m a : Nat) : Nat :=
  let half := 2 ^ (m / 2 - 1)
  let g := half + a
  (g ^^^ (g / 2)) % half

/-- Amplitude level of a Gray label. -/
def grayLevel (m label : Nat) : Nat :=
  ((List.range (2 ^ (m / 2 - 1))).find? fun a => grayLabel m a == label).getD 0

end Sys2Proof.Machine
end

