-- ==== Sys2Proof/Machine/LineCode.lean ====
section
/-! DEFINITION. From data stream to symbols: the shaping matcher (R105, R106), pilots (R108, R109), the Vangide
encoder (R191 to R196), the chain's groups (R197 to R200) and the Oxbow patterns (R124). -/

namespace Sys2Proof.Machine

/-- The number spelt by bits, the first one most significant. -/
def bitsValue (b : List Bool) : Nat := b.foldl (fun a x => 2 * a + x.toNat) 0

/-- The `w` low bits of a number, most significant first (R217). -/
def natBits : Nat → Nat → List Bool
  | 0, _ => []
  | w + 1, v => v.testBit w :: natBits w v

/-! ## Shaping matcher -/

/-- n! / the product of the factorials of the counts (R106). -/
def multinomial (ns : List Nat) : Nat :=
  let fact := fun (n : Nat) => (List.range n).foldl (fun a i => a * (i + 1)) 1
  fact ns.sum / (ns.map fact).foldl (· * ·) 1

/-- Number of sequences that start with each level, in order of level: the counts lowered by one, or nothing where a
level is used up. -/
def lowered (ns : List Nat) (a : Nat) : Option (List Nat) :=
  match ns.getD a 0 with
  | 0 => none
  | k + 1 => some (ns.set a k)

/-- The level that sequence number `v` has at its first place, with what is left of `v` (R106): levels are tried from
`a` upward, `todo` of them. -/
def pickLevel (ns : List Nat) : Nat → Nat → Nat → Nat × Nat
  | 0, a, v => (a, v)
  | todo + 1, a, v =>
    match lowered ns a with
    | none => pickLevel ns todo (a + 1) v
    | some ms => if v < multinomial ms then (a, v) else pickLevel ns todo (a + 1) (v - multinomial ms)

/-- Sequence number `v` of a composition, in lexicographic order (R106). -/
def unrank : Nat → List Nat → Nat → List Nat
  | 0, _, _ => []
  | n + 1, ns, v =>
    let r := pickLevel ns ns.length 0 v
    r.1 :: unrank n ((lowered ns r.1).getD ns) r.2

/-- The number of a sequence of levels among those of its composition: the de-shaper's inverse (R106). -/
def rank : List Nat → List Nat → Nat
  | _, [] => 0
  | ns, a :: rest =>
    ((List.range a).map fun b => match lowered ns b with | none => 0 | some ms => multinomial ms).sum
      + rank ((lowered ns a).getD ns) rest

/-- Levels of one matcher block from its bits; Still reads labels directly (R105). -/
def shapeBlock (p : Profile) (bits : List Bool) : List Nat :=
  if p.counts.isEmpty then bits.map fun b => grayLevel p.m b.toNat
  else unrank 512 p.counts (bitsValue bits)

/-- Input bits of block `j` of a chain (R105). -/
def blockBits (p : Profile) (j : Nat) : Nat := if p.counts.isEmpty then 512 else p.ks.getD (j % 5) 0

/-! ## Pilots -/

/-- One step of the pilot register: the output bit and the register after it (R109). -/
def pilotStep (s : BitVec 15) : Bool × BitVec 15 :=
  (s.getLsbD 14, (s <<< 1) ||| (BitVec.ofBool (s.getLsbD 14 ^^ s.getLsbD 13)).setWidth 15)

/-- `n` pilot bits and the register after them. -/
def pilotBits : Nat → BitVec 15 → List Bool × BitVec 15
  | 0, s => ([], s)
  | n + 1, s =>
    let r := pilotStep s
    let rest := pilotBits n r.2
    (r.1 :: rest.1, rest.2)

/-! ## The Vangide encoder -/

/-- Shift of the circulant at row `i`, column `j` (R192); it lies in component (i + j) mod 3. -/
def shiftOf (i j : Nat) : Nat := (17 * i * (j + 1) * (2 * ((i + j) % 3) + 1) + 29 * j) % 256

/-- Parity columns of a code with `rows` base rows (R194). -/
def parityColumns (rows : Nat) : List Nat :=
  if rows == 3 then [29, 30, 31] else if rows == 4 then [27, 29, 30, 31] else [26, 27, 28, 29, 30, 31]

/-- Information columns, ascending (R194). -/
def infoColumns (rows : Nat) : List Nat := (List.range 32).filter fun c => !(parityColumns rows).contains c

/-- The parity column or pair of columns of each row with its shifts (R194): single rows first, then pairs
(i, i + 3, a, d). -/
def singleRows (rows : Nat) : List (Nat × Nat) :=
  if rows == 3 then [(0, 30), (1, 29), (2, 31)] else if rows == 4 then [(1, 29), (2, 31)] else []
/-- Row pairs and their two parity columns (R194). -/
def rowPairs (rows : Nat) : List (Nat × Nat × Nat) :=
  if rows == 3 then [] else if rows == 4 then [(0, 27, 30)] else [(0, 27, 30), (1, 26, 29), (2, 28, 31)]

/-- The block of a position at a column; virtual positions are zero (R193). -/
def blockAt (x : List (BitVec 256)) (j : Nat) : BitVec 256 := x.getD j 0

/-- What row `i` of component `t` contributes from a position, over the columns that `keep` admits (R192). -/
def rowSum (t i : Nat) (x : List (BitVec 256)) (keep : Nat → Bool) : BitVec 256 :=
  (List.range 32).foldl (fun a j =>
    if (i + j) % 3 == t && keep j then a ^^^ (blockAt x j).rotateRight (shiftOf i j) else a) 0

/-- The syndrome y_i of R195: every term but the present position's parity. -/
def syndrome (rows i : Nat) (x x1 x2 : List (BitVec 256)) : BitVec 256 :=
  rowSum 0 i x (fun j => !(parityColumns rows).contains j) ^^^ rowSum 1 i x1 (fun _ => true)
    ^^^ rowSum 2 i x2 (fun _ => true)

/-- The walk of R195 over column d: 255 steps of 103 from bit 255, which stays 0. -/
def walkColumn (z : BitVec 256) : Nat → Nat → BitVec 256 → BitVec 256
  | 0, _, xd => xd
  | n + 1, q, xd =>
    let q' := (q + 103) % 256
    walkColumn z n q' (if xd.getLsbD q ^^ z.getLsbD q then xd ||| (1#256 <<< q') else xd)

/-- Parity of a pair of rows: columns a and d (R195). -/
def pairParity (yi yi' : BitVec 256) (i a d : Nat) : BitVec 256 × BitVec 256 :=
  let i' := i + 3
  let z := yi'.rotateLeft (shiftOf i' d)
    ^^^ yi.rotateLeft ((shiftOf i' d + 256 - shiftOf i' a + shiftOf i a) % 256)
  let xd := walkColumn z 255 255 0
  (yi.rotateLeft (shiftOf i a) ^^^ xd.rotateLeft ((shiftOf i a + 256 - shiftOf i d) % 256), xd)

/-- Complete a position whose information columns are set (R195). -/
def encodePosition (rows : Nat) (x x1 x2 : List (BitVec 256)) : List (BitVec 256) :=
  let y := fun i => syndrome rows i x x1 x2
  let x' := (singleRows rows).foldl (fun v r => v.set r.2 ((y r.1).rotateLeft (shiftOf r.1 r.2))) x
  (rowPairs rows).foldl (fun v r =>
    let p := pairParity (y r.1) (y (r.1 + 3)) r.1 r.2.1 r.2.2
    (v.set r.2.1 p.1).set r.2.2 p.2) x'

/-- A 256-bit block from bits, bit 0 first. -/
def blockOf (b : List Bool) : BitVec 256 :=
  BitVec.ofNat 256 (b.reverse.foldl (fun a x => 2 * a + x.toNat) 0)

/-- Bits of a block, bit 0 first. -/
def blockBitsOf (v : BitVec 256) : List Bool := (List.range 256).map v.getLsbD

/-- Cut a list into pieces of `n`; at most `fuel` of them. -/
def chunks {α : Type} (n : Nat) : Nat → List α → List (List α)
  | 0, _ => []
  | fuel + 1, l => if l.isEmpty then [] else l.take n :: chunks n fuel (l.drop n)

/-- Place information bits into a position's information columns (R196). -/
def placeInfo (rows : Nat) (bits : List Bool) : List (BitVec 256) :=
  ((infoColumns rows).zip (chunks 256 32 bits)).foldl (fun v cb => v.set cb.1 (blockOf cb.2)) (List.replicate 32 0)

/-- Encode the positions of a group: the parity sequence and the two last positions (R102, R195, R196). -/
def encodeGroup (rows : Nat) : List (List Bool) → List (BitVec 256) → List (BitVec 256) →
    List Bool × List (BitVec 256) × List (BitVec 256)
  | [], x1, x2 => ([], x1, x2)
  | info :: rest, x1, x2 =>
    let x := encodePosition rows (placeInfo rows info) x1 x2
    let parity := ((parityColumns rows).map fun c => blockBitsOf (blockAt x c)).flatten
    let r := encodeGroup rows rest x x1
    (parity ++ r.1, r.2)

/-! ## Groups -/

/-- Data symbols of a group: amplitude and sign 4d + q belong to symbol d, quadrant q (R103). -/
def assemble (levels : List Nat) (signs : List Bool) : List Symbol :=
  let vals := (levels.zip signs).map fun (a, s) => if s then ((2 * a + 1 : Nat) : Int) else -((2 * a + 1 : Nat) : Int)
  (chunks 4 (vals.length / 4 + 1) vals).filterMap fun c =>
    match c with
    | [a, b, x, y] => some (Symbol.data a b x y)
    | _ => none

/-- Amplitude levels, sign-information bits and data bits taken by a data group that starts at block `j` (R102). -/
def dataBlocks (p : Profile) : Nat → Nat → List Bool → List Nat × List Bool
  | 0, _, st => ([], st)
  | n + 1, j, st =>
    let k := blockBits p j
    let r := dataBlocks p n (j + 1) (st.drop k)
    (shapeBlock p (st.take k) ++ r.1, r.2)

/-- Matcher blocks per group (R101). -/
def blocksPerGroup (p : Profile) : Nat := 2 * p.ns / 512

/-- Sign-information bits per group, S of R101. -/
def signInfo (p : Profile) : Nat := p.ns * 2 - p.positions * p.rows * 256

/-- Data bits that the group starting at block `j` takes. -/
def groupBits (p : Profile) (j : Nat) : Nat :=
  ((List.range (blocksPerGroup p)).map fun i => blockBits p (j + i)).sum + signInfo p

/-- Send a group with the given levels and sign-information bits: encode, assemble, queue its symbols (R102, R103). -/
def TxChain.sendGroup (c : TxChain) (p : Profile) (levels : List Nat) (info : List Bool) : TxChain :=
  let labels := (levels.map fun a => natBits (p.m / 2 - 1) (grayLabel p.m a)).flatten
  let per := (32 - p.rows) * 256
  let e := encodeGroup p.rows (chunks per p.positions (labels ++ info)) c.prev1 c.prev2
  { c with prev1 := e.2.1, prev2 := e.2.2, waiting := c.waiting ++ assemble levels (info ++ e.1) }

/-- Content of a fixed group (R198). -/
def TxChain.sendFixed (c : TxChain) (p : Profile) : TxChain :=
  let alternating := fun n => (List.range n).map fun i => i % 2 == 0
  let lv := if p.counts.isEmpty then (alternating (512 * blocksPerGroup p)).map fun b => grayLevel p.m b.toNat
    else (List.replicate (blocksPerGroup p) (unrank 512 p.counts 0)).flatten
  c.sendGroup p lv (alternating (signInfo p))

/-- Begin a chain on a profile: counters and pilots restart (R104, R109, R193). -/
def TxChain.begin (c : TxChain) (line : Nat) : TxChain :=
  { c with phase := .opening (startGroups line), line := line, block := 0, period := 0, lfsr := 0x2D2D, prev1 := [],
           prev2 := [], waiting := [], past := [], stopAfter := none, nextLine := none, closeAt := none }

/-- Take one data group from the stream.  At a chain change it is the last one when it carries the first bit of the
frame of the change (R199). -/
def TxChain.takeData (c : TxChain) (p : Profile) : TxChain :=
  let g := groupBits p c.block
  if c.stream.length < g then c
  else
    let n := blocksPerGroup p
    let r := dataBlocks p n c.block c.stream
    let c' := { c.sendGroup p r.1 (r.2.take (signInfo p)) with
      stream := r.2.drop (signInfo p), block := c.block + n }
    match c.stopAfter with
    | none => c'
    | some k => if k < g then { c' with phase := .closing (endGroups c.line), stopAfter := none }
                else { c' with stopAfter := some (k - g) }

/-- Send the next group, when the chain has one to send: a fixed group, or a data group if the stream holds its bits.
After its termination groups a chain stops or is followed by the next one. -/
def TxChain.nextGroup (c : TxChain) (p : Profile) : TxChain :=
  match c.phase with
  | .idle => c
  | .opening n => { c.sendFixed p with phase := if n ≤ 1 then .data else .opening (n - 1) }
  | .data => c.takeData p
  | .closing n =>
    let c' := { c.sendFixed p with closeAt := some (c.closeAt.getD c.period) }
    if n ≤ 1 then { c' with phase := .idle } else { c' with phase := .closing (n - 1) }

/-- The symbol of the next period: a pilot when t mod 64 = 0, otherwise the next data symbol (R108).  When a chain has
sent its last symbol the next one begins at once (R114). -/
def TxChain.nextSymbol (c : TxChain) (p : Profile) : TxChain :=
  let fill := mkRat p.baudDen p.baudNum
  if c.period % 64 == 0 then
    let b := pilotBits 4 c.lfsr
    let q := fun i => b.1.getD i false
    { c with period := c.period + 1, lfsr := b.2, time := c.time - fill,
             sent := c.sent ++ [.pilot p.energy32 (q 0) (q 1) (q 2) (q 3)] }
  else
    let c := if c.waiting.isEmpty then c.nextGroup p else c
    match c.waiting with
    | [] => c
    | d :: rest => { c with period := c.period + 1, waiting := rest, time := c.time - fill, sent := c.sent ++ [d] }

/-- Duration in ns of symbol periods of a profile (R25). -/
def periodsTime (line n : Nat) : Rat := match profileOf line with | none => 0 | some p => mkRat (n * p.baudDen) p.baudNum

/-- Symbol periods of the start groups of a chain, which begins with a pilot (R198, R200). -/
def startPeriods (line : Nat) : Nat :=
  match profileOf line with
  | none => 0
  | some p => let data := startGroups line * p.ns / 2
              data + (data + 62) / 63

/-- The lag account of R222 at a chain start on a profile, after `ended` periods of the old chain's termination groups:
Δ counts both with their interleaved pilots (R200).  Tiles still owed by an earlier start return to L first (R247). -/
def TxChain.account (c : TxChain) (line ended : Nat) : TxChain :=
  let delta := periodsTime c.line ended + periodsTime line (startPeriods line)
  let lag := c.lag + (c.owed : Rat) * c.tile + delta
  let d := tileTime line
  let e := (lag / d).ceil.toNat
  { c with lag := lag - (e : Rat) * d, owed := e, tile := d }

/-- The next chain begins where the termination groups of the old one end (R199, R222); the filters do not run across the
boundary (R114). -/
def TxChain.follow (c : TxChain) (line : Nat) : TxChain :=
  { (c.account line (match c.closeAt with | some t => c.period - t | none => 0)).begin line with
    ended := some (c.sent.length, c.line, c.period, c.past) }

/-- A frame's time begins: what the running chain sent in the last one becomes its past. -/
def TxChain.turn (c : TxChain) : TxChain :=
  { c with
    past := match c.ended with | some v => c.sent.drop v.1 | none => c.sent
    sent := [], ended := none }

/-- Fill the line time that is due with symbol periods, at most `n` of them. -/
def TxChain.run : Nat → TxChain → TxChain
  | 0, c => c
  | n + 1, c =>
    let c := match c.phase, c.waiting, c.nextLine with
      | .idle, [], some l => c.follow l
      | _, _, _ => c
    let stopped := c.phase == .idle && c.waiting.isEmpty
    match profileOf c.line with
    | none => c
    | some p => if stopped || c.time < mkRat p.baudDen p.baudNum then c else TxChain.run n (c.nextSymbol p)

/-- One frame's time on the line: the stream grows by the frame's bits and the periods of 163.84 ns are sent, at
exactly the profile's baud (R25, R216). -/
def TxChain.frame (c : TxChain) (bits : List Bool) : TxChain :=
  TxChain.run 47000 { c.turn with stream := c.stream ++ bits, time := c.time + mkRat 16384 100 }

/-- Start a chain at an enable (R120, R197). -/
def TxChain.start (c : TxChain) (line : Nat) : TxChain :=
  ({ c.account line 0 with stream := [], time := 0, sent := [], ended := none } : TxChain).begin line

/-- A committed change of profile on a running chain: termination, then the new chain (R197, R199, R222). -/
def TxChain.change (c : TxChain) (line : Nat) : TxChain :=
  match c.phase with
  | .idle => c.start line
  | _ => { c with stopAfter := some c.stream.length, nextLine := some line }

/-- End a chain with termination (R197). -/
def TxChain.finish (c : TxChain) : TxChain :=
  match c.phase with
  | .idle => c
  | _ => { c with phase := .closing (endGroups c.line), stopAfter := none, nextLine := none, closeAt := none }

/-- End a chain without termination (R197, R211). -/
def TxChain.cut (c : TxChain) : TxChain :=
  { c with
    phase := .idle, waiting := [], stream := [], sent := [], past := [], ended := none, stopAfter := none,
    nextLine := none, closeAt := none }

/-- One frame's time of a chain whose transmitter has stopped: what it still has to send (R197). -/
def TxChain.trail (c : TxChain) : TxChain :=
  if c.phase == .idle && c.waiting.isEmpty then { c with sent := [], past := [], ended := none } else c.frame []

/-! ## Oxbow patterns -/

/-- The value of one quadrant of uniform square QAM from its m/2 bits: sign bit first, then the label (R107, R124). -/
def qamValue (m bits : Nat) : Int :=
  let half := 2 ^ (m / 2 - 1)
  let a := ((2 * grayLevel m (bits % half) + 1 : Nat) : Int)
  if bits ≥ half then a else -a

/-- The symbol of period `t` of an Oxbow pattern, and the pilot register after it (R124).  Pattern 0x2 takes m bits a
polarisation from the register, most significant first; 0x9 steps through the labels of both dimensions.  The rule gives
no phase for 0x7 to 0x9: they follow the period counter, carried on from the chain that ended, 0x7 and 0x8 with the
positive level in even runs, so a first run can be short (log 15). -/
def patternSymbol (p : Profile) (pattern t : Nat) (reg : BitVec 15) : Symbol × BitVec 15 :=
  let outer : Int := ((2 ^ (p.m / 2) - 1 : Nat) : Int)
  match pattern with
  | 1 => let b := pilotBits 4 reg
         (.pilot p.energy32 (b.1.getD 0 false) (b.1.getD 1 false) (b.1.getD 2 false) (b.1.getD 3 false), b.2)
  | 2 => let b := pilotBits (2 * p.m) reg
         let h := p.m / 2
         let q := fun i => qamValue p.m (bitsValue ((b.1.drop (i * h)).take h))
         (.data (q 0) (q 1) (q 2) (q 3), b.2)
  | 3 => let b := pilotStep reg
         (.data (if b.1 then outer else -outer) 0 0 0, b.2)
  | 4 => let b := pilotStep reg
         (.data 0 (if b.1 then outer else -outer) 0 0, b.2)
  | 5 => let b := pilotStep reg
         (.data 0 0 (if b.1 then outer else -outer) 0, b.2)
  | 6 => let b := pilotStep reg
         (.data 0 0 0 (if b.1 then outer else -outer), b.2)
  | 7 => let v := if t % 2 == 0 then outer else -outer
         (.data v v v v, reg)
  | 8 => let v := if t / 512 % 2 == 0 then outer else -outer
         (.data v v v v, reg)
  | 9 => let l := t / 64 % 2 ^ p.m
         let i := qamValue p.m (l / 2 ^ (p.m / 2))
         let q := qamValue p.m (l % 2 ^ (p.m / 2))
         (.data i q i q, reg)
  | _ => (.data 0 0 0 0, reg)

/-- `n` periods of an Oxbow pattern. -/
def TxChain.pattern (p : Profile) (pat : Nat) : Nat → TxChain → TxChain
  | 0, c => c
  | n + 1, c =>
    let r := patternSymbol p pat c.period c.lfsr
    TxChain.pattern p pat n { c with period := c.period + 1, lfsr := r.2, sent := c.sent ++ [r.1] }

end Sys2Proof.Machine
end

