-- ==== Sys2Proof/Machine/Numeric.lean ====
section
/-! DEFINITION. Real functions that the spec's formulas use, in fixed point with 256 fractional bits: exponential,
Gaussian tail, the quality Q of an error ratio (R156, R209) and the logarithm of a ratio (R146, R453).  The results
are rounded far below what any field can show (log 14). -/

namespace Sys2Proof.Machine

/-- One, with 256 fractional bits. -/
def fixOne : Nat := 2 ^ 256

/-- A rational number that is not negative in fixed point, rounded down. -/
def toFix (x : Rat) : Nat := x.num.toNat * fixOne / x.den

/-- Terms of the power series of the exponential: `n` of them after the term `t`, number `k`. -/
def expTerms : Nat → Nat → Nat → Nat → Nat
  | 0, _, _, t => t
  | n + 1, k, x, t => t + expTerms n (k + 1) x (t * x / (fixOne * (k + 1)))

/-- Square a fixed-point number `n` times. -/
def squareFix : Nat → Nat → Nat
  | 0, v => v
  | n + 1, v => squareFix n (v * v / fixOne)

/-- e^x for a fixed-point x below 256, by the series at x/256. -/
def expFix (x : Nat) : Nat := squareFix 8 (expTerms 60 0 (x / 256) fixOne)

/-- e^−x for a fixed-point x; below every use from 200 on. -/
def expNeg (x : Nat) : Nat := if x ≥ 200 * fixOne then 0 else fixOne * fixOne / expFix x

/-- 1/√(2π) in fixed point. -/
def gaussPeak : Nat := 46194360132781112550002021175736725500524138381534012844286371432913401257262

/-- ln 10 in fixed point. -/
def ln10 : Nat := 266621138564480548222253459415182587429914225440519472036001743423645469947338

/-- Terms of the series x + x³/3 + x⁵/15 + … that the Gaussian density multiplies. -/
def gaussTerms : Nat → Nat → Nat → Nat → Nat
  | 0, _, _, t => t
  | n + 1, k, xx, t => t + gaussTerms n (k + 2) xx (t * xx / (fixOne * (k + 2)))

/-- The tail probability of the normal distribution beyond a fixed-point x up to 12: erfc(x/√2)/2. -/
def gaussTail (x : Nat) : Nat :=
  let xx := x * x / fixOne
  fixOne / 2 - expNeg (xx / 2) * gaussPeak / fixOne * gaussTerms 400 1 xx x / fixOne

/-- 10^(k/4000) in fixed point. -/
def tenPower (k : Int) : Nat :=
  let y := k.natAbs * ln10 / 4000
  if k ≥ 0 then expFix y else expNeg y

/-- The largest k with `lo ≤ k < lo + 2^n` for which a condition that holds at `lo`, and up to some number, holds. -/
def largest (ok : Int → Bool) : Nat → Int → Int
  | 0, lo => lo
  | n + 1, lo => largest ok n (if ok (lo + 2 ^ n) then lo + 2 ^ n else lo)

/-- Q = 20 log10(√2 × erfc⁻¹(2p)) in 0.01 dB, rounded to nearest, of an error ratio p = num/den: √2 × erfc⁻¹(2p) is the x
whose normal tail is p (R156, R209).  None where p is 0, or so near 1/2 and above that Q has no value to show. -/
def qualityOf (num den : Nat) : Option Int :=
  let p := num * fixOne / den
  let ok := fun (q : Int) => decide (gaussTail (tenPower (2 * q - 1)) ≥ p)
  if p == 0 || !ok (-6000) then none else some (largest ok 13 (-6000))

end Sys2Proof.Machine
end

