-- ==== Sys2Proof/Machine/Signal.lean ====
section
/-! DEFINITION. The receive signal path stage by stage: front-end correction (R132), the fractional resampler with its
kernels and its cross-fade (R133 to R135), bulk dispersion compensation (R138), the equaliser (R141, R142), carrier
recovery and the pilot search (R143 to R145), and the demapper (R146, R147).  Log 35 names what the rules leave open. -/

namespace Sys2Proof

/-! ## Points of the signal -/

/-- Sum of two complex numbers. -/
def Cx.add (a b : Cx) : Cx := { re := a.re + b.re, im := a.im + b.im }
/-- Product of two complex numbers. -/
def Cx.mul (a b : Cx) : Cx := { re := a.re * b.re - a.im * b.im, im := a.re * b.im + a.im * b.re }
/-- A complex number times a real one. -/
def Cx.scale (k : Rat) (a : Cx) : Cx := { re := k * a.re, im := k * a.im }
/-- Squared magnitude. -/
def Cx.energy (a : Cx) : Rat := a.re * a.re + a.im * a.im

/-- The quadrants in the order XI, XQ, YI, YQ. -/
def Quad.values (q : Quad) : List Rat := [q.xi, q.xq, q.yi, q.yq]
/-- Sum of two points. -/
def Quad.add (a b : Quad) : Quad := { xi := a.xi + b.xi, xq := a.xq + b.xq, yi := a.yi + b.yi, yq := a.yq + b.yq }
/-- Polarisation X. -/
def Quad.x (q : Quad) : Cx := { re := q.xi, im := q.xq }
/-- Polarisation Y. -/
def Quad.y (q : Quad) : Cx := { re := q.yi, im := q.yq }
/-- Both polarisations together. -/
def quadOf (x y : Cx) : Quad := { xi := x.re, xq := x.im, yi := y.re, yq := y.im }

/-! ## The parts of the front-end correction (R132) -/

/-- The adaptive skew stays within ±2.0 ps (R132), in 0.1 ps. -/
def limitSkew (v : Int) : Int := max (-20) (min v 20)

/-- The front end takes over what it has learnt; the adaptive skew moves only in TRACK (R132). -/
def FrontEnd.learn (old new : FrontEnd) (tracking : Bool) : FrontEnd :=
  { new with skew := if tracking then new.skew.map limitSkew else old.skew }

/-- Offset removal and gain equalisation of one point. -/
def FrontEnd.level (f : FrontEnd) (q : Quad) : Quad :=
  { xi := q.xi - f.offset.xi, xq := (q.xq - f.offset.xq) * f.gainX,
    yi := q.yi - f.offset.yi, yq := (q.yq - f.offset.yq) * f.gainY }

/-- Gram–Schmidt orthogonalisation of Q against I. -/
def FrontEnd.ortho (f : FrontEnd) (q : Quad) : Quad :=
  { q with xq := q.xq - f.orthoX * q.xi, yq := q.yq - f.orthoY * q.yi }

end Sys2Proof

namespace Sys2Proof.Machine

/-- Four quadrant streams as one stream of points. -/
def zipQuads (xi xq yi yq : List Rat) : List Quad :=
  (List.range (min (min xi.length xq.length) (min yi.length yq.length))).map fun n =>
    { xi := xi.getD n 0, xq := xq.getD n 0, yi := yi.getD n 0, yq := yq.getD n 0 }

/-- A stream transformed quadrant by quadrant. -/
def perQuadrant (f : Fin 4 → List Rat → List Rat) (l : List Quad) : List Quad :=
  zipQuads (f 0 (l.map (·.xi))) (f 1 (l.map (·.xq))) (f 2 (l.map (·.yi))) (f 3 (l.map (·.yq)))

/-- A stream transformed polarisation by polarisation. -/
def perPolarisation (f : List Cx → List Cx) (l : List Quad) : List Quad :=
  ((f (l.map Quad.x)).zip (f (l.map Quad.y))).map fun p => quadOf p.1 p.2

/-! ## Front-end correction (R132) -/

/-- Skew applied to a quadrant, in 0.1 ps: factory value, host offset and adaptive term (R132). -/
def frontSkew (engine : Nat) (c : RxConfig) (f : FrontEnd) (q : Fin 4) : Int :=
  Config.factorySkew engine q.val + (c.feSkew[q]).toInt + f.skew[q]

/-- Front-end correction of ADC samples at a rate in GS/s, in the order of R132. -/
def frontCorrect (engine : Nat) (c : RxConfig) (f : FrontEnd) (rate : Rat) (l : List Quad) : List Quad :=
  (perQuadrant (fun q s => (List.range s.length).map (Config.delayed s (frontSkew engine c f q * rate / 10000)))
    (l.map f.level)).map f.ortho

/-! ## Fractional resampler (R133 to R136) -/

/-- ρ lies within 1 ± 200 ppm (R133). -/
def limitRho (v : Int) : BitVec 48 := BitVec.ofInt 48 (max 1099291725451 (min v 1099731530101))

/-- Tap of a kernel at a phase: kernel 8 interpolates between the two nearest inputs, kernel 5 has 12 taps, the others 16;
coefficients of 12 bits are in 1/2,048 (R133, R134; log 35). -/
def kernelTap (kernel phase tap : Nat) : Rat :=
  if kernel == 8 then (if tap == 7 then mkRat (1024 - phase) 1024 else if tap == 8 then mkRat phase 1024 else 0)
  else if kernel == 5 && (tap < 2 || 13 < tap) then 0
  else mkRat (Config.kernelRom kernel phase tap).toInt 2048

/-- Output at an accumulator position with 40 fractional bits: the top ten select the phase, and its 16 taps take the 16
nearest inputs (R133). -/
def resampleAt (kernel : Nat) (s : List Rat) (position : Nat) : Rat :=
  let n := position / 2 ^ 40
  let phase := position / 2 ^ 30 % 1024
  ((List.range 16).map fun t => if n + t < 7 then 0 else kernelTap kernel phase t * s.getD (n + t - 7) 0).sum

/-- Accumulator step of one output sample: 1/ρ (R133). -/
def stepOf (rho : BitVec 48) : Nat := 2 ^ 80 / rho.toNat

/-- Outputs that `len` held inputs allow from an accumulator on: the last tap lies 8 inputs ahead (R133). -/
def outputsIn (len acc step : Nat) : Nat := ((len - 8) * 2 ^ 40 + step - 1 - acc) / step

/-- New samples through the resampler: the outputs, and what is held for the next ones (R133).  After a change of kernel
both kernels run on the same phase for 256 output samples, and the output fades from the old one to the new one
(R135). -/
def RxPipe.resample (k : RxPipe) (kernel : Nat) (rho : BitVec 48) (new : List Quad) : RxPipe × List Quad :=
  let buf := k.front ++ new
  let n := outputsIn buf.length k.acc (stepOf rho)
  let one := fun (l : List Rat) (i : Nat) =>
    let at_ := k.acc + i * stepOf rho
    let y := resampleAt kernel l at_
    match k.fade with
    | none => y
    | some (old, done) =>
      if done + i ≥ 256 then y
      else ((256 - (done + i) : Nat) * resampleAt old l at_ + ((done + i : Nat) : Rat) * y) / 256
  let acc := k.acc + n * stepOf rho
  let gone := min (acc / 2 ^ 40 - 7) buf.length
  ({ k with
     front := buf.drop gone, acc := acc - gone * 2 ^ 40,
     fade := k.fade.bind fun f => if f.2 + n ≥ 256 then none else some (f.1, f.2 + n) },
   perQuadrant (fun _ l => (List.range n).map (one l)) buf)

/-- Loop bandwidth of TR_BW, in kHz (R136). -/
def trBandwidth (trBw : Nat) : Nat := 500 * 2 ^ (trBw - 1)

/-! ## Bulk dispersion compensation (R138) -/

/-- FFT size and overlap of a LINE code; the difference is the number of new samples a block (R138). -/
def fftSize : Nat → Nat × Nat
  | 1 | 5 => (8192, 3072)
  | 2 => (32768, 12288)
  | 3 => (65536, 28672)
  | 4 => (131072, 57344)
  | _ => (8192, 2048)

/-- New samples of one block. -/
def fftNew (line : Nat) : Nat := (fftSize line).1 - (fftSize line).2

/-- The new samples of one block, from the overlap and the samples that it brings: circular convolution with the filter,
of which the overlap's part is discarded (R138). -/
def saveBlock (line : Nat) (filter : Nat → Cx) (input : List Cx) : List Cx :=
  let fft := (fftSize line).1
  (List.range (fftNew line)).map fun n =>
    (List.range fft).foldl (fun a k =>
      a.add ((filter k).mul (input.getD (((fftSize line).2 + n + fft - k) % fft) {}))) {}

/-- The last `n` samples held, with zeros before them where there are fewer. -/
def lastOf (n : Nat) (l : List Quad) : List Quad := List.replicate (n - l.length) ({} : Quad) ++ l.drop (l.length - n)

/-- Overlap-save: every whole block of samples is compensated with one filter, at most `n` blocks (R138, R140). -/
def RxPipe.save (line : Nat) (filter : Nat → Cx) : Nat → RxPipe → RxPipe × List Quad
  | 0, k => (k, [])
  | n + 1, k =>
    if k.fill.length < fftNew line then (k, [])
    else
      let input := lastOf (fftSize line).2 k.overlap ++ k.fill.take (fftNew line)
      let r := RxPipe.save line filter n { k with overlap := lastOf (fftSize line).2 input, fill := k.fill.drop (fftNew line) }
      (r.1, perPolarisation (saveBlock line filter) input ++ r.2)

/-- The inverse of a fibre with dispersion `cd` about a channel centre, at an ADC rate (R138). -/
def bulkFilter (line : Nat) (cd : Int) (centre : Nat) (rate : Rat) (k : Nat) : Cx :=
  Config.fibreInverse cd centre rate (fftSize line).1 k

/-! ## Equaliser (R141, R142) -/

/-- The tap place is one of the `n` active ones, which lie evenly about the centre, place 15 (R142). -/
def tapActive (n i : Nat) : Bool := 15 ≤ i + n / 2 && i ≤ 15 + n / 2

/-- The taps with all but the active places zero. -/
def maskTaps (n : Nat) (t : TapSet) : TapSet :=
  t.map fun f => Vector.ofFn fun i => if tapActive n i.val then f[i] else {}

/-- Total energy of the four filters' taps. -/
def tapEnergy (t : TapSet) : Rat := (t.toList.map fun f => (f.toList.map Cx.energy).sum).sum

/-- One step of the taps against a gradient, with μ = 2^−(6 + MIMO_MU) (R141). -/
def stepTaps (mu : Nat) (t g : TapSet) : TapSet :=
  Vector.ofFn fun f => Vector.ofFn fun i => (t[f][i]).add ((g[f][i]).scale (-(mkRat 1 (2 ^ (6 + mu)))))

/-- One filter's output with its centre at a sample.  A lower tap number meets an earlier sample: R141 and R161 number the
taps and say no direction (log 35). -/
def firAt (f : Vector Cx 31) (s : List Cx) (n : Nat) : Cx :=
  (List.finRange 31).foldl (fun a i => if n + i.val < 15 then a else a.add ((f[i]).mul (s.getD (n + i.val - 15) {}))) {}

/-- The butterfly at a sample. -/
def butterfly (t : TapSet) (x y : List Cx) (m : Nat) : Quad :=
  quadOf ((firAt t[0] x m).add (firAt t[1] y m)) ((firAt t[2] x m).add (firAt t[3] y m))

/-- New samples through the equaliser, decimated from 6/5 samples a symbol to one: the symbols, and what is held for the next
ones (R141; log 35). -/
def RxPipe.equalise (k : RxPipe) (t : TapSet) (new : List Quad) : RxPipe × List Quad :=
  let buf := k.bulk ++ new
  let n := ((buf.length - 15) * 5 + 5 - k.fifth) / 6
  let x := buf.map Quad.x
  let y := buf.map Quad.y
  let next := k.fifth + 6 * n
  let gone := min (next / 5 - 15) buf.length
  ({ k with bulk := buf.drop gone, fifth := next - 5 * gone },
   (List.range n).map fun i => butterfly t x y ((k.fifth + 6 * i) / 5))

/-! ## Carrier recovery (R143, R145) -/

/-- A carrier offset within ±3.5 GHz (R143), in Hz. -/
def offsetOk (f : Int) : Bool := f.natAbs ≤ 3500000000

/-- Turns of a carrier offset in Hz over one symbol period at a baud in GBd (R143). -/
def offsetTurns (carrier : Int) (baud : Rat) : Rat := carrier / (baud * 1000000000)

/-- Turns without whole ones. -/
def fraction (v : Rat) : Rat := v - v.floor

/-- New symbols with the offset taken out (R143). -/
def RxPipe.derotate (k : RxPipe) (carrier : Int) (baud : Rat) (new : List Quad) : RxPipe × List Quad :=
  let step := offsetTurns carrier baud
  let turn := fun (i : Nat) (v : Cx) => v.mul (Config.unitVector (-(k.turns + i * step)))
  let out := new.zipIdx.map fun p => quadOf (turn p.2 p.1.x) (turn p.2 p.1.y)
  let recent := k.recent ++ out
  ({ k with turns := fraction (k.turns + new.length * step), recent := recent.drop (recent.length - 4096) }, out)

/-- The pilot grid a number of symbol periods on (R108, R144). -/
def PilotGrid.skip (g : PilotGrid) (n : Nat) : PilotGrid :=
  let pilots := (g.t + n + 63) / 64 - (g.t + 63) / 64
  { g with t := (g.t + n) % 2097088, lfsr := (pilotBits (4 * pilots) g.lfsr).2 }

/-- The grid at the first period of a new chain (R109, R152). -/
def PilotGrid.restart (g : PilotGrid) : PilotGrid := { g with position := 0, lfsr := 0x2D2D, t := 0 }

/-- Symbols as the grid numbers them: pilots with their bits, the polarisations in order.  With `left`, the number of data
symbols before a chain that is foreseen to start, the grid begins anew with it; the last component tells whether it has
(R144, R152, R199). -/
def PilotGrid.tag : PilotGrid → Option Nat → List Quad → List HeldSymbol × PilotGrid × Bool
  | g, _, [] => ([], g, false)
  | g, left, q :: rest =>
    let begins := left == some 0
    let g := if begins then g.restart else g
    let left := if begins then none else left
    let value := if g.swapped then quadOf q.y q.x else q
    let pilot := g.t % 64 == 0
    let b := (pilotBits 4 g.lfsr).1
    let bits : BitVec 4 := BitVec.ofNat 4 (((b.zipIdx).map fun v => v.1.toNat * 2 ^ v.2).sum)
    let r := PilotGrid.tag (g.skip 1) (if pilot then left else left.map (· - 1)) rest
    ({ value := value, pilot := if pilot then some bits else none } :: r.1, r.2.1, begins || r.2.2)

/-- The reference of a pilot: signs of one polarisation. -/
def pilotPoint (i q : Bool) : Cx := { re := if i then 1 else -1, im := if q then 1 else -1 }

/-- Phases of a pilot on X and Y, in turns, against what it is known to carry (R145). -/
def pilotPhase (v : Quad) (b : BitVec 4) : Rat × Rat :=
  (Config.angleOf v.x (pilotPoint (b.getLsbD 0) (b.getLsbD 1)), Config.angleOf v.y (pilotPoint (b.getLsbD 2) (b.getLsbD 3)))

/-- A point turned back by a phase on each polarisation. -/
def turned (v : Quad) (phase : Rat × Rat) : Quad :=
  quadOf (v.x.mul (Config.unitVector (-phase.1))) (v.y.mul (Config.unitVector (-phase.2)))

/-- The hard decisions on the four quadrants, in the order of a pilot's bits. -/
def decisions (v : Quad) : BitVec 4 :=
  BitVec.ofNat 4 (((v.values.zipIdx).map fun (x : Rat × Nat) => if 0 < x.1 then 2 ^ x.2 else 0).sum)

/-- Phase a part of the way from one pilot to the next: linear, the shorter way round (R145). -/
def between (a b part : Rat) : Rat := a + (b - a - ((b - a) + 1 / 2).floor) * part

/-- Where the next pilot behind the first held symbol stands. -/
def nextPilot (l : List HeldSymbol) : Option Nat := ((l.drop 1).findIdx? fun h => h.pilot.isSome).map (· + 1)

/-- Carrier phase from one pilot up to the next: the phase at each pilot, linear between them, refined by blind phase search
over ±`avg` data symbols unless that is off (R145).  A pilot counts as in error where a quadrant's hard decision, at the
phase of the pilot before, disagrees with the sequence.  At most `n` stretches. -/
def RxPipe.release (avg : Nat) (noBps : Bool) : Nat → RxPipe → RxPipe × List Quad
  | 0, k => (k, [])
  | n + 1, k =>
    match k.held, nextPilot k.held with
    | h :: _, some d =>
      match h.pilot, (k.held[d]?).bind fun (v : HeldSymbol) => v.pilot.map fun b => pilotPhase v.value b with
      | some bits, some next =>
        if k.held.length ≤ d + avg then (k, [])
        else
          let all := k.before ++ k.held
          let own := pilotPhase h.value bits
          let wrong := decisions (turned h.value (k.last.getD own)) != bits
          let near := fun (i : Nat) => (((all.drop (k.before.length + i - avg)).take
            (min (2 * avg + 1) (k.before.length + i + avg + 1))).filter fun v => v.pilot.isNone).map (·.value)
          let refine := fun (i : Nat) (w : Quad → Cx) (v : Rat) =>
            if noBps || i == 0 then v else v + Config.phaseSearch ((near i).map w) v
          let out := (k.held.take d).zipIdx.map fun v =>
            let part := mkRat v.2 d
            turned v.1.value (refine v.2 Quad.x (between own.1 next.1 part), refine v.2 Quad.y (between own.2 next.2 part))
          let before := k.before ++ k.held.take d
          let r := RxPipe.release avg noBps n { k with
            before := before.drop (before.length - 64), held := k.held.drop d, last := some own,
            flags := (wrong :: k.flags).take 1024, errors := k.errors + wrong.toNat, out := k.out ++ out.drop 1 }
          (r.1, out ++ r.2)
      | none, _ => RxPipe.release avg noBps n { k with held := k.held.drop d }
      | _, none => (k, [])
    | _, _ => (k, [])

/-! ## The pilot search (R144) -/

/-- Quadrant signs of one symbol, in the order XI, XQ, YI, YQ, under a rotation by quarter turns and a polarisation
order. -/
def candidateSigns (b : BitVec 4) (rotation : Nat) (swapped : Bool) : List Bool :=
  let turn := fun (i q : Bool) => match rotation % 4 with
    | 0 => [i, q] | 1 => [!q, i] | 2 => [!i, !q] | _ => [q, !i]
  let x := turn (b.getLsbD 0) (b.getLsbD 1)
  let y := turn (b.getLsbD 2) (b.getLsbD 3)
  if swapped then y ++ x else x ++ y

/-- The first 256 bits that a candidate's pilots would carry (R144). -/
def candidateBits (signs : List (BitVec 4)) (position rotation : Nat) (swapped : Bool) : List Bool :=
  (List.range 64).flatMap fun k => candidateSigns (signs.getD (position + 64 * k) 0) rotation swapped

/-- The recurrence of R109 holds at every bit: bit n + 15 = bit n + 1 XOR bit n. -/
def recurrenceOk (b : List Bool) : Bool :=
  (b.drop 15).zip (b.zip (b.drop 1)) |>.all fun p => p.1 == (p.2.1 ^^ p.2.2)

/-- Steps from the seed to a register, looked for over `n` steps. -/
def stepsTo (reg : BitVec 15) : Nat → BitVec 15 → Nat → Option Nat
  | 0, _, _ => none
  | n + 1, r, k => if r == reg then some k else stepsTo reg n (pilotStep r).2 (k + 1)

/-- A candidate with the LFSR state that its bits give and the count t of its first pilot, modulo 64 × 32,767: four steps
a pilot, and 8,192 is the inverse of 4 modulo 32,767 (R108, R109, R144).  Zeros satisfy the recurrence but are no state. -/
def candidate (signs : List (BitVec 4)) (position rotation : Nat) (swapped : Bool) : Option PilotGrid :=
  let b := candidateBits signs position rotation swapped
  if !recurrenceOk b then none
  else
    let reg := BitVec.ofNat 15 (bitsValue (b.take 15))
    (stepsTo reg 32767 0x2D2D 0).map fun k =>
      { position := position, rotation := Fin.ofNat 4 rotation, swapped := swapped, lfsr := reg,
        t := 64 * (k * 8192 % 32767) }

/-- The candidate that is kept among 64 positions, four rotations and both polarisation orders (R144). -/
def pilotSearch (signs : List (BitVec 4)) : Option PilotGrid :=
  (List.range 64).findSome? fun p => (List.range 4).findSome? fun r =>
    [false, true].findSome? fun w => candidate signs p r w

/-! ## Demapper (R146, R147) -/

/-- Weight of a level: its amplitude's count in the composition, or one where the profile has none (R105, R146). -/
def priorOf (p : Profile) (a : Nat) : Nat := if p.counts.isEmpty then 1 else p.counts.getD a 0

/-- The signed PAM levels: amplitude level and sign, positive for true. -/
def pamLevels (p : Profile) : List (Nat × Bool) :=
  (List.range (2 ^ (p.m / 2 - 1))).flatMap fun a => [(a, false), (a, true)]

/-- Value of a level. -/
def levelValue (l : Nat × Bool) : Rat := if l.2 then ((2 * l.1 + 1 : Nat) : Rat) else -((2 * l.1 + 1 : Nat) : Rat)

/-- Each level with its weight times its likelihood at a received value, up to a common factor (R146). -/
def levelWeights (p : Profile) (noise r : Rat) : List ((Nat × Bool) × Nat) :=
  let cost := fun (l : Nat × Bool) => (r - levelValue l) * (r - levelValue l) / (2 * noise)
  let least := (pamLevels p).foldl (fun (m : Option Rat) l => match m with
    | none => some (cost l) | some v => some (if cost l < v then cost l else v)) none
  (pamLevels p).map fun l => (l, priorOf p l.1 * expNeg (toFix (cost l - least.getD 0)))

/-- e^−((2k − 1)/4): the half-way points between the steps of 0.5 nat. -/
def halfStep (k : Nat) : Nat := expNeg ((2 * k - 1) * fixOne / 4)

/-- The natural logarithm of a ratio of weights, for a zero and for a one, in steps of 0.5 nat, rounded to nearest, within
±31 (R147). -/
def quantise (zeros_ ones_ : Nat) : Int :=
  let count := fun (a b : Nat) => (List.range 31).countP fun k => a * halfStep (k + 1) ≥ b * fixOne
  (count zeros_ ones_ : Int) - count ones_ zeros_

/-- The LLR of a bit that is a function of the level (R146). -/
def llrOf (w : List ((Nat × Bool) × Nat)) (isOne : Nat × Bool → Bool) : Int :=
  quantise ((w.filter fun x => !isOne x.1).map (·.2)).sum ((w.filter fun x => isOne x.1).map (·.2)).sum

/-- LLRs of one quadrant: the label bits, most significant first, and the sign bit (R107, R146). -/
def demapQuadrant (p : Profile) (noise r : Rat) : List Int × Int :=
  let w := levelWeights p noise r
  let bits := p.m / 2 - 1
  ((List.range bits).map fun i => llrOf w fun l => (grayLabel p.m l.1).testBit (bits - 1 - i), llrOf w fun l => l.2)

/-- LLRs of a mapping group's data symbols: those of the labels and those of the signs, each in amplitude order
(R103, R147). -/
def demapGroup (p : Profile) (noise : Quad) (symbols : List Quad) : List Int × List Int :=
  let each := symbols.flatMap fun q => (noise.values.zip q.values).map fun v => demapQuadrant p v.1 v.2
  ((each.map (·.1)).flatten, each.map (·.2))

/-! ## Captured values (R161) -/

/-- A value rounded to nearest and saturated to `w` bits. -/
def captured (w : Nat) (v : Rat) : BitVec w := satInt w (v + 1 / 2).floor

/-- The 496 bytes of POINT 0x06: taps in 1/16,384 (R161). -/
def tapBytes (t : TapSet) : Bytes :=
  t.toList.flatMap fun f => f.toList.flatMap fun c => be 2 (captured 16 (16384 * c.re)) ++ be 2 (captured 16 (16384 * c.im))

end Sys2Proof.Machine
end

