-- ==== Sys2Proof/Machine/Decoder.lean ====
section
/-! DEFINITION. The receive chain behind carrier recovery: LLRs placed in the decoder's window (R147, R196, R202), the
checks and the output of the oldest position (R202, R203, R206), the chains that follow one another (R197 to R199), and
the de-shaper's data streams (R106, R205). -/

namespace Sys2Proof.Machine

/-! ## A group's LLRs in its positions (R196) -/

/-- LLRs of one position in the order of its coded bits, from those of its information and its parity (R196). -/
def placeLlrs (rows : Nat) (info parity : List Int) : List Int :=
  (List.range 32).flatMap fun c =>
    if (parityColumns rows).contains c then (parity.drop (256 * (parityColumns rows).idxOf c)).take 256
    else (info.drop (256 * (infoColumns rows).idxOf c)).take 256

/-- Coded bits of a position that are always 0: bit 255 of column d of each pair of rows (R195). -/
def forcedBits (rows : Nat) : List Nat := (rowPairs rows).map fun r => 256 * r.2.2 + 255

/-- The hard decision of an LLR: a positive one favours 0 (R147). -/
def hardBit (v : Int) : Bool := v < 0

/-- The saturated LLR of a bit that is known or decided (R147, R202). -/
def sureLlr (b : Bool) : Int := if b then -31 else 31

/-- LLRs with the known bits held at saturated values, which bits those are, and the number of them whose channel hard
decision was wrong (R202, R210). -/
def holdKnown (llr : List Int) (known : Nat → Option Bool) : List Int × List Bool × Nat :=
  (llr.zipIdx.map fun v => match known v.2 with | none => v.1 | some b => sureLlr b,
   llr.zipIdx.map fun v => (known v.2).isSome,
   llr.zipIdx.countP fun v => match known v.2 with | none => false | some b => hardBit v.1 != b)

/-- Content of a fixed group: its label bits followed by its sign-information bits (R198). -/
def fixedInfo (p : Profile) : List Bool :=
  let alternating := fun n => (List.range n).map fun i => i % 2 == 0
  (if p.counts.isEmpty then alternating (512 * blocksPerGroup p)
   else (List.replicate (blocksPerGroup p) (unrank 512 p.counts 0)).flatten.flatMap fun a =>
     natBits (p.m / 2 - 1) (grayLabel p.m a)) ++ alternating (signInfo p)

/-- What is known in advance of position number `i` of a group: forced bits, and the information of a fixed group. -/
def knownBit (p : Profile) (fixed : Bool) (i bit_ : Nat) : Option Bool :=
  if (forcedBits p.rows).contains bit_ then some false
  else if fixed && !(parityColumns p.rows).contains (bit_ / 256) then
    (fixedInfo p)[(32 - p.rows) * 256 * i + 256 * (infoColumns p.rows).idxOf (bit_ / 256) + bit_ % 256]?
  else none

/-- LLRs of a group's positions, each with its known bits and its count of wrong ones (R147, R196, R202). -/
def groupPositions (p : Profile) (noise : Quad) (symbols : List Quad) (fixed : Bool) : List (List Int × List Bool × Nat) :=
  let l := demapGroup p noise symbols
  let info := l.1 ++ l.2.take (signInfo p)
  let parity := l.2.drop (signInfo p)
  let n := (32 - p.rows) * 256
  let k := p.rows * 256
  (List.range p.positions).map fun i =>
    holdKnown (placeLlrs p.rows ((info.drop (n * i)).take n) ((parity.drop (k * i)).take k)) (knownBit p fixed i)

/-! ## Groups coming in (R197 to R199) -/

/-- Data symbols of a group. -/
def groupSymbols (p : Profile) : Nat := p.ns / 2

/-- Bits of the data groups in the window and of the one that is being output, in a data stream (R199). -/
def FecState.bitsAhead (f : FecState) (stream : Nat) : Nat :=
  let held := (f.window.filter fun w => w.data && w.last).map fun w => match profileOf w.line with
    | some p => groupBits p (stream + w.block) | none => 0
  held.sum

/-- Place in a data stream of the first bit of the data group that comes in next. -/
def FecState.nextBit (f : FecState) (stream : Fin 5) : Nat :=
  (f.streams[stream]).start + (f.streams[stream]).bits.length + f.bitsAhead stream.val

/-- The data group that comes in next carries the first bit of the frame of a chain change: it is the chain's last one
(R199). -/
def FecState.lastGroup (f : FecState) (p : Profile) : Bool :=
  match f.change, f.phase with
  | some c, some k => match c.groups with
    | some n => decide (n ≤ 1)
    | none => decide (c.bit < f.nextBit k + groupBits p (k.val + f.block))
  | some c, none => c.groups.any (· ≤ 1)
  | none, _ => false

/-- Number of data groups from block `j` on up to the one that carries bit number `n` behind the start of the first: the
groups' sizes repeat with every five (R105, R199). -/
def groupsTo (p : Profile) (j n : Nat) : Nat :=
  let size := fun (k : Nat) => ((List.range k).map fun i => groupBits p (j + i * blocksPerGroup p)).sum
  5 * (n / size 5) + 1 + (List.range 4).countP fun i => size (i + 1) ≤ n % size 5

/-- The phase is lost, and with it the place in the data stream: a change of chain foreseen is counted in groups from here
on (R199, R211). -/
def FecState.losePhase (f : FecState) : FecState :=
  { f with
    phase := none, streams := Vector.replicate 5 {}
    change := f.change.map fun c => match f.phase, profileOf f.line with
      | some k, some p => if c.groups.isSome then c
        else { c with groups := some (groupsTo p (k.val + f.block) (c.bit - f.nextBit k)) }
      | _, _ => c }

/-- The next chain begins: its groups follow at once, and its block counter restarts, so that in the data stream that goes
on its first block has cycle index 0 (R104, R199). -/
def FecState.newChain (f : FecState) (c : ChainChange) : FecState :=
  { f with
    line := c.line, coming := .opening (startGroups c.line), chain := f.chain + 1, index := some 0,
    block := match f.phase with | some k => 5 - k.val | none => 0,
    chainStart := some c.fnr, change := none }

/-- What follows a group that has come in. -/
def FecState.nextComing (f : FecState) (p : Profile) : FecState :=
  match f.coming with
  | .idle => f
  | .opening n => { f with coming := if n ≤ 1 then .data else .opening (n - 1) }
  | .data =>
    { f with block := f.block + blocksPerGroup p, chainStart := none,
             change := f.change.map fun c => { c with groups := c.groups.map (· - 1) },
             coming := if f.lastGroup p then .closing (endGroups f.line) else .data }
  | .closing n =>
    if n > 1 then { f with coming := .closing (n - 1) }
    else match f.change with
      | some c => f.newChain c
      | none => { f with coming := .idle }

/-- Hard decisions on LLRs, as the blocks of a position. -/
def hardBlocks (l : List Int) : List (BitVec 256) := (chunks 256 32 (l.map hardBit)).map blockOf

/-- One mapping group comes in: its positions enter the window (R196, R202). -/
def FecState.enter (f : FecState) (p : Profile) (noise : Quad) (symbols : List Quad) : FecState :=
  let data := f.coming == .data
  let ws := (groupPositions p noise symbols (!data)).zipIdx.map fun l =>
    { llr := l.1.1, pinned := l.1.2.1, soft := l.1.1, known := l.1.2.2, line := f.line, chain := f.chain,
      index := f.index.map (· + l.2), data := data, last := l.2 + 1 == p.positions, block := f.block,
      chainStart := if data then f.chainStart else none : WindowPosition }
  let heard := f.heard ++ ws.map fun w => hardBlocks w.llr
  { (f.nextComing p) with
    window := f.window ++ ws, heard := heard.drop (heard.length - 10),
    index := match f.coming, (f.nextComing p).coming with
      | .closing _, .opening _ => some 0
      | _, _ => f.index.map (· + p.positions) }

/-- Symbols come in: every whole group of them enters the window, at most `n` groups. -/
def FecState.absorb (noise : Quad) : Nat → FecState → FecState
  | 0, f => f
  | n + 1, f =>
    match profileOf f.line with
    | none => { f with symbols := [] }
    | some p =>
      if f.coming == .idle then { f with symbols := [] }
      else if f.symbols.length < groupSymbols p then f
      else FecState.absorb noise n
        ({ f with symbols := f.symbols.drop (groupSymbols p) }.enter p noise (f.symbols.take (groupSymbols p)))

/-! ## Checks on the oldest position (R193, R202, R206) -/

/-- The check rows of one position hold (R193). -/
def rowsHold (rows : Nat) (x x1 x2 : List (BitVec 256)) : Bool :=
  (List.range rows).all fun i =>
    rowSum 0 i x (fun _ => true) ^^^ rowSum 1 i x1 (fun _ => true) ^^^ rowSum 2 i x2 (fun _ => true) == 0

/-- A position of virtual zeros. -/
def zeroPosition : List (BitVec 256) := List.replicate 32 0

/-- The channel's hard decisions on a position, as blocks. -/
def WindowPosition.hard (w : WindowPosition) : List (BitVec 256) := hardBlocks w.llr

/-- The decoder's hard decisions on a position so far, as blocks. -/
def WindowPosition.decision (w : WindowPosition) : List (BitVec 256) := hardBlocks w.soft

/-- The position `k` places before the oldest one of the window, 1 or 2: output before, virtual before the start of a
chain, or unknown where the receiver came in later (R193). -/
def FecState.earlier (f : FecState) (w : WindowPosition) (k : Nat) : Option (List (BitVec 256)) :=
  match w.index with
  | some i => if i < k then some zeroPosition else f.before[k - 1]?
  | none => f.before[k - 1]?

/-- Every check row that involves the oldest position holds under some decisions on it and its two followers; rows that
reach a position not known, or beyond the chain's last position, do not count (R193, R206). -/
def FecState.checksHold (f : FecState) (w : WindowPosition) (d : List (List (BitVec 256))) : Bool :=
  let rows := match profileOf w.line with | some p => p.rows | none => 0
  let later := fun (k : Nat) => match f.window[k]? with
    | some v => if v.chain == w.chain then some (d.getD k v.hard) else none | none => none
  let x := d.getD 0 w.hard
  let row := fun (a b c : Option (List (BitVec 256))) => match a, b, c with
    | some a, some b, some c => rowsHold rows a b c | _, _, _ => true
  row (some x) (f.earlier w 1) (f.earlier w 2) && row (later 1) (some x) (f.earlier w 1)
    && row (later 2) (later 1) (some x)

/-! ## Message passing (R192, R202) -/

/-- Coded bit that check `r` of base row `i` meets at column `j` (R192). -/
def checkBit (i j r : Nat) : Nat := 256 * j + (r + shiftOf i j) % 256

/-- Messages of one check to its bits, from what each bit says without it: the sign that the others give, and 0.75 of the
least of their magnitudes, within 7 bits (R202; rounded down, log 35). -/
def checkMessages (q : List Int) : List Int :=
  q.zipIdx.map fun v =>
    let others := q.eraseIdx v.2
    let least := others.foldl (fun m x => min m x.natAbs) 63
    let m : Int := (3 * least / 4 : Nat)
    if others.countP (· < 0) % 2 == 1 then -m else m

/-- What is said of the bits of the position `t` places before number `k` of the window: virtual zeros before a chain's
start, the decisions on a position already output, and nothing of one that is not known (R193, R202). -/
def FecState.softAt (f : FecState) (ws : List WindowPosition) (k t : Nat) : Option (Nat → Int) :=
  match ws[k]? with
  | none => none
  | some v =>
    if v.index.any (· < t) then some fun _ => sureLlr false
    else if t ≤ k then
      (ws[k - t]?).bind fun u => if u.chain == v.chain then some fun b => u.soft.getD b 0 else none
    else if ws.head?.any (fun u => u.chain == v.chain) then
      (f.before[t - k - 1]?).map fun x => fun b => sureLlr ((blockAt x (b / 256)).getLsbD (b % 256))
    else none

/-- One layer: the 256 checks of base row `i` at position `k` of the window renew their messages, and the bits that they
meet take them, except those that are known (R202). -/
def FecState.layer (f : FecState) (k i : Nat) (ws : List WindowPosition) : List WindowPosition :=
  match ws[k]?, f.softAt ws k 0, f.softAt ws k 1, f.softAt ws k 2 with
  | some w, some a, some b, some c =>
    let old := w.messages.getD i []
    let said := fun (r j : Nat) =>
      (if (i + j) % 3 == 0 then a else if (i + j) % 3 == 1 then b else c) (checkBit i j r) - old.getD (256 * j + r) 0
    let new := fun (r j : Nat) => (checkMessages ((List.range 32).map (said r))).getD j 0
    ws.zipIdx.map fun v =>
      let u := v.1
      let u := if v.2 == k then { u with
          messages := (List.range 6).map fun n => if n == i then (List.range 8192).map fun m => new (m % 256) (m / 256)
            else u.messages.getD n [] }
        else u
      if v.2 ≤ k && k < v.2 + 3 && u.chain == w.chain then { u with
        soft := u.soft.zipIdx.map fun s =>
          let j := s.2 / 256
          let r := (s.2 % 256 + 256 - shiftOf i j) % 256
          if (i + j) % 3 != k - v.2 || u.pinned.getD s.2 false then s.1 else said r j + new r j }
      else u
  | _, _, _, _ => ws

/-- One layered iteration over the check rows of the first `w` positions, oldest position first (R202). -/
def FecState.iteration (f : FecState) (w : Nat) (ws : List WindowPosition) : List WindowPosition :=
  (List.range (min w ws.length)).foldl (fun ws k =>
    let rows := match (ws[k]?).bind fun v => profileOf v.line with | some p => p.rows | none => 0
    (List.range rows).foldl (fun ws i => f.layer k i ws) ws) ws

/-! ## One advance (R202, R203) -/

/-- The window is full, or the chain of its oldest position has ended, which is then flushed (R202). -/
def FecState.ready (f : FecState) (w : Nat) : Bool :=
  match f.window with
  | [] => false
  | x :: _ => f.window.length ≥ w || f.coming == .idle || f.chain != x.chain

/-- What an advance makes of its iterations (R202, R203): how many run, whether it ends early, the window at its end, and
whether the checks of the oldest position hold under its decisions. -/
structure Outcome where
  ran : Nat
  early : Bool
  window : List WindowPosition
  good : Bool
  deriving DecidableEq, Repr

/-- Decisions on the three oldest positions. -/
def oldest (ws : List WindowPosition) : List (List (BitVec 256)) := (ws.take 3).map WindowPosition.decision

/-- Iterations 1 to `todo` of an advance; with ET_OFF all of them run, otherwise they end with the first whose checks
hold. -/
def iterate (run : List WindowPosition → List WindowPosition) (holds : List (List (BitVec 256)) → Bool) (etOff : Bool)
    (total : Nat) : Nat → List WindowPosition → Outcome
  | 0, ws => { ran := total, early := false, window := ws, good := holds (oldest ws) }
  | todo + 1, ws =>
    let next := run ws
    let good := holds (oldest next)
    if todo != 0 && !etOff && good then { ran := total - todo, early := true, window := next, good := true }
    else iterate run holds etOff total todo next

/-- The iterations of an advance over a window of `w` positions whose oldest one is `x` (R202, R203). -/
def FecState.decode (f : FecState) (x : WindowPosition) (w : Nat) : Outcome :=
  iterate (f.iteration w) (f.checksHold x) f.etOff f.iActive f.iActive f.window

/-- Figures of a position that is output: bits whose hard decision was changed, and those of them delivered as 1
(R210). -/
def changedBits (w : WindowPosition) (out : List (BitVec 256)) : Nat × Nat :=
  let pairs := (w.llr.map hardBit).zip (out.map blockBitsOf).flatten
  (pairs.countP fun b => b.1 != b.2, pairs.countP fun b => b.1 != b.2 && b.2)

/-! ## De-shaping (R106, R205) -/

/-- The input bits of one matcher block from its decided levels: its rank among the sequences of the composition, `k` bits,
the first most significant.  A block that is no such sequence, or whose rank needs more bits, has no stated input: its
bits are free (R106; log 16). -/
def rankBits (p : Profile) (k : Nat) (levels : List Nat) (free : Nat) : List Bool :=
  let right := p.counts.zipIdx.all fun c => levels.count c.2 == c.1
  let v := rank p.counts levels
  natBits k (if right && v < 2 ^ k then v else free)

/-- Information bits of decided positions, in order (R196). -/
def infoBits (rows : Nat) (x : List (List (BitVec 256))) : List Bool :=
  x.flatMap fun v => (infoColumns rows).flatMap fun c => blockBitsOf (blockAt v c)

/-- The data bits of a decided group in the stream of one hypothesis of the cycle index (R102, R105, R205). -/
def groupData (p : Profile) (stream block : Nat) (x : List (List (BitVec 256))) (free : Nat → Nat) : List Bool :=
  let info := infoBits p.rows x
  let w := p.m / 2 - 1
  let n := 2 * p.ns * w
  let labels := info.take n
  let blocks := (List.range (blocksPerGroup p)).flatMap fun j =>
    let mine := (labels.drop (512 * w * j)).take (512 * w)
    if p.counts.isEmpty then mine
    else rankBits p (blockBits p (stream + block + j)) ((chunks w 512 mine).map fun b => grayLevel p.m (bitsValue b)) (free j)
  blocks ++ (info.drop n).take (signInfo p)

/-- Bits that the deframer keeps of a stream: two frames of the longest kind (log 35). -/
def streamKeep : Nat := 2 * 512 * (16 + 8 * 128)

/-- Bits join a stream; the oldest go. -/
def RxStream.push (r : RxStream) (bits : List Bool) (hurt : Bool) : RxStream :=
  let from_ := r.start + r.bits.length
  let all := r.bits ++ bits
  let gone := all.length - streamKeep
  { start := r.start + gone, bits := all.drop gone,
    hurt := (r.hurt ++ (if hurt then [(from_, from_ + bits.length)] else [])).filter fun h => h.2 > r.start + gone }

/-- The bits before a position go. -/
def RxStream.dropTo (r : RxStream) (position : Nat) : RxStream :=
  let gone := min (position - r.start) r.bits.length
  { start := r.start + gone, bits := r.bits.drop gone, hurt := r.hurt.filter fun h => h.2 > r.start + gone }

/-- An uncorrectable position carried a bit of the frame, which ends before a position (R206). -/
def RxFrame.damagedTo (f : RxFrame) (next : Nat) : Bool := f.hurt.any fun h => h.1 < next && f.position < h.2

/-- The streams that run: the one whose hypothesis holds, all five while the phase is open, one in Still (R205). -/
def FecState.streamRuns (f : FecState) (p : Profile) (k : Fin 5) : Bool :=
  match f.phase with | some c => c == k | none => !p.counts.isEmpty || k == 0

/-- A group has been output: its data bits join the streams (R205). -/
def FecState.deliver (f : FecState) (w : WindowPosition) (free : Nat → Nat) : FecState :=
  match profileOf w.line with
  | none => f
  | some p =>
    if !w.data then f
    else { f with streams := Vector.ofFn fun k =>
      if f.streamRuns p k then
        (f.streams[k]).push (groupData p k.val w.block f.decided fun j => free (16 * k.val + j)) f.hurt
      else f.streams[k] }

/-- The oldest position leaves the window with its decisions (R202, R206). -/
def FecState.output (f : FecState) (w : WindowPosition) (out : List (BitVec 256)) (good : Bool) (free : Nat → Nat) :
    FecState :=
  let same : Bool := match (f.window.drop 1).head? with | some v => v.chain == w.chain | none => true
  let g : FecState := { f with
    window := f.window.drop 1, before := if same then out :: f.before.take 1 else [],
    decided := f.decided ++ [out], hurt := f.hurt || !good }
  if w.last then { g.deliver w free with decided := [], hurt := false } else g

/-! ## The group hunt (R204) -/

/-- Groups that hold ten positions. -/
def huntGroups (p : Profile) : Nat := (9 + p.positions) / p.positions
/-- Data symbols that the hunt takes: ten positions from every candidate offset. -/
def huntLength (p : Profile) : Nat := (huntGroups p + 1) * groupSymbols p

/-- Hard decisions on ten consecutive positions from an offset. -/
def huntPositions (p : Profile) (noise : Quad) (symbols : List Quad) (off : Nat) : List (List (BitVec 256)) :=
  ((List.range (huntGroups p)).flatMap fun g =>
    (groupPositions p noise ((symbols.drop (off + groupSymbols p * g)).take (groupSymbols p)) false).map fun l =>
      hardBlocks l.1).take 10

/-- Ones in a block. -/
def ones256 (v : BitVec 256) : Nat := (List.range 256).countP fun i => v.getLsbD i

/-- Checks that hard decisions on ten positions leave unsatisfied, the first two positions' rows skipped (R204). -/
def unsatisfied (rows : Nat) (xs : List (List (BitVec 256))) : Nat :=
  ((List.range 8).map fun k => ((List.range rows).map fun i =>
    ones256 (rowSum 0 i (xs.getD (k + 2) []) (fun _ => true) ^^^ rowSum 1 i (xs.getD (k + 1) []) (fun _ => true)
      ^^^ rowSum 2 i (xs.getD k []) (fun _ => true))).sum).sum

/-- The count of every candidate offset (R204). -/
def huntCounts (p : Profile) (noise : Quad) (symbols : List Quad) : List Nat :=
  (List.range (groupSymbols p)).map fun off => unsatisfied p.rows (huntPositions p noise symbols off)

/-! ## Starting and stopping (R204, R211) -/

/-- Nothing is held any more, and nothing is known of the chain (R211, R214). -/
def FecState.clear (f : FecState) : FecState :=
  { f with
    aligned := false, phase := none, testing := false, coming := .idle, index := none, chainStart := none, change := none,
    symbols := [], heard := [], window := [], before := [], decided := [], hurt := false,
    streams := Vector.replicate 5 {}, chainFnr := 0 }

/-- The profile changes while the chain's change was not foreseen: what comes in is taken as groups of the new profile,
wherever they begin (log 35). -/
def FecState.rebase (f : FecState) (line : Nat) : FecState :=
  { f with
    line := line, coming := .data, chain := f.chain + 1, index := none, chainStart := none, change := none,
    symbols := [], chainFnr := 0 }

/-- Data symbols that still come before a chain that is foreseen, `queued` of them waiting already (R199). -/
def FecState.chainIn (f : FecState) (queued : Nat) : Option Nat :=
  match f.coming, f.change, profileOf f.line with
  | .closing n, some _, some p => some (n * groupSymbols p - f.symbols.length - queued)
  | _, _, _ => none

/-- Groups are aligned: the next symbol begins one, of a chain whose start was not seen (R204). -/
def FecState.align (f : FecState) (line off : Nat) : FecState :=
  { f.clear with
    aligned := true, offset := off, line := line, coming := .data, chain := f.chain + 1, block := 0,
    chainFnr := f.chainFnr }

end Sys2Proof.Machine
end

