-- ==== Sys2Proof/Machine/Framing.lean ====
section
/-! DEFINITION. The Brihezu frame as bits: header and HCRC (R218), scrambler (R220, R221), overhead fields (R223 to
R226), and the records of a client port's stream (R231). -/

namespace Sys2Proof.Machine

/-- CRC-16 of R218 over bits in transmission order. -/
def crc16 (bits : List Bool) : BitVec 16 :=
  bits.foldl (fun c b => if c.getLsbD 15 ^^ b then (c <<< 1) ^^^ 0x1021#16 else c <<< 1) 0xFFFF#16

/-- Bits of a byte string, most significant bit of the first byte first (R217). -/
def bytesBits (b : Bytes) : List Bool := (b.map fun x => natBits 8 x.toNat).flatten

/-- Bytes from bits in transmission order. -/
def bitsBytes (b : List Bool) : Bytes := (chunks 8 (b.length / 8 + 1) b).map fun c => byte (bitsValue c)

/-- Bits of a bit vector, most significant first. -/
def vecBits {w : Nat} (v : BitVec w) : List Bool := natBits w v.toNat

/-- The header's first 48 bits (R218). -/
def headerHead (fn : BitVec 32) (mapgen : Nat) (linkid : Byte) (profile : Nat) : List Bool :=
  vecBits fn ++ natBits 4 mapgen ++ vecBits linkid ++ natBits 4 profile

/-- The header with its HCRC (R218). -/
def headerBits (fn : BitVec 32) (mapgen : Nat) (linkid : Byte) (profile : Nat) : List Bool :=
  let h := headerHead fn mapgen linkid profile
  h ++ vecBits (crc16 h)

/-- A received header passes HCRC (R218). -/
def headerOk (h : BitVec 64) : Bool :=
  let bits := vecBits h
  bitsValue (bits.drop 48) == (crc16 (bits.take 48)).toNat

/-- FN of a received header. -/
def headerFn (h : BitVec 64) : BitVec 32 := h.extractLsb' 32 32
/-- MAPGEN of a received header. -/
def headerMapgen (h : BitVec 64) : Nat := (h.extractLsb' 28 4).toNat
/-- LINKID of a received header. -/
def headerLinkid (h : BitVec 64) : Byte := h.extractLsb' 20 8
/-- PROFILE of a received header. -/
def headerProfile (h : BitVec 64) : Nat := (h.extractLsb' 16 4).toNat

/-- The scrambler's seed for a frame number (R221). -/
def scrambleSeed (fn : BitVec 32) : BitVec 31 :=
  let v := fn.setWidth 31 ^^^ 0x1D2E3F41#31
  let v := if fn.getLsbD 31 then v ^^^ 0x40000000#31 else v
  if v == 0 then 1#31 else v

/-- Scramble or descramble bits: the result and the register after them (R220). -/
def scramble : List Bool → BitVec 31 → List Bool × BitVec 31
  | [], s => ([], s)
  | b :: rest, s =>
    let out := s.getLsbD 30
    let s' := (s <<< 1) ||| (BitVec.ofBool (s.getLsbD 30 ^^ s.getLsbD 27)).setWidth 31
    let r := scramble rest s'
    ((b ^^ out) :: r.1, r.2)

/-! ## Overhead fields -/

/-- OHF (R225). -/
def ohf (o : Overhead) : Nat := o.omitted.toNat * 8192 + bit o.scValid 12 + bit o.scEnc 11

/-- Frame bits 64 to 2,015: every overhead field at its place, reserved bits zero (R223). -/
def overheadHead (o : Overhead) : List Bool :=
  natBits 16 (ohf o) ++ vecBits o.scb ++ vecBits o.depReason ++ vecBits o.depLeft ++ vecBits o.aps ++ vecBits o.fstat
  ++ List.replicate 312 false
  ++ vecBits o.bdiSum ++ (List.range 128).map o.bdiSlot.getLsbD ++ List.replicate 368 false
  ++ vecBits o.cann.token ++ vecBits o.cann.target ++ vecBits o.cann.mask ++ vecBits o.cann.phase
  ++ List.replicate 14 false
  ++ vecBits o.cack.token ++ vecBits o.cack.target ++ vecBits o.cack.response ++ List.replicate 348 false
  ++ vecBits o.ltsSec ++ vecBits o.ltsNs ++ vecBits o.ltsFrac ++ vecBits o.ltsTs ++ [o.echoValid]
  ++ List.replicate 3 false ++ vecBits o.echo ++ vecBits o.dwell ++ List.replicate 312 false

/-- Tiles 0 to 3 from bit 64 on, with OHC (R224). -/
def overheadBits (o : Overhead) : List Bool :=
  let h := overheadHead o
  h ++ vecBits (crc32 (bitsBytes h))

/-- Number in bits `from` to `from + w − 1` of the frame, `b` being the bits from frame bit 64. -/
def ohField (b : List Bool) (start w : Nat) : Nat := bitsValue ((b.drop (start - 64)).take w)

/-- Descrambled bits 64 to 2,047 pass OHC (R224). -/
def overheadOk (b : List Bool) : Bool :=
  bitsValue (b.drop 1952) == (crc32 (bitsBytes (b.take 1952))).toNat

/-- OMIT of descrambled bits 64 to 2,047; 0 where OHC fails (R222, R224). -/
def omitOf (b : List Bool) : Nat := if overheadOk b then ohField b 64 3 else 0

/-- The overhead fields of descrambled bits 64 to 2,047 (R223). -/
def parseOverhead (b : List Bool) : Overhead :=
  { omitted := BitVec.ofNat 3 (ohField b 64 3), scValid := ohField b 67 1 == 1, scEnc := ohField b 68 1 == 1,
    scb := BitVec.ofNat 8 (ohField b 80 8), depReason := BitVec.ofNat 8 (ohField b 88 8),
    depLeft := BitVec.ofNat 8 (ohField b 96 8), aps := BitVec.ofNat 32 (ohField b 104 32),
    fstat := BitVec.ofNat 64 (ohField b 136 64), bdiSum := BitVec.ofNat 16 (ohField b 512 16),
    bdiSlot := BitVec.ofNat 128 (bitsValue ((b.drop 464).take 128).reverse),
    cann := { token := BitVec.ofNat 32 (ohField b 1024 32), target := BitVec.ofNat 32 (ohField b 1056 32),
              mask := BitVec.ofNat 16 (ohField b 1088 16), phase := BitVec.ofNat 2 (ohField b 1104 2) },
    cack := { token := BitVec.ofNat 32 (ohField b 1120 32), target := BitVec.ofNat 32 (ohField b 1152 32),
              response := BitVec.ofNat 4 (ohField b 1184 4) },
    ltsSec := BitVec.ofNat 48 (ohField b 1536 48), ltsNs := BitVec.ofNat 32 (ohField b 1584 32),
    ltsFrac := BitVec.ofNat 16 (ohField b 1616 16), ltsTs := BitVec.ofNat 4 (ohField b 1632 4),
    echoValid := ohField b 1636 1 == 1, echo := BitVec.ofNat 32 (ohField b 1640 32),
    dwell := BitVec.ofNat 32 (ohField b 1672 32) }

/-- Bits of a frame whose header carries PROFILE `code` and whose OHF carries OMIT (R235). -/
def frameLength (code omitted : Nat) : Nat := 512 * (16 + 8 * slotsOf (code % 8) - omitted)

/-- All bits of a transmitted frame: header, scrambled overhead tiles 0 to 15 less the omitted ones, scrambled payload
(R216, R220, R222). -/
def frameBits (f : TxFrame) : List Bool :=
  let elastic := List.replicate (512 * (12 - f.overhead.omitted.toNat)) false
  headerBits f.fn f.mapgen.toNat f.linkid f.profile.toNat
    ++ (scramble (overheadBits f.overhead ++ elastic ++ bytesBits f.tiles.flatten) (scrambleSeed f.fn)).1

/-- Descramble a received frame: overhead bits 64 to 2,047, and `tiles` payload tiles out of the bits that follow.  The
register passes the elastic tiles that were sent (R220). -/
def descramble (fn : BitVec 32) (overhead : BitVec 1984) (rest : List Bool) (tiles : Nat) : List Bool × List Bytes :=
  let o := scramble (vecBits overhead) (scrambleSeed fn)
  let elastic := 512 * (12 - min 4 (omitOf o.1))
  let gap := scramble (List.replicate elastic false) o.2
  let body := (scramble ((rest.drop elastic).take (512 * tiles)) gap.2).1
  (o.1, blocks 64 tiles (bitsBytes body))

/-! ## Records of a client port's stream (R231) -/

/-- A frame record: header and the client frame's bytes. -/
def frameRecord (frame : Bytes) : Bytes := beBytes 2 (0x4000 + frame.length) ++ frame

/-- A received tile counts as all ones (R229, R238). -/
def allOnes (tile : Bytes) : Bool := tile.all (· == 0xFF)

end Sys2Proof.Machine
end

