-- ==== Sys2Proof/Machine/Cipher.lean ====
section
/-! DEFINITION. The ciphers Millrace computes, as the standards that the spec names define them: AES-128 and AES-256
(FIPS 197), CMAC (SP 800-38B), GCM (SP 800-38D), CFB-8 (SP 800-38A) and AES key unwrap (SP 800-38F).  The spec cites
these standards and gives no formula: PRESUMED, log 6. -/

namespace Sys2Proof.Machine

/-! ## AES: a block is a number of 128 bits, its first byte the most significant, four bytes a column -/

/-- The S-box of FIPS 197, a row of sixteen bytes for each upper digit. -/
def sboxRows : List Nat := [
   0x637c777bf26b6fc53001672bfed7ab76, 0xca82c97dfa5947f0add4a2af9ca472c0,
   0xb7fd9326363ff7cc34a5e5f171d83115, 0x04c723c31896059a071280e2eb27b275,
   0x09832c1a1b6e5aa0523bd6b329e32f84, 0x53d100ed20fcb15b6acbbe394a4c58cf,
   0xd0efaafb434d338545f9027f503c9fa8, 0x51a3408f929d38f5bcb6da2110fff3d2,
   0xcd0c13ec5f974417c4a77e3d645d1973, 0x60814fdc222a908846eeb814de5e0bdb,
   0xe0323a0a4906245cc2d3ac629195e479, 0xe7c8376d8dd54ea96c56f4ea657aae08,
   0xba78252e1ca6b4c6e8dd741f4bbd8b8a, 0x703eb5664803f60e613557b986c11d9e,
   0xe1f8981169d98e949b1e87e9ce5528df, 0x8ca1890dbfe6426841992d0fb054bb16]

/-- The inverse S-box of FIPS 197. -/
def invSboxRows : List Nat := [
   0x52096ad53036a538bf40a39e81f3d7fb, 0x7ce339829b2fff87348e4344c4dee9cb,
   0x547b9432a6c2233dee4c950b42fac34e, 0x082ea16628d924b2765ba2496d8bd125,
   0x72f8f66486689816d4a45ccc5d65b692, 0x6c704850fdedb9da5e154657a78d9d84,
   0x90d8ab008cbcd30af7e45805b8b34506, 0xd02c1e8fca3f0f02c1afbd0301138a6b,
   0x3a9111414f67dcea97f2cfcef0b4e673, 0x96ac7422e7ad3585e2f937e81c75df6e,
   0x47f11a711d29c5896fb7620eaa18be1b, 0xfc563e4bc6d279209adbc0fe78cd5af4,
   0x1fdda8338807c731b11210592780ec5f, 0x60517fa919b54a0d2de57a9f93c99cef,
   0xa0e03b4dae2af5b0c8ebbb3c83539961, 0x172b047eba77d626e169146355210c7d]

/-- The byte that a box gives for another. -/
def boxAt (rows : List Nat) (a : Nat) : Nat := rows.getD (a / 16) 0 >>> (8 * (15 - a % 16)) % 256

/-- The sixteen bytes multiplied by x in the AES field. -/
def xtimes (s : Nat) : Nat :=
  (s &&& 0x7F7F7F7F7F7F7F7F7F7F7F7F7F7F7F7F) * 2 ^^^ (s >>> 7 &&& 0x01010101010101010101010101010101) * 0x1B

/-- The sixteen bytes multiplied in the AES field by a constant below 16. -/
def mulBy (m s : Nat) : Nat :=
  let s2 := xtimes s
  let s4 := xtimes s2
  let s8 := xtimes s4
  m % 2 * s ^^^ m / 2 % 2 * s2 ^^^ m / 4 % 2 * s4 ^^^ m / 8 % 2 * s8

/-- Each column turned upwards by one row. -/
def turnUp (s : Nat) : Nat :=
  (s &&& 0x00FFFFFF00FFFFFF00FFFFFF00FFFFFF) * 256 + (s >>> 24 &&& 0x000000FF000000FF000000FF000000FF)

/-- The columns multiplied by the circulant matrix whose first row is `p`, `q`, `r`, `t`. -/
def mixWith (p q r t s : Nat) : Nat :=
  let s1 := turnUp s
  let s2 := turnUp s1
  mulBy p s ^^^ mulBy q s1 ^^^ mulBy r s2 ^^^ mulBy t (turnUp s2)

/-- Row `i % 4` turned by `step` columns times its number, and each byte passed through a box. -/
def substitute (rows : List Nat) (step s : Nat) : Nat :=
  (List.range 16).foldl (fun a i => a * 256 + boxAt rows (s >>> (8 * (15 - (i + 4 * step * (i % 4)) % 16)) % 256)) 0

/-- A word of four bytes passed through the S-box. -/
def subWord (w : Nat) : Nat := (List.range 4).foldl (fun a i => a * 256 + boxAt sboxRows (w >>> (8 * (3 - i)) % 256)) 0

/-- Key expansion, newest word first: adds the word numbered `i` (counted from the key length in words `nk`), with the
round constant. -/
def expandWord (nk : Nat) (a : List Nat × Nat) (i : Nat) : List Nat × Nat :=
  let prev := a.1.headD 0
  let old := a.1.getD (nk - 1) 0
  if i % nk == 0 then
    ((old ^^^ subWord (turnUp prev) ^^^ a.2 * 2 ^ 24) :: a.1, xtimes a.2)
  else if nk > 6 && i % nk == 4 then ((old ^^^ subWord prev) :: a.1, a.2)
  else ((old ^^^ prev) :: a.1, a.2)

/-- Words of four bytes gathered into blocks of four words. -/
def gather : List Nat → List Nat
  | a :: b :: c :: d :: rest => (((a * 2 ^ 32 + b) * 2 ^ 32 + c) * 2 ^ 32 + d) :: gather rest
  | _ => []

/-- The round keys of an AES key of 16 or 32 bytes, in order. -/
def roundKeys (key : Bytes) : List Nat :=
  let nk := key.length / 4
  let first := ((blocks 4 nk key).map beValue).reverse
  gather ((List.range (3 * nk + 28)).foldl (fun a i => expandWord nk a (nk + i)) (first, 1)).1.reverse

/-- AES encryption of one block under its round keys (FIPS 197). -/
def encryptBlock (keys : List Nat) (block : Nat) : Nat :=
  match keys with
  | [] => block
  | k0 :: ks =>
    let body := ks.dropLast.foldl (fun s k => mixWith 2 3 1 1 (substitute sboxRows 1 s) ^^^ k) (block ^^^ k0)
    substitute sboxRows 1 body ^^^ ks.getLastD 0

/-- AES decryption of one block under its round keys (FIPS 197). -/
def decryptBlock (keys : List Nat) (block : Nat) : Nat :=
  match keys.reverse with
  | [] => block
  | k0 :: ks =>
    let body := ks.dropLast.foldl (fun s k => mixWith 14 11 13 9 (substitute invSboxRows 3 s ^^^ k)) (block ^^^ k0)
    substitute invSboxRows 3 body ^^^ ks.getLastD 0

/-- AES encryption of 16 bytes under a key of 16 or 32 bytes. -/
def aesEncrypt (key block : Bytes) : Bytes := beBytes 16 (encryptBlock (roundKeys key) (beValue block))

/-- Byte `i` of a byte string, zero past its end. -/
def byteAt (b : Bytes) (i : Nat) : Byte := b.getD i 0

/-! ## Modes -/

/-- Doubling of a 16-byte block in the CMAC field (SP 800-38B). -/
def doubleBlock (b : Bytes) : Bytes :=
  let v := BitVec.ofNat 128 (beValue b)
  be 16 ((v <<< 1) ^^^ (if v.getLsbD 127 then 0x87#128 else 0#128))

/-- AES-CMAC, 16 bytes (SP 800-38B). -/
def cmac (key msg : Bytes) : Bytes :=
  let k1 := doubleBlock (aesEncrypt key (zeros 16))
  let bs := blocks 16 (msg.length / 16 + 1) msg
  let last := bs.getLastD []
  let final := if last.length == 16 then xorBytes last k1
    else xorBytes (fit 16 (last ++ [0x80#8])) (doubleBlock k1)
  let c := bs.dropLast.foldl (fun c b => aesEncrypt key (xorBytes c b)) (zeros 16)
  aesEncrypt key (xorBytes c final)

/-- One step of AES key unwrap (SP 800-38F): the integrity register, the blocks of 64 bits, and step number `t` from 6n
down. -/
def unwrapStep (keys : List Nat) (n : Nat) (st : Nat × List Nat) (t : Nat) : Nat × List Nat :=
  let i := (t - 1) % n
  let d := decryptBlock keys ((st.1 ^^^ t) * 2 ^ 64 + st.2.getD i 0)
  (d / 2 ^ 64, st.2.set i (d % 2 ^ 64))

/-- AES key unwrap: the key data, or nothing when the integrity check fails (SP 800-38F). -/
def keyUnwrap (kek c : Bytes) : Option Bytes :=
  match (blocks 8 (c.length / 8 + 1) c).map beValue with
  | [] => none
  | a :: rs =>
    let n := rs.length
    let out := (List.range (6 * n)).foldl (fun st j => unwrapStep (roundKeys kek) n st (6 * n - j)) (a, rs)
    if out.1 == 0xA6A6A6A6A6A6A6A6 then some (out.2.map (beBytes 8)).flatten else none

/-- Multiplication in the GCM field (SP 800-38D), most significant bit first. -/
def ghashMul (x y : BitVec 128) : BitVec 128 :=
  ((List.range 128).foldl (fun (a : BitVec 128 × BitVec 128) i =>
    (if x.getMsbD i then a.1 ^^^ a.2 else a.1,
     (a.2 >>> 1) ^^^ (if a.2.getLsbD 0 then 0xE1000000000000000000000000000000#128 else 0#128))) (0, y)).1

/-- GHASH over whole blocks. -/
def ghash (h : BitVec 128) (bs : List Bytes) : BitVec 128 :=
  bs.foldl (fun y b => ghashMul (y ^^^ BitVec.ofNat 128 (beValue (fit 16 b))) h) 0

/-- Blocks of a byte string, the last padded with zeros. -/
def padBlocks (b : Bytes) : List Bytes := blocks 16 (b.length / 16 + 1) b

/-- GCM counter-mode transform with a 12-byte nonce (SP 800-38D). -/
def gcmCtr (key nonce data : Bytes) : Bytes :=
  ((padBlocks data).zipIdx.map fun (b, i) => xorBytes b (aesEncrypt key (nonce ++ beBytes 4 (i + 2)))).flatten

/-- GCM tag over the additional data and the ciphertext (SP 800-38D). -/
def gcmTag (key nonce aad ct : Bytes) : Bytes :=
  let h := BitVec.ofNat 128 (beValue (aesEncrypt key (zeros 16)))
  let y := ghash h (padBlocks aad ++ padBlocks ct ++ [beBytes 8 (8 * aad.length) ++ beBytes 8 (8 * ct.length)])
  xorBytes (be 16 y) (aesEncrypt key (nonce ++ beBytes 4 1))

/-- One byte of CFB-8 encryption: the output byte and the new shift register (SP 800-38A). -/
def cfb8Encrypt (key shift : Bytes) (b : Byte) : Byte × Bytes :=
  let c := b ^^^ byteAt (aesEncrypt key shift) 0
  (c, shift.drop 1 ++ [c])

/-- One byte of CFB-8 decryption. -/
def cfb8Decrypt (key shift : Bytes) (c : Byte) : Byte × Bytes :=
  (c ^^^ byteAt (aesEncrypt key shift) 0, shift.drop 1 ++ [c])

end Sys2Proof.Machine
end

