-- ==== Sys2Proof/Machine/HubTypes.lean ====
section
/-! DEFINITION. The data types of the host ports, the supervisor pair, the counter collector, power and reset, the
non-volatile store and boundary scan (spec chapters 03, 18, 19, 20, 21).  Each field's comment gives its width, the
rule that names it and its reset value. -/

namespace Sys2Proof.Machine

/-- The status values of R54. -/
inductive Status where
  | ok | okDeferred | fresh | version | crcError | length | sequence | authFail | authRequired | skipped
  | unknownOpcode | badParam | range | inconsistent | past | notTenant | notPrincipal | busy | notReady | headless
  | queueFull | calInvalid | quarantined | keyAbsent | exhausted | suspended | poisoned
  deriving DecidableEq, Repr

/-- An event record (R55). -/
structure Event where
  time : BitVec 48
  code : BitVec 16
  inst : BitVec 16
  data : Bytes
  deriving DecidableEq, Repr

/-- A queued reply (R41, R43); `opcode` is the model's note of the request answered, for R513. -/
structure Reply where
  seq : BitVec 16
  opcode : BitVec 16
  bytes : Bytes
  deriving DecidableEq, Repr

/-- A range of flow contexts or key slots (R59). -/
structure TenancyRange where
  first : BitVec 32 := 0
  count : BitVec 32 := 0
  deriving DecidableEq, Repr

/-- The tenancy of a port HP1 to HP3 (R58, R59). -/
structure Tenancy where
  engines : BitVec 4 := 0
  tpo : BitVec 4 := 0
  sc : BitVec 4 := 0
  cports : BitVec 64 := 0
  ctx : List TenancyRange := []
  ks : List TenancyRange := []
  deriving DecidableEq, Repr

/-- What a port last did on its bus: the model's own record of its output (R40, R41). -/
inductive BusAnswer where
  | idle | ack | nack | ignored | data (bytes : Bytes)
  deriving DecidableEq, Repr

/-- A port key, KEK or command-authentication key (R331, R343). -/
structure PortKey where
  /-- 16 or 32 bytes, none when absent; 12 R343; reset none -/
  key : Option Bytes := none
  /-- 16 bits; 12 R331 generation; reset 0 -/
  gen : BitVec 16 := 0
  deriving DecidableEq, Repr

/-- One host port HP0 to HP3. -/
structure Port where
  /-- 7 bits or none; 03 R40 dynamic address; reset none -/
  dynAddr : Option (BitVec 7) := none
  /-- one bit; 03 R42 IBIs enabled; reset 1 -/
  ibiOn : Bool := true
  /-- one bit; 03 R40 the bus is in HDR-DDR; reset 0 -/
  hdr : Bool := false
  /-- one bit; 03 R47 AUTH_REQ; reset 0 -/
  authReq : Bool := false
  /-- 16 bits; 03 R66 IBI_HOLDOFF; reset 0 -/
  holdoff : BitVec 16 := 0
  /-- 32 bits; 03 R66 EVENT_MASK; reset 0x000F_FFFE -/
  mask : BitVec 32 := 0x000FFFFE
  /-- 16 bits; 03 R48 NEXT_SEQ; reset 0 -/
  nextSeq : BitVec 16 := 0
  /-- 16 bits; 03 R46 WRAP; reset 0 -/
  wrap : BitVec 16 := 0
  /-- 48 bits; 03 R46 SESSION_START; reset module time at ready -/
  sessionStart : BitVec 48 := 0
  /-- up to 16 accepted requests with their opcodes; 03 R50 request queue; reset empty -/
  queue : List (BitVec 16 × Request) := []
  /-- requests in execution that are answered later; 03 R41, R52 their reply slots stay reserved; reset empty -/
  running : List (BitVec 16 × Request) := []
  /-- up to 16; 03 R41 reply queue; reset empty -/
  replies : List Reply := []
  /-- one reply or none; 03 R49 retained copy; reset none -/
  retained : Option Reply := none
  /-- one bit; 03 R51 a chained request has failed; reset 0 -/
  chainFailed : Bool := false
  /-- requests answered later that the chain in progress does not concern: those with CHAIN = 0, and those open at a
  PORT_RESET; 03 R51, R67; reset empty -/
  offChain : List (BitVec 16 × Request) := []
  /-- counter, 48 bits; 03 R41 short writes discarded; reset 0 -/
  shortWrites : BitVec 48 := 0
  /-- counter; 03 R47 consecutive AUTH-FAIL answers; reset 0 -/
  authFails : Nat := 0
  /-- counter; 12 R330 consecutive failed unwraps; reset 0 -/
  unwrapFails : Nat := 0
  /-- up to 256 records; 03 R56 event queue; reset empty -/
  events : List Event := []
  /-- 32 bits; 03 R57 lost count; reset 0 -/
  lost : BitVec 32 := 0
  /-- 48 bits; 03 R57 time of the first lost event; reset 0 -/
  firstLost : BitVec 48 := 0
  /-- 03 R58 tenancy; reset empty -/
  tenancy : Tenancy := {}
  /-- 12 R331 key-encryption key; reset absent -/
  kek : PortKey := {}
  /-- 12 R331 command-authentication key; reset absent -/
  cak : PortKey := {}
  /-- counter; 03 R42 IBIs requested, the model's record of the output; reset 0 -/
  ibis : Nat := 0
  /-- three bytes; 03 R42 payload of the last IBI requested, the model's record of the output; reset empty -/
  ibiPayload : Bytes := []
  /-- 03 R40, R41 the port's last answer on its bus, the model's record of the output; reset idle -/
  bus : BusAnswer := .idle
  deriving DecidableEq, Repr

/-- State of one supervisor (R479). -/
inductive SupUnit where
  | active | standby | failed | restoring
  deriving DecidableEq, Repr

/-- A deferred operation's issuer, for its cmd.done (R52). -/
structure Deferred where
  opcode : BitVec 16
  port : Hp
  tag : Byte
  seq : BitVec 16
  deriving DecidableEq, Repr

/-- A takeover declared and not yet complete (R468). -/
structure Takeover where
  failed : Fin 2
  cause : Byte
  deriving DecidableEq, Repr

/-- A drill in progress (R470): the unit that yielded, whether the other one has taken over, and its issuer. -/
structure Swap where
  yielded : Fin 2
  taken : Bool
  returning : Bool
  issuer : Deferred
  deriving DecidableEq, Repr

/-- A restore in progress (R471, R472); an automatic one has no issuer. -/
structure Restore where
  target : Fin 2
  issuer : Option Deferred
  deriving DecidableEq, Repr

/-- The supervisor pair and the referee (R464 to R480). -/
structure SupState where
  /-- four codes; 18 R479 STATE_A, STATE_B; reset active, standby -/
  units : Vector SupUnit 2 := #v[.active, .standby]
  /-- 8 bits each; 18 R479 CAUSE_A, CAUSE_B; reset 0 -/
  causes : Vector Byte 2 := #v[0, 0]
  /-- 0 or 1; 18 R479 ACTIVE; reset SUP-A -/
  active : Fin 2 := 0
  /-- 3 bits; 18 R479 REFEREE; reset 0 -/
  referee : BitVec 3 := 0
  /-- 32 bits; 18 R479 TAKEOVERS; power-on reset 0, otherwise kept -/
  takeovers : BitVec 32 := 0
  /-- 32 bits; 18 R479 JOURNAL_SEQ; reset 0 -/
  journal : BitVec 32 := 0
  /-- 48 bits; 18 R479 LAST_TAKEOVER; power-on reset 0, otherwise kept -/
  lastTakeover : BitVec 48 := 0
  /-- 16 bits; 18 R479 LAST_DURATION; power-on reset 0, otherwise kept -/
  lastDuration : BitVec 16 := 0
  /-- 16 bits each; 18 R479 FAILURES_A, FAILURES_B; power-on reset 0, otherwise kept -/
  failures : Vector (BitVec 16) 2 := #v[0, 0]
  /-- 2 bits; 18 R478 FLAGS AUTO_RESTORE and FAULT_ON_SIMPLEX; reset 0 -/
  flags : BitVec 2 := 0
  /-- 0 to 2; 18 R467 consecutive windows without a valid heartbeat; reset 0 -/
  missed : Nat := 0
  /-- 32 bits each, by voter; 18 R467 journal sequence number of the active unit's last valid heartbeat; reset 0 -/
  lastBeat : Vector (BitVec 32) 3 := #v[0, 0, 0]
  /-- 0 to 2; 18 R465 consecutive failures of a journal record; reset 0 -/
  journalFails : Nat := 0
  /-- 18 R468 takeover in progress; reset none -/
  takeover : Option Takeover := none
  /-- 18 R470 drill in progress; reset none -/
  swap : Option Swap := none
  /-- 18 R471 restore in progress; reset none -/
  restore : Option Restore := none
  /-- 48 bits each; 18 R472 module time of the last automatic restore; reset none -/
  lastAuto : Vector (Option (BitVec 48)) 2 := #v[none, none]
  /-- one bit each; 18 R472 SUP_RESTORE has succeeded since the last automatic restore; reset 0 -/
  hostRestored : Vector Bool 2 := #v[false, false]
  /-- one bit each; 18 R472 an automatic restore is postponed; reset 0 -/
  autoDue : Vector Bool 2 := #v[false, false]
  /-- 48 bits each; 18 R472 module time of the last failure; reset 0 -/
  failedAt : Vector (BitVec 48) 2 := #v[0, 0]
  /-- one bit; 18 R473 headless; reset 0 -/
  headless : Bool := false
  deriving DecidableEq, Repr

/-- A pending commit (R80, R88, R91 to R96). -/
structure Commit where
  /-- 1 to 16; 04 R88 COMMIT_ID -/
  id : Nat
  /-- 04 R91 issuing port -/
  port : Hp
  /-- 8 bits; 04 R84 TRIGGER -/
  trigger : Byte
  /-- 4 bits; 04 R88 ENGINES -/
  engines : BitVec 4
  /-- 04 R88 REF_ENGINE -/
  ref : Eng
  /-- 16 bits; 04 R78 CLASSES -/
  classes : BitVec 16
  /-- 32 bits; 04 R88 TOKEN -/
  token : BitVec 32
  /-- 0x01 to 0x06; 04 R91 STATE -/
  state : Byte
  /-- 32 bits each; 04 R85 own target of each engine, taken when validation completed or T_B formed -/
  targets : Vector (BitVec 32) 4
  /-- 48 and 32 bits; 04 R88 TARGET_SEC and TARGET_NS -/
  targetTime : BitVec 48 × BitVec 32
  /-- 48 bits; 04 R84 module time of the boundary of a NOW trigger, or of the tick after a forward step; none else -/
  dueTick : Option (BitVec 48)
  /-- 32 bits; 04 R86 frames late, none when the group is not late -/
  late : Option (BitVec 32)
  /-- 32 bits each; 04 R91 far targets by engine, zero until known -/
  far : Vector (BitVec 32) 4
  /-- 4 bits; 04 R95 engines on which ACK has been received -/
  acks : BitVec 4
  /-- 4 bits; 04 R95 engines on which CONFIRM has been received -/
  confirms : BitVec 4
  /-- one bit; 04 R95 a CACK carried PENDING or MISMATCH -/
  mismatch : Bool
  /-- one bit; 04 R95 a CACK carried ABORT -/
  aborted : Bool
  /-- one bit; 04 R96 transmit side has taken effect -/
  txDone : Bool
  /-- 4 bits; 04 R96 engines whose receive side has taken effect -/
  rxDone : BitVec 4
  /-- one bit; 04 R96 commit.split raised -/
  split : Bool
  deriving DecidableEq, Repr

/-- A record of the factory region, as CAL_RECORDS lists it (R181, R189). -/
structure FactoryRecord where
  type : BitVec 16
  engine : Byte
  /-- 0 valid, 1 CHECK failed, 2 missing, 3 malformed -/
  status : Byte := 0
  version : BitVec 16 := 1
  length : BitVec 32 := 0
  deriving DecidableEq, Repr

/-- The records every module must hold, for `n` populated engines (R182). -/
def requiredRecords (n : Nat) : List FactoryRecord :=
  { type := 1, engine := 0xFF } ::
    ((List.range n).map fun e => [0x10, 0x11, 0x12, 0x13, 0x14].map fun t =>
      ({ type := t, engine := BitVec.ofNat 8 e } : FactoryRecord)).flatten

/-- A record of the factory region with DATA (R181): 16 bytes, DATA, pad and CHECK. -/
def factoryRecordBytes (f : FactoryRecord) (data : Bytes) : Bytes :=
  let body := be 2 f.type ++ [f.engine, 0] ++ beBytes 4 data.length ++ be 2 f.version ++ zeros 6 ++ data
    ++ zeros ((4 - data.length % 4) % 4)
  body ++ be 4 (crc32 body)

/-- The factory region from new, those of its bytes that are not 0: the required records, each without DATA (log 2). -/
def factoryCells : List Host.Cell :=
  let image := (requiredRecords 4).flatMap fun r => factoryRecordBytes r []
  ((List.range image.length).zip image).filter fun c => c.2 != 0

/-- State of one temperature sensor (R450). -/
inductive SensorMode where
  | valid | excluded | failed
  deriving DecidableEq, Repr

/-- One temperature sensor (R448, R450). -/
structure Sensor where
  /-- three codes; 17 R462 STATE; reset VALID, or FAILED by its fuse row -/
  mode : SensorMode := .valid
  /-- one bit; 17 R450 the fuse offset row failed parity; reset by the fuses -/
  fuse : Bool := false
  /-- one bit; 17 R463 the fuse fault awaits its event at the first reading; reset by the fuses -/
  fuseDue : Bool := false
  /-- signed 1/16 °C; 17 R462 TEMP; reset DESIGN CHOICE 0, log 12 -/
  temp : Int := 0
  /-- counter to 16; 17 R450 consecutive readings more than 8 °C from the median; reset 0 -/
  far : Nat := 0
  /-- counter to 1,024; 17 R450 consecutive readings within 4 °C of the median; reset 0 -/
  near : Nat := 0
  deriving DecidableEq, Repr

/-- Weir's policy (R460). -/
structure WeirPolicy where
  /-- 8 bits; 17 R460; reset 0 -/
  start : Byte := 0
  /-- 8 bits; 17 R460; reset 0 -/
  floor : Byte := 0
  /-- 8 bits; 17 R460; reset 0 -/
  orderly : Byte := 0
  /-- 8 bits; 17 R460; reset 0 -/
  release : Byte := 0
  /-- 8 bits; 17 R460; reset 0 -/
  iFloor : Byte := 0
  /-- 8 bits; 17 R460; reset 0 -/
  tapFloor : Byte := 0
  /-- 8 bits; 17 R460; reset 0 -/
  fallback : Byte := 0
  /-- 8 bits; 17 R460; reset 0 -/
  flags : Byte := 0
  /-- 16 bits; 17 R460; reset 50 -/
  marginMin : BitVec 16 := 50
  deriving DecidableEq, Repr

/-- One zone (R451). -/
structure Zone where
  /-- signed 1/16 °C, none before the first reading; 17 R461 zone temperature; reset none -/
  temp : Option Int := none
  /-- one bit; 17 R451 in fallback; reset 0 -/
  fallback : Bool := false
  /-- up to 16 earlier readings, newest first; 17 R454; reset empty -/
  past : List Int := []
  deriving DecidableEq, Repr

/-- The Weir governor (R448 to R463). -/
structure WeirState where
  /-- 17 R460 policy as written -/
  policy : WeirPolicy := {}
  /-- 17 R458 policy in force: as the last reading took it; reset as the policy -/
  inForce : WeirPolicy := {}
  /-- 104 sensors; 17 R448 -/
  sensors : Vector Sensor 104 := Vector.replicate 104 {}
  /-- nine zones; 17 R448 -/
  zones : Vector Zone 9 := Vector.replicate 9 {}
  /-- one bit; 17 R454 a shutdown or hold is in force; reset 0 -/
  hold : Bool := false
  /-- one bit; 17 R461 FLAGS bit 3, orderly stage skipped at the last shutdown; reset 0 -/
  skipped : Bool := false
  /-- one bit; 17 R458 the hold began while headless; reset 0 -/
  holdHeadless : Bool := false
  /-- signed 0.01 °C/ms; 17 R461 RISE of the hottest zone; reset 0 -/
  rise : Int := 0
  /-- one bit; 17 R457 some engine has f above 0; reset 0 -/
  throttling : Bool := false
  deriving DecidableEq, Repr

/-- A counter kind of the collector: the names that the chapters give (R481, R482, R210, R283, R376). -/
inductive CounterKind where
  | txClipped | fecPositions | fecUncorrectable | fecCorrected | fecCorrectedOnes | fecIterations | fecEarly
  | fecKnownErrors | clientStuffErrors | clientPrbsErrors | clientLaneSlips | clientFramesIn | clientBytesIn
  | clientFramesOut | clientBytesOut | clientDropFcs | clientDropPcs | clientDropSize | clientDropEgress
  | clientRsfecCorrected | clientRsfecUncorrectable | flowDropNocontext | flowDropCache | millraceBlocks
  | millraceStalls | millraceRetries | millraceKeyabsent | memReads | memWrites | memCorrected | memUncorrectable
  | memFreshReads | memMergeRmw | memMergeDiscard | memScrubWords | timeTcUnmeasured | gaugePaceLate | gaugeOverrun
  | gaugeChecksDisagreed | slotRetired | slotWasted | slotStarvedFront | slotStarvedBack | tagFrames | tagSuppressed
  | tagHist
  deriving DecidableEq, Repr

/-- One port's view of a counter (R483). -/
structure CounterView where
  snap : Nat := 0
  base : Nat := 0
  ovf : Bool := false
  deriving DecidableEq, Repr

/-- A counter of the collector: its kind and instance (R481). -/
abbrev CounterId := CounterKind × Nat

/-- A logged tagged unit (R493). -/
structure TagEntry where
  port : Cp
  bytes : Bytes
  deriving DecidableEq, Repr

/-- Tag settings (R500). -/
structure TagConfig where
  /-- 8 bits; 19 R500 TAGEXP_IN; reset 0 -/
  expIn : Byte := 0
  /-- 8 bits; 19 R500 TAGEXP_EG; reset 0 -/
  expEg : Byte := 0
  /-- 8 bits; 19 R500 BINW; reset 0 -/
  binw : Byte := 0
  /-- one bit; 19 R500 LOG_STOP; reset 0 -/
  logStop : Bool := false
  deriving DecidableEq, Repr

/-- The counter collector (R481 to R501). -/
structure Collector where
  /-- 48 or 64 bits each; 19 R483 running values V by counter key, those that are not zero; reset all 0 -/
  values : List (Nat × Nat) := []
  /-- S, B and OVF of each port; 19 R483 views, those that are not all zero; reset all 0 -/
  views : Vector (List (Nat × CounterView)) 4 := Vector.replicate 4 []
  /-- 48 bits each, by group; 19 R484 SNAP_TIME of each port; reset 0 -/
  snapTimes : Vector (List (Nat × BitVec 48)) 4 := Vector.replicate 4 []
  /-- 32 bits each; 19 R484 groups whose snapshot is due at the next MFC tick; reset none -/
  snapDue : Vector (BitVec 32) 4 := Vector.replicate 4 0
  /-- 32 bits; 19 R487 GROUP_EN; reset 0x000F_FFFE -/
  groupEn : BitVec 32 := 0x000FFFFE
  /-- 32 bits; 19 R487 GROUP_EN written, in force from the next MFC tick; reset none -/
  groupNext : Option (BitVec 32) := none
  /-- 32 bits and a sticky bit each, by event code; 19 R489 flight recorder; power-on reset 0, otherwise kept -/
  flight : List (Nat × (BitVec 32 × Bool)) := []
  /-- 19 R500 tag settings in force; reset 0 -/
  tag : TagConfig := {}
  /-- 19 R500 tag settings written, in force from the next MFC tick; reset none -/
  tagNext : Option TagConfig := none
  /-- up to 4,096 entries of 48 bytes; 19 R493 tag log; reset empty -/
  log : List TagEntry := []
  /-- 32 bits; 19 R493 LOST; reset 0 -/
  logLost : BitVec 32 := 0
  /-- 48 bits each; 19 R491 module time of the last tagged unit of each direction; reset none -/
  tagLast : Option (BitVec 48) × Option (BitVec 48) := (none, none)
  /-- one bit; 19 R493 tag.log.full raised and the log not emptied since; reset 0 -/
  logFull : Bool := false
  /-- 19 R501 first counter that wrapped in the running long interval; reset none -/
  wrapped : Option (CounterId) := none
  deriving DecidableEq, Repr

/-- Why the module is not ready, or that it is (R502 to R508). -/
inductive PowerPhase where
  | unpowered | starting | ready
  deriving DecidableEq, Repr

/-- Power, reset and pins (R502 to R517). -/
structure PowerState where
  /-- three codes; 20 R508; reset starting -/
  phase : PowerPhase := .starting
  /-- one bit; 20 R502 P12V within its range; reset 1, log 1 -/
  p12v : Bool := true
  /-- one bit; 20 R502 P3V3_AUX within its range; reset 1, log 1 -/
  aux : Bool := true
  /-- one bit; 20 R504 VIO at or above 1.5 V; reset 1, log 1 -/
  vio : Bool := true
  /-- one bit; 20 R505 RESET_N is held low; reset 0 -/
  resetLow : Bool := false
  /-- 8 bits; 20 R505 CAUSE of the reset in progress or last made; reset 0x01 -/
  cause : Byte := 1
  /-- one bit; 20 R503 P3V3_AUX was lost since the rails went off; reset 0 -/
  auxLost : Bool := false
  /-- one bit; 17 R456 the trip was latched since the last ready; reset 0 -/
  tripOff : Bool := false
  /-- 16 bits; 20 R514 RESETS; power-on reset 0, otherwise kept and counted -/
  resets : BitVec 16 := 0
  /-- 32 bits; 20 R514 READY_TIME; reset DESIGN CHOICE 0, log 12 (written at ready) -/
  readyTime : BitVec 32 := 0
  /-- one bit; 20 R514 FLAGS bit 0, hardwired trip recorded; reset 0 -/
  tripRecorded : Bool := false
  /-- one bit; 20 R514 FLAGS bit 1, oven not stable at ready; reset 0 (written at ready) -/
  ovenCold : Bool := false
  /-- one bit; 17 R456 trip latch, auxiliary domain; reset DESIGN CHOICE 0, log 12; kept across resets -/
  tripLatch : Bool := false
  /-- 3 bits; 20 R510 level of STRAP0; reset DESIGN CHOICE 0, log 12 (read before ready) -/
  strap0 : BitVec 3 := 0
  /-- 3 bits; 20 R510 level of STRAP1; reset DESIGN CHOICE 0, log 12 (read before ready) -/
  strap1 : BitVec 3 := 0
  /-- one bit; 20 R513 a MODULE_RESET has been answered and its reset has not begun; reset 0 -/
  resetDue : Bool := false
  /-- one bit; 20 R513 the reply to that MODULE_RESET has been read; reset 0 -/
  resetRead : Bool := false
  deriving DecidableEq, Repr

/-- A running NV_WRITE (R511, R515). -/
structure NvJob where
  offset : Nat
  data : Bytes
  issuer : Deferred
  deriving DecidableEq, Repr

/-- The non-volatile store (R511, R515). -/
structure NvState where
  /-- 65,536 bytes, those that are not 0; 20 R511 integrator region; reset kept, DESIGN CHOICE 0 from new, log 12 -/
  integrator : List Host.Cell := []
  /-- 262,144 bytes, those that are not 0; 07 R181, 20 R515 factory region; DESIGN CHOICE the required records, log 2 -/
  factory : List Host.Cell := factoryCells
  /-- the fuse rows that do not read 0, of every die; 07 R180; DESIGN CHOICE none, every trim 0, log 2 -/
  fuses : List FuseRow := []
  /-- 20 R511 running NV_WRITE; reset none -/
  job : Option NvJob := none
  deriving DecidableEq, Repr

/-- Instruction of the test access port (R531). -/
inductive TapInstr where
  | testLogicReset | bypass | idcode | samplePreload | extest | clamp | highz
  deriving DecidableEq, Repr

/-- Boundary scan (R531). -/
structure JtagState where
  /-- seven codes; 21 R531 current instruction; reset Test-Logic-Reset -/
  instr : TapInstr := .testLogicReset
  /-- one bit a cell; 21 R531 boundary-scan register; reset DESIGN CHOICE empty, log 12 -/
  cells : List Bool := []
  /-- bits shifted out by the last instruction, the model's record of the output; reset empty -/
  out : List Bool := []
  /-- one bit; 21 R531 contacts driven from the boundary-scan register; reset 0 -/
  driving : Bool := false
  /-- one bit; 21 R531 contacts high-impedance by HIGHZ; reset 0 -/
  floating : Bool := false
  deriving DecidableEq, Repr

/-- The ordering variants (page Ordering variants of 00). -/
inductive Variant where
  | c4 | l4 | c2
  deriving DecidableEq, Repr

/-- The event codes of every group, in the chapters' order: groups with the number of their events (R100, R129, R166,
R190, R215, R253, R284, R319, R352, R377, R399, R425, R447, R463, R480, R501, R517). -/
def eventCodes : List (BitVec 16) :=
  ([(1, 4), (3, 6), (4, 6), (5, 4), (6, 9), (7, 4), (8, 21), (9, 5), (10, 10), (11, 7), (12, 6), (13, 7), (14, 9),
    (15, 5), (16, 8), (17, 5), (18, 2), (19, 1)] : List (Nat × Nat)).flatMap fun g =>
      (List.range g.2).map fun i => BitVec.ofNat 16 (256 * g.1 + i + 1)

/-- Neighbours of a sensor: the two beside it in its zone's ring; in an optical subassembly its partner and two sensors
of its tile (R449; log 9). -/
def nearSensors (i : Nat) : List Nat :=
  if i < 32 then [(i + 31) % 32, (i + 1) % 32]
  else if i < 96 then [i / 16 * 16 + (i + 15) % 16, i / 16 * 16 + (i + 1) % 16]
  else [if i % 2 == 0 then i + 1 else i - 1, 32 + 16 * ((i - 96) / 2), 33 + 16 * ((i - 96) / 2)]

/-- Factory identity of the module: what fuses and factory records fix (R72, R481). -/
structure Identity where
  /-- three codes; 03 R72 VARIANT; DESIGN CHOICE DT1280-C4, log 2 -/
  variant : Variant := .c4
  /-- 16 bits; 03 R72 HUB_REV; DESIGN CHOICE 1, log 2 -/
  hubRev : BitVec 16 := 1
  /-- 16 bits; 03 R72 TILE_REV; DESIGN CHOICE 1, log 2 -/
  tileRev : BitVec 16 := 1
  /-- 16 bytes; 03 R72 SERIAL; DESIGN CHOICE sixteen spaces, log 2 -/
  serial : Bytes := List.replicate 16 0x20
  /-- 32 bits; 03 R72 DATE; DESIGN CHOICE 0x20250101, log 2 -/
  date : BitVec 32 := 0x20250101
  /-- 16 bits; 03 R72 CONTENT_REV; DESIGN CHOICE 1, log 2 -/
  contentRev : BitVec 16 := 1
  /-- 16 bits a kind; 19 R481 KIND numbers in the catalogue's order, then those of the flight recorder; DESIGN CHOICE
  1, 2, 3 and on, log 9 -/
  kinds : List (BitVec 16) := (List.range 165).map fun i => BitVec.ofNat 16 (i + 1)
  /-- 16 bits each; 19 R489 event code of each flight-recorder index; DESIGN CHOICE the events in the chapters'
  order, log 9 -/
  flightMap : List (BitVec 16) := eventCodes
  /-- up to 8 sensor numbers each; 17 R449 NEIGH; DESIGN CHOICE the nearest of the zone and of the tile, log 9 -/
  neighbours : List (List Nat) := (List.range 104).map nearSensors
  deriving DecidableEq, Repr

end Sys2Proof.Machine
end

