-- ==== Sys2Proof/Machine/ClientTypes.lean ====
section
/-! DEFINITION. The data types of client lanes and ports, flow contexts, the key store and context memory (spec
chapters 10 to 13).  Each field's comment gives its width, the rule that names it and its reset value. -/

namespace Sys2Proof.Machine

/-! ## Client lanes and ports -/

/-- Equalisation of a lane, class CLIENT (R278). -/
structure LaneEq where
  /-- 8 bits; 10 R278; reset 0 -/
  rxFlags : Byte := 0
  /-- 8 bits; 10 R278; reset 0 -/
  ctlePeak : Byte := 0
  /-- 8 bits; 10 R278; reset 0 -/
  swing : Byte := 0
  /-- 8 bits; 10 R278; reset 0 -/
  pre2 : Byte := 0
  /-- 8 bits; 10 R278; reset 0 -/
  pre1 : Byte := 0
  /-- 8 bits; 10 R278; reset 0 -/
  post1 : Byte := 0
  /-- 8 bits; 10 R278; reset 0 -/
  polarity : Byte := 0
  deriving DecidableEq, Repr

/-- Power state of a lane (R271). -/
inductive LanePower where
  | deep | idle | active
  deriving DecidableEq, Repr

/-- Client lane k: CIk and COk. -/
structure Lane where
  eq : Staged LaneEq := ⟨{}, {}⟩
  /-- the side of a pending paired commit that still runs on the equalisation from before it, and that equalisation;
  04 R96; reset none -/
  later : Option (HeldSide × LaneEq) := none
  /-- three codes; 10 R271; reset DEEP -/
  power : LanePower := .deep
  /-- state left, while re-adapting; 10 R284; reset none -/
  adapting : Option LanePower := none
  /-- one bit; 10 R268 loss of signal, as last detected; reset DESIGN CHOICE 0, log 12 -/
  signalLost : Bool := false
  /-- one bit; 10 R268 clock recovery not locked, as last detected; reset DESIGN CHOICE 0, log 12 -/
  clockLost : Bool := false
  /-- 0 to 40; 10 R269, R281 CTLE_NOW; reset CTLE_PEAK, 0 -/
  ctle : Byte := 0
  /-- 12 taps; 10 R269 DFE; reset DESIGN CHOICE 0, log 12 -/
  dfe : Vector Int 12 := Vector.replicate 12 0
  /-- 0 to 2; 10 R281 PRBS GEN; reset 0 -/
  gen : Byte := 0
  /-- 31 bits; 10 R273 register of the pattern generator; reset DESIGN CHOICE all ones, log 15 -/
  genReg : BitVec 31 := 0x7FFFFFFF
  /-- 0 to 2; 10 R281 PRBS CHK; reset 0 -/
  chk : Byte := 0
  /-- one bit; 10 R273 checker locked; reset 0 -/
  locked : Bool := false
  /-- one bit; 10 R273 a checker stopped while locked, whose errors the interval's end still counts; reset 0 -/
  owed : Bool := false
  /-- bit errors in the running short interval; 10 R281; reset 0 -/
  prbsNow : Nat := 0
  /-- 32 bits; 10 R281 PRBS_ERR; reset 0 -/
  prbsLast : BitVec 32 := 0
  /-- 16 bits; 10 R281 SLIPS; reset 0 -/
  slips : BitVec 16 := 0
  /-- 0 to 3; 10 R265 consecutive markers accepted; reset 0 -/
  good : Nat := 0
  /-- 0 to 4; 10 R265 consecutive markers not accepted; reset 0 -/
  bad : Nat := 0
  /-- one bit; 10 R265 in frame; reset 0 -/
  inFrame : Bool := false
  /-- 16 bits; 10 R262 LFC last received; reset DESIGN CHOICE 0, log 12 -/
  lfcRx : BitVec 16 := 0
  /-- 16 bits; 10 R262 LFC of the next frame sent; reset DESIGN CHOICE 0, log 12 -/
  lfcTx : BitVec 16 := 0
  /-- lane frames received and not yet carried, oldest first, 8 or 4 slot streams of 512 bytes each; 10 R260, R267;
  reset none -/
  streams : List (List Bytes) := []
  /-- symbols of the last lane frame, Ethernet frame or pattern sent on COk, the model's record of the output; 10 R258,
  R260; reset none -/
  out : List (Fin 4) := []
  deriving DecidableEq, Repr

/-- Equalisation that one direction of a lane runs on: the receiver CIk belongs to the transmit side of its engine, the
transmitter COk to the receive side (R96). -/
def Lane.eqOf (l : Lane) (side : HeldSide) : LaneEq :=
  match l.later with
  | some (held, q) => if held = side then q else l.eq.active
  | none => l.eq.active

/-- The receiver follows the equalisation in force: fixed peaking is CTLE_PEAK, a lane in DEEP will start from it, and a
DFE that is off has its taps zero (R269, R271). -/
def Lane.tuned (l : Lane) : Lane :=
  let q := l.eqOf .transmit
  { l with
    ctle := if q.rxFlags.getLsbD 0 || l.power == .deep then q.ctlePeak else l.ctle
    dfe := if q.rxFlags.getLsbD 1 then Vector.replicate 12 0 else l.dfe }

/-- A lane's active equalisation takes its staged value.  `side` is the side of a paired commit that switches first: the
other one keeps the equalisation it ran on (R96, R278). -/
def Lane.takeEq (l : Lane) (side : Option HeldSide) : Lane :=
  let later := side.map fun first =>
    let other : HeldSide := match first with | .transmit => .receive | .receive => .transmit
    (other, l.eqOf other)
  Lane.tuned { l with eq := { l.eq with active := l.eq.staged }, later := later }

/-- The side that switches later has switched (R96). -/
def Lane.settle (l : Lane) : Lane := Lane.tuned { l with later := none }

/-- Formation of a client port (R277). -/
structure CportConfig where
  /-- 8 bits; 10 R277; reset 0 -/
  first : Byte := 0
  /-- 8 bits; 10 R277; reset 0 -/
  width : Byte := 0
  /-- 8 bits; 10 R277; reset 0 -/
  mode : Byte := 0
  /-- 8 bits; 10 R277; reset 0 -/
  rate : Byte := 0
  /-- 16 bits; 10 R277; reset 0 -/
  frameMax : BitVec 16 := 0
  deriving DecidableEq, Repr

/-- Key mask and default contexts of a client port (R311). -/
structure FlowPort where
  /-- 8 bits; 11 R311; reset 0 -/
  keyMask : Byte := 0
  /-- 32 bits; 11 R311; reset 0 -/
  defIn : BitVec 32 := 0
  /-- 32 bits; 11 R311; reset 0 -/
  defOut : BitVec 32 := 0
  deriving DecidableEq, Repr

/-- PTP settings of a client port (R422). -/
structure PtpPort where
  /-- 8 bits; 15 R422; reset 0 -/
  flags : Byte := 0
  /-- 8 bits; 15 R422; reset 0 -/
  tsDomain : Byte := 0
  deriving DecidableEq, Repr

/-- The CLIENT-class parameters of a client port (R548). -/
structure CportParams where
  form : CportConfig := {}
  flow : FlowPort := {}
  ptp : PtpPort := {}
  deriving DecidableEq, Repr

/-- A tagged frame on its way (R491, R493). -/
structure TagMark where
  /-- module time at stage 1 -/
  t1 : BitVec 48
  len : Nat
  /-- traffic class and context, once classified -/
  cls : Option (Nat × Nat) := none
  miss : Bool := false
  secured : Bool := false
  /-- stages entered and the module times of that, as far as the model's own timeline has them, latest first; 01 R11 -/
  stamps : List (Nat × BitVec 48) := []
  deriving DecidableEq, Repr

/-- The unit's first bit enters a stage (R11). -/
def TagMark.enter (m : TagMark) (stage : Nat) (now : BitVec 48) : TagMark := { m with stamps := (stage, now) :: m.stamps }

/-- A frame waiting in a port's ingress buffer (R295). -/
structure Buffered where
  cls : Nat
  ctx : Nat
  bytes : Bytes
  tag : Option TagMark := none
  deriving DecidableEq, Repr

/-- An egress payload tile whose class is not yet settled (R490). -/
structure TileMark where
  id : Nat
  engine : Eng
  /-- 0 retired, 1 wasted, 2 starved.back, 3 starved.front: the first that applies so far -/
  cls : Nat := 3
  /-- records that touch it and whose fate is open -/
  waits : Nat := 0
  deriving DecidableEq, Repr

/-- The parse of a port's record sequence (R231). -/
structure Parser where
  /-- the parse stands at a known place -/
  on : Bool := false
  /-- first byte of a record header -/
  head : Option Byte := none
  /-- bytes still to come of the record in progress -/
  need : Nat := 0
  /-- bytes of the record in progress, newest first -/
  got : Bytes := []
  /-- numbers of the tiles that the record in progress touches, newest first -/
  touch : List Nat := []
  /-- module time at which the first byte of the record in progress came; 01 R11 T1 -/
  since : BitVec 48 := 0
  /-- module time at which that byte entered the slot demapper; 01 R11 stage 6 -/
  entered : BitVec 48 := 0
  deriving DecidableEq, Repr

/-- Frames shed for want of room, gathered for one event: a bit per class, and their number (R319). -/
structure Shed where
  classes : Byte := 0
  frames : Nat := 0
  deriving DecidableEq, Repr

/-- Client port CPp. -/
structure Cport where
  params : Staged CportParams := ⟨{}, {}⟩
  /-- the side of a pending paired commit that still runs on the settings from before it, the engine whose side that is,
  and those settings; 04 R96; reset none -/
  later : Option (HeldSide × Eng × FlowPort × PtpPort) := none
  /-- one bit; 10 R268 failed; reset 0 -/
  failed : Bool := false
  /-- one bit; 10 R268 alignment or deskew lost; reset 0, set when an Ethernet port is formed -/
  pcsLost : Bool := false
  /-- one bit; 10 R282 local fault received; reset 0 -/
  rxLocal : Bool := false
  /-- one bit; 10 R282 remote fault received; reset 0 -/
  rxRemote : Bool := false
  /-- 0 to 3; 10 R272 loopback; reset 0 -/
  loopback : Byte := 0
  /-- one bit; 09 R239 a slot was all ones in the last frame; reset 0 -/
  onesLast : Bool := false
  /-- frames in the ingress buffer, in arrival order; 11 R295; reset empty -/
  buffer : List Buffered := []
  /-- record bytes of the frame already started; 09 R231; reset none -/
  current : Bytes := []
  /-- one bit; 09 R231 the record in progress is an idle record; reset 0 -/
  currentIdle : Bool := false
  /-- context of the frame in progress; 02 R35, 11 R297; reset 0, no frame -/
  currentCtx : Nat := 0
  /-- class of the frame in progress; 02 R35, 11 R297; reset 0, no frame -/
  currentCls : Nat := 0
  /-- 09 R231 parse of the received record sequence; reset not begun -/
  parser : Parser := {}
  /-- tiles whose class is open, and the number of the next one; 19 R490; reset none, 0 -/
  tiles : List TileMark := []
  nextTile : Nat := 0
  /-- tiles received in the last frame, in ascending order, for the far-end loopback; 10 R272; reset none -/
  received : List Bytes := []
  /-- lengths of the frames in the 64 KiB egress buffer, oldest first; 10 R258; reset empty -/
  egress : List Nat := []
  /-- client bytes that the egress may still send in this period; 10 R258; reset 0 -/
  credit : Nat := 0
  /-- 32 bits each; 10 R282 FEC_CORR and FEC_UNCORR; reset 0 -/
  fecCorr : BitVec 32 := 0
  fecUncorr : BitVec 32 := 0
  /-- the last frame sent to the host, preamble first, the model's record of the output; 10 R258; reset none -/
  out : Bytes := []
  /-- one bit; 11 R296 sealed frames carried in this short interval; reset 0 -/
  sealedNow : Bool := false
  /-- five bits; 11 R319 events raised in this long interval: seal.overflow, flow.overflow, class-7 overrun, cache drop in
  and out; reset 0 -/
  raised : BitVec 5 := 0
  /-- drops gathered for each of those events since it was last raised; 11 R319; reset none -/
  shed : Vector Shed 5 := Vector.replicate 5 {}
  deriving DecidableEq, Repr

/-- The side of an engine that a direction of client traffic belongs to (R96). -/
def dirSide : Dir → HeldSide
  | .ingress => .transmit
  | .egress => .receive

/-- FLOW_PORT and PTP_PORT settings that one direction of a port runs on: ingress belongs to the transmit side of its
engine, egress to the receive side (R96, R311, R422). -/
def Cport.sideOf (p : Cport) (side : HeldSide) : FlowPort × PtpPort :=
  match p.later with
  | some (held, _, flow, ptp) => if held = side then (flow, ptp) else (p.params.active.flow, p.params.active.ptp)
  | none => (p.params.active.flow, p.params.active.ptp)

/-! ## Flow contexts (R285 to R319) -/

/-- One line of a context cache (R291). -/
structure CacheLine where
  ctx : Nat
  hot : BitVec 128
  frames : BitVec 48 := 0
  octets : BitVec 64 := 0
  cflags : Byte := 0
  ovf : Byte := 0
  dState : Nat := 0
  dQueue : Nat := 0
  dVerify : Nat := 0
  dReplay : Nat := 0
  deriving DecidableEq, Repr

/-- A frame on its way through classification and sealing or verification. -/
structure FlowFrame where
  port : Cp
  ctx : Nat
  frame : Bytes
  /-- the wait at admission has been counted (R323) -/
  waited : Bool := false
  tag : Option TagMark := none
  /-- egress tiles that the frame's record touches (R490) -/
  tiles : List Nat := []
  /-- instants given for a PTP message: module time, and offsets from it in 2^−16 ns at the client and the line plane;
  15 R407 -/
  instants : Option (BitVec 48 × Int × Int) := none
  deriving DecidableEq, Repr

/-- The frame enters a stage (R11). -/
def FlowFrame.enter (f : FlowFrame) (stage : Nat) (now : BitVec 48) : FlowFrame :=
  { f with tag := f.tag.map fun m => m.enter stage now }

/-- One Millrace request: the AES rounds and the GHASH multiplications that it still needs (R320, R321). -/
structure Job where
  rounds : Nat := 0
  ghash : Nat := 0
  deriving DecidableEq, Repr

/-- One Millrace bank (R320 to R323, R350). -/
structure Bank where
  /-- up to 512 requests; 12 R322 express lane; reset empty -/
  express : List Job := []
  /-- up to 7,680 requests; 12 R322 bulk lane; reset empty -/
  bulk : List Job := []
  /-- requests of CMACs and side-channel bytes that wait for room in the express lane; 12 R323; reset none -/
  waiting : List (List Job) := []
  /-- thousandths of a round and of a multiplication not yet spent; 12 R320; reset 0 -/
  carry : Nat := 0
  carryGhash : Nat := 0
  /-- highest occupancy in the running and in the last short interval; 12 R350 PEAK; reset 0 -/
  peakNow : Nat := 0
  peak : Nat := 0
  /-- frames that waited in the running and the last short interval; 12 R350 STALLS; reset 0 -/
  stallsNow : Nat := 0
  stalls : Nat := 0
  /-- frames that waited in the running long interval; 12 R352; reset 0 -/
  stallsLong : Nat := 0
  /-- frames that passed on the second key, running and last short interval; 12 R350 RETRIES; reset 0 -/
  retriesNow : Nat := 0
  retries : Nat := 0
  deriving DecidableEq, Repr

/-- The hub's flow handling of one direction. -/
structure FlowDir where
  /-- up to 131,072 lines; 11 R291 context cache; reset empty -/
  cache : List CacheLine := []
  /-- up to 4,096 frames; 11 R294 miss queue; reset empty -/
  misses : List FlowFrame := []
  /-- frames waiting at Millrace admission; 12 R323; reset empty -/
  admitQ : List FlowFrame := []
  bank : Bank := {}
  deriving DecidableEq, Repr

/-- An entry of the grace table (R304). -/
structure Grace where
  ctx : Nat
  an : BitVec 2
  ks : BitVec 16
  kgen : BitVec 16
  pn : BitVec 64
  since : BitVec 48
  deriving DecidableEq, Repr

/-- A change of class FLOW, immediate or staged (R310). -/
inductive FlowOp where
  | add (entry : Bytes)
  | delete (entry : Bytes)
  | load (entry : Bytes)
  | rekey (entry : Bytes)
  | reload (entry : Bytes)
  deriving DecidableEq, Repr

/-- A staged FLOW entry (R78, R309). -/
structure StagedFlow where
  token : BitVec 32
  port : Hp
  op : FlowOp
  /-- its ingress or egress half has already switched at a paired commit -/
  done : Bool := false
  deriving DecidableEq, Repr

/-- A CTX_FILL in progress (R315). -/
structure FillJob where
  first : Nat
  count : Nat
  flags : Byte
  template : BitVec 128
  issuer : Deferred
  deriving DecidableEq, Repr

/-- Sealing configuration (R318). -/
structure SealConfig where
  /-- 32 bits; 11 R318; reset 0 -/
  limit32 : BitVec 32 := 0
  /-- 64 bits; 11 R318; reset 0 -/
  limit64 : BitVec 64 := 0
  /-- 16 entries of 48 bits; 11 R318; reset 0 -/
  macs : Vector (BitVec 48) 16 := Vector.replicate 16 0
  deriving DecidableEq, Repr

/-- Flow contexts outside context memory. -/
structure FlowState where
  ingress : FlowDir := {}
  egress : FlowDir := {}
  /-- 8 bits an entry, by word address; 11 R286 on-hub tags of occupied entries; reset none -/
  tags : List (Nat × Option Byte) := []
  /-- up to 4,096; 11 R304 grace table; reset empty -/
  grace : List Grace := []
  /-- up to 4,096 with the staged rewrites; 11 R309 staged FLOW entries; reset none -/
  staged : List StagedFlow := []
  /-- 11 R315 running CTX_FILL; reset none -/
  fill : Option FillJob := none
  /-- 11 R318 sealing configuration -/
  sealing : SealConfig := {}
  /-- contexts for which pn.threshold has been raised since their last rekey; 11 R301; reset none -/
  pnRaised : List Nat := []
  /-- key slots for which ctx.suspended was raised in this short interval; 11 R319; reset none -/
  suspended : List Nat := []
  deriving DecidableEq, Repr

/-! ## Key store (R325 to R344) -/

/-- State of a key slot (R325). -/
inductive SlotState where
  | empty | loaded | rewriting | erasing
  deriving DecidableEq, Repr

/-- An unwrapped key (R329). -/
structure KeyValue where
  key : Bytes := []
  salt : Bytes := []
  usage : BitVec 3 := 0
  /-- host port whose KEK unwrapped it -/
  port : BitVec 2 := 0
  deriving DecidableEq, Repr

/-- A general key slot (R325). -/
structure KeySlot where
  /-- 3 bits; 12 R325 STATE; reset EMPTY -/
  state : SlotState := .empty
  /-- 12 R325 current key, salt, USAGE and PORT; reset none -/
  cur : KeyValue := {}
  /-- 16 bits; 12 R325 GEN; reset 0 -/
  gen : BitVec 16 := 0
  /-- 48 bits; 13 R369 module time at which the current key came into force; reset 0 -/
  since : BitVec 48 := 0
  /-- one bit; 12 R338 a load that becomes usable at the next MFC boundary; reset 0 -/
  waiting : Bool := false
  /-- the key in force before the rewrite and its generation; 12 R341; reset none -/
  old : Option (KeyValue × BitVec 16) := none
  /-- one bit; 12 R340 the egress bank has switched to the new key; reset 0 -/
  switched : Bool := false
  /-- 12 R339 staged key and its token, zero for one that switches at the next MFC boundary; reset none -/
  staged : Option (BitVec 32 × KeyValue) := none
  deriving DecidableEq, Repr

/-- A rewrite in its dual-key period (R341). -/
structure Rewrite where
  token : BitVec 32
  slots : List Nat
  /-- module time of the egress switch; none before it -/
  since : Option (BitVec 48)
  /-- the commit that carried the token has ended, and another carries it -/
  past : Bool := false
  deriving DecidableEq, Repr

/-- A KEY_ERASE that runs (R342). -/
structure EraseJob where
  first : Nat
  count : Nat
  issuer : Deferred
  /-- the erase point has passed -/
  pointed : Bool
  /-- slots that were not EMPTY at the erase point -/
  zeroised : Nat
  deriving DecidableEq, Repr

/-- State of the owner key (R334). -/
inductive OwnerMode where
  | unprovisioned | provisioning | provisioned | faulted
  deriving DecidableEq, Repr

/-- The key store and the owner key. -/
structure KeyState where
  /-- 65,536 slots, those that are not as at reset; 12 R325, R343 -/
  slots : List (Nat × KeySlot) := []
  /-- 12 R341 rewrites in their dual-key period; reset none -/
  rewrites : List Rewrite := []
  /-- 12 R342 erases that run; reset none -/
  erases : List EraseJob := []
  /-- four codes; 12 R334 state of the owner key; read from the fuses at reset, UNPROVISIONED from new, log 2 -/
  owner : OwnerMode := .unprovisioned
  /-- 32 bytes; 12 R334 the owner key, as the fuses held it at reset or OWNER_PROVISION gives it; reset none when
  UNPROVISIONED or FAULTED -/
  ownerKey : Bytes := []
  /-- 12 R335 issuer of the running OWNER_PROVISION; reset none -/
  provision : Option Deferred := none
  deriving DecidableEq, Repr

/-! ## Context memory (R353 to R377) -/

/-- What a code word was written as (R356, R357). -/
inductive WordKind where
  | data | fresh | poisoned
  deriving DecidableEq, Repr

/-- A stored code word: what was written, and what an injection changed since (R356, R357, R375; log 7). -/
structure MemWord where
  kind : WordKind := .fresh
  /-- 128 bits as written; zero unless `data` -/
  data : BitVec 128 := 0
  /-- 144 bits inverted by injections -/
  flips : BitVec 144 := 0
  /-- 23 bits by which the check was encoded for another address -/
  addrXor : BitVec 23 := 0
  /-- one bit, the model's note: Eddy poisoned it, which names the cause of a quarantine (R319) -/
  byEddy : Bool := false
  deriving DecidableEq, Repr

/-- A merge-buffer entry (R364). -/
structure MergeEntry where
  wa : Nat
  data : BitVec 128
  mask : BitVec 16
  time : BitVec 48
  deriving DecidableEq, Repr

/-- State of one channel (R360, R362, R374). -/
inductive ChannelMode where
  | training | sweeping | ready | failed
  deriving DecidableEq, Repr

/-- One QDR channel. -/
structure Channel where
  /-- four codes; 13 R374 STATE; reset training -/
  mode : ChannelMode := .training
  /-- 48 bits; 13 R360 module time at which the sweep began; reset 0 -/
  since : BitVec 48 := 0
  /-- up to 256 entries, oldest first; 13 R364 merge buffer; reset empty -/
  merge : List MergeEntry := []
  /-- highest occupancy in the running and in the last long interval; 13 R374 MERGE_PEAK; reset 0 -/
  peakNow : Nat := 0
  peak : Nat := 0
  /-- corrected words in the running and in the last long interval; 13 R374 CORRECTED; reset 0 -/
  corrNow : Nat := 0
  corr : Nat := 0
  /-- one bit; 13 R373 mem.corrected raised in this long interval; reset 0 -/
  corrRaised : Bool := false
  /-- 23 bits or none; 13 R374 LAST_CORR_WA; reset none -/
  lastCorr : Option (BitVec 23) := none
  deriving DecidableEq, Repr

/-- An entry of the error log (R371). -/
structure MemLogEntry where
  time : BitVec 48
  wa : BitVec 32
  syndrome : BitVec 16
  content : Byte
  reader : Byte
  action : Byte
  deriving DecidableEq, Repr

/-- Context memory. -/
structure MemState where
  /-- 8,388,608 code words, those that are not FRESH; 13 R353; reset FRESH once swept -/
  words : List (Nat × MemWord) := []
  /-- eight channels; 13 R353 -/
  channels : Vector Channel 8 := Vector.replicate 8 {}
  /-- one bit; 13 R374 FLAGS bit 0 sweep done; reset 0 -/
  swept : Bool := false
  /-- 16 bits; 13 R373 SCRUB_RATE; reset 64 -/
  scrubRate : BitVec 16 := 64
  /-- 16 bits; 13 R373 CORR_THR; reset 16 -/
  corrThr : BitVec 16 := 16
  /-- 23 bits; 13 R374 EDDY_WA; reset DESIGN CHOICE 0, log 12 -/
  eddy : BitVec 23 := 0
  /-- 32 bits; 13 R374 PASSES; reset 0 -/
  passes : BitVec 32 := 0
  /-- up to 64 entries; 13 R371 error log; reset empty -/
  log : List MemLogEntry := []
  /-- 16 bits; 13 R371 LOST; reset 0 -/
  lost : BitVec 16 := 0
  deriving DecidableEq, Repr

/-! ## Effects at the next MFC boundary (R304, R310, R338, R339) -/

/-- What an executed request leaves for the first MFC boundary after its completion. -/
inductive Immediate where
  /-- entries of an immediate batch (R310) -/
  | flow (ops : List FlowOp)
  /-- slots just loaded become usable, with the port that loaded them (R338) -/
  | keysLoaded (port : Hp) (slots : List Nat)
  /-- rewrites without a token switch (R339) -/
  | keysRewritten (slots : List Nat)
  deriving DecidableEq, Repr

end Sys2Proof.Machine
end

