-- ==== Sys2Proof/Machine/ClockTypes.lean ====
section
/-! DEFINITION. The data types of Headwater, the time domains and the Gauge (spec chapters 14, 15 and 16).  Each
field's comment gives its width, the rule that names it and its reset value. -/

namespace Sys2Proof.Machine

/-! ## Headwater (R378 to R399) -/

/-- One PPS output's setting (R395). -/
structure PpsOut where
  /-- 8 bits; 14 R390, R395 SRC; reset 0 -/
  src : Byte := 0
  /-- 16 bits; 14 R395 WIDTH; reset 0 -/
  width : BitVec 16 := 0
  /-- 32 bits signed ps; 14 R395 COMP; reset 0 -/
  comp : BitVec 32 := 0
  deriving DecidableEq, Repr

/-- Headwater configuration, class HEADWATER (R395). -/
structure HwConfig where
  /-- 8 bits; 14 R395 MODE; reset 0 -/
  mode : Byte := 0
  /-- 8 bits; 14 R395 FORCE_INPUT; reset 0 -/
  force : Byte := 0
  /-- 8 bits; 14 R395 FLAGS; reset 0 -/
  flags : Byte := 0
  /-- 8 bits; 14 R395 REFOUT; reset 0 -/
  refout : Byte := 0
  /-- 16 bits; 14 R395 WTR; reset 0 -/
  wtr : BitVec 16 := 0
  /-- 8 bits; 14 R395 REFIN_FREQ; reset 0 -/
  refin : Byte := 0
  /-- 16 codes of 8 bits; 14 R395 PRIORITY; reset 0 -/
  priority : Vector Byte 16 := Vector.replicate 16 0
  /-- 32 bits; 14 R395 ALLOWANCE; reset 0 -/
  allowance : BitVec 32 := 0
  /-- two signed 32-bit entries in ps; 14 R395 PPS_COMP0, PPS_COMP1; reset 0 -/
  ppsComp : Vector (BitVec 32) 2 := #v[0, 0]
  /-- two outputs; 14 R395 PPS_OUT0, PPS_OUT1; reset 0 -/
  ppsOut : Vector PpsOut 2 := Vector.replicate 2 {}
  deriving DecidableEq, Repr

/-- State of Headwater (R385). -/
inductive HwMode where
  | freerun | acquiring | locked | buildOut | holdover
  deriving DecidableEq, Repr

/-- One of the fourteen inputs (R378, R379). -/
structure HwInput where
  /-- one bit; 14 R379 qualified; reset 0 -/
  qualified : Bool := false
  /-- 4 bits; 14 R398 CAUSE of the last disqualification; reset 0 -/
  cause : BitVec 4 := 0
  /-- 48 bits; 14 R381 module time at which it qualified; reset 0 -/
  since : BitVec 48 := 0
  /-- one bit; 14 R381 its WTR wait has run out; reset 0 -/
  waited : Bool := false
  deriving DecidableEq, Repr

/-- Headwater. -/
structure HwState where
  /-- 14 R395 staged and active configuration -/
  config : Staged HwConfig := ⟨{}, {}⟩
  /-- five codes; 14 R397 STATE; reset FREERUN -/
  mode : HwMode := .freerun
  /-- 8 bits; 14 R397 SELECTED; reset 0 -/
  selected : Byte := 0
  /-- 8 bits; 14 R399 input selected last, for hw.selected; reset 0 -/
  before : Byte := 0
  /-- 8 bits; 14 R397 CANDIDATE; reset 0 -/
  candidate : Byte := 0
  /-- five codes; 14 R385 state from which the running build-out came, HOLDOVER once the steering input has failed;
  reset FREERUN -/
  origin : HwMode := .freerun
  /-- 8 bits; 14 R399 cause of the change in build-out; reset 0 -/
  cause : Byte := 0
  /-- 8 bits; 14 R399 why no input is selected: 0x01 failure, 0x03 host commit; reset 0x04, never selected -/
  lostBy : Byte := 4
  /-- fourteen inputs; 14 R378 -/
  inputs : Vector HwInput 14 := Vector.replicate 14 {}
  /-- signed ps; 14 R397 BUILD_OUT; reset 0 -/
  buildOut : Int := 0
  /-- signed ps; 14 R393 written steps applied during the running window; reset 0 -/
  windowStep : Int := 0
  /-- 10^−18 s; 14 R549 time from the last MFC tick to the next second boundary, below 0 where a step has brought it past
  the boundary; power-on reset 0, otherwise kept -/
  toSecond : Int := 0
  /-- 10^−18 s; 14 R386 a step applied at the second boundary of this MFC period, which moves those after it; reset 0 -/
  stepNext : Int := 0
  /-- signed ps; 14 R386 step of WHEN 0x01 that waits; reset none -/
  pending : Option Int := none
  /-- signed ps; 14 R386 staged step of WHEN 0x02; reset none -/
  staged : Option Int := none
  /-- signed ps and the module time of its start; 14 R386 running slew; reset none -/
  slew : Option (Int × BitVec 48) := none
  /-- MFC periods; 14 R388 time since entry to LOCKED, while that lock steers; reset none -/
  lockedFor : Option Nat := none
  /-- signed ps; 14 R397 phase error of the loop, measured; reset DESIGN CHOICE 0, log 12 (read while a loop runs) -/
  phaseErr : Int := 0
  /-- MFC periods; 14 R380 time for which the phase error has stayed within its window; reset 0 -/
  within : Nat := 0
  /-- signed 10^−12, one for each MFC period, newest first; 14 R387 frequency of the loop in ACQUIRING and LOCKED, measured,
  up to 64.1 s; reset none -/
  freqs : List Int := []
  /-- four of 32 bits, signed 10^−12; 14 R391 frequencies of the native egress followers, measured while LINEn is offered;
  reset DESIGN CHOICE 0, log 12 -/
  followers : Vector (BitVec 32) 4 := Vector.replicate 4 0
  /-- one bit; 14 R392 a commit has executed in a takeover, whose evaluation waits for its end; reset 0 -/
  evaluate : Bool := false
  /-- seconds; 14 R397 HO_TIME; reset 0 -/
  hoTime : Nat := 0
  /-- ps; 14 R388 B0, the loop's phase error at entry, measured; reset 0 -/
  hoPhase : Nat := 0
  /-- one bit; 14 R388 F0 is 0.05 ppb; reset 0 -/
  hoFull : Bool := false
  /-- 32 bits signed; 14 R387 frozen FREQ_OFF, measured; reset 0 -/
  hoFreq : BitVec 32 := 0
  /-- ps / 864; 14 R388 bound last computed; reset 0 -/
  hoBound : Nat := 0
  /-- one bit; 14 R397 FLAGS bit 1, holdover out of spec; reset 0 -/
  outOfSpec : Bool := false
  /-- one bit; 14 R397 FLAGS bit 5, headless fallback taken; reset 0 -/
  fallback : Bool := false
  /-- one bit; 14 R389 REFOUT stopped for a change of frequency; reset 0 -/
  refoutStopped : Bool := false
  /-- pulses begun on each PPS output, the model's record of the output; 14 R390; reset 0 -/
  ppsEdges : Vector Nat 2 := #v[0, 0]
  /-- 48 bits each; 14 R390 module time of the last rise of each PPS output; reset none -/
  ppsRise : Vector (Option (BitVec 48)) 2 := #v[none, none]
  /-- one bit; 14 R397 FLAGS bit 0, 20 R504 oven stable, auxiliary domain; reset 0, kept while P3V3_AUX stays -/
  ovenStable : Bool := false
  /-- days; 14 R388 OCXO_DAYS as last fixed, auxiliary domain; reset DESIGN CHOICE 0, log 12; kept while P3V3_AUX
  stays -/
  ovenDays : Nat := 0
  /-- 48 bits; 14 R388 module time from which further days count; reset 0 -/
  ovenSince : BitVec 48 := 0
  deriving DecidableEq, Repr

/-! ## Time domains (R400 to R425) -/

/-- Settings of one domain (R419). -/
structure TdBlock where
  /-- 8 bits; 15 R419 MODE; reset 0 -/
  mode : Byte := 0
  /-- 8 bits; 15 R419 DOMAIN_NUM; reset 0 -/
  number : Byte := 0
  /-- 8 bits; 15 R419 PORT; reset 0 -/
  port : Byte := 0
  /-- 8 bits; 15 R419 SIDE; reset 0 -/
  side : Byte := 0
  /-- 10 bytes; 15 R419 MASTER_ID; reset 0 -/
  master : Bytes := List.replicate 10 0
  /-- 10 bytes; 15 R419 SLAVE_ID; reset 0 -/
  slave : Bytes := List.replicate 10 0
  /-- 8 bits; 15 R419 BW; reset 0 -/
  bw : Byte := 0
  /-- 8 bits; 15 R419 LOCK_WIN; reset 0 -/
  lockWin : Byte := 0
  /-- 16 bits; 15 R419 STEP_THR; reset 0 -/
  stepThr : BitVec 16 := 0
  deriving DecidableEq, Repr

/-- Time-domain configuration, class TIME (R419). -/
structure TdConfig where
  /-- 8 bits; 15 R419 OUT_SRC; reset 0 -/
  outSrc : Byte := 0
  /-- 8 bits; 15 R419 SWITCH; reset 0 -/
  switch : Byte := 0
  /-- 16 bits; 15 R419 SLEW_RATE; reset 0 -/
  slewRate : BitVec 16 := 0
  /-- 8 bits; 15 R419 LTS_DOMAIN; reset 0 -/
  lts : Byte := 0
  /-- 8 bits; 15 R419 DEC_SYNC; reset 0 -/
  decSync : Byte := 0
  /-- 8 bits; 15 R419 CAP_DOMAIN; reset 0 -/
  capDomain : Byte := 0
  /-- four signed 32-bit entries in ps; 15 R419 ASYM; reset 0 -/
  asym : Vector (BitVec 32) 4 := Vector.replicate 4 0
  /-- two blocks; 15 R419 TDA, TDB -/
  td : Vector TdBlock 2 := Vector.replicate 2 {}
  deriving DecidableEq, Repr

/-- State of a domain (R401). -/
inductive TdMode where
  | unset | free | acquiring | locked | holdover
  deriving DecidableEq, Repr

/-- A TD_SET that waits for its instant (R420). -/
structure TdSet where
  /-- KIND 0x02 -/
  relative : Bool
  /-- WHEN 0x02: a second boundary of Headwater -/
  second : Bool
  /-- the time set, or the amount, in 2^−16 ns -/
  amount : Int
  deriving DecidableEq, Repr

/-- A Sync that the servo has stamped (R404): times in 2^−16 ns. -/
structure SyncStamp where
  seq : BitVec 16
  t1 : Int
  t2 : Int
  correction : Int
  deriving DecidableEq, Repr

/-- One time domain.  Its counter is kept in units of 1 / (25 × 2^36) ns, in which one MFC period is a whole number at
every frequency offset. -/
structure Domain where
  /-- five codes; 15 R401; reset UNSET -/
  mode : TdMode := .unset
  /-- 48-bit seconds, nanoseconds and fraction; 15 R400; reset 0 -/
  time : Nat := 0
  /-- signed 2^−48; 15 R400 frequency offset; reset 0 -/
  freq : Int := 0
  /-- one bit; 15 R402, R421 FLAGS bit 0, locked since reset; reset 0 -/
  everLocked : Bool := false
  /-- 15 R420 TD_SET that waits; reset none -/
  setDue : Option TdSet := none
  /-- signed 2^−16 ns; 15 R405 servo step due at the next MFC boundary; reset none -/
  stepDue : Option Int := none
  /-- 32 bits; 15 R421 SYNCS; reset 0 -/
  syncs : BitVec 32 := 0
  /-- 32 bits signed ps; 15 R421 OFFSET; reset DESIGN CHOICE 0, log 12 -/
  offset : BitVec 32 := 0
  /-- up to 16 values in 2^−16 ns; 15 R404 D of the last exchanges; reset none -/
  paths : List Int := []
  /-- consecutive Syncs within LOCK_WIN; 15 R405; reset 0 -/
  near : Nat := 0
  /-- consecutive Syncs beyond 4 × LOCK_WIN; 15 R405; reset 0 -/
  far : Nat := 0
  /-- a two-step Sync that waits for its Follow_Up; 15 R404; reset none -/
  waiting : Option SyncStamp := none
  /-- the last usable Sync; 15 R404; reset none -/
  last : Option SyncStamp := none
  /-- up to 64 sequenceIds with t3 in 2^−16 ns, newest first; 15 R404; reset none -/
  requests : List (BitVec 16 × Int) := []
  deriving DecidableEq, Repr

/-- State of a TPO (R423). -/
inductive TpoMode where
  | off | armed | running | done
  deriving DecidableEq, Repr

/-- One timed pulse output (R412, R423). -/
structure Tpo where
  /-- 8 bits; 15 R423 MODE; reset 0 -/
  mode : Byte := 0
  /-- 8 bits; 15 R423 TIMESCALE; reset 0 -/
  scale : Byte := 0
  /-- 8 bits; 15 R423 FLAGS; reset 0 -/
  flags : Byte := 0
  /-- 48 bits; 15 R423 START_SEC; reset 0 -/
  startSec : BitVec 48 := 0
  /-- 32 bits; 15 R423 START_NS; reset 0 -/
  startNs : BitVec 32 := 0
  /-- 64 bits; 15 R423 PERIOD; reset 0 -/
  period : BitVec 64 := 0
  /-- 32 bits; 15 R423 WIDTH; reset 0 -/
  width : BitVec 32 := 0
  /-- 32 bits; 15 R423 COUNT; reset 0 -/
  count : BitVec 32 := 0
  /-- four codes; 15 R423 STATE; reset off -/
  state : TpoMode := .off
  /-- 16 bits; 15 R423 MISSED; reset 0 -/
  missed : BitVec 16 := 0
  /-- 32 bits; 15 R423 EMITTED; reset 0 -/
  emitted : BitVec 32 := 0
  /-- number k of the next scheduled edge; 15 R412; reset 0 -/
  next : Nat := 0
  /-- number of the edge after the last one emitted; 15 R413; reset 0 -/
  resume : Nat := 0
  /-- one bit; 15 R425 time.tpo.missed raised in this long interval; reset 0 -/
  raised : Bool := false
  deriving DecidableEq, Repr

/-- A captured edge (R414, R424). -/
structure Capture where
  mtime : BitVec 48
  domain : Byte
  /-- domain time in 0.25 ns -/
  quarters : Nat
  deriving DecidableEq, Repr

/-- Captures of one input (R414). -/
structure CaptureQueue where
  /-- up to 16; 15 R414; reset empty -/
  entries : List Capture := []
  /-- 32 bits; 15 R424 LOST; reset 0 -/
  lost : BitVec 32 := 0
  deriving DecidableEq, Repr

/-- An entry of the timestamp log (R411, R424). -/
structure TsEntry where
  port : Cp
  type : Byte
  seq : BitVec 16
  number : Byte
  domain : Byte
  /-- time in 2^−16 ns -/
  time : Nat
  deriving DecidableEq, Repr

/-- Time domains, output time, pulses, captures and the timestamp log. -/
structure TimeState where
  /-- 15 R419 staged and active configuration -/
  config : Staged TdConfig := ⟨{}, {}⟩
  /-- TDA and TDB; 15 R400 -/
  td : Vector Domain 2 := Vector.replicate 2 {}
  /-- signed, in the units of the domains; 15 R403 OUT_OFFSET; reset 0 -/
  outOffset : Int := 0
  /-- one bit; 15 R403, R421 the output time slews; reset 0 -/
  slewing : Bool := false
  /-- four outputs; 15 R412 -/
  tpo : Vector Tpo 4 := Vector.replicate 4 {}
  /-- three inputs: PPS_IN0, PPS_IN1, SYNC_IN; 15 R414 -/
  captures : Vector CaptureQueue 3 := Vector.replicate 3 {}
  /-- up to 256; 15 R411 timestamp log; reset empty -/
  log : List TsEntry := []
  /-- 32 bits; 15 R424 LOST of the log; reset 0 -/
  logLost : BitVec 32 := 0
  /-- decimator resets in this short interval; 15 R415; reset 0 -/
  decResets : Nat := 0
  /-- messages passed without residence in this long interval, by client port; 15 R410, R425; reset 0 -/
  unmeasured : List (Nat × Nat) := []
  deriving DecidableEq, Repr

/-! ## Gauge (R426 to R447) -/

/-- One entry of the GB sequence (R443). -/
structure GaugeEntry where
  /-- 8 bits; 16 R443 CHANNEL; reset 0 -/
  channel : Byte := 0
  /-- 8 bits; 16 R443 SAMPLE; reset 0 -/
  sample : Byte := 0
  /-- 8 bits; 16 R443 GAIN; reset 0 -/
  gain : Byte := 0
  /-- 8 bits; 16 R443 ORDER; reset 0 -/
  order : Byte := 0
  /-- 16 bits; 16 R443 RATIO; reset 0 -/
  ratio : BitVec 16 := 0
  /-- 8 bits; 16 R443 FLAGS; reset 0 -/
  flags : Byte := 0
  deriving DecidableEq, Repr

/-- The GB sequence, class GAUGE (R443). -/
structure GaugeSeq where
  /-- 8 bits; 16 R443 COUNT; reset 0 -/
  count : Byte := 0
  /-- 16 bits; 16 R443 PACE; reset 0 -/
  pace : BitVec 16 := 0
  /-- 16 entries; 16 R443 -/
  entries : Vector GaugeEntry 16 := Vector.replicate 16 {}
  deriving DecidableEq, Repr

/-- What GB converts now (R436). -/
inductive GbWork where
  | idle
  | injection (r : Request)
  | calibration (r : Request)
  | entry (n : Fin 16) (e : GaugeEntry)
  deriving DecidableEq, Repr

/-- A CIC decimator (R438, R439). -/
structure Cic where
  /-- up to five sums; 16 R438 integrators; reset 0 -/
  sums : List Nat := []
  /-- up to five values; 16 R438 combs; reset 0 -/
  combs : List Int := []
  /-- conversions since the last output; 16 R438; reset 0 -/
  phase : Nat := 0
  /-- outputs still invalid, where the run has begun; 16 R439; reset none: all N -/
  invalid : Option Nat := none
  /-- one bit; 16 R434 some conversion of the output in progress was clipped; reset 0 -/
  clipped : Bool := false
  deriving DecidableEq, Repr

/-- A result of GB (R434). -/
structure GbResult where
  tag : Byte
  flags : Byte
  value : BitVec 16
  time : BitVec 32
  deriving DecidableEq, Repr

/-- The Gauge. -/
structure GaugeState where
  /-- 16 R443 staged and active GB sequence -/
  seq : Staged GaugeSeq := ⟨{}, {}⟩
  /-- 16 R436 what GB converts; reset idle -/
  work : GbWork := .idle
  /-- 0 to 15; 16 R432 entry due in the running pass; reset 0 -/
  due : Nat := 0
  /-- one bit; 16 R432 a pass runs; reset 0 -/
  pass : Bool := false
  /-- one bit; 16 R432 the next pass is late and starts when this one ends; reset 0 -/
  late : Bool := false
  /-- 16 bits; 16 R433 a commit has replaced the sequence during this conversion: decimators to reset when it ends;
  reset none -/
  restart : Option (BitVec 16) := none
  /-- 16 R436 injections that wait; reset none -/
  injections : List Request := []
  /-- 16 R436 calibrations that wait; reset none -/
  calibrations : List Request := []
  /-- GA's corrected and GB's raw code of a check that waits for GB; 16 R436, R441; reset none -/
  checkDue : Option (BitVec 12 × BitVec 12) := none
  /-- 16 decimators; 16 R438 -/
  cic : Vector Cic 16 := Vector.replicate 16 {}
  /-- up to 4,096 results; 16 R434; reset empty -/
  buffer : List GbResult := []
  /-- 16 R434 result register that the full buffer does not drain; reset none -/
  register : Option GbResult := none
  /-- 32 bits; 16 R445, R446 LOST; reset 0 -/
  lost : BitVec 32 := 0
  /-- results lost in this long interval; 16 R447; reset 0 -/
  lostLong : Nat := 0
  /-- 16 bits each, by entry; 16 R434 last-value table; reset DESIGN CHOICE 0, log 12 -/
  lastValues : Vector (BitVec 16) 16 := Vector.replicate 16 0
  /-- 16 bits; 16 R434 injection slot; reset DESIGN CHOICE 0, log 12 -/
  injected : BitVec 16 := 0
  /-- 64 codes of 12 bits; 16 R445 GA_LAST; reset DESIGN CHOICE 0, log 12 -/
  gaLast : Vector (BitVec 12) 64 := Vector.replicate 64 0
  /-- 12 bits; 16 R445 GB_GC00; reset DESIGN CHOICE 0, log 12 -/
  gbCheck : BitVec 12 := 0
  /-- sums of eight conversions of GC01 at ×1, ×2, ×4, ×8; 16 R437 offset; reset DESIGN CHOICE 0, log 12 -/
  offsets : List Int := [0, 0, 0, 0]
  /-- sum of eight conversions of GC00 at ×1; 16 R437 gain; reset DESIGN CHOICE 16,384, log 12 -/
  gain : Int := 16384
  /-- sum of eight conversions of GC01 by GA; 16 R426, R437 GA's offset; reset DESIGN CHOICE 0, log 12 -/
  gaOffset : Int := 0
  /-- sum of eight conversions of GC00 by GA; 16 R426, R437 GA's gain; reset DESIGN CHOICE 16,384, log 12 -/
  gaGain : Int := 16384
  /-- 48 bits; 16 R429 module time of the last GA cycle; reset none -/
  cycleAt : Option (BitVec 48) := none
  /-- 48 bits; 16 R432 module time of the last pass tick; reset none -/
  passAt : Option (BitVec 48) := none
  /-- 8 bits; 16 R444 GC00_TOL; reset 0, which is 8 in force -/
  tol : Byte := 0
  /-- 8 bits; 16 R444 DISAGREE_N; reset 4 -/
  disagreeN : Byte := 4
  /-- one bit; 16 R445 FLAGS bit 1, last check disagreed; reset 0 -/
  disagreed : Bool := false
  /-- consecutive disagreeing cycles; 16 R431; reset 0 -/
  bad : Nat := 0
  /-- consecutive agreeing cycles; 16 R431; reset 0 -/
  good : Nat := 0
  /-- one bit; 16 R431 Gauge hold; reset 0 -/
  hold : Bool := false
  deriving DecidableEq, Repr

end Sys2Proof.Machine
end

