-- ==== Sys2Proof/Machine/State.lean ====
section
/-! DEFINITION. The state of the block as plain data: everything the spec gives the module, and the queue of commands
that wait.  `State.reset` is the module at the power-on trigger (log 1). -/

namespace Sys2Proof.Machine

/-- The whole module. -/
structure State where
  /-- the queue of waiting commands, first in, first out: the model's own; reset empty -/
  pending : List Instr := []
  /-- counter of free values handed out: the model's own; reset DESIGN CHOICE 0, log 5 -/
  fresh : Nat := 0
  /-- 03 R72 factory identity -/
  ident : Identity := {}
  /-- 48 bits; 01 R17 module time; power-on reset 0 -/
  moduleTime : BitVec 48 := 0
  /-- 20 supplies, reset and pins -/
  power : PowerState := {}
  /-- 03 four host ports -/
  ports : Vector Port 4 := Vector.replicate 4 {}
  /-- 03 R50 port served last; reset DESIGN CHOICE 3, so that HP0 is served first, log 12 -/
  turn : Hp := 3
  /-- 02, 05 to 09 four engines -/
  engines : Vector Engine 4 := Vector.replicate 4 {}
  /-- up to 16; 04 R80 pending commits; reset none -/
  commits : List Commit := []
  /-- up to 16; 04 R89 executed COMMIT_IDs, with their issuing ports, until given again; reset none -/
  spent : List (Nat × Hp) := []
  /-- 32 bits each; 04 R94 tokens for which commit.announce.rx has been raised; reset none -/
  seenTokens : List (BitVec 32) := []
  /-- up to 21 and more; 07 R181 factory records found or missing; reset the required ones valid, log 2 -/
  records : List FactoryRecord := requiredRecords 4
  /-- 64 client lanes; 10 R254 -/
  lanes : Vector Lane 64 := Vector.replicate 64 {}
  /-- 64 client ports; 10 R255 -/
  cports : Vector Cport 64 := Vector.replicate 64 {}
  /-- four entries of PORT and LANE_OFS; 10 R280 SYNCE nominations, class HEADWATER; reset 0 -/
  synce : Staged (Vector (Byte × Byte) 4) := ⟨Vector.replicate 4 (0, 0), Vector.replicate 4 (0, 0)⟩
  /-- 11 flow contexts outside context memory -/
  flows : FlowState := {}
  /-- 12 key store -/
  keys : KeyState := {}
  /-- 13 context memory -/
  mem : MemState := {}
  /-- 11 R310, 12 R338 what waits for the next MFC boundary; reset none -/
  immediate : List Immediate := []
  /-- 14 Headwater -/
  hw : HwState := {}
  /-- 15 time domains, pulses and captures -/
  time : TimeState := {}
  /-- 16 Gauge -/
  gauge : GaugeState := {}
  /-- 17 Weir -/
  weir : WeirState := {}
  /-- 18 supervisor pair -/
  sup : SupState := {}
  /-- 19 counter collector -/
  collector : Collector := {}
  /-- 20 non-volatile store -/
  nv : NvState := {}
  /-- 21 boundary scan -/
  jtag : JtagState := {}
  deriving DecidableEq, Repr

/-- Faults of the model: none of the block's commands ends in a fault, because the spec gives the block no way to
stop and every case has an effect, a status or a free value.  The one constructor names a word that no row spells;
nothing raises it.  Safe. -/
inductive Fault where
  /-- Raised by nothing: reserved for a command word outside the table.  Safe. -/
  | noSuchCommand
  deriving DecidableEq, Repr

/-- Refusals. -/
inductive Refusal where
  /-- A row that has no meaning yet; raised only by an arm of `exec`.  Safe. -/
  | notModelled (mnemonic : String)
  deriving DecidableEq, Repr

/-- The module at the power-on trigger, every field at its reset value (R502, R507). -/
def State.reset : State := {}

end Sys2Proof.Machine
end

