-- ==== Sys2Proof/Machine/Store.lean ====
section
/-! DEFINITION. A sparse store: a list of (address, value) pairs in one canonical form, addresses strictly rising and
no entry equal to what an unlisted address reads as.  Context memory, the integrator region, key slots and counters
are held in this form. -/

namespace Sys2Proof.Machine

/-- The value at an address; an unlisted address reads as `d`. -/
def readAt {α : Type} (d : α) : List (Nat × α) → Nat → α
  | [], _ => d
  | (b, v) :: rest, a => if a == b then v else readAt d rest a

/-- Write a value at an address, keeping the canonical form: writing `d` removes the entry. -/
def writeAt {α : Type} [DecidableEq α] (d : α) : List (Nat × α) → Nat → α → List (Nat × α)
  | [], a, v => if v = d then [] else [(a, v)]
  | (b, w) :: rest, a, v =>
    if a < b then (if v = d then (b, w) :: rest else (a, v) :: (b, w) :: rest)
    else if a = b then (if v = d then rest else (a, v) :: rest)
    else (b, w) :: writeAt d rest a v

/-- The canonical form, above a lower bound on the addresses. -/
def canonAbove {α : Type} [DecidableEq α] (d : α) (lo : Nat) : List (Nat × α) → Bool
  | [] => true
  | (a, v) :: rest => decide (lo ≤ a) && decide (v ≠ d) && canonAbove d (a + 1) rest

/-- The canonical form of a store. -/
def canon {α : Type} [DecidableEq α] (d : α) (l : List (Nat × α)) : Bool := canonAbove d 0 l

/-- Write consecutive values from an address. -/
def writeRun {α : Type} [DecidableEq α] (d : α) : List (Nat × α) → Nat → List α → List (Nat × α)
  | l, _, [] => l
  | l, a, v :: vs => writeRun d (writeAt d l a v) (a + 1) vs

/-- Read `n` consecutive values from an address. -/
def readRun {α : Type} (d : α) (l : List (Nat × α)) (a n : Nat) : List α :=
  (List.range n).map fun i => readAt d l (a + i)

end Sys2Proof.Machine
end

