-- ==== Sys2Proof/Machine/Ops.lean ====
section
/-! DEFINITION. The shared operations over the state: populated instances, tenancy, events and their delivery,
counters, free values, replies, and the serving of a request through the checks of R53. -/

namespace Sys2Proof.Machine

/-! ## Accessors -/

/-- Engine `e`. -/
def State.eng (s : State) (e : Eng) : Engine := s.engines[e]
/-- Replace engine `e` by its image under `f`. -/
def State.updEng (s : State) (e : Eng) (f : Engine → Engine) : State :=
  { s with engines := s.engines.set e (f s.engines[e]) }
/-- Host port `p`. -/
def State.port (s : State) (p : Hp) : Port := s.ports[p]
/-- Replace port `p` by its image under `f`. -/
def State.updPort (s : State) (p : Hp) (f : Port → Port) : State :=
  { s with ports := s.ports.set p (f s.ports[p]) }

/-- Draw a free value: nothing constrains it (log 5). -/
def State.free (s : State) : Nat := Config.freeValue s.fresh
/-- The next free value is another one. -/
def State.skip (s : State) : State := { s with fresh := s.fresh + 1 }
/-- A quotient as a whole number: exact where it is whole; otherwise which of the two whole numbers next to it is free,
for the manual states no rounding.  It reads the `k`th free value from now (log 16). -/
def State.whole (s : State) (k : Nat) (num : Int) (den : Nat) : Int :=
  num / den + (if num % den == 0 then 0 else (Config.freeValue (s.fresh + k) % 2 : Nat))

/-- The module is ready: the reset timeline has ended and RESET_N is not held low (R505, R508). -/
def State.ready (s : State) : Bool := s.power.phase == .ready && !s.power.resetLow

/-- A takeover is in progress: no supervisor is active (R468, R470). -/
def State.inTakeover (s : State) : Bool :=
  s.sup.takeover.isSome || (match s.sup.swap with | some w => !w.taken | none => false)

/-- Requests are executed: the module is ready and no takeover is in progress; in headless running the host-port logic
answers (R62, R468, R508). -/
def State.serving (s : State) : Bool := s.ready && !s.inTakeover

/-- The timebase and the P12V rails run: in every phase but unpowered (R15, R503). -/
def State.railsOn (s : State) : Bool := s.power.phase != .unpowered

/-! ## Populated instances (R1, R2, R72) -/

/-- Number of engines populated: 4, or 2 on the DT0640-C2. -/
def State.engineCount (s : State) : Nat := if s.ident.variant = .c2 then 2 else 4
/-- Number of client lanes populated: 64, or 32 on the DT0640-C2. -/
def State.laneCount (s : State) : Nat := if s.ident.variant = .c2 then 32 else 64
/-- Engine `n` is populated. -/
def State.hasEngine (s : State) (n : Nat) : Bool := n < s.engineCount
/-- Lane, and so client port (R548), `n` is populated. -/
def State.hasLane (s : State) (n : Nat) : Bool := n < s.laneCount

/-! ## Tenancy (R58) -/

/-- Port `p` holds engine `n`. -/
def State.holdsEngine (s : State) (p : Hp) (n : Nat) : Bool := p == 0 || (s.port p).tenancy.engines.getLsbD n
/-- Port `p` holds client port `n`. -/
def State.holdsCport (s : State) (p : Hp) (n : Nat) : Bool := p == 0 || (s.port p).tenancy.cports.getLsbD n
/-- Port `p` holds timed output `n`. -/
def State.holdsTpo (s : State) (p : Hp) (n : Nat) : Bool := p == 0 || (s.port p).tenancy.tpo.getLsbD n
/-- Port `p` holds side channel `n`. -/
def State.holdsSc (s : State) (p : Hp) (n : Nat) : Bool := p == 0 || (s.port p).tenancy.sc.getLsbD n
/-- The run of `count` numbers from `first` lies within one list of ranges, number by number. -/
def inRanges (rs : List TenancyRange) (first count : Nat) : Bool :=
  match count with
  | 0 => true
  | n + 1 => rs.any (fun r => r.first.toNat ≤ first + n && first + n < r.first.toNat + r.count.toNat)
      && inRanges rs first n
/-- Port `p` holds flow contexts `first` to `first + count − 1`. -/
def State.holdsCtx (s : State) (p : Hp) (first count : Nat) : Bool :=
  p == 0 || inRanges (s.port p).tenancy.ctx first count
/-- Port `p` holds key slots `first` to `first + count − 1`. -/
def State.holdsKs (s : State) (p : Hp) (first count : Nat) : Bool :=
  p == 0 || inRanges (s.port p).tenancy.ks first count

/-! ## Counters (R483, R487) -/

/-- Kinds in the catalogue's order, with group and scope (R481, R210, R283, R376). -/
inductive CounterScope where
  | module | engine | engineDir | lane | cport | cportClass | channel | bank | bin
  deriving DecidableEq, Repr

/-- Group, byte counter or not, scope, and place in the catalogue, of a counter kind (R481). -/
def kindInfo : CounterKind → Nat × Bool × CounterScope × Nat
  | .txClipped => (0x04, false, .engine, 0)
  | .fecPositions => (0x07, false, .engine, 1)
  | .fecUncorrectable => (0x07, false, .engine, 2)
  | .fecCorrected => (0x07, false, .engine, 3)
  | .fecCorrectedOnes => (0x07, false, .engine, 4)
  | .fecIterations => (0x07, false, .engine, 5)
  | .fecEarly => (0x07, false, .engine, 6)
  | .fecKnownErrors => (0x07, false, .engine, 7)
  | .clientStuffErrors => (0x09, false, .lane, 8)
  | .clientPrbsErrors => (0x09, false, .lane, 9)
  | .clientLaneSlips => (0x09, false, .lane, 10)
  | .clientFramesIn => (0x09, false, .cport, 11)
  | .clientBytesIn => (0x09, true, .cport, 12)
  | .clientFramesOut => (0x09, false, .cport, 13)
  | .clientBytesOut => (0x09, true, .cport, 14)
  | .clientDropFcs => (0x09, false, .cport, 15)
  | .clientDropPcs => (0x09, false, .cport, 16)
  | .clientDropSize => (0x09, false, .cport, 17)
  | .clientDropEgress => (0x09, false, .cport, 18)
  | .clientRsfecCorrected => (0x09, false, .cport, 19)
  | .clientRsfecUncorrectable => (0x09, false, .cport, 20)
  | .flowDropNocontext => (0x0A, false, .cport, 21)
  | .flowDropCache => (0x0A, false, .cportClass, 22)
  | .millraceBlocks => (0x0B, false, .bank, 23)
  | .millraceStalls => (0x0B, false, .bank, 24)
  | .millraceRetries => (0x0B, false, .bank, 25)
  | .millraceKeyabsent => (0x0B, false, .bank, 26)
  | .memReads => (0x0C, false, .channel, 27)
  | .memWrites => (0x0C, false, .channel, 28)
  | .memCorrected => (0x0C, false, .channel, 29)
  | .memUncorrectable => (0x0C, false, .channel, 30)
  | .memFreshReads => (0x0C, false, .channel, 31)
  | .memMergeRmw => (0x0C, false, .channel, 32)
  | .memMergeDiscard => (0x0C, false, .channel, 33)
  | .memScrubWords => (0x0C, false, .channel, 34)
  | .timeTcUnmeasured => (0x0E, false, .cport, 35)
  | .gaugePaceLate => (0x0F, false, .module, 36)
  | .gaugeOverrun => (0x0F, false, .module, 37)
  | .gaugeChecksDisagreed => (0x0F, false, .module, 38)
  | .slotRetired => (0x12, false, .engineDir, 39)
  | .slotWasted => (0x12, false, .engineDir, 40)
  | .slotStarvedFront => (0x12, false, .engineDir, 41)
  | .slotStarvedBack => (0x12, false, .engineDir, 42)
  | .tagFrames => (0x12, false, .engineDir, 43)
  | .tagSuppressed => (0x12, false, .engineDir, 44)
  | .tagHist => (0x12, false, .bin, 45)

/-- Width of a kind's counters: 64 bits for bytes, 48 for events (R481). -/
def kindWidth (k : CounterKind) : Nat := if (kindInfo k).2.1 then 64 else 48
/-- Key of one counter in the collector's sparse stores. -/
def counterKey (k : CounterKind) (inst : Nat) : Nat := (kindInfo k).2.2.2 * 4096 + inst

/-- Add `n` to a counter, if its group is enabled and the collector counts (R487).  The stored count is not reduced:
V is the count modulo the width, and keeping the whole count makes OVF exact (R483). -/
def State.count (s : State) (k : CounterKind) (inst n : Nat) : State :=
  if s.ready && s.collector.groupEn.getLsbD (kindInfo k).1 then
    let key := counterKey k inst
    let old := readAt 0 s.collector.values key
    let wraps := old / 2 ^ kindWidth k != (old + n) / 2 ^ kindWidth k
    { s with collector := { s.collector with
        values := writeAt 0 s.collector.values key (old + n),
        wrapped := if wraps && s.collector.wrapped.isNone then some (k, inst) else s.collector.wrapped } }
  else s

/-! ## In-band interrupts (R42) -/

/-- The three payload bytes of R42. -/
def Port.payload (p : Port) : Bytes :=
  [byte (bit (!p.replies.isEmpty) 0 + bit (!p.events.isEmpty) 1 + bit (p.lost != 0) 2),
   byte p.replies.length, byte (min 255 p.events.length)]

/-- Request an IBI, while IBIs are enabled and a dynamic address is held (R42). -/
def Port.requestIbi (p : Port) : Port :=
  if p.ibiOn && p.dynAddr.isSome then { p with ibis := p.ibis + 1, ibiPayload := p.payload } else p

/-- A queue of the port is non-empty (R42). -/
def Port.hasTraffic (p : Port) : Bool := !p.replies.isEmpty || !p.events.isEmpty

/-- Queue a reply; a reply queue going from empty to non-empty requests an IBI (R42). -/
def Port.pushReply (p : Port) (r : Reply) : Port :=
  let q := { p with replies := p.replies ++ [r] }
  if p.replies.isEmpty then q.requestIbi else q

/-- Reply slots reserved by accepted requests, waiting or in execution, or held by queued replies (R41). -/
def Port.slotsUsed (p : Port) : Nat := p.queue.length + p.running.length + p.replies.length

/-! ## Events (R55 to R57) -/

/-- One record is delivered before another: it is earlier, or of equal time and lower code.  Times are compared across
the wrap of module time (R56). -/
def Event.before (a b : Event) : Bool :=
  if a.time == b.time then a.code.toNat < b.code.toNat else (b.time - a.time).toNat < 2 ^ 47

/-- Place of a record in a queue: in order of time, then of code (R56). -/
def insertEvent (ev : Event) : List Event → List Event
  | [] => [ev]
  | x :: xs => if ev.before x then ev :: x :: xs else x :: insertEvent ev xs

/-- Queue an event record on a port, or count it as lost when the queue is full (R56, R57). -/
def Port.pushEvent (p : Port) (ev : Event) : Port :=
  if p.events.length ≥ 256 then
    { p with lost := bump p.lost, firstLost := if p.lost == 0 then ev.time else p.firstLost }
  else
    let q := { p with events := insertEvent ev p.events }
    if p.events.isEmpty then q.requestIbi else q

/-- What an event's INSTANCE names, which decides its recipients (R56). -/
inductive Place where
  /-- module-wide: every port -/
  | module
  /-- an engine: HP0 and the engine's tenant -/
  | engine (e : Eng)
  /-- a client port: HP0 and the port whose tenancy holds it -/
  | cport (c : Nat)
  /-- a client lane of an engine's lane group: HP0 and the engine's tenant -/
  | lane (l : Nat)
  /-- a timed output -/
  | tpo (n : Nat)
  /-- a side channel -/
  | sc (n : Nat)
  /-- a flow context -/
  | ctx (n : Nat) (inst : BitVec 16)
  /-- a key slot -/
  | ks (n : Nat)
  /-- a host port: that port and HP0 -/
  | host (p : Hp)
  /-- only the named port, whatever its mask -/
  | only (p : Hp) (inst : BitVec 16)
  /-- an instance that no tenancy holds: HP0 only -/
  | principal (inst : BitVec 16)
  /-- every port whatever its mask (R480) -/
  | forced
  deriving DecidableEq, Repr

/-- The INSTANCE field of an event (R55). -/
def placeInst : Place → BitVec 16
  | .module => 0xFFFF
  | .engine e => BitVec.ofNat 16 e
  | .cport c => BitVec.ofNat 16 c
  | .lane l => BitVec.ofNat 16 l
  | .tpo n => BitVec.ofNat 16 n
  | .sc n => BitVec.ofNat 16 n
  | .ctx _ i => i
  | .ks n => BitVec.ofNat 16 (n / 16)
  | .host p => BitVec.ofNat 16 p
  | .only _ i => i
  | .principal i => i
  | .forced => 0xFFFF

/-- Port `p` is a recipient of an event at a place, before its EVENT_MASK (R56). -/
def State.recipient (s : State) (pl : Place) (p : Hp) : Bool :=
  match pl with
  | .module => true
  | .engine e => s.holdsEngine p e
  | .cport c => s.holdsCport p c
  | .lane l => s.holdsEngine p (l / 16)
  | .tpo n => s.holdsTpo p n
  | .sc n => s.holdsSc p n
  | .ctx n _ => s.holdsCtx p n 1
  | .ks n => s.holdsKs p n 1
  | .host q => p == 0 || p == q
  | .only q _ => p == q
  | .principal _ => p == 0
  | .forced => true

/-- An event that no mask holds back: event.overflow, cmd.done and sup.headless (R56, R480). -/
def unmasked : Place → Bool
  | .only _ _ => true
  | .forced => true
  | _ => false

/-- Deliver one record to one port (R56). -/
def State.deliver (s : State) (pl : Place) (ev : Event) (p : Hp) : State :=
  if s.recipient pl p && (unmasked pl || (s.port p).mask.getLsbD (ev.code.toNat / 256)) then
    s.updPort p (fun q => q.pushEvent ev)
  else s

/-- Count a raise in the flight recorder, which wraps and sets its sticky bit (R489). -/
def State.noteFlight (s : State) (code : BitVec 16) : State :=
  let old := readAt (0, false) s.collector.flight code.toNat
  { s with collector := { s.collector with
      flight := writeAt (0, false) s.collector.flight code.toNat (old.1 + 1, old.2 || old.1 == BitVec.allOnes 32) } }

/-- Raise an event: count it in the flight recorder and deliver it (R55, R56, R489). -/
def State.raise (s : State) (code : BitVec 16) (pl : Place) (data : Bytes) : State :=
  let ev : Event := { time := s.moduleTime, code := code, inst := placeInst pl, data := fit 6 data }
  [0, 1, 2, 3].foldl (fun s p => s.deliver pl ev p) (s.noteFlight code)

/-! ## Statuses and answers (R53, R54) -/

/-- The value of a status (R54). -/
def statusCode : Status → BitVec 16
  | .ok => 0x0000 | .okDeferred => 0x0001 | .fresh => 0x0002
  | .version => 0x0101 | .crcError => 0x0102 | .length => 0x0103 | .sequence => 0x0104 | .authFail => 0x0105
  | .authRequired => 0x0106 | .skipped => 0x0107 | .unknownOpcode => 0x0108
  | .badParam => 0x0201 | .range => 0x0202 | .inconsistent => 0x0203 | .past => 0x0204
  | .notTenant => 0x0301 | .notPrincipal => 0x0302
  | .busy => 0x0401 | .notReady => 0x0402 | .headless => 0x0403 | .queueFull => 0x0404 | .calInvalid => 0x0405
  | .quarantined => 0x0501 | .keyAbsent => 0x0502 | .exhausted => 0x0503 | .suspended => 0x0504
  | .poisoned => 0x0505

/-- Class 0x00 is success (R54). -/
def statusOk (st : Status) : Bool := (statusCode st).toNat < 0x100

/-- What executing a request comes to: a failure that changes nothing, a success with its new state, or an answer
that comes later. -/
inductive Answer where
  | fail (st : Status) (data : Bytes)
  | ok (st : Status) (data : Bytes) (s : State)
  | later (s : State)
  deriving DecidableEq, Repr

/-- Ordered checks: the first that fails sets the status (R53). -/
def guards : List (Bool × Status) → Answer → Answer
  | [], a => a
  | (bad, st) :: rest, a => if bad then .fail st [] else guards rest a

/-- The answer OK with data and no change of state. -/
def answer (data : Bytes) (s : State) : Answer := .ok .ok data s

/-- Record cmd.done for a deferred operation (R52). -/
def State.cmdDone (s : State) (d : Deferred) (st : Status) : State :=
  s.raise 0x0102 (.only d.port d.opcode) ([d.tag, byte d.port.val] ++ be 2 d.seq ++ be 2 (statusCode st))

/-- The issuer of a request, kept by a deferred operation (R52). -/
def issuerOf (op : BitVec 16) (r : Request) : Deferred := { opcode := op, port := r.port, tag := r.tag, seq := r.seq }

/-! ## Requests of the express lane (R320 to R322, R324) -/

/-- AES rounds of a key (R320). -/
def aesRounds (keyBytes : Nat) : Nat := if keyBytes == 32 then 14 else 10

/-- Number of the bank of a direction. -/
def bankNo (d : Dir) : Nat := match d with | .ingress => 0 | .egress => 1

/-- Requests in a bank (R322, R350). -/
def Bank.occupancy (b : Bank) : Nat := b.express.length + b.bulk.length

/-- Requests join the express lane of a bank, of 512 entries, or wait for room behind those that wait already (R322,
R323). -/
def Bank.enlist (b : Bank) (js : List Job) : Bank :=
  if b.waiting.isEmpty && decide (b.express.length + js.length ≤ 512) then
    { b with express := b.express ++ js, peakNow := max b.peakNow (b.occupancy + js.length) }
  else { b with waiting := b.waiting ++ [js] }

/-- Requests for a side-channel byte or a CMAC join the express lane of a bank, and their AES blocks are counted (R320,
R322). -/
def State.expressWork (s : State) (d : Dir) (js : List Job) (blocks : Nat) : State :=
  let t := match d with
    | .ingress => { s with flows := { s.flows with ingress := { s.flows.ingress with bank := s.flows.ingress.bank.enlist js } } }
    | .egress => { s with flows := { s.flows with egress := { s.flows.egress with bank := s.flows.egress.bank.enlist js } } }
  t.count .millraceBlocks (bankNo d) blocks

/-- AES blocks of a CMAC over `n` bytes, that of its subkeys counted (R323's 258 blocks of a full packet). -/
def cmacBlocks (n : Nat) : Nat := max 1 ((n + 15) / 16) + 1

/-- The chain of requests of a CMAC over `n` bytes: 256 bytes a request, the block of the subkeys with the first (R321,
R324). -/
def cmacJobs (n rounds : Nat) : List Job :=
  let blocks := cmacBlocks n - 1
  (List.range ((blocks + 15) / 16)).map fun i =>
    { rounds := (min 16 (blocks - 16 * i) + (if i = 0 then 1 else 0)) * rounds }

/-- The ingress bank computes a CMAC over `n` bytes (R320, R324; log 37). -/
def State.cmacWork (s : State) (key : Bytes) (n : Nat) : State :=
  s.expressWork .ingress (cmacJobs n (aesRounds key.length)) (cmacBlocks n)

/-- The ingress bank computes the trailer of an authenticated packet whose header and parameters or data have `n` bytes,
with the 9-byte prefix before them (R46, R324). -/
def State.authWork (s : State) (a : Option AuthContext) (n : Nat) : State :=
  match a with
  | none => s
  | some a => s.cmacWork a.key (9 + n)

/-! ## Replies (R43 to R46) -/

/-- The 9-byte prefix of an authenticated packet (R46). -/
def authPrefix (dir : Byte) (a : AuthContext) : Bytes := [dir] ++ be 6 a.sessionStart ++ be 2 a.wrap

/-- A reply packet: header, data and trailer (R43, R45, R46). -/
def replyPacket (auth : Option AuthContext) (chain prio : Bool) (tag : Byte) (seq : BitVec 16) (st : Status)
    (data : Bytes) : Bytes :=
  let head := [byte (0x10 + bit auth.isSome 3 + bit chain 2 + bit prio 1), tag] ++ be 2 (statusCode st)
    ++ beBytes 2 data.length ++ be 2 seq ++ data
  match auth with
  | none => head ++ be 4 (crc32 head)
  | some a => head ++ (cmac a.key (authPrefix 1 a ++ head)).take 8

/-- The packet that answers a request. -/
def replyTo (r : Request) (st : Status) (data : Bytes) : Bytes :=
  replyPacket r.auth r.chain r.prio r.tag r.seq st data

/-! ## Serving a request (R50 to R53) -/

/-- PORT_RESET's opcode, exempt from the chain condition (R51). -/
def opPortReset : BitVec 16 := 0x0103

/-- A request that executes ahead of others: PRIO without CHAIN (R50). -/
def urgent (r : Request) : Bool := r.prio && !r.chain

/-- The execution of a request closes one journal transaction while a supervisor serves; one sequence number a
transaction (R61, R465, R479; log 11). -/
def State.journalled (s : State) : State :=
  if s.sup.headless then s else { s with sup := { s.sup with journal := s.sup.journal + 1, journalFails := 0 } }

/-- The chain on a port has failed, after a request was answered: PORT_RESET ends every chain, PRIO or not; any other
request with PRIO leaves a chain as it is (R50, R51, R67). -/
def chainAfter (failed : Bool) (op : BitVec 16) (r : Request) (st : Status) : Bool :=
  if op == opPortReset && statusOk st then false
  else if urgent r then failed
  else (failed || !statusOk st) && r.chain

/-- The chain on a port after a request was answered: one that the chain does not concern leaves it as it is, however
late its answer comes (R51, R67). -/
def Port.chainNow (p : Port) (op : BitVec 16) (r : Request) (st : Status) : Bool :=
  if p.offChain.contains (op, r) then p.chainFailed else chainAfter p.chainFailed op r st

/-- Queue the reply to a request, which no longer executes, and bring the chain on its port up to date (R50, R51). -/
def State.conclude (s : State) (op : BitVec 16) (r : Request) (st : Status) (data : Bytes) : State :=
  (s.journalled.authWork r.auth (8 + data.length)).updPort r.port fun p =>
    { p.pushReply { seq := r.seq, opcode := op, bytes := replyTo r st data } with
      running := p.running.erase (op, r), chainFailed := p.chainNow op r st, offChain := p.offChain.erase (op, r) }

/-- The accepted request leaves the queue when its execution starts. -/
def State.takeRequest (s : State) (op : BitVec 16) (r : Request) : State :=
  s.updPort r.port fun p => { p with queue := p.queue.erase (op, r) }

/-- The request goes on executing and is answered later: its reply slot stays reserved (R41, R52).  Without CHAIN its end
is no condition of its successors, which execute meanwhile (R51). -/
def State.runOn (s : State) (op : BitVec 16) (r : Request) : State :=
  s.updPort r.port fun p => { p with
    running := p.running ++ [(op, r)]
    offChain := if r.chain then p.offChain else (op, r) :: p.offChain.erase (op, r) }

/-- A chained request of the port is still in execution: its successor waits for it, unless a PORT_RESET has ended the
chain (R51, R67). -/
def Port.chainOpen (p : Port) : Bool := p.running.any fun x => x.2.chain && !p.offChain.contains x

/-- The chain condition of R51 stops a request: not one that executes ahead of others, nor one that had met the
condition before a takeover gave it back to the queue (R61). -/
def Port.skips (p : Port) (op : BitVec 16) (r : Request) : Bool :=
  p.chainFailed && !(urgent r) && !p.offChain.contains (op, r)

/-- A request may execute now: requests are served, and it does not wait for the answer to its chained predecessor
(R50, R51, R468, R508). -/
def State.serves (s : State) (r : Request) : Bool := s.serving && !((s.port r.port).chainOpen && !urgent r)

/-- Steps 6, 7 and 9 of R53, then the opcode's own checks and effect. -/
def judge (op : BitVec 16) (servedHeadless : Bool) (r : Request) (s : State) (body : State → Answer) : Answer :=
  guards [
    (r.prio && r.chain, .badParam),
    ((s.port r.port).skips op r && op != opPortReset, .skipped),
    (s.sup.headless && !servedHeadless, .headless)] (body s)

/-- Execute one accepted request of opcode `op`: checks in the order of R53, effect, one reply, the chain (R50, R61).
Nothing happens before the module is ready, while a takeover is in progress, or while a chained predecessor is in
execution: the request waits (R51, R468, R508). -/
def serve (op : BitVec 16) (servedHeadless : Bool) (r : Request) (s : State) (body : State → Answer) : State :=
  if !s.serves r then s
  else
    let s1 := s.takeRequest op r
    match judge op servedHeadless r s1 body with
    | .fail st data => s1.conclude op r st data
    | .ok st data s2 => s2.conclude op r st data
    | .later s2 => s2.runOn op r

/-! ## Parameter forms (R4, R5, R53 step 11) -/

/-- VER_FLAGS bit 0 and the length of the parameters (R43, R53 step 11). -/
def badForm (r : Request) (len : Nat) : Bool := r.flag0 || r.params.length != len

end Sys2Proof.Machine
end

