-- ==== Sys2Proof/Machine/EngineOps.lean ====
section
/-! DEFINITION. Operations of one wavelength engine that several commands share: the profile word's fields, the two
sides of a paired commit, staged scopes, the modulator bias holds, enable and quench, and the receiver's moves. -/

namespace Sys2Proof.Machine

/-! ## Fields of the engine profile word (R22) -/

/-- LINE. -/
def EngineParams.line (p : EngineParams) : Nat := p.profile.toNat % 16
/-- TWIN. -/
def EngineParams.isTwin (p : EngineParams) : Bool := p.profile.getLsbD 4
/-- OXBOW. -/
def EngineParams.oxbow (p : EngineParams) : Bool := p.profile.getLsbD 5
/-- OXB_LOOP. -/
def EngineParams.loop (p : EngineParams) : Bool := p.profile.getLsbD 6
/-- OXB_SRC. -/
def EngineParams.oxbSrc (p : EngineParams) : Nat := p.profile.toNat / 256 % 4
/-- OXB_PATTERN. -/
def EngineParams.oxbPattern (p : EngineParams) : Nat := p.profile.toNat / 4096 % 16
/-- The profile code of R24: LINE, plus 0x8 in Oxbow. -/
def EngineParams.code (p : EngineParams) : Nat := p.line + (if p.oxbow then 8 else 0)
/-- The Oxbow pattern transmission of R124 is configured. -/
def EngineParams.patterned (p : EngineParams) : Bool := p.oxbow && p.oxbSrc == 2

/-- What the transmit side runs on: the active copy, or the value held for it until its own boundary (R96). -/
def Engine.txParams (e : Engine) : EngineParams :=
  match e.later with | some (.transmit, old) => old | _ => e.params.active
/-- What the frames of an engine carry: the transmit side's parameters, but in a DEP for LINE 0x0 still the profile of the
chain that ends (R121, R219, R550). -/
def Engine.frameParams (e : Engine) : EngineParams :=
  match e.tx.depProfile with | some w => { e.txParams with profile := w } | none => e.txParams
/-- What the receive side runs on (R96). -/
def Engine.rxParams (e : Engine) : EngineParams :=
  match e.later with | some (.receive, old) => old | _ => e.params.active

/-- The line profile the receive side runs. -/
def Engine.rxProfile (e : Engine) : Option Profile := profileOf e.rxParams.line

/-! ## Staged scopes (R78, R79) -/

/-- A pending commit holds class `c` on engine `e` (R79). -/
def State.holdsScope (s : State) (c : Nat) (e : Nat) : Bool :=
  s.commits.any fun k => k.classes.getLsbD c && k.engines.getLsbD e
/-- A pending commit holds module-wide class `c` (R79). -/
def State.holdsModule (s : State) (c : Nat) : Bool := s.commits.any fun k => k.classes.getLsbD c

/-- Change an engine's staged parameters. -/
def State.stage (s : State) (e : Eng) (f : EngineParams → EngineParams) : State :=
  s.updEng e fun x => { x with params := { x.params with staged := f x.params.staged } }

/-- Engine number of a parameter byte, cut to the four engines; the range check comes first. -/
def engOf (n : Nat) : Eng := Fin.ofNat 4 n

/-- One copy of staged parameters by COPY: 0 active, otherwise staged (R76). -/
def copyOf {α : Type} (c : Byte) (x : Staged α) : α := if c == 0 then x.active else x.staged

/-! ## Factory validity (R180, R183, R184) -/

/-- Engine `e` is CAL-INVALID: MODULE, one of its required records, or a fuse row is invalid. -/
def State.calInvalid (s : State) (e : Eng) : Bool :=
  (s.eng e).cal.fuseInvalid || s.records.any fun r => r.status != 0 &&
    ((r.type == 1 && r.engine == 0xFF) || (r.engine == BitVec.ofNat 8 e && r.type.toNat ∈ [0x10, 0x11, 0x12, 0x13, 0x14]))

/-! ## Bias loops (R118, R128) -/

/-- The laser is dark: not driven, still ramping before its locker closes, while the receiver is OFF for a dark engine
(R120, R148; log 26), or in the fast quench, whose first step puts out the light (R118, R121). -/
def laserDark (t : TxState) : Bool :=
  match t.mode with
  | .dark | .quenching | .laserFault | .heldDark => true
  | .enabling => t.step == 1
  | .lit | .departing => false

/-- Loops held for any cause (R118). -/
def State.holdSet (s : State) (e : Eng) : BitVec 6 :=
  let t := (s.eng e).tx
  if laserDark t || s.gauge.hold then 0x3F else t.hostHold

/-- Bring the held loops up to date, raising tx.bias.hold.raise and tx.bias.hold.clear for what starts and ends
(R118, R129). -/
def State.rehold (s : State) (e : Eng) (cause : Byte) : State :=
  let old := (s.eng e).tx.held
  let new := s.holdSet e
  let starts := new &&& ~~~old
  let ends := old &&& ~~~new
  let s := s.updEng e fun x => { x with tx := { x.tx with held := new } }
  let s := if starts != 0 then s.raise 0x0403 (.engine e) [starts.setWidth 8, cause, new.setWidth 8] else s
  if ends != 0 then s.raise 0x0404 (.engine e) [ends.setWidth 8, 0, new.setWidth 8] else s

/-- The same after the laser goes dark: a hold for which the spec gives no cause code, so the code is free
(R129, log 16). -/
def State.reholdDark (s : State) (e : Eng) : State := s.skip.rehold e (byte s.free)

/-! ## Receiver moves (R149) -/

/-- Clear dMAP, dLINK and dBDI where they are raised: they are masked (R237). -/
def State.maskSmall (s : State) (e : Eng) : State :=
  let d := (s.eng e).deframer
  let s := s.updEng e fun x => { x with deframer := { x.deframer with
    map := false, link := false, bdi := false, mapFilter := {}, linkFilter := {}, bdiFilter := {} } }
  let s := if d.map then s.raise 0x0806 (.engine e) [] else s
  let s := if d.link then s.raise 0x0808 (.engine e) [] else s
  if d.bdi then s.raise 0x080A (.engine e) [] else s

/-- Raise dLOF, unless dLOS masks it or it is raised already; it masks the small defects (R237). -/
def State.lofRaise (s : State) (e : Eng) : State :=
  let d := (s.eng e).deframer
  if d.lof || d.los then s
  else
    let s := s.updEng e fun x => { x with deframer := { x.deframer with lof := true } }
    (s.raise 0x0803 (.engine e) (be 4 d.fnr)).maskSmall e

/-- Clear dLOF with the given event data, if it is raised (R237, R253). -/
def State.lofClear (s : State) (e : Eng) (data : Bytes) : State :=
  if (s.eng e).deframer.lof then
    (s.updEng e fun x => { x with deframer := { x.deframer with lof := false } }).raise 0x0804 (.engine e) data
  else s

/-- The deframer goes OFF: it leaves SYNC, its hunt and its averages end (R228, R236). -/
def State.deframerOff (s : State) (e : Eng) : State :=
  s.updEng e fun x => { x with deframer := { x.deframer with
    mode := .off, cands := [], ambiguous := false, misses := 0, jump := none, rtd := [], theta := [] } }

/-- Raise or clear dLOS, which masks the other defects (R237).  Masking clears a raised dLOF; the spec gives no FNR at
SYNC for that clear, so its data are free (log 16). -/
def State.setLos (s : State) (e : Eng) (on : Bool) : State :=
  let d := (s.eng e).deframer
  if d.los == on then s
  else
    let s := s.updEng e fun x => { x with deframer := { x.deframer with
      los := on,
      departed := if on then (match x.deframer.lastDep with
        | some t => decide ((s.moduleTime - t).toNat ≤ 61035) | none => false) else false } }
    let s := s.raise (if on then 0x0801 else 0x0802) (.engine e) []
    if on then ((if d.lof then s.skip.lofClear e (beBytes 5 s.free) else s).maskSmall e) else s

/-- The decoder's window is discarded, alignment and cycle phase are cleared, and the chain is unknown (R211, R214). -/
def State.fecReset (s : State) (e : Eng) : State :=
  s.updEng e fun x => { x with fec := x.fec.clear }

/-- Carrier recovery starts anew: nothing of the pilots is held any more (R144, R145, R149). -/
def RxPipe.lose (k : RxPipe) : RxPipe :=
  { k with before := [], held := [], last := none, flags := [], restarted := none, out := [] }

/-- The receiver goes OFF (R149). -/
def State.rxOff (s : State) (e : Eng) : State :=
  if (s.eng e).rx.mode == .off then s
  else
    let s := s.updEng e fun x => { x with rx := { x.rx with
      mode := .off, lineOffered := false, grid := none, search := none, pipe := x.rx.pipe.lose } }
    ((s.deframerOff e).setLos e false).fecReset e

/-- The receiver enters WAIT_LIGHT: the loss-of-signal indication starts (R149). -/
def State.rxWait (s : State) (e : Eng) : State :=
  let s := s.updEng e fun x => { x with rx := { x.rx with
    mode := .waitLight, lineOffered := false, grid := none, search := none, pipe := x.rx.pipe.lose } }
  ((s.deframerOff e).setLos e true).fecReset e

/-- Raise rx.relock with its cause and the state left (R166). -/
def State.relock (s : State) (e : Eng) (cause : Byte) (left : Byte) : State :=
  let s := s.updEng e fun x => { x with rx := { x.rx with lastRelock := cause } }
  s.raise 0x0502 (.engine e) [cause, left]

/-- The receiver enters FREQ, which clears the freeze bits; `fast` keeps CD_BULK for a short search (R149, R151,
R160). -/
def State.rxFreq (s : State) (e : Eng) (fast : Bool) : State :=
  let synced := (s.eng e).deframer.mode == .sync
  let s := s.updEng e fun x => { x with rx := { x.rx with
    mode := .freq, lineOffered := false, frozen := 0, fast := fast, freqEntry := s.moduleTime, grid := none,
    search := none, pipe := x.rx.pipe.lose } }
  let s := if synced then s.lofRaise e else s
  ((s.deframerOff e).setLos e false).fecReset e

/-- Receiver state code (R148). -/
def rxCode : RxMode → Byte
  | .off => 0 | .waitLight => 1 | .freq => 2 | .cd => 3 | .clock => 4 | .premix => 5 | .pilot => 6 | .decode => 7
  | .track => 8 | .hold => 9

/-! ## Enable and quench (R120 to R123) -/

/-- Full attenuation: −35 dBm, in 10^-8 dBm (R120, R121). -/
def fullAttenuation : Int := -3500000000

/-- The launch target in 10^-8 dBm: +2.00 dBm − 0.01 × ATTEN dB (R117).  Under OXB_LOOP the loopback shutter is closed, and
the attenuator holds the faceplate output at or below −35 dBm (R34). -/
def EngineParams.launch (p : EngineParams) : Int :=
  if p.loop then fullAttenuation else 200000000 - 1000000 * (p.tx.atten.toNat : Int)

/-- A measured output, in 0.01 dBm, differs from a power in 10^-8 dBm by at most a bound, or, where the output is to stay at
or below that power, exceeds it by no more (R34, R117, R120). -/
def EngineParams.powerOk (p : EngineParams) (pOut : BitVec 16) (power bound : Int) : Bool :=
  let over_ := pOut.toInt * 1000000 - power
  decide (over_ ≤ bound) && (p.loop || decide (-bound ≤ over_))

/-- Move a value towards a target by at most `step`. -/
def rampTo (step target now : Int) : Int :=
  if now < target then min target (now + step) else max target (now - step)

/-- One MFC period of the attenuator, at 1 dB/ms from step 4 of an enable on, and of the laser's fine tuning, at 20 MHz/ms
on a lit engine (R116, R117, R120). -/
def Engine.ramps (x : Engine) : Engine :=
  let t := x.tx
  let p := x.txParams.tx
  let lit := t.mode == .lit || t.mode == .departing
  { x with tx := { t with
    setpoint := if lit || (t.mode == .enabling && t.step == 4) then
        (if x.txParams.line == 0 then t.setpoint else rampTo 16384 x.txParams.launch t.setpoint) else t.setpoint,
    tuned := if lit || (t.mode == .enabling && t.step != 1) then rampTo 32768 (p.fine.toInt * 10000000) t.tuned
             else t.tuned } }

/-- The Oxbow slots of an engine's commit frame: one register a slot, seeded with the slot number plus one (R35). -/
def prbsSeeds (p : EngineParams) : List (BitVec 23) :=
  if p.oxbow && p.oxbSrc == 1 then (List.range (slotsOf p.line)).map fun k => BitVec.ofNat 23 (k + 1) else []

/-- The pairs of engines that can run Twin, lower member first (R28). -/
def twinPairs : List (Eng × Eng) := [(0, 1), (2, 3)]

/-- The higher member of a pair takes the lower member's FN where both transmit under Twin: a pair sends one FN (R29). -/
def State.twinFollow (s : State) : State :=
  twinPairs.foldl (fun s p =>
    if (s.eng p.1).txParams.isTwin && (s.eng p.2).txParams.isTwin && (s.eng p.1).tx.running && (s.eng p.2).tx.running then
      s.updEng p.2 fun x => { x with tx := { x.tx with fn := (s.eng p.1).tx.fn } }
    else s) s

/-- The transmitter starts, with FN from module time, and the slots' PRBS with it (R35, R219).  `lead` is 1 at a frame
boundary, whose tick follows and whose module time is already the tick's, and 0 between boundaries: either way the first
frame carries its own tick's module time.  A member of a Twin pair that starts after the commit frame of Twin brings the
pair to one FN, the lower member's (R29; log 34). -/
def State.txStart (s : State) (e : Eng) (lead : BitVec 32) : State :=
  (s.updEng e fun x => { x with tx := { x.tx with
    running := true, fn := s.moduleTime.setWidth 32 - lead, prbs := prbsSeeds x.txParams } }).twinFollow

/-- Start the enable sequence at step 1: the chain starts, and with `newFn` the transmitter starts (R120, R197, R219). -/
def State.txEnable (s : State) (e : Eng) (newFn : Bool) (lead : BitVec 32) : State :=
  let line := (s.eng e).txParams.line
  let s := s.updEng e fun x => { x with tx := { x.tx with
    mode := .enabling, step := 1, acquired := 0, enableNext := false, newFn := false, depLeft := none,
    setpoint := fullAttenuation, depProfile := none, running := true,
    chain := if x.txParams.patterned then x.tx.chain.cut else x.tx.chain.start line } }
  let s := if newFn then s.txStart e lead else s
  s.rehold e 0x02

/-- The engine may light: not held by Weir, no laser fault, calibration valid, tile working. -/
def State.mayLight (s : State) (e : Eng) : Bool :=
  !s.weir.hold && !(s.eng e).tx.fault && !s.calInvalid e && !(s.eng e).tileFailed && s.hasEngine e

/-- The transmitter stops: no frame begins any more; what its chain still has to send follows (R197, R219). -/
def State.txStop (s : State) (e : Eng) : State :=
  s.updEng e fun x => { x with tx := { x.tx with running := false, frame := none, cann := {}, cack := {} } }

/-- The fast quench: full attenuation, drivers muted, light gone; the receiver goes OFF (R121, R149).  `ended` when the
chain sends its termination.  Where it ends a DEP for LINE 0x0, in time or early, the transmitter stops with it (R123,
R219). -/
def State.fastQuench (s : State) (e : Eng) (reason : Byte) (ended : Bool) : State :=
  let stops := (s.eng e).tx.depProfile.isSome || (s.eng e).txParams.line == 0
  let s := s.updEng e fun x => { x with tx := { x.tx with
    mode := .quenching, step := 0, acquired := 0, reason := reason, depLeft := none, depProfile := none,
    setpoint := fullAttenuation, chain := if ended then x.tx.chain.finish else x.tx.chain.cut } }
  let s := if stops then s.txStop e else s
  (s.reholdDark e).rxOff e

/-- A quench reason that sends DEP first: codes 0x01 and 0x03 (R121). -/
def orderly (reason : Byte) : Bool := reason == 1 || reason == 3

/-- A quench reason arises on an engine (R121, R123). -/
def State.quench (s : State) (e : Eng) (reason : Byte) : State :=
  match (s.eng e).tx.mode with
  | .lit =>
    if orderly reason then
      s.updEng e fun x => { x with tx := { x.tx with mode := .departing, reason := reason, depLeft := some 256 } }
    else s.fastQuench e reason false
  | .enabling => s.fastQuench e reason false
  | .departing => if orderly reason then s else s.fastQuench e reason false
  | .quenching =>
    if (s.eng e).tx.reason == 2 && reason != 2 then
      s.updEng e fun x => { x with tx := { x.tx with reason := reason, enableNext := false } }
    else s
  | .dark | .laserFault | .heldDark => s

/-- The code TX_STATUS reports (R127, R122, R454). -/
def Engine.txCode (x : Engine) : Byte :=
  if x.tx.fault then 5
  else match x.tx.mode with
    | .dark => 0 | .enabling => 1 | .lit => 2 | .departing => 3 | .quenching => 4 | .laserFault => 5
    | .heldDark => 6

/-- The decoder runs: DECODE and TRACK (R148). -/
def RxState.decoding (r : RxState) : Bool := r.mode == .decode || r.mode == .track

/-- The engine counts as lit for the rules on a lit engine: enabling, lit or departing. -/
def Engine.litOrEnabling (x : Engine) : Bool :=
  match x.tx.mode with | .enabling | .lit | .departing => true | _ => false

/-- An ADC is held, or its clock stops or changes: the measurement or result in progress is discarded, and the swap stands.
At another clock the same slice is measured again; otherwise the step itself ends, and with it the settings it began with
(R179). -/
def Adc.discard (a : Adc) (stopped : Bool) : Adc :=
  match a.phase with
  | .idle | .discarded => a
  | .measuring | .waiting | .closing => { a with
    phase := if stopped then .discarded else .measuring, cfg := if stopped then none else a.cfg, shadow := a.active,
    verdict := none }

/-- The ADCs of an engine discard what they measure (R179). -/
def CalState.discardAdc (c : CalState) (stopped : Bool) : CalState :=
  { c with adc := c.adc.map fun a => a.discard stopped }

/-- The DACs of an engine discard what they measure: a result that waits for its apply is lost too, and its phase is the
next one measured (R179). -/
def CalState.discardDac (c : CalState) (stopped : Bool) : CalState :=
  let c := { c with dacCfg := if stopped then none else c.dacCfg }
  (List.finRange 4).foldl (fun c d =>
    let x := c.dac[d]
    match x.due with
    | none => c
    | some v => { c with
        dacPhase := Fin.ofNat 16 (4 * d.val + v.1.val)
        dac := c.dac.set d { x with shadow := x.active, due := none,
                                    began := if x.measured = 0 then none else x.began } }) c

/-- All converters of an engine discard what they measure: a Gauge hold (R179). -/
def CalState.discard (c : CalState) : CalState := (c.discardAdc true).discardDac true

/-! ## The two sides of a commit on one engine -/

/-- What every commit does to a transmit side: another LINE discards the DACs' measurements, and OXB_LOOP shutters the
output (R34, R179). -/
def State.txPrepare (s : State) (e : Eng) (old new : EngineParams) : State :=
  let s := if old.line != new.line then
      s.updEng e fun x => { x with cal := x.cal.discardDac (new.line == 0) }
    else s
  if new.loop then s.updEng e fun x => { x with tx := { x.tx with setpoint := fullAttenuation } } else s

/-- LINE becomes 0: the engine is quenched with reason 0x01, and its DEP frames go out under the old profile (R121,
R219). -/
def State.txLeave (s : State) (e : Eng) (old : EngineParams) : State :=
  let t := (s.eng e).tx
  let s := s.updEng e fun x => { x with tx := { x.tx with faultOff := true, enableNext := false } }
  let carry := fun (s : State) => s.updEng e fun x => { x with tx := { x.tx with depProfile := some old.profile } }
  match t.mode with
  | .lit => carry (s.quench e 1)
  | .enabling | .quenching => (s.quench e 1).txStop e
  | .departing => if t.depProfile.isNone then carry s else s
  | .dark | .laserFault | .heldDark => s.txStop e

/-- LINE becomes a profile again: a laser fault ends, and the engine is enabled once it may be lit (R120, R122,
R219). -/
def State.txEnter (s : State) (e : Eng) : State :=
  let t := (s.eng e).tx
  let s := if t.fault && t.faultOff then
      s.updEng e fun x => { x with tx := { x.tx with
        fault := false, faultOff := false,
        mode := match x.tx.mode with | .laserFault => if s.weir.hold then .heldDark else .dark | m => m } }
    else s
  match (s.eng e).tx.mode with
  | .departing | .quenching => s.updEng e fun x => { x with tx := { x.tx with enableNext := true, newFn := true } }
  | .heldDark => s.txStart e 1
  | .dark | .laserFault | .enabling | .lit => if s.mayLight e then s.txEnable e true 1 else s

/-- A transmitting engine stays so: another channel quenches and enables it anew, a pattern ends the chain, the end of a
pattern starts one, and another profile changes it without a gap (R36, R116, R124, R197, R199). -/
def State.txSwitch (s : State) (e : Eng) (old new : EngineParams) : State :=
  let lit := (s.eng e).litOrEnabling
  if old.tx.chan != new.tx.chan && lit then
    (s.quench e 2).updEng e fun x => { x with tx := { x.tx with enableNext := true } }
  else if !lit then s
  else if new.patterned then
    if old.patterned then s else s.updEng e fun x => { x with tx := { x.tx with chain := x.tx.chain.finish } }
  else if old.patterned then
    s.updEng e fun x => { x with tx := { x.tx with chain := x.tx.chain.start new.line } }
  else if old.line != new.line then
    s.updEng e fun x => { x with tx := { x.tx with chain := x.tx.chain.change new.line } }
  else s

/-- The transmit side takes new parameters at a frame boundary (R114, R116, R120, R121, R179, R197, R219). -/
def State.txApply (s : State) (e : Eng) (old new : EngineParams) : State :=
  let s := s.txPrepare e old new
  if old.line != 0 && new.line == 0 then s.txLeave e old
  else if old.line == 0 && new.line != 0 then s.txEnter e
  else if new.line == 0 then s
  else s.txSwitch e old new

/-! ## Values in force (R201, R208, R209) -/

/-- Active W of a parameter set: the profile's default where none is set (R201); none without either. -/
def EngineParams.window (p : EngineParams) : Option Nat :=
  if p.fec.w != 0 then some p.fec.w.toNat else (profileOf p.line).map (·.window)

/-- Committed I: the profile's default where none is set (R201). -/
def EngineParams.iters (p : EngineParams) : Option Nat :=
  if p.fec.i != 0 then some p.fec.i.toNat else (profileOf p.line).map (·.iters)

/-- The design limit of R207 at a number of iterations, in 1/40,000. -/
def EngineParams.limit (p : EngineParams) (i : Nat) : Option Nat :=
  match profileOf p.line, p.window with
  | some q, some w => some (limit40k q.rows w i)
  | _, _ => none

/-- Q of an error ratio in 0.01 dB; free where the formula has no value to show (R156, R209; log 14). -/
def quality (num den : Nat) : Int := (qualityOf num den).getD (Config.openQuality num den)

/-- MARGIN_USED of R209: zero when the two values of I are equal. -/
def EngineParams.margin (p : EngineParams) (active committed : Nat) : BitVec 16 :=
  match p.limit active, p.limit committed with
  | some a, some c => if active == committed then 0
    else satInt 16 (quality a 40000 - quality c 40000)
  | _, _ => 0

/-- The active I that R208 gives now: 0 stands for none, with neither an I set nor a profile. -/
def Engine.iNow (x : Engine) : Nat := min (x.rxParams.iters.getD 0) x.iLimit

/-- The active I follows the committed I and Weir's limit, and ET_OFF the configuration; a change from one I to another
raises fec.effort (R201, R208, R209). -/
def State.fecEffort (s : State) (e : Eng) : State :=
  let x := s.eng e
  let i := x.iNow
  let committed := x.rxParams.iters.getD 0
  let m := x.rxParams.margin i committed
  let s := s.updEng e fun x => { x with
    fec := { x.fec with iActive := i, etOff := x.rxParams.fec.flags.getLsbD 0 }, marginUsed := m }
  if i == x.fec.iActive || i == 0 || x.fec.iActive == 0 then s
  else s.raise 0x0703 (.engine e) ([byte i, byte committed] ++ be 2 m)

/-- While the decoder is off no advance is in progress, and the active I follows at once (R208, R211; log 26). -/
def State.idleEffort (s : State) (e : Eng) : State :=
  let m := (s.eng e).rx.mode
  if m == .decode || m == .track then s else s.fecEffort e

/-- A configured value, or the profile's default when it reads 0 (R163, R164). -/
def orDefault (v : Byte) (d : Nat) : Nat := if v == 0 then d else v.toNat

/-- The kernel in force (R134, R164). -/
def EngineParams.kernel (p : EngineParams) : Nat :=
  orDefault p.rx.kernel (match profileOf p.line with | some q => q.kernel | none => 1)

/-- The committed tap count (R142, R164). -/
def EngineParams.taps (p : EngineParams) : Nat :=
  orDefault p.rx.mimoTaps (match profileOf p.line with | some q => q.taps | none => 7)

/-- Spacing of the equaliser's taps, 5T/6, in ps (R141). -/
def Profile.tapSpacing (p : Profile) : Rat := 5000 * p.baudDen / (6 * p.baudNum)

/-- What takes effect at the symbol period in which a new chain starts: the tap count and the re-interpolated taps, the
restarted pilot phase, and the chain; ρ, the frequency offset and CD_BULK stay (R152, R199).  Where the change was
foreseen the pilots restart with the chain's first symbol, and a hunt goes on; otherwise they restart here, and a group or
phase hunt is abandoned and begins anew (R211). -/
def Engine.switchLine (x : Engine) (old new : EngineParams) : Engine :=
  match profileOf old.line, profileOf new.line with
  | some p, some q =>
    let taps := min new.taps x.tapLimit
    let foreseen := x.fec.line == new.line || x.fec.change.any fun c => c.line == new.line
    { x with
      rx := { x.rx with
        postSwitch := if x.rx.mode == .track then 2 else 0, taps := taps,
        eq := maskTaps taps (Config.reinterpolated x.rx.eq p.tapSpacing q.tapSpacing),
        grid := if foreseen then x.rx.grid else x.rx.grid.map PilotGrid.restart },
      fec := if foreseen then x.fec else if x.deframer.mode != .sync then x.fec.clear else x.fec.rebase new.line }
  | _, _ => x

/-- The parts of the receiver that follow a commit whatever its state: the freeze bits end with Oxbow, and a new kernel
fades in from the old one (R135, R160). -/
def Engine.rxFollow (x : Engine) (old new : EngineParams) : Engine :=
  { x with rx := { x.rx with
    frozen := if old.oxbow && !new.oxbow then 0 else x.rx.frozen,
    pipe := if old.kernel == new.kernel then x.rx.pipe else { x.rx.pipe with fade := some (old.kernel, 0) } } }

/-- dLINK is cleared where EXP_LINKID becomes 0 (R237). -/
def State.linkApply (s : State) (e : Eng) (new : EngineParams) : State :=
  if new.frame.expLinkid == 0 && (s.eng e).deframer.link then
    (s.updEng e fun x => { x with deframer := { x.deframer with link := false, linkFilter := {} } }).raise 0x0808
      (.engine e) []
  else s

/-- What every commit does to a receive side: another LINE discards the ADCs' measurements (R179), and the parts that
follow a commit whatever the receiver's state follow it. -/
def State.rxPrepare (s : State) (e : Eng) (old new : EngineParams) : State :=
  let s := if old.line != new.line then
      s.updEng e fun x => { x with cal := x.cal.discardAdc (new.line == 0) }
    else s
  s.updEng e fun x => x.rxFollow old new

/-- ρ of equal clocks. -/
def rhoOne : BitVec 48 := 0x10000000000

/-- The receiver sees its own laser, on its own clock: no offset of the clocks and no dispersion (R159). -/
def Engine.selfLit (x : Engine) : Engine := { x with rx := { x.rx with cdBulk := 0, rho := rhoOne } }

/-- A receive side with a profile goes on under it; out of HOLD once neither end of the loop is patterned (R149, R152,
R153, R159). -/
def State.rxSwitch (s : State) (e : Eng) (old new : EngineParams) : State :=
  let s := if old.line != new.line then s.updEng e fun x => x.switchLine old new else s
  let s := if new.loop then s.updEng e Engine.selfLit else s
  if (s.eng e).rx.mode == .hold && !new.patterned then s.rxFreq e false else s

/-- The receive side takes new parameters at its boundary (R149, R152, R153, R160, R237). -/
def State.rxApply (s : State) (e : Eng) (old new : EngineParams) : State :=
  let s := s.rxPrepare e old new
  let s := if new.line == 0 then s.rxOff e else s.rxSwitch e old new
  (s.linkApply e new).idleEffort e

/-- Run a boundary operation with the module time of the tick at which the boundary falls, the next one: a frame
boundary's effects precede the frame that begins there (R74, R550; log 3). -/
def State.atBoundary (s : State) (f : State → State) : State :=
  let t := f { s with moduleTime := s.moduleTime + 1 }
  { t with moduleTime := t.moduleTime - 1 }

/-! ## Parameter forms of engine commands -/

/-- The number that the low `w` bits of a field spell in two's complement. -/
def signed (w n : Nat) : Int := (BitVec.ofNat w n).toInt

/-- A signed number lies within ± a bound. -/
def within (i : Int) (bound : Nat) : Bool := i.natAbs ≤ bound

/-- The outcome of an opcode's row: the request is served (R53). -/
def opcode (op : BitVec 16) (servedHeadless : Bool) (r : Request) (s : State) (body : State → Answer) :
    Host.Outcome State Fault Refusal := .next (serve op servedHeadless r s body)

/-- The outcome of an event's row: it acts while the module's rails are on and it is ready, otherwise nothing happens
(log 4). -/
def event (s : State) (f : State → State) : Host.Outcome State Fault Refusal :=
  .next (if s.ready then f s else s)

/-- An event that applies only under a condition, and otherwise changes nothing (log 4). -/
def eventIf (s : State) (cond : Bool) (f : State → State) : Host.Outcome State Fault Refusal :=
  event s fun s => if cond then f s else s

/-- A principal-only opcode on another port (R58). -/
def notPrincipal (r : Request) : Bool := r.port != 0

/-- The parameters are ENGINE and three zero bytes. -/
def badEngine3 (r : Request) : Bool := badForm r 4 || !zeroAt r.params 1 3
/-- The parameters are ENGINE, COPY and two zero bytes; COPY above 1 is BAD-PARAM (R76). -/
def badEngineCopy (r : Request) : Bool := badForm r 4 || !zeroAt r.params 2 2 || field r.params 1 1 > 1

/-- The checks every engine read makes: form, engine populated, tenancy (R53). -/
def engineGuards (bad : Bool) (r : Request) (s : State) (a : Eng → Answer) : Answer :=
  let n := field r.params 0 1
  guards [(bad, .badParam), (!s.hasEngine n, .range), (!s.holdsEngine r.port n, .notTenant)] (a (engOf n))

end Sys2Proof.Machine
end

