-- ==== Sys2Proof/Machine/Calib.lean ====
section
/-! DEFINITION. Group 0x06, the converters and their calibration sequencers: configuration, status, slice tables,
records, and the steps of the sequencers (spec/07_converters_calibration.md). -/

namespace Sys2Proof.Machine

/-! ## CAL_CONFIG (R186) -/

/-- The calibration configuration from the 16 bytes of R186. -/
def parseCal (p : Bytes) : CalConfig :=
  { adcMode := u8 p 1, dacMode := u8 p 2, tolOffset := u16 p 4, tolGain := u16 p 6, tolSkew := u16 p 8,
    interval := u16 p 10, attempts := u8 p 12 }

/-- The 16 bytes of R186. -/
def renderCal (e : Byte) (c : CalConfig) : Bytes :=
  [e, c.adcMode, c.dacMode, 0] ++ be 2 c.tolOffset ++ be 2 c.tolGain ++ be 2 c.tolSkew ++ be 2 c.interval
    ++ [c.attempts, 0, 0, 0]

/-- A value is none set, or lies in its range. -/
def zeroOr (v : BitVec 16) (lo hi : Nat) : Bool := v == 0 || (lo ≤ v.toNat && v.toNat ≤ hi)

/-- Every value lies in its range (R186). -/
def calRangeOk (c : CalConfig) : Bool :=
  zeroOr c.tolOffset 4 128 && zeroOr c.tolGain 20 1000 && zeroOr c.tolSkew 5 200 && c.interval.toNat ≤ 1000
    && c.attempts.toNat ≤ 8

/-- CAL_CONFIG_WRITE (R185, R186). -/
def calConfigWriteBody (r : Request) (s : State) : Answer :=
  let n := field r.params 0 1
  let c := parseCal r.params
  guards [
    (badForm r 16 || !zeroAt r.params 3 1 || !zeroAt r.params 13 3 || c.adcMode.toNat > 3 || c.dacMode.toNat > 1
      || c.attempts == 0, .badParam),
    (!s.hasEngine n || !calRangeOk c, .range),
    (!s.holdsEngine r.port n, .notTenant),
    (s.holdsScope 6 n, .busy)]
    (.ok .ok [] (s.stage (engOf n) fun p => { p with cal := c }))

/-- CAL_CONFIG_WRITE. -/
def execCalConfigWrite (r : Request) (s : State) : Host.Outcome State Fault Refusal :=
  opcode 0x0601 false r s (calConfigWriteBody r)

/-- CAL_CONFIG_READ (R186). -/
def calConfigReadBody (r : Request) (s : State) : Answer :=
  engineGuards (badEngineCopy r) r s fun e =>
    answer (renderCal (u8 r.params 0) (copyOf (u8 r.params 1) (s.eng e).params).cal) s

/-- CAL_CONFIG_READ. -/
def execCalConfigRead (r : Request) (s : State) : Host.Outcome State Fault Refusal :=
  opcode 0x0602 false r s (calConfigReadBody r)

/-! ## What runs -/

/-- The ADC clock runs (R179, R184). -/
def State.adcClock (s : State) (e : Eng) : Bool :=
  s.hasEngine e && (s.eng e).rxParams.line != 0 && !s.calInvalid e && !(s.eng e).tileFailed

/-- The DAC clock runs (R179, R184). -/
def State.dacClock (s : State) (e : Eng) : Bool :=
  s.hasEngine e && (s.eng e).txParams.line != 0 && !s.calInvalid e && !(s.eng e).tileFailed

/-- The settings with which an ADC's running step began (R179). -/
def Engine.adcSettings (x : Engine) (k : Fin 4) : CalConfig := x.cal.adc[k].cfg.getD x.params.active.cal

/-- The settings with which the running DAC step began (R179). -/
def Engine.dacSettings (x : Engine) : CalConfig := x.cal.dacCfg.getD x.params.active.cal

/-- DAC steps run: DAC_MODE 0x01, clock, no Gauge hold, the engine not dark and no dark pattern (R178, R179). -/
def State.dacRuns (s : State) (e : Eng) : Bool :=
  let x := s.eng e
  s.dacClock e && x.dacSettings.dacMode == 1 && !x.cal.held && !laserDark x.tx
    && !(x.txParams.patterned && x.txParams.oxbPattern == 0)

/-- A step of the ADC is in progress; one that was discarded is so again once clock, hold and ADC_MODE let it (R174,
R179). -/
def Adc.stepping (a : Adc) (mode : Byte) : Bool := a.phase != .idle && (a.phase != .discarded || mode != 0)

/-- New CONV-class settings come: every step in progress keeps those it began with (R179). -/
def CalState.keepSettings (c : CalState) (old : CalConfig) (adcRuns dacRuns : Bool) : CalState :=
  { c with
    adc := c.adc.map fun a =>
      if adcRuns && a.stepping old.adcMode then { a with
        cfg := some (a.cfg.getD old), phase := if a.phase == .discarded then .measuring else a.phase }
      else a
    dacCfg := if dacRuns then some (c.dacCfg.getD old) else c.dacCfg }

/-- A commit of class CONV reaches an engine's converters (R179). -/
def State.keepCal (s : State) (e : Eng) (classes : BitVec 16) : State :=
  let old := (s.eng e).params.active.cal
  if classes.getLsbD 6 then
    s.updEng e fun x => { x with cal := x.cal.keepSettings old (s.adcClock e && !x.cal.held) (s.dacRuns e) }
  else s

/-! ## CAL_STATUS, CAL_SLICE_READ, CAL_RECORDS -/

/-- Number of slices in a mode. -/
def countMode (t : Vector Slice 256) (m : SliceMode) : Nat := t.toList.countP fun x => x.mode == m

/-- The entry of one ADC (R187). -/
def adcEntry (k : Nat) (clock held : Bool) (mode : Byte) (a : Adc) : Bytes :=
  [byte k,
   if !clock || (mode == 0 && !a.stepping mode) then 0 else if held then 3 else if a.exhausted then 4
     else if a.swept then 2 else 1,
   byte (countMode a.active .spare), byte (countMode a.active .retired),
   byte (a.active.toList.countP fun x => x.marginal),
   match a.test with | some t => byte t.val | none => 0xFF] ++ be 2 a.sweeps

/-- The entry of DAC `d` (R187). -/
def dacEntry (d : Fin 4) (clock held runs : Bool) (c : CalState) (mode : Byte) : Bytes :=
  let x := c.dac[d]
  [byte (d.val + 4), if !clock || mode == 0 then 0 else if held then 3 else if x.swept then 2 else 1, 0, 0,
   byte (x.active.toList.countP fun y => y.marginal),
   if runs && c.dacPhase.val / 4 == d.val then byte (c.dacPhase.val % 4) else 0xFF] ++ be 2 x.sweeps

/-- The 68 bytes of R187. -/
def State.calStatus (s : State) (e : Eng) : Bytes :=
  let x := s.eng e
  let c := x.cal
  [byte e.val, byte (bit (s.calInvalid e) 0 + bit c.held 1), 0, 0]
    ++ ((List.finRange 4).map fun k => adcEntry k.val (s.adcClock e) c.held x.params.active.cal.adcMode c.adc[k]).flatten
    ++ ((List.finRange 4).map fun k => dacEntry k (s.dacClock e) c.held (s.dacRuns e) c x.dacSettings.dacMode).flatten

/-- CAL_STATUS (R187). -/
def calStatusBody (r : Request) (s : State) : Answer :=
  engineGuards (badEngine3 r) r s fun e => answer (s.calStatus e) s

/-- CAL_STATUS. -/
def execCalStatus (r : Request) (s : State) : Host.Outcome State Fault Refusal :=
  opcode 0x0603 false r s (calStatusBody r)

/-- STATE code of a slice (R188). -/
def sliceCode : SliceMode → Nat
  | .active => 0 | .spare => 1 | .underTest => 2 | .retired => 3

/-- One 6-byte entry of R188. -/
def sliceEntry (dac : Bool) (x : Slice) : Bytes :=
  [byte ((if dac then 0 else sliceCode x.mode) + bit x.marginal 2 + bit x.fuseFailed 3),
   if dac || x.mode == .active then byte x.pos else 0xFF, x.offset, x.gain] ++ be 2 (x.skew.signExtend 16)

/-- CAL_SLICE_READ (R188). -/
def calSliceReadBody (r : Request) (s : State) : Answer :=
  let n := field r.params 0 1
  let k := field r.params 1 1
  let c := (s.eng (engOf n)).cal
  guards [
    (badForm r 4 || !zeroAt r.params 2 2, .badParam),
    (!s.hasEngine n || k > 7, .range),
    (!s.holdsEngine r.port n, .notTenant)]
    (answer (if k < 4 then [byte k, 0] ++ beBytes 2 256 ++ (c.adc[Fin.ofNat 4 k].active.toList.map (sliceEntry false)).flatten
      else [byte k, 0] ++ beBytes 2 4 ++ (c.dac[Fin.ofNat 4 k].active.toList.map (sliceEntry true)).flatten) s)

/-- CAL_SLICE_READ. -/
def execCalSliceRead (r : Request) (s : State) : Host.Outcome State Fault Refusal :=
  opcode 0x0604 false r s (calSliceReadBody r)

/-- One 12-byte entry of R189. -/
def recordEntry (f : FactoryRecord) : Bytes :=
  be 2 f.type ++ [f.engine, f.status] ++ be 2 f.version ++ [0, 0] ++ be 4 f.length

/-- CAL_RECORDS (R189): as many entries as COUNT can say (log 2). -/
def calRecordsBody (r : Request) (s : State) : Answer :=
  let l := s.records.take 255
  guards [(badForm r 0, .badParam)]
    (answer ([byte l.length, 0, 0, 0] ++ (l.map recordEntry).flatten) s)

/-- CAL_RECORDS. -/
def execCalRecords (r : Request) (s : State) : Host.Outcome State Fault Refusal :=
  opcode 0x0605 false r s (calRecordsBody r)

/-! ## Measurement results (R171, R172) -/

/-- A tolerance in force: its default where none is set (R186). -/
def tolOf (v : BitVec 16) (d : Nat) : Nat := if v == 0 then d else v.toNat

/-- Two repeats agree under the settings (R171). -/
def agree (c : CalConfig) (p : Estimate × Estimate) : Bool :=
  within (p.1.offset - p.2.offset) (tolOf c.tolOffset 16) && within (p.1.gain - p.2.gain) (tolOf c.tolGain 50)
    && within (p.1.skew - p.2.skew) (tolOf c.tolSkew 15)

/-- Nearest integer to n/d, ties away from zero. -/
def roundAway (n : Int) (d : Nat) : Int :=
  let q : Int := ((2 * n.natAbs + d) / (2 * d) : Nat)
  if n < 0 then -q else q

/-- The new trim: old value minus the mean of the two repeats over the trim step, rounded (R172). -/
def newTrim (old : Int) (a b : Int) (step : Nat) : Int := roundAway (old * (2 * step) - (a + b)) (2 * step)

/-- A number lies in the range of `w` bits, two's complement. -/
def fits (w : Nat) (i : Int) : Bool := -(2 ^ (w - 1) : Int) ≤ i && i < (2 ^ (w - 1) : Int)

/-- Result of a measurement: the trims it gives, saturated; within tolerance or not; unmeasurable or not (R171,
R172).  None while pairs are still to be run. -/
def measured (c : CalConfig) (x : Slice) (pairs : List (Estimate × Estimate)) : Option (Slice × Bool × Bool) :=
  let tried := pairs.take c.attempts.toNat
  match tried.find? (agree c) with
  | some (a, b) =>
    let o := newTrim x.offset.toInt a.offset b.offset 4
    let g := newTrim x.gain.toInt a.gain b.gain 20
    let k := newTrim x.skew.toInt a.skew b.skew 5
    some ({ x with offset := satInt 8 o, gain := satInt 8 g, skew := satInt 10 k }, fits 8 o && fits 8 g && fits 10 k,
      false)
  | none => if pairs.length < c.attempts.toNat then none else some (x, false, true)

/-- Sort the result of the slice under test into the shadow table under ADC_MODE, with what the closing apply raises
(R173, R175).  A slice that returns to SPARE marked marginal because no other SPARE is left keeps its old trims: R175 says
nothing of them (log 26). -/
def Adc.sort (a : Adc) (cfg : CalConfig) (t : Fin 256) (new : Slice) (good unmeas : Bool) : Adc :=
  let old := a.shadow[t]
  let cause : Byte := if unmeas then 2 else 1
  let trims := cfg.adcMode != 2
  let put := fun (x : Slice) v => { a with shadow := a.shadow.set t x, verdict := v }
  let keep : Slice := if trims then new else old
  if good then put { keep with mode := .spare, marginal := false } none
  else if cfg.adcMode == 1 then put { new with mode := .spare, marginal := true } (some (0x0603, cause))
  else if countMode a.shadow .spare = 0 then
    put { old with mode := .spare, marginal := true } (some (0x0604, cause))
  else put { old with mode := .retired } (some (0x0602, cause))

/-- Replace one ADC. -/
def State.setAdc (s : State) (e : Eng) (conv : Fin 4) (a : Adc) : State :=
  s.updEng e fun x => { x with cal := { x.cal with adc := x.cal.adc.set conv a } }

/-- A slice measurement ends (R171 to R174). -/
def execCalMeasureDone (e : Eng) (conv : Fin 4) (pairs : List (Estimate × Estimate)) (s : State) :
    Host.Outcome State Fault Refusal :=
  let c := (s.eng e).cal
  let a := c.adc[conv]
  let cfg := (s.eng e).adcSettings conv
  eventIf s (s.adcClock e && !c.held && cfg.adcMode != 0 && (a.phase == .measuring || a.phase == .discarded)) fun s =>
    match a.test with
    | none => s
    | some t => match measured cfg a.shadow[t] pairs with
      | none => s
      | some (new, good, unmeas) =>
        let b := a.sort cfg t new good unmeas
        s.setAdc e conv { b with phase := if cfg.interval == 0 then .closing else .waiting }

/-- The wait between steps ends (R174). -/
def execCalIntervalEnd (e : Eng) (conv : Fin 4) (s : State) : Host.Outcome State Fault Refusal :=
  let c := (s.eng e).cal
  eventIf s (s.adcClock e && !c.held && c.adc[conv].phase == .waiting) fun s =>
    s.setAdc e conv { c.adc[conv] with phase := .closing }

/-! ## Applies (R168, R174) -/

/-- The next slice to test: on an ADC's first step the lowest with a failed fuse row, otherwise the next one after the
last tested that is not retired (R174, R180). -/
def Adc.nextSlice (a : Adc) : Fin 256 :=
  let first := if a.swept || a.steps != 0 then none
    else (List.finRange 256).find? fun i => a.shadow[i].fuseFailed && a.shadow[i].mode != .retired
  match first with
  | some i => i
  | none =>
    ((List.range 256).map fun k => a.last + 1 + Fin.ofNat 256 k).find? (fun i => a.shadow[i].mode != .retired)
      |>.getD a.last

/-- The SPARE least recently placed in service, the lowest-numbered of equals (R174). -/
def Adc.leastSpare (a : Adc) : Option (Fin 256) :=
  (List.finRange 256).foldl (fun best i =>
    if a.shadow[i].mode == .spare then
      match best with
      | none => some i
      | some b => if a.shadow[i].placed < a.shadow[b].placed then some i else best
    else best) none

/-- Choose the following slice in the shadow table (R174). -/
def Adc.choose (a : Adc) : Adc :=
  let n := a.nextSlice
  let x := a.shadow[n]
  let start := fun (b : Adc) => { b with test := some n, last := n, phase := .measuring }
  if x.mode == .active then
    match a.leastSpare with
    | none => a
    | some sp =>
      let t1 := a.shadow.set sp { a.shadow[sp] with mode := .active, pos := x.pos, placed := a.placements + 1 }
      start { a with shadow := t1.set n { x with mode := .underTest }, heldPos := some x.pos,
                     placements := a.placements + 1 }
  else start { a with shadow := a.shadow.set n { x with mode := .underTest }, heldPos := none }

/-- What the closing apply raises for the slice under test (R173, R175, R190). -/
def State.calVerdict (s : State) (e : Eng) (conv : Fin 4) (a : Adc) (t : Fin 256) : State :=
  match a.verdict with
  | none => s
  | some (code, cause) =>
    s.raise code (.engine e)
      (if code == 0x0602 then [byte conv.val, byte t.val,
          match a.heldPos with | some p => byte p | none => 0xFF, cause, byte (countMode a.shadow .spare), 0]
        else if code == 0x0603 then [byte conv.val, byte t.val, cause]
        else [byte conv.val, byte (countMode a.shadow .retired)])

/-- Close the running step: one more step of the sweep, and the sweep's end (R175, R176). -/
def Adc.closeStep (a : Adc) : Adc × Bool :=
  let stops := match a.verdict with | some (0x0604#16, _) => true | _ => false
  let b := { a with phase := .idle, test := none, heldPos := none, verdict := none, cfg := none,
                    steps := a.steps + 1, exhausted := a.exhausted || stops }
  if b.steps ≥ b.todo then
    ({ b with sweeps := b.sweeps + 1, swept := true, steps := 0, todo := 256 - countMode b.shadow .retired }, !a.swept)
  else (b, false)

/-- The ADC's sequencer may begin a step (R174, R175, R179). -/
def State.adcMayStep (s : State) (e : Eng) (a : Adc) : Bool :=
  s.adcClock e && !(s.eng e).cal.held && (s.eng e).params.active.cal.adcMode != 0 && !a.exhausted

/-- The active table takes the shadow table (R168). -/
def Adc.apply (a : Adc) : Adc := { a with active := a.shadow }

/-- An ADC's apply: the closing one of a step, which opens the next, or the opening one of the first step. -/
def State.adcApply (s : State) (e : Eng) (conv : Fin 4) : State :=
  let a := (s.eng e).cal.adc[conv]
  match a.phase with
  | .measuring | .waiting | .discarded => s
  | .idle =>
    if s.adcMayStep e a then
      let b := { a with sweepStart := if !a.swept && a.steps == 0 then s.moduleTime else a.sweepStart }
      s.setAdc e conv b.choose.apply
    else s
  | .closing =>
    if !s.adcClock e || (s.eng e).cal.held then s
    else
      let s := match a.test with | some t => s.calVerdict e conv a t | none => s
      let c := a.closeStep
      let next := if s.adcMayStep e c.1 then c.1.choose else c.1
      let s := s.setAdc e conv next.apply
      if c.2 then s.raise 0x0601 (.engine e) ([byte conv.val, 0] ++ beBytes 2 (a.steps + 1)
          ++ be 2 (sat 16 ((s.moduleTime - a.sweepStart).toNat / 6250)))
      else s

/-- A DAC's result comes into force: one more phase of its sweep, and the sweep's end with its time (R177). -/
def Dac.apply (x : Dac) : Dac :=
  let ends := x.measured ≥ 3
  { x with active := x.shadow, due := none, measured := if ends then 0 else x.measured + 1,
           began := if ends then none else x.began,
           sweeps := if ends then x.sweeps + 1 else x.sweeps, swept := x.swept || ends }

/-- A DAC's apply, with what it raises (R177, R178, R190). -/
def State.dacApply (s : State) (e : Eng) (d : Fin 4) : State :=
  let x := (s.eng e).cal.dac[d]
  match x.due with
  | none => s
  | some (ph, cause) =>
    if !s.dacClock e || (s.eng e).cal.held then s
    else
      let s := s.updEng e fun y => { y with cal := { y.cal with dac := y.cal.dac.set d x.apply } }
      let s := if cause == 0 then s else s.raise 0x0609 (.engine e) [byte (d.val + 4), byte ph.val, cause]
      if x.apply.swept && !x.swept then
        s.raise 0x0601 (.engine e) ([byte (d.val + 4), 0] ++ beBytes 2 4
          ++ be 2 (sat 16 ((s.moduleTime - x.began.getD s.moduleTime).toNat / 6250)))
      else s

/-- A sample-block boundary of a converter: its apply, where one is due (R168). -/
def execCalApply (e : Eng) (conv : Fin 8) (s : State) : Host.Outcome State Fault Refusal :=
  event s fun s =>
    if conv.val < 4 then s.adcApply e (Fin.ofNat 4 conv.val) else s.dacApply e (Fin.ofNat 4 conv.val)

/-- Pairs of repeats that a measurement ran (R171). -/
def pairsRun (c : CalConfig) (pairs : List (Estimate × Estimate)) : Nat :=
  min ((pairs.take c.attempts.toNat).findIdx (agree c) + 1) c.attempts.toNat

/-- A DAC phase measurement completes: its result waits for the DAC's next apply, and the sequencer goes on to the
next of the 16 phases (R177, R178).  An apply comes within one sample block, so no earlier result still waits.  The pairs
of repeats that were run have taken 2.097152 ms, 12,800 ticks, each. -/
def execDacCalStepDone (e : Eng) (pairs : List (Estimate × Estimate)) (s : State) :
    Host.Outcome State Fault Refusal :=
  eventIf s (s.dacRuns e) fun s =>
    let c := (s.eng e).cal
    let d : Fin 4 := Fin.ofNat 4 (c.dacPhase.val / 4)
    let ph : Fin 4 := Fin.ofNat 4 c.dacPhase.val
    let x := c.dac[d]
    match measured (s.eng e).dacSettings x.shadow[ph] pairs with
    | none => s
    | some (new, good, unmeas) =>
      let cause : Byte := if good then 0 else if unmeas then 2 else 1
      let start := s.moduleTime - BitVec.ofNat 48 (12800 * pairsRun (s.eng e).dacSettings pairs)
      let x' : Dac := { x with
        shadow := x.shadow.set ph { new with marginal := !good }, due := some (ph, cause),
        began := some (x.began.getD start) }
      s.updEng e fun y => { y with cal := { y.cal with
        dac := y.cal.dac.set d x', dacPhase := c.dacPhase + 1, dacCfg := none } }

/-! ## Gauge holds (R179) -/

/-- A Gauge hold on the converters of one engine starts or ends. -/
def State.calHold (s : State) (e : Eng) (on : Bool) : State :=
  if (s.eng e).cal.held == on then s
  else
    let c := (s.eng e).cal
    let c := if on then c.discard else c
    (s.updEng e fun x => { x with cal := { c with held := on } }).raise (if on then 0x0605 else 0x0606) (.engine e) []

end Sys2Proof.Machine
end

