-- ==== Sys2Proof/Machine/CheckCode.lean ====
section
/-! DEFINITION. The check code of the context memory: the matrices of a module, the code word that an address holds, and
what a read of it finds (spec/13_context_memory.md, R356 to R358).  The matrices are internal to the module; R356 states
their properties, and the model takes any that have them (log 7). -/

namespace Sys2Proof.Machine

/-- The columns of the matrices of R356, first column for the least significant bit of data or address. -/
structure CheckCode where
  data : List (BitVec 16)
  address : List (BitVec 16)
  deriving DecidableEq, Repr

/-- F, the FRESH syndrome (R356). -/
def freshSyndrome : BitVec 16 := 0xFFFF

/-- Number of bits set. -/
def popcount {w : Nat} (v : BitVec w) : Nat := (List.range w).countP v.getLsbD

/-- The columns of the 144 bits of a code word: those of G, then those of the identity for the check bits (R356). -/
def CheckCode.columns (k : CheckCode) : List (BitVec 16) :=
  k.data ++ (List.range 16).map fun i => (1 : BitVec 16) <<< i

/-- No column comes twice. -/
def distinct : List (BitVec 16) → Bool
  | [] => true
  | x :: xs => !xs.contains x && distinct xs

/-- The properties that R356 gives the matrices. -/
def CheckCode.ok (k : CheckCode) : Bool :=
  k.data.length == 128 && k.address.length == 23
    && k.columns.all (fun x => popcount x % 2 == 1) && distinct k.columns
    && k.address.all (fun x => popcount x % 2 == 0 && x != 0) && distinct k.address
    && k.columns.all (fun x => x != freshSyndrome && !k.columns.contains (x ^^^ freshSyndrome))
    && k.address.all (fun x => x != freshSyndrome && !k.address.contains (x ^^^ freshSyndrome))

/-- Matrices with the properties of R356, so that there are some: columns of weight three and of weight two. -/
def sampleCode : CheckCode :=
  let pairs := fun (a : Nat) => (List.range a).map fun b => (1 : BitVec 16) <<< a ||| (1 : BitVec 16) <<< b
  let triples := fun (a : Nat) =>
    (List.range a).flatMap fun b => (List.range b).map fun c =>
      (1 : BitVec 16) <<< a ||| (1 : BitVec 16) <<< b ||| (1 : BitVec 16) <<< c
  { data := ((List.range 16).flatMap triples).take 128, address := ((List.range 16).flatMap pairs).take 23 }

/-- The matrices of the module: any that have the properties of R356 (log 7). -/
def moduleCode : CheckCode :=
  let k : CheckCode := { data := (List.range 128).map Config.dataColumn, address := (List.range 23).map Config.addressColumn }
  if k.ok then k else sampleCode

/-- A matrix times a vector: the sum of the columns at its set bits. -/
def timesColumns {w : Nat} (columns : List (BitVec 16)) (v : BitVec w) : BitVec 16 :=
  (List.range w).foldl (fun a i => if v.getLsbD i then a ^^^ columns.getD i 0 else a) 0

/-! ## Code words -/

/-- The data that a word was written with (R356, R357). -/
def MemWord.written (w : MemWord) : BitVec 128 :=
  match w.kind with | .data => w.data | .fresh => 0 | .poisoned => BitVec.allOnes 128

/-- The 128 data bits as stored, inverted bits included. -/
def MemWord.stored (w : MemWord) : BitVec 128 := w.written ^^^ w.flips.setWidth 128

/-- The 16 check bits stored at an address: C = G·d XOR A·WA, with F where the syndrome was forced, for the address that
the check was encoded for, and inverted since where an injection says so (R356, R357, R375). -/
def MemWord.check (w : MemWord) (wa : BitVec 23) : BitVec 16 :=
  timesColumns moduleCode.data w.written ^^^ timesColumns moduleCode.address (wa ^^^ w.addrXor)
    ^^^ (if w.kind = .data then 0 else freshSyndrome) ^^^ w.flips.extractLsb' 128 16

/-- The syndrome that a read at the word's own address finds, s = G·d XOR A·WA XOR C (R358).  The written data and the
address cancel, since the code is linear: the sum of the columns of the inverted bits, of those of the address difference,
and of a forced F is left. -/
def MemWord.syndrome (w : MemWord) : BitVec 16 :=
  timesColumns moduleCode.columns w.flips ^^^ timesColumns moduleCode.address w.addrXor
    ^^^ (if w.kind = .data then 0 else freshSyndrome)

/-- Class of a read (R358). -/
inductive WordClass where
  | clean | corrected | fresh | poisoned | uncorrectable
  deriving DecidableEq, Repr

/-- What a read finds: its class, the data delivered, and the syndrome. -/
structure WordRead where
  cls : WordClass
  data : BitVec 128
  syndrome : BitVec 16
  deriving DecidableEq, Repr

/-- The bit of a code word whose column a syndrome is. -/
def columnAt (syn : BitVec 16) : Option Nat := moduleCode.columns.findIdx? fun x => x == syn

/-- A data word with one code bit inverted; check bits leave the data. -/
def invertBit (d : BitVec 128) (i : Nat) : BitVec 128 := d ^^^ (1 <<< i)

/-- What a word comes to whose syndrome is F: FRESH, POISONED, or neither (R358). -/
def forcedRead (d : BitVec 128) (syn : BitVec 16) : WordRead :=
  { cls := if d = 0 then .fresh else if d = BitVec.allOnes 128 then .poisoned else .uncorrectable,
    data := d, syndrome := syn }

/-- Read a stored word at its own address (R358). -/
def MemWord.read (w : MemWord) : WordRead :=
  let s := w.syndrome
  if s = 0 then { cls := .clean, data := w.stored, syndrome := s }
  else if s = freshSyndrome then forcedRead w.stored s
  else match columnAt s, columnAt (s ^^^ freshSyndrome) with
    | some i, _ => { cls := .corrected, data := invertBit w.stored i, syndrome := s }
    | none, some i => forcedRead (invertBit w.stored i) s
    | none, none => { cls := .uncorrectable, data := w.stored, syndrome := s }

/-- The word was read without loss. -/
def WordRead.usable (r : WordRead) : Bool := r.cls != .uncorrectable && r.cls != .poisoned

end Sys2Proof.Machine
end

