-- ==== Sys2Proof/Machine/Memory.lean ====
section
/-! DEFINITION. Context memory: word addresses, reads, the merge buffer, Eddy, and group 0x0C
(spec/13_context_memory.md).  The code of a word stands in Machine/CheckCode.lean. -/

namespace Sys2Proof.Machine

/-! ## Addresses (R354, R355) -/

/-- Channel of a word address: the XOR of its 3-bit groups (R355). -/
def channelOf (wa : Nat) : Fin 8 :=
  Fin.ofNat 8 ((List.range 8).foldl (fun a k => a ^^^ (wa / 8 ^ k % 8)) 0)

/-- Number of words (R353). -/
def wordCount : Nat := 8388608
/-- Word address of word `w` of context `n` (R354). -/
def ctxWord (n w : Nat) : Nat := 0x200000 + 4 * n + w
/-- Word address of word `w` of the extended record of context `n` (R354). -/
def extWord (n w : Nat) : Nat := 0x600000 + 2 * n + w

/-- What a word address holds (R354, R371). -/
inductive Content where
  | flowKey
  | hot (n : Nat)
  | cold (n w : Nat)
  | ext (n : Nat)
  deriving DecidableEq, Repr

/-- Content of a word address; cold words are numbered 0 to 2. -/
def contentOf (wa : Nat) : Content :=
  if wa < 0x200000 then .flowKey
  else if wa < 0x600000 then
    let n := (wa - 0x200000) / 4
    let w := (wa - 0x200000) % 4
    if w == 0 then .hot n else .cold n (w - 1)
  else .ext ((wa - 0x600000) / 2)

/-- CONTENT code of R371. -/
def contentCode : Content → Byte
  | .flowKey => 1 | .hot _ => 2 | .cold _ _ => 3 | .ext _ => 4

/-! ## Channels and the sweep (R360 to R363) -/

/-- The sweep pointer of a channel: 3.2 × 10^9 rows a second from the start of its sweep (R360). -/
def Channel.pointer (c : Channel) (now : BitVec 48) : Nat :=
  match c.mode with
  | .ready => 1048576
  | .sweeping => min 1048576 ((now - c.since).toNat * 524288 / 1000)
  | .training | .failed => 0

/-- A word has been swept and can be read (R360, R361). -/
def State.wordReady (s : State) (wa : Nat) : Bool :=
  wa / 8 < (s.mem.channels[channelOf wa]).pointer s.moduleTime

/-- Change one channel. -/
def State.updChannel (s : State) (c : Fin 8) (f : Channel → Channel) : State :=
  { s with mem := { s.mem with channels := s.mem.channels.set c (f s.mem.channels[c]) } }

/-! ## Stored words -/

/-- The stored word at an address. -/
def State.word (s : State) (wa : Nat) : MemWord := readAt {} s.mem.words wa

/-- Store a word as it stands, leaving counters alone. -/
def State.putWord (s : State) (wa : Nat) (w : MemWord) : State :=
  { s with mem := { s.mem with words := writeAt {} s.mem.words wa w } }

/-! ## Writes (R364) -/

/-- A whole-word write, which supersedes a merge entry of the word (R356, R364). -/
def State.memWrite (s : State) (wa : Nat) (d : BitVec 128) : State :=
  let s := s.putWord wa { kind := .data, data := d }
  let s := s.updChannel (channelOf wa) fun c => { c with merge := c.merge.filter fun m => m.wa != wa }
  s.count .memWrites (channelOf wa).val 1

/-- The merge entry of a word. -/
def State.mergeOf (s : State) (wa : Nat) : Option MergeEntry :=
  (s.mem.channels[channelOf wa]).merge.find? fun m => m.wa == wa

/-- The bits of a word that a byte mask names: mask bit k is byte k, the first byte most significant. -/
def maskBits (mask : BitVec 16) : BitVec 128 :=
  (List.range 16).foldl (fun a k => if mask.getLsbD k then a ||| (0xFF#128 <<< (120 - 8 * k)) else a) 0

/-- Lay the masked bytes of one word over another. -/
def overlay (under above : BitVec 128) (mask : BitVec 16) : BitVec 128 :=
  (under &&& ~~~maskBits mask) ||| (above &&& maskBits mask)

/-! ## What is lost with a word (R368) -/

/-- The line of a context in the cache of one direction. -/
def FlowDir.line (f : FlowDir) (n : Nat) : Option CacheLine := f.cache.find? fun l => l.ctx == n
/-- The cached line of a context. -/
def State.cachedLine (s : State) (n : Nat) : Option CacheLine :=
  match s.flows.ingress.line n with
  | some l => some l
  | none => s.flows.egress.line n

/-- Change the cached line of a context, where there is one. -/
def State.updLine (s : State) (n : Nat) (f : CacheLine → CacheLine) : State :=
  let g := fun (d : FlowDir) => { d with cache := d.cache.map fun l => if l.ctx == n then f l else l }
  { s with flows := { s.flows with ingress := g s.flows.ingress, egress := g s.flows.egress } }

/-- Cold bytes 16 to 31 of a cached line: FRAMES, OCTETS, CFLAGS, OVF (R289). -/
def CacheLine.cold0 (l : CacheLine) : BitVec 128 :=
  BitVec.ofNat 128 (l.frames.toNat * 2 ^ 80 + l.octets.toNat * 2 ^ 16 + l.cflags.toNat * 2 ^ 8 + l.ovf.toNat)

/-- The place of a context event (R319). -/
def ctxPlace (n : Nat) : Place := .ctx n (BitVec.ofNat 16 (n / 16))

/-- A narrow write: it merges into the word's entry, becomes a whole word, or allocates an entry (R364). -/
def State.mergeWrite (s : State) (wa : Nat) (d : BitVec 128) (mask : BitVec 16) : State :=
  let c := channelOf wa
  match s.mergeOf wa with
  | some m =>
    let all := m.mask ||| mask
    let data := overlay m.data d mask
    if all == BitVec.allOnes 16 then s.memWrite wa data
    else s.updChannel c fun ch => { ch with
      merge := ch.merge.map fun x => if x.wa == wa then { x with data := data, mask := all } else x }
  | none =>
    if mask == BitVec.allOnes 16 then s.memWrite wa d
    else s.updChannel c fun ch => { ch with
      merge := ch.merge ++ [{ wa := wa, data := d, mask := mask, time := s.moduleTime }],
      peakNow := max ch.peakNow (ch.merge.length + 1) }

/-- Set INVALID in CFLAGS: in the cached line, or in cold word 0 by a merge write (R368). A cold word 0 that no sweep
has reached, on a failed channel, takes none: its retirement would read a NOT-READY word, which never happens (R361;
DEDUCED, log 7). -/
def State.markInvalid (s : State) (n : Nat) : State :=
  match s.cachedLine n with
  | some _ => s.updLine n fun l => { l with cflags := l.cflags ||| 4 }
  | none =>
    let wa := ctxWord n 1
    if !s.wordReady wa then s
    else
      let data : BitVec 128 := match s.mergeOf wa with
        | none => (s.word wa).read.data
        | some m => overlay (s.word wa).read.data m.data m.mask
      let flags : Byte := data.extractLsb' 8 8 ||| 4
      s.mergeWrite wa (flags.setWidth 128 <<< 8) 0x4000

/-- Handle a lost word by its content, `stored` being its bits without correction; the answer's number is the ACTION of
R371 (R368). -/
def State.lostWord (s : State) (wa : Nat) (stored : BitVec 128) : State × Byte :=
  match contentOf wa with
  | .flowKey =>
    if (readAt none s.flows.tags wa).isSome then
      let s := { s with flows := { s.flows with tags := writeAt none s.flows.tags wa none } }
      let n := (stored.extractLsb' 0 32).toNat
      (s.raise 0x0A09 (ctxPlace (n % 1048576)) (beBytes 4 n ++ [stored.extractLsb' 112 8]), 1)
    else (s, 1)
  | .hot n =>
    match s.cachedLine n with
    | some l => (s.memWrite wa l.hot, 2)
    | none => (s, 1)
  | .cold n 0 =>
    match s.cachedLine n with
    | some l => (s.memWrite wa l.cold0, 2)
    | none => ((s.memWrite wa (4#128 <<< 8)).raise 0x0A0A (ctxPlace n) (beBytes 4 n ++ [0]), 3)
  | .cold n w =>
    (((s.memWrite wa 0).markInvalid n).raise 0x0A0A (ctxPlace n) (beBytes 4 n ++ [byte w]), 3)
  | .ext n => (((s.memWrite wa 0).markInvalid n).raise 0x0A0A (ctxPlace n) (beBytes 4 n ++ [3]), 3)

/-! ## Reads (R359) -/

/-- Add an entry to the error log; a full log counts it as lost (R371). -/
def State.logError (s : State) (x : MemLogEntry) : State :=
  if s.mem.log.length ≥ 64 then { s with mem := { s.mem with lost := bump s.mem.lost } }
  else
    let s := { s with mem := { s.mem with log := s.mem.log ++ [x] } }
    if s.mem.log.length = 64 then s.raise 0x0C05 (.principal (BitVec.ofNat 16 (channelOf x.wa.toNat))) [] else s

/-- A word has been corrected: it is written back as an ordinary word, counted, and the threshold of R373 is tested. -/
def State.wordCorrected (s : State) (wa : Nat) (d : BitVec 128) : State :=
  let c := channelOf wa
  let s := s.putWord wa { kind := .data, data := d }
  let s := s.count .memCorrected c.val 1
  let s := s.updChannel c fun ch => { ch with corrNow := ch.corrNow + 1, lastCorr := some (BitVec.ofNat 23 wa) }
  let ch := s.mem.channels[c]
  if s.mem.corrThr != 0 && ch.corrNow ≥ s.mem.corrThr.toNat && !ch.corrRaised then
    (s.updChannel c fun ch => { ch with corrRaised := true }).raise 0x0C01 (.principal (BitVec.ofNat 16 c))
      (be 4 (sat 32 ch.corrNow))
  else s

/-- Whether a reader quarantines at the read: the fetch of a hot word rewrites it itself (R369). -/
def fetchesHot (reader : Byte) (wa : Nat) : Bool :=
  reader == 2 && (match contentOf wa with | .hot _ => true | _ => false)

/-- A read by a reader of R371 (1 Eddy, 2 data path, 3 merge retirement, 4 host): corrected words are written back,
uncorrectable ones poisoned, logged and handled by content, FRESH ones left as they stand and counted, poisoned ones
handled by every reader but Eddy (R359). -/
def State.memRead (s : State) (wa : Nat) (reader : Byte) : State × WordRead :=
  let c := channelOf wa
  let w := s.word wa
  let r := w.read
  let s := s.count .memReads c.val 1
  match r.cls with
  | .clean => (s, r)
  | .corrected => (s.wordCorrected wa r.data, r)
  | .fresh => (s.count .memFreshReads c.val 1, r)
  | .poisoned =>
    if reader == 1 || fetchesHot reader wa then (s, r) else ((s.lostWord wa w.stored).1, r)
  | .uncorrectable =>
    let s := s.count .memUncorrectable c.val 1
    let s := s.putWord wa { kind := .poisoned, byEddy := reader == 1 }
    let t := if fetchesHot reader wa then (s, (4 : Byte)) else s.lostWord wa w.stored
    let s := t.1.logError { time := s.moduleTime, wa := BitVec.ofNat 32 wa, syndrome := r.syndrome,
                            content := contentCode (contentOf wa), reader := reader, action := t.2 }
    (s.raise 0x0C02 (.principal (BitVec.ofNat 16 c)) (beBytes 4 wa ++ [contentCode (contentOf wa), reader]), r)

/-- Data of a read with any merge entry laid over it (R364). -/
def State.withMerge (s : State) (wa : Nat) (r : WordRead) : WordRead :=
  match s.mergeOf wa with
  | none => r
  | some m =>
    if r.usable then
      { r with cls := if r.cls = .fresh then .clean else r.cls, data := overlay r.data m.data m.mask }
    else r

/-- Retire one merge entry: read, correct, merge and write, or discard where the word is lost (R364, R365). -/
def State.retire (s : State) (m : MergeEntry) : State :=
  let c := channelOf m.wa
  let s := s.updChannel c fun ch => { ch with merge := ch.merge.filter fun x => x.wa != m.wa }
  let t := s.memRead m.wa 3
  if t.2.usable then (t.1.memWrite m.wa (overlay t.2.data m.data m.mask)).count .memMergeRmw c.val 1
  else t.1.count .memMergeDiscard c.val 1

/-! ## Configuration, status and log -/

/-- MEM_CONFIG_WRITE (R373). -/
def memConfigWriteBody (r : Request) (s : State) : Answer :=
  guards [
    (notPrincipal r, .notPrincipal),
    (badForm r 8 || !zeroAt r.params 4 4, .badParam),
    (field r.params 0 2 > 4096, .range)]
    (.ok .ok [] { s with mem := { s.mem with scrubRate := u16 r.params 0, corrThr := u16 r.params 2 } })

/-- MEM_CONFIG_WRITE. -/
def execMemConfigWrite (r : Request) (s : State) : Host.Outcome State Fault Refusal :=
  opcode 0x0C01 false r s (memConfigWriteBody r)

/-- MEM_CONFIG_READ (R373). -/
def memConfigReadBody (r : Request) (s : State) : Answer :=
  guards [(badForm r 0, .badParam)] (answer (be 2 s.mem.scrubRate ++ be 2 s.mem.corrThr ++ zeros 4) s)

/-- MEM_CONFIG_READ. -/
def execMemConfigRead (r : Request) (s : State) : Host.Outcome State Fault Refusal :=
  opcode 0x0C02 false r s (memConfigReadBody r)

/-- Every channel has failed. -/
def State.allFailed (s : State) : Bool := s.mem.channels.toList.all fun c => c.mode == .failed

/-- Eddy runs, and spends its read slots whatever the number of failed channels (R363, R366, R367). -/
def State.eddyRuns (s : State) : Bool := s.mem.swept && s.mem.scrubRate != 0

/-- One channel entry of R374. -/
def channelEntry (now : BitVec 48) (c : Channel) : Bytes :=
  [match c.mode with
    | .ready => 0 | .training => 1 | .sweeping => if c.pointer now < 1048576 then 1 else 0 | .failed => 2,
    byte (min 255 c.peak), 0, 0]
    ++ beBytes 4 (c.pointer now) ++ be 4 (sat 32 c.corr)
    ++ (match c.lastCorr with | some w => beBytes 4 w.toNat | none => beBytes 4 0xFFFFFFFF)

/-- The 144 bytes of R374. -/
def State.memStatus (s : State) : Bytes :=
  [byte (bit s.mem.swept 0 + bit s.eddyRuns 1), byte s.mem.log.length] ++ be 2 s.mem.lost
    ++ beBytes 4 s.mem.eddy.toNat ++ be 4 s.mem.passes ++ zeros 4
    ++ (s.mem.channels.toList.map (channelEntry s.moduleTime)).flatten

/-- MEM_STATUS (R374). -/
def memStatusBody (r : Request) (s : State) : Answer :=
  guards [(badForm r 0, .badParam)] (answer s.memStatus s)

/-- MEM_STATUS. -/
def execMemStatus (r : Request) (s : State) : Host.Outcome State Fault Refusal :=
  opcode 0x0C03 false r s (memStatusBody r)

/-- One 16-byte log entry (R371). -/
def logBytes (x : MemLogEntry) : Bytes :=
  be 6 x.time ++ be 4 x.wa ++ be 2 x.syndrome ++ [x.content, x.reader, x.action, 0]

/-- MEM_LOG_READ (R375). -/
def memLogReadBody (r : Request) (s : State) : Answer :=
  guards [
    (notPrincipal r, .notPrincipal),
    (badForm r 4 || !zeroAt r.params 1 3 || field r.params 0 1 > 1, .badParam)]
    (answer ([byte s.mem.log.length, 0] ++ be 2 s.mem.lost ++ (s.mem.log.map logBytes).flatten)
      (if field r.params 0 1 = 1 then { s with mem := { s.mem with log := [], lost := 0 } } else s))

/-- MEM_LOG_READ. -/
def execMemLogRead (r : Request) (s : State) : Host.Outcome State Fault Refusal :=
  opcode 0x0C04 false r s (memLogReadBody r)

/-! ## Word reads and injections (R375) -/

/-- CLASS of a word that could be read (R375). -/
def classCode : WordClass → Byte
  | .corrected => 1 | .fresh => 2 | .clean | .poisoned | .uncorrectable => 0

/-- MEM_WORD_READ (R375). -/
def memWordReadBody (r : Request) (s : State) : Answer :=
  let wa := field r.params 0 4
  guards [
    (notPrincipal r, .notPrincipal),
    (badForm r 4, .badParam),
    (wa ≥ wordCount, .range),
    (!s.wordReady wa, .notReady)]
    (let t := s.memRead wa 4
     if !t.2.usable then .ok .poisoned [] t.1
     else
       let m := s.withMerge wa t.2
       .ok (if m.cls = .fresh then .fresh else .ok)
         (be 16 m.data ++ be 2 t.2.syndrome
           ++ [classCode m.cls, 0]) t.1)

/-- MEM_WORD_READ. -/
def execMemWordRead (r : Request) (s : State) : Host.Outcome State Fault Refusal :=
  opcode 0x0C05 false r s (memWordReadBody r)

/-- MEM_INJECT (R375): the corrected word, with any merge entry laid over it, is encoded again and the FLIP bits are
inverted. A lost word is answered POISONED, which changes nothing (R54). DESIGN CHOICE: bits of ADDR_XOR above its 23
count as reserved, which the rule does not say (log 36). -/
def memInjectBody (r : Request) (s : State) : Answer :=
  let wa := field r.params 0 4
  guards [
    (notPrincipal r, .notPrincipal),
    (badForm r 28 || !zeroAt r.params 26 2 || field r.params 4 4 ≥ wordCount, .badParam),
    (wa ≥ wordCount, .range),
    (!s.wordReady wa, .notReady)]
    (let t := s.memRead wa 4
     if !t.2.usable then .fail .poisoned []
     else
       let m := t.1.withMerge wa t.2
       let fresh := m.cls = .fresh
       let s := if fresh then t.1.count .memWrites (channelOf wa).val 1 else t.1.memWrite wa m.data
       .ok .ok [] (s.putWord wa { kind := if fresh then .fresh else .data, data := if fresh then 0 else m.data,
                                  flips := BitVec.ofNat 144 (field r.params 8 18),
                                  addrXor := BitVec.ofNat 23 (field r.params 4 4) }))

/-- MEM_INJECT. -/
def execMemInject (r : Request) (s : State) : Host.Outcome State Fault Refusal :=
  opcode 0x0C06 false r s (memInjectBody r)

/-! ## Training, sweep, Eddy and retirement -/

/-- The outcome of an event that acts while the hub runs, before the module is ready as well as after. -/
def running (s : State) (f : State → State) : Host.Outcome State Fault Refusal :=
  .next (if s.railsOn && !s.power.resetLow then f s else s)

/-- Mask of failed channels. -/
def State.failedMask (s : State) : Nat :=
  (List.range 8).foldl (fun a k => a + bit ((s.mem.channels.toList.getD k {}).mode == .failed) k) 0

/-- A channel's interface training completes, and its sweep begins (R360). -/
def execChannelTrainingDone (c : Fin 8) (s : State) : Host.Outcome State Fault Refusal :=
  running s fun s =>
    if (s.mem.channels[c]).mode == .training then
      s.updChannel c fun ch => { ch with mode := .sweeping, since := s.moduleTime }
    else s

/-- The sweep is done on every healthy channel (R360, R363). -/
def State.sweepDone (s : State) (time : Bytes) : State :=
  let s := { s with mem := { s.mem with
    swept := true,
    channels := s.mem.channels.map fun (ch : Channel) =>
      if ch.mode = ChannelMode.sweeping then { ch with mode := .ready } else ch } }
  s.raise 0x0C03 .module (time ++ [byte s.failedMask])

/-- A channel fails training.  Where it is the last one to fail of all eight, mem.sweep.done follows; no sweep ran, so
its time is free (R362, R363, log 16). -/
def execChannelTrainingFail (c : Fin 8) (s : State) : Host.Outcome State Fault Refusal :=
  running s fun s =>
    if (s.mem.channels[c]).mode == .training then
      let s := s.updChannel c fun ch => { ch with mode := .failed }
      let s := s.raise 0x0C06 (.principal (BitVec.ofNat 16 c)) []
      if s.allFailed then s.skip.sweepDone (beBytes 4 s.free) else s
    else s

/-- The last healthy channel finishes its sweep (R360). -/
def execMemSweepDone (ns : BitVec 32) (s : State) : Host.Outcome State Fault Refusal :=
  running s fun s =>
    if !s.mem.swept && !s.allFailed && s.mem.channels.toList.all (fun c => c.mode != .training) then
      s.sweepDone (be 4 ns)
    else s

/-- Eddy goes on to the next word; the wrap completes a pass (R366). -/
def State.eddyAdvance (s : State) : State :=
  let s := { s with mem := { s.mem with eddy := s.mem.eddy + 1 } }
  if s.mem.eddy == 0 then
    let s := { s with mem := { s.mem with passes := s.mem.passes + 1 } }
    s.raise 0x0C04 .module (be 4 s.mem.passes ++ be 2 s.mem.scrubRate)
  else s

/-- Eddy reads the next word, skipping the words of failed channels (R363, R365 to R367). -/
def execEddyRead (s : State) : Host.Outcome State Fault Refusal :=
  eventIf s s.eddyRuns fun s =>
    let wa := s.mem.eddy.toNat
    let s :=
      if s.wordReady wa then
        let t := s.memRead wa 1
        let s := t.1.count .memScrubWords (channelOf wa).val 1
        match s.mergeOf wa with
        | none => s
        | some m => if t.2.usable then s.memWrite wa (overlay t.2.data m.data m.mask) else s
      else s
    s.eddyAdvance

/-- A merge entry is retired: the oldest, once it is 2 MFC periods old or while more than 192 are in use (R364). -/
def execMergeRetire (c : Fin 8) (s : State) : Host.Outcome State Fault Refusal :=
  let ch := s.mem.channels[c]
  event s fun s =>
    match ch.merge with
    | [] => s
    | m :: _ => if (s.moduleTime - m.time).toNat ≥ 2 || ch.merge.length > 192 then s.retire m else s

end Sys2Proof.Machine
end

