-- ==== Sys2Proof/Machine/OwnerFuse.lean ====
section
/-! DEFINITION. Fuse rows, and the owner key as ten of them hold it (spec/07_converters_calibration.md, R180;
spec/12_millrace_keys.md, R334, R335; spec/20_bring_up_reset.md, R517). -/

namespace Sys2Proof.Machine

/-- A fuse row passes its even parity (R180). -/
def fuseHolds (f : FuseRow) : Bool := popcount f.word % 2 == 0

/-- The word of a fuse row: 31 data bits below their even parity bit (R180). -/
def fuseWord (d : BitVec 31) : BitVec 32 := BitVec.ofBool (popcount d % 2 == 1) ++ d

/-- One of the owner's rows on the hub. -/
def ownerFuse (i : Fin 10) (word : BitVec 32) : FuseRow :=
  { die := 0, row := Config.ownerRow i.val, content := .owner i, word := word }

/-- The nine rows of an owner key, its first bit in the highest data bit of the first row and the last 23 bits of the ninth
row zero (R334).  DESIGN CHOICE: the order of the bits, which the rule does not state (log 2). -/
def ownerKeyRows (key : Bytes) : List FuseRow :=
  (List.range 9).map fun i =>
    ownerFuse (Fin.ofNat 10 i) (fuseWord (BitVec.ofNat 31 (beValue key * 2 ^ 23 / 2 ^ (31 * (8 - i)))))

/-- The row that records provisioning.  DESIGN CHOICE: 1 stands for burnt, a content the rule does not state (log 2). -/
def ownerRecord : FuseRow := ownerFuse 9 (fuseWord 1)

/-- All rows that OWNER_PROVISION burns, the record last (R335, R517). -/
def ownerRows (key : Bytes) : List FuseRow := ownerKeyRows key ++ [ownerRecord]

/-- A fuse row is one of the owner's. -/
def isOwnerFuse (f : FuseRow) : Bool := match f.content with | .owner _ => true | _ => false

/-- The word of one of the owner's rows; a row that is not held reads 0. -/
def ownerWord (rows : List FuseRow) (i : Fin 10) : BitVec 32 :=
  match rows.find? fun f => f.content == .owner i with | some f => f.word | none => 0

/-- The owner key that the nine rows hold. -/
def ownerKeyOf (rows : List FuseRow) : Bytes :=
  beBytes 32 (((List.finRange 9).foldl (fun a i => a * 2 ^ 31 + (ownerWord rows (Fin.ofNat 10 i.val)).toNat % 2 ^ 31) 0)
    / 2 ^ 23)

/-- State of the owner key, and the key, as a reset reads them from the fuses: FAULTED where a row fails its parity, or
where a row is burnt and the record is not (R334, R517). -/
def ownerOf (rows : List FuseRow) : OwnerMode × Bytes :=
  let own := rows.filter isOwnerFuse
  if own.any fun f => !fuseHolds f then (.faulted, [])
  else if ownerWord own 9 != 0 then (.provisioned, ownerKeyOf own)
  else if own.any fun f => f.word != 0 then (.faulted, [])
  else (.unprovisioned, [])

/-- Rows of the owner take the place of those held. -/
def NvState.burnOwner (n : NvState) (rows : List FuseRow) : NvState :=
  { n with fuses := (n.fuses.filter fun f => !isOwnerFuse f) ++ rows }

/-- What a burn leaves whose read-back disagrees: nine rows of free content, not all blank, and no record (R335). -/
def misburnt (free : Nat → Nat) : List FuseRow :=
  (List.range 9).map fun i =>
    ownerFuse (Fin.ofNat 10 i) (BitVec.ofNat 32 (free i) ||| (if i = 0 then 1 else 0))

end Sys2Proof.Machine
end

