-- ==== Sys2Proof/Machine/Keys.lean ====
section
/-! DEFINITION. Group 0x0B and the owner-key opcodes of group 0x13: the key store, port keys, the owner key and
Millrace's status (spec/12_millrace_keys.md). -/

namespace Sys2Proof.Machine

/-! ## Batches (R310, R346) -/

/-- The header of a batch is malformed, COUNT is 0 or above the largest batch, or the length does not agree. -/
def badBatch (r : Request) (size most : Nat) : Bool :=
  let n := field r.params 4 2
  r.flag0 || r.params.length < 8 || !zeroAt r.params 6 2 || n == 0 || n > most || r.params.length != 8 + n * size

/-- The entries of a batch. -/
def batchEntries (r : Request) (size : Nat) : List Bytes := blocks size (field r.params 4 2) (r.params.drop 8)

/-- TOKEN of a batch. -/
def batchToken (r : Request) : BitVec 32 := u32 r.params 0

/-- One check of every entry: the first that fails is named in the reply (R310). -/
def checkEach (es : List Bytes) (bad : Bytes → Bool) (st : Status) (next : Answer) : Answer :=
  match es.findIdx? bad with
  | some i => .fail st (beBytes 4 i)
  | none => next

/-- Two entries name the same item: the index of the first that repeats an earlier one. -/
def repeats (key : Bytes → Nat) : List Bytes → List Nat → Nat → Option Nat
  | [], _, _ => none
  | e :: es, seen, i => if seen.contains (key e) then some i else repeats key es (key e :: seen) (i + 1)

/-- A pending commit holds the token in class `c` (R79). -/
def State.holdsToken (s : State) (c : Nat) (tok : BitVec 32) : Bool :=
  tok != 0 && s.commits.any fun k => k.classes.getLsbD c && k.token == tok

/-! ## Slots -/

/-- A general slot. -/
def State.slot (s : State) (n : Nat) : KeySlot := readAt {} s.keys.slots n
/-- Replace a general slot. -/
def State.setSlot (s : State) (n : Nat) (k : KeySlot) : State :=
  { s with keys := { s.keys with slots := writeAt {} s.keys.slots n k } }

/-- The generation after a load or rewrite: the next one modulo 65,536, skipping 0 (R326). -/
def nextGen (g : BitVec 16) : BitVec 16 := if g == 0xFFFF then 1 else g + 1

/-- The slot's key is in service: LOADED or REWRITING, and past the boundary of its load (R328, R338). -/
def KeySlot.live (k : KeySlot) : Bool := (k.state == .loaded || k.state == .rewriting) && !k.waiting

/-- Keys that the egress bank tries for a slot, in order (R340, R341). -/
def KeySlot.egressKeys (k : KeySlot) : List KeyValue :=
  match k.old, k.switched with
  | some (o, _), true => [k.cur, o]
  | some (o, _), false => [o, k.cur]
  | none, true => (match k.staged with | some (_, v) => [v, k.cur] | none => [k.cur])
  | none, false => [k.cur]

/-- The first key that a bank tries has a use, bit 0 seal, 1 unseal, 2 side channel: the current one for what is
enciphered, the egress bank's own for what is deciphered (R328, R340). -/
def KeySlot.usableIn (k : KeySlot) (d : Dir) (use : Nat) : Bool :=
  k.live && (match d with
    | .ingress => k.cur.usage.getLsbD use
    | .egress => match k.egressKeys with | v :: _ => v.usage.getLsbD use | [] => false)

/-- First 24 bits of AES under a key of the all-zero block (R325). -/
def kcv (key : Bytes) : Bytes := (aesEncrypt key (zeros 16)).take 3

/-- STATE of R325. -/
def slotCode : SlotState → Nat
  | .empty => 0 | .loaded => 1 | .rewriting => 2 | .erasing => 3

/-- A descriptor of R325. -/
def descriptor (state : Nat) (staged : Bool) (key : Bytes) (usage port : Nat) (gen : BitVec 16) : Bytes :=
  [byte (state * 32 + bit staged 4 + bit (key.length == 32) 3 + usage), byte (port * 64)] ++ be 2 gen
    ++ (if key.isEmpty || state == 0 then zeros 3 else kcv key) ++ [0]

/-- A slot's descriptor. -/
def KeySlot.descriptor (k : KeySlot) : Bytes :=
  Sys2Proof.Machine.descriptor (slotCode k.state) (match k.staged with | some (t, _) => t != 0 | none => false) k.cur.key
    k.cur.usage.toNat k.cur.port.toNat k.gen

/-- Staged and rewriting keys (R339). -/
def State.heldKeys (s : State) : Nat :=
  s.keys.slots.countP fun k => k.2.staged.isSome || k.2.state == .rewriting
/-- Keys staged under a token (R309). -/
def State.stagedKeys (s : State) : Nat :=
  s.keys.slots.countP fun k => match k.2.staged with | some (t, _) => t != 0 | none => false

/-! ## Unwrapping (R329, R330) -/

/-- The two keys derived from the owner key (R336). -/
def deriveKey (ok : Bytes) (label : Bytes) : Bytes := cmac ok (1 :: label) ++ cmac ok (2 :: label)
/-- "KEYWRAP". -/
def labelWrap : Bytes := [0x4B, 0x45, 0x59, 0x57, 0x52, 0x41, 0x50]
/-- "IDCHALL". -/
def labelId : Bytes := [0x49, 0x44, 0x43, 0x48, 0x41, 0x4C, 0x4C]

/-- The ingress bank computes the two CMACs that derive a key from the owner key (R320, R324, R336). -/
def State.deriveWork (s : State) (label : Bytes) : State :=
  (s.cmacWork s.keys.ownerKey (1 + label.length)).cmacWork s.keys.ownerKey (1 + label.length)

/-- The key under which a blob of a KIND is unwrapped on a port (R330). -/
def State.wrapKey (s : State) (p : Hp) (kind : Byte) : Option Bytes :=
  if kind == 2 then
    (if s.keys.owner == .provisioned then some (deriveKey s.keys.ownerKey labelWrap) else none)
  else (s.port p).kek.key

/-- The checks on the 56 plaintext bytes, and the key they carry (R329, R330). -/
def plainKey (plain : Bytes) (p : Hp) (kind : Byte) (slot : Nat) (gen : BitVec 16) : Option KeyValue :=
  let len := field plain 1 1
  if u8 plain 0 != kind || field plain 3 1 != p.val || (kind == 1 && field plain 4 2 != slot) then none
  else if (len != 16 && len != 32) || !zeroAt plain (8 + len) (32 - len) || !zeroAt plain 52 4
      || (kind == 1 && field plain 2 1 > 7)
      || (kind != 1 && (!zeroAt plain 2 1 || !zeroAt plain 4 2 || !zeroAt plain 40 12)) then none
  else if field plain 6 2 != 0 && u16 plain 6 != gen then none
  else some { key := slice plain 8 len, salt := slice plain 40 12, usage := BitVec.ofNat 3 (field plain 2 1),
              port := BitVec.ofNat 2 p.val }

/-- Unwrap a blob: the status or the key, and the port's count of failed integrity checks, whose sixteenth raises
key.unwrap.fail (R330). -/
def State.unwrap (s : State) (p : Hp) (kind : Byte) (slot : Nat) (gen : BitVec 16) (blob : Bytes) :
    State × Except Status KeyValue :=
  match s.wrapKey p kind with
  | none => (s, .error .keyAbsent)
  | some kek =>
    let s := if kind == 2 then s.deriveWork labelWrap else s
    match keyUnwrap kek blob with
    | none =>
      let n := (s.port p).unwrapFails + 1
      let s := s.updPort p fun q => { q with unwrapFails := n }
      (if n = 16 then s.raise 0x0B04 (.host p) [kind] else s, .error .badParam)
    | some plain =>
      let s := s.updPort p fun q => { q with unwrapFails := 0 }
      match plainKey plain p kind slot gen with
      | some v => (s, .ok v)
      | none => (s, .error .inconsistent)

/-- Slot number of a key entry (R346). -/
def entrySlot (e : Bytes) : Nat := field e 0 2

/-- Unwrap the blobs of a batch in order, after a check of each slot's state; the first failure names its entry.  The
port's count of failed unwraps keeps what the batch added to it. -/
def State.unwrapAll (s : State) (p : Hp) (gate : KeySlot → Option Status) :
    List Bytes → Nat → State × Except (Status × Nat) (List (Nat × KeyValue))
  | [], _ => (s, .ok [])
  | e :: es, i =>
    let n := entrySlot e
    match gate (s.slot n) with
    | some st => (s, .error (st, i))
    | none =>
      let t := s.unwrap p 1 n (nextGen (s.slot n).gen) (slice e 4 64)
      match t.2 with
      | .error st => (t.1, .error (st, i))
      | .ok v =>
        let rest := t.1.unwrapAll p gate es (i + 1)
        match rest.2 with
        | .error x => (rest.1, .error x)
        | .ok vs => (rest.1, .ok ((n, v) :: vs))

/-- Checks that KEY_LOAD and KEY_REWRITE share, ending in the unwrapped keys. -/
def keyBatch (r : Request) (s : State) (early late : List (Bool × Status)) (gate : KeySlot → Option Status)
    (k : State → List (Nat × KeyValue) → Answer) : Answer :=
  let es := batchEntries r 68
  guards ((badBatch r 68 59, .badParam) :: early)
    (checkEach es (fun e => !zeroAt e 2 2) .badParam
      (checkEach es (fun e => !s.holdsKs r.port (entrySlot e) 1) .notTenant
        (guards late <| match repeats entrySlot es [] 0 with
         | some i => .fail .inconsistent (beBytes 4 i)
         | none =>
           let t := s.unwrapAll r.port gate es 0
           match t.2 with
           | .error (st, i) => .ok st (beBytes 4 i) t.1
           | .ok vs => k t.1 vs)))

/-! ## KEY_LOAD (R338) -/

/-- A load takes its slots; they become usable at the next MFC boundary. -/
def State.loadKeys (s : State) (vs : List (Nat × KeyValue)) : State :=
  vs.foldl (fun s v =>
    s.setSlot v.1 { state := .loaded, cur := v.2, gen := nextGen (s.slot v.1).gen, waiting := true }) s

/-- KEY_LOAD (R338). -/
def keyLoadBody (r : Request) (s : State) : Answer :=
  keyBatch r s [(batchToken r != 0, .badParam)] []
    (fun k => match k.state with | .empty => none | .erasing => some .busy | _ => some .inconsistent)
    fun s vs => .ok .ok []
      { s.loadKeys vs with immediate := s.immediate ++ [.keysLoaded r.port (vs.map (·.1))] }

/-- KEY_LOAD. -/
def execKeyLoad (r : Request) (s : State) : Host.Outcome State Fault Refusal :=
  opcode 0x0B01 false r s (keyLoadBody r)

/-- Loaded keys become usable: key.loaded (R338, R352). -/
def State.keysUsable (s : State) (p : Hp) (slots : List Nat) : State :=
  let s := slots.foldl (fun s n => if (s.slot n).waiting then
    s.setSlot n { s.slot n with waiting := false, since := s.moduleTime } else s) s
  match slots with
  | [] => s
  | n :: _ => s.raise 0x0B01 (.ks n) (beBytes 2 n ++ [byte slots.length, byte p.val] ++ be 2 (s.slot n).gen)

/-! ## KEY_REWRITE (R339 to R341) -/

/-- KEY_REWRITE (R339). -/
def keyRewriteBody (r : Request) (s : State) : Answer :=
  let tok := batchToken r
  keyBatch r s [] [(s.holdsToken 9 tok, .busy)]
    (fun k => match k.state with
      | .empty => some .keyAbsent
      | .rewriting | .erasing => some .busy
      | .loaded => match k.staged with
        | some (t, _) => if t == tok && tok != 0 then none else some .busy
        | none => none)
    fun s' vs =>
      let fresh := vs.countP fun v => (s.slot v.1).staged.isNone
      guards [
        (s.heldKeys + fresh > 4096, .queueFull),
        (tok != 0 && s.stagedKeys + s.flows.staged.length + fresh > 4096, .queueFull)]
        (let t := vs.foldl (fun s v => s.setSlot v.1 { s.slot v.1 with staged := some (tok, v.2) }) s'
         .ok .ok [] (if tok == 0 then
           { t with immediate := t.immediate ++ [.keysRewritten (vs.map (·.1))] } else t))

/-- KEY_REWRITE. -/
def execKeyRewrite (r : Request) (s : State) : Host.Outcome State Fault Refusal :=
  opcode 0x0B02 false r s (keyRewriteBody r)

/-- Slots whose staged key carries a token, in ascending order. -/
def State.tokenSlots (s : State) (tok : BitVec 32) : List Nat :=
  (s.keys.slots.filter fun k => match k.2.staged with | some (t, _) => t == tok | none => false).map (·.1)

/-- A side channel under a slot starts a new cipher run, on one of its sides (R340). -/
def State.restartCipher (s : State) (n : Nat) (tx : Bool) : State :=
  [0, 1, 2, 3].foldl (fun s e =>
    let key := if tx then (s.eng e).txParams.frame.scKey else (s.eng e).rxParams.frame.scKey
    if key.toNat = n + 1 then s.updEng e fun x => { x with sc := if tx then { x.sc with txShift := none }
      else { x.sc with rxShift := none } } else s) s

/-- The transmit boundary of a rewrite on one slot: GEN and the sealing key switch (R340). -/
def State.rewriteTx (s : State) (n : Nat) : State :=
  let k := s.slot n
  match k.staged with
  | none => s
  | some (_, v) =>
    (s.setSlot n { k with state := .rewriting, old := some (k.cur, k.gen), cur := v, gen := nextGen k.gen,
                          since := s.moduleTime, staged := none }).restartCipher n true

/-- The receive boundary of a rewrite on one slot: the egress bank tries the new key first.  STATE becomes REWRITING at the
transmit boundary, also where that comes second (R340, R341). -/
def State.rewriteRx (s : State) (n : Nat) : State :=
  let k := s.slot n
  if k.state == .loaded || k.state == .rewriting then (s.setSlot n { k with switched := true }).restartCipher n false
  else s

/-- A rewrite belongs to the token's commit, not to an earlier one of the same token. -/
def Rewrite.current (w : Rewrite) (tok : BitVec 32) : Bool := w.token == tok && !w.past

/-- Enter a rewrite of several slots, or find the one already begun. -/
def State.noteRewrite (s : State) (tok : BitVec 32) (slots : List Nat) : State :=
  if slots.isEmpty || s.keys.rewrites.any (fun w => w.current tok) then s
  else { s with keys := { s.keys with
    rewrites := s.keys.rewrites ++ [{ token := tok, slots := slots, since := none }] } }

/-- A commit of class KEY is accepted: rewrites that an earlier commit of its token left in their dual-key period are none
of its own. -/
def State.retireToken (s : State) (tok : BitVec 32) : State :=
  { s with keys := { s.keys with
    rewrites := s.keys.rewrites.map fun w => if w.token == tok then { w with past := true } else w } }

/-- The transmit boundary of the rewrites staged under a token (R340). -/
def State.keysTx (s : State) (tok : BitVec 32) : State :=
  let slots := s.tokenSlots tok
  slots.foldl (fun s n => s.rewriteTx n) (s.noteRewrite tok slots)

/-- Mark the egress switch of the rewrites that satisfy a test, not switched yet. -/
def State.stampRewrites (s : State) (p : Rewrite → Bool) : State :=
  { s with keys := { s.keys with
    rewrites := s.keys.rewrites.map fun w => if w.since.isNone && p w then { w with since := some s.moduleTime } else w } }

/-- The receive boundary of the rewrites staged under a token (R340). -/
def State.keysRx (s : State) (tok : BitVec 32) : State :=
  let s := s.noteRewrite tok (s.tokenSlots tok)
  let slots := (s.keys.rewrites.filter fun w => w.current tok && w.since.isNone).flatMap (·.slots)
  (slots.foldl (fun s n => s.rewriteRx n) s).stampRewrites fun w => w.current tok

/-- A rewrite without a token switches both sides at the MFC boundary (R339). -/
def State.keysBoth (s : State) (slots : List Nat) : State :=
  let live := slots.filter fun n => (s.slot n).staged.isSome
  if live.isEmpty then s
  else
    let s := { s with keys := { s.keys with
      rewrites := s.keys.rewrites ++ [{ token := 0, slots := live, since := some s.moduleTime }] } }
    live.foldl (fun s n => (s.rewriteTx n).rewriteRx n) s

/-- One rewrite ends its dual-key period: old keys are zeroised, and key.rewritten names what finished (R341, R352). -/
def State.endRewrite (s : State) (w : Rewrite) : State :=
  let live := w.slots.filter fun n => (s.slot n).state == .rewriting
  let s := live.foldl (fun s n => s.setSlot n { s.slot n with state := .loaded, old := none, switched := false }) s
  match live.min? with
  | none => s
  | some lo => s.raise 0x0B02 (.ks lo) (beBytes 2 lo ++ beBytes 2 live.length ++ be 2 (w.token.setWidth 16))

/-- A rewrite is 1,024 frames past its egress switch, its transmit boundary past as well (R341). -/
def State.graceOver (s : State) (w : Rewrite) : Bool :=
  (match w.since with | some t => (s.moduleTime - t).toNat ≥ 1024 | none => false)
    && w.slots.all fun n => (s.slot n).staged.isNone && ((s.slot n).state != .rewriting || (s.slot n).old.isSome)

/-- The dual-key period of the oldest rewrite ends (R341). -/
def execKeyRewriteGraceEnd (s : State) : Host.Outcome State Fault Refusal :=
  event s fun s =>
    match s.keys.rewrites.find? s.graceOver with
    | none => s
    | some w => { s with keys := { s.keys with rewrites := s.keys.rewrites.erase w } }.endRewrite w

/-! ## KEY_ERASE (R342) -/

/-- A rewrite of a slot of a range is held by a pending commit, from its first boundary until the commit ends (R79, R96,
R342, R344). -/
def State.rewriteHeld (s : State) (w : Rewrite) (first count : Nat) : Bool :=
  s.holdsToken 9 w.token && !w.past && w.slots.any fun n => decide (first ≤ n ∧ n < first + count)

/-- The slots of a range that are not as at reset, with their numbers. -/
def State.slotsIn (s : State) (first count : Nat) : List (Nat × KeySlot) :=
  s.keys.slots.filter fun k => first ≤ k.1 && k.1 < first + count

/-- KEY_ERASE (R342, R347). -/
def keyEraseBody (r : Request) (s : State) : Answer :=
  let first := field r.params 0 2
  let count := field r.params 4 4
  let busy := (s.slotsIn first count).any fun k =>
    match k.2.staged with | some (t, _) => s.holdsToken 9 t | none => false
  let held := s.keys.rewrites.any fun w => s.rewriteHeld w first count
  guards [
    (badForm r 8 || !zeroAt r.params 2 2 || count == 0, .badParam),
    (first + count > 65536, .range),
    (!s.holdsKs r.port first count, .notTenant),
    (busy || held, .busy)]
    (if (s.slotsIn first count).all fun k => k.2.state == .empty then .ok .ok [] s
     else .ok .okDeferred [] { s with keys := { s.keys with erases := s.keys.erases ++ [
       { first := first, count := count, issuer := issuerOf 0x0B03 r, pointed := false, zeroised := 0 }] } })

/-- KEY_ERASE. -/
def execKeyErase (r : Request) (s : State) : Host.Outcome State Fault Refusal :=
  opcode 0x0B03 false r s (keyEraseBody r)

/-- The erase point of one job: its slots become ERASING, staged and old keys go, and their rewrites end (R342, R344). -/
def State.erasePoint (s : State) (j : EraseJob) : State :=
  let live := (s.slotsIn j.first j.count).filter fun k => k.2.state != .empty
  let s := live.foldl (fun s k =>
    s.setSlot k.1 { k.2 with state := .erasing, staged := none, old := none, switched := false, waiting := false }) s
  let inside := fun (n : Nat) => decide (j.first ≤ n ∧ n < j.first + j.count)
  { s with keys := { s.keys with
    rewrites := (s.keys.rewrites.map fun w => { w with slots := w.slots.filter fun n => !inside n }).filter
      fun w => !w.slots.isEmpty
    erases := s.keys.erases.map fun x => if x = j then { j with pointed := true, zeroised := live.length } else x } }

/-- The first MFC boundary after a KEY_ERASE: every job that waits for it passes its erase point (R342). -/
def State.erasePoints (s : State) : State :=
  (s.keys.erases.filter fun j => !j.pointed).foldl (fun s j => s.erasePoint j) s

/-- The erase points of the waiting erases (R342). -/
def execKeyErasePoint (s : State) : Host.Outcome State Fault Refusal := event s State.erasePoints

/-- Zeroisation of the oldest erase completes: its slots are EMPTY with GEN kept (R326, R342). -/
def State.eraseDone (s : State) (j : EraseJob) : State :=
  let live := (s.slotsIn j.first j.count).filter fun k => k.2.state == .erasing
  let s := live.foldl (fun s k => s.setSlot k.1 { gen := k.2.gen }) s
  let s := { s with keys := { s.keys with erases := s.keys.erases.erase j } }
  let s := s.raise 0x0B03 (.ks j.first) (beBytes 2 j.first ++ beBytes 4 j.zeroised)
  s.cmdDone j.issuer .ok

/-- The oldest erase past its erase point completes (R342). -/
def execKeyEraseDone (s : State) : Host.Outcome State Fault Refusal :=
  event s fun s =>
    match s.keys.erases.find? (·.pointed) with
    | none => s
    | some j => s.eraseDone j

/-! ## KEY_STATUS (R348) -/

/-- KEY_STATUS (R348). -/
def keyStatusBody (r : Request) (s : State) : Answer :=
  let first := field r.params 0 2
  let count := field r.params 2 2
  guards [
    (badForm r 4 || count == 0, .badParam),
    (count > 509 || first + count > 65536, .range),
    (!s.holdsKs r.port first count, .notTenant)]
    (answer (beBytes 2 first ++ beBytes 2 count
      ++ ((List.range count).map fun i => (s.slot (first + i)).descriptor).flatten) s)

/-- KEY_STATUS. -/
def execKeyStatus (r : Request) (s : State) : Host.Outcome State Fault Refusal :=
  opcode 0x0B04 false r s (keyStatusBody r)

/-! ## Port keys (R331 to R333, R349) -/

/-- Take a port key: a CAK starts a new session (R46, R333). -/
def State.takePortKey (s : State) (p : Hp) (kind : Byte) (key : Bytes) : State :=
  let old := if kind == 2 then (s.port p).kek else (s.port p).cak
  let k : PortKey := { key := some key, gen := nextGen old.gen }
  let s := s.updPort p fun q => if kind == 2 then { q with kek := k }
    else { q with cak := k, sessionStart := s.moduleTime, wrap := 0 }
  s.raise 0x0B05 (.host p) ([kind, 0] ++ be 2 k.gen)

/-- PORTKEY_LOAD (R331, R349). -/
def portkeyLoadBody (r : Request) (s : State) : Answer :=
  let kind := u8 r.params 0
  let old := if kind == 2 then (s.port r.port).kek else (s.port r.port).cak
  guards [(badForm r 68 || !zeroAt r.params 1 3 || !(kind == 2 || kind == 3), .badParam)]
    (let t := s.unwrap r.port kind 0 (nextGen old.gen) (slice r.params 4 64)
     match t.2 with
     | .error st => .ok st [] t.1
     | .ok v => .ok .ok [] (t.1.takePortKey r.port kind v.key))

/-- PORTKEY_LOAD. -/
def execPortkeyLoad (r : Request) (s : State) : Host.Outcome State Fault Refusal :=
  opcode 0x0B05 false r s (portkeyLoadBody r)

/-- Erase port keys by mask: bit 0 the KEK, bit 1 the CAK, whose erasure clears AUTH_REQ (R333, R349). -/
def State.erasePortKeys (s : State) (p : Hp) (kek cak : Bool) : State :=
  let q := s.port p
  let a := kek && q.kek.key.isSome
  let b := cak && q.cak.key.isSome
  let s := s.updPort p fun q => { q with
    kek := if a then { q.kek with key := none } else q.kek,
    cak := if b then { q.cak with key := none } else q.cak,
    authReq := q.authReq && !b }
  if a || b then s.raise 0x0B06 (.host p) [byte (bit a 0 + bit b 1)] else s

/-- PORTKEY_ERASE (R349). -/
def portkeyEraseBody (r : Request) (s : State) : Answer :=
  let k := u8 r.params 0
  guards [(badForm r 4 || !zeroAt r.params 1 3 || k.toNat > 3, .badParam)]
    (.ok .ok [] (s.erasePortKeys r.port (k.getLsbD 0) (k.getLsbD 1)))

/-- PORTKEY_ERASE. -/
def execPortkeyErase (r : Request) (s : State) : Host.Outcome State Fault Refusal :=
  opcode 0x0B06 false r s (portkeyEraseBody r)

/-- Descriptor of a port key (R349). -/
def PortKey.descriptor (k : PortKey) : Bytes :=
  Sys2Proof.Machine.descriptor (if k.key.isSome then 1 else 0) false (k.key.getD []) 0 0 k.gen

/-- PORTKEY_STATUS (R345, R349). -/
def portkeyStatusBody (r : Request) (s : State) : Answer :=
  let p := field r.params 0 1
  guards [
    (r.port != 0 && !r.params.isEmpty && p != r.port.val, .notPrincipal),
    (badForm r 4 || !zeroAt r.params 1 3, .badParam),
    (r.port == 0 && p > 3, .range)]
    (answer ((s.port (Fin.ofNat 4 p)).kek.descriptor ++ (s.port (Fin.ofNat 4 p)).cak.descriptor) s)

/-- PORTKEY_STATUS. -/
def execPortkeyStatus (r : Request) (s : State) : Host.Outcome State Fault Refusal :=
  opcode 0x0B07 false r s (portkeyStatusBody r)

/-! ## MILLRACE_STATUS (R350) -/

/-- One 16-byte block of R350. -/
def bankBlock (b : Bank) (count : Nat) (retries : Nat) : Bytes :=
  be 2 (sat 16 b.express.length) ++ be 2 (sat 16 b.bulk.length) ++ be 2 (sat 16 b.peak) ++ be 2 (sat 16 count)
    ++ be 4 (sat 32 b.stalls) ++ be 4 (sat 32 retries)

/-- MILLRACE_STATUS (R350). -/
def millraceStatusBody (r : Request) (s : State) : Answer :=
  guards [(badForm r 0, .badParam)]
    (answer (bankBlock s.flows.ingress.bank (s.keys.slots.countP fun k => k.2.state == .rewriting) 0
      ++ bankBlock s.flows.egress.bank s.stagedKeys s.flows.egress.bank.retries) s)

/-- MILLRACE_STATUS. -/
def execMillraceStatus (r : Request) (s : State) : Host.Outcome State Fault Refusal :=
  opcode 0x0B08 false r s (millraceStatusBody r)

/-! ## The owner key (R334 to R337, R351) -/

/-- OWNER_PROVISION (R335). -/
def ownerProvisionBody (r : Request) (s : State) : Answer :=
  guards [
    (notPrincipal r, .notPrincipal),
    (badForm r 32, .badParam),
    (s.keys.owner != .unprovisioned, .inconsistent)]
    (.ok .okDeferred [] { s with keys := { s.keys with
      owner := .provisioning, ownerKey := r.params, provision := some (issuerOf 0x1320 r) } })

/-- OWNER_PROVISION. -/
def execOwnerProvision (r : Request) (s : State) : Host.Outcome State Fault Refusal :=
  opcode 0x1320 false r s (ownerProvisionBody r)

/-- Read-back completes: the ten rows are burnt, or what they hold disagrees and the owner key is FAULTED (R334, R335). -/
def execOwnerProvisionDone (agrees : Bool) (s : State) : Host.Outcome State Fault Refusal :=
  event s fun s =>
    match s.keys.provision with
    | none => s
    | some d =>
      let rows := if agrees then ownerRows s.keys.ownerKey else misburnt fun i => Config.freeValue (s.fresh + i)
      let s := { s with
        fresh := s.fresh + 9
        nv := s.nv.burnOwner rows
        keys := { s.keys with owner := if agrees then .provisioned else .faulted, provision := none } }
      s.cmdDone d (if agrees then .ok else .calInvalid)

/-- STATE of R351. -/
def ownerCode : OwnerMode → Byte
  | .unprovisioned => 0 | .provisioned => 1 | .faulted => 2 | .provisioning => 3

/-- OWNER_STATUS (R336, R351). -/
def ownerStatusBody (r : Request) (s : State) : Answer :=
  guards [(badForm r 0, .badParam)]
    (answer ([ownerCode s.keys.owner, 0, 0, 0]
      ++ (if s.keys.owner == .provisioned then (aesEncrypt s.keys.ownerKey (zeros 16)).take 4 else zeros 4)) s)

/-- OWNER_STATUS, served in headless running. -/
def execOwnerStatus (r : Request) (s : State) : Host.Outcome State Fault Refusal :=
  opcode 0x1321 true r s (ownerStatusBody r)

/-- MFR of the IDENTITY record (R72). -/
def mfr : BitVec 16 := 0x0E57
/-- VARIANT of the IDENTITY record (R72). -/
def variantCode : Variant → BitVec 16
  | .c4 => 1 | .l4 => 2 | .c2 => 3

/-- ID_CHALLENGE (R337). -/
def idChallengeBody (r : Request) (s : State) : Answer :=
  guards [
    (badForm r 16, .badParam),
    (s.keys.owner != .provisioned, .keyAbsent)]
    (let id := s.ident.serial ++ be 2 mfr ++ be 2 (variantCode s.ident.variant)
     let key := deriveKey s.keys.ownerKey labelId
     answer (id ++ zeros 4 ++ cmac key ([0x49] ++ r.params ++ id ++ [byte r.port.val])) ((s.deriveWork labelId).cmacWork key 38))

/-- ID_CHALLENGE, served in headless running. -/
def execIdChallenge (r : Request) (s : State) : Host.Outcome State Fault Refusal :=
  opcode 0x1322 true r s (idChallengeBody r)

end Sys2Proof.Machine
end

