-- ==== Sys2Proof/Machine/FlowOps.lean ====
section
/-! DEFINITION. Flow contexts as the data path and the opcodes see them: the hot word, the context caches, the flow key
table, and the changes that loads, rekeys and fills make (spec/11_flows_sealing.md, R285 to R307). -/

namespace Sys2Proof.Machine

/-! ## The hot word (R289) -/

/-- The fields of a hot word. -/
structure Hot where
  state : BitVec 3 := 0
  dir : Bool := false
  cls : BitVec 3 := 0
  suite : BitVec 3 := 0
  sc : Bool := false
  conf : Bool := false
  an : BitVec 2 := 0
  replay : BitVec 5 := 0
  ks : BitVec 16 := 0
  kgen : BitVec 16 := 0
  pn : BitVec 64 := 0
  deriving DecidableEq, Repr

/-- The fields of 128 hot bits. -/
def Hot.ofBits (h : BitVec 128) : Hot :=
  { state := h.extractLsb' 125 3, dir := h.getLsbD 124, cls := h.extractLsb' 121 3, suite := h.extractLsb' 118 3,
    sc := h.getLsbD 117, conf := h.getLsbD 116, an := h.extractLsb' 113 2, replay := h.extractLsb' 108 5,
    ks := h.extractLsb' 92 16, kgen := h.extractLsb' 76 16, pn := h.extractLsb' 0 64 }

/-- The 128 bits of a hot word, reserved bits zero. -/
def Hot.bits (h : Hot) : BitVec 128 :=
  h.state ++ BitVec.ofBool h.dir ++ h.cls ++ h.suite ++ BitVec.ofBool h.sc ++ BitVec.ofBool h.conf ++ (0 : BitVec 1)
    ++ h.an ++ h.replay ++ h.ks ++ h.kgen ++ (0 : BitVec 12) ++ h.pn

/-- States of a context (R289). -/
def ctxNone : BitVec 3 := 0
/-- ACTIVE. -/
def ctxActive : BitVec 3 := 1
/-- SUSPENDED. -/
def ctxSuspended : BitVec 3 := 2
/-- QUARANTINED. -/
def ctxQuarantined : BitVec 3 := 3
/-- EXHAUSTED. -/
def ctxExhausted : BitVec 3 := 4

/-- A suite with extended packet numbers. -/
def isXpn (suite : BitVec 3) : Bool := suite == 3 || suite == 4
/-- Key length in bytes of a suite. -/
def suiteKey (suite : BitVec 3) : Nat := if suite == 2 || suite == 4 then 32 else 16
/-- The largest packet number of a suite. -/
def maxPn (suite : BitVec 3) : Nat := if isXpn suite then 2 ^ 64 - 1 else 2 ^ 32 - 1

/-! ## Caches (R291, R368, R369) -/

/-- Flow handling of one direction. -/
def State.flowDir (s : State) (d : Dir) : FlowDir :=
  match d with | .ingress => s.flows.ingress | .egress => s.flows.egress
/-- Change the flow handling of one direction. -/
def State.updDir (s : State) (d : Dir) (f : FlowDir → FlowDir) : State :=
  match d with
  | .ingress => { s with flows := { s.flows with ingress := f s.flows.ingress } }
  | .egress => { s with flows := { s.flows with egress := f s.flows.egress } }

/-- Direction of a context's line. -/
def dirOf (egress : Bool) : Dir := if egress then .egress else .ingress

/-- The words that a fetch of a context reads have been swept: hot part and cold bytes 16 to 31 (R291, R361). -/
def State.lineReady (s : State) (n : Nat) : Bool := s.wordReady (ctxWord n 0) && s.wordReady (ctxWord n 1)

/-- Every word of a context has been swept. -/
def State.ctxReady (s : State) (n : Nat) : Bool :=
  (List.range 4).all (fun w => s.wordReady (ctxWord n w)) && (List.range 2).all fun w => s.wordReady (extWord n w)

/-- Read a word with its merge entry laid over it; none where it is lost. -/
def State.readWord (s : State) (wa : Nat) (reader : Byte) : State × Option (BitVec 128 × Bool) :=
  let t := s.memRead wa reader
  if t.2.usable then
    let m := t.1.withMerge wa t.2
    (t.1, some (m.data, m.cls == .fresh))
  else (t.1, none)

/-- Fetch a context's hot word: one that is lost is rewritten QUARANTINED with Q_TIME (R369). -/
def State.fetchHot (s : State) (n : Nat) : State × Hot :=
  let wa := ctxWord n 0
  let cause : Byte := if (s.word wa).byEddy then 2 else 1
  let t := s.readWord wa 2
  match t.2 with
  | some (d, _) => (t.1, Hot.ofBits d)
  | none =>
    let h : Hot := { state := ctxQuarantined, pn := t.1.moduleTime.setWidth 64 }
    ((t.1.memWrite wa h.bits).raise 0x0A03 (ctxPlace n) (beBytes 4 n ++ [cause]), h)

/-- A context's hot word where it now stands: its line, or memory; no side effect. -/
def State.peekHot (s : State) (n : Nat) : Hot :=
  match s.cachedLine n with
  | some l => Hot.ofBits l.hot
  | none =>
    let r := (s.word (ctxWord n 0)).read
    if r.usable then Hot.ofBits (s.withMerge (ctxWord n 0) r).data else { state := ctxQuarantined }

/-- Fold a line's drop deltas into a six-byte counter at byte `o` of a cold word, with its OVF bit; a word that no sweep
has reached, on a failed channel, takes none (R289, R291, R361). -/
def State.foldDrop (s : State) (n w o : Nat) (delta ovfBit : Nat) : State × Byte :=
  let wa := ctxWord n w
  if delta = 0 || !s.wordReady wa then (s, 0)
  else
    let t := s.readWord wa 2
    let old := match t.2 with | some (d, _) => (d.extractLsb' (80 - 8 * o) 48).toNat | none => 0
    let new := old + delta
    let mask : BitVec 16 := (0x3F : BitVec 16) <<< o
    (t.1.mergeWrite wa ((BitVec.ofNat 128 (new % 2 ^ 48)) <<< (80 - 8 * o)) mask,
      if new ≥ 2 ^ 48 then byte (2 ^ ovfBit) else 0)

/-- Write a line back and drop it: hot word, folded drop deltas, cold bytes 16 to 31.  A cold word found lost on the way
sets INVALID in the line, which is written last (R291, R368). -/
def State.writeBack (s : State) (l : CacheLine) : State :=
  let s := s.memWrite (ctxWord l.ctx 0) l.hot
  let a := s.foldDrop l.ctx 2 0 l.dState 2
  let b := a.1.foldDrop l.ctx 2 6 l.dQueue 3
  let c := b.1.foldDrop l.ctx 3 0 l.dVerify 4
  let d := c.1.foldDrop l.ctx 3 6 l.dReplay 5
  let last := (d.1.cachedLine l.ctx).getD l
  let s := d.1.mergeWrite (ctxWord l.ctx 1) { last with ovf := last.ovf ||| a.2 ||| b.2 ||| c.2 ||| d.2 }.cold0 0xFFFF
  let g := fun (f : FlowDir) => { f with cache := f.cache.filter fun x => x.ctx != l.ctx }
  { s with flows := { s.flows with ingress := g s.flows.ingress, egress := g s.flows.egress } }

/-- A line may be evicted: not one with PIN = 1 that is ACTIVE (R291). -/
def CacheLine.evictable (l : CacheLine) : Bool := !(l.cflags.getLsbD 0 && (Hot.ofBits l.hot).state == ctxActive)

/-- Evict a line of a full cache: the first that may go (R291; log 8). -/
def State.evict (s : State) (d : Dir) : State :=
  if (s.flowDir d).cache.length < 131072 then s
  else match (s.flowDir d).cache.find? CacheLine.evictable with
    | none => s
    | some l => s.writeBack l

/-- Drop a context's line from the caches, written back. -/
def State.uncache (s : State) (n : Nat) : State :=
  match s.cachedLine n with
  | none => s
  | some l => s.writeBack l

/-- Install a context's line in a cache: hot part and cold bytes 16 to 31 are read (R291). -/
def State.install (s : State) (d : Dir) (n : Nat) : State :=
  match s.cachedLine n with
  | some _ => s
  | none =>
    let s := s.evict d
    let t := s.fetchHot n
    let u := t.1.readWord (ctxWord n 1) 2
    let c : BitVec 128 := match u.2 with | some (x, _) => x | none => (4 : BitVec 128) <<< 8
    u.1.updDir d fun f => { f with cache := f.cache ++ [
      { ctx := n, hot := t.2.bits, frames := c.extractLsb' 80 48, octets := c.extractLsb' 16 64,
        cflags := c.extractLsb' 8 8, ovf := c.extractLsb' 0 8 }] }

/-- The hot word that an opcode acts on: the cached one, or a fetch (R369). -/
def State.useHot (s : State) (n : Nat) : State × Hot :=
  match s.cachedLine n with
  | some l => (s, Hot.ofBits l.hot)
  | none => s.fetchHot n

/-- An opcode that needs a lost hot word fetches it, which quarantines the context (R369). -/
def State.touch (s : State) (n : Nat) : State :=
  if (s.cachedLine n).isNone && s.wordReady (ctxWord n 0) && !((s.word (ctxWord n 0)).read).usable then (s.fetchHot n).1
  else s

/-- Write a context's hot word where it stands. -/
def State.setHot (s : State) (n : Nat) (h : Hot) : State :=
  match s.cachedLine n with
  | some _ => s.updLine n fun l => { l with hot := h.bits }
  | none => s.memWrite (ctxWord n 0) h.bits

/-! ## Key binding (R307, R369) -/

/-- Module time at which a slot's current key came, or at the next boundary comes, into force. -/
def State.keySince (s : State) (ks : Nat) : BitVec 48 :=
  if (s.slot ks).waiting then s.moduleTime + 1 else (s.slot ks).since

/-- The slot is empty to contexts (R307). -/
def State.slotAbsent (s : State) (ks : Nat) : Bool := (s.slot ks).state == .empty || (s.slot ks).state == .erasing

/-- The slot's usage or length does not suit a suite in a direction (R307). -/
def State.slotUnfit (s : State) (h : Hot) (ks : Nat) : Bool :=
  !((s.slot ks).cur.usage.getLsbD (if h.dir then 1 else 0)) || (s.slot ks).cur.key.length != suiteKey h.suite

/-- SCI_MAC of a context (R300). -/
def State.sciMac (s : State) (n : Nat) : BitVec 48 := s.flows.sealing.macs.toList.getD (n / 65536) 0

/-- The binding checks of R307 for contexts `first` to `last` under a hot part. -/
def State.bindingFault (s : State) (h : Hot) (first last : Nat) : Option Status :=
  if h.suite == 0 then none
  else if (List.range (last / 65536 - first / 65536 + 1)).any fun b => s.sciMac (first + 65536 * b) == 0 then
    some .inconsistent
  else if s.slotAbsent h.ks.toNat then some .keyAbsent
  else if s.slotUnfit h h.ks.toNat then some .inconsistent
  else none

/-- A written hot part holds reserved codes or bits: the host writes NONE and ACTIVE only (R289).  DESIGN CHOICE: a non-zero
REPLAY of an ingress context, where the rule says egress only, counts as reserved, like SC of egress (log 36). -/
def badHot (b : BitVec 128) : Bool :=
  let h := Hot.ofBits b
  h.state.toNat > 1 || h.suite.toNat > 4 || b.getLsbD 115 || b.extractLsb' 64 12 != 0 || (h.dir && h.sc)
    || (!h.dir && h.replay != 0) || (h.suite != 0 && !isXpn h.suite && h.pn.toNat ≥ 2 ^ 32)

/-! ## Entries -/

/-- INDEX of a context entry (R314, R317). -/
def entryCtx (e : Bytes) : Nat := field e 0 4
/-- The hot part of a load entry (R314). -/
def entryHot (e : Bytes) : BitVec 128 := BitVec.ofNat 128 (field e 8 16)

/-- A pending commit holds a staged change of a context (R308). -/
def State.ctxHeld (s : State) (n : Nat) : Bool :=
  s.flows.staged.any fun x => s.holdsToken 8 x.token && (match x.op with
    | .load e | .rekey e | .reload e => entryCtx e == n
    | .add _ | .delete _ => false)
/-- A pending commit holds a staged change of a flow key (R308). -/
def State.keyHeld (s : State) (k : Bytes) : Bool :=
  s.flows.staged.any fun x => s.holdsToken 8 x.token && (match x.op with
    | .add e | .delete e => e.take 12 == k
    | _ => false)
/-- A pending commit holds a staged rewrite of a slot (R308). -/
def State.slotHeld (s : State) (ks : Nat) : Bool :=
  match (s.slot ks).staged with | some (t, _) => s.holdsToken 9 t | none => false

/-- The words that a load needs have been swept: all of them where it clears the cold part (R314, R361). -/
def State.loadReady (s : State) (n : Nat) (clears : Bool) : Bool := s.lineReady n && (!clears || s.ctxReady n)

/-- A load of an ingress context with a suite from NONE, under the binding it last had, with a PN below the stored one
(R307). -/
def State.lowersPn (s : State) (h old : Hot) : Bool :=
  h.suite != 0 && !h.dir && h.ks == old.ks && (s.slot h.ks.toNat).gen == old.kgen && decide (h.pn.toNat < old.pn.toNat)

/-- A written hot part changes more of a context not in NONE than it may: CLASS, and STATE to NONE, which only an ACTIVE
context takes (R290, R307; DEDUCED, log 8). -/
def Hot.overwrites (h old : Hot) : Bool :=
  ({ h with state := old.state, cls := old.cls, kgen := old.kgen } : Hot) != old || old.state != ctxActive

/-- Checks of one CTX_LOAD or CTX_RELOAD entry beyond form, range and tenancy, each context's binding among them (R307,
R314, R369).  A reload leads to ACTIVE, so that STATE must say so (R290; DEDUCED, log 8). -/
def State.loadFault (s : State) (e : Bytes) (reload : Bool) : Option Status :=
  let n := entryCtx e
  let h := Hot.ofBits (entryHot e)
  let ks := h.ks.toNat
  let old := s.peekHot n
  if !s.loadReady n (reload || (u8 e 4).getLsbD 2) then some .notReady
  else if s.ctxHeld n || (h.suite != 0 && s.slotHeld ks) then some .busy
  else if reload && (old.state != ctxQuarantined || h.state != ctxActive) then some .inconsistent
  else if !reload && (if old.state == ctxNone then s.lowersPn h old else h.overwrites old) then some .inconsistent
  else match s.bindingFault h n n with
    | some st => some st
    | none =>
      if reload && h.suite != 0 && !h.dir && (s.keySince ks).toNat < old.pn.toNat % 2 ^ 48 then some .inconsistent
      else none

/-- Checks of one CTX_REKEY entry beyond form, range and tenancy (R304, R317, R369).  A slot whose usage or key length does
not suit the context is found at its next admission (R305, R328). -/
def State.rekeyFault (s : State) (e : Bytes) : Option Status :=
  let n := entryCtx e
  let ks := field e 4 2
  let old := s.peekHot n
  let pn := field e 8 8
  if !s.wordReady (ctxWord n 0) then some .notReady
  else if s.ctxHeld n || s.slotHeld ks then some .busy
  else if old.state == ctxNone then some .inconsistent
  else if s.slotAbsent ks then some .keyAbsent
  else if (ks == old.ks.toNat && (s.slot ks).gen == old.kgen) || field e 6 1 == old.an.toNat || pn == 0
      || (old.suite != 0 && !isXpn old.suite && pn ≥ 2 ^ 32) then
    some .inconsistent
  else if old.state == ctxQuarantined && (s.keySince ks).toNat < old.pn.toNat % 2 ^ 48 then some .inconsistent
  else none

/-! ## The flow key table (R286, R287, R313) -/

/-- The two candidate buckets of a key, as word addresses of their entries (R286). -/
def bucketWords (k : Bytes) : List Nat :=
  let b := fun (h : Nat) => (List.range 4).map fun e => 4 * (h % 524288) + e
  b (Config.flowHashA (beValue k)) ++ b (Config.flowHashB (beValue k))

/-- The on-hub tag of a key. -/
def tagOf (k : Bytes) : Byte := BitVec.ofNat 8 (Config.flowTag (beValue k))

/-- Look a key up: only entries whose tag matches are read, and the first with an equal key gives its word address and
context; unswept words hold no entry (R286, R361). -/
def State.findKey (s : State) (k : Bytes) (reader : Byte) : List Nat → State × Option (Nat × Nat)
  | [] => (s, none)
  | wa :: rest =>
    if readAt none s.flows.tags wa == some (tagOf k) && s.wordReady wa then
      let t := s.readWord wa reader
      match t.2 with
      | some (d, _) =>
        let e := be 16 d
        if e.take 12 == k then (t.1, some (wa, field e 12 4)) else t.1.findKey k reader rest
      | none => t.1.findKey k reader rest
    else s.findKey k reader rest

/-- The first entry with room in the candidate buckets (R286). -/
def State.roomFor (s : State) (k : Bytes) : Option Nat :=
  (bucketWords k).find? fun wa => (readAt none s.flows.tags wa).isNone

/-- Place an entry; without room, nothing. -/
def State.addEntry (s : State) (e : Bytes) : State :=
  match s.roomFor (e.take 12) with
  | none => s
  | some wa =>
    let s := s.memWrite wa (BitVec.ofNat 128 (beValue e))
    { s with flows := { s.flows with tags := writeAt none s.flows.tags wa (some (tagOf (e.take 12))) } }

/-- Remove an entry. -/
def State.dropEntry (s : State) (e : Bytes) : State :=
  let t := s.findKey (e.take 12) 2 (bucketWords (e.take 12))
  match t.2 with
  | none => t.1
  | some (wa, _) =>
    let s := t.1.memWrite wa 0
    { s with flows := { s.flows with tags := writeAt none s.flows.tags wa none } }

/-! ## Changes of class FLOW -/

/-- Clear a context's cold part and extended record (R314). -/
def State.clearCold (s : State) (n : Nat) : State :=
  let s := s.updLine n fun l => { l with
    frames := 0, octets := 0, cflags := l.cflags &&& 3, ovf := 0, dState := 0, dQueue := 0, dVerify := 0, dReplay := 0 }
  let s := s.memWrite (ctxWord n 1) 0
  let s := s.memWrite (ctxWord n 2) 0
  let s := s.memWrite (ctxWord n 3) 0
  let s := s.memWrite (extWord n 0) 0
  s.memWrite (extWord n 1) 0

/-- Set PIN and EXT of a context, in its line or by a merge write. -/
def State.setFlags (s : State) (n : Nat) (flags : Byte) : State :=
  match s.cachedLine n with
  | some _ => s.updLine n fun l => { l with cflags := (l.cflags &&& 4) ||| (flags &&& 3) }
  | none =>
    let wa := ctxWord n 1
    let r := (s.word wa).read
    let old : Byte := if r.usable then (s.withMerge wa r).data.extractLsb' 8 8 else 4
    s.mergeWrite wa ((((old &&& 4) ||| (flags &&& 3)).setWidth 128) <<< 8) 0x4000

/-- What a load makes of the hot part: from NONE, or on a reload, the written one under the slot's generation; otherwise
CLASS, and STATE from ACTIVE to NONE, change (R290, R307, R314).  Under the binding that an ingress context last had, its
PN never falls: CTX_FILL raises it to the stored value, and so does a load whose context has sealed more frames since the
load was checked (R301, R307; DEDUCED, log 8). -/
def loadedHot (old h : Hot) (gen : BitVec 16) (fresh : Bool) : Hot :=
  if fresh then
    let pn := if !h.dir && h.ks == old.ks && gen == old.kgen && h.pn.toNat < old.pn.toNat then old.pn else h.pn
    { h with kgen := gen, pn := pn }
  else { old with
    cls := h.cls, state := if h.state == ctxNone && old.state == ctxActive then ctxNone else old.state }

/-- Load one context.  A pinned ACTIVE context is held in the cache (R291). -/
def State.loadCtx (s : State) (n : Nat) (h : Hot) (flags : Byte) (reload : Bool) : State :=
  let t := s.useHot n
  let fresh := t.2.state == ctxNone || (reload && t.2.state == ctxQuarantined)
  let new := loadedHot t.2 h (s.slot h.ks.toNat).gen fresh
  let s := if new.dir == t.2.dir then t.1 else t.1.uncache n
  let s := s.setHot n new
  let s := if flags.getLsbD 2 || reload then s.clearCold n else s
  let s := s.setFlags n flags
  if flags.getLsbD 0 && new.state == ctxActive then s.install (dirOf new.dir) n else s

/-- Rekey one context, which becomes ACTIVE unless it has gone to NONE since the check; an egress one leaves its old binding
in the grace table (R290, R304). -/
def State.rekeyCtx (s : State) (e : Bytes) : State :=
  let n := entryCtx e
  let ks := u16 e 4
  let t := s.useHot n
  let h := t.2
  let s := if h.dir then
      { t.1 with flows := { t.1.flows with grace := t.1.flows.grace ++ [
        { ctx := n, an := h.an, ks := h.ks, kgen := h.kgen, pn := h.pn, since := t.1.moduleTime }] } }
    else t.1
  let s := s.setHot n { h with ks := ks, an := (u8 e 6).setWidth 2, pn := u64 e 8, kgen := (s.slot ks.toNat).gen,
                               state := if h.state == ctxNone then ctxNone else ctxActive }
  { s with flows := { s.flows with pnRaised := s.flows.pnRaised.filter fun x => x != n } }

/-- One change takes effect (R310). -/
def State.flowOp (s : State) (op : FlowOp) : State :=
  match op with
  | .add e => s.addEntry e
  | .delete e => s.dropEntry e
  | .load e => s.loadCtx (entryCtx e) (Hot.ofBits (entryHot e)) (u8 e 4) false
  | .reload e => s.loadCtx (entryCtx e) (Hot.ofBits (entryHot e)) (u8 e 4) true
  | .rekey e => s.rekeyCtx e

/-- A change belongs to the egress half of a commit: an egress rekey or load; key-table changes go with the transmit
half (R304; log 17). -/
def State.opEgress (s : State) (op : FlowOp) : Bool :=
  match op with
  | .rekey e => (s.peekHot (entryCtx e)).dir
  | .load e | .reload e => (Hot.ofBits (entryHot e)).dir
  | .add _ | .delete _ => false

/-- The changes staged under a token switch, those of the ingress or of the egress half (R78, R304). -/
def State.flowsCommit (s : State) (tok : BitVec 32) (egress : Bool) : State :=
  let mine := s.flows.staged.filter fun x => x.token == tok && s.opEgress x.op == egress
  let s := { s with flows := { s.flows with staged := s.flows.staged.filter fun x => !mine.contains x } }
  mine.foldl (fun s x => s.flowOp x.op) s

/-- Egress rekeys staged under a token. -/
def State.egressRekeys (s : State) (tok : BitVec 32) : Nat :=
  s.flows.staged.countP fun x => x.token == tok && (match x.op with | .rekey _ => s.opEgress x.op | _ => false)

/-- A grace entry is in force: 1,024 frames from its rekey (R304). -/
def Grace.lives (g : Grace) (now : BitVec 48) : Bool := (now - g.since).toNat < 1024

/-- Egress rekeys of immediate batches that wait for the next boundary (R310). -/
def State.egressPending (s : State) : Nat :=
  (s.immediate.map fun x => match x with
    | .flow ops => ops.countP fun op => match op with | .rekey _ => s.opEgress op | _ => false
    | .keysLoaded _ _ | .keysRewritten _ => 0).sum

/-- Free grace entries, less those that waiting batches take and pending commits have reserved (R308). -/
def State.graceFree (s : State) : Nat :=
  4096 - s.flows.grace.countP (fun g => g.lives s.moduleTime) - s.egressPending
    - ((s.commits.filter fun k => k.classes.getLsbD 8).map fun k => s.egressRekeys k.token).sum

end Sys2Proof.Machine
end

