-- ==== Sys2Proof/Machine/FlowRows.lean ====
section
/-! DEFINITION. The opcodes of group 0x0A: port settings, EtherType tables, flow keys, contexts and sealing
(spec/11_flows_sealing.md, R309 to R318). -/

namespace Sys2Proof.Machine

/-! ## Client ports and their engines (R548) -/

/-- Client port `c`. -/
def State.cport (s : State) (c : Cp) : Cport := s.cports[c]
/-- Change a client port. -/
def State.updCport (s : State) (c : Cp) (f : Cport → Cport) : State :=
  { s with cports := s.cports.set c (f s.cports[c]) }
/-- Client-port number of a parameter byte; the range check comes first. -/
def cpOf (n : Nat) : Cp := Fin.ofNat 64 n

/-- A formation is formed. -/
def CportConfig.formed (f : CportConfig) : Bool := f.width != 0
/-- Engine of a formation: the one serving the lane group of its first lane (R8). -/
def CportConfig.engine (f : CportConfig) : Nat := f.first.toNat / 16 % 4

/-- The engines of a client port (R548). -/
def State.cportEngines (s : State) (c : Cp) : List Nat :=
  let p := (s.cport c).params
  let a := if p.active.form.formed then [p.active.form.engine] else []
  let b := if p.staged.form.formed then [p.staged.form.engine] else []
  if a.isEmpty && b.isEmpty then [c.val / 16] else (a ++ b).eraseDups

/-- The host port holds the client port and every one of its engines (R276). -/
def State.holdsPort (s : State) (p : Hp) (c : Cp) : Bool :=
  s.holdsCport p c && (s.cportEngines c).all fun e => s.holdsEngine p e
/-- The CLIENT scope of one of the port's engines is held (R548). -/
def State.portBusy (s : State) (c : Cp) : Bool := (s.cportEngines c).any fun e => s.holdsScope 7 e
/-- The place of a client-port event. -/
def State.cportPlace (_s : State) (c : Cp) : Place := .cport c

/-- The checks every read of a client port makes. -/
def portGuards (bad : Bool) (r : Request) (s : State) (a : Cp → Answer) : Answer :=
  let n := field r.params 0 1
  guards [(bad, .badParam), (!s.hasLane n, .range), (!s.holdsPort r.port (cpOf n), .notTenant)] (a (cpOf n))

/-! ## FLOW_PORT (R311) -/

/-- FLOW_PORT_WRITE (R311). -/
def flowPortWriteBody (r : Request) (s : State) : Answer :=
  let n := field r.params 0 1
  let c : FlowPort := { keyMask := u8 r.params 1, defIn := u32 r.params 4, defOut := u32 r.params 8 }
  let held := fun (d : BitVec 32) => d == 0 || s.holdsCtx r.port (d.toNat - 1) 1
  guards [
    (badForm r 16 || c.keyMask.toNat > 15 || !zeroAt r.params 2 2 || !zeroAt r.params 12 4, .badParam),
    (!s.hasLane n || c.defIn.toNat > 1048576 || c.defOut.toNat > 1048576, .range),
    (!s.holdsPort r.port (cpOf n) || !held c.defIn || !held c.defOut, .notTenant),
    (s.portBusy (cpOf n), .busy)]
    (.ok .ok [] (s.updCport (cpOf n) fun p => { p with
      params := { p.params with staged := { p.params.staged with flow := c } } }))

/-- FLOW_PORT_WRITE. -/
def execFlowPortWrite (r : Request) (s : State) : Host.Outcome State Fault Refusal :=
  opcode 0x0A01 false r s (flowPortWriteBody r)

/-- FLOW_PORT_READ (R311). -/
def flowPortReadBody (r : Request) (s : State) : Answer :=
  portGuards (badEngineCopy r) r s fun c =>
    let f := (copyOf (u8 r.params 1) (s.cport c).params).flow
    answer ([byte c.val, f.keyMask, 0, 0] ++ be 4 f.defIn ++ be 4 f.defOut ++ zeros 4) s

/-- FLOW_PORT_READ. -/
def execFlowPortRead (r : Request) (s : State) : Host.Outcome State Fault Refusal :=
  opcode 0x0A02 false r s (flowPortReadBody r)

/-! ## ETYPE (R312) -/

/-- One 4-byte entry is malformed. -/
def badEtype (b : Bytes) : Bool :=
  let flags := field b 2 1
  flags > 3 || !zeroAt b 3 1 || (flags % 2 == 0 && !zeroAt b 0 3) || field b 0 2 == 0x88E5

/-- ETYPE_WRITE (R312). -/
def etypeWriteBody (r : Request) (s : State) : Answer :=
  let n := field r.params 0 1
  let entry := fun i => slice r.params (4 + 4 * i) 4
  guards [
    (badForm r 64 || !zeroAt r.params 1 3 || (List.range 15).any fun i => badEtype (entry i), .badParam),
    (!s.hasEngine n, .range),
    (!s.holdsEngine r.port n, .notTenant),
    (s.holdsScope 7 n, .busy)]
    (.ok .ok [] (s.stage (engOf n) fun p => { p with
      etype := Vector.ofFn fun i => { etype := u16 (entry i.val) 0, flags := u8 (entry i.val) 2 } }))

/-- ETYPE_WRITE. -/
def execEtypeWrite (r : Request) (s : State) : Host.Outcome State Fault Refusal :=
  opcode 0x0A03 false r s (etypeWriteBody r)

/-- ETYPE_READ (R312). -/
def etypeReadBody (r : Request) (s : State) : Answer :=
  engineGuards (badEngineCopy r) r s fun e =>
    answer ([byte e.val, 0, 0, 0] ++ (((copyOf (u8 r.params 1) (s.eng e).params).etype.toList).map fun x =>
      be 2 x.etype ++ [x.flags, 0]).flatten) s

/-- ETYPE_READ. -/
def execEtypeRead (r : Request) (s : State) : Host.Outcome State Fault Refusal :=
  opcode 0x0A04 false r s (etypeReadBody r)

/-! ## Flow keys (R313) -/

/-- A flow entry is malformed; `named` when its CTX names a context.  DESIGN CHOICE: bits of a TAG entry above the widths of
R285 count as reserved, which R313 does not say (log 36). -/
def badFlowEntry (named : Bool) (e : Bytes) : Bool :=
  let kind := field e 0 1
  (kind != 1 && kind != 2) || (!named && !zeroAt e 12 4)
    || (kind == 1 && (field e 2 2 > 0x1FFF || field e 4 2 > 0x1FFF || field e 6 1 > 15 || !zeroAt e 7 1
      || field e 8 4 ≥ 2 ^ 20))
    || (kind == 2 && !zeroAt e 10 2)

/-- PORT of a flow entry. -/
def entryPort (e : Bytes) : Nat := field e 1 1

/-- A TAG field outside the port's active KEY_MASK is not zero (R313). -/
def State.outsideMask (s : State) (e : Bytes) : Bool :=
  let m := (s.cport (cpOf (entryPort e))).params.active.flow.keyMask
  field e 0 1 == 1 && ((!m.getLsbD 0 && !zeroAt e 2 2) || (!m.getLsbD 1 && !zeroAt e 4 2)
    || (!m.getLsbD 2 && !zeroAt e 6 1) || (!m.getLsbD 3 && !zeroAt e 8 4))

/-- A candidate entry of a key is not swept (R308). -/
def State.keyUnready (s : State) (e : Bytes) : Bool := (bucketWords (e.take 12)).any fun wa => !s.wordReady wa

/-- Check of one FLOW_ADD entry after those before it (R313). -/
def State.addFault (s : State) (e : Bytes) : Option Status :=
  if s.keyUnready e then some .notReady
  else if s.keyHeld (e.take 12) then some .busy
  else if s.outsideMask e || ((s.findKey (e.take 12) 4 (bucketWords (e.take 12))).2).isSome then some .inconsistent
  else if (s.roomFor (e.take 12)).isNone then some .queueFull
  else none

/-- Check of one FLOW_DELETE entry after those before it (R313). -/
def State.deleteFault (s : State) (e : Bytes) : Option Status :=
  if s.keyUnready e then some .notReady
  else if s.keyHeld (e.take 12) then some .busy
  else if ((s.findKey (e.take 12) 4 (bucketWords (e.take 12))).2).isNone then some .range
  else none

/-- Check entries in order, each after the effect of those before it; the first failure with its number. -/
def firstFault (check : State → Bytes → Option Status) (apply : State → Bytes → State) :
    State → List Bytes → Nat → Option (Status × Nat)
  | _, [], _ => none
  | s, e :: es, i =>
    match check s e with
    | some st => some (st, i)
    | none => firstFault check apply (apply s e) es (i + 1)

/-- Enact a checked batch: at the next MFC boundary, or staged under its token, of which 4,096 entries fit (R309,
R310). -/
def enact (r : Request) (s : State) (ops : List FlowOp) : Answer :=
  let tok := batchToken r
  if tok == 0 then .ok .ok [] { s with immediate := s.immediate ++ [.flow ops] }
  else if s.flows.staged.length + s.stagedKeys + ops.length > 4096 then .ok .queueFull [] s
  else .ok .ok [] { s with flows := { s.flows with
    staged := s.flows.staged ++ ops.map fun o => { token := tok, port := r.port, op := o } } }

/-- Look the keys of a batch up as the host reads, which corrects, poisons and logs what it finds (R359). -/
def State.seekAll (s : State) (es : List Bytes) : State :=
  es.foldl (fun s e => if s.keyUnready e then s else (s.findKey (e.take 12) 4 (bucketWords (e.take 12))).1) s

/-- A batch of flow keys (R310, R313). -/
def flowBatch (r : Request) (s : State) (named : Bool) (check : State → Bytes → Option Status)
    (apply : State → Bytes → State) (op : Bytes → FlowOp) : Answer :=
  let es := batchEntries r 16
  guards [(badBatch r 16 254, .badParam)]
    (checkEach es (badFlowEntry named) .badParam
      (checkEach es (fun e => !s.hasLane (entryPort e) || field e 12 4 ≥ 1048576) .range
        (checkEach es (fun e => !s.holdsPort r.port (cpOf (entryPort e))
            || (named && !s.holdsCtx r.port (field e 12 4) 1)) .notTenant
          (guards [(s.holdsToken 8 (batchToken r), .busy)]
            (let s := s.seekAll es
             match firstFault check apply s es 0 with
             | some (st, i) => .ok st (beBytes 4 i) s
             | none => enact r s (es.map op))))))

/-- FLOW_ADD (R313). -/
def flowAddBody (r : Request) (s : State) : Answer :=
  flowBatch r s true State.addFault State.addEntry .add

/-- FLOW_ADD. -/
def execFlowAdd (r : Request) (s : State) : Host.Outcome State Fault Refusal := opcode 0x0A05 false r s (flowAddBody r)

/-- FLOW_DELETE (R313). -/
def flowDeleteBody (r : Request) (s : State) : Answer :=
  flowBatch r s false State.deleteFault State.dropEntry .delete

/-- FLOW_DELETE. -/
def execFlowDelete (r : Request) (s : State) : Host.Outcome State Fault Refusal :=
  opcode 0x0A06 false r s (flowDeleteBody r)

/-- FLOW_LOOKUP (R313). -/
def flowLookupBody (r : Request) (s : State) : Answer :=
  let e := r.params
  guards [
    (badForm r 16 || badFlowEntry false e, .badParam),
    (!s.hasLane (entryPort e), .range),
    (!s.holdsPort r.port (cpOf (entryPort e)), .notTenant),
    (s.keyUnready e, .notReady)]
    (let t := s.findKey (e.take 12) 4 (bucketWords (e.take 12))
     answer (beBytes 4 (match t.2 with | some (_, n) => n + 1 | none => 0)) t.1)

/-- FLOW_LOOKUP. -/
def execFlowLookup (r : Request) (s : State) : Host.Outcome State Fault Refusal :=
  opcode 0x0A07 false r s (flowLookupBody r)

/-! ## CTX_LOAD and CTX_RELOAD (R307, R314) -/

/-- A load entry is malformed. -/
def badLoadEntry (e : Bytes) : Bool := field e 4 1 > 7 || !zeroAt e 5 3 || badHot (entryHot e)

/-- Contexts that are known to have been written: hot words in memory and cached lines. -/
def State.knownCtx (s : State) : List Nat :=
  (s.mem.words.filterMap fun w => match contentOf w.1 with | .hot n => some n | _ => none)
    ++ s.flows.ingress.cache.map (·.ctx) ++ s.flows.egress.cache.map (·.ctx)

/-- A context carries PIN = 1, in its line or in memory (R289). -/
def State.isPinned (s : State) (n : Nat) : Bool :=
  match s.cachedLine n with
  | some l => l.cflags.getLsbD 0
  | none =>
    let r := (s.word (ctxWord n 1)).read
    r.usable && (s.withMerge (ctxWord n 1) r).data.getLsbD 8

/-- Contexts of a direction that carry PIN = 1 (R291). -/
def State.pinned (s : State) (d : Dir) : List Nat :=
  s.knownCtx.eraseDups.filter fun n => s.isPinned n && dirOf (s.peekHot n).dir == d

/-- A load entry sets PIN of a context of a direction. -/
def entryPins (d : Dir) (e : Bytes) : Bool := (u8 e 4).getLsbD 0 && dirOf (Hot.ofBits (entryHot e)).dir == d

/-- Contexts that changes set PIN of in a direction. -/
def opPins (d : Dir) (ops : List FlowOp) : List Nat :=
  ops.filterMap fun op => match op with
    | .load e | .reload e => if entryPins d e then some (entryCtx e) else none
    | .rekey _ | .add _ | .delete _ => none

/-- Contexts of a direction that a fill may set PIN of: those of its range in NONE (R315). -/
def State.fillPins (s : State) (d : Dir) (flags : Byte) (h : Hot) (first count : Nat) : List Nat :=
  if flags.getLsbD 0 && dirOf h.dir == d then
    ((List.range count).map fun i => first + i).filter fun n => (s.peekHot n).state == ctxNone
  else []

/-- Contexts of a direction that loads which wait for the next boundary or are staged, or the running fill, will pin
(R291; DEDUCED, log 8). -/
def State.pinsDue (s : State) (d : Dir) : List Nat :=
  (s.immediate.flatMap fun x => match x with | .flow ops => opPins d ops | .keysLoaded _ _ | .keysRewritten _ => [])
    ++ opPins d (s.flows.staged.map (·.op))
    ++ (match s.flows.fill with
        | some j => s.fillPins d j.flags (Hot.ofBits j.template) j.first j.count
        | none => [])

/-- More contexts than a direction may pin (R291). -/
def tooManyPins (pins : List Nat) : Bool := decide (pins.eraseDups.length > 16384)

/-- The first entry that would carry a direction past 16,384 pinned contexts; `pins` are those pinned, or released, by the
entries before it, `due` those that other changes bring (R291). -/
def pinFault (due : Dir → List Nat) : (Dir → List Nat) → List Bytes → Nat → Option Nat
  | _, [], _ => none
  | pins, e :: es, i =>
    let next := fun d => (pins d).filter (· != entryCtx e) ++ (if entryPins d e then [entryCtx e] else [])
    let beyond := fun d => entryPins d e && !(pins d ++ due d).contains (entryCtx e) && tooManyPins (next d ++ due d)
    if beyond .ingress || beyond .egress then some i else pinFault due next es (i + 1)

/-- Key slots that an entry with a suite names lie in the tenancy (R307). -/
def State.holdsEntryKey (s : State) (p : Hp) (h : Hot) : Bool := h.suite == 0 || s.holdsKs p h.ks.toNat 1

/-- Contexts of a batch whose lost hot words the check fetches (R369). -/
def State.touchAll (s : State) (es : List Bytes) : State := es.foldl (fun s e => s.touch (entryCtx e)) s

/-- A batch of context changes: form, range and tenancy, then the check of every entry after the effect of those before it
(R310).  A context may come twice: its second entry is checked against what the first makes of it, so that every entry of an
accepted batch has its effect (DEDUCED, log 8). -/
def ctxBatch (r : Request) (s : State) (size most : Nat) (bad : Bytes → Bool) (tenant : Bytes → Bool)
    (check : State → Bytes → Option Status) (op : Bytes → FlowOp) (k : State → List Bytes → Answer) : Answer :=
  let es := batchEntries r size
  guards [(badBatch r size most, .badParam)]
    (checkEach es bad .badParam
      (checkEach es (fun e => entryCtx e ≥ 1048576) .range
        (checkEach es (fun e => !s.holdsCtx r.port (entryCtx e) 1 || !tenant e) .notTenant
          (guards [(s.holdsToken 8 (batchToken r), .busy)]
            (let s := s.touchAll es
             match firstFault check (fun s e => s.flowOp (op e)) s es 0 with
             | some (st, i) => .ok st (beBytes 4 i) s
             | none => k s es)))))

/-- Enact a checked batch of loads that pins no context too many (R291). -/
def enactLoads (r : Request) (op : Bytes → FlowOp) (s : State) (es : List Bytes) : Answer :=
  match pinFault s.pinsDue s.pinned es 0 with
  | some i => .ok .queueFull (beBytes 4 i) s
  | none => enact r s (es.map op)

/-- CTX_LOAD (R307, R314). -/
def ctxLoadBody (r : Request) (s : State) : Answer :=
  ctxBatch r s 24 169 badLoadEntry (fun e => s.holdsEntryKey r.port (Hot.ofBits (entryHot e)))
    (fun s e => s.loadFault e false) .load (enactLoads r .load)

/-- CTX_LOAD. -/
def execCtxLoad (r : Request) (s : State) : Host.Outcome State Fault Refusal := opcode 0x0A08 false r s (ctxLoadBody r)

/-- CTX_RELOAD (R314): TOKEN must be 0. -/
def ctxReloadBody (r : Request) (s : State) : Answer :=
  guards [(batchToken r != 0, .badParam)]
    (ctxBatch r s 24 169 badLoadEntry (fun e => s.holdsEntryKey r.port (Hot.ofBits (entryHot e)))
      (fun s e => s.loadFault e true) .reload (enactLoads r .reload))

/-- CTX_RELOAD. -/
def execCtxReload (r : Request) (s : State) : Host.Outcome State Fault Refusal :=
  opcode 0x0A0C false r s (ctxReloadBody r)

/-! ## CTX_REKEY (R304, R317) -/

/-- The first egress entry that finds no free grace entry (R308). -/
def graceFault (s : State) : List Bytes → Nat → Nat → Option Nat
  | [], _, _ => none
  | e :: es, i, free =>
    if (s.peekHot (entryCtx e)).dir then
      match free with
      | 0 => some i
      | f + 1 => graceFault s es (i + 1) f
    else graceFault s es (i + 1) free

/-- CTX_REKEY (R304, R308, R317). -/
def ctxRekeyBody (r : Request) (s : State) : Answer :=
  ctxBatch r s 16 254 (fun e => field e 6 1 > 3 || !zeroAt e 7 1) (fun e => s.holdsKs r.port (field e 4 2) 1)
    State.rekeyFault .rekey fun s es =>
      match if batchToken r == 0 then graceFault s es 0 s.graceFree else none with
      | some i => .ok .queueFull (beBytes 4 i) s
      | none => enact r s (es.map .rekey)

/-- CTX_REKEY. -/
def execCtxRekey (r : Request) (s : State) : Host.Outcome State Fault Refusal :=
  opcode 0x0A0B false r s (ctxRekeyBody r)

/-! ## CTX_FILL (R315) -/

/-- CTX_FILL (R307, R315). -/
def ctxFillBody (r : Request) (s : State) : Answer :=
  let first := field r.params 0 4
  let count := field r.params 4 4
  let t := BitVec.ofNat 128 (field r.params 12 16)
  let h := Hot.ofBits t
  guards [
    (badForm r 28 || count == 0 || field r.params 8 1 > 7 || !zeroAt r.params 9 3 || badHot t, .badParam),
    (first + count > 1048576, .range),
    (!s.holdsCtx r.port first count || !s.holdsEntryKey r.port h, .notTenant),
    (!((List.range count).all fun i => s.loadReady (first + i) (field r.params 8 1 ≥ 4)), .notReady),
    (s.flows.fill.isSome, .busy),
    (u8 r.params 8 &&& 1 == 1 && tooManyPins (s.pinned (dirOf h.dir) ++ s.pinsDue (dirOf h.dir)
      ++ s.fillPins (dirOf h.dir) (u8 r.params 8) h first count), .queueFull)]
    (match s.bindingFault h first (first + count - 1) with
     | some st => .fail st []
     | none =>
       let job : FillJob := { first := first, count := count, flags := u8 r.params 8, template := t,
                              issuer := issuerOf 0x0A09 r }
       .ok .okDeferred [] { s with flows := { s.flows with fill := some job } })

/-- CTX_FILL. -/
def execCtxFill (r : Request) (s : State) : Host.Outcome State Fault Refusal := opcode 0x0A09 false r s (ctxFillBody r)

/-- A fill writes the template to one context if it is in NONE, and notes whether one was not (R315). -/
def fillStep (h : Hot) (flags : Byte) (a : State × Bool) (n : Nat) : State × Bool :=
  let t := a.1.useHot n
  if t.2.state == ctxNone then (t.1.loadCtx n h flags false, a.2) else (t.1, true)

/-- The fill writes the template to every context of its range that is in NONE (R315). -/
def State.fillDone (s : State) (j : FillJob) : State :=
  let h := Hot.ofBits j.template
  let a := (List.range j.count).foldl (fun a i => fillStep h j.flags a (j.first + i)) (s, false)
  ({ a.1 with flows := { a.1.flows with fill := none } }).cmdDone j.issuer (if a.2 then .inconsistent else .ok)

/-- The fill completes (R315). -/
def execCtxFillDone (s : State) : Host.Outcome State Fault Refusal :=
  event s fun s =>
    match s.flows.fill with
    | none => s
    | some j => s.fillDone j

/-! ## CTX_READ (R316) -/

/-- Add drop deltas held on the hub to a cold word (R291). -/
def withDeltas (d : BitVec 128) (a b : Nat) : BitVec 128 :=
  let x := (d.extractLsb' 80 48) + BitVec.ofNat 48 a
  let y := (d.extractLsb' 32 48) + BitVec.ofNat 48 b
  x ++ y ++ d.extractLsb' 0 32

/-- Address of a word of a context: 0 the hot part, 1 to 3 the cold part, 4 and 5 the extended record (R354). -/
def partWord (n w : Nat) : Nat := if w < 4 then ctxWord n w else extWord n (w - 4)

/-- The OVF bits of a line, with those of drop counters that its deltas wrap (R289, R291, R488). -/
def State.ovfWith (s : State) (l : CacheLine) : Byte :=
  let wraps := fun (w o : Nat) (delta ovfBit : Nat) =>
    let wa := ctxWord l.ctx w
    let r := (s.word wa).read
    let old := if s.wordReady wa && r.usable then ((s.withMerge wa r).data.extractLsb' (80 - 8 * o) 48).toNat else 0
    bit (decide (delta != 0 && old + delta ≥ 2 ^ 48)) ovfBit
  l.ovf ||| byte (wraps 2 0 l.dState 2 + wraps 2 6 l.dQueue 3 + wraps 3 0 l.dVerify 4 + wraps 3 6 l.dReplay 5)

/-- One word of a context as CTX_READ gives it: from the line, or from memory with what the line holds back. -/
def State.ctxReadWord (s : State) (n w : Nat) : State × Option (BitVec 128 × Bool) :=
  match s.cachedLine n, w with
  | some l, 0 => (s, some (l.hot, l.hot == 0 && (s.word (ctxWord n 0)).kind == .fresh))
  | some l, 1 =>
    let c := { l with ovf := s.ovfWith l }.cold0
    (s, some (c, c == 0 && (s.word (ctxWord n 1)).kind == .fresh))
  | line, w =>
    let t := s.readWord (partWord n w) 4
    match t.2 with
    | none => t
    | some (d, f) =>
      let q := match line, w with
        | some l, 2 => (l.dState, l.dQueue)
        | some l, 3 => (l.dVerify, l.dReplay)
        | _, _ => (0, 0)
      (t.1, some (withDeltas d q.1 q.2, f && q == (0, 0)))

/-- Read several words of a context in order. -/
def State.ctxReadWords (s : State) (n : Nat) : List Nat → State × Option (List (BitVec 128) × Bool)
  | [] => (s, some ([], true))
  | w :: ws =>
    let t := s.ctxReadWord n w
    let u := t.1.ctxReadWords n ws
    match t.2, u.2 with
    | some (d, f), some (ds, g) => (u.1, some (d :: ds, f && g))
    | _, _ => (u.1, none)

/-- The hot part staged for a context under a token, over the active one (R316). -/
def State.stagedHot (s : State) (n : Nat) (hot : BitVec 128) : BitVec 128 :=
  s.flows.staged.foldl (fun h x => match x.op with
    | .rekey e => if entryCtx e == n then
        ({ Hot.ofBits h with ks := u16 e 4, an := (u8 e 6).setWidth 2, pn := u64 e 8 } : Hot).bits else h
    | .load e | .reload e => if entryCtx e == n then
        ({ Hot.ofBits (entryHot e) with kgen := (Hot.ofBits h).kgen } : Hot).bits else h
    | .add _ | .delete _ => h) hot

/-- CTX_READ (R316).  PARTS = 0 asks for no part, and is answered with none (R4). -/
def ctxReadBody (r : Request) (s : State) : Answer :=
  let n := field r.params 0 4
  let parts := field r.params 4 1
  let copy := field r.params 5 1
  let words := (if parts % 2 == 1 then [0] else []) ++ (if parts / 2 % 2 == 1 then [1, 2, 3] else [])
    ++ (if parts / 4 == 1 then [4, 5] else [])
  guards [
    (badForm r 8 || parts > 7 || copy > 1 || !zeroAt r.params 6 2, .badParam),
    (n ≥ 1048576, .range),
    (!s.holdsCtx r.port n 1, .notTenant),
    (!words.all fun w => s.wordReady (partWord n w), .notReady)]
    (let t := s.ctxReadWords n words
     match t.2 with
     | none => .ok .poisoned [] t.1
     | some (ds, fresh) =>
       let ds := match ds with
         | d :: rest => if parts % 2 == 1 && copy == 1 then s.stagedHot n d :: rest else ds
         | [] => []
       .ok (if fresh && parts != 0 then .fresh else .ok)
         (beBytes 4 n ++ [byte parts, 0, 0, 0] ++ (ds.map fun d => be 16 d).flatten) t.1)

/-- CTX_READ. -/
def execCtxRead (r : Request) (s : State) : Host.Outcome State Fault Refusal := opcode 0x0A0A false r s (ctxReadBody r)

/-! ## SEAL_CONFIG (R318) -/

/-- The block of a MAC holds an ingress context with a suite, in any state but NONE (R318). -/
def State.blockSeals (s : State) (b : Nat) : Bool :=
  s.knownCtx.any fun n => n / 65536 == b && (let h := s.peekHot n; h.state != ctxNone && !h.dir && h.suite != 0)

/-- SEAL_CONFIG_WRITE (R318). -/
def sealConfigWriteBody (r : Request) (s : State) : Answer :=
  let mac := fun i => u48 r.params (16 + 8 * i)
  let macs := (List.range 16).map mac
  guards [
    (notPrincipal r, .notPrincipal),
    (badForm r 144 || !zeroAt r.params 4 4 || (List.range 16).any fun i => !zeroAt r.params (22 + 8 * i) 2, .badParam),
    ((macs.filter (· != 0)).eraseDups.length != (macs.filter (· != 0)).length, .inconsistent),
    ((List.range 16).any fun i => mac i != s.sciMac (65536 * i) && s.blockSeals i, .busy)]
    (.ok .ok [] { s with flows := { s.flows with sealing :=
      { limit32 := u32 r.params 0, limit64 := u64 r.params 8, macs := Vector.ofFn fun i => mac i.val } } })

/-- SEAL_CONFIG_WRITE. -/
def execSealConfigWrite (r : Request) (s : State) : Host.Outcome State Fault Refusal :=
  opcode 0x0A0D false r s (sealConfigWriteBody r)

/-- SEAL_CONFIG_READ (R318). -/
def sealConfigReadBody (r : Request) (s : State) : Answer :=
  let c := s.flows.sealing
  guards [(badForm r 0, .badParam)]
    (answer (be 4 c.limit32 ++ zeros 4 ++ be 8 c.limit64 ++ (c.macs.toList.map fun m => be 6 m ++ [0, 0]).flatten) s)

/-- SEAL_CONFIG_READ. -/
def execSealConfigRead (r : Request) (s : State) : Host.Outcome State Fault Refusal :=
  opcode 0x0A0E false r s (sealConfigReadBody r)

/-! ## GRACE_EXPIRY (R304) -/

/-- Grace entries taken 1,024 frames ago or earlier are freed. -/
def execGraceExpiry (s : State) : Host.Outcome State Fault Refusal :=
  event s fun s => { s with flows := { s.flows with
    grace := s.flows.grace.filter fun g => g.lives s.moduleTime } }

end Sys2Proof.Machine
end

