-- ==== Sys2Proof/Machine/Accounts.lean ====
section
/-! DEFINITION. Slot accounting and frame tagging as the data path drives them (spec/19_counters_tracing.md, R490 to
R493). -/

namespace Sys2Proof.Machine

/-! ## Slot accounting (R490) -/

/-- The counter of a tile class: 0 retired, 1 wasted, 2 starved.back, 3 starved.front. -/
def tileKind : Nat → CounterKind
  | 0 => .slotRetired | 1 => .slotWasted | 2 => .slotStarvedBack | _ => .slotStarvedFront

/-- Engine `e` is the higher member of a running Twin pair (R28). -/
def State.twinHigher (s : State) (e : Eng) : Bool := e.val % 2 == 1 && (s.eng e).params.active.isTwin
/-- Engine `e` is the lower member of a running Twin pair (R28). -/
def State.twinLower (s : State) (e : Eng) : Bool := e.val % 2 == 0 && (s.eng e).params.active.isTwin

/-- The engine's slot counters count: not on the higher Twin member, nor while OXB_SRC is not 0b00 (R490). -/
def State.slotsCount (s : State) (e : Eng) : Bool :=
  !s.twinHigher e && !((s.eng e).params.active.oxbow && (s.eng e).params.active.oxbSrc != 0)

/-- Class `n` tiles of an engine and direction. -/
def State.countTiles (s : State) (e : Eng) (d : Dir) (cls n : Nat) : State :=
  if s.slotsCount e then s.count (tileKind cls) (2 * e.val + (match d with | .ingress => 0 | .egress => 1)) n else s

/-- Settle the egress tiles of a port that no open record touches, but for the tile `keep` that is still parsed. -/
def State.settleTiles (s : State) (c : Cp) (keep : Option Nat) : State :=
  let ripe := (s.cport c).tiles.filter fun t => t.waits == 0 && some t.id ≠ keep
  let s := s.updCport c fun p => { p with tiles := p.tiles.filter fun t => !(t.waits == 0 && some t.id ≠ keep) }
  ripe.foldl (fun s t => s.countTiles t.engine .egress t.cls 1) s

/-- A record that touches tiles meets its fate: each tile takes the first class that applies. -/
def State.fateTiles (s : State) (c : Cp) (ids : List Nat) (cls : Nat) (keep : Option Nat) : State :=
  (s.updCport c fun p => { p with tiles := p.tiles.map fun t =>
    if (ids.contains t.id) then { t with cls := min t.cls cls, waits := t.waits - 1 } else t }).settleTiles c keep

/-- The engine of a formed port. -/
def State.portEngine (s : State) (c : Cp) : Eng := engOf (s.cport c).params.active.form.engine

/-! ## Tagging (R491 to R493) -/

/-- Instance of the engine-and-direction counters of a port. -/
def State.portDir (s : State) (c : Cp) (d : Dir) : Nat :=
  2 * (s.cport c).params.active.form.engine + (match d with | .ingress => 0 | .egress => 1)

/-- Select a unit for tagging: at random with probability 2^−TAGEXP, and suppressed within 10 ns of the last tagged
unit of its direction.  Both outcomes are free values; the second only where module time leaves it open (R491,
log 5). -/
def State.selectTag (s : State) (c : Cp) (d : Dir) (len : Nat) (t1 : BitVec 48) : State × Option TagMark :=
  let t := s.collector.tag
  let exp := (match d with | .ingress => t.expIn | .egress => t.expEg).toNat
  if exp == 0 then (s, none)
  else
    let chosen := s.free % 2 ^ exp == 0
    let s := s.skip
    if !chosen then (s, none)
    else
      let last := match d with | .ingress => s.collector.tagLast.1 | .egress => s.collector.tagLast.2
      let near := match last with | some m => (s.moduleTime - m).toNat ≤ 1 | none => false
      let tooSoon := near && s.free % 2 == 1
      let s := s.skip
      if tooSoon then (s.count .tagSuppressed (s.portDir c d) 1, none)
      else
        let now := some s.moduleTime
        let s := { s with collector := { s.collector with
          tagLast := match d with
            | .ingress => (now, s.collector.tagLast.2)
            | .egress => (s.collector.tagLast.1, now) } }
        (s.count .tagFrames (s.portDir c d) 1, some { t1 := t1, len := len })

/-- Write an entry to the tag log (R493). -/
def State.logTag (s : State) (x : TagEntry) : State :=
  let c := s.collector
  if c.log.length ≥ 4096 then
    { s with collector := { c with
      log := if c.tag.logStop then c.log else c.log.drop 1 ++ [x], logLost := bump c.logLost } }
  else
    let s := { s with collector := { c with log := c.log ++ [x] } }
    if s.collector.log.length == 4096 && !c.logFull then
      ({ s with collector := { s.collector with logFull := true } }).raise 0x1201 .module
        (be 4 c.logLost ++ [byte (bit c.tag.logStop 0)])
    else s

/-- The least time that lies between instants in two MFC periods, in 0.625 ns (R15, R493). -/
def leastWait (a b : BitVec 48) : Nat := (b - a).toNat * 262144 / 1000 - 262

/-- Times from T1 to the entries of the listed stages, `d` being that of the stage before and `at_` the last known entry:
each step is a free value, and covers the ticks waited where the entry is known. -/
def TagMark.times (m : TagMark) (free : Nat → Nat) : List Nat → Nat → BitVec 48 → List Nat
  | [], _, _ => []
  | i :: is, d, at_ =>
    let r := match m.stamps.find? fun x => x.1 == i with
      | some (_, t) => (max (d + max (free i) (leastWait at_ t)) (leastWait m.t1 t), t)
      | none => (d + free i, at_)
    r.1 :: TagMark.times m free is r.1 r.2

/-- Times D2 to D8 of an entry, in 0.625 ns: how long a unit takes within a tick from stage to stage is not stated, so
that is a free value; the times rise from stage to stage and cover the ticks that the unit has waited, and those after a
drop are all ones (R11, R493, log 5). -/
def State.tagTimes (s : State) (m : TagMark) (drop : Nat) : List Nat :=
  let last := if drop == 0 then 8 else drop
  (m.times (fun i => Config.freeValue (s.fresh + i - 2)) [2, 3, 4, 5, 6, 7, 8] 0 m.t1).zipIdx.map fun x =>
    if x.2 + 2 > last then 0xFFFFFFFF else min 0xFFFFFFFE x.1

/-- The 48 bytes of R493.  A unit dropped before it was classified has no stated CLASS and CTX: they are free. -/
def State.tagBytes (s : State) (m : TagMark) (c : Cp) (d : Dir) (native : Bool) (drop : Nat) : Bytes :=
  let e := (s.cport c).params.active.form.engine
  let pair := (s.eng (engOf e)).params.active.isTwin
  let cls := match m.cls with | some (k, _) => k | none => Config.freeValue (s.fresh + 7) % 8
  let ctx := if native then 0xFFFFFFFF else match m.cls with
    | some (_, n) => n | none => Config.freeValue (s.fresh + 8)
  [match d with | .ingress => 0 | .egress => 1, byte c.val, byte cls,
   byte (bit (drop != 0) 0 + bit m.secured 1 + bit m.miss 2 + bit native 3 + bit pair 4)]
  ++ beBytes 4 ctx ++ beBytes 2 m.len ++ [byte e, byte drop] ++ be 6 m.t1
  ++ beBytes 2 (Config.freeValue (s.fresh + 9) % 263) ++ ((s.tagTimes m drop).map (beBytes 4)).flatten

/-- Histogram bin of R492: `d8` in 0.625 ns, BINW in 10 ns, 0 meaning 5. -/
def tagBin (binw : Byte) (d8 : Nat) : Nat := min 63 (d8 / (16 * (if binw == 0 then 5 else binw.toNat)))

/-- A tagged unit reaches stage 8, or is dropped at a stage: log, and histogram where it has reached stage 8 (R491 to
R493). -/
def State.finishTag (s : State) (mark : Option TagMark) (c : Cp) (d : Dir) (native : Bool) (drop : Nat) : State :=
  match mark with
  | none => s
  | some m =>
    let bytes := s.tagBytes m c d native drop
    let d8 := (s.tagTimes m drop).getD 6 0
    let cls := match m.cls with | some (k, _) => k | none => 0
    let s := { s with fresh := s.fresh + 10 }
    let s := s.logTag { port := c, bytes := bytes }
    if drop == 0 || drop == 8 then
      s.count .tagHist ((match d with | .ingress => 0 | .egress => 512) + 64 * cls + tagBin s.collector.tag.binw d8) 1
    else s

end Sys2Proof.Machine
end

