-- ==== Sys2Proof/Machine/Sealing.lean ====
section
/-! DEFINITION. IEEE 802.1AE sealing and unsealing as R299 to R304 bind them; what the standard itself adds is
PRESUMED (log 6). -/

namespace Sys2Proof.Machine

/-- Two-byte number at an offset. -/
def etherType (f : Bytes) (o : Nat) : Nat := field f o 2

/-- The frame carries a SecTAG: EtherType 0x88E5 after the source address (R285). -/
def hasSecTag (f : Bytes) : Bool := etherType f 12 == 0x88E5

/-- The frame check sequence, as the four bytes on the wire: least significant byte first (log 6). -/
def fcsBytes (body : Bytes) : Bytes := (be 4 (crc32 body)).reverse

/-- A client frame's FCS agrees. -/
def fcsOk (f : Bytes) : Bool := f.length ≥ 4 && f.drop (f.length - 4) == fcsBytes (f.take (f.length - 4))

/-- The frame without its FCS. -/
def withoutFcs (f : Bytes) : Bytes := f.take (f.length - 4)

/-- The SecTAG of R299: TCI with V = ES = SCB = 0, E = C = CONF; SL is the length of the secure data when below 48. -/
def secTag (h : Hot) (pn sci secure : Nat) : Bytes :=
  [0x88, 0xE5, byte (bit h.sc 5 + (if h.conf then 12 else 0) + h.an.toNat), byte (if secure < 48 then secure else 0)]
    ++ beBytes 4 (pn % 2 ^ 32) ++ (if h.sc then beBytes 8 sci else [])

/-- The 12-byte nonce: SCI and PN, or for an XPN suite the salt under SSCI and PN (R300, log 6). -/
def gcmNonce (suite : BitVec 3) (salt : Bytes) (sci ssci pn : Nat) : Bytes :=
  if isXpn suite then xorBytes salt (beBytes 4 ssci ++ beBytes 8 pn) else beBytes 8 sci ++ beBytes 4 pn

/-- Protected data under GCM: what follows the SecTAG, and the ICV (R299, R324). -/
def protect (key nonce head data : Bytes) (conf : Bool) : Bytes :=
  if conf then
    let ct := gcmCtr key nonce data
    ct ++ gcmTag key nonce head ct
  else data ++ gcmTag key nonce (head ++ data) []

/-- Seal a frame (R299, R300). -/
def sealFrame (k : KeyValue) (h : Hot) (pn sci ssci : Nat) (f : Bytes) : Bytes :=
  let body := withoutFcs f
  let data := body.drop 12
  let head := body.take 12 ++ secTag h pn sci data.length
  let out := head ++ protect k.key (gcmNonce h.suite k.salt sci ssci pn) head data h.conf
  out ++ fcsBytes out

/-- The fields of a received SecTAG. -/
structure SecFrame where
  /-- addresses and SecTAG -/
  head : Bytes
  secure : Bytes
  icv : Bytes
  enc : Bool
  an : BitVec 2
  low : Nat
  /-- the SCI, where it is carried -/
  sci : Option Nat
  deriving DecidableEq, Repr

/-- Read a SecTAG, where it is valid: V = 0, no ES or SCB beside SC, E = C, SL agreeing with the secure data, and a PN
other than 0 outside the XPN suites (R303, log 6). -/
def readSecTag (xpn : Bool) (f : Bytes) : Option SecFrame :=
  let tci := u8 f 14
  let sl := field f 15 1
  let sc := tci.getLsbD 5
  let n := if sc then 28 else 20
  let body := withoutFcs f
  let rest := body.drop n
  let secure := rest.take (rest.length - 16)
  let low := field f 16 4
  if body.length < n + 16 || tci.getLsbD 7 || (sc && (tci.getLsbD 6 || tci.getLsbD 4))
      || tci.getLsbD 3 != tci.getLsbD 2 || sl ≥ 48 || (sl != 0 && sl != secure.length) || (sl == 0 && secure.length < 48)
      || (!xpn && low == 0) then none
  else
    let r : SecFrame := { head := body.take n, secure := secure, icv := rest.drop (rest.length - 16),
                          enc := tci.getLsbD 3, an := tci.setWidth 2, low := low, sci := if sc then some (field f 20 8) else none }
    some r

/-- Verify under one key: the data in clear, or nothing where the ICV fails. -/
def SecFrame.open_ (x : SecFrame) (suite : BitVec 3) (k : KeyValue) (sci ssci pn : Nat) : Option Bytes :=
  let nonce := gcmNonce suite k.salt sci ssci pn
  let tag := if x.enc then gcmTag k.key nonce x.head x.secure else gcmTag k.key nonce (x.head ++ x.secure) []
  if tag == x.icv then some (if x.enc then gcmCtr k.key nonce x.secure else x.secure) else none

/-- The frame as the client sees it: without SecTAG and ICV, with a new FCS (R303). -/
def SecFrame.client (x : SecFrame) (data : Bytes) : Bytes :=
  let body := x.head.take 12 ++ data
  body ++ fcsBytes body

/-- Replay window of a REPLAY code, none without a check (R289). -/
def replayWindow (code : BitVec 5) : Option Nat :=
  if code == 0 then none else if code == 1 then some 0 else some (2 ^ (code.toNat - 2))

/-- Recover a packet number from its low 32 bits: for XPN the upper half of the lowest acceptable PN, one higher when
its low half's top bit is set and the received one's is not (R303, log 6). -/
def recoverPn (xpn : Bool) (next window low : Nat) : Nat :=
  if !xpn then low
  else
    let base := next - window
    let hi := base / 2 ^ 32
    (if base % 2 ^ 32 ≥ 2 ^ 31 && low < 2 ^ 31 then hi + 1 else hi) % 2 ^ 32 * 2 ^ 32 + low

/-- AES blocks of a frame with `n` bytes of protected data: keystream where it is enciphered, and the tag mask. -/
def gcmBlocks (n : Nat) (enc : Bool) : Nat := (if enc then (n + 15) / 16 else 0) + 1

/-- GHASH multiplications of a frame with `n` bytes of protected data after `head` bytes of address and SecTAG: a block
each of what is authenticated only and of what is enciphered, and the one of the lengths (R320, R324). -/
def ghashCount (head n : Nat) (enc : Bool) : Nat :=
  (if enc then (head + 15) / 16 + (n + 15) / 16 else (head + n + 15) / 16) + 1

/-- The requests of a frame: 256 bytes a request, with 16 blocks and multiplications each; the tag mask and what else the
tag needs with the last one (R321). -/
def frameJobs (head n : Nat) (enc : Bool) (rounds : Nat) : List Job :=
  let whole := (n - 1) / 256
  List.replicate whole { rounds := if enc then 16 * rounds else 0, ghash := 16 }
    ++ [{ rounds := gcmBlocks (n - 256 * whole) enc * rounds, ghash := ghashCount head n enc - 16 * whole }]

end Sys2Proof.Machine
end

