-- ==== Sys2Proof/Machine/TimeOps.lean ====
section
/-! DEFINITION. The time scales: domains, their servos and steps, the output time, and how timed pulses and AT_TIME
commits follow a step (spec/15_network_time.md, R400 to R406, R412, R413; spec/04_sluice_commits.md, R86). -/

namespace Sys2Proof.Machine

/-! ## Counters (R400) -/

/-- Units of a domain's counter in 2^−16 ns. -/
def unitsPerFrac : Nat := 25 * 2 ^ 20
/-- Units in one ns. -/
def unitsPerNs : Nat := 25 * 2 ^ 36
/-- Units in one second. -/
def unitsPerSec : Nat := 1000000000 * unitsPerNs
/-- A domain's counter wraps after 2^48 seconds. -/
def domainWrap : Nat := 2 ^ 48 * unitsPerSec

/-- A time in the units of the counters, cut to the counter. -/
def wrapTime (t : Int) : Nat := (t % (domainWrap : Int)).toNat

/-- Units that a domain advances in one MFC period of 4,096 / 25 ns (R400). -/
def Domain.perTick (d : Domain) : Int := 2 ^ 48 + d.freq

/-- Domain `d`, 0 TDA and 1 TDB. -/
def State.domain (s : State) (d : Fin 2) : Domain := s.time.td[d]
/-- Change a domain. -/
def State.updDomain (s : State) (d : Fin 2) (f : Domain → Domain) : State :=
  { s with time := { s.time with td := s.time.td.set d (f s.time.td[d]) } }
/-- Settings of a domain. -/
def State.tdBlock (s : State) (d : Fin 2) : TdBlock := s.time.config.active.td[d]

/-- Code of a domain: 1 TDA, 2 TDB. -/
def tdCode (d : Fin 2) : Byte := byte (d.val + 1)

/-- The domain of a code, if it names one. -/
def tdOf (code : Byte) : Option (Fin 2) := if code == 1 then some 0 else if code == 2 then some 1 else none

/-- A domain's time `off` 2^−16 ns of timebase after now (R400). -/
def Domain.at_ (d : Domain) (off : Int) : Nat := wrapTime ((d.time : Int) + off * unitsPerFrac * d.perTick / 2 ^ 48)

/-- Whole 2^−16 ns of a time. -/
def fracsOf (t : Nat) : Nat := t / unitsPerFrac
/-- Seconds of a time. -/
def secOf (t : Nat) : Nat := t / unitsPerSec
/-- Nanoseconds of a time. -/
def nsOf (t : Nat) : Nat := t % unitsPerSec / unitsPerNs
/-- 2^−16 ns of a time. -/
def fracOf (t : Nat) : Nat := t % unitsPerNs / unitsPerFrac
/-- A time from seconds and nanoseconds. -/
def timeOf (sec ns : Nat) : Nat := sec * unitsPerSec + ns * unitsPerNs

/-! ## Output time (R403) -/

/-- The domain that the output time follows. -/
def State.outDomain (s : State) : Option (Fin 2) := tdOf s.time.config.active.outSrc

/-- The output time, none while it is undefined. -/
def State.outputTime (s : State) : Option Nat :=
  s.outDomain.map fun d => wrapTime ((s.domain d).time + s.time.outOffset)

/-- The time of a TPO's TIMESCALE, none while it is undefined: 1 TDA, 2 TDB, 3 output time (R412, R423). -/
def State.scaleTime (s : State) (scale : Byte) : Option Nat :=
  match tdOf scale with
  | some d => some (s.domain d).time
  | none => if scale == 3 then s.outputTime else none

/-- Time of edge `k` of a schedule (R412). -/
def Tpo.edge (t : Tpo) (k : Nat) : Nat := timeOf t.startSec.toNat t.startNs.toNat + k * t.period.toNat * unitsPerNs

/-- A schedule still has edges to emit. -/
def Tpo.live (t : Tpo) : Bool := t.state == .armed || t.state == .running

/-- Edges of a schedule that lie before or at a time: those whose number is below this. -/
def Tpo.edgesUpTo (t : Tpo) (time : Nat) : Nat :=
  let start := timeOf t.startSec.toNat t.startNs.toNat
  if time < start then 0
  else if t.mode == 1 || t.period == 0 then 1
  else (time - start) / (t.period.toNat * unitsPerNs) + 1

/-- Change a TPO. -/
def State.updTpo (s : State) (n : Fin 4) (f : Tpo → Tpo) : State :=
  { s with time := { s.time with tpo := s.time.tpo.set n (f s.time.tpo[n]) } }

/-- A forward step of a schedule's time scale to `now` passes edges: they are counted as missed and reported once per
long interval.  A single pulse that is passed leaves the schedule done (R413, R425). -/
def State.tpoForward (s : State) (n : Fin 4) (now : Nat) : State :=
  let t := s.time.tpo[n]
  let upto := t.edgesUpTo now
  if upto ≤ t.next then s
  else
    let gone := upto - t.next
    let s := s.updTpo n fun t => { t with
      next := upto, missed := sat 16 (t.missed.toNat + gone), raised := true,
      state := if t.mode == 1 then .done else t.state }
    if t.raised then s else s.raise 0x0E07 (.tpo n.val) ([byte n.val, 0] ++ be 2 (sat 16 gone))

/-- A step of a domain moves the TPOs that run on it or, where the output time follows it, on the output time: a forward
step passes edges, and after a backward one a schedule resumes at the first edge after the last one emitted that still lies
ahead (R413, R417). -/
def State.tpoStep (s : State) (d : Fin 2) (amount : Int) : State :=
  (List.finRange 4).foldl (fun s n =>
    let t := s.time.tpo[n]
    let mine := t.live && (tdOf t.scale == some d || (t.scale == 3 && s.outDomain == some d))
    match s.scaleTime t.scale with
    | none => s
    | some now =>
      if !mine || amount == 0 then s
      else if amount > 0 then s.tpoForward n now
      else s.updTpo n fun t => { t with next := max t.resume (t.edgesUpTo now) }) s

/-- AT_TIME commits whose target a forward step of TDA has passed execute at the next boundary, late by the frames that
TDA time will then have gone past the target (R86). -/
def State.lateCommits (s : State) (old new : Nat) : State :=
  { s with commits := s.commits.map fun c =>
      let target := timeOf c.targetTime.1.toNat c.targetTime.2.toNat
      if c.trigger == 3 && c.dueTick.isNone && old < target && target ≤ new then
        { c with dueTick := some (s.moduleTime + 1), late := some (sat 32 ((new - target) / 2 ^ 48 + 1)) }
      else c }

/-- Step a domain by an amount in its units, with time.stepped (R405, R413, R417, R420, R425). -/
def State.stepDomain (s : State) (d : Fin 2) (amount : Int) (cause : Byte) : State :=
  let old := (s.domain d).time
  let s := s.updDomain d fun x => { x with time := wrapTime (x.time + amount) }
  let new := (s.domain d).time
  let s := if d == 0 && amount > 0 then s.lateCommits old new else s
  let s := s.raise 0x0E03 .module ([tdCode d, cause] ++ be 4 (satInt 32 (amount.tdiv unitsPerNs)))
  s.tpoStep d amount

/-! ## Advance at an MFC tick -/

/-- OUT_OFFSET moves toward zero at SLEW_RATE ns/s while it slews: so much in one MFC period (R403). -/
def TdConfig.slewStep (c : TdConfig) : Nat := (if c.slewRate == 0 then 50 else c.slewRate.toNat) * 2 ^ 48 / 1000000000

/-- A number brought toward zero by at most `n`. -/
def towardZero (i : Int) (n : Nat) : Int := if i ≥ 0 then max 0 (i - n) else min 0 (i + n)

/-- Every domain advances by one MFC period, and a slewing output time with it, until OUT_OFFSET is zero (R400, R403). -/
def State.advanceTime (s : State) : State :=
  let t := s.time
  let off := if t.slewing then towardZero t.outOffset t.config.active.slewStep else t.outOffset
  { s with time := { t with
      td := t.td.map fun d => { d with time := wrapTime (d.time + d.perTick) },
      outOffset := off, slewing := t.slewing && off != 0 } }

/-- Servo steps due at an MFC boundary (R405). -/
def State.servoSteps (s : State) : State :=
  (List.finRange 2).foldl (fun s d =>
    match (s.domain d).stepDue with
    | none => s
    | some a => (s.updDomain d fun x => { x with stepDue := none }).stepDomain d (a * unitsPerFrac) 1) s

/-! ## The servo (R404 to R406) -/

/-- Largest frequency offset, ±100 ppm, in 2^−48 (R400). -/
def maxFreq : Nat := 28147497671

/-- Headwater has the domain selected, which freezes its frequency offset (R406). -/
def State.steersHeadwater (s : State) (d : Fin 2) : Bool := s.hw.selected == byte (13 + d.val)

/-- LOCK_WIN in 2^−16 ns. -/
def TdBlock.window (b : TdBlock) : Int := (if b.lockWin == 0 then 100 else 10 * b.lockWin.toNat) * 65536

/-- The mean path delay, once there is one. -/
def Domain.path (d : Domain) : Option Int := if d.paths.isEmpty then none else some (d.paths.sum / d.paths.length)

/-- ps of a time in 2^−16 ns. -/
def psOf (t : Int) : Int := t * 1000 / 65536

/-- BW in mHz (R419). -/
def TdBlock.bandwidth (b : TdBlock) : Nat :=
  match b.bw.toNat with
  | 1 => 10 | 2 => 50 | 4 => 500 | 5 => 1000 | _ => 100

/-- A usable Sync with its offset drives the state machine and the frequency offset.  The gains and the filter of the
loop are not stated, so the new frequency offset within ±100 ppm and the filtered offset are free (R404, R405, R406,
log 16). -/
def State.servoOffset (s : State) (d : Fin 2) (off : Int) : State :=
  let b := s.tdBlock d
  let f : Int := max (-maxFreq) (min maxFreq (Config.servoLoop b.bandwidth off (s.domain d).freq s.fresh))
  let filtered := BitVec.ofNat 32 (Config.freeValue (s.fresh + 1))
  let frozen := s.steersHeadwater d
  let s := { s with fresh := s.fresh + 2 }
  let s := s.updDomain d fun x => { x with freq := if frozen then x.freq else f, offset := filtered }
  let near := off.natAbs ≤ b.window.natAbs
  match (s.domain d).mode with
  | .acquiring =>
    if b.stepThr != 0 && off.natAbs > b.stepThr.toNat * 100 * 65536 then
      s.updDomain d fun x => { x with stepDue := some (-off), near := 0 }
    else if !near then s.updDomain d fun x => { x with near := 0 }
    else if (s.domain d).near + 1 ≥ 16 then
      (s.updDomain d fun x => { x with mode := .locked, everLocked := true, near := 0, far := 0 }).raise 0x0E01 .module
        ([tdCode d, 0] ++ be 4 (satInt 32 (psOf off)))
    else s.updDomain d fun x => { x with near := x.near + 1 }
  | .locked =>
    if off.natAbs ≤ 4 * b.window.natAbs then s.updDomain d fun x => { x with far := 0 }
    else if (s.domain d).far + 1 ≥ 8 then
      (s.updDomain d fun x => { x with mode := .holdover, near := 0, far := 0 }).raise 0x0E02 .module [tdCode d, 2]
    else s.updDomain d fun x => { x with far := x.far + 1 }
  | .unset | .free | .holdover => s

/-- A Sync has both its times: it is usable.  HOLDOVER ends, and the offset is formed once a path delay exists (R404,
R405). -/
def State.servoSync (s : State) (d : Fin 2) (x : SyncStamp) : State :=
  let s := s.updDomain d fun y => { y with
    syncs := y.syncs + 1, last := some x, waiting := none, near := if y.mode == .holdover then 0 else y.near,
    mode := if y.mode == .holdover then .acquiring else y.mode }
  match (s.domain d).path with
  | none => s
  | some p => s.servoOffset d (x.t2 - x.t1 - x.correction - p)

/-- A Delay_Resp that matches a stamped Delay_Req completes an exchange with the last Sync: D of R404. -/
def State.servoDelay (s : State) (d : Fin 2) (seq : BitVec 16) (t4 correction : Int) : State :=
  match (s.domain d).last, (s.domain d).requests.find? fun r => r.1 == seq with
  | some x, some r =>
    let delay := ((x.t2 - x.t1 - x.correction) + (t4 - r.2 - correction)) / 2
    s.updDomain d fun y => { y with paths := (delay :: y.paths).take 16 }
  | _, _ => s

/-- No usable Sync for 3 s (R405). -/
def execSyncLossTimeout (d : Fin 2) (s : State) : Host.Outcome State Fault Refusal :=
  eventIf s ((s.domain d).mode == .locked) fun s =>
    (s.updDomain d fun x => { x with mode := .holdover, near := 0, far := 0 }).raise 0x0E02 .module [tdCode d, 1]

/-! ## Commit of class TIME (R403, R405) -/

/-- The servo follows another master than before. -/
def TdBlock.moved (a b : TdBlock) : Bool :=
  a.mode != b.mode || a.number != b.number || a.port != b.port || a.side != b.side || a.master != b.master
    || a.slave != b.slave

/-- What a commit of MODE does to a domain (R405).  What was measured of another master is forgotten. -/
def State.modeCommit (s : State) (d : Fin 2) (old : TdBlock) : State :=
  let s := if old.moved (s.tdBlock d) then s.updDomain d fun y => { y with
      near := 0, far := 0, waiting := none, last := none, requests := [], paths := [] } else s
  let x := s.domain d
  if (s.tdBlock d).mode == 1 then
    match x.mode with
    | .unset | .free | .holdover => s.updDomain d fun y => { y with mode := .acquiring, near := 0, far := 0 }
    | .acquiring | .locked => s
  else
    match x.mode with
    | .acquiring | .holdover => s.updDomain d fun y => { y with mode := .free, everLocked := true }
    | .locked =>
      (s.updDomain d fun y => { y with mode := .free, everLocked := true }).raise 0x0E02 .module [tdCode d, 3]
    | .unset | .free => s

/-- TPOs on the output time stop as if turned off where it is undefined (R403). -/
def State.stopOutputTpos (s : State) : State :=
  { s with time := { s.time with tpo := s.time.tpo.map fun t =>
      if t.scale == 3 then { t with mode := 0, state := .off } else t } }

/-- OUT_OFFSET in whole ns, toward zero. -/
def State.outOffsetNs (s : State) : Int := s.time.outOffset.tdiv unitsPerNs

/-- The output time has a new source from the commit on: the offset that keeps what it showed before (R405). -/
def State.outSrcCommit (s : State) (before : Option Nat) (new : TdConfig) : State :=
  let off : Int := match before, s.outDomain with
    | some t, some d => (t : Int) - (s.domain d).time
    | _, _ => 0
  let s := { s with time := { s.time with outOffset := off } }
  let s := if new.outSrc == 0 then s.stopOutputTpos else s
  s.raise 0x0E04 .module ([new.outSrc, new.switch] ++ be 4 (satInt 32 s.outOffsetNs))

/-- A commit of class TIME reaches its boundary. -/
def State.timeCommit (s : State) : State :=
  let before := s.outputTime
  let old := s.time.config.active
  let new := s.time.config.staged
  let s := { s with time := { s.time with config := { s.time.config with active := new } } }
  let s := (List.finRange 2).foldl (fun s d => s.modeCommit d old.td[d]) s
  let s := if old.outSrc == new.outSrc then s else s.outSrcCommit before new
  { s with time := { s.time with slewing := new.outSrc != 0 && new.switch == 1 && s.time.outOffset != 0 } }

end Sys2Proof.Machine
end

