-- ==== Sys2Proof/Machine/Ptp.lean ====
section
/-! DEFINITION. PTP messages that cross an Ethernet port: one-step times, the transparent clock, the timestamp log and
the servos' stamps (spec/15_network_time.md, R404, R407 to R411).  Offsets of fields within a PTP message are those of
IEEE 1588, PRESUMED (log 6). -/

namespace Sys2Proof.Machine

/-- Instants of a message from now, in 2^−16 ns of the timebase: at the CI or CO plane, and at the line plane. -/
structure Instants where
  client : Int
  line : Int
  deriving DecidableEq, Repr

/-- Where the PTP header starts: EtherType 0x88F7 after the source address or after one or two VLAN tags, versionPTP 2
(R408). -/
def ptpAt (f : Bytes) : Option Nat :=
  let vlan := fun (o : Nat) => etherType f o == 0x8100 || etherType f o == 0x88A8
  let o := if vlan 12 then (if vlan 16 then 20 else 16) else 12
  if etherType f o == 0x88F7 && (u8 f (o + 3)).toNat % 16 == 2 && f.length ≥ o + 40 then some (o + 2) else none

/-- messageType. -/
def ptpType (f : Bytes) (o : Nat) : Nat := field f o 1 % 16

/-- The message carries a timestamp field. -/
def ptpStamped (f : Bytes) (o : Nat) : Bool := f.length ≥ o + 48

/-- An event message (R408). -/
def isPtpEvent (f : Bytes) : Bool := match ptpAt f with | some o => ptpType f o < 4 | none => false

/-- correctionField, signed, in 2^−16 ns. -/
def ptpCorrection (f : Bytes) (o : Nat) : Int := (u64 f (o + 8)).toInt

/-- The timestamp field after the header, in 2^−16 ns. -/
def ptpTime (f : Bytes) (o : Nat) : Int := (field f (o + 34) 6 * 1000000000 + field f (o + 40) 4 : Nat) * 65536

/-- Replace bytes of a frame. -/
def patch (f : Bytes) (o : Nat) (b : Bytes) : Bytes := f.take o ++ b ++ f.drop (o + b.length)

/-- A changed frame with its FCS recomputed (R408). -/
def refcs (f : Bytes) : Bytes := withoutFcs f ++ fcsBytes (withoutFcs f)

/-- The correctionField with a number added, wrapping. -/
def addCorrection (f : Bytes) (o : Nat) (add : Int) : Bytes :=
  patch f (o + 8) (be 8 (u64 f (o + 8) + BitVec.ofInt 64 add))

/-- A Sync is given its departure time: seconds and nanoseconds to originTimestamp, the fraction to correctionField
(R409). -/
def oneStep (f : Bytes) (o : Nat) (t : Nat) : Bytes :=
  addCorrection (patch f (o + 34) (beBytes 6 (secOf t) ++ beBytes 4 (nsOf t))) o (fracOf t)

/-- A Sync that ONE_STEP stamps: twoStepFlag 0 and an all-zero originTimestamp. -/
def wantsOneStep (f : Bytes) (o : Nat) : Bool :=
  ptpType f o == 0 && ptpStamped f o && !(u8 f (o + 6)).getLsbD 1 && zeroAt f (o + 34) 10

/-- Whole quarter nanoseconds of a time (R410). -/
def quartersOf (t : Nat) : Nat := t / (unitsPerNs / 4)

/-- LTS domain of an engine (R419). -/
def State.ltsDomain (s : State) (e : Eng) : Option (Fin 2) :=
  tdOf (byte (s.time.config.active.lts.toNat / 4 ^ e.val % 4))

/-- The engine whose line planes a port uses: the serving one, or the selected member of a Twin pair (R404, R410). -/
def State.lineEngine (s : State) (c : Cp) : Eng :=
  let e := s.portEngine c
  if (s.eng e).params.active.isTwin && (s.eng e).twin.selected == 2 then engOf (e.val + 1) else e

/-- θ of an engine, once 64 frames have been averaged, in 2^−16 ns (R410). -/
def State.thetaOf (s : State) (e : Eng) : Option Int :=
  let l := (s.eng e).deframer.theta
  if l.length ≥ 64 then some ((l.take 64).sum / 64) else none

/-- Egress end of the transparent clock: the residence added, and bytes 16 to 19 zero (R410). -/
def residence (f : Bytes) (o : Nat) (t : Nat) : Bytes :=
  let stored := (field f (o + 16) 4 : Int)
  let add := ((quartersOf t : Int) - stored) % 4000000000
  patch (addCorrection f o (add * 2 ^ 14)) (o + 16) [0, 0, 0, 0]

/-- Log an event message (R411). -/
def State.logPtp (s : State) (x : TsEntry) : State :=
  { s with time := if s.time.log.length ≥ 256 then { s.time with logLost := bump s.time.logLost }
                   else { s.time with log := s.time.log ++ [x] } }

/-- A message passes without residence (R410, R425). -/
def State.unmeasured (s : State) (c : Cp) : State :=
  let s := s.count .timeTcUnmeasured c.val 1
  { s with time := { s.time with unmeasured := writeAt 0 s.time.unmeasured c.val (readAt 0 s.time.unmeasured c.val + 1) } }

/-- Logging of an event message at the CI or CO plane (R411). -/
def State.stampLog (s : State) (d : Dir) (c : Cp) (f : Bytes) (o : Nat) (i : Instants) : State :=
  let p := ((s.cport c).sideOf (dirSide d)).2
  let on := match d with | .ingress => p.flags.getLsbD 3 | .egress => p.flags.getLsbD 4
  match tdOf p.tsDomain with
  | some td =>
    if !on then s
    else s.logPtp {
      port := c, type := byte (16 * ptpType f o + (match d with | .ingress => 0 | .egress => 1)),
      seq := u16 f (o + 30), number := u8 f (o + 4), domain := p.tsDomain,
      time := fracsOf ((s.domain td).at_ i.client) }
  | none => s

/-- The transparent clock and one-step writing of one event message (R409, R410). -/
def State.rewritePtp (s : State) (d : Dir) (c : Cp) (f : Bytes) (o : Nat) (i : Instants) : State × Bytes :=
  let p := ((s.cport c).sideOf (dirSide d)).2
  let e := s.lineEngine c
  let stampAt := fun (f : Bytes) (bit_ : Nat) (off : Int) =>
    match tdOf p.tsDomain with
    | some td => if p.flags.getLsbD bit_ && wantsOneStep f o then oneStep f o ((s.domain td).at_ off) else f
    | none => f
  match d with
  | .ingress =>
    let f := if p.flags.getLsbD 0 then
        (match s.ltsDomain (s.portEngine c) with
        | some td => patch f (o + 16) (beBytes 4 (quartersOf ((s.domain td).at_ i.client) % 4000000000))
        | none => f)
      else f
    (s, stampAt f 1 i.line)
  | .egress =>
    let r := if p.flags.getLsbD 0 then
        (match s.ltsDomain e, s.thetaOf e with
        | some td, some th =>
          (s, residence f o (wrapTime (((s.domain td).at_ i.client : Int) + th * unitsPerFrac)))
        | _, _ => (s.unmeasured c, patch f (o + 16) [0, 0, 0, 0]))
      else (s, f)
    (r.1, stampAt r.2 2 i.client)

/-- What one domain's servo takes from a message: the Sync on its side, the Follow_Up, the Delay_Req that it stamps and
the Delay_Resp (R404).  For a two-step Sync the corrections of Sync and Follow_Up add. -/
def State.servoMessage (s : State) (td : Fin 2) (d : Dir) (c : Cp) (f : Bytes) (o : Nat) (i : Instants) : State :=
  let b := s.tdBlock td
  let x := s.domain td
  let from_ := fun (id : Bytes) => slice f (o + 20) 10 == id
  let inward := match d with | .egress => b.side == 0 | .ingress => b.side == 1
  let on := b.mode == 1 && b.port.toNat == c.val && (u8 f (o + 4)) == b.number && ptpStamped f o
  let seq := u16 f (o + 30)
  let stamp := fun (off : Int) => (fracsOf (x.at_ off) : Int)
  if !on then s
  else if inward && ptpType f o == 0 && from_ b.master then
    let y : SyncStamp := { seq := seq, t1 := ptpTime f o, t2 := stamp (if b.side == 0 then i.line else i.client),
                           correction := ptpCorrection f o }
    if (u8 f (o + 6)).getLsbD 1 then s.updDomain td fun z => { z with waiting := some y } else s.servoSync td y
  else if inward && ptpType f o == 8 && from_ b.master then
    match x.waiting with
    | some y =>
      if y.seq == seq then s.servoSync td { y with t1 := ptpTime f o, correction := y.correction + ptpCorrection f o }
      else s
    | none => s
  else if inward && ptpType f o == 9 && slice f (o + 44) 10 == b.slave && f.length ≥ o + 58 then
    s.servoDelay td seq (ptpTime f o) (ptpCorrection f o)
  else if !inward && ptpType f o == 1 && from_ b.slave then
    s.updDomain td fun z => { z with
      requests := ((seq, stamp (if b.side == 0 then i.line else i.client)) :: z.requests).take 64 }
  else s

/-- A frame crosses an Ethernet port: PTP processing of it, and the frame that goes on (R408). -/
def State.ptp (s : State) (d : Dir) (c : Cp) (f : Bytes) (i : Instants) : State × Bytes :=
  match ptpAt f with
  | none => (s, f)
  | some o =>
    let s := (List.finRange 2).foldl (fun s td => s.servoMessage td d c f o i) s
    if ptpType f o < 4 then
      let r := (s.stampLog d c f o i).rewritePtp d c f o i
      (r.1, if r.2 == f then f else refcs r.2)
    else (s, f)

/-- Instants of a message for which the command carries none: measured, and so free (log 13). -/
def State.freeInstants (s : State) : Instants :=
  { client := (Config.freeValue s.fresh : Int) - Config.freeValue (s.fresh + 1),
    line := (Config.freeValue (s.fresh + 2) : Int) - Config.freeValue (s.fresh + 3) }

end Sys2Proof.Machine
end

