-- ==== Sys2Proof/Machine/FlowPath.lean ====
section
/-! DEFINITION. The data path of client frames: classification, the context caches, Millrace admission, sealing and
verification, the ingress buffer and the egress buffer (spec/11_flows_sealing.md, R285 to R307; spec/12_millrace_keys.md,
R320 to R323; spec/10_client_lanes.md, R257, R258). -/

namespace Sys2Proof.Machine

/-! ## Counting in a context (R289, R290) -/

/-- The four drop counters of a context: cold word, offset, OVF bit. -/
inductive FlowDrop where
  | state | queue | verify | replay
  deriving DecidableEq, Repr

/-- Set OVF bits of a context that is not cached. -/
def State.setOvf (s : State) (n : Nat) (bits : Byte) : State :=
  if bits == 0 || !s.wordReady (ctxWord n 1) then s
  else
    let t := s.readWord (ctxWord n 1) 2
    let old : BitVec 128 := match t.2 with | some (d, _) => d | none => 0
    t.1.mergeWrite (ctxWord n 1) ((old.setWidth 8 ||| bits).setWidth 128) 0x8000

/-- Count a drop in a context: as a delta of its line, or in memory, where its words are swept. -/
def State.countDrop (s : State) (n : Nat) (w : FlowDrop) : State :=
  match s.cachedLine n with
  | some _ => s.updLine n fun l => match w with
    | .state => { l with dState := l.dState + 1 }
    | .queue => { l with dQueue := l.dQueue + 1 }
    | .verify => { l with dVerify := l.dVerify + 1 }
    | .replay => { l with dReplay := l.dReplay + 1 }
  | none =>
    let t := match w with
      | .state => s.foldDrop n 2 0 1 2
      | .queue => s.foldDrop n 2 6 1 3
      | .verify => s.foldDrop n 3 0 1 4
      | .replay => s.foldDrop n 3 6 1 5
    t.1.setOvf n t.2

/-- Bin of the extended record by client length (R289). -/
def extBin (len : Nat) : Nat :=
  if len < 128 then 0 else if len < 512 then 1 else if len < 1519 then 2 else if len < 2049 then 3 else 4

/-- Add one to a bin of the extended record by merge writes (R289, R364). -/
def State.countBin (s : State) (n len : Nat) : State :=
  let word := fun (t : State × Option (BitVec 128 × Bool)) => match t.2 with | some (d, _) => d.toNat | none => 0
  let a := s.readWord (extWord n 0) 2
  let b := a.1.readWord (extWord n 1) 2
  let k := extBin len
  let shift := 2 ^ (8 * (26 - 6 * k))
  let all := word a * 2 ^ 128 + word b
  let old := all / shift % 2 ^ 48
  let new := all - old * shift + (old + 1) % 2 ^ 48 * shift
  let bytes := fun (lo : Nat) => (List.range 6).foldl (fun m i =>
    let o := 6 * k + i
    if lo ≤ o && o < lo + 16 then m ||| (1 : BitVec 16) <<< (o - lo) else m) (0 : BitVec 16)
  let s := b.1
  let s := if bytes 0 == 0 then s else s.mergeWrite (extWord n 0) (BitVec.ofNat 128 (new / 2 ^ 128)) (bytes 0)
  if bytes 16 == 0 then s else s.mergeWrite (extWord n 1) (BitVec.ofNat 128 new) (bytes 16)

/-- Count octets, and a frame, bound to a context and forwarded; the context's line is installed (R289, R488). -/
def State.countForward (s : State) (d : Dir) (n frames octets : Nat) : State :=
  let s := s.install d n
  s.updLine n fun l =>
    let f := l.frames.toNat + frames
    let o := l.octets.toNat + octets
    { l with frames := BitVec.ofNat 48 f, octets := BitVec.ofNat 64 o,
             ovf := l.ovf ||| byte (bit (decide (f ≥ 2 ^ 48)) 0 + bit (decide (o ≥ 2 ^ 64)) 1) }

/-- A client frame is forwarded: FRAMES, OCTETS, and the bin where EXT is set. -/
def State.countFrame (s : State) (d : Dir) (n len : Nat) : State :=
  let s := s.countForward d n 1 len
  match s.cachedLine n with
  | some l => if l.cflags.getLsbD 1 && s.wordReady (extWord n 0) && s.wordReady (extWord n 1) then s.countBin n len else s
  | none => s

/-! ## Drops -/

/-- A frame is dropped in stage 2, 3 or 7: counted in its context, its tiles classed, its tag finished. -/
def State.dropFrame (s : State) (d : Dir) (f : FlowFrame) (w : FlowDrop) (stage : Nat) : State :=
  let s := s.countDrop f.ctx w
  let s := s.fateTiles f.port f.tiles (match w with | .state | .verify => 1 | .queue | .replay => 2) none
  s.finishTag f.tag f.port d false stage

/-- The five events of drops for want of room, by place in the port's record: their codes, and DATA for the drops gathered
(R319). -/
def shedEvent (k : Fin 5) (x : Shed) : BitVec 16 × Bytes :=
  let n := be 4 (sat 32 x.frames)
  match k with
  | 0 => (0x0A05, [x.classes, 0] ++ n)
  | 1 => (0x0A06, [x.classes, 0] ++ n)
  | 2 => (0x0A07, n)
  | 3 => (0x0A08, [x.classes, 0] ++ n)
  | 4 => (0x0A08, [x.classes, 1] ++ n)

/-- Raise one of them with the drops gathered, which are then gathered anew. -/
def State.raiseShed (s : State) (c : Cp) (k : Fin 5) : State :=
  let e := shedEvent k (s.cport c).shed[k]
  (s.updCport c fun p => { p with raised := p.raised ||| (1 : BitVec 5) <<< k.val, shed := p.shed.set k {} }).raise e.1
    (s.cportPlace c) e.2

/-- A frame is shed: the event of its kind is raised with it, unless this long interval has had one, and the frame then
waits for the next (R319; that later drops stand in the next event, DEDUCED, log 8). -/
def State.noteShed (s : State) (c : Cp) (k : Fin 5) (cls : Nat) : State :=
  let s := s.updCport c fun p => { p with
    shed := p.shed.set k { classes := p.shed[k].classes ||| byte (2 ^ cls), frames := p.shed[k].frames + 1 } }
  if (s.cport c).raised.getLsbD k.val then s else s.raiseShed c k

/-- A long interval ends: drops still gathered are told at once, as the event of the interval that begins (R319). -/
def State.longSheds (s : State) : State :=
  (List.finRange 64).foldl (fun s c => (List.finRange 5).foldl (fun s k =>
    if (s.cport c).shed[k].frames = 0 then s else s.raiseShed c k)
      (s.updCport c fun p => { p with raised := 0 })) s

/-! ## Forwarding -/

/-- Transmit slots of a client port, ascending (R230, R231, R232). -/
def portSlots (m : SlotMap) (line : Nat) (c : Cp) : List Nat :=
  (List.range (slotsOf line)).filter fun k => (m.entries.toList.getD k 0).toNat == c.val + 1

/-- Slots that the transmit map gives a port. -/
def State.txSlots (s : State) (c : Cp) : List Nat :=
  let p := (s.eng (s.portEngine c)).frameParams
  portSlots p.slotmap p.line c

/-- Frames of a port that wait at Millrace admission, which backs up into the port's buffer (R323). -/
def State.backedUp (s : State) (c : Cp) : List FlowFrame :=
  s.flows.ingress.admitQ.filter fun f => f.waited && f.port == c

/-- Bytes in a port's ingress buffer, with the rest of the record already started and the frames of the port that wait
at Millrace admission (R295, R323). -/
def State.occupancy (s : State) (c : Cp) : Nat :=
  let p := s.cport c
  ((p.buffer.map fun b => b.bytes.length).sum) + p.current.length + ((s.backedUp c).map fun f => f.frame.length).sum

/-- Of those, the bytes of class 7 (R297). -/
def State.occupancy7 (s : State) (c : Cp) : Nat :=
  let p := s.cport c
  (((p.buffer.filter fun b => b.cls == 7).map fun b => b.bytes.length).sum)
    + (if p.currentCls == 7 && !p.currentIdle then p.current.length else 0)
    + (((s.backedUp c).filter fun f => (s.peekHot f.ctx).cls == 7).map fun f => f.frame.length).sum

/-- Capacity B of a port's ingress buffer, and the limit of a class (R295). -/
def classLimit (slots cls : Nat) : Nat :=
  let b := 4096 * slots + 32768
  if cls ≥ 7 then b else b * (cls + 9) / 16

/-- A port's buffer has room for a frame of a class: below 7 within the class's limit on all that the buffer holds; class 7
as long as class 7 alone does not fill B, so that nothing of the lower classes drops it (R295, R297; DEDUCED, log 8). -/
def State.hasRoom (s : State) (c : Cp) (cls len : Nat) : Bool :=
  decide ((if cls ≥ 7 then s.occupancy7 c else s.occupancy c) + len ≤ classLimit (s.txSlots c).length cls)

/-- An ingress frame is shed for want of room (R295 to R297). -/
def State.shedFrame (s : State) (f : FlowFrame) (cls : Nat) : State :=
  let s := s.dropFrame .ingress f .queue 4
  s.noteShed f.port (if cls ≥ 7 then 2 else if (s.cport f.port).sealedNow then 0 else 1) cls

/-- An ingress frame leaves stage 3 for the port's buffer, or is shed (R233, R295 to R297).  A formed port without slots,
one in far-end loopback, one under an Oxbow pattern and every port during a Weir hold discard it, counted as a drop for
want of room (R35, R272, R454; log 19). -/
def State.forwardIngress (s : State) (f : FlowFrame) (cls clientLen : Nat) (out : Bytes) (sealed_ : Bool) : State :=
  let c := f.port
  let f := f.enter 4 s.moduleTime
  let t := (s.eng (s.portEngine c)).frameParams
  if (s.txSlots c).length == 0 || (s.cport c).loopback == 3 || (t.oxbow && t.oxbSrc != 0) || s.weir.hold then
    s.dropFrame .ingress f .queue 4
  else if s.hasRoom c cls out.length then
    let s := s.countFrame .ingress f.ctx clientLen
    s.updCport c fun p => { p with
      buffer := p.buffer ++ [{ cls := cls, ctx := f.ctx, bytes := out, tag := f.tag }], sealedNow := p.sealedNow || sealed_ }
  else s.shedFrame f cls

/-! ## Lanes, formations and what a port's egress sends (R233, R239, R255, R259, R271 to R273) -/

/-- Client lane `l`. -/
def State.lane (s : State) (l : LaneNo) : Lane := s.lanes[l]
/-- Change a lane. -/
def State.updLane (s : State) (l : LaneNo) (f : Lane → Lane) : State := { s with lanes := s.lanes.set l (f s.lanes[l]) }
/-- Lane number of a parameter; the range check comes first. -/
def laneOf (n : Nat) : LaneNo := Fin.ofNat 64 n

/-- Lanes of a formation, in order (R255). -/
def CportConfig.lanes (f : CportConfig) : List LaneNo :=
  if f.formed then (List.range f.width.toNat).map fun i => laneOf (f.first.toNat + i) else []

/-- Slots a lane carries at a RATE (R254). -/
def rateSlots (rate : Byte) : Nat := if rate == 2 then 8 else if rate == 1 then 4 else 0
/-- Slots of a formation (R255). -/
def CportConfig.slots (f : CportConfig) : Nat := rateSlots f.rate * f.width.toNat

/-- The active formation of a port. -/
def State.form (s : State) (c : Cp) : CportConfig := (s.cport c).params.active.form

/-- The port is formed in Ethernet mode. -/
def CportConfig.ethernet (f : CportConfig) : Bool := f.formed && f.mode == 1
/-- The port is formed in native stream mode. -/
def CportConfig.native (f : CportConfig) : Bool := f.formed && f.mode == 2

/-- Receive slots that the map gives a port. -/
def State.rxSlots (s : State) (c : Cp) : List Nat :=
  let p := (s.eng (s.portEngine c)).rxParams
  portSlots p.slotmap p.line c

/-- A port's default context in a direction (R287, R311). -/
def State.defaultCtx (s : State) (c : Cp) (d : Dir) : Option Nat :=
  let p := ((s.cport c).sideOf (dirSide d)).1
  match (match d with | .ingress => p.defIn | .egress => p.defOut).toNat with
  | 0 => none
  | n + 1 => some n

/-- The default context serves a native port in a direction: it exists, is ACTIVE in that direction and has suite none
(R288). -/
def State.nativeCtx (s : State) (c : Cp) (d : Dir) : Option Nat :=
  (s.defaultCtx c d).filter fun n =>
    s.lineReady n && (let h := s.peekHot n; h.state == ctxActive && dirOf h.dir == d && h.suite == 0)

/-- EGRESS of R282: a near-end loopback sends the host's own data; local fault, or all ones in native stream mode, goes
ahead of remote fault; a native port without a serving context sends all ones (R233, R239, R259, R272, R288). -/
def State.egressCode (s : State) (c : Cp) : Byte :=
  let p := s.cport c
  let f := s.form c
  if !f.formed || p.loopback == 1 || p.loopback == 2 then 0
  else
    let ones := p.onesLast || (s.rxSlots c).isEmpty
    if f.native then (if ones || (s.nativeCtx c .egress).isNone then 3 else 0)
    else if ones then 1 else if p.failed then 2 else 0

/-- The egress of an Ethernet port carries frames: no fault signalling and no loopback replaces them, every lane is ACTIVE,
and no PRBS generator has taken a lane's output (R239, R259, R271 to R273). -/
def State.egressOpen (s : State) (c : Cp) : Bool :=
  s.egressCode c == 0 && (s.cport c).loopback != 1 && (s.cport c).loopback != 2
    && (s.form c).lanes.all fun l => (s.lane l).power == .active && (s.lane l).gen == 0

/-- A frame on the wire: preamble and start delimiter before it (R258; PRESUMED, the octets of IEEE 802.3, log 19). -/
def wireFrame (frame : Bytes) : Bytes := List.replicate 7 0x55 ++ [0xD5] ++ frame

/-- Invert the levels of a lane where its polarity says so (R270, R278). -/
def invert (on : Bool) (sym : List (Fin 4)) : List (Fin 4) := if on then sym.map fun v => 3 - v else sym

/-- Which lanes of a port invert their levels in a direction (R270, R278). -/
def State.crossed (s : State) (c : Cp) (d : Dir) : List Bool :=
  (s.form c).lanes.map fun l => ((s.lane l).eqOf (dirSide d)).polarity.getLsbD (match d with | .ingress => 0 | .egress => 1)

/-- The lanes' symbols of an Ethernet frame as IEEE 802.3 codes it, each lane inverted as `crossed` says (R257, R258,
R270; log 19). -/
def ethernetLanes (crossed : List Bool) (frame : Bytes) : List (List (Fin 4)) :=
  crossed.zipIdx.map fun x => invert x.1 (Config.ethernetSymbols crossed.length x.2 frame)

/-- A frame as the port's receiver reads it: alignment, deskew, RS(544,514) and 256B/257B decoding give the frame that
the host's lanes carry, or, where a lane inverts their levels, whatever those procedures make of them, the flag telling
of a PCS error control character (R257, R270; log 19). -/
def State.ethernetRead (s : State) (c : Cp) (frame : Bytes) (pcsError : Bool) : Bytes × Bool :=
  let x := s.crossed c .ingress
  if x.any id then Config.ethernetFrame (ethernetLanes x (wireFrame frame)) pcsError else (frame, pcsError)

/-- A frame goes out on the port's lanes; `raw`: as the receivers' signal, without the transmitters' coding (R258, R270,
R272). -/
def State.driveFrame (s : State) (c : Cp) (frame : Bytes) (raw : Bool) : State :=
  let crossed := s.crossed c .egress
  let s := s.updCport c fun p => { p with out := wireFrame frame }
  let symbols := ethernetLanes (if raw then crossed.map fun _ => false else crossed) (wireFrame frame)
  ((s.form c).lanes.zip symbols).foldl (fun s l => s.updLane l.1 fun x => { x with out := l.2 }) s

/-- A frame enters the 64 KiB egress buffer and goes to the host.  It is dropped for a full buffer, and where the egress
sends something else than frames (R258, R259, R271, R273; log 19). -/
def State.sendClient (s : State) (c : Cp) (frame : Bytes) (tiles : List Nat) (tag : Option TagMark) : State :=
  let tag := tag.map fun m => m.enter 8 s.moduleTime
  if !s.egressOpen c || (s.cport c).egress.sum + frame.length > 65536 then
    let s := s.count .clientDropEgress c.val 1
    (s.fateTiles c tiles 2 none).finishTag tag c .egress false 8
  else
    let s := (s.updCport c fun p => { p with egress := p.egress ++ [frame.length] }).driveFrame c frame false
    let s := s.count .clientFramesOut c.val 1
    let s := s.count .clientBytesOut c.val frame.length
    (s.fateTiles c tiles 0 none).finishTag tag c .egress false 0

/-- Instants of a frame that has waited since they were given, from now; none given, they are free. -/
def State.instantsNow (s : State) (f : FlowFrame) : Instants :=
  match f.instants with
  | none => s.freeInstants
  | some (t, client, line) =>
    let past : Int := ((s.moduleTime - t).toNat * 268435456 / 25 : Nat)
    { client := client - past, line := line - past }

/-- An egress frame leaves stage 7: PTP processing follows unsealing (R408). -/
def State.forwardEgress (s : State) (f : FlowFrame) (out : Bytes) : State :=
  let i := s.instantsNow f
  let s := (s.countFrame .egress f.ctx out.length)
  let r := { s with fresh := s.fresh + 4 }.ptp .egress f.port out i
  r.1.sendClient f.port r.2 f.tiles f.tag

/-! ## Millrace admission (R301, R303 to R305, R321 to R323) -/

/-- A context meets an empty or erased slot: SUSPENDED, the event once per slot and short interval (R290, R305). -/
def State.suspend (s : State) (n : Nat) (h : Hot) : State :=
  let s := s.setHot n { h with state := ctxSuspended }
  if s.flows.suspended.contains h.ks.toNat then s
  else ({ s with flows := { s.flows with suspended := s.flows.suspended ++ [h.ks.toNat] } }).raise 0x0A04 (ctxPlace n)
    (beBytes 4 n ++ be 2 h.ks)

/-- An admission fails with KEY-ABSENT. -/
def State.keyAbsent (s : State) (d : Dir) (f : FlowFrame) : State :=
  let s := s.count .millraceKeyabsent (match d with | .ingress => 0 | .egress => 1) 1
  s.dropFrame d f .state (match d with | .ingress => 3 | .egress => 7)

/-- The slot's key seals with a suite (R328). -/
def KeySlot.seals (k : KeySlot) (suite : BitVec 3) : Bool :=
  k.usableIn .ingress 0 && k.cur.key.length == suiteKey suite

/-- A key may verify a frame of a suite (R328). -/
def KeyValue.unseals (v : KeyValue) (suite : BitVec 3) : Bool := v.usage.getLsbD 1 && v.key.length == suiteKey suite

/-- The slot's key unseals with a suite: the key that the egress bank tries first (R328, R340). -/
def KeySlot.unseals (k : KeySlot) (suite : BitVec 3) : Bool :=
  k.live && (match k.egressKeys with | v :: _ => v.unseals suite | [] => false)

/-- PN limit of a suite, 0 when off (R301). -/
def State.pnLimit (s : State) (suite : BitVec 3) : Nat :=
  if isXpn suite then s.flows.sealing.limit64.toNat else s.flows.sealing.limit32.toNat

/-- PN after a frame has taken one: the threshold, then exhaustion (R290, R301, R308). -/
def State.advancePn (s : State) (n : Nat) (h : Hot) : State :=
  let top := maxPn h.suite
  let last := h.pn.toNat ≥ top
  let next := if last then top else h.pn.toNat + 1
  let limit := s.pnLimit h.suite
  let s := s.setHot n { h with pn := BitVec.ofNat 64 next, state := if last then ctxExhausted else h.state }
  let s := if limit != 0 && next ≥ limit && !s.flows.pnRaised.contains n then
      ({ s with flows := { s.flows with pnRaised := s.flows.pnRaised ++ [n] } }).raise 0x0A01 (ctxPlace n) (beBytes 4 n)
    else s
  if last then s.raise 0x0A02 (ctxPlace n) (beBytes 4 n) else s

/-- SCI of ingress context `n` (R300). -/
def State.sciOf (s : State) (n : Nat) : Nat := (s.sciMac n).toNat * 65536 + n % 65536

/-! ### The work of a frame (R320 to R322) -/

/-- Length of a frame's addresses and SecTAG, its protected bytes, encipherment and class, as it waits at admission. -/
def State.request (s : State) (d : Dir) (f : FlowFrame) : Nat × Nat × Bool × Nat :=
  let h := s.peekHot f.ctx
  match d with
  | .ingress => ((if h.sc then 28 else 20), f.frame.length - 16, h.conf, h.cls.toNat)
  | .egress =>
    let head := if (u8 f.frame 14).getLsbD 5 then 28 else 20
    (head, f.frame.length - head - 20, (u8 f.frame 14).getLsbD 3, h.cls.toNat)

/-- Requests of a frame. -/
def State.requests (s : State) (d : Dir) (f : FlowFrame) : List Job :=
  let r := s.request d f
  frameJobs r.1 r.2.1 r.2.2.1 (aesRounds (suiteKey (s.peekHot f.ctx).suite))

/-- Class 7 goes by the express lane (R322). -/
def State.express (s : State) (d : Dir) (f : FlowFrame) : Bool := (s.request d f).2.2.2 == 7

/-- All requests of a frame enter its lane together (R321). -/
def State.enqueue (s : State) (d : Dir) (f : FlowFrame) : State :=
  let js := s.requests d f
  let r := s.request d f
  let ex := s.express d f
  let s := s.updDir d fun x => { x with
    bank := { x.bank with
      express := if ex then x.bank.express ++ js else x.bank.express,
      bulk := if ex then x.bank.bulk else x.bank.bulk ++ js,
      peakNow := max x.bank.peakNow (x.bank.occupancy + js.length) } }
  s.count .millraceBlocks (bankNo d) (gcmBlocks r.2.1 r.2.2.1)

/-- Seal a frame under its context and slot (R299 to R301, R305). -/
def State.sealIngress (s : State) (f : FlowFrame) (h : Hot) : State :=
  let k := s.slot h.ks.toNat
  if !k.seals h.suite then (s.suspend f.ctx h).keyAbsent .ingress f
  else
    let s := s.enqueue .ingress f
    let h := { h with kgen := k.gen }
    let out := sealFrame k.cur h h.pn.toNat (s.sciOf f.ctx) f.ctx f.frame
    let s := s.advancePn f.ctx h
    let mark := f.tag.map fun (m : TagMark) => { m with secured := true }
    s.forwardIngress { f with tag := mark } h.cls.toNat f.frame.length out true

/-- The binding under which a received AN is verified: the context's own, or one of the grace table (R303, R304). -/
def State.binding (s : State) (n : Nat) (h : Hot) (an : BitVec 2) : Option (BitVec 16 × BitVec 64 × Option Grace) :=
  if an == h.an then some (h.ks, h.pn, none)
  else match s.flows.grace.find? fun g => g.ctx == n && g.an == an && g.lives s.moduleTime with
    | some g => some (g.ks, g.pn, some g)
    | none => none

/-- nextPN after a frame that passed; past the largest PN its value is not stated, so it is free (R303, log 16). -/
def State.nextPn (s : State) (suite : BitVec 3) (next : BitVec 64) (pn : Nat) : BitVec 64 :=
  if pn + 1 > maxPn suite then BitVec.ofNat 64 (s.free % (maxPn suite + 1))
  else BitVec.ofNat 64 (max next.toNat (pn + 1))

/-- Store the new nextPN of a binding. -/
def State.storePn (s : State) (n : Nat) (h : Hot) (g : Option Grace) (pn : BitVec 64) : State :=
  match g with
  | none => s.setHot n { h with pn := pn }
  | some g => { s with flows := { s.flows with grace := s.flows.grace.map fun x => if x = g then { x with pn := pn } else x } }

/-- Try the keys of a slot in order: the clear data, and whether the second key was needed (R341). -/
def openWith (x : SecFrame) (suite : BitVec 3) (sci ssci pn : Nat) : List KeyValue → Bool → Option (Bytes × Bool)
  | [], _ => none
  | k :: ks, second =>
    match x.open_ suite k sci ssci pn with
    | some d => some (d, second)
    | none => openWith x suite sci ssci pn ks true

/-- Verify a frame under its context, whose KGEN follows its slot (R303 to R305, R341).  The SCI of a frame equals its
entry's, because the key that found the entry holds it (R285). -/
def State.verifyEgress (s : State) (f : FlowFrame) (h : Hot) : State :=
  match readSecTag (isXpn h.suite) f.frame with
  | none => s.dropFrame .egress f .verify 7
  | some x =>
    match s.binding f.ctx h x.an with
    | none => s.dropFrame .egress f .verify 7
    | some (ks, next, g) =>
      let k := s.slot ks.toNat
      if !k.unseals h.suite then
        (match g with | none => s.suspend f.ctx h | some _ => s).keyAbsent .egress f
      else
        let h := if g.isNone then { h with kgen := k.gen } else h
        let s := if g.isNone then s.setHot f.ctx h else s
        let window := replayWindow h.replay
        let pn := recoverPn (isXpn h.suite) next.toNat (window.getD 0) x.low
        let late := match window with | some w => decide (pn < next.toNat - w) | none => false
        if late then s.dropFrame .egress f .replay 7
        else
          let s := s.enqueue .egress f
          let sci := x.sci.getD (Config.peerSci f.ctx % 2 ^ 64)
          match openWith x h.suite sci (Config.peerSsci f.ctx % 2 ^ 32) pn (k.egressKeys.filter fun v => v.unseals h.suite) false with
          | none => s.dropFrame .egress f .verify 7
          | some (data, second) =>
            let s := s.storePn f.ctx h g (s.nextPn h.suite next pn)
            let s := s.skip
            let s := if second then
                (s.count .millraceRetries 1 1).updDir .egress fun d => { d with bank := { d.bank with
                  retriesNow := d.bank.retriesNow + 1 } }
              else s
            let mark := f.tag.map fun (m : TagMark) => { m with secured := true }
            s.forwardEgress { f with tag := mark } (x.client data)

/-- The frame's requests fit in its lane (R322). -/
def State.fits (s : State) (d : Dir) (f : FlowFrame) : Bool :=
  let b := (s.flowDir d).bank
  let n := (s.requests d f).length
  if s.express d f then b.express.length + n ≤ 512 else b.bulk.length + n ≤ 7680

/-- The frames of a lane wait at admission, each counted once (R323). -/
def State.stall (s : State) (d : Dir) (express : Bool) : State :=
  let waits := fun (f : FlowFrame) => s.express d f == express && !f.waited
  let n := (s.flowDir d).admitQ.countP waits
  let s := s.updDir d fun x => { x with
    admitQ := x.admitQ.map fun f => if waits f then { f with waited := true } else f,
    bank := { x.bank with stallsNow := x.bank.stallsNow + n, stallsLong := x.bank.stallsLong + n } }
  s.count .millraceStalls (bankNo d) n

/-- One frame is admitted: its requests are queued, unless its checks fail first, and its meaning carried out under the
slot's generation now. -/
def State.admitFrame (s : State) (d : Dir) (f : FlowFrame) : State :=
  let s := s.updDir d fun x => { x with admitQ := x.admitQ.erase f }
  let s := s.install d f.ctx
  let h := s.peekHot f.ctx
  if h.state != ctxActive || dirOf h.dir != d then s.dropFrame d f .state (match d with | .ingress => 3 | .egress => 7)
  else
    match d with
    | .ingress => s.sealIngress f h
    | .egress => s.verifyEgress f h

/-- The next frame to be admitted: the oldest of class 7, or else the oldest of the others.  Where a lane's oldest frame does
not fit, all that stand in that lane wait (R322, R323). -/
def State.admitNext (s : State) (d : Dir) : State :=
  let q := (s.flowDir d).admitQ
  let bulk := fun (s : State) => match q.find? fun f => !s.express d f with
    | none => s
    | some f => if s.fits d f then s.admitFrame d f else s.stall d false
  match q.find? fun f => s.express d f with
  | none => bulk s
  | some f => if s.fits d f then s.admitFrame d f else bulk (s.stall d true)

/-- One admission to a bank (R321). -/
def execMillraceAdmit (d : Dir) (s : State) : Host.Outcome State Fault Refusal := event s fun s => s.admitNext d

/-! ## Contexts of frames (R285 to R287, R290, R291, R294) -/

/-- A frame is queued for admission.  Behind frames that wait it waits too: on ingress as far as its port's buffer has room;
on egress as far as stage 7 can hold it, whose capacity is the implementation's (R323; log 5). -/
def State.queueFrame (s : State) (d : Dir) (f : FlowFrame) (cls : Nat) : State :=
  let ex := s.express d f
  let behind := (s.flowDir d).admitQ.any fun x => x.waited && s.express d x == ex
  let held := match d with
    | .ingress => s.hasRoom f.port cls f.frame.length
    | .egress => decide ((s.flowDir d).admitQ.length < Config.egressHold)
  if behind && !held then
    match d with
    | .ingress => s.shedFrame f cls
    | .egress => s.dropFrame .egress f .queue 7
  else
    let s := s.updDir d fun x => { x with admitQ := x.admitQ ++ [f] }
    if behind then s.stall d ex else s

/-- What becomes of a frame whose context is at hand: dropped, forwarded, or sent to admission (R287, R290, R299,
R303). -/
def State.bindFrame (s : State) (d : Dir) (f : FlowFrame) : State :=
  let h := s.peekHot f.ctx
  let f := { f with tag := f.tag.map fun (m : TagMark) => { m with cls := some (h.cls.toNat, f.ctx) } }
  let f := match d with | .ingress => f.enter 3 s.moduleTime | .egress => f
  if h.state != ctxActive || dirOf h.dir != d then s.dropFrame d f .state (match d with | .ingress => 2 | .egress => 7)
  else if h.suite == 0 then
    match d with
    | .ingress => s.forwardIngress f h.cls.toNat f.frame.length f.frame false
    | .egress => s.forwardEgress f f.frame
  else if d == .egress && !hasSecTag f.frame then s.dropFrame d f .verify 7
  else s.queueFrame d f h.cls.toNat

/-- A miss is queued, or dropped when its class is below 7 and the queue holds 3,840 or more (R294). -/
def State.missFrame (s : State) (d : Dir) (f : FlowFrame) : State :=
  let cls := (s.peekHot f.ctx).cls.toNat
  let f := { f with tag := f.tag.map fun (m : TagMark) => { m with miss := true } }
  if cls < 7 && (s.flowDir d).misses.length ≥ 3840 then
    let s := s.dropFrame d f .queue (match d with | .ingress => 2 | .egress => 7)
    let s := s.count .flowDropCache (8 * f.port.val + cls) 1
    s.noteShed f.port (match d with | .ingress => 3 | .egress => 4) cls
  else s.updDir d fun x => { x with misses := x.misses ++ [f] }

/-- EtherType class of an EtherType, and its LABEL flag (R285, R312). -/
def etypeOf (t : Vector EtypeEntry 15) (et : Nat) : Nat × Bool :=
  match t.toList.findIdx? fun x => x.flags.getLsbD 0 && x.etype.toNat == et with
  | some i => (i + 1, (t.toList.getD i {}).flags.getLsbD 1)
  | none => (0, false)

/-- The TAG key of a frame under a port's KEY_MASK and its engine's EtherType table (R285). -/
def tagKey (c : Cp) (mask : Byte) (t : Vector EtypeEntry 15) (f : Bytes) : Bytes :=
  let t0 := etherType f 12
  let outer := t0 == 0x88A8 || t0 == 0x8100
  let inner := outer && etherType f 16 == 0x8100
  let o := if inner then 20 else if outer then 16 else 12
  let e := etypeOf t (etherType f o)
  let vid := fun (p : Nat) => 0x1000 + field f p 2 % 0x1000
  let keep := fun (b : Nat) (v : Nat) => if mask.getLsbD b then v else 0
  [1, byte c.val] ++ beBytes 2 (keep 0 (if outer then vid 14 else 0)) ++ beBytes 2 (keep 1 (if inner then vid 18 else 0))
    ++ [byte (keep 2 e.1), 0] ++ beBytes 4 (keep 3 (if e.2 then field f (o + 2) 3 / 16 else 0))

/-- The key of a frame (R285). -/
def State.frameKey (s : State) (d : Dir) (c : Cp) (f : Bytes) : Bytes :=
  if hasSecTag f then [2, byte c.val] ++ (if (u8 f 14).getLsbD 5 then slice f 20 8 else zeros 8) ++ [0, 0]
  else
    let e := s.eng (s.portEngine c)
    tagKey c ((s.cport c).sideOf (dirSide d)).1.keyMask (match d with | .ingress => e.txParams | .egress => e.rxParams).etype f

/-- Classify a frame, and process it, queue its miss, or drop it for want of a context or of its words (R285 to
R287, R291, R308, R361). -/
def State.offerFrame (s : State) (d : Dir) (c : Cp) (frame : Bytes) (tag : Option TagMark) (tiles : List Nat)
    (instants : Option (BitVec 48 × Int × Int)) : State :=
  let key := s.frameKey d c frame
  let tag := tag.map fun m => m.enter (match d with | .ingress => 2 | .egress => 7) s.moduleTime
  let t := s.findKey key 2 (bucketWords key)
  let s := t.1
  let named := match t.2 with | some (_, n) => some n | none => s.defaultCtx c d
  match named.filter fun n => (s.cachedLine n).isSome || s.lineReady n with
  | none =>
    let s := s.count .flowDropNocontext c.val 1
    (s.fateTiles c tiles 1 none).finishTag tag c d false (match d with | .ingress => 2 | .egress => 7)
  | some n =>
    let f : FlowFrame := {
      port := c, ctx := n, frame := frame, tag := tag, tiles := tiles, instants := instants }
    match s.cachedLine n with
    | some _ => s.bindFrame d f
    | none => s.missFrame d f

/-- The miss that is served next: class 7 ahead of every other (R291). -/
def State.nextMiss (s : State) (d : Dir) : Option FlowFrame :=
  let q := (s.flowDir d).misses
  (q.find? fun f => (s.peekHot f.ctx).cls == 7).or q.head?

/-- One miss fetch completes: the line is installed, or the bad hot word quarantined, and the frames that wait for it go
on in order (R291, R306). -/
def State.fetchNext (s : State) (d : Dir) : State :=
  match s.nextMiss d with
  | none => s
  | some m =>
    let mine := (s.flowDir d).misses.filter fun f => f.ctx == m.ctx
    let s := s.updDir d fun x => { x with misses := x.misses.filter fun f => f.ctx != m.ctx }
    let s := s.install d m.ctx
    mine.foldl (fun s f => s.bindFrame d f) s

/-- A context-cache miss fetch completes (R291). -/
def execContextFetchDone (d : Dir) (s : State) : Host.Outcome State Fault Refusal := event s fun s => s.fetchNext d

/-! ## Client frames (R257, R258, R272) -/

/-- FRAME_MAX in force (R257). -/
def CportConfig.longest (f : CportConfig) : Nat := if f.frameMax == 0 then 9600 else f.frameMax.toNat

/-- A frame is dropped in stage 1, under one counter (R257).  A frame with a PCS error control character counts as that,
whatever its FCS: the rules do not say which of two faults counts (DEDUCED, log 19). -/
def badClientFrame (f : CportConfig) (frame : Bytes) (pcsError : Bool) : Option CounterKind :=
  if pcsError then some .clientDropPcs
  else if !fcsOk frame then some .clientDropFcs
  else if frame.length < 64 || frame.length > f.longest then some .clientDropSize
  else none

/-- An Ethernet client frame arrives on ingress (R257).  Under a near-end loopback it returns to the host, over the lanes
whose output no PRBS generator has taken, as it came or re-encoded (R275); on a port failed for another cause it is
discarded (R268, R272).  PTP processing precedes classification and sealing (R408). -/
def State.clientFrame (s : State) (c : Cp) (frame : Bytes) (pcsError : Bool) (i : Option Instants) : State :=
  let p := s.cport c
  let read := s.ethernetRead c frame pcsError
  if p.loopback == 1 || p.loopback == 2 then
    if (s.form c).lanes.all fun l => (s.lane l).power == .active && (s.lane l).gen == 0 then
      s.driveFrame c (if p.loopback == 1 then frame else read.1) (p.loopback == 1)
    else s
  else if p.failed then s
  else
    let frame := read.1
    let pcsError := read.2
    let t := s.selectTag c .ingress frame.length s.moduleTime
    match badClientFrame p.params.active.form frame pcsError with
    | some k => (t.1.count k c.val 1).finishTag t.2 c .ingress false 1
    | none =>
      let s := t.1.count .clientFramesIn c.val 1
      let s := s.count .clientBytesIn c.val frame.length
      let r := { s with fresh := s.fresh + 4 }.ptp .ingress c frame (i.getD s.freeInstants)
      r.1.offerFrame .ingress c r.2 t.2 [] none

/-- An Ethernet client frame on ingress (R257). -/
def execClientFrameRx (c : Cp) (frame : Bytes) (pcsError : Bool) (s : State) : Host.Outcome State Fault Refusal :=
  eventIf s (s.cport c).params.active.form.ethernet fun s => s.clientFrame c frame pcsError none

/-- A frame record reassembled from the line's slots (R231, R258, R272, R303, R490).  Under a near-end loopback it is
discarded and counted with the frames dropped at egress (log 19); a frame whose FCS fails is not delivered.  `since` and
`entered`: module times of its first bit at stages 1 and 6 (R11). -/
def State.lineFrame (s : State) (c : Cp) (frame : Bytes) (tiles : List Nat) (since entered : BitVec 48)
    (i : Option Instants) : State :=
  let p := s.cport c
  let t := s.selectTag c .egress frame.length since
  let s := t.1
  let tag := t.2.map fun m => m.enter 6 entered
  if p.loopback == 1 || p.loopback == 2 then
    ((s.count .clientDropEgress c.val 1).fateTiles c tiles 2 none).finishTag tag c .egress false 6
  else if !fcsOk frame then
    ((s.count .clientDropFcs c.val 1).fateTiles c tiles 1 none).finishTag tag c .egress false 6
  else s.offerFrame .egress c frame tag tiles (i.map fun i => (s.moduleTime, i.client, i.line))

/-- A client frame reassembled from line slots (R303).  FRAME_RECEIVE runs the same operation for each frame that its
payload completes (log 20). -/
def execLineEgressFrame (c : Cp) (frame : Bytes) (s : State) : Host.Outcome State Fault Refusal :=
  eventIf s (s.cport c).params.active.form.ethernet fun s => s.lineFrame c frame [] s.moduleTime s.moduleTime none

/-- A PTP event message crosses a port with its instants: the same way as any frame of its direction, with the
processing of R407 to R411 on the instants given (log 20). -/
def execPtpEventMessage (c : Cp) (m : PtpMessage) (s : State) : Host.Outcome State Fault Refusal :=
  eventIf s ((s.cport c).params.active.form.ethernet && isPtpEvent m.frame) fun s =>
    let i : Instants := { client := m.client, line := m.line }
    match m.dir with
    | .ingress => s.clientFrame c m.frame false (some i)
    | .egress => s.lineFrame c m.frame [] s.moduleTime s.moduleTime (some i)

end Sys2Proof.Machine
end

