-- ==== Sys2Proof/Machine/Client.lean ====
section
/-! DEFINITION. Group 0x09: client lanes, client ports, native stream lane frames, failure, loopback and PRBS
(spec/10_client_lanes.md). -/

namespace Sys2Proof.Machine

/-! ## Lanes -/

/-- The port whose active formation holds a lane. -/
def State.portOfLane (s : State) (l : LaneNo) : Option Cp :=
  (List.finRange 64).find? fun c => (s.form c).lanes.contains l

/-- Code of a power state (R271). -/
def powerCode : LanePower → Byte
  | .deep => 0 | .idle => 1 | .active => 2

/-! ## Port failure (R268) -/

/-- The conditions that hold, by cause bit. -/
def State.portCause (s : State) (c : Cp) : Nat :=
  let p := s.cport c
  let f := p.params.active.form
  let ls := f.lanes.map s.lane
  bit (ls.any fun l => l.power == .deep || l.signalLost) 0
    + bit (ls.any fun l => l.power == .deep || l.clockLost) 1
    + bit (ls.any fun l => l.power != .active) 2
    + bit (f.ethernet && p.pcsLost) 3
    + bit (f.ethernet && p.rxLocal) 4
    + bit (f.native && ls.any fun l => !l.inFrame) 5
    + bit (ls.any fun l => l.gen != 0 || l.chk != 0) 6
    + bit (f.formed && (p.loopback == 1 || p.loopback == 2)) 7

/-- Conditions that the model's own state decides: every cause but the measured ones. -/
def State.stateCause (s : State) (c : Cp) : Nat :=
  let ls := (s.form c).lanes.map s.lane
  (s.portCause c) / 4 * 4 - bit ((s.form c).ethernet && (s.cport c).pcsLost) 3
    + bit (ls.any fun l => l.power == .deep) 0

/-- A formed port with a condition fails, with client.port.fail (R268, R284). -/
def State.refreshPort (s : State) (c : Cp) : State :=
  let cause := s.portCause c
  if (s.form c).formed && cause != 0 && !(s.cport c).failed then
    (s.updCport c fun p => { p with failed := true }).raise 0x0901 (s.cportPlace c) [byte cause]
  else s

/-- Failure of every port is brought up to date. -/
def State.refreshPorts (s : State) : State := (List.finRange 64).foldl (fun s c => s.refreshPort c) s

/-- A condition arises on a port or its lanes: loss of signal and of clock by the lane's place in the port, and the
port's alignment. -/
def State.detectFail (s : State) (c : Cp) (signalLost clockLost : BitVec 16) (pcsLost : Bool) : State :=
  let s := ((s.form c).lanes.zipIdx).foldl (fun s l => s.updLane l.1 fun x => { x with
    signalLost := signalLost.getLsbD l.2, clockLost := clockLost.getLsbD l.2 }) s
  (s.updCport c fun p => { p with pcsLost := pcsLost }).refreshPort c

/-- A failure condition is detected (R268). -/
def execPortFailDetect (c : Cp) (signalLost clockLost : BitVec 16) (pcsLost : Bool) (s : State) :
    Host.Outcome State Fault Refusal :=
  eventIf s (s.form c).formed fun s => s.detectFail c signalLost clockLost pcsLost

/-- No condition has held for 1.024 ms: the port leaves failure (R268, R284). -/
def execPortFailClearTimer (c : Cp) (s : State) : Host.Outcome State Fault Refusal :=
  eventIf s ((s.form c).formed && (s.cport c).failed && s.stateCause c == 0) fun s =>
    let s := (s.form c).lanes.foldl (fun s l => s.updLane l fun x => { x with signalLost := false, clockLost := false }) s
    (s.updCport c fun p => { p with failed := false, pcsLost := false }).raise 0x0902 (s.cportPlace c) [0]

/-- A local or remote fault ordered set, or its end (R259). -/
def execClientOrderedSetRx (c : Cp) (set : OrderedSet) (s : State) : Host.Outcome State Fault Refusal :=
  eventIf s (s.form c).ethernet fun s =>
    match set with
    | .localFault => (s.updCport c fun p => { p with rxLocal := true }).refreshPort c
    | .localEnd => s.updCport c fun p => { p with rxLocal := false }
    | .remoteFault =>
      if (s.cport c).rxRemote then s
      else (s.updCport c fun p => { p with rxRemote := true }).raise 0x0903 (s.cportPlace c) [1]
    | .remoteEnd =>
      if (s.cport c).rxRemote then
        (s.updCport c fun p => { p with rxRemote := false }).raise 0x0903 (s.cportPlace c) [0]
      else s

/-! ## Forming a port at a commit boundary (R268, R272, R275) -/

/-- Two formations are the same but for FRAME_MAX. -/
def CportConfig.same (a b : CportConfig) : Bool :=
  a.first == b.first && a.width == b.width && a.mode == b.mode && a.rate == b.rate

/-- The record in progress is discarded, and the parse is lost or, with `on`, stands at a header.  It counts as a frame
dropped at egress (log 19); its tiles are wasted, and a frame record may be a tagged unit (R490, R491). -/
def State.dropRecord (s : State) (c : Cp) (on : Bool) : State :=
  let p := (s.cport c).parser
  let s := s.updCport c fun q => { q with parser := { on := on } }
  let s := if p.need != 0 || p.head.isSome then s.count .clientDropEgress c.val 1 else s
  let s := if p.need == 0 then s
    else
      let t := s.selectTag c .egress (p.got.length + p.need) p.since
      t.1.finishTag (t.2.map fun m => m.enter 6 p.entered) c .egress false 6
  s.fateTiles c p.touch 1 none

/-- Frames that wait for a port's slots are discarded and counted with those dropped for want of room (R35; log 19). -/
def State.shedWaiting (s : State) (c : Cp) : State :=
  let p := s.cport c
  let s := if p.current.isEmpty || p.currentIdle then s else s.countDrop p.currentCtx .queue
  let s := s.updCport c fun p => { p with buffer := [], current := [] }
  p.buffer.foldl (fun s b => (s.countDrop b.ctx .queue).finishTag b.tag c .ingress false 4) s

/-- What a port holds of both directions is discarded, before its formation changes (R490, R491; log 19). -/
def State.emptyPort (s : State) (c : Cp) : State := (s.shedWaiting c).dropRecord c false

/-- The state of a port whose formation changes: alignment restarts, buffers are empty, the loopback is cleared. Tiles
whose class is open keep their accounts (R490). -/
def Cport.reform (p : Cport) (eth : Bool) : Cport :=
  { p with
    pcsLost := eth, rxLocal := false, rxRemote := false, loopback := 0, onesLast := false, buffer := [], current := [],
    currentIdle := false, currentCtx := 0, currentCls := 0, parser := {}, received := [], egress := [], credit := 0,
    fecCorr := 0, fecUncorr := 0, out := [] }

/-- A commit has replaced a port's parameters, `old` being its former formation (R268, R272, R275). -/
def State.formed (s : State) (c : Cp) (old : CportConfig) : State :=
  let new := s.form c
  if old.same new then s
  else
    let s := new.lanes.foldl (fun s l => s.updLane l fun x => { x with
      inFrame := false, good := 0, bad := 0, streams := [], out := [] }) s
    let was := (s.cport c).failed
    let s := s.updCport c fun p => p.reform new.ethernet
    if !new.formed then
      if was then (s.updCport c fun p => { p with failed := false }).raise 0x0902 (s.cportPlace c) [1] else s
    else s.refreshPort c

/-! ## CPORT (R277) -/

/-- A formation from the 8 bytes of R277. -/
def parseCport (p : Bytes) : CportConfig :=
  { first := u8 p 1, width := u8 p 2, mode := u8 p 3, rate := u8 p 4, frameMax := u16 p 6 }

/-- The 8 bytes of R277. -/
def renderCport (c : Byte) (f : CportConfig) : Bytes := [c, f.first, f.width, f.mode, f.rate, 0] ++ be 2 f.frameMax

/-- Engines of the port, and those it will have once its staged formation is written (R548). -/
def State.enginesAfter (s : State) (c : Cp) (new : CportConfig) : List Nat :=
  let after := s.updCport c fun p => { p with params := { p.params with staged := { p.params.staged with form := new } } }
  (s.cportEngines c ++ after.cportEngines c).eraseDups

/-- CPORT_WRITE (R277, R548). -/
def cportWriteBody (r : Request) (s : State) : Answer :=
  let n := field r.params 0 1
  let f := parseCport r.params
  let c := cpOf n
  let es := s.enginesAfter c f
  guards [
    (badForm r 8 || f.mode.toNat > 2 || f.rate.toNat > 2 || !zeroAt r.params 5 1, .badParam),
    (!s.hasLane n || f.first.toNat > 63 || !s.hasLane f.first.toNat || f.width.toNat > 16
      || (f.frameMax != 0 && (f.frameMax.toNat < 64 || f.frameMax.toNat > 16350)), .range),
    (!s.holdsPort r.port c || !es.all (fun e => s.holdsEngine r.port e), .notTenant),
    (es.any fun e => s.holdsScope 7 e, .busy)]
    (.ok .ok [] (s.updCport c fun p => { p with
      params := { p.params with staged := { p.params.staged with form := f } } }))

/-- CPORT_WRITE. -/
def execCportWrite (r : Request) (s : State) : Host.Outcome State Fault Refusal :=
  opcode 0x0901 false r s (cportWriteBody r)

/-- CPORT_READ (R277). -/
def cportReadBody (r : Request) (s : State) : Answer :=
  portGuards (badEngineCopy r) r s fun c =>
    answer (renderCport (u8 r.params 0) (copyOf (u8 r.params 1) (s.cport c).params).form) s

/-- CPORT_READ. -/
def execCportRead (r : Request) (s : State) : Host.Outcome State Fault Refusal :=
  opcode 0x0902 false r s (cportReadBody r)

/-! ## LANE_EQ (R278) -/

/-- Equalisation from the 12 bytes of R278. -/
def parseLaneEq (p : Bytes) : LaneEq :=
  { rxFlags := u8 p 1, ctlePeak := u8 p 2, swing := u8 p 3, pre2 := u8 p 4, pre1 := u8 p 5, post1 := u8 p 6,
    polarity := u8 p 7 }

/-- The 12 bytes of R278. -/
def renderLaneEq (l : Byte) (q : LaneEq) : Bytes :=
  [l, q.rxFlags, q.ctlePeak, q.swing, q.pre2, q.pre1, q.post1, q.polarity, 0, 0, 0, 0]

/-- Every value lies in its range (R278). -/
def laneEqRangeOk (q : LaneEq) : Bool :=
  q.ctlePeak.toNat ≤ 40 && (q.swing == 0 || (16 ≤ q.swing.toNat && q.swing.toNat ≤ 36)) && q.pre2.toNat ≤ 8
    && q.pre1.toNat ≤ 24 && q.post1.toNat ≤ 16 && q.pre2.toNat + q.pre1.toNat + q.post1.toNat ≤ 32

/-- The checks every command on one lane makes (R276). -/
def laneGuards (bad : Bool) (r : Request) (s : State) (a : LaneNo → Answer) : Answer :=
  let n := field r.params 0 1
  guards [(bad, .badParam), (!s.hasLane n, .range), (!s.holdsEngine r.port (n / 16), .notTenant)] (a (laneOf n))

/-- LANE_EQ_WRITE (R278). -/
def laneEqWriteBody (r : Request) (s : State) : Answer :=
  let n := field r.params 0 1
  let q := parseLaneEq r.params
  guards [
    (badForm r 12 || q.rxFlags.toNat > 7 || q.polarity.toNat > 3 || !zeroAt r.params 8 4, .badParam),
    (!s.hasLane n || !laneEqRangeOk q, .range),
    (!s.holdsEngine r.port (n / 16), .notTenant),
    (s.holdsScope 7 (n / 16), .busy)]
    (.ok .ok [] (s.updLane (laneOf n) fun l => { l with eq := { l.eq with staged := q } }))

/-- LANE_EQ_WRITE. -/
def execLaneEqWrite (r : Request) (s : State) : Host.Outcome State Fault Refusal :=
  opcode 0x0903 false r s (laneEqWriteBody r)

/-- LANE_EQ_READ (R278). -/
def laneEqReadBody (r : Request) (s : State) : Answer :=
  laneGuards (badEngineCopy r) r s fun l =>
    answer (renderLaneEq (u8 r.params 0) (copyOf (u8 r.params 1) (s.lane l).eq)) s

/-- LANE_EQ_READ. -/
def execLaneEqRead (r : Request) (s : State) : Host.Outcome State Fault Refusal :=
  opcode 0x0904 false r s (laneEqReadBody r)

/-! ## LANE_POWER, CLIENT_LOOPBACK, PRBS_CONTROL (R271 to R273, R279) -/

/-- Lanes of a 64-bit mask. -/
def maskLanes (m : Nat) : List LaneNo := (List.finRange 64).filter fun l => m.testBit l.val

/-- A power state from its code. -/
def powerOf (n : Nat) : LanePower := if n == 0 then .deep else if n == 1 then .idle else .active

/-- A lane takes a power state: leaving DEEP or IDLE for ACTIVE it adapts; out of ACTIVE it carries nothing, and in DEEP
its adaptation is lost and will start from CTLE_PEAK (R269, R271).  What a locked checker has counted is not lost
(R273). -/
def Lane.setPower (l : Lane) (p : LanePower) : Lane :=
  let off := { l with
    power := p, adapting := none, inFrame := false, good := 0, bad := 0, locked := false, owed := l.owed || l.locked,
    streams := [], out := [] }
  if l.power = p then l
  else match p with
    | .active => { l with power := p, adapting := some l.power }
    | .idle => off
    | .deep => { off with ctle := (l.eqOf .transmit).ctlePeak, dfe := Vector.replicate 12 0 }

/-- What a lane's receiver holds after it has adapted to the given peaking and DFE taps: the peaking within 0 to 20 dB
or fixed, the taps held, zeroed or taken (R269). -/
def Lane.adapt (l : Lane) (ctle : Byte) (dfe : Vector Int 12) : Lane :=
  let q := l.eqOf .transmit
  let f := q.rxFlags
  { l with
    ctle := if f.getLsbD 0 then q.ctlePeak else byte (min 40 ctle.toNat),
    dfe := if f.getLsbD 1 then Vector.replicate 12 0 else if f.getLsbD 2 then l.dfe else dfe }

/-! ## The lane transmitter (R270, R278) -/

/-- The taps c(−2), c(−1), c(0) and c(1) of a lane's transmitter, in 1/64 (R270). -/
def LaneEq.ffe (q : LaneEq) : List Int :=
  [-(q.pre2.toNat : Int), -(q.pre1.toNat : Int), 64 - q.pre2.toNat - q.pre1.toNat - q.post1.toNat, -(q.post1.toNat : Int)]

/-- Swing in mV peak-to-peak differential; SWING 0 selects 24 (R270, R278). -/
def LaneEq.millivolts (q : LaneEq) : Nat := 25 * (if q.swing == 0 then 24 else q.swing.toNat)

/-- Levels on the wire at symbol `n` of a lane's output, in 1/64 of the swing's sixth: the four levels are −3, −1, 1 and
3, and each tap weighs one symbol, c(−2) the second one ahead (R270). -/
def LaneEq.wireLevel (q : LaneEq) (symbols : List (Fin 4)) (n : Nat) : Int :=
  let level := fun (i : Nat) => if i < 1 then (0 : Int) else match symbols[i - 1]? with
    | some v => 2 * (v.val : Int) - 3 | none => 0
  ((q.ffe.zipIdx).map fun c => c.1 * level (n + 3 - c.2)).sum

/-- The checks on the lanes of a mask. -/
def maskGuards (bad : Bool) (r : Request) (s : State) (a : List LaneNo → Answer) : Answer :=
  let ls := maskLanes (field r.params 0 8)
  guards [(bad, .badParam), (ls.any fun l => !s.hasLane l.val, .range),
    (ls.any fun l => !s.holdsEngine r.port (l.val / 16), .notTenant)] (a ls)

/-- LANE_POWER (R271, R279). -/
def lanePowerBody (r : Request) (s : State) : Answer :=
  maskGuards (badForm r 12 || field r.params 8 1 > 2 || !zeroAt r.params 9 3) r s fun ls =>
    .ok .ok [] ((ls.foldl (fun s l => s.updLane l fun x => x.setPower (powerOf (field r.params 8 1))) s).refreshPorts)

/-- LANE_POWER. -/
def execLanePower (r : Request) (s : State) : Host.Outcome State Fault Refusal :=
  opcode 0x0905 false r s (lanePowerBody r)

/-- CLIENT_LOOPBACK (R272, R279). -/
def clientLoopbackBody (r : Request) (s : State) : Answer :=
  portGuards (badForm r 4 || field r.params 1 1 > 3 || !zeroAt r.params 2 2) r s fun c =>
    guards [(!(s.form c).formed, .inconsistent)]
      (.ok .ok [] ((s.updCport c fun p => { p with loopback := u8 r.params 1 }).refreshPort c))

/-- CLIENT_LOOPBACK. -/
def execClientLoopback (r : Request) (s : State) : Host.Outcome State Fault Refusal :=
  opcode 0x0906 false r s (clientLoopbackBody r)

/-- PRBS_CONTROL (R273, R279). -/
def prbsControlBody (r : Request) (s : State) : Answer :=
  maskGuards (badForm r 12 || field r.params 8 1 > 2 || field r.params 9 1 > 2 || !zeroAt r.params 10 2) r s fun ls =>
    guards [(ls.any fun l => (s.lane l).power != .active, .inconsistent)]
      (.ok .ok [] ((ls.foldl (fun s l => s.updLane l fun x => { x with
        gen := u8 r.params 8, genReg := if x.gen == u8 r.params 8 then x.genReg else 0x7FFFFFFF,
        chk := u8 r.params 9, locked := x.locked && x.chk == u8 r.params 9 && u8 r.params 9 != 0,
        owed := x.owed || (x.locked && (x.chk != u8 r.params 9 || u8 r.params 9 == 0)) }) s).refreshPorts))

/-- PRBS_CONTROL. -/
def execPrbsControl (r : Request) (s : State) : Host.Outcome State Fault Refusal :=
  opcode 0x0907 false r s (prbsControlBody r)

/-- The checker has seen 64 consecutive correct symbols (R273). -/
def execPrbsCheckerLock (l : LaneNo) (s : State) : Host.Outcome State Fault Refusal :=
  eventIf s ((s.lane l).chk != 0 && (s.lane l).power == .active) fun s => s.updLane l fun x => { x with locked := true }

/-- Bit errors of a checker that is or was locked are counted (R273). -/
def State.prbsErrors (s : State) (l : LaneNo) (n : Nat) : State :=
  if (s.lane l).locked || (s.lane l).owed then
    (s.updLane l fun x => { x with prbsNow := x.prbsNow + n }).count .clientPrbsErrors l.val n
  else s

/-- The checker has seen 32 errored symbols within 64: it loses lock and synchronises again.  `v` are the bit errors
while it was locked that no interval's end has counted yet (R273). -/
def execPrbsCheckerRelock (v : LaneReading) (s : State) : Host.Outcome State Fault Refusal :=
  eventIf s ((s.lane v.lane).locked && (s.lane v.lane).power == .active) fun s =>
    (s.prbsErrors v.lane v.errors).updLane v.lane fun x => { x with locked := false, owed := false }

/-- A lane's receiver has adapted; one that left DEEP or IDLE completes its adaptation with it (R269, R271, R284). -/
def execLaneAdaptDone (l : LaneNo) (a : Adaptation) (s : State) : Host.Outcome State Fault Refusal :=
  eventIf s ((s.lane l).power == .active) fun s =>
    let s1 := s.updLane l fun x => { x.adapt a.ctle a.dfe with adapting := none }
    match (s.lane l).adapting with
    | none => s1
    | some old => s1.raise 0x0905 (.lane l.val) [powerCode old]

/-! ## SYNCE (R274, R280) -/

/-- One entry of the 8 bytes of R280. -/
def synceEntry (p : Bytes) (i : Nat) : Byte × Byte := (u8 p (2 * i), u8 p (2 * i + 1))

/-- SYNCE_WRITE (R274, R280). -/
def synceWriteBody (r : Request) (s : State) : Answer :=
  let es := (List.range 4).map (synceEntry r.params)
  guards [
    (notPrincipal r, .notPrincipal),
    (badForm r 8, .badParam),
    (es.any fun e => e.1.toNat > 64 || (e.1 != 0 && !s.hasLane (e.1.toNat - 1)), .range),
    (s.holdsModule 11, .busy)]
    (.ok .ok [] { s with synce := { s.synce with staged := Vector.ofFn fun i => synceEntry r.params i.val } })

/-- SYNCE_WRITE. -/
def execSynceWrite (r : Request) (s : State) : Host.Outcome State Fault Refusal :=
  opcode 0x0908 false r s (synceWriteBody r)

/-- SYNCE_READ (R280). -/
def synceReadBody (r : Request) (s : State) : Answer :=
  guards [(badForm r 4 || !zeroAt r.params 1 3 || field r.params 0 1 > 1, .badParam)]
    (answer ((copyOf (u8 r.params 0) s.synce).toList.map fun e => [e.1, e.2]).flatten s)

/-- SYNCE_READ. -/
def execSynceRead (r : Request) (s : State) : Host.Outcome State Fault Refusal :=
  opcode 0x0909 false r s (synceReadBody r)

/-! ## Status (R281, R282) -/

/-- What a lane's receiver finds at its input, signal and clock.  On a lane of a formed port they are the conditions of
R268; on any other lane nothing reports them, and they are free (R271, R281; log 13). -/
def State.laneInput (s : State) (l : LaneNo) : Bool × Bool :=
  let x := s.lane l
  if (s.portOfLane l).isSome then (!x.signalLost, !x.clockLost)
  else
    let v := Config.freeValue (s.fresh + 2)
    (v.testBit 0, v.testBit 1)

/-- The 16 bytes of R281; the eye is measured, so its figures are free (log 13). -/
def State.laneStatus (s : State) (l : LaneNo) : Bytes :=
  let x := s.lane l
  let on := x.power != .deep
  let native := match s.portOfLane l with | some c => (s.form c).native | none => false
  let input := s.laneInput l
  [byte l.val, powerCode x.power,
   byte (bit (on && input.1) 0 + bit (on && input.2) 1 + bit (native && x.inFrame) 2 + bit x.locked 3),
   if (x.eqOf .transmit).rxFlags.getLsbD 0 then (x.eqOf .transmit).ctlePeak else x.ctle]
  ++ beBytes 2 (Config.freeValue s.fresh) ++ beBytes 2 (Config.freeValue (s.fresh + 1))
  ++ [x.gen + 4 * x.chk, match s.portOfLane l with | some c => byte (c.val + 1) | none => 0] ++ be 2 x.slips
  ++ be 4 x.prbsLast

/-- LANE_STATUS (R281). -/
def laneStatusBody (r : Request) (s : State) : Answer :=
  laneGuards (badEngine3 r) r s fun l => answer (s.laneStatus l) { s with fresh := s.fresh + 3 }

/-- LANE_STATUS. -/
def execLaneStatus (r : Request) (s : State) : Host.Outcome State Fault Refusal :=
  opcode 0x090A false r s (laneStatusBody r)

/-- The 16 bytes of R282. -/
def State.portStatus (s : State) (c : Cp) : Bytes :=
  let p := s.cport c
  let f := s.form c
  let fec := fun (v : BitVec 32) => if f.ethernet then be 4 v else zeros 4
  [byte c.val, if !f.formed then 0 else if p.failed then 2 else 1, byte (if f.formed then s.portCause c else 0),
   p.loopback, s.egressCode c, byte (bit p.rxRemote 0 + bit p.rxLocal 1), 0, 0] ++ fec p.fecCorr ++ fec p.fecUncorr

/-- PORT_STATUS (R282). -/
def portStatusBody (r : Request) (s : State) : Answer :=
  portGuards (badEngine3 r) r s fun c => answer (s.portStatus c) s

/-- PORT_STATUS. -/
def execPortStatus (r : Request) (s : State) : Host.Outcome State Fault Refusal :=
  opcode 0x090B false r s (portStatusBody r)

end Sys2Proof.Machine
end

