-- ==== Sys2Proof/Machine/Fec.lean ====
section
/-! DEFINITION. Group 0x07, the Vangide decoder: configuration and status (spec/08_vangide_fec.md). -/

namespace Sys2Proof.Machine

/-! ## FEC_CONFIG (R213) -/

/-- FEC_CONFIG_WRITE (R213). -/
def fecConfigWriteBody (r : Request) (s : State) : Answer :=
  let n := field r.params 0 1
  let c : FecConfig := { w := u8 r.params 1, i := u8 r.params 2, flags := u8 r.params 3 }
  guards [
    (badForm r 8 || !zeroAt r.params 4 4 || c.flags.toNat > 1, .badParam),
    (!s.hasEngine n || !(c.w == 0 || (4 ≤ c.w.toNat && c.w.toNat ≤ 16)) || c.i.toNat > 4, .range),
    (!s.holdsEngine r.port n, .notTenant),
    (s.holdsScope 3 n, .busy)]
    (.ok .ok [] (s.stage (engOf n) fun p => { p with fec := c }))

/-- FEC_CONFIG_WRITE. -/
def execFecConfigWrite (r : Request) (s : State) : Host.Outcome State Fault Refusal :=
  opcode 0x0701 false r s (fecConfigWriteBody r)

/-- FEC_CONFIG_READ (R213). -/
def fecConfigReadBody (r : Request) (s : State) : Answer :=
  engineGuards (badEngineCopy r) r s fun e =>
    let c := (copyOf (u8 r.params 1) (s.eng e).params).fec
    answer [byte e.val, c.w, c.i, c.flags, 0, 0, 0, 0] s

/-- FEC_CONFIG_READ. -/
def execFecConfigRead (r : Request) (s : State) : Host.Outcome State Fault Refusal :=
  opcode 0x0702 false r s (fecConfigReadBody r)

/-! ## FEC_STATUS (R214) -/

/-- STATE of R214. -/
def Engine.fecCode (x : Engine) : Byte :=
  if x.rx.mode != .decode && x.rx.mode != .track then 0
  else if !x.fec.aligned then 1 else if x.deframer.mode == .sync then 3 else 2

/-- `n` free bytes, the `k`th of the values drawn by one reply (log 5). -/
def State.freeBytes (s : State) (n k : Nat) : Bytes := beBytes n (Config.freeValue (s.fresh + k))

/-- A value the spec gives, or free bytes where it gives none. -/
def State.orFree (s : State) (n k : Nat) (v : Option Nat) : Bytes :=
  match v with | some x => beBytes n x | none => s.freeBytes n k

/-- The 32 bytes of R214.  With no profile active W, both values of I and LIMIT have no stated value, and AVG_ITER has none
in an interval without advances: they are free, and so is the rounding of LIMIT and AVG_ITER (log 16). -/
def State.fecStatus (s : State) (e : Eng) : Bytes :=
  let x := s.eng e
  let p := x.rxParams
  let last := x.fec.last
  [byte e.val, x.fecCode] ++ s.orFree 1 0 p.window ++ s.orFree 1 1 p.iters
  ++ s.orFree 1 4 (if x.fec.iActive == 0 then none else some x.fec.iActive)
  ++ [byte x.iLimit,
    match x.fec.phase with | some c => if p.line == 6 then 0xFF else byte c.val | none => 0xFF,
    byte (bit x.fec.etOff 0 + bit (last.uncorr != 0) 1)]
  ++ s.orFree 4 2 ((p.limit x.fec.iActive).map fun l => (s.whole 2 (l * 2 ^ 36) 40000).toNat) ++ be 2 x.marginUsed
  ++ s.orFree 2 3 (if last.advances == 0 then none else some (s.whole 3 (last.iterations * 256) last.advances).toNat)
  ++ be 4 (sat 32 last.positions) ++ be 4 (sat 32 last.uncorr) ++ be 4 (sat 32 last.corrected) ++ be 4 x.fec.chainFnr

/-- FEC_STATUS (R214). -/
def fecStatusBody (r : Request) (s : State) : Answer :=
  engineGuards (badEngine3 r) r s fun e => answer (s.fecStatus e) { s with fresh := s.fresh + 5 }

/-- FEC_STATUS. -/
def execFecStatus (r : Request) (s : State) : Host.Outcome State Fault Refusal :=
  opcode 0x0703 false r s (fecStatusBody r)

end Sys2Proof.Machine
end

