-- ==== Sys2Proof/Machine/Transmit.lean ====
section
/-! DEFINITION. Group 0x04, the transmit path: configuration, status, bias holds, and the events of the enable and
quench sequences (spec/05_transmit_path.md). -/

namespace Sys2Proof.Machine

/-! ## TX_CONFIG (R126) -/

/-- One QUAD entry from its four bytes. -/
def parseQuad (p : Bytes) (o : Nat) : QuadConfig := { pe := u8 p o, gain := u8 p (o + 1), skew := u16 p (o + 2) }

/-- The transmit configuration from the 32 bytes of R126. -/
def parseTx (p : Bytes) : TxConfig :=
  { chan := u16 p 4, fine := u16 p 6, atten := u16 p 8, rolloff := u8 p 10, dacBackoff := u8 p 11, txcd := u32 p 12,
    quad := Vector.ofFn fun i => parseQuad p (16 + 4 * i.val) }

/-- The 32 bytes of R126. -/
def renderTx (e : Byte) (c : TxConfig) : Bytes :=
  [e, 0, 0, 0] ++ be 2 c.chan ++ be 2 c.fine ++ be 2 c.atten ++ [c.rolloff, c.dacBackoff] ++ be 4 c.txcd
    ++ (c.quad.toList.map fun q => [q.pe, q.gain] ++ be 2 q.skew).flatten

/-- Lowest and highest channel centre in MHz of the module's band (R72, R115). -/
def bandLimits (v : Variant) : Nat × Nat :=
  if v = .l4 then (186000000, 190900000) else (191150000, 196175000)

/-- The tuned frequency of a set channel lies within the band (R115). -/
def chanOk (v : Variant) (c : TxConfig) : Bool :=
  let f := (180000000 : Int) + c.chan.toNat * 6250 + c.fine.toInt
  c.chan == 0 || (((bandLimits v).1 : Int) ≤ f && f ≤ ((bandLimits v).2 : Int))

/-- Every value lies in its range (R115, R117, R126). -/
def txRangeOk (v : Variant) (c : TxConfig) : Bool :=
  within c.fine.toInt 3125 && c.atten.toNat ≤ 1000 && c.rolloff.toNat ≤ 16 && c.dacBackoff.toNat ≤ 24
    && within c.txcd.toInt 5000 && chanOk v c
    && c.quad.toList.all (fun q => within q.pe.toInt 60 && within q.gain.toInt 100 && within q.skew.toInt 200)

/-- TX_CONFIG_WRITE (R126). -/
def txConfigWriteBody (r : Request) (s : State) : Answer :=
  let n := field r.params 0 1
  let c := parseTx r.params
  guards [
    (badForm r 32 || !zeroAt r.params 1 3, .badParam),
    (!s.hasEngine n || !txRangeOk s.ident.variant c, .range),
    (!s.holdsEngine r.port n, .notTenant),
    (s.holdsScope 4 n, .busy)]
    (.ok .ok [] (s.stage (engOf n) fun p => { p with tx := c }))

/-- TX_CONFIG_WRITE. -/
def execTxConfigWrite (r : Request) (s : State) : Host.Outcome State Fault Refusal :=
  opcode 0x0401 false r s (txConfigWriteBody r)

/-- TX_CONFIG_READ (R126). -/
def txConfigReadBody (r : Request) (s : State) : Answer :=
  engineGuards (badEngineCopy r) r s fun e =>
    answer (renderTx (u8 r.params 0) (copyOf (u8 r.params 1) (s.eng e).params).tx) s

/-- TX_CONFIG_READ. -/
def execTxConfigRead (r : Request) (s : State) : Host.Outcome State Fault Refusal :=
  opcode 0x0402 false r s (txConfigReadBody r)

/-! ## TX_STATUS and TX_BIAS_HOLD -/

/-- The attenuator commands the launch target. -/
def Engine.rampDone (x : Engine) : Bool := x.tx.setpoint == x.txParams.launch

/-- STEP of R127: 1 until the locker closes, 3 while the bias loops acquire or wait for the Gauge's hold to end, 4 while the
attenuator ramps, 5 while the output settles (R120; log 26). -/
def State.txStep (s : State) (e : Eng) : Nat :=
  let x := s.eng e
  if x.tx.mode != .enabling then 0
  else if x.tx.step == 4 && x.rampDone then 5 else x.tx.step

/-- The 16 bytes of R127. -/
def State.txStatus (s : State) (e : Eng) : Bytes :=
  let x := s.eng e
  [byte e.val, x.txCode, byte (s.txStep e), x.tx.lastQuench, (x.tx.acquired &&& ~~~x.tx.held).setWidth 8,
   x.tx.held.setWidth 8] ++ be 2 x.tx.pOut ++ be 4 x.tx.freqErr ++ be 2 x.tx.clipped ++ [0, 0]

/-- TX_STATUS (R127). -/
def txStatusBody (r : Request) (s : State) : Answer :=
  engineGuards (badEngine3 r) r s fun e => answer (s.txStatus e) s

/-- TX_STATUS. -/
def execTxStatus (r : Request) (s : State) : Host.Outcome State Fault Refusal :=
  opcode 0x0403 false r s (txStatusBody r)

/-- A hold by the host takes effect: the loops held change, and a sequence that waits for held loops goes on (R120, R128).
With some loops held step 3 still waits until the others are acquired: R120 speaks of the held loops only
(log 26). -/
def State.hostHold (s : State) (e : Eng) (hold : BitVec 6) : State :=
  let s := s.updEng e fun x => { x with tx := { x.tx with hostHold := hold } }
  let s := s.rehold e 0x02
  let t := (s.eng e).tx
  if t.mode == .enabling && t.step == 3 && hold == 0x3F && !s.gauge.hold then
    s.updEng e fun x => { x with tx := { x.tx with step := 4, acquired := 0x3F } }
  else s

/-- TX_BIAS_HOLD takes ENGINE and HOLD (R128). -/
def txBiasHoldBody (r : Request) (s : State) : Answer :=
  engineGuards (badForm r 2 || field r.params 1 1 > 0x3F) r s fun e =>
    .ok .ok [] (s.hostHold e ((u8 r.params 1).setWidth 6))

/-- TX_BIAS_HOLD. -/
def execTxBiasHold (r : Request) (s : State) : Host.Outcome State Fault Refusal :=
  opcode 0x0404 false r s (txBiasHoldBody r)

/-! ## Events of the enable and quench sequences -/

/-- The wavelength locker closes with FINE applied: the bias loops acquire, and the receiver begins (R116, R118, R120,
R149).  With every loop held by the host step 3 completes at once. -/
def execLockerLocked (e : Eng) (s : State) : Host.Outcome State Fault Refusal :=
  eventIf s ((s.eng e).tx.mode == .enabling && (s.eng e).tx.step == 1) fun s =>
    let all := (s.eng e).tx.hostHold == 0x3F && !s.gauge.hold
    let s := s.updEng e fun x => { x with tx := { x.tx with
      step := if all then 4 else 3, acquired := if all then 0x3F else 0,
      tuned := x.txParams.tx.fine.toInt * 10000000 } }
    let s := s.rehold e 0x02
    if (s.eng e).rx.mode == .off then s.rxWait e else s

/-- All six bias loops are acquired: steps 3 and 4, unless the Gauge holds them (R120). -/
def execBiasAcquired (e : Eng) (s : State) : Host.Outcome State Fault Refusal :=
  eventIf s ((s.eng e).tx.mode == .enabling && (s.eng e).tx.step == 3 && !s.gauge.hold) fun s =>
    s.updEng e fun x => { x with tx := { x.tx with step := 4, acquired := 0x3F } }

/-- Output has settled within ±0.5 dB of the launch target: the engine is lit and tx.ready is raised (R120). -/
def execTxReady (e : Eng) (pOut : BitVec 16) (freqErr : BitVec 32) (s : State) : Host.Outcome State Fault Refusal :=
  eventIf s ((s.eng e).tx.mode == .enabling && (s.eng e).tx.step == 4 && (s.eng e).rampDone
      && (s.eng e).txParams.powerOk pOut (s.eng e).txParams.launch 50000000) fun s =>
    (s.updEng e fun x => { x with tx := { x.tx with mode := .lit, step := 0, pOut := pOut, freqErr := freqErr } }).raise
      0x0401 (.engine e) (be 2 pOut ++ be 4 freqErr)

/-- The last DEP frame has been sent: the fast quench starts, the chain ends with termination, and the transmitter
stops where LINE is 0x0 (R121, R197, R219). -/
def execDepEnd (e : Eng) (s : State) : Host.Outcome State Fault Refusal :=
  eventIf s ((s.eng e).tx.mode == .departing && (s.eng e).tx.depLeft == some 0) fun s =>
    let reason := (s.eng e).tx.reason
    s.fastQuench e reason true

/-- Laser current has reached zero: tx.quenched, and what follows the quench (R121 to R123, R454).  Where LINE is a profile
again after its DEP, the transmitter starts even though the engine stays dark (R123, R219). -/
def execTxQuenched (e : Eng) (s : State) : Host.Outcome State Fault Refusal :=
  eventIf s ((s.eng e).tx.mode == .quenching) fun s =>
    let t := (s.eng e).tx
    let s := s.updEng e fun x => { x with tx := { x.tx with
      lastQuench := t.reason, enableNext := false, newFn := false,
      mode := if t.fault then .laserFault else if s.weir.hold then .heldDark else .dark } }
    let s := s.raise 0x0402 (.engine e) [t.reason]
    if (s.eng e).txParams.line == 0 || (s.eng e).tileFailed then s
    else if t.enableNext && s.mayLight e then s.txEnable e t.newFn 0
    else if t.newFn then s.txStart e 0
    else s

/-- A laser fault is declared (R122).  The locker and current tests run only while the laser is driven, which it also is
in the fast quench of a channel change, until it retunes (R121, R123); the TEC test runs whenever the TEC does; the Gauge
hold suspends the current and TEC tests (R431). -/
def execLaserFault (e : Eng) (cause : Fin 3) (s : State) : Host.Outcome State Fault Refusal :=
  let x := s.eng e
  eventIf s (s.hasEngine e && !x.tx.fault && !s.calInvalid e
      && (cause == 2 || x.litOrEnabling || (x.tx.mode == .quenching && x.tx.reason == 2))
      && (cause == 0 || !s.gauge.hold)) fun s =>
    let s := s.updEng e fun x => { x with tx := { x.tx with
      fault := true, faultOff := x.txParams.line == 0,
      mode := match x.tx.mode with | .dark => .laserFault | m => m } }
    (s.raise 0x0405 (.engine e) [byte (cause.val + 1)]).quench e 7

/-- Measured output has differed for 10 ms by more than 1.5 dB from the setpoint that the attenuator commands, on a lit
engine (R117); of the readings of those 10 ms `pOut` is the last and `nearest` the one nearest to the setpoint.  The event
gives the setpoint in 0.01 dBm, rounded down. -/
def execTxPowerFault (e : Eng) (pOut nearest : BitVec 16) (s : State) : Host.Outcome State Fault Refusal :=
  let power := (s.eng e).tx.setpoint
  let x := s.eng e
  let far := fun (v : BitVec 16) => !x.txParams.powerOk v power 150000000
  eventIf s (x.tx.mode == .lit && far pOut && far nearest) fun s =>
    (s.updEng e fun x => { x with tx := { x.tx with pOut := pOut } }).raise 0x0406 (.engine e)
      (be 2 pOut ++ be 2 (BitVec.ofInt 16 (power / 1000000)))

end Sys2Proof.Machine
end

