-- ==== Sys2Proof/Machine/Gauge.lean ====
section
/-! DEFINITION. Group 0x0F: the monitor converters GA and GB, the cross-check and its hold, the GB sequence and its
decimators (spec/16_gauge_monitor.md). -/

namespace Sys2Proof.Machine

/-! ## Channels and the sequence's settings (R427, R443) -/

/-- The engine of an engine channel (R427). -/
def channelEngine (c : Nat) : Option Nat :=
  if 16 ≤ c && c < 48 then some ((c - 16) / 8) else if 48 ≤ c && c < 60 then some ((c - 48) / 3) else none

/-- A channel exists and is populated; GB may convert every such channel (R427). -/
def State.hasChannel (s : State) (c : Nat) : Bool :=
  c < 64 && (match channelEngine c with | some n => s.hasEngine n | none => true)

/-- GA converts a channel in its cycle (R427). -/
def State.gaSamples (s : State) (c : Nat) : Bool :=
  s.hasChannel c && c != 5 && c != 6 && c != 15 && c < 60

/-- An entry from its eight bytes. -/
def parseEntry (p : Bytes) (o : Nat) : GaugeEntry :=
  { channel := u8 p o, sample := u8 p (o + 1), gain := u8 p (o + 2), order := u8 p (o + 3), ratio := u16 p (o + 4),
    flags := u8 p (o + 6) }

/-- The eight bytes of an entry. -/
def renderEntry (e : GaugeEntry) : Bytes := [e.channel, e.sample, e.gain, e.order] ++ be 2 e.ratio ++ [e.flags, 0]

/-- The sequence from the 136 bytes of R443. -/
def parseSeq (p : Bytes) : GaugeSeq :=
  { count := u8 p 0, pace := u16 p 2, entries := Vector.ofFn fun i => parseEntry p (8 + 8 * i.val) }

/-- The 136 bytes of R443. -/
def renderSeq (q : GaugeSeq) : Bytes :=
  [q.count, 0] ++ be 2 q.pace ++ zeros 4 ++ (q.entries.toList.map renderEntry).flatten

/-- A GAIN code is illegal. -/
def badGain (g : Byte) : Bool := g != 0 && g != 1 && g != 2 && g != 4 && g != 8

/-- Entry `i` of the 136 bytes is ill-formed: unused and not zero, or used with an illegal field. -/
def badEntry (p : Bytes) (count i : Nat) : Bool :=
  let e := parseEntry p (8 + 8 * i)
  if i ≥ count then !zeroAt p (8 + 8 * i) 8
  else badGain e.gain || e.ratio == 0 || e.flags.toNat > 1 || !zeroAt p (15 + 8 * i) 1

/-- A used entry lies in its ranges. -/
def State.entryOk (s : State) (e : GaugeEntry) : Bool :=
  s.hasChannel e.channel.toNat && e.sample.toNat ≤ 64 && e.ratio.toNat ≤ 1024
    && (e.order == 0 || (3 ≤ e.order.toNat && e.order.toNat ≤ 5))

/-- The used entries of a sequence. -/
def GaugeSeq.used (q : GaugeSeq) : List GaugeEntry := q.entries.toList.take q.count.toNat

/-- GAUGE_SEQ_WRITE (R442, R443). -/
def gaugeSeqWriteBody (r : Request) (s : State) : Answer :=
  let q := parseSeq r.params
  guards [
    (notPrincipal r, .notPrincipal),
    (badForm r 136 || !zeroAt r.params 1 1 || !zeroAt r.params 4 4
      || (List.range 16).any (fun i => badEntry r.params q.count.toNat i), .badParam),
    (q.count.toNat > 16 || q.used.any (fun e => !s.entryOk e), .range),
    (s.holdsModule 12, .busy)]
    (.ok .ok [] { s with gauge := { s.gauge with seq := { s.gauge.seq with staged := q } } })

/-- GAUGE_SEQ_WRITE. -/
def execGaugeSeqWrite (r : Request) (s : State) : Host.Outcome State Fault Refusal :=
  opcode 0x0F01 false r s (gaugeSeqWriteBody r)

/-- GAUGE_SEQ_READ (R443). -/
def gaugeSeqReadBody (r : Request) (s : State) : Answer :=
  guards [(badForm r 4 || !zeroAt r.params 1 3 || field r.params 0 1 > 1, .badParam)]
    (answer (renderSeq (copyOf (u8 r.params 0) s.gauge.seq)) s)

/-- GAUGE_SEQ_READ. -/
def execGaugeSeqRead (r : Request) (s : State) : Host.Outcome State Fault Refusal :=
  opcode 0x0F02 false r s (gaugeSeqReadBody r)

/-! ## Results (R426, R434, R437) -/

/-- A gain's place in the offsets: ×1, ×2, ×4, ×8; 0 selects ×1. -/
def gainIndex (g : Byte) : Nat := if g == 2 then 1 else if g == 4 then 2 else if g == 8 then 3 else 0

/-- A raw code with offset and gain corrected, before clipping.  GC01's eight conversions at the entry's gain give
`offset`, eight times the offset, and GC00's, less GC01's at ×1, `span`, eight times nominal 2,048 over the gain.  Between
two whole codes the rounding is free, and so is the code where no gain can be formed (R426, R437, log 16). -/
def State.correctedBy (s : State) (k : Nat) (offset span : Int) (raw : BitVec 12) : Int :=
  if span ≤ 0 then (Config.freeValue (s.fresh + k) % 4096 : Nat)
  else s.whole k ((8 * (raw.toNat : Int) - offset) * 2048) span.toNat

/-- A raw GB code corrected, before clipping (R426, R437). -/
def State.corrected (s : State) (gain : Byte) (raw : BitVec 12) : Int :=
  let g := s.gauge
  s.correctedBy 0 (g.offsets.getD (gainIndex gain) 0) (g.gain - g.offsets.getD 0 0) raw

/-- A code clipped to 0 to 4,095. -/
def clipCode (i : Int) : BitVec 16 := BitVec.ofNat 16 (min i.toNat 4095)

/-- The mark of a clipped code (R434). -/
def isClipped (i : Int) : Bool := i < 0 || i > 4095

/-- A result of GA: its raw code corrected and clipped (R426). -/
def State.gaCode (s : State) (k : Nat) (raw : BitVec 12) : BitVec 12 :=
  (clipCode (s.correctedBy k s.gauge.gaOffset (s.gauge.gaGain - s.gauge.gaOffset) raw)).setWidth 12

/-- A result written now would overwrite the register (R434). -/
def GaugeState.overruns (g : GaugeState) : Bool := g.buffer.length ≥ 4096 && g.register.isSome

/-- Write a result to the register: it drains into the buffer, or stays, overwriting what the full buffer left there
(R434). -/
def State.putResult (s : State) (r : GbResult) : State :=
  let g := s.gauge
  if g.buffer.length < 4096 then { s with gauge := { g with buffer := g.buffer ++ [r] } }
  else match g.register with
    | none => { s with gauge := { g with register := some r } }
    | some _ =>
      let s := { s with gauge := { g with
        register := some { r with flags := r.flags ||| 2 }, lost := bump g.lost, lostLong := g.lostLong + 1 } }
      s.count .gaugeOverrun 0 1

/-- A result that ends now. -/
def State.resultNow (s : State) (tag : Byte) (flags : Nat) (value : BitVec 16) : GbResult :=
  { tag := tag, flags := byte flags, value := value, time := s.moduleTime.setWidth 32 }

/-! ## Decimators (R438, R439) -/

/-- ORDER in force. -/
def GaugeEntry.n (e : GaugeEntry) : Nat := if e.order == 0 then 3 else e.order.toNat

/-- The integrators after one conversion: each adds the new sum of the one before. -/
def integrate : List Nat → Nat → List Nat
  | [], _ => []
  | a :: as, x => (a + x) :: integrate as (a + x)

/-- The combs at an output: the stored values and the difference left. -/
def comb : List Int → Int → List Int × Int
  | [], v => ([], v)
  | c :: cs, v =>
    let r := comb cs (v - c)
    (v :: r.1, r.2)

/-- v / 2^k to the nearest integer, ties to even. -/
def roundShift (v k : Nat) : Nat :=
  let q := v / 2 ^ k
  let r := 2 * (v % 2 ^ k)
  if r > 2 ^ k || (r == 2 ^ k && q % 2 == 1) then q + 1 else q

/-- The smallest k with 2^k ≥ R^N, for R ≥ 2. -/
def cicShift (n r : Nat) : Nat := (r ^ n - 1).log2 + 1

/-- Lists of N entries, filled with zeros. -/
def padTo {α : Type} (z : α) (n : Nat) (l : List α) : List α := (l ++ List.replicate n z).take n

/-- One conversion feeds a decimator of R ≥ 2: its new state, and at each R-th conversion an output with its INVALID
and clipped marks (R438, R439). -/
def Cic.feed (c : Cic) (e : GaugeEntry) (x : Nat) (clipped : Bool) : Cic × Option (Nat × Bool × Bool) :=
  let n := e.n
  let sums := integrate (padTo 0 n c.sums) x
  let hit := c.clipped || clipped
  if c.phase + 1 < e.ratio.toNat then ({ c with sums := sums, phase := c.phase + 1, clipped := hit }, none)
  else
    let r := comb (padTo 0 n c.combs) (sums.getLastD 0)
    let left := c.invalid.getD n
    ({ sums := sums, combs := r.1, phase := 0, invalid := some (left - 1), clipped := false },
     some (roundShift r.2.toNat (cicShift n e.ratio.toNat), left > 0, hit))

/-- Every decimator whose bit is set starts again (R433). -/
def State.resetCics (s : State) (mask : BitVec 16) : State :=
  { s with gauge := { s.gauge with cic := Vector.ofFn fun i => if mask.getLsbD i.val then {} else s.gauge.cic[i] } }

/-- A result of a sequence entry: stored, or decimated first (R434, R438, R439). -/
def State.entryResult (s : State) (n : Fin 16) (e : GaugeEntry) (raw : BitVec 12) : State :=
  let code := s.corrected e.gain raw
  let clipped := isClipped code
  let value := clipCode code
  let store := fun (s : State) (flags : Nat) (v : BitVec 16) =>
    ({ s with gauge := { s.gauge with lastValues := s.gauge.lastValues.set n v } }).putResult
      (s.resultNow (byte n.val) flags v)
  let s := s.skip
  if e.ratio.toNat ≤ 1 then store s (bit clipped 2) value
  else
    let r := s.gauge.cic[n].feed e value.toNat clipped
    let s := { s with gauge := { s.gauge with cic := s.gauge.cic.set n r.1 } }
    match r.2 with
    | none => s
    | some (v, invalid, hit) =>
      if invalid && e.flags.getLsbD 0 then s else store s (bit invalid 0 + bit hit 2 + 8) (BitVec.ofNat 16 v)

/-! ## The cross-check and the Gauge hold (R430, R431) -/

/-- GC00_TOL in force. -/
def GaugeState.tolerance (g : GaugeState) : Nat := if g.tol == 0 then 8 else g.tol.toNat

/-- Loops, sequencers and enable sequences follow the start or end of the hold (R118, R120, R179, R431). -/
def State.holdEngines (s : State) (on : Bool) : State :=
  (List.finRange 4).foldl (fun s e =>
    if !s.hasEngine e.val then s
    else if on then (s.rehold e 1).calHold e true
    else (s.hostHold e (s.eng e).tx.hostHold).calHold e false) s

/-- The hold of the check begins or ends, with its event (R431). -/
def State.checkHold (s : State) (on : Bool) (data : Bytes) : State :=
  (({ s with gauge := { s.gauge with hold := on } }).raise (if on then 0x0F02 else 0x0F03) .module data).holdEngines on

/-- What the two codes of a cycle make of the disagreement and of the hold (R430, R431). -/
def State.judgeCheck (s : State) (ga gb : BitVec 12) : State :=
  let g := s.gauge
  if ((ga.toNat : Int) - gb.toNat).natAbs > g.tolerance then
    let bad := g.bad + 1
    let s := { s with gauge := { g with disagreed := true, bad := bad, good := 0 } }
    let s := s.count .gaugeChecksDisagreed 0 1
    let s := if g.disagreed then s else s.raise 0x0F01 .module (be 2 (ga.setWidth 16) ++ be 2 (gb.setWidth 16))
    if !g.hold && bad ≥ g.disagreeN.toNat then
      s.checkHold true [sat 8 bad]
    else s
  else
    let s := { s with gauge := { g with disagreed := false, bad := 0, good := g.good + 1 } }
    if g.hold && g.good + 1 ≥ 16 then
      s.checkHold false []
    else s

/-- GB makes the check conversion, under the corrections in force: a result of its own, compared with GA's (R430, R431,
R441). -/
def State.compareCheck (s : State) (ga raw : BitVec 12) : State :=
  let code := s.corrected 1 raw
  let gb := clipCode code
  let t := s.skip
  let t : State := { t with gauge := { t.gauge with gbCheck := gb.setWidth 12 } }
  (t.putResult (s.resultNow 0x11 (bit (isClipped code) 2) gb)).judgeCheck ga (gb.setWidth 12)

/-! ## GB's work (R432, R433, R435, R436) -/

/-- A check that waited for GB is made now. -/
def State.makeCheck (s : State) : State :=
  match s.gauge.checkDue with
  | none => s
  | some (ga, gb) => ({ s with gauge := { s.gauge with checkDue := none } }).compareCheck ga gb

/-- GB, whose conversion has ended, takes its next work (R436). -/
def State.gbNext (s : State) : State :=
  match s.gauge.injections with
  | r :: rest => { s with gauge := { s.gauge with work := .injection r, injections := rest } }
  | [] =>
    let s := s.makeCheck
    let g := s.gauge
    match g.calibrations with
    | r :: _ => { s with gauge := { g with work := .calibration r } }
    | [] =>
      let q := g.seq.active
      let n : Fin 16 := Fin.ofNat 16 g.due
      if g.pass && g.due < q.count.toNat then { s with gauge := { g with work := .entry n q.entries[n] } }
      else { s with gauge := { g with work := .idle } }

/-- The entry after the one just converted, and what follows the last one of a pass (R432). -/
def GaugeState.advance (g : GaugeState) (n : Nat) : GaugeState :=
  if n + 1 < g.seq.active.count.toNat then { g with due := n + 1 }
  else if g.seq.active.pace == 0 then { g with due := 0 }
  else { g with due := 0, pass := g.late, late := false }

/-- A GB conversion ends. -/
def State.gbEnd (s : State) (raw : BitVec 12) : State :=
  match s.gauge.work with
  | .idle | .calibration _ => s
  | .injection r =>
    let gain := u8 r.params 2
    let code := s.corrected gain raw
    let flags := bit (isClipped code) 2
    let lost := bit s.gauge.overruns 1
    let v := clipCode code
    let s := s.skip
    let s := ({ s with gauge := { s.gauge with injected := v } }).putResult (s.resultNow 0x10 flags v)
    (s.conclude 0x0F03 r .ok (be 2 v ++ [byte (flags + lost), 0])).gbNext
  | .entry n e =>
    let s := s.entryResult n e raw
    match s.gauge.restart with
    | some mask => (({ s with gauge := { s.gauge with restart := none } }).resetCics mask).gbNext
    | none => ({ s with gauge := s.gauge.advance n.val }).gbNext

/-- A GB conversion ends with a raw code. -/
def execGbConversionEnd (raw : BitVec 12) (s : State) : Host.Outcome State Fault Refusal := event s fun s => s.gbEnd raw

/-- Injections and calibrations whose requests are no longer in execution are given up, and GB goes on (R61). -/
def State.gbDrop (s : State) : State :=
  let s := { s with gauge := { s.gauge with injections := [], calibrations := [] } }
  match s.gauge.work with
  | .injection _ | .calibration _ => s.gbNext
  | _ => s

/-- A pass starts at the tick whose module time it is: a multiple of PACE (R432). -/
def State.passDue (s : State) : Bool :=
  let q := s.gauge.seq.active
  q.count != 0 && q.pace != 0 && s.moduleTime.toNat % q.pace.toNat == 0 && s.gauge.passAt != some s.moduleTime

/-- A pass starts at its tick, or is late (R432). -/
def State.passTick (s : State) : State :=
  let s := { s with gauge := { s.gauge with passAt := some s.moduleTime } }
  if s.gauge.pass then
    if s.gauge.late then s else ({ s with gauge := { s.gauge with late := true } }).count .gaugePaceLate 0 1
  else
    let s := { s with gauge := { s.gauge with pass := true, due := 0 } }
    if s.gauge.work = .idle then s.gbNext else s

/-- An MFC tick that is a multiple of PACE. -/
def execGbPassTick (s : State) : Host.Outcome State Fault Refusal := eventIf s s.passDue fun s => s.passTick

/-- A GA cycle starts: `codes` are GA's raw codes in channel order and `check` GB's of GC00 (R426, R429, R430).
While GB runs an injection or a calibration the check waits (R436, R441).  It preempts an entry's conversion, and where a
commit waits for that conversion the new sequence starts after the check (R430, R433). -/
def State.gaCycle (s : State) (codes : List (BitVec 12)) (check : BitVec 12) : State :=
  let ga := Vector.ofFn fun (i : Fin 64) =>
    if s.gaSamples i.val then (match codes[i.val]? with | some c => s.gaCode i.val c | none => s.gauge.gaLast[i]) else 0
  let s := { s with fresh := s.fresh + 64, gauge := { s.gauge with gaLast := ga, cycleAt := some s.moduleTime } }
  let wait := match s.gauge.work with | .injection _ | .calibration _ => true | _ => false
  if wait then { s with gauge := { s.gauge with checkDue := some (ga[0], check) } }
  else
    let s := ({ s with gauge := { s.gauge with checkDue := none } }).compareCheck ga[0] check
    match s.gauge.restart with
    | some mask => (({ s with gauge := { s.gauge with restart := none } }).resetCics mask).gbNext
    | none => s

/-- A GA cycle starts at this tick: module time is a multiple of 6,250 (R429). -/
def State.cycleDue (s : State) : Bool := s.moduleTime.toNat % 6250 == 0 && s.gauge.cycleAt != some s.moduleTime

/-- A GA cycle. -/
def execGaCycleStart (codes : List (BitVec 12)) (check : BitVec 12) (s : State) : Host.Outcome State Fault Refusal :=
  eventIf s s.cycleDue fun s => s.gaCycle codes check

/-- Entries whose decimator a commit resets (R433). -/
def changedEntries (old new : GaugeSeq) : BitVec 16 :=
  (List.finRange 16).foldl (fun m i =>
    let a := old.entries[i]
    let b := new.entries[i]
    if i.val ≥ old.count.toNat || a.channel != b.channel || a.gain != b.gain || a.order != b.order || a.ratio != b.ratio
      then m ||| (1 : BitVec 16) <<< i.val else m) 0

/-- A commit of class GAUGE reaches its boundary: the conversion in progress completes under its old entry, then the new
sequence starts (R433, R441). -/
def State.gaugeCommit (s : State) : State :=
  let g := s.gauge
  let new := g.seq.staged
  let mask := changedEntries g.seq.active new
  let s := { s with gauge := { g with
    seq := { g.seq with active := new }, due := 0, pass := new.count != 0, late := false } }
  match g.work with
  | .entry _ _ => { s with gauge := { s.gauge with restart := some (mask ||| g.restart.getD 0) } }
  | .idle => (s.resetCics mask).gbNext
  | .injection _ | .calibration _ => s.resetCics mask

/-- A DEC_SYNC source edge resets every decimator (R415, R439). -/
def execDecimatorReset (s : State) : Host.Outcome State Fault Refusal :=
  eventIf s (s.time.config.active.decSync != 0) fun s =>
    let s := s.resetCics 0xFFFF
    { s with time := { s.time with decResets := s.time.decResets + 1 } }

/-! ## GAUGE_INJECT, GAUGE_CALIBRATE, GAUGE_CHECK_WRITE (R435, R437, R444) -/

/-- GAUGE_INJECT: answered when the conversion ends.  It preempts a calibration or an entry's conversion, and where a
commit waits for that conversion the new sequence's decimators start now. -/
def gaugeInjectBody (r : Request) (s : State) : Answer :=
  let running := match s.gauge.work with | .injection _ => true | _ => false
  let restart := s.gauge.restart
  guards [
    (notPrincipal r, .notPrincipal),
    (badForm r 4 || badGain (u8 r.params 2) || !zeroAt r.params 3 1, .badParam),
    (!s.hasChannel (field r.params 0 1) || field r.params 1 1 > 64, .range)]
    (.later (
      if running then { s with gauge := { s.gauge with injections := s.gauge.injections ++ [r] } }
      else
        let s := { s with gauge := { s.gauge with work := .injection r, restart := none } }
        match restart with | some mask => s.resetCics mask | none => s))

/-- GAUGE_INJECT. -/
def execGaugeInject (r : Request) (s : State) : Host.Outcome State Fault Refusal :=
  opcode 0x0F03 false r s (gaugeInjectBody r)

/-- GAUGE_CALIBRATE: answered when the calibration ends. -/
def gaugeCalibrateBody (r : Request) (s : State) : Answer :=
  let s1 := { s with gauge := { s.gauge with calibrations := s.gauge.calibrations ++ [r] } }
  guards [(notPrincipal r, .notPrincipal), (badForm r 4 || !zeroAt r.params 0 4, .badParam)]
    (.later (if s.gauge.work = .idle then s1.gbNext else s1))

/-- GAUGE_CALIBRATE. -/
def execGaugeCalibrate (r : Request) (s : State) : Host.Outcome State Fault Refusal :=
  opcode 0x0F04 false r s (gaugeCalibrateBody r)

/-- A calibration completes: `offsets` are the sums of GC01's eight conversions at each gain, `gain` GC00's (R437). -/
def State.calibrated (s : State) (offsets : List Int) (gain : Int) : State :=
  match s.gauge.work with
  | .calibration r =>
    let s := { s with gauge := { s.gauge with
      offsets := offsets, gain := gain, calibrations := s.gauge.calibrations.drop 1 } }
    (s.conclude 0x0F04 r .ok []).gbNext
  | _ => s

/-- A GB calibration completes. -/
def execGaugeCalDone (offsets : List Int) (gain : Int) (s : State) : Host.Outcome State Fault Refusal :=
  event s fun s => s.calibrated offsets gain

/-- GAUGE_CHECK_WRITE (R444). -/
def gaugeCheckWriteBody (r : Request) (s : State) : Answer :=
  guards [
    (notPrincipal r, .notPrincipal),
    (badForm r 4 || field r.params 1 1 == 0 || !zeroAt r.params 2 2, .badParam),
    (field r.params 0 1 > 64, .range)]
    (.ok .ok [] { s with gauge := { s.gauge with tol := u8 r.params 0, disagreeN := u8 r.params 1 } })

/-- GAUGE_CHECK_WRITE. -/
def execGaugeCheckWrite (r : Request) (s : State) : Host.Outcome State Fault Refusal :=
  opcode 0x0F05 false r s (gaugeCheckWriteBody r)

/-! ## GAUGE_STATUS and GAUGE_RESULT_READ (R445, R446) -/

/-- The 144 bytes of R445. -/
def State.gaugeStatus (s : State) : Bytes :=
  let g := s.gauge
  [byte (bit g.hold 0 + bit g.disagreed 1 + bit (g.buffer.length ≥ 4096) 2),
   byte (s.power.strap0.toNat + 8 * s.power.strap1.toNat)]
  ++ be 2 g.gaLast[0] ++ be 2 g.gbCheck ++ [byte g.tolerance, g.disagreeN] ++ beBytes 2 g.buffer.length
    ++ be 2 (sat 16 g.lost.toNat)
  ++ zeros 4 ++ (g.gaLast.toList.map fun c => be 2 c).flatten

/-- GAUGE_STATUS (R445). -/
def gaugeStatusBody (r : Request) (s : State) : Answer := guards [(badForm r 0, .badParam)] (answer s.gaugeStatus s)

/-- GAUGE_STATUS. -/
def execGaugeStatus (r : Request) (s : State) : Host.Outcome State Fault Refusal :=
  opcode 0x0F06 false r s (gaugeStatusBody r)

/-- The eight bytes of a result (R434). -/
def resultBytes (x : GbResult) : Bytes := [x.tag, x.flags] ++ be 2 x.value ++ be 4 x.time

/-- Results leave the buffer, and a register that waited drains into it (R434, R441). -/
def GaugeState.takeResults (g : GaugeState) (k : Nat) : GaugeState :=
  let left := g.buffer.drop k
  match g.register with
  | some x => if left.length < 4096 then { g with buffer := left ++ [x], register := none } else { g with buffer := left }
  | none => { g with buffer := left }

/-- GAUGE_RESULT_READ (R446): MAX is one byte, so its largest value is 255. -/
def gaugeResultReadBody (r : Request) (s : State) : Answer :=
  let max_ := field r.params 0 1
  let k := min max_ s.gauge.buffer.length
  guards [(badForm r 4 || max_ == 0 || !zeroAt r.params 1 3, .badParam)]
    (answer ([byte k, 0, 0, 0] ++ be 4 s.gauge.lost ++ ((s.gauge.buffer.take k).map resultBytes).flatten)
      { s with gauge := s.gauge.takeResults k })

/-- GAUGE_RESULT_READ. -/
def execGaugeResultRead (r : Request) (s : State) : Host.Outcome State Fault Refusal :=
  opcode 0x0F07 false r s (gaugeResultReadBody r)

end Sys2Proof.Machine
end

