-- ==== Sys2Proof/Machine/Headwater.lean ====
section
/-! DEFINITION. Group 0x0D: reference selection, build-out, written phase steps, holdover and outputs
(spec/14_headwater_references.md). -/

namespace Sys2Proof.Machine

/-! ## Configuration (R395) -/

/-- One PPS output from its eight bytes. -/
def parsePps (p : Bytes) (o : Nat) : PpsOut := { src := u8 p o, width := u16 p (o + 2), comp := u32 p (o + 4) }

/-- The configuration from the 56 bytes of R395. -/
def parseHw (p : Bytes) : HwConfig :=
  { mode := u8 p 0, force := u8 p 1, flags := u8 p 2, refout := u8 p 3, wtr := u16 p 4, refin := u8 p 6,
    priority := Vector.ofFn fun i => u8 p (8 + i.val), allowance := u32 p 24, ppsComp := #v[u32 p 28, u32 p 32],
    ppsOut := #v[parsePps p 36, parsePps p 44] }

/-- The 56 bytes of R395. -/
def renderHw (c : HwConfig) : Bytes :=
  [c.mode, c.force, c.flags, c.refout] ++ be 2 c.wtr ++ [c.refin, 0] ++ c.priority.toList ++ be 4 c.allowance
    ++ (c.ppsComp.toList.map fun v => be 4 v).flatten
    ++ (c.ppsOut.toList.map fun o => [o.src, 0] ++ be 2 o.width ++ be 4 o.comp).flatten ++ zeros 4

/-- REVERTIVE. -/
def HwConfig.revertive (c : HwConfig) : Bool := c.flags.getLsbD 0
/-- The listed inputs, highest first (R381). -/
def HwConfig.listed (c : HwConfig) : List Byte := c.priority.toList.takeWhile (· != 0)
/-- ALLOWANCE in force, in ns. -/
def HwConfig.bound (c : HwConfig) : Nat := if c.allowance == 0 then 1100 else c.allowance.toNat
/-- REFIN_FREQ of REFIN `n`. -/
def HwConfig.refinFreq (c : HwConfig) (n : Nat) : Nat := c.refin.toNat / 4 ^ n % 4

/-- An input code of R378 that names a populated instance, or 0 for none. -/
def State.inputOk (s : State) (code : Byte) : Bool :=
  !(9 ≤ code.toNat && code.toNat ≤ 12) || s.hasEngine (code.toNat - 9)

/-- A code is BAD-PARAM: above the fourteen inputs (R378). -/
def badInput (code : Byte) : Bool := code.toNat > 14

/-- Every value lies in its range (R395). -/
def hwRangeOk (c : HwConfig) : Bool :=
  c.wtr.toNat ≤ 720 && (c.allowance == 0 || (10 ≤ c.allowance.toNat && c.allowance.toNat ≤ 1000000))
    && c.ppsComp.toList.all (fun v => within v.toInt 1000000)
    && c.ppsOut.toList.all (fun o => o.width.toNat ≤ 50000 && within o.comp.toInt 1000000)

/-- HW_CONFIG_WRITE (R394, R395). -/
def hwConfigWriteBody (r : Request) (s : State) : Answer :=
  let c := parseHw r.params
  guards [
    (notPrincipal r, .notPrincipal),
    (badForm r 56 || c.mode.toNat > 2 || c.refout.toNat > 3 || c.flags.toNat > 15 || c.refin.toNat > 15
      || badInput c.force || c.priority.toList.any badInput || c.ppsOut.toList.any (fun o => o.src.toNat > 2)
      || !zeroAt r.params 7 1 || !zeroAt r.params 37 1 || !zeroAt r.params 45 1 || !zeroAt r.params 52 4, .badParam),
    (!hwRangeOk c || !s.inputOk c.force || c.priority.toList.any (fun i => !s.inputOk i), .range),
    (s.holdsModule 11, .busy)]
    (.ok .ok [] { s with hw := { s.hw with config := { s.hw.config with staged := c } } })

/-- HW_CONFIG_WRITE. -/
def execHwConfigWrite (r : Request) (s : State) : Host.Outcome State Fault Refusal :=
  opcode 0x0D01 false r s (hwConfigWriteBody r)

/-- HW_CONFIG_READ (R395). -/
def hwConfigReadBody (r : Request) (s : State) : Answer :=
  guards [(badForm r 4 || !zeroAt r.params 1 3 || field r.params 0 1 > 1, .badParam)]
    (answer (renderHw (copyOf (u8 r.params 0) s.hw.config)) s)

/-- HW_CONFIG_READ. -/
def execHwConfigRead (r : Request) (s : State) : Host.Outcome State Fault Refusal :=
  opcode 0x0D02 false r s (hwConfigReadBody r)

/-! ## Inputs -/

/-- Index of an input code; code 0 is none and is not asked for. -/
def inputOf (code : Byte) : Fin 14 := Fin.ofNat 14 (code.toNat - 1)
/-- Code of an input (R378). -/
def inputCode (i : Fin 14) : Byte := byte (i.val + 1)
/-- The input of a code. -/
def State.input (s : State) (code : Byte) : HwInput := s.hw.inputs[inputOf code]
/-- Change an input. -/
def State.updInput (s : State) (i : Fin 14) (f : HwInput → HwInput) : State :=
  { s with hw := { s.hw with inputs := s.hw.inputs.set i (f s.hw.inputs[i]) } }

/-- A phase input: PPS0, PPS1, TDA, TDB (R378). -/
def phaseInput (code : Byte) : Bool := code == 3 || code == 4 || code == 13 || code == 14

/-- The input is populated and configured: REFIN with a declared frequency, SYNCE with a nomination, a time domain with
its servo on (R398). -/
def State.inputUsed (s : State) (i : Fin 14) : Bool :=
  if i.val < 2 then s.hw.config.active.refinFreq i.val != 0
  else if i.val < 4 then true
  else if i.val < 8 then (s.synce.active.toList.getD (i.val - 4) (0, 0)).1 != 0
  else if i.val < 12 then s.hasEngine (i.val - 8)
  else ((s.time.config.active.td.toList.getD (i.val - 12) {}).mode) == 1

/-- The source offers the input as far as the module knows: the nominated port not failed (R274), the receiver in TRACK
(R137), the servo locked (R402). -/
def State.inputOffered (s : State) (i : Fin 14) : Bool :=
  s.inputUsed i && (
    if i.val < 4 then true
    else if i.val < 8 then
      let c := (s.synce.active.toList.getD (i.val - 4) (0, 0)).1.toNat - 1
      !(s.cports.toList.getD c {}).failed
    else if i.val < 12 then (s.eng (engOf (i.val - 8))).rx.lineOffered
    else (s.time.td.toList.getD (i.val - 12) {}).mode == .locked)

/-! ## Selection (R381, R382, R384, R392) -/

/-- MFC periods in one second, times 4,096: a period is 4,096 / 25 ns (R15). -/
def ticksPerSecond4096 : Nat := 25000000000

/-- Whole seconds that `ticks` MFC periods last. -/
def secondsOf (ticks : Nat) : Nat := ticks * 4096 / ticksPerSecond4096

/-- An input above the selected one has stayed qualified for WTR (R381). -/
def State.reverts (s : State) (i : HwInput) : Bool :=
  i.waited || secondsOf (s.moduleTime - i.since).toNat ≥ s.hw.config.active.wtr.toNat

/-- The supervisors evaluate the selection: not headless, and no takeover in progress (R19, R392). -/
def State.selects (s : State) : Bool := !s.sup.headless && !s.inTakeover

/-- The input due now, if any (R381, R382). -/
def State.dueInput (s : State) : Option Byte :=
  let c := s.hw.config.active
  let sel := s.hw.selected
  let fit := fun (i : Byte) => (s.input i).qualified && i != sel
  if !s.selects then none
  else if c.mode == 1 then (if c.force != 0 && fit c.force then some c.force else none)
  else if c.mode != 0 then none
  else if sel == 0 then c.listed.find? fit
  else if !c.revertive then none
  else (c.listed.takeWhile (· != sel)).find? fun i => fit i && s.reverts (s.input i)

/-- The state in which the timebase is steered meanwhile: the state itself, or the one a build-out came from. -/
def HwState.steering (h : HwState) : HwMode := if h.mode == .buildOut then h.origin else h.mode

/-- Holdover steers the timebase. -/
def HwState.holding (h : HwState) : Bool := h.steering == .holdover

/-- Cause that hw.selected will give (R399). -/
def HwState.whyNow (h : HwState) (commit : Bool) : Byte :=
  if h.selected == 0 then (if commit && h.lostBy != 4 then 3 else h.lostBy) else if commit then 3 else 2

/-- Start a build-out on the input that is due, if any (R383, R385). -/
def State.hwEvaluate (s : State) (commit : Bool) : State :=
  if s.hw.mode == .buildOut then s
  else match s.dueInput with
    | none => s
    | some i => { s with hw := { s.hw with
        mode := .buildOut, origin := s.hw.mode, candidate := i, windowStep := 0, cause := s.hw.whyNow commit } }

/-- The build-out is abandoned: back to the state it came from (R384, R385). -/
def State.abandon (s : State) : State :=
  if s.hw.mode == .buildOut then
    { s with hw := { s.hw with mode := s.hw.origin, candidate := 0, windowStep := 0 } }
  else s

/-! ## Holdover (R387, R388) -/

/-- MFC periods in one day. -/
def ticksPerDay : Nat := 527343750000

/-- The oven's days (R388). -/
def State.ocxoDays (s : State) : Nat :=
  s.hw.ovenDays + secondsOf (s.moduleTime - s.hw.ovenSince).toNat / 86400

/-- B of R388 times 864, in ps: (B0 + F·t) · 864 + k·t², where F is 550 or 1,500 ps/s and k, from ½A, 1 or 5. -/
def holdoverBound (b0 t days : Nat) (full : Bool) : Nat :=
  864 * (b0 + (if full then 550 else 1500) * t) + (if days ≥ 30 then 1 else 5) * t * t

/-- MFC periods in 64 s, and in 100 ms rounded up. -/
def ticks64s : Nat := 390625000
/-- The 100 ms before detection. -/
def ticks100ms : Nat := 610352

/-- The history that holdover averages: the last 64 s of the loop's frequency but the last 100 ms, or what there is (R387;
log 13). -/
def HwState.history (h : HwState) : List Int :=
  let l := (h.freqs.drop ticks100ms).take ticks64s
  if l.isEmpty then h.freqs else l

/-- Holdover begins: the frequency is frozen at the mean of the history, or at a free value where there is none, and B0 is
the loop's phase error (R387, R388).  F0 is 0.05 ppb with a full history and after 1,000 s in LOCKED. -/
def State.enterHoldover (s : State) (lost : Byte) : State :=
  let h := s.hw
  let full := decide (h.history.length ≥ ticks64s) && (match h.lockedFor with
    | some n => decide (secondsOf n ≥ 1000)
    | none => false)
  let b0 := h.phaseErr.natAbs
  let f := if h.history.isEmpty then BitVec.ofNat 32 s.free
    else BitVec.ofInt 32 (h.history.sum / (h.history.length : Int))
  let s := { s with fresh := s.fresh + 1, hw := { h with
    hoTime := 0, hoPhase := b0, hoFull := full, hoFreq := f, hoBound := 864 * b0, outOfSpec := false,
    lockedFor := none } }
  s.raise 0x0D02 .module [lost]

/-- HOLDOVER for a lost or unselected input: nothing is selected any more. -/
def State.toHoldover (s : State) (lost lostBy : Byte) : State :=
  let s := s.enterHoldover lost
  { s with hw := { s.hw with mode := .holdover, selected := 0, buildOut := 0, lostBy := lostBy } }

/-- Once per second in holdover the bound is computed (R388). -/
def State.holdoverTick (s : State) : State :=
  let h := s.hw
  let t := h.hoTime + 1
  let b := holdoverBound h.hoPhase t s.ocxoDays h.hoFull
  let beyond := decide (b > 864000 * s.hw.config.active.bound)
  let s := { s with hw := { h with hoTime := t, hoBound := b, outOfSpec := h.outOfSpec || beyond } }
  if beyond && !h.outOfSpec then s.raise 0x0D04 .module (beBytes 4 t) else s

/-- The holdover timer goes on through a reset that keeps the rails (R506).  No event leaves then: the bound that is beyond
ALLOWANCE is told at the first second after ready (DESIGN CHOICE, log 13). -/
def State.holdoverOn (s : State) : State :=
  let t := s.hw.hoTime + 1
  { s with hw := { s.hw with hoTime := t, hoBound := holdoverBound s.hw.hoPhase t s.ocxoDays s.hw.hoFull } }

/-- One second passes in holdover. -/
def execHoldoverSecond (s : State) : Host.Outcome State Fault Refusal :=
  if !s.ready && s.railsOn && s.hw.holding then .next s.holdoverOn else eventIf s s.hw.holding fun s => s.holdoverTick

/-! ## Qualification and loss (R379, R385) -/

/-- An input lies within ±12 ppm, in 0.001 ppm, as do pulses 1 s ± 12 µs apart; a time domain is judged by its servo
(R379). -/
def nearNominal (i : Fin 14) (freq : BitVec 32) : Bool := decide (i.val ≥ 12) || within freq.toInt 12000

/-- A cause of disqualification is one of the input's own: no edge or the frequency of a REFIN, no pulse or the period of a
PPS, withdrawal or the frequency of a SYNCE, withdrawal of a LINE, loss of its lock for a time domain; what is withdrawn or
unlocked is no longer offered (R379, R398). -/
def State.lossFits (s : State) (i : Fin 14) (cause : BitVec 4) : Bool :=
  let own : BitVec 4 := if i.val < 2 then 3 else if i.val < 4 then 5 else if i.val < 8 then 10 else 8
  cause != 0 && cause &&& ~~~own == 0 && !(cause.getLsbD 3 && s.inputOffered i)

/-- An input's qualifying condition has held for its time. -/
def execInputQualifyTimer (i : Fin 14) (freq : BitVec 32) (s : State) : Host.Outcome State Fault Refusal :=
  eventIf s (!(s.hw.inputs[i]).qualified && s.inputOffered i && nearNominal i freq) fun s =>
    let s := s.updInput i fun x => { x with qualified := true, since := s.moduleTime, waited := false }
    (s.raise 0x0D05 .module [inputCode i]).hwEvaluate false

/-- Forced onto an input that is not qualified, Headwater holds: in HOLDOVER, or in FREERUN where there is no history; a
build-out is abandoned (R382). -/
def State.forceOut (s : State) (lost : Byte) : State :=
  if s.hw.mode == .freerun || s.hw.mode == .holdover then s
  else if s.hw.mode == .buildOut && s.hw.origin == .freerun then s.abandon
  else if s.hw.holding then
    let s := s.abandon
    { s with hw := { s.hw with lostBy := 3 } }
  else ({ s with hw := { s.hw with candidate := 0, windowStep := 0 } }).toHoldover lost 3

/-- MODE 0x01 names an input that is neither selected nor qualified (R382). -/
def State.forcedOut (s : State) : Bool :=
  let c := s.hw.config.active
  c.mode == 1 && s.hw.selected != c.force && !(s.input c.force).qualified

/-- An input is disqualified (R379, R385, R392).  In BUILD_OUT the table raises only hw.holdover.enter for the steering
input, and nothing for the candidate. -/
def State.disqualify (s : State) (i : Fin 14) (cause : BitVec 4) : State :=
  let code := inputCode i
  let s := s.updInput i fun x => { x with qualified := false, cause := cause, waited := false }
  let lost := fun (s : State) => { s with hw := { s.hw with fallback := s.hw.fallback || s.sup.headless } }
  if s.hw.mode == .buildOut then
    if s.hw.selected == code then
      let s := lost (s.enterHoldover code)
      { s with hw := { s.hw with origin := .holdover, selected := 0, buildOut := 0, lostBy := 1 } }
    else if s.hw.candidate == code then
      (if s.forcedOut then s.forceOut s.hw.selected else s.abandon.hwEvaluate false)
    else s
  else if s.hw.selected == code then
    let s := s.raise 0x0D06 .module [code, cause.setWidth 8]
    (lost (s.toHoldover code 1)).hwEvaluate false
  else s

/-- An input's condition fails. -/
def execInputLoss (i : Fin 14) (cause : BitVec 4) (s : State) : Host.Outcome State Fault Refusal :=
  eventIf s ((s.hw.inputs[i]).qualified && s.lossFits i cause) fun s => s.disqualify i cause

/-- PPS_COMP of a PPS input, in ps; 0 for any other (R378, R395). -/
def HwConfig.compOf (c : HwConfig) (code : Byte) : Int :=
  if code == 3 then (c.ppsComp[0]).toInt else if code == 4 then (c.ppsComp[1]).toInt else 0

/-- The window ends: the offset is stored, less the steps written meanwhile, and the candidate is selected (R383 to
R385, R393).  `phase` is by how much the candidate lags the Headwater phase at its contact, as measured from the window's
start; PPS_COMP is subtracted from it (R395). -/
def State.windowEnd (s : State) (phase : Int) : State :=
  let h := s.hw
  let code := h.candidate
  let was := h.holding
  let s := { s with fresh := s.fresh + 1, hw := { h with
    mode := .acquiring, selected := code, before := code, candidate := 0, windowStep := 0, lockedFor := none,
    phaseErr := (BitVec.ofNat 32 s.free).toInt, within := 0,
    buildOut := if phaseInput code then phase - h.config.active.compOf code - h.windowStep else 0, outOfSpec := false } }
  let s := s.raise 0x0D01 .module [code, h.before, h.cause]
  let s := if was then s.raise 0x0D03 .module ([code, 0] ++ beBytes 4 h.hoTime) else s
  s.hwEvaluate false

/-- A build-out window ends. -/
def execBuildOutWindowEnd (phase : Int) (s : State) : Host.Outcome State Fault Refusal :=
  eventIf s (s.hw.mode == .buildOut) fun s => s.windowEnd phase

/-- Time for which the phase error must stay within its window, in MFC periods rounded up: 10 divided by the bandwidth of
the loop (R378, R380). -/
def lockTicks (c : HwConfig) (code : Byte) : Nat :=
  let tenths := if code == 1 || code == 2 then 10
    else if code == 3 || code == 4 then 1000
    else if 5 ≤ code.toNat && code.toNat ≤ 8 then (if c.flags.getLsbD 1 then 10 else 100)
    else if 9 ≤ code.toNat && code.toNat ≤ 12 then 1
    else 2000
  (tenths * 2500000000 + 4095) / 4096

/-- The window of lock, in ps: ±50 ns for a phase input, ±10 ns for the others (R380). -/
def lockWindow (code : Byte) : Nat := if phaseInput code then 50000 else 10000

/-- The phase error has stayed within its window for 10 divided by the loop's bandwidth (R380). -/
def State.lockReached (s : State) : Bool :=
  decide (s.hw.phaseErr.natAbs ≤ lockWindow s.hw.selected
    ∧ s.hw.within ≥ lockTicks s.hw.config.active s.hw.selected)

/-- Lock is declared (R380). -/
def execHwLockDeclared (s : State) : Host.Outcome State Fault Refusal :=
  eventIf s (s.hw.mode == .acquiring && s.lockReached) fun s =>
    { s with hw := { s.hw with mode := .locked, lockedFor := some 0 } }

/-- A higher input has stayed qualified for WTR (R381). -/
def execWtrExpiry (i : Fin 14) (s : State) : Host.Outcome State Fault Refusal :=
  eventIf s ((s.hw.inputs[i]).qualified && s.hw.config.active.revertive) fun s =>
    (s.updInput i fun x => { x with waited := true }).hwEvaluate false

/-! ## Second boundaries and the tick (R380, R386 to R388, R391, R549) -/

/-- The slew of a written step moves MFC by so much in this MFC period, in 10^−18 s: 50 ns/s until the whole step has been
followed (R386). -/
def State.slewNow (s : State) : Int :=
  match s.hw.slew with
  | none => 0
  | some (a, since) =>
    let left : Int := a.natAbs * 1000000 - (s.moduleTime - since).toNat * 8192
    let m := max 0 (min 8192 left)
    if a < 0 then -m else m

/-- Length of the MFC period that runs, in 10^−18 s of the Headwater phase: 163.84 ns, longer while a delay is slewed (R15,
R386). -/
def State.periodNow (s : State) : Int := 163840000000 + s.slewNow

/-- One second, in 10^−18 s. -/
def secondSpan : Int := 10 ^ 18

/-- A second boundary of the Headwater phase falls into the MFC period that runs (R549). -/
def State.secondHere (s : State) : Bool := decide (s.hw.toSecond < s.periodNow)

/-- The time to the next second boundary after one MFC period (R549). -/
def State.nextSecond (s : State) : Int × Int :=
  let h := s.hw
  if s.secondHere then (h.toSecond - s.periodNow + secondSpan + h.stepNext, 0) else (h.toSecond - s.periodNow, h.stepNext)

/-- The four native egress followers after one MFC period: each follows LINEn, and holds its last frequency while that is
withdrawn (R267, R391). -/
def State.followersNext (s : State) : Vector (BitVec 32) 4 :=
  Vector.ofFn fun e =>
    if (s.eng e).rx.lineOffered then BitVec.ofNat 32 (Config.freeValue (s.fresh + 2 + e.val)) else s.hw.followers[e]

/-- Headwater over one MFC period: the phase, the oven's days, and, while a loop steers, its frequency and phase error,
which are measured, and so free (R380, R387, R388; log 13). -/
def State.hwTick (s : State) : State :=
  let h := s.hw
  let loops := h.steering == .acquiring || h.steering == .locked
  let err := (BitVec.ofNat 32 (Config.freeValue (s.fresh + 1))).toInt
  let day := decide ((s.moduleTime - h.ovenSince).toNat ≥ ticksPerDay)
  { s with fresh := s.fresh + 6, hw := { h with
      toSecond := s.nextSecond.1, stepNext := s.nextSecond.2, followers := s.followersNext,
      ovenDays := if day then h.ovenDays + 1 else h.ovenDays,
      ovenSince := if day then h.ovenSince + BitVec.ofNat 48 ticksPerDay else h.ovenSince,
      lockedFor := h.lockedFor.map (· + 1),
      freqs := if loops then ((BitVec.ofNat 32 s.free).toInt :: h.freqs).take (ticks64s + ticks100ms) else h.freqs,
      phaseErr := if loops then err else h.phaseErr,
      within := if loops && decide (err.natAbs ≤ lockWindow h.selected) then h.within + 1 else 0 } }

/-- The timebase passes an MFC tick (R15 to R17). -/
def State.timebaseTick (s : State) : State :=
  let t := s.hwTick
  { t with moduleTime := s.moduleTime + 1 }

/-! ## Written phase steps (R386, R396) -/

/-- A step is pending or its slew runs. -/
def HwState.stepping (h : HwState) : Bool := h.pending.isSome || h.staged.isSome || h.slew.isSome

/-- HW_PHASE_STEP (R386, R396): AMOUNT 0 cancels a pending step. -/
def hwPhaseStepBody (r : Request) (s : State) : Answer :=
  let amount := (u32 r.params 0).toInt
  let when_ := field r.params 4 1
  guards [
    (notPrincipal r, .notPrincipal),
    (badForm r 8 || (when_ != 1 && when_ != 2) || !zeroAt r.params 5 3, .badParam),
    (!within amount 500000, .range),
    ((when_ == 2 || (amount == 0 && s.hw.staged.isSome)) && s.holdsModule 11, .busy),
    (amount != 0 && s.hw.stepping, .busy)]
    (.ok .ok [] { s with hw := { s.hw with
      pending := if amount != 0 && when_ == 1 then some amount else none,
      staged := if amount != 0 && when_ == 2 then some amount else none } })

/-- HW_PHASE_STEP. -/
def execHwPhaseStep (r : Request) (s : State) : Host.Outcome State Fault Refusal :=
  opcode 0x0D03 false r s (hwPhaseStepBody r)

/-- A written step takes effect: the phase moves, BUILD_OUT falls, the slew of MFC starts.  One of WHEN 0x01 takes effect at
a second boundary, and moves those after it (R386, R393). -/
def State.phaseStep (s : State) (amount : Int) (when_ : Byte) : State :=
  let h := s.hw
  let by_ := amount * 1000000
  let s := { s with hw := { h with
    toSecond := if when_ == 1 then h.toSecond else h.toSecond + by_,
    stepNext := if when_ == 1 then h.stepNext + by_ else h.stepNext,
    slew := if amount == 0 then h.slew else some (amount, s.moduleTime),
    buildOut := if phaseInput h.selected then h.buildOut - amount else h.buildOut,
    windowStep := if h.mode == HwMode.buildOut then h.windowStep + amount else h.windowStep } }
  s.raise 0x0D07 .module (be 4 (BitVec.ofInt 32 amount) ++ [when_])

/-- A pending step of WHEN 0x01 is applied. -/
def State.applyPending (s : State) : State :=
  match s.hw.pending with
  | none => s
  | some a => ({ s with hw := { s.hw with pending := none } }).phaseStep a 1

/-- At the second boundary a step of WHEN 0x01 is applied. -/
def execPhaseStepApply (s : State) : Host.Outcome State Fault Refusal :=
  eventIf s s.secondHere fun s => s.applyPending

/-- The slew of a step completes. -/
def execPhaseSlewEnd (s : State) : Host.Outcome State Fault Refusal :=
  eventIf s s.hw.slew.isSome fun s => { s with hw := { s.hw with slew := none } }

/-- ns of step still to slew at 50 ns/s, toward zero: one MFC period slews 8,192 / 10^6 ps (R386, R397). -/
def State.slewLeft (s : State) : Int :=
  match s.hw.slew with
  | none => 0
  | some (a, since) =>
    let done := (s.moduleTime - since).toNat * 8192
    let left := (a.natAbs * 1000000 - done) / 1000000000
    if a < 0 then -(left : Int) else left

/-! ## Outputs (R389, R390, R504) -/

/-- REFOUT carries its clock (R389). -/
def State.refoutRuns (s : State) : Bool :=
  let c := s.hw.config.active
  c.refout != 0 && !s.hw.refoutStopped && !(s.hw.steering == .freerun && c.flags.getLsbD 2)
    && !(s.hw.holding && s.hw.outOfSpec && c.flags.getLsbD 3)

/-- The frequency on REFOUT in Hz, none while it is squelched (R389, R395). -/
def State.refoutHz (s : State) : Option Nat :=
  if s.refoutRuns then
    some (if s.hw.config.active.refout == 1 then 10000000 else if s.hw.config.active.refout == 2 then 25000000 else 156250000)
  else none

/-- REFOUT restarts after a change of frequency. -/
def execRefoutRestart (s : State) : Host.Outcome State Fault Refusal :=
  eventIf s s.hw.refoutStopped fun s => { s with hw := { s.hw with refoutStopped := false } }

/-- The oven is stable (R504): also before power-on and during reset, in the auxiliary domain (R21). -/
def execOvenStable (s : State) : Host.Outcome State Fault Refusal :=
  .next (if s.power.aux then { s with hw := { s.hw with ovenStable := true } } else s)

/-- A PPS output has a source that is defined: Headwater, or an output time (R390, R403). -/
def State.ppsOn (s : State) (n : Fin 2) : Bool :=
  let src := (s.hw.config.active.ppsOut[n]).src
  src == 1 || (src == 2 && s.time.config.active.outSrc != 0)

/-- A PPS output has risen within the last half second. -/
def State.ppsRecent (s : State) (n : Fin 2) : Bool :=
  match s.hw.ppsRise[n] with
  | none => false
  | some t => decide ((s.moduleTime - t).toNat < 3051757)

/-- A pulse of a PPS output begins in the MFC period that runs, COMP before the boundary it marks: the next or the last
second boundary of the Headwater phase, each marked once, or one of the output time (R390, R403, R549). -/
def State.ppsDue (s : State) (n : Fin 2) : Bool :=
  let o := s.hw.config.active.ppsOut[n]
  if o.src == 1 then
    let rise := fun (b : Int) => b - o.comp.toInt * 1000000
    !s.ppsRecent n && [s.hw.toSecond, s.hw.toSecond - secondSpan].any fun b =>
      decide (0 ≤ rise b ∧ rise b < s.periodNow)
  else if o.src == 2 then
    match s.outDomain, s.outputTime with
    | some d, some t =>
      decide ((-((t : Int) + o.comp.toInt * unitsPerNs / 1000)) % unitsPerSec < (s.domain d).perTick)
    | _, _ => false
  else false

/-- A PPS output rises. -/
def State.ppsEdge (s : State) (n : Fin 2) : State :=
  { s with hw := { s.hw with
    ppsEdges := s.hw.ppsEdges.set n (s.hw.ppsEdges[n] + 1), ppsRise := s.hw.ppsRise.set n (some s.moduleTime) } }

/-- A PPS output rises at its time: its source is on, and for the output time that is defined (R390, R403). -/
def execPpsOutEdge (n : Fin 2) (s : State) : Host.Outcome State Fault Refusal :=
  eventIf s (s.ppsDue n && s.hw.ppsRise[n] != some s.moduleTime) fun s => s.ppsEdge n

/-- A PPS output is high: for WIDTH, of 10 µs units with 0 for 100 µs, after each rise (R390, R395). -/
def State.ppsHigh (s : State) (n : Fin 2) : Bool :=
  let w := (s.hw.config.active.ppsOut[n]).width
  s.ppsOn n && (match s.hw.ppsRise[n] with
    | none => false
    | some t => decide ((s.moduleTime - t).toNat * 4096 < (if w == 0 then 10 else w.toNat) * 250000))

/-! ## Commit of class HEADWATER (R382, R389, R393) -/

/-- SYNCE inputs whose nomination changed qualify afresh, and an input that is no longer configured is disqualified. -/
def State.synceCommit (s : State) (old : Vector (Byte × Byte) 4) : State :=
  (List.finRange 14).foldl (fun s i =>
    let changed := 4 ≤ i.val && i.val < 8 &&
      old.toList.getD (i.val - 4) (0, 0) != s.synce.active.toList.getD (i.val - 4) (0, 0)
    if (s.hw.inputs[i]).qualified && (changed || !s.inputUsed i) then s.disqualify i 8 else s) s

/-- The selection is evaluated again: a build-out whose candidate is no longer due is abandoned (R385, R393). -/
def State.reselect (s : State) : State :=
  if s.hw.mode == .buildOut then
    let open_ : State := { s with hw := { s.hw with mode := s.hw.origin } }
    if open_.dueInput == some s.hw.candidate then s else s.abandon.hwEvaluate true
  else s.hwEvaluate true

/-- The mode and the selection after a commit; in a takeover a build-out goes on, and the new active supervisor evaluates
the selection (R382, R385, R392, R393). -/
def State.selectionCommit (s : State) : State :=
  if s.hw.config.active.mode == 2 then s.forceOut 0
  else if s.forcedOut then s.forceOut s.hw.selected
  else if s.selects then s.reselect
  else { s with hw := { s.hw with evaluate := true } }

/-- The new active supervisor evaluates the selection after a takeover (R392). -/
def State.evaluateAfter (s : State) : State :=
  if s.hw.evaluate then ({ s with hw := { s.hw with evaluate := false } }).reselect else s.hwEvaluate false

/-- A commit of class HEADWATER reaches its boundary. -/
def State.hwCommit (s : State) : State :=
  let old := s.hw.config.active
  let nom := s.synce.active
  let new := s.hw.config.staged
  let step := s.hw.staged
  let stop := old.refout != new.refout && old.refout != 0 && new.refout != 0
  let s := { s with
    synce := { s.synce with active := s.synce.staged },
    hw := { s.hw with
      config := { s.hw.config with active := new }, staged := none,
      refoutStopped := new.refout != 0 && (s.hw.refoutStopped || stop),
      inputs := if old.wtr != new.wtr || old.revertive != new.revertive
        then (s.hw.inputs.map fun (i : HwInput) => { i with waited := false }) else s.hw.inputs } }
  let s := s.synceCommit nom
  let s := if old.mode != new.mode || old.force != new.force || old.priority != new.priority
      || old.revertive != new.revertive then s.selectionCommit
    else if old.wtr != new.wtr then s.hwEvaluate true else s
  match step with
  | some a => s.phaseStep a 2
  | none => s

/-! ## Status (R397, R398) -/

/-- Code of a state (R385). -/
def hwModeCode : HwMode → Byte
  | .freerun => 0 | .acquiring => 1 | .locked => 2 | .buildOut => 3 | .holdover => 4

/-- FREQ_OFF: 0 in FREERUN, the frozen value in holdover, otherwise the loop's, free before it has run for a tick
(log 13). -/
def State.hwFreqOff (s : State) : BitVec 32 :=
  match s.hw.steering with
  | .freerun => 0
  | .holdover => s.hw.hoFreq
  | _ => match s.hw.freqs with | f :: _ => BitVec.ofInt 32 f | [] => BitVec.ofNat 32 s.free

/-- PHASE_ERR: the loop's in ACQUIRING and LOCKED, otherwise 0. -/
def State.hwPhaseErr (s : State) : BitVec 32 :=
  if s.hw.mode == .acquiring || s.hw.mode == .locked then BitVec.ofInt 32 s.hw.phaseErr else 0

/-- Seconds until the first reversion, 0 when no wait runs (R381, R397). -/
def State.wtrLeft (s : State) : Nat :=
  let c := s.hw.config.active
  if c.mode != 0 || !c.revertive || c.wtr == 0 || s.hw.selected == 0 then 0
  else
    let waits := (c.listed.takeWhile (· != s.hw.selected)).filter fun i => (s.input i).qualified && !s.reverts (s.input i)
    let lefts := waits.map fun i => c.wtr.toNat - secondsOf (s.moduleTime - (s.input i).since).toNat
    (lefts.min?).getD 0

/-- HO_BOUND in ns, rounded up: a bound (R397). -/
def State.hoBoundNs (s : State) : BitVec 32 := if s.hw.holding then sat 32 ((s.hw.hoBound + 863999) / 864000) else 0

/-- The 36 bytes of R397. -/
def State.hwStatus (s : State) : Bytes :=
  let h := s.hw
  [hwModeCode h.mode, h.selected, h.candidate,
   byte (bit h.ovenStable 0 + bit (h.holding && h.outOfSpec) 1 + bit (h.holding && h.hoFull && decide (s.ocxoDays ≥ 30)) 2
     + bit (h.pending.isSome || h.staged.isSome) 3 + bit h.slew.isSome 4 + bit h.fallback 5)]
  ++ be 4 s.hwFreqOff ++ be 4 s.hwPhaseErr ++ be 8 (satInt 64 (if phaseInput h.selected then h.buildOut else 0))
  ++ be 4 s.hoBoundNs ++ beBytes 4 (if h.holding then h.hoTime else 0) ++ beBytes 2 s.wtrLeft
  ++ be 2 (BitVec.ofInt 16 s.slewLeft) ++ be 2 (sat 16 s.ocxoDays) ++ [0, 0]

/-- HW_STATUS (R397). -/
def hwStatusBody (r : Request) (s : State) : Answer :=
  guards [(badForm r 0, .badParam)] (answer s.hwStatus s.skip)

/-- HW_STATUS. -/
def execHwStatus (r : Request) (s : State) : Host.Outcome State Fault Refusal :=
  opcode 0x0D04 false r s (hwStatusBody r)

/-- One entry of R398.  Whether an offered input that is not qualified is qualifying now, and its frequency, are measured,
and so free, the latter within ±12 ppm where R379 holds it there; what is withdrawn shows no activity (log 13). -/
def State.inputEntry (s : State) (i : Fin 14) : Bytes :=
  let x := s.hw.inputs[i]
  let used := s.inputUsed i
  let state : Byte :=
    if !used then 0 else if s.hw.selected == inputCode i then 4 else if x.qualified then 3
    else if !s.inputOffered i then 1
    else byte (1 + Config.freeValue (s.fresh + 2 * i.val) % 2)
  let measured := Config.freeValue (s.fresh + 2 * i.val + 1)
  let freq : BitVec 32 :=
    if !s.inputOffered i then 0
    else if x.qualified && i.val < 12 then BitVec.ofInt 32 ((measured % 24001 : Nat) - 12000)
    else BitVec.ofNat 32 measured
  [inputCode i, state, x.cause.setWidth 8, 0] ++ be 4 freq

/-- HW_INPUT_STATUS (R398). -/
def hwInputStatusBody (r : Request) (s : State) : Answer :=
  guards [(badForm r 0, .badParam)]
    (answer ([14, 0, 0, 0] ++ ((List.finRange 14).map s.inputEntry).flatten) { s with fresh := s.fresh + 28 })

/-- HW_INPUT_STATUS. -/
def execHwInputStatus (r : Request) (s : State) : Host.Outcome State Fault Refusal :=
  opcode 0x0D05 false r s (hwInputStatusBody r)

end Sys2Proof.Machine
end

