-- ==== Sys2Proof/Machine/Time.lean ====
section
/-! DEFINITION. Group 0x0E: time domains, PTP settings, timed pulses, captures and the timestamp log
(spec/15_network_time.md). -/

namespace Sys2Proof.Machine

/-! ## TD_CONFIG (R419) -/

/-- One domain block from its 32 bytes. -/
def parseTd (p : Bytes) (o : Nat) : TdBlock :=
  { mode := u8 p o, number := u8 p (o + 1), port := u8 p (o + 2), side := u8 p (o + 3), master := slice p (o + 4) 10,
    slave := slice p (o + 14) 10, bw := u8 p (o + 24), lockWin := u8 p (o + 25), stepThr := u16 p (o + 26) }

/-- The 32 bytes of a domain block. -/
def renderTd (b : TdBlock) : Bytes :=
  [b.mode, b.number, b.port, b.side] ++ b.master ++ b.slave ++ [b.bw, b.lockWin] ++ be 2 b.stepThr ++ zeros 4

/-- The configuration from the 96 bytes of R419. -/
def parseTime (p : Bytes) : TdConfig :=
  { outSrc := u8 p 0, switch := u8 p 1, slewRate := u16 p 2, lts := u8 p 4, decSync := u8 p 5, capDomain := u8 p 6,
    asym := Vector.ofFn fun i => u32 p (8 + 4 * i.val), td := #v[parseTd p 32, parseTd p 64] }

/-- The 96 bytes of R419. -/
def renderTime (c : TdConfig) : Bytes :=
  [c.outSrc, c.switch] ++ be 2 c.slewRate ++ [c.lts, c.decSync, c.capDomain, 0]
    ++ (c.asym.toList.map fun v => be 4 v).flatten ++ zeros 8 ++ (c.td.toList.map renderTd).flatten

/-- No two-bit code of a byte is 0b11. -/
def noThree (b : Byte) : Bool := (List.range 4).all fun i => b.toNat / 4 ^ i % 4 != 3

/-- A code of a domain block is illegal. -/
def badTd (b : TdBlock) : Bool := b.mode.toNat > 1 || b.side.toNat > 1 || b.bw.toNat > 5

/-- TD_CONFIG_WRITE (R418, R419).  DESIGN CHOICE: on a DT0640-C2 a code of LTS_DOMAIN or an entry of ASYM for WE2 or WE3,
whose fields R419 fixes, names no instance in the sense of R2 and is staged like any other (log 36). -/
def tdConfigWriteBody (r : Request) (s : State) : Answer :=
  let c := parseTime r.params
  guards [
    (notPrincipal r, .notPrincipal),
    (badForm r 96 || c.outSrc.toNat > 2 || c.switch.toNat > 1 || c.decSync.toNat > 5 || !noThree c.lts
      || !noThree c.capDomain || c.capDomain.toNat > 63 || c.td.toList.any badTd || !zeroAt r.params 7 1
      || !zeroAt r.params 24 8 || !zeroAt r.params 60 4 || !zeroAt r.params 92 4, .badParam),
    (c.slewRate.toNat > 1000 || c.asym.toList.any (fun v => !within v.toInt 10000000)
      || c.td.toList.any (fun b => !s.hasLane b.port.toNat || b.lockWin.toNat > 100 || b.stepThr.toNat > 10000), .range),
    (s.holdsModule 10, .busy)]
    (.ok .ok [] { s with time := { s.time with config := { s.time.config with staged := c } } })

/-- TD_CONFIG_WRITE. -/
def execTdConfigWrite (r : Request) (s : State) : Host.Outcome State Fault Refusal :=
  opcode 0x0E01 false r s (tdConfigWriteBody r)

/-- TD_CONFIG_READ (R419). -/
def tdConfigReadBody (r : Request) (s : State) : Answer :=
  guards [(badForm r 4 || !zeroAt r.params 1 3 || field r.params 0 1 > 1, .badParam)]
    (answer (renderTime (copyOf (u8 r.params 0) s.time.config)) s)

/-- TD_CONFIG_READ. -/
def execTdConfigRead (r : Request) (s : State) : Host.Outcome State Fault Refusal :=
  opcode 0x0E02 false r s (tdConfigReadBody r)

/-! ## TD_SET (R420) -/

/-- The time or the amount of TD_SET, in 2^−16 ns; a relative FRAC is taken as unsigned. -/
def tdAmount (p : Bytes) (relative : Bool) : Int :=
  let sec : Int := if relative then (u48 p 4).toInt else field p 4 6
  let ns : Int := if relative then (u32 p 12).toInt else field p 12 4
  (sec * 1000000000 + ns) * 65536 + field p 16 2

/-- TD_SET (R420): the time waits for its instant, in place of one that still waits. -/
def tdSetBody (r : Request) (s : State) : Answer :=
  let p := r.params
  let kind := field p 1 1
  let when_ := field p 2 1
  let ns : Int := if kind == 2 then (u32 p 12).toInt else field p 12 4
  let d : Fin 2 := if field p 0 1 == 2 then 1 else 0
  guards [
    (notPrincipal r, .notPrincipal),
    (badForm r 20 || (field p 0 1 != 1 && field p 0 1 != 2) || (kind != 1 && kind != 2) || (when_ != 1 && when_ != 2)
      || !zeroAt p 3 1 || !zeroAt p 10 2 || !zeroAt p 18 2, .badParam),
    (ns.natAbs > 999999999, .range),
    ((s.tdBlock d).mode == 1, .inconsistent)]
    (.ok .ok [] (s.updDomain d fun x => { x with
      setDue := some { relative := kind == 2, second := when_ == 2, amount := tdAmount p (kind == 2) } }))

/-- TD_SET. -/
def execTdSet (r : Request) (s : State) : Host.Outcome State Fault Refusal :=
  opcode 0x0E03 false r s (tdSetBody r)

/-- A domain's time at the instant of a TD_SET: the MFC boundary, or the second boundary of Headwater that falls into the
period after it (R420, R549). -/
def State.setInstant (s : State) (d : Fin 2) (second : Bool) : Int :=
  (s.domain d).time + (if second then (s.domain d).perTick * max 0 s.hw.toSecond / 163840000000 else 0)

/-- A waiting TD_SET takes effect now (R420). -/
def State.applyTdSet (s : State) (d : Fin 2) : State :=
  match (s.domain d).setDue with
  | none => s
  | some x =>
    let amount := if x.relative then x.amount * unitsPerFrac else x.amount * unitsPerFrac - s.setInstant d x.second
    let s := s.updDomain d fun y => { y with setDue := none, mode := .free, everLocked := true }
    s.stepDomain d amount 2

/-- The TD_SET that waits may take effect in this MFC period: one for a second boundary where there is one (R420). -/
def State.setNow (s : State) (d : Fin 2) : Bool :=
  match (s.domain d).setDue with | none => false | some x => !x.second || s.secondHere

/-- The instant of a TD_SET. -/
def execTdSetApply (d : Fin 2) (s : State) : Host.Outcome State Fault Refusal :=
  eventIf s (s.setNow d) fun s => s.applyTdSet d

/-! ## TD_STATUS (R421) -/

/-- Code of a domain's state (R401). -/
def tdModeCode : TdMode → Byte
  | .unset => 0 | .free => 1 | .acquiring => 2 | .locked => 3 | .holdover => 4

/-- The 32 bytes of a domain. -/
def State.tdStatus (s : State) (d : Fin 2) : Bytes :=
  let x := s.domain d
  [tdCode d, tdModeCode x.mode, byte (bit x.everLocked 0 + bit (s.steersHeadwater d) 1 + bit x.path.isSome 2), 0]
  ++ beBytes 6 (secOf x.time) ++ [0, 0] ++ beBytes 4 (nsOf x.time) ++ be 4 x.offset
  ++ be 4 (sat 32 (psOf (x.path.getD 0)).toNat) ++ be 4 (BitVec.ofInt 32 ((x.freq * 10 ^ 12).tdiv (2 ^ 48)))
  ++ be 4 x.syncs

/-- The 16 bytes of the output time. -/
def State.outStatus (s : State) : Bytes :=
  [s.time.config.active.outSrc, if s.outDomain.isNone then 0 else if s.time.slewing then 2 else 1, 0, 0]
  ++ be 8 (satInt 64 ((s.time.outOffset * 1000).tdiv unitsPerNs)) ++ zeros 4

/-- TD_STATUS (R421). -/
def tdStatusBody (r : Request) (s : State) : Answer :=
  guards [(badForm r 0, .badParam)] (answer (s.tdStatus 0 ++ s.tdStatus 1 ++ s.outStatus) s)

/-- TD_STATUS. -/
def execTdStatus (r : Request) (s : State) : Host.Outcome State Fault Refusal :=
  opcode 0x0E04 false r s (tdStatusBody r)

/-- OUT_OFFSET has reached zero: the output time follows its domain (R403). -/
def execOutputTimeSlewEnd (s : State) : Host.Outcome State Fault Refusal :=
  eventIf s s.time.slewing fun s => { s with time := { s.time with slewing := false, outOffset := 0 } }

/-! ## PTP_PORT (R422) -/

/-- PTP_PORT_WRITE (R422). -/
def ptpPortWriteBody (r : Request) (s : State) : Answer :=
  let n := field r.params 0 1
  let c : PtpPort := { flags := u8 r.params 1, tsDomain := u8 r.params 2 }
  guards [
    (badForm r 8 || c.flags.toNat > 31 || c.tsDomain.toNat > 2 || !zeroAt r.params 3 5, .badParam),
    (!s.hasLane n, .range),
    (!s.holdsPort r.port (cpOf n), .notTenant),
    (s.portBusy (cpOf n), .busy)]
    (.ok .ok [] (s.updCport (cpOf n) fun p => { p with
      params := { p.params with staged := { p.params.staged with ptp := c } } }))

/-- PTP_PORT_WRITE. -/
def execPtpPortWrite (r : Request) (s : State) : Host.Outcome State Fault Refusal :=
  opcode 0x0E05 false r s (ptpPortWriteBody r)

/-- PTP_PORT_READ (R422). -/
def ptpPortReadBody (r : Request) (s : State) : Answer :=
  portGuards (badEngineCopy r) r s fun c =>
    let p := (copyOf (u8 r.params 1) (s.cport c).params).ptp
    answer ([byte c.val, p.flags, p.tsDomain] ++ zeros 5) s

/-- PTP_PORT_READ. -/
def execPtpPortRead (r : Request) (s : State) : Host.Outcome State Fault Refusal :=
  opcode 0x0E06 false r s (ptpPortReadBody r)

/-! ## TPO (R412, R413, R423) -/

/-- A schedule from the 32 bytes of R423, armed unless MODE is 0x00. -/
def parseTpo (p : Bytes) : Tpo :=
  { mode := u8 p 1, scale := u8 p 2, flags := u8 p 3, startSec := u48 p 4, startNs := u32 p 12, period := u64 p 16,
    width := u32 p 24, count := u32 p 28, state := if u8 p 1 == 0 then .off else .armed }

/-- The 32 bytes of R423. -/
def renderTpo (n : Byte) (t : Tpo) : Bytes :=
  [n, t.mode, t.scale, t.flags] ++ be 6 t.startSec ++ [0, 0] ++ be 4 t.startNs ++ be 8 t.period ++ be 4 t.width
    ++ be 4 t.count

/-- The form of a schedule is illegal (R4, R423). -/
def badTpo (t : Tpo) : Bool :=
  t.mode.toNat > 2 || t.flags.toNat > 3 || t.scale.toNat > 3 || ((t.mode == 0) != (t.scale == 0))
    || (t.mode == 1 && t.period != 0) || (t.mode == 2 && t.period == 0)

/-- Every value lies in its range; zero is none (R4, R423). -/
def tpoRangeOk (t : Tpo) : Bool :=
  t.startNs.toNat ≤ 999999999 && (t.width == 0 || (10 ≤ t.width.toNat && t.width.toNat ≤ 1000000000))
    && (t.period == 0 || (1000 ≤ t.period.toNat && t.period.toNat ≤ 16000000000))

/-- The time scale of a schedule has a time: its domain has left UNSET, or the output time is defined (R403, R412). -/
def State.scaleSet (s : State) (scale : Byte) : Bool :=
  match tdOf scale with
  | some d => (s.domain d).mode != .unset
  | none => scale == 3 && s.outDomain.isSome

/-- TPO_WRITE (R412, R423). -/
def tpoWriteBody (r : Request) (s : State) : Answer :=
  let n := field r.params 0 1
  let t := parseTpo r.params
  let soon := match s.scaleTime t.scale with
    | some now => decide (t.edge 0 < now + 10000 * unitsPerNs)
    | none => false
  guards [
    (badForm r 32 || badTpo t || !zeroAt r.params 10 2, .badParam),
    (n > 3 || !tpoRangeOk t, .range),
    (!s.holdsTpo r.port n, .notTenant),
    (t.period != 0 && t.width.toNat ≥ t.period.toNat, .inconsistent),
    (t.mode != 0 && !s.scaleSet t.scale, .notReady),
    (t.mode != 0 && soon, .past)]
    (.ok .ok [] (s.updTpo (Fin.ofNat 4 n) fun old => { t with raised := old.raised }))

/-- TPO_WRITE. -/
def execTpoWrite (r : Request) (s : State) : Host.Outcome State Fault Refusal :=
  opcode 0x0E07 false r s (tpoWriteBody r)

/-- Code of a TPO's state. -/
def tpoCode : TpoMode → Byte
  | .off => 0 | .armed => 1 | .running => 2 | .done => 3

/-- The status of a TPO; with no edge to come its NEXT fields are not stated, so they are free (log 16). -/
def State.tpoStatus (s : State) (t : Tpo) : Bytes :=
  let e := t.edge t.next
  let next := if t.live then beBytes 6 (secOf e) ++ [0, 0] ++ beBytes 4 (nsOf e)
    else beBytes 6 s.free ++ [0, 0] ++ beBytes 4 (Config.freeValue (s.fresh + 1))
  [tpoCode t.state, 0] ++ be 2 t.missed ++ be 4 t.emitted ++ next

/-- TPO_READ (R423). -/
def tpoReadBody (r : Request) (s : State) : Answer :=
  let n := field r.params 0 1
  let t := s.time.tpo[Fin.ofNat 4 n]
  guards [(badEngine3 r, .badParam), (n > 3, .range), (!s.holdsTpo r.port n, .notTenant)]
    (answer (renderTpo (byte n) t ++ s.tpoStatus t) { s with fresh := s.fresh + 2 })

/-- TPO_READ. -/
def execTpoRead (r : Request) (s : State) : Host.Outcome State Fault Refusal :=
  opcode 0x0E08 false r s (tpoReadBody r)

/-- The next edge of a schedule falls into the MFC period that runs, at any frequency offset and slew of its time scale. -/
def State.edgeDue (s : State) (t : Tpo) : Bool :=
  t.live && (match s.scaleTime t.scale with
    | some now => decide (now ≤ t.edge t.next ∧ t.edge t.next ≤ now + 2 ^ 48 + 2 * maxFreq)
    | none => false)

/-- The level of a timed pulse output: high, or low with INVERT, for WIDTH after each edge emitted (R412, R423).  A pulse
follows its time scale like its edges; one whose edge has come to lie in the future again by a step back is over
(log 37). -/
def State.tpoHigh (s : State) (n : Fin 4) : Bool :=
  let t := s.time.tpo[n]
  let e := t.edge (t.resume - 1)
  let on := t.state != .off && t.resume != 0 && (match s.scaleTime t.scale with
    | some now => decide (e ≤ now + 2 ^ 48 + 2 * maxFreq ∧ now < e + t.width.toNat * unitsPerNs)
    | none => false)
  on != t.flags.getLsbD 1

/-- An edge is emitted; the last one of a counted schedule, or the only one, ends it with time.tpo.done. -/
def State.emitEdge (s : State) (n : Fin 4) : State :=
  let t := s.time.tpo[n]
  let last := t.mode == 1 || (t.count != 0 && t.emitted.toNat + 1 ≥ t.count.toNat)
  let s := s.updTpo n fun t => { t with
    emitted := t.emitted + 1, next := t.next + 1, resume := t.next + 1, state := if last then .done else .running }
  if last then s.raise 0x0E06 (.tpo n.val) ([byte n.val, 0] ++ be 4 (t.emitted + 1)) else s

/-- A scheduled edge is emitted at its time (R412). -/
def execTpoEdge (n : Fin 4) (s : State) : Host.Outcome State Fault Refusal :=
  eventIf s (s.edgeDue s.time.tpo[n]) fun s => s.emitEdge n

/-! ## Captures (R414, R424) -/

/-- The domain that captures an input's edges. -/
def State.captureDomain (s : State) (i : Fin 3) : Option (Fin 2) :=
  tdOf (byte (s.time.config.active.capDomain.toNat / 4 ^ i.val % 4))

/-- Change a capture queue. -/
def State.updCapture (s : State) (i : Fin 3) (f : CaptureQueue → CaptureQueue) : State :=
  { s with time := { s.time with captures := s.time.captures.set i (f s.time.captures[i]) } }

/-- A rising edge, `quarters` quarter nanoseconds after the last MFC boundary, is captured (R414). -/
def execCaptureEdge (i : Fin 3) (quarters : Nat) (s : State) : Host.Outcome State Fault Refusal :=
  event s fun s =>
    match s.captureDomain i with
    | none => s
    | some d =>
      let x : Capture := {
        mtime := s.moduleTime, domain := tdCode d, quarters := quartersOf ((s.domain d).at_ (quarters * 16384)) }
      let q := s.time.captures[i]
      if q.entries.length ≥ 16 then s.updCapture i fun q => { q with lost := bump q.lost }
      else
        let s := s.updCapture i fun q => { q with entries := q.entries ++ [x] }
        if q.entries.isEmpty then s.raise 0x0E05 .module [byte i.val, 1] else s

/-- The 24 bytes of a capture. -/
def captureBytes (x : Capture) : Bytes :=
  let t := x.quarters * (unitsPerNs / 4)
  be 6 x.mtime ++ [x.domain, 0] ++ beBytes 6 (secOf t) ++ [0, 0] ++ beBytes 4 (nsOf t) ++ beBytes 2 (fracOf t) ++ [0, 0]

/-- CAPTURE_READ (R424). -/
def captureReadBody (r : Request) (s : State) : Answer :=
  let n := field r.params 0 1
  let max_ := field r.params 1 1
  let i : Fin 3 := Fin.ofNat 3 n
  let q := s.time.captures[i]
  let k := min max_ q.entries.length
  guards [
    (notPrincipal r, .notPrincipal),
    (badForm r 4 || n > 2 || max_ == 0 || max_ > 16 || !zeroAt r.params 2 2, .badParam)]
    (answer ([byte k, 0, 0, 0] ++ be 4 q.lost ++ ((q.entries.take k).map captureBytes).flatten)
      (s.updCapture i fun q => { q with entries := q.entries.drop k }))

/-- CAPTURE_READ. -/
def execCaptureRead (r : Request) (s : State) : Host.Outcome State Fault Refusal :=
  opcode 0x0E09 false r s (captureReadBody r)

/-! ## Timestamp log (R411, R424) -/

/-- The 24 bytes of an entry. -/
def tsBytes (x : TsEntry) : Bytes :=
  let t := x.time * unitsPerFrac
  [byte x.port.val, x.type] ++ be 2 x.seq ++ [x.number, x.domain, 0, 0] ++ beBytes 6 (secOf t) ++ [0, 0]
    ++ beBytes 4 (nsOf t) ++ beBytes 2 (fracOf t) ++ [0, 0]

/-- Split off the first `n` entries that a condition admits: those taken, and what stays, in order. -/
def takeSome {α : Type} (p : α → Bool) : Nat → List α → List α × List α
  | 0, l => ([], l)
  | _, [] => ([], [])
  | n + 1, x :: l =>
    if p x then
      let r := takeSome p n l
      (x :: r.1, r.2)
    else
      let r := takeSome p (n + 1) l
      (r.1, x :: r.2)

/-- TSLOG_READ (R424): HP1 to HP3 get the entries of client ports in their tenancy. -/
def tslogReadBody (r : Request) (s : State) : Answer :=
  let max_ := field r.params 0 1
  let t := takeSome (fun (x : TsEntry) => s.holdsCport r.port x.port.val) max_ s.time.log
  guards [(badForm r 4 || max_ == 0 || max_ > 169 || !zeroAt r.params 1 3, .badParam)]
    (answer ([byte t.1.length, 0, 0, 0] ++ be 4 s.time.logLost ++ (t.1.map tsBytes).flatten)
      { s with time := { s.time with log := t.2 } })

/-- TSLOG_READ. -/
def execTslogRead (r : Request) (s : State) : Host.Outcome State Fault Refusal :=
  opcode 0x0E0A false r s (tslogReadBody r)

end Sys2Proof.Machine
end

