-- ==== Sys2Proof/Machine/Validate.lean ====
section
/-! DEFINITION. The cross-checks that a consistency group must pass on the configuration that would result: staged
copies inside the scope, active copies outside it (spec/04_sluice_commits.md, R78, R81, with the checks that the other
chapters state for their parameters). -/

namespace Sys2Proof.Machine

/-! ## The configuration that would result (R78, R81) -/

/-- An engine's parameters after a group of classes takes its staged values (R78). -/
def EngineParams.taking (old new : EngineParams) (classes : BitVec 16) : EngineParams :=
  { profile := if classes.getLsbD 0 then new.profile else old.profile,
    slotmap := if classes.getLsbD 1 then new.slotmap else old.slotmap,
    frame := if classes.getLsbD 2 then new.frame else old.frame,
    fec := if classes.getLsbD 3 then new.fec else old.fec,
    tx := if classes.getLsbD 4 then new.tx else old.tx,
    rx := if classes.getLsbD 5 then new.rx else old.rx,
    cal := if classes.getLsbD 6 then new.cal else old.cal,
    etype := if classes.getLsbD 7 then new.etype else old.etype }

/-- A client port's CLIENT-class parameters lie in the scope of a group (R78, R548). -/
def State.portInScope (s : State) (classes : BitVec 16) (engines : BitVec 4) (c : Cp) : Bool :=
  classes.getLsbD 7 && (s.cportEngines c).any fun e => engines.getLsbD e

/-- Everything the cross-checks read. -/
structure View where
  engines : Vector EngineParams 4
  ports : Vector CportParams 64
  synce : Vector (Byte × Byte) 4
  hw : HwConfig
  time : TdConfig
  deriving DecidableEq, Repr

/-- The configuration that a group would leave (R81). -/
def State.view (s : State) (classes : BitVec 16) (engines : BitVec 4) : View :=
  { engines := s.engines.mapFinIdx fun i x _ =>
      if engines.getLsbD i then x.params.active.taking x.params.staged classes else x.params.active,
    ports := s.cports.mapFinIdx fun i x h =>
      if s.portInScope classes engines ⟨i, h⟩ then x.params.staged else x.params.active,
    synce := if classes.getLsbD 11 then s.synce.staged else s.synce.active,
    hw := if classes.getLsbD 11 then s.hw.config.staged else s.hw.config.active,
    time := if classes.getLsbD 10 then s.time.config.staged else s.time.config.active }

/-- Parameters of engine `e` in a view. -/
def View.eng (v : View) (e : Eng) : EngineParams := v.engines[e]
/-- Formation of port `c` in a view. -/
def View.form (v : View) (c : Cp) : CportConfig := (v.ports[c]).form
/-- Formed ports of a view. -/
def View.formed (v : View) : List Cp := (List.finRange 64).filter fun c => (v.form c).formed
/-- Formed ports of a lane group. -/
def View.group (v : View) (g : Nat) : List Cp := v.formed.filter fun c => (v.form c).first.toNat / 16 == g

/-! ## Twin (R28, R33) -/

/-- Both members of the pair run Twin. -/
def View.twin (v : View) (low hi : Eng) : Bool := (v.eng low).isTwin && (v.eng hi).isTwin

/-- The pair breaks a condition of R28 in the result.  A failed tile counts where the group names a member; a named one
has been answered NOT-READY before. -/
def State.pairFault (s : State) (v : View) (engines : BitVec 4) (low hi : Eng) : Bool :=
  let a := v.eng low
  let b := v.eng hi
  let named := engines.getLsbD low.val && engines.getLsbD hi.val
  let touched := engines.getLsbD low.val || engines.getLsbD hi.val
  let wasLow := (s.eng low).params.active.isTwin
  let wasHi := (s.eng hi).params.active.isTwin
  let changed := wasLow != a.isTwin || wasHi != b.isTwin
  (changed && !named)
  || ((a.isTwin || b.isTwin) && (!a.isTwin || !b.isTwin || a.oxbow || b.oxbow
    || slotsOf a.line == 0 || slotsOf a.line != slotsOf b.line || a.slotmap != b.slotmap
    || !(v.group hi.val).isEmpty || (touched && ((s.eng low).tileFailed || (s.eng hi).tileFailed))))

/-- Starting Twin on the second pair leaves the running pair a smaller U than its last measured differential delay
(R31, R33); the delay is in 1/16 ns, a frame 2,621.44 of them. -/
def State.skewFault (s : State) (v : View) : Bool :=
  let before := fun (p : Eng × Eng) => (s.eng p.1).params.active.isTwin
  twinPairs.any fun p => twinPairs.any fun q => p.1 != q.1 && before p && !before q && v.twin p.1 p.2 && v.twin q.1 q.2
    && (s.eng p.1).twin.skew.natAbs * 100 > (delayStore true (slotsOf (v.eng p.1).line)).2 * 262144

/-! ## One engine (R22, R23, R115, R163, R201, R233, R250, R312) -/

/-- The profile word breaks R23, or R115 without a channel. -/
def EngineParams.profileFault (p : EngineParams) : Bool :=
  (p.oxbow && p.line == 0) || (p.oxbow && p.isTwin)
  || (!p.oxbow && (p.loop || p.oxbSrc != 0 || p.oxbPattern != 0))
  || (p.line != 0 && p.tx.chan == 0)

/-- W of a lit engine changes while its LINE stays (R201). -/
def State.windowFault (s : State) (e : Eng) (new : EngineParams) : Bool :=
  let x := s.eng e
  let old := x.params.active
  x.litOrEnabling && old.line == new.line && old.window != new.window

/-- A dispersion span without the mode that uses it (R163). -/
def EngineParams.rxFault (p : EngineParams) : Bool := p.rx.cdSpan != 0 && p.rx.cdMode != 1

/-- The side channel or the Twin selection is inconsistent (R250). -/
def View.frameFault (v : View) (e : Eng) : Bool :=
  let f := (v.eng e).frame
  (f.scFlags.getLsbD 1 && (!f.scFlags.getLsbD 0 || f.scKey == 0))
  || (f.selMode != 0 && !(e.val % 2 == 0 && (v.eng e).isTwin))

/-- Two valid entries of the EtherType table are equal (R312). -/
def EngineParams.etypeFault (p : EngineParams) : Bool :=
  let ts := (p.etype.toList.filter fun t => t.flags.getLsbD 0).map (·.etype)
  ts.eraseDups.length != ts.length

/-- The engine whose lane group serves an engine: the lower member's for the higher member of a pair (R10, R232). -/
def View.serving (v : View) (e : Eng) : Nat := if e.val % 2 == 1 && (v.eng e).isTwin then e.val - 1 else e.val

/-- Number of slots a map gives to port code `k` (R251). -/
def SlotMap.count (m : SlotMap) (k : Nat) : Nat := m.entries.toList.countP fun b => b.toNat == k

/-- The slot map breaks R233, and with it R9: a formed port takes its full capacity or nothing, so a map that passes
needs no more slots than the lane group supplies.  With LINE 0x0 there is no S, and no bound. -/
def State.mapFault (s : State) (v : View) (e : Eng) : Bool :=
  let p := v.eng e
  let m := p.slotmap
  let old := (s.eng e).params.active.slotmap
  let used := (List.range 65).filter fun k => k != 0 && m.count k != 0
  (p.line != 0 && (m.entries.toList.drop (slotsOf p.line)).any (· != 0))
  || used.any (fun k =>
    let f := v.form (cpOf (k - 1))
    !f.formed || f.first.toNat / 16 != v.serving e || m.count k != f.slots)
  || (m.mapgen == old.mapgen && m.entries != old.entries)
  || (m.mapgen == 0 && !used.isEmpty)

/-- Any check of one engine fails. -/
def State.engineFault (s : State) (v : View) (e : Eng) : Bool :=
  let p := v.eng e
  p.profileFault || s.windowFault e p || p.rxFault || v.frameFault e || p.etypeFault || s.mapFault v e

/-! ## Client ports (R255, R256, R277, R422, R548) -/

/-- A formed port outside the table of R255, outside one lane group, or with FRAME_MAX in native mode (R256, R277). -/
def CportConfig.fault (f : CportConfig) : Bool :=
  let first := f.first.toNat
  let w := f.width.toNat
  f.mode == 0 || f.rate == 0 || first % 16 + w > 16
  || (f.mode == 1 && (f.rate != 2 || !(w == 1 || w == 2 || w == 4 || w == 8) || first % w != 0))
  || (f.mode == 2 && f.frameMax != 0)

/-- The lanes of a formed port of the result are not all ACTIVE or IDLE (R81, R256). -/
def State.lanesUnfit (s : State) (f : CportConfig) : Bool := f.lanes.any fun l => (s.lane l).power == .deep

/-- A port shares a lane with another formed port (R256). -/
def View.shares (v : View) (c : Cp) : Bool :=
  v.formed.any fun d => d != c && (v.form d).lanes.any fun l => (v.form c).lanes.contains l

/-- Code of an engine's LTS domain in a time configuration (R419). -/
def TdConfig.ltsCode (t : TdConfig) (e : Nat) : Nat := t.lts.toNat / 4 ^ e % 4

/-- PTP settings that break R422, or R417 and R419 where TC is set in the result. -/
def State.ptpFault (s : State) (v : View) (c : Cp) : Bool :=
  let p := v.ports[c]
  let e := p.form.engine
  let tc := p.ptp.flags.getLsbD 0
  (p.ptp.flags != 0 && !p.form.ethernet)
  || (p.ptp.flags.toNat / 2 != 0 && p.ptp.tsDomain == 0)
  || (tc && p.form.formed && v.time.ltsCode e == 0)
  || (tc && p.form.formed && v.time.ltsCode e != s.time.config.active.ltsCode e)

/-- Any check of one client port fails. -/
def State.portFault (s : State) (v : View) (c : Cp) : Bool :=
  let f := v.form c
  (f.formed && (f.fault || s.lanesUnfit f || v.shares c)) || s.ptpFault v c

/-- A port in the scope has an engine that the group does not name (R78, R548). -/
def State.halfNamed (s : State) (classes : BitVec 16) (engines : BitVec 4) : Bool :=
  (List.finRange 64).any fun c =>
    s.portInScope classes engines c && (s.cportEngines c).any fun e => !engines.getLsbD e

/-! ## Headwater and time (R274, R395, R419) -/

/-- A nomination names no Ethernet port of the result, or no lane of it (R274). -/
def View.synceFault (v : View) : Bool :=
  v.synce.toList.any fun n => n.1 != 0 &&
    (let f := v.form (cpOf (n.1.toNat - 1))
     !f.ethernet || n.2.toNat ≥ f.width.toNat)

/-- An input that is listed or forced and not there: a REFIN without a frequency, a SYNCE without a nomination
(R395). -/
def View.inputFault (v : View) (code : Byte) : Bool :=
  ((code == 1 || code == 2) && v.hw.refinFreq (code.toNat - 1) == 0)
  || (5 ≤ code.toNat && code.toNat ≤ 8 && (v.synce.toList.getD (code.toNat - 5) (0, 0)).1 == 0)

/-- The Headwater configuration breaks R395. -/
def View.hwFault (v : View) : Bool :=
  let c := v.hw
  let list := c.priority.toList
  (list.dropWhile (· != 0)).any (· != 0)
  || c.listed.eraseDups.length != c.listed.length
  || (c.mode == 1) != (c.force != 0)
  || c.listed.any v.inputFault || (c.force != 0 && v.inputFault c.force)
  || (c.wtr != 0 && !c.revertive)

/-- The time configuration breaks R419.  All four timed outputs are populated, so DEC_SYNC always names one of them. -/
def View.timeFault (v : View) : Bool :=
  v.time.td.toList.any fun b => b.mode == 1 && (!(v.form (cpOf b.port.toNat)).ethernet || b.master.all (· == 0))

/-! ## FLOW and KEY (R308, R369, R370) -/

/-- A staged rekey of a quarantined context under a key not newer than its damaged word (R369). -/
def State.rekeyStale (s : State) (tok : BitVec 32) : Bool :=
  s.flows.staged.any fun x => x.token == tok && (match x.op with
    | .rekey e =>
      let old := s.peekHot (entryCtx e)
      old.state == ctxQuarantined && (s.keySince (field e 4 2)).toNat < old.pn.toNat % 2 ^ 48
    | _ => false)

/-! ## The whole group (R81) -/

/-- Populated engines. -/
def State.populated (s : State) : List Eng := (List.finRange 4).filter fun e => s.hasEngine e.val

/-- The result breaks a cross-check (R81). -/
def State.groupFault (s : State) (classes : BitVec 16) (engines : BitVec 4) : Bool :=
  let v := s.view classes engines
  s.halfNamed classes engines
  || (twinPairs.filter fun p => s.hasEngine p.1.val).any (fun p => s.pairFault v engines p.1 p.2)
  || s.skewFault v
  || s.populated.any (fun e => s.engineFault v e)
  || ((List.finRange 64).filter fun c => s.hasLane c.val).any (fun c => s.portFault v c)
  || v.synceFault || v.hwFault || v.timeFault

/-- The status with which validation rejects a group, if it does (R81, R308). -/
def State.validate (s : State) (classes : BitVec 16) (engines : BitVec 4) (tok : BitVec 32) : Option Status :=
  if s.populated.any fun e => engines.getLsbD e.val && (s.eng e).tileFailed then some .notReady
  else if s.groupFault classes engines then some .inconsistent
  else if classes.getLsbD 8 && s.rekeyStale tok then some .inconsistent
  else if classes.getLsbD 8 && s.egressRekeys tok > s.graceFree then some .queueFull
  else none

end Sys2Proof.Machine
end

