-- ==== Sys2Proof/Machine/Paired.lean ====
section
/-! DEFINITION. Commits at work: how a group takes effect at its boundary, locally or one side at a time, and the
handshake of a paired commit (spec/04_sluice_commits.md, R74, R85, R92 to R99). -/

namespace Sys2Proof.Machine

/-! ## Commits as records -/

/-- Frame number `now` has come to `target`, which lies at most 2^31 frames ahead (R84). -/
def reached (now target : BitVec 32) : Bool := (now - target).toNat < 2 ^ 31

/-- The commit waits for the far end's agreement (R84). -/
def Commit.paired (k : Commit) : Bool := k.trigger == 4 || k.trigger == 5
/-- The end is the initiator. -/
def Commit.initiator (k : Commit) : Bool := k.trigger == 4
/-- The commit names an engine. -/
def Commit.has (k : Commit) (e : Eng) : Bool := k.engines.getLsbD e.val
/-- Own target of engine `e`. -/
def Commit.target (k : Commit) (e : Eng) : BitVec 32 := k.targets[e]
/-- Where a commit's events go: its reference engine, or the whole module where it has only module-wide classes
(R100). -/
def Commit.place (k : Commit) : Place := if k.classes.toNat % 1024 == 0 then .module else .engine k.ref
/-- Named engines. -/
def Commit.named (k : Commit) : List Eng := (List.finRange 4).filter fun e => k.has e

/-- Named engines whose tile works: the group executes on these (R83). -/
def State.liveOf (s : State) (k : Commit) : List Eng := k.named.filter fun e => !(s.eng e).tileFailed
/-- A list of engines as a mask. -/
def engineMask (es : List Eng) : BitVec 4 := es.foldl (fun m e => m ||| (1 : BitVec 4) <<< e.val) 0
/-- Every working named engine is in a mask. -/
def State.allIn (s : State) (k : Commit) (m : BitVec 4) : Bool := (s.liveOf k).all fun e => m.getLsbD e.val

/-- A pending commit by its number. -/
def State.commitOf (s : State) (id : Nat) : Option Commit := s.commits.find? fun k => k.id == id
/-- Replace a pending commit. -/
def State.setCommit (s : State) (k : Commit) : State :=
  { s with commits := s.commits.map fun x => if x.id == k.id then k else x }
/-- A commit ends: its hold with it (R79); an executed one is remembered (R89). -/
def State.endCommit (s : State) (k : Commit) (executed : Bool) : State :=
  { s with commits := s.commits.filter fun x => x.id != k.id,
           spent := if executed then s.spent ++ [(k.id, k.port)] else s.spent }

/-- DATA of commit.done, commit.mismatch, commit.abort and commit.split (R100). -/
def commitData (id : Nat) (b : Byte) (tok : BitVec 32) : Bytes := [byte id, b] ++ be 4 tok

/-! ## Taking effect (R74, R78, R96) -/

/-- An engine's active copy takes its staged values.  `side` is the side of a paired commit that switches first: the
other one keeps the values it ran on.  A side that another commit holds back takes the new values of its classes. -/
def Engine.take (x : Engine) (classes : BitVec 16) (side : Option HeldSide) : Engine :=
  let new := x.params.active.taking x.params.staged classes
  let later := match side with
    | some .transmit => some (HeldSide.receive, x.rxParams)
    | some .receive => some (HeldSide.transmit, x.txParams)
    | none => x.later.map fun l => (l.1, l.2.taking x.params.staged classes)
  { x with params := { x.params with active := new }, later := later }

/-- A commit's classes switch an engine's active copy (R78, R96, R179). -/
def State.takeEngine (s : State) (e : Eng) (classes : BitVec 16) (side : Option HeldSide) : State :=
  (s.keepCal e classes).updEng e fun x => x.take classes side

/-- A client port's active copy takes its staged values.  `side` is the side of a paired commit on an engine that
switches first: the other side's FLOW_PORT and PTP_PORT settings stay those from before (R96). -/
def Cport.take (p : Cport) (side : Option (HeldSide × Eng)) : Cport :=
  let later := match side, p.later with
    | none, _ => none
    | some (first, e), held =>
      let side : HeldSide := match first with | .transmit => .receive | .receive => .transmit
      if (match held with | some (_, e', _) => e' != e | none => false) then held else some (side, e, p.sideOf side)
  { p with params := { p.params with active := p.params.staged }, later := later }

/-- The client ports and lanes in the scope of a group take their staged values (R78, R255, R278).  Formation belongs to
both directions at once and switches with the active copy (R96, R254; log 34). -/
def State.clientCommit (s : State) (engines : BitVec 4) (side : Option (HeldSide × Eng)) : State :=
  let cs := (List.finRange 64).filter fun c => s.portInScope 0x80 engines c
  let olds := cs.map fun c => (c, s.form c)
  let s := (cs.filter fun c => !(s.form c).same (s.cport c).params.staged.form).foldl State.emptyPort s
  let s := cs.foldl (fun s c => s.updCport c fun p => p.take side) s
  let s := (List.finRange 64).foldl (fun s l =>
    if engines.getLsbD (l.val / 16) then s.updLane l fun x => x.takeEq (side.map (·.1)) else s) s
  olds.foldl (fun s o => s.formed o.1 o.2) s

/-- SC_ENC is set anew: a cipher run starts at this commit frame (R245). -/
def FrameConfig.startsCipher (new old : FrameConfig) : Bool := new.scFlags.getLsbD 1 && !old.scFlags.getLsbD 1

/-- Nothing of a group's ingress traffic is carried: PRBS or pattern payload (R35). -/
def EngineParams.shedsGroup (p : EngineParams) : Bool := p.oxbow && p.oxbSrc != 0

/-- Frames that wait for the slots of an engine's ports are discarded (R35). -/
def State.shedGroup (s : State) (e : Eng) : State :=
  ((List.finRange 64).filter fun c => (s.form c).formed && s.portEngine c == e).foldl State.shedWaiting s

/-- The slots' PRBS registers after a commit: seeded anew where it changes the profile word.  The DEP frames of the old
profile carry on its sequences, and an enable seeds its own (R35; that a commit which leaves the word as it is seeds
nothing is the model's reading of 'the commit frame', log 15). -/
def Engine.prbsAfter (x : Engine) (old : EngineParams) : List (BitVec 23) :=
  if old.profile != x.txParams.profile && x.txParams.line != 0 && x.tx.depProfile.isNone then prbsSeeds x.txParams
  else x.tx.prbs

/-- The transmit side of an engine runs on new parameters (R29, R35, R245, R197). -/
def State.txSide (s : State) (e : Eng) (old : EngineParams) : State :=
  let new := (s.eng e).txParams
  let s := s.txApply e old new
  let s := if new.shedsGroup && !old.shedsGroup then s.shedGroup e else s
  s.updEng e fun x => { x with
    tx := { x.tx with prbs := x.prbsAfter old },
    sc := if new.frame.startsCipher old.frame then { x.sc with txShift := none } else x.sc }

/-- dTWIN ends with Twin: no pair runs any more (R237).  The member that DATA names is not stated: it is free (log 16). -/
def State.twinEnd (s : State) (e : Eng) : State :=
  let was := (s.eng e).deframer.twin
  let s := s.updEng e fun x => { x with
    deframer := { x.deframer with twin := false, twinFilter := {} },
    twin := { lower := x.twin.lower, higher := x.twin.higher, lastFn := x.twin.lastFn } }
  if was then s.skip.raise 0x080C (.engine e) [byte s.free] else s

/-- The receive side of an engine runs on new parameters (R35, R36, R237, R241).  Copies that wait in the Twin delay store
when Twin ends are still delivered, and those of a higher member that starts Twin first wait for the lower one.  The rule
does not say when the checker's registers and its counts of errored bits start anew: here at every commit that changes the
profile word (R35; log 15). -/
def State.rxSide (s : State) (e : Eng) (old : EngineParams) : State :=
  let new := (s.eng e).rxParams
  let s := s.rxApply e old new
  let s := if old.isTwin && !new.isTwin then s.twinEnd e else s
  s.updEng e fun x => { x with
    deframer := if old.profile != new.profile then { x.deframer with prbs := [], prbsErrors := [] } else x.deframer,
    twin := if !old.isTwin && new.isTwin then { higher := x.twin.higher, lastFn := x.twin.lastFn } else x.twin }

/-- The higher member takes the lower member's FN where Twin starts; where the lower member's transmitter does not run yet,
it does so once that one starts (R29). -/
def State.twinStep (s : State) (old : Vector EngineParams 4) : State :=
  twinPairs.foldl (fun s p =>
    if !(old[p.2]).isTwin && (s.eng p.2).txParams.isTwin && (s.eng p.1).txParams.isTwin && (s.eng p.1).tx.running then
      s.updEng p.2 fun x => { x with tx := { x.tx with fn := (s.eng p.1).tx.fn } }
    else s) s

/-- The transmit side of engines takes effect at one tick, each with the parameters it ran on before. -/
def State.txSides (s : State) (es : List Eng) (old : Vector EngineParams 4) : State :=
  (es.foldl (fun s e => s.txSide e old[e]) s).twinStep old

/-- Key and flow changes of a token that switch at the transmit boundary (R304, R340). -/
def State.tokenTx (s : State) (k : Commit) : State :=
  let s := if k.classes.getLsbD 9 then s.keysTx k.token else s
  if k.classes.getLsbD 8 then s.flowsCommit k.token false else s

/-- Key and flow changes of a token that switch at the receive boundary (R304, R340). -/
def State.tokenRx (s : State) (k : Commit) : State :=
  let s := if k.classes.getLsbD 9 then s.keysRx k.token else s
  if k.classes.getLsbD 8 then s.flowsCommit k.token true else s

/-- A local group takes effect on every working named engine at one boundary (R74, R83, R85). -/
def State.applyLocal (s : State) (k : Commit) : State :=
  let es := s.liveOf k
  let oldTx := s.engines.map Engine.txParams
  let oldRx := s.engines.map Engine.rxParams
  let s := es.foldl (fun s e => s.takeEngine e k.classes none) s
  let s := if k.classes.getLsbD 7 then s.clientCommit (engineMask es) none else s
  let s := s.txSides es oldTx
  let s := es.foldl (fun s e => s.rxSide e oldRx[e]) s
  let s := (s.tokenTx k).tokenRx k
  let s := if k.classes.getLsbD 10 then s.timeCommit else s
  let s := if k.classes.getLsbD 11 then s.hwCommit else s
  if k.classes.getLsbD 12 then s.gaugeCommit else s

/-- A local commit reaches its boundary: commit.late where TDA stepped past its target, effect, commit.done (R74, R86,
R100). -/
def State.runCommit (s : State) (k : Commit) : State :=
  let s := match k.late with
    | some n => s.raise 0x0306 k.place ([byte k.id, 0] ++ be 4 n)
    | none => s
  let live := engineMask (s.liveOf k)
  let s := s.applyLocal k
  (s.endCommit k true).raise 0x0301 k.place (commitData k.id (live.setWidth 8) k.token)

/-! ## The two sides of a paired commit (R96) -/

/-- A paired commit whose two sides have taken effect on every working named engine ends with commit.done, also after
commit.split (R79, R96). -/
def State.settleCommit (s : State) (id : Nat) : State :=
  match s.commitOf id with
  | none => s
  | some k =>
    if k.txDone && s.allIn k k.rxDone then
      let live := engineMask (s.liveOf k)
      let s := if k.initiator && !k.split then
          k.named.foldl (fun s e => s.updEng e fun x => { x with
            pairDone := some { token := k.token, id := k.id, applied := live, ref := k.ref } }) s
        else s
      (s.endCommit k true).raise 0x0301 k.place (commitData k.id (live.setWidth 8) k.token)
    else s

/-- An engine's active copy at one side of a paired commit: at the first side it changes, at the second the other side
follows it. -/
def State.takeSide (s : State) (k : Commit) (e : Eng) (side : HeldSide) (first : Bool) : State :=
  if first then
    let s := s.takeEngine e k.classes (some side)
    if k.classes.getLsbD 7 then s.clientCommit (engineMask [e]) (some (side, e)) else s
  else
    let s := s.updEng e fun x => { x with later := none }
    if !k.classes.getLsbD 7 then s
    else
      let s := (List.finRange 64).foldl (fun s l => if l.val / 16 == e.val then s.updLane l Lane.settle else s) s
      (List.finRange 64).foldl (fun s c => s.updCport c fun p =>
        if (match p.later with | some (_, x, _) => x == e | none => false) then { p with later := none } else p) s

/-- The transmit side of a paired commit takes effect on every working named engine (R85, R96). -/
def State.pairTx (s : State) (k : Commit) : State :=
  let es := s.liveOf k
  let old := s.engines.map Engine.txParams
  let s := es.foldl (fun s e => s.takeSide k e .transmit (!k.rxDone.getLsbD e.val)) s
  let s := (s.txSides es old).tokenTx k
  (s.setCommit { k with txDone := true }).settleCommit k.id

/-- The engine whose own target sets the group's tick: the reference engine, or, where its tile has failed or it has
not answered ANNOUNCE yet, the first working one that can (R83, R85, R94). -/
def State.keyOf (s : State) (k : Commit) : Eng :=
  let fit : Eng → Bool := fun e => !(s.eng e).tileFailed && (k.trigger != 5 || k.acks.getLsbD e.val)
  if k.engines == 0 || fit k.ref then k.ref else (k.named.find? fit).getD k.ref

/-- The receive side of a paired commit takes effect on one engine (R96). -/
def State.pairRx (s : State) (k : Commit) (e : Eng) : State :=
  let old := (s.eng e).rxParams
  let s := s.takeSide k e .receive (!k.txDone)
  let s := s.rxSide e old
  let s := if e == s.keyOf k then s.tokenRx k else s
  (s.setCommit { k with rxDone := k.rxDone ||| (1 : BitVec 4) <<< e.val }).settleCommit k.id

/-- The end is bound to execute: the initiator from its CONFIRM, the responder once CONFIRM has come on every working
named engine (R95). -/
def State.bound (s : State) (k : Commit) : Bool :=
  if k.initiator then k.state == 3 else s.allIn k k.confirms

/-- The receive side of engine `e` is due at the frame expected next, at the initiator never before its transmit side; while
its deframer is out of SYNC and that frame cannot come, it follows the transmit side (R96; log 34). -/
def State.rxSwitchDue (s : State) (k : Commit) (e : Eng) : Bool :=
  k.paired && k.has e && s.bound k && k.acks.getLsbD e.val && !k.rxDone.getLsbD e.val && !(s.eng e).tileFailed
    && (k.txDone || !k.initiator)
    && (if (s.eng e).deframer.mode == .sync then reached (s.eng e).deframer.expect k.far[e] else k.txDone)

/-! ## The handshake (R92 to R95, R99) -/

/-- Send a CANN phase on every named engine (R93).  An ABORT that still goes out for an ended handshake gives way to a new
one (R98; log 34). -/
def State.sendCann (s : State) (k : Commit) (phase : BitVec 2) : State :=
  k.named.foldl (fun s e => s.updEng e fun x => { x with tx := { x.tx with
    cann := { token := k.token, target := k.target e, mask := k.classes, phase := phase } } }) s

/-- Send a CACK on one engine (R94). -/
def State.sendCack (s : State) (e : Eng) (token target : BitVec 32) (response : BitVec 4) : State :=
  s.updEng e fun x => { x with tx := { x.tx with cack := { token := token, target := target, response := response } } }

/-- Send ABORT as this end of the handshake (R94, R95). -/
def State.sendAbort (s : State) (k : Commit) : State :=
  if k.initiator then
    k.named.foldl (fun s e => if (s.eng e).tx.cann.phase == 0 then s
      else s.updEng e fun x => { x with tx := { x.tx with cann := { x.tx.cann with phase := 3 } } }) s
  else k.named.foldl (fun s e => s.sendCack e k.token (k.target e) 4) s

/-- The named engines note that a responder's commit has ended, so that the initiator's ABORT with this token is no news
(R95, R97). -/
def State.disarm (s : State) (k : Commit) (token : BitVec 32) : State :=
  if k.initiator then s
  else k.named.foldl (fun s e => s.updEng e fun x => { x with deframer := { x.deframer with disarmed := some token } }) s

/-- The end abstains: ABORT, commit.abort or commit.mismatch, and the hold ends (R95). -/
def State.abstain (s : State) (k : Commit) (mismatch : Bool) (b : Byte) : State :=
  (((s.sendAbort k).disarm k k.token).endCommit k false).raise (if mismatch then 0x0302 else 0x0303) k.place (commitData k.id b k.token)

/-- The initiator has every acknowledgement: CONFIRM on every named engine (R95). -/
def State.confirm (s : State) (k : Commit) : State := (s.setCommit { k with state := 3 }).sendCann k 2

/-- commit.split, once: a side has been taken and ABORT is received (R96). -/
def State.splitCommit (s : State) (k : Commit) : State :=
  if k.split then s
  else (s.setCommit { k with split := true }).raise 0x0304 k.place
    (commitData k.id ((engineMask (s.liveOf k)).setWidth 8) k.token)

/-- A side of the commit has taken effect. -/
def Commit.taken (k : Commit) : Bool := k.txDone || k.rxDone != 0

/-- Load a paired commit into the framers: the initiator announces from the next frame, the responder is armed (R93,
R94). -/
def State.startPair (s : State) (k : Commit) : State :=
  let s := k.named.foldl (fun s e => s.updEng e fun x => { x with
    pairDone := none, deframer := { x.deframer with disarmed := none } }) s
  if k.initiator then s.sendCann k 1 else k.named.foldl (fun s e => s.sendCack e 0 0 0) s

/-- The armed responder answers an ANNOUNCE: T_B, counted from the frame that first carries ACK; the reference engine's
sets the others' (R94). -/
def State.acknowledge (s : State) (k : Commit) (e : Eng) (fnr target : BitVec 32) : State :=
  let next : Eng → BitVec 32 := fun x => (s.eng x).tx.fn + 1
  let tb := next e + (target - fnr)
  let acks := k.acks ||| (1 : BitVec 4) <<< e.val
  let targets : Vector (BitVec 32) 4 := Vector.ofFn fun x =>
    if e == k.ref then (if acks.getLsbD x.val then tb + next x - next e else k.target x)
    else if x == e then (if k.acks.getLsbD k.ref.val then k.target k.ref + next e - next k.ref else tb)
    else k.target x
  let k := { k with acks := acks, targets := targets, far := k.far.set e target, state := 5 }
  ((List.finRange 4).filter fun x => acks.getLsbD x.val).foldl (fun s x => s.sendCack x k.token targets[x] 2)
    (s.setCommit k)

/-- The responder's commit armed on an engine. -/
def State.armedOn (s : State) (e : Eng) : Option Commit := s.commits.find? fun k => k.trigger == 5 && k.has e
/-- The initiator's commit announced on an engine. -/
def State.announcedOn (s : State) (e : Eng) : Option Commit := s.commits.find? fun k => k.trigger == 4 && k.has e

/-- ANNOUNCE received (R94, R99). -/
def State.onAnnounce (s : State) (e : Eng) (fnr : BitVec 32) (c : Cann) : State :=
  let mine := (s.eng e).tx.cack
  match s.armedOn e, s.announcedOn e with
  | some k, _ =>
    if c.token == k.token && c.mask == k.classes then
      if k.acks.getLsbD e.val then s else s.acknowledge k e fnr c.target
    else s.sendCack e c.token 0 3
  | none, some _ => s.sendCack e c.token 0 3
  | none, none =>
    if mine.response == 4 && mine.token == c.token then s
    else
      let s := s.sendCack e c.token 0 1
      if s.seenTokens.contains c.token then s
      else ({ s with seenTokens := s.seenTokens ++ [c.token] }).raise 0x0305 (.engine e)
        ([byte e.val, 0] ++ be 4 c.token)

/-- CONFIRM received in a frame with FNR not past C (R95). -/
def State.onConfirm (s : State) (e : Eng) (fnr : BitVec 32) (c : Cann) : State :=
  match s.armedOn e with
  | some k =>
    if c.token == k.token && k.acks.getLsbD e.val && reached (k.far[e] - 256) fnr then
      s.setCommit { k with confirms := k.confirms ||| (1 : BitVec 4) <<< e.val }
    else s
  | none => s

/-- ABORT received.  A responder that was not armed with the token raises commit.mismatch, and abstains where it was
armed with another token or mask; one that was armed raises commit.abort, or commit.split once it has taken a side.  An
ABORT that merely repeats is only answered, and so is one that ends what another named engine, or the responder itself,
has ended already (R92, R94 to R97). -/
def State.onAbort (s : State) (e : Eng) (c : Cann) : State :=
  let d := (s.eng e).deframer
  let repeats := d.abortSeen == some c.token || d.disarmed == some c.token
  let s := s.updEng e fun x => { x with deframer := { x.deframer with abortSeen := some c.token } }
  match s.armedOn e with
  | some k =>
    if c.token == k.token && c.mask == k.classes then
      if k.taken then (s.splitCommit k).sendCack e c.token (k.target e) 4 else s.abstain k false 2
    else if repeats then s.sendCack e c.token 0 4
    else ((s.abstain k true 2).disarm k c.token).sendCack e c.token 0 4
  | none =>
    if repeats || (s.announcedOn e).isSome then s.sendCack e c.token 0 4
    else (s.sendCack e c.token 0 4).raise 0x0302 (.engine e) (commitData 0 2 c.token)

/-- CANN of an accepted frame (R92, R94).  With CANN idle the answer goes idle, but an ABORT stays until the engine's
next handshake (log 22). -/
def State.onCann (s : State) (e : Eng) (fnr : BitVec 32) (c : Cann) : State :=
  let s := if c.phase == 3 then s
    else s.updEng e fun x => { x with deframer := { x.deframer with
      abortSeen := none,
      disarmed := if c.phase == 0 || x.deframer.disarmed != some c.token then none else x.deframer.disarmed } }
  match c.phase.toNat with
  | 1 => s.onAnnounce e fnr c
  | 2 => s.onConfirm e fnr c
  | 3 => s.onAbort e c
  | _ => if (s.eng e).tx.cack.response == 4 then s else s.sendCack e 0 0 0

/-- ACK at the initiator, in frames received before its own FN reaches D (R95). -/
def State.onAck (s : State) (e : Eng) (k : Commit) (target : BitVec 32) : State :=
  let open_ := k.state == 2 && !reached (s.eng (s.keyOf k)).tx.fn (k.target (s.keyOf k) - 1024)
  let k := { k with far := k.far.set e target,
                    acks := if open_ then k.acks ||| (1 : BitVec 4) <<< e.val else k.acks }
  let s := s.setCommit k
  if open_ && s.allIn k k.acks then s.confirm k else s

/-- A late ABORT after the initiator has completed: commit.split (R96, R97). -/
def State.onLateAbort (s : State) (e : Eng) (c : Cack) : State :=
  match (s.eng e).pairDone with
  | none => s
  | some d =>
    if c.response == 4 && c.token == d.token then
      let s := (List.finRange 4).foldl (fun s x => s.updEng x fun y =>
        if y.pairDone == some d then { y with pairDone := none } else y) s
      s.raise 0x0304 (.engine d.ref) (commitData d.id (d.applied.setWidth 8) d.token)
    else s

/-- CACK of an accepted frame (R92, R95). -/
def State.onCack (s : State) (e : Eng) (c : Cack) : State :=
  match s.announcedOn e with
  | some k =>
    if c.token != k.token then s
    else match c.response.toNat with
      | 1 | 3 => s.setCommit { k with mismatch := true }
      | 2 => s.onAck e k c.target
      | 4 => if k.taken then s.splitCommit k
             else if k.state == 3 then s.abstain k false 2
             else s.setCommit { k with aborted := true }
      | _ => s
  | none => s.onLateAbort e c

/-- The initiator's FN reaches D without every acknowledgement (R95). -/
def State.ackDeadline (s : State) (k : Commit) : State :=
  if s.allIn k k.acks then s.confirm k
  else if k.mismatch then s.abstain k true 1
  else s.abstain k false (if k.aborted then 2 else 1)

/-- The reference engine's frames up to D have begun (R95). -/
def State.deadlineDue (s : State) (k : Commit) : Bool :=
  k.initiator && k.state == 2 && reached (s.eng (s.keyOf k)).tx.fn (k.target (s.keyOf k) - 1024)

/-- The responder's FN has come to T_B without CONFIRM by C (R95). -/
def State.responderDue (s : State) (k : Commit) : Bool :=
  k.trigger == 5 && k.acks != 0 && !s.bound k && !k.taken && reached (s.eng (s.keyOf k)).tx.fn (k.target (s.keyOf k))

/-- The next frame of the key engine is the end's own target (R96). -/
def State.txSwitchDue (s : State) (k : Commit) : Bool :=
  k.paired && s.bound k && !k.txDone && reached ((s.eng (s.keyOf k)).tx.fn + 1) (k.target (s.keyOf k))

/-- A local commit is due at the boundary of the tick whose module time is the state's: seen from before the tick, its
frame or its time comes with that tick (R84, R86).  A group all of whose named tiles have failed has no frame to wait
for: it ends at the next tick (R83; log 34). -/
def State.boundaryDue (s : State) (k : Commit) : Bool :=
  match k.trigger.toNat with
  | 1 => match k.dueTick with | some t => (s.moduleTime - t).toNat < 2 ^ 47 | none => false
  | 2 => (k.engines != 0 && (s.liveOf k).isEmpty) || reached ((s.eng (s.keyOf k)).tx.fn + 1) (k.target (s.keyOf k))
  | 3 => match k.dueTick with
    | some t => (s.moduleTime - t).toNat < 2 ^ 47
    | none => ((s.domain 0).time : Int) + (s.domain 0).perTick ≥ timeOf k.targetTime.1.toNat k.targetTime.2.toNat
  | _ => false

/-- The commit point C has passed at this end: counted in the initiator's FN, at the responder in FNR, or in its own FN
while its deframer is out of SYNC (R89, R91, R95; log 22). -/
def State.pastPoint (s : State) (k : Commit) : Bool :=
  let e := s.keyOf k
  k.taken || (if k.initiator then reached (s.eng e).tx.fn (k.target e - 256)
    else k.acks != 0 && (if (s.eng e).deframer.mode == .sync then reached (s.eng e).deframer.fnr (k.far[e] - 256)
      else reached (s.eng e).tx.fn (k.target e - 256)))

/-- Headless running begins: the framers send ABORT, and every pending commit is dropped with commit.abort (R97, R98,
R473).  The rules speak of commits dropped before they execute: one of which a side has been taken is dropped too, and its
other side stays on the values held for it (log 34). -/
def State.dropCommits (s : State) : State :=
  s.commits.foldl (fun s k => if k.paired then s.abstain k false 5
    else (s.endCommit k false).raise 0x0303 k.place (commitData k.id 5 k.token)) s

end Sys2Proof.Machine
end

