-- ==== Sys2Proof/Machine/FecRows.lean ====
section
/-! DEFINITION. The Vangide decoder at work: window advances, the change of chain that is known in advance, and the group
hunt (spec/08_vangide_fec.md, R199 to R206, R211). -/

namespace Sys2Proof.Machine

/-! ## Window advances (R202, R203, R206, R208 to R210) -/

/-- The parameters that go with a LINE code: the receive side's, or those that a commit brings. -/
def Engine.paramsFor (x : Engine) (line : Nat) : EngineParams :=
  if x.rxParams.line == line then x.rxParams
  else if x.params.active.line == line then x.params.active else x.params.staged

/-- The change of receive chain that the handshake has announced: the deframer's position of frame F, extrapolated from
the length of full frames, and the profile that a bound commit brings (R96, R199; log 35).  While the deframer is out of
SYNC the position found before stands. -/
def State.predicted (s : State) (e : Eng) : Option ChainChange :=
  let x := s.eng e
  let d := x.deframer
  let old := x.rxParams.line
  (s.commits.find? fun k => k.paired && k.has e && s.bound k && k.acks.getLsbD e.val && !k.rxDone.getLsbD e.val
      && k.classes.getLsbD 0).bind fun k =>
    let line := if k.txDone then x.params.active.line else x.params.staged.line
    if line == old || line == 0 then none
    else if d.mode != .sync then x.fec.change
    else some { bit := d.next + (k.far[e] - d.expect).toNat * frameLength old 0, line := line, fnr := k.far[e] + 1 }

/-- The change in view: found anew with every advance, as shortened frames move the position of frame F, until the old
chain's last group has come in or the receive side has switched; gone with the commit (R89, R199, R222). -/
def State.changeNow (s : State) (e : Eng) : Option ChainChange :=
  let x := s.eng e
  if x.fec.coming != .data || x.fec.line != x.rxParams.line then x.fec.change else s.predicted e

/-- The symbols that carrier recovery has delivered enter the decoder's window. -/
def State.absorb (s : State) (e : Eng) (noise : Quad) : State :=
  let change := s.changeNow e
  s.updEng e fun x => { x with
    rx := { x.rx with pipe := { x.rx.pipe with out := [] } },
    fec := { x.fec with symbols := x.fec.symbols ++ x.rx.pipe.out, change := change }.absorb noise 64 }

/-- Add an advance to the interval's statistics (R156, R206, R214): 8,192 coded bits a position. -/
def FecInterval.add (n : FecInterval) (o : Outcome) (corrected : Nat) : FecInterval :=
  { positions := n.positions + 1, uncorr := n.uncorr + (!o.good).toNat,
    corrected := n.corrected + (if o.good then corrected else 0), iterations := n.iterations + o.ran,
    advances := n.advances + 1, bits := n.bits + (if o.good then 8192 else 0) }

/-- The oldest position of the window is output (R202, R206), counted (R210), and fec.chain.start raised with the first
data group of a chain whose start was known (R214, R215). -/
def State.advance (s : State) (e : Eng) (w : WindowPosition) (o : Outcome) : State :=
  let out := match o.window.head? with | some v => v.decision | none => w.hard
  let c := changedBits w out
  let starts := if w.last then w.chainStart else none
  let s1 := s.updEng e fun x =>
    let f := { x.fec with window := o.window }.output w out o.good fun k => Config.freeValue (s.fresh + k)
    { x with fec := { f with
      now := f.now.add o c.1, longUncorr := f.longUncorr + (!o.good).toNat, chainFnr := starts.getD f.chainFnr,
      longErrors := f.longErrors + (if o.good then c.1 else 0), longBits := f.longBits + (if o.good then 8192 else 0) } }
  let s := { s1 with fresh := s1.fresh + 80 }
  let s := s.count .fecPositions e.val 1
  let s := s.count .fecUncorrectable e.val (!o.good).toNat
  let s := s.count .fecCorrected e.val (if o.good then c.1 else 0)
  let s := s.count .fecCorrectedOnes e.val (if o.good then c.2 else 0)
  let s := s.count .fecIterations e.val o.ran
  let s := s.count .fecEarly e.val o.early.toNat
  let s := s.count .fecKnownErrors e.val w.known
  match starts with
  | none => s
  | some f => s.raise 0x0704 (.engine e) ([byte ((s.eng e).paramsFor w.line).code, 0] ++ be 4 f)

/-- One window advance: symbols come in, and, where the window is full or its chain has ended, the decoder outputs its
oldest position (R202, R203, R206, R208). -/
def execDecoderAdvance (e : Eng) (a : Advance) (s : State) : Host.Outcome State Fault Refusal :=
  eventIf s ((s.eng e).rx.decoding && (s.eng e).fec.aligned) fun s =>
    let s := (s.fecEffort e).absorb e a.noise
    let x := s.eng e
    let f := x.fec
    match f.window.head? with
    | none => s
    | some w =>
      let n := ((x.paramsFor w.line).window).getD 0
      if !f.ready n then s else s.advance e w (f.decode w n)

/-! ## The group hunt (R204, R211) -/

/-- Index and value of the smallest count, the first of equals. -/
def smallest : List Nat → Option (Nat × Nat)
  | [] => none
  | c :: cs => match smallest cs with
    | none => some (0, c)
    | some (i, d) => if d < c then some (i + 1, d) else some (0, c)

/-- A count of unsatisfied checks over 8 positions passes the fraction test of R204: below 0.475. -/
def fractionOk (rows count : Nat) : Bool := count * 1000 < 475 * (8 * rows * 256)

/-- The groups are aligned at an offset: a new chain as far as the receiver knows, whose streams start (R204, R205). -/
def Engine.align (x : Engine) (off : Nat) : Engine :=
  { x with
    fec := x.fec.align x.rxParams.line off
    rx := { x.rx with pipe := { x.rx.pipe with out := x.rx.pipe.out.drop off } }
    deframer := { x.deframer with cands := [] } }

/-- A run of 10 positions has come in; `noise` is the noise variance of each quadrant.  While groups are not aligned, the
hunt ends on the candidate with the smallest count, where that passes, or repeats on new symbols (R204).  After dLOF in
TRACK the last ten positions are tested, and a failure restarts the hunt (R211). -/
def execGroupHuntDone (e : Eng) (noise : Quad) (s : State) : Host.Outcome State Fault Refusal :=
  let x := s.eng e
  eventIf s x.rx.decoding fun s =>
    match x.rxProfile with
    | none => s
    | some p =>
      if !x.fec.aligned then
        if x.rx.pipe.out.length < huntLength p then s
        else match smallest (huntCounts p noise x.rx.pipe.out) with
          | none => s
          | some (off, c) =>
            if fractionOk p.rows c then
              (s.updEng e fun x => x.align off).raise 0x0701 (.engine e) (beBytes 2 off ++ [0xFF])
            else s.updEng e fun x => { x with rx := { x.rx with pipe := { x.rx.pipe with
              out := x.rx.pipe.out.drop (huntLength p) } } }
      else if x.fec.testing && x.fec.heard.length == 10 && !fractionOk p.rows (unsatisfied p.rows x.fec.heard) then
        s.fecReset e
      else s

end Sys2Proof.Machine
end

