-- ==== Sys2Proof/Machine/NativeLane.lean ====
section
/-! DEFINITION. Native stream lane frames: marker, header, scrambler and stuffing in both directions (spec/10_client_lanes.md,
R254, R260 to R267), and the slot streams of native ports (R230, R266, R288). -/

namespace Sys2Proof.Machine

/-- A PAM4 level from a pair of bits, first bit most significant (R254). -/
def pamLevel (a b : Bool) : Fin 4 :=
  match a, b with
  | false, false => 0
  | false, true => 1
  | true, true => 2
  | true, false => 3

/-- The pair of bits of a level. -/
def pamBits (v : Fin 4) : List Bool :=
  if v == 0 then [false, false] else if v == 1 then [false, true] else if v == 2 then [true, true] else [true, false]

/-- Symbols of bits. -/
def toSymbols : List Bool → List (Fin 4)
  | a :: b :: rest => pamLevel a b :: toSymbols rest
  | _ => []

/-- The 64 marker symbols (R261). -/
def markerSymbols : List (Fin 4) :=
  (vecBits (0x5A3C96E10F78C3A5 : BitVec 64)).map fun b => if b then 3 else 0

/-- Symbols of a lane frame behind the marker (R254, R260). -/
def bodySymbols (slots : Nat) : Nat := 2176 * slots - 64

/-- The scrambler's seed for lane `k` (R263). -/
def laneSeed (k : Nat) : BitVec 31 := BitVec.ofNat 31 (0x0B1C2D00 + k + 1)

/-- The 128 header bits (R262). -/
def laneHeader (k : Nat) (lfc : BitVec 16) (fail : Bool) : List Bool :=
  let h := natBits 8 k ++ vecBits lfc ++ [fail] ++ List.replicate 87 false
  h ++ vecBits (crc16 h)

/-! ## Encoding (R260 to R264) -/

/-- Stuff a scrambled symbol stream into `n` symbols: after 64 equal symbols the pair 0, 3 is sent, but not in the last
two (R264). -/
def stuff : Nat → Nat → Option (Fin 4) → List (Fin 4) → List (Fin 4)
  | 0, _, _, _ => []
  | n + 1, run, last, src =>
    if run ≥ 64 && n + 1 > 2 then 0 :: 3 :: (match n with
      | m + 1 => stuff m 0 none src
      | 0 => [])
    else match src with
      | [] => []
      | x :: xs => x :: stuff n (if last == some x then run + 1 else 1) (some x) xs

/-- Payload bits of a lane frame: block b carries the next 512 bits of stream b mod q (R260). -/
def laneBlocks (streams : List Bytes) : List Bool :=
  ((List.range 8).map fun i => (streams.map fun st => bytesBits (slice st (64 * i) 64)).flatten).flatten

/-- The symbols of a lane frame of lane `k` (R260 to R264). -/
def laneFrame (slots k : Nat) (lfc : BitVec 16) (fail : Bool) (streams : List Bytes) : List (Fin 4) :=
  let bits := laneHeader k lfc fail ++ laneBlocks streams
  let n := bodySymbols slots
  let padded := bits ++ List.replicate (2 * n - bits.length) false
  markerSymbols ++ stuff n 0 none (toSymbols (scramble padded (laneSeed k)).1)

/-! ## Decoding (R264, R265) -/

/-- Remove the two symbols behind each run of 64, and count the pairs that are not 0, 3 (R264). -/
def unstuff : Nat → Nat → Option (Fin 4) → List (Fin 4) → List (Fin 4) × Nat
  | 0, _, _, src => (src, 0)
  | fuel + 1, run, last, src =>
    if run ≥ 64 && src.length > 2 then
      let r := unstuff fuel 0 none (src.drop 2)
      (r.1, r.2 + (src.take 2 != [0, 3]).toNat)
    else match src with
      | [] => ([], 0)
      | x :: xs =>
        let r := unstuff fuel (if last == some x then run + 1 else 1) (some x) xs
        (x :: r.1, r.2)

/-- Number of marker symbols that differ (R265). -/
def markerErrors (sym : List (Fin 4)) : Nat := (List.zip sym markerSymbols).countP fun p => p.1 != p.2

/-- A marker is accepted (R265). -/
def markerOk (sym : List (Fin 4)) : Bool := sym.length ≥ 64 && markerErrors (sym.take 64) ≤ 4

/-- The framing state after a marker at the expected position (R265). -/
def Lane.marker (l : Lane) (ok : Bool) : Lane :=
  let good := if ok then min 3 (l.good + 1) else 0
  let bad := if ok then 0 else min 4 (l.bad + 1)
  { l with good := good, bad := bad, inFrame := (l.inFrame && bad < 4) || good ≥ 3 }

/-- What a received lane frame carries: header bits, slot streams and stuffing errors. -/
def readLane (slots k : Nat) (sym : List (Fin 4)) : List Bool × List Bytes × Nat :=
  let u := unstuff (sym.length) 0 none (sym.drop 64)
  let bits := (scramble ((u.1.map pamBits).flatten) (laneSeed k)).1
  let blk := blocks 64 (8 * slots) (bitsBytes ((bits.drop 128).take (4096 * slots)))
  let stream := fun q => ((List.range 8).map fun i => blk.getD (i * slots + q) []).flatten
  (bits.take 128, (List.range slots).map stream, u.2)

/-- A header passes LCRC (R262). -/
def laneHeaderOk (h : List Bool) : Bool := bitsValue (h.drop 112) == (crc16 (h.take 112)).toNat

/-! ## Native streams and their default context (R288) -/

/-- Count native octets, or the drop of a port's data: without a serving context, or, with `shed`, where the port carries
nothing, which counts as a drop for want of room (R233, R272, R288; log 19). -/
def State.countNative (s : State) (c : Cp) (d : Dir) (octets : Nat) (shed : Bool) : State :=
  match s.nativeCtx c d with
  | some n => if shed then s.countDrop n .queue else s.countForward d n 0 octets
  | none =>
    match s.defaultCtx c d with
    | some n => s.countDrop n .state
    | none => s.count .flowDropNocontext c.val 1

/-- A native port's ingress goes nowhere: no slots, a far-end loopback, a PRBS or pattern payload, or a Weir hold (R35,
R233, R272, R454). -/
def State.shedsNative (s : State) (c : Cp) : Bool :=
  (s.txSlots c).isEmpty || (s.cport c).loopback == 3 || s.weir.hold
    || (let t := (s.eng (s.portEngine c)).frameParams; t.oxbow && t.oxbSrc != 0)

/-- Tag the payload blocks of a lane frame (R491 to R493): each is a unit of 64 bytes in the class of the default
context. -/
def State.tagBlocks (s : State) (c : Cp) (d : Dir) (n : Nat) (shed : Bool) (t1 : BitVec 48) : State :=
  let cls := match s.defaultCtx c d with | some k => (s.peekHot k).cls.toNat | none => 0
  let drop := if (s.nativeCtx c d).isNone then (match d with | .ingress => 2 | .egress => 7) else if shed then 4 else 0
  if (match d with | .ingress => s.collector.tag.expIn | .egress => s.collector.tag.expEg) == 0 then s
  else (List.range n).foldl (fun s _ =>
    let t := s.selectTag c d 64 t1
    let stage := match d with | .ingress => 2 | .egress => 6
    t.1.finishTag (t.2.map fun (m : TagMark) => { m with cls := some (cls, 0) }.enter stage s.moduleTime) c d true drop) s

/-! ## LANE_FRAME_RX (R265, R267) -/

/-- A slip of an ingress lane recentres the lane's buffer by one lane frame (R267, R284); its egress side follows LINEn and
never slips (R18). -/
def State.laneSlip (s : State) (l : LaneNo) (slip : Slip) (lfc : BitVec 16) : State :=
  let s := s.updLane l fun x => { x with slips := bump x.slips }
  let s := s.count .clientLaneSlips l.val 1
  s.raise 0x0904 (.lane l.val) ([byte (match slip with | .lost => 1 | .repeated => 2), 0] ++ beBytes 4 lfc.toNat)

/-- Streams that a lane frame adds to the lane's buffer: none when it is lost, twice when it is repeated. -/
def slipped (slip : Option Slip) (st : List Bytes) : List (List Bytes) :=
  match slip with
  | none => [st]
  | some .lost => []
  | some .repeated => [st, st]

/-- A lane frame of a native port, at the expected position (R260 to R267).  Under a near-end serial loopback what the
receiver sees drives COk (R272).  The data of a failed port, which a near-end loopback's is, go no further (R268). -/
def State.laneFrameRx (s : State) (l : LaneNo) (c : Cp) (symbols : List (Fin 4)) (slip : Option Slip) : State :=
  let f := s.form c
  let slots := rateSlots f.rate
  let sym := invert (((s.lane l).eqOf .transmit).polarity.getLsbD 0) symbols
  let s := s.updLane l fun x => { x.marker (markerOk sym) with
    out := if (s.cport c).loopback == 1 && x.gen == 0 then symbols else x.out }
  let s := s.refreshPort c
  if !(s.lane l).inFrame then s.updLane l fun x => { x with streams := [] }
  else
    let r := readLane slots l.val sym
    let s := s.count .clientStuffErrors l.val r.2.2
    let s := if laneHeaderOk r.1 then
        s.updLane l fun x => { x with lfcRx := BitVec.ofNat 16 (bitsValue ((r.1.drop 8).take 16)) } else s
    let s := match slip with | none => s | some k => s.laneSlip l k (s.lane l).lfcRx
    let s := s.updLane l fun x => { x with streams := x.streams ++ slipped slip r.2.1 }
    if (s.cport c).failed then s
    else
      let shed := s.shedsNative c
      (s.countNative c .ingress (512 * slots) shed).tagBlocks c .ingress (8 * slots) shed s.moduleTime

/-- A native stream lane frame arrives (R265).  It concerns only an ACTIVE lane of a formed native port. -/
def execLaneFrameRx (l : LaneNo) (symbols : List (Fin 4)) (slip : Option Slip) (s : State) :
    Host.Outcome State Fault Refusal :=
  event s fun s =>
    match s.portOfLane l with
    | none => s
    | some c => if (s.form c).native && (s.lane l).power == .active then s.laneFrameRx l c symbols slip else s

/-! ## What a native port sends (R229, R230, R266, R288) -/

/-- All ones, `n` bytes. -/
def onesBytes (n : Nat) : Bytes := List.replicate n 0xFF

/-- The slot streams of a native port for the next engine frame, in order of port stream: all ones while the port is
failed or has no serving context, and while a Weir hold discards the port's data (DESIGN CHOICE: R454 does not say what
its slots then carry; log 19); a lane without a new frame repeats its last (R229, R266, R288). -/
def State.nativeStreams (s : State) (c : Cp) : List Bytes :=
  let f := s.form c
  let slots := rateSlots f.rate
  if (s.cport c).failed || s.weir.hold || (s.nativeCtx c .ingress).isNone then List.replicate f.slots (onesBytes 512)
  else (f.lanes.map fun l => match (s.lane l).streams with
    | st :: _ => st
    | [] => List.replicate slots (onesBytes 512)).flatten

/-! ## What a lane sends (R260, R262, R267, R272, R273) -/

/-- The receive side of a lane is failed (R262, R267, R268). -/
def Lane.rxFailed (l : Lane) : Bool := l.power != .active || l.signalLost || l.clockLost || !l.inFrame

/-- One step of a pattern register and its output bit: PRBS13 x^13 + x^12 + x^2 + x + 1, PRBS31 x^31 + x^28 + 1, inverted
(R273; PRESUMED, the patterns of IEEE 802.3, log 15). -/
def prbsStep (gen : Byte) (r : BitVec 31) : Bool × BitVec 31 :=
  if gen == 1 then
    let b := r.getLsbD 12 ^^ r.getLsbD 11 ^^ r.getLsbD 1 ^^ r.getLsbD 0
    (b, (r <<< 1) ||| (BitVec.ofBool b).setWidth 31)
  else
    let b := r.getLsbD 30 ^^ r.getLsbD 27
    (!b, (r <<< 1) ||| (BitVec.ofBool b).setWidth 31)

/-- `n` symbols of a pattern: pairs of bits, the first most significant (R254, R273). -/
def prbsSymbols (gen : Byte) : Nat → BitVec 31 → List (Fin 4) × BitVec 31
  | 0, r => ([], r)
  | n + 1, r =>
    let a := prbsStep gen r
    let b := prbsStep gen a.2
    let rest := prbsSymbols gen n b.2
    (pamLevel a.1 b.1 :: rest.1, rest.2)

/-- A lane at the end of an MFC period: its buffer moves on to its next lane frame, or keeps the last one, and a running
generator has sent `symbols` symbols (R267, R273). -/
def Lane.tick (l : Lane) (symbols : Nat) : Lane :=
  let l := match l.streams with
    | _ :: b :: rest => { l with streams := b :: rest }
    | _ => l
  if l.gen == 0 || l.power != .active then l
  else
    let p := prbsSymbols l.gen symbols l.genReg
    { l with out := invert ((l.eqOf .receive).polarity.getLsbD 1) p.1, genReg := p.2 }

/-- Symbols that a lane sends in one MFC period: at the rate of its port, or, in no port, at 212.5 Gb/s (R254; log 15). -/
def State.laneSymbols (s : State) (l : LaneNo) : Nat :=
  match s.portOfLane l with | some c => 2176 * rateSlots (s.form c).rate | none => 17408

/-- A native port delivers its slot streams as lane frames (R260, R266, R267, R272, R273, R288): none on a lane that is
not ACTIVE or whose generator runs.  Under a near-end loopback the host's own data go out instead, re-encoded for a
parallel one, and what comes from the line is discarded and counted (log 19). `carried`: the port has slots; `t1`: the
module time at which they came. -/
def State.nativeOut (s : State) (c : Cp) (streams : List Bytes) (carried : Bool) (t1 : BitVec 48) : State :=
  let f := s.form c
  let q := rateSlots f.rate
  let ok := (s.nativeCtx c .egress).isSome
  let loop := (s.cport c).loopback
  let streams := if ok then streams else streams.map fun _ => onesBytes 512
  let s := f.lanes.zipIdx.foldl (fun s l =>
    let x := s.lane l.1
    if x.power != .active then s.updLane l.1 fun x => { x with out := [] }
    else if x.gen != 0 || loop == 1 then s
    else
      let mine := if loop == 2 then x.streams.headD (List.replicate q (onesBytes 512)) else (streams.drop (q * l.2)).take q
      let sym := laneFrame q l.1.val x.lfcTx x.rxFailed mine
      s.updLane l.1 fun x => { x with out := invert ((x.eqOf .receive).polarity.getLsbD 1) sym, lfcTx := x.lfcTx + 1 }) s
  if !carried then s
  else if loop == 1 || loop == 2 then s.count .clientDropEgress c.val 1
  else (s.countNative c .egress (512 * f.slots) false).tagBlocks c .egress (8 * f.slots) false t1

end Sys2Proof.Machine
end

