-- ==== Sys2Proof/Machine/Sluice.lean ====
section
/-! DEFINITION. Group 0x03, the commit scheduler: SLUICE_COMMIT, SLUICE_CANCEL, SLUICE_DISCARD, SLUICE_STATUS, and the
instants at which commits act (spec/04_sluice_commits.md). -/

namespace Sys2Proof.Machine

/-! ## Parameters (R88, R90) -/

/-- The fields that SLUICE_COMMIT and SLUICE_DISCARD share (R88, R90). -/
structure CommitForm where
  trigger : Byte
  engines : BitVec 4
  ref : Nat
  classes : BitVec 16
  token : BitVec 32
  deriving DecidableEq, Repr

/-- The first 12 bytes of R88. -/
def parseCommit (p : Bytes) : CommitForm :=
  { trigger := u8 p 0, engines := (u8 p 1).setWidth 4, ref := field p 2 1, classes := u16 p 4, token := u32 p 8 }

/-- An engine-scoped class, 0 to 9, is named (R78, R88). -/
def CommitForm.scoped (f : CommitForm) : Bool := f.classes.toNat % 1024 != 0
/-- FLOW or KEY is named. -/
def CommitForm.tokened (f : CommitForm) : Bool := f.classes.getLsbD 8 || f.classes.getLsbD 9
/-- The trigger is paired (R84). -/
def CommitForm.isPaired (f : CommitForm) : Bool := f.trigger == 4 || f.trigger == 5

/-- The reserved parts of the first 12 bytes: ENGINES [7:4], the zero bytes, CLASSES bits 13 to 15 (R88, R5). -/
def badCommitHead (p : Bytes) : Bool := field p 1 1 ≥ 16 || !zeroAt p 3 1 || !zeroAt p 6 2 || field p 4 2 ≥ 8192

/-- Two scopes overlap: a shared class that is engine-scoped, 0 to 9, with a common engine, FLOW or KEY with one TOKEN, or
a module-wide class (R78, R79). -/
def CommitForm.overlaps (f : CommitForm) (k : Commit) : Bool :=
  let shared := f.classes &&& k.classes
  (shared.toNat % 1024 != 0 && f.engines &&& k.engines != 0)
  || (shared.toNat / 256 % 4 != 0 && f.token == k.token)
  || shared.toNat / 1024 != 0

/-- A staged entry of the token lies outside a port's tenancy (R82). -/
def State.tokenOutside (s : State) (p : Hp) (f : CommitForm) : Bool :=
  (f.classes.getLsbD 8 && s.flows.staged.any fun x => x.token == f.token && (match x.op with
    | .load e | .rekey e | .reload e => !s.holdsCtx p (entryCtx e) 1
    | .add e => !s.holdsPort p (cpOf (entryPort e)) || !s.holdsCtx p (field e 12 4) 1
    | .delete e => !s.holdsPort p (cpOf (entryPort e))))
  || (f.classes.getLsbD 9 && (s.tokenSlots f.token).any fun n => !s.holdsKs p n 1)

/-- The scope lies outside the port's tenancy; TIME lies in none (R82, R418). -/
def State.scopeOutside (s : State) (p : Hp) (f : CommitForm) : Bool :=
  p != 0 && (f.classes.getLsbD 10 || ((List.finRange 4).any fun e => f.engines.getLsbD e.val && !s.holdsEngine p e.val)
    || s.tokenOutside p f)

/-- HEADWATER or GAUGE from a port other than HP0 (R82). -/
def CommitForm.principalOnly (f : CommitForm) : Bool := f.classes.getLsbD 11 || f.classes.getLsbD 12

/-- A named engine is not populated (R2). -/
def State.strangers (s : State) (f : CommitForm) : Bool :=
  (List.finRange 4).any fun e => f.engines.getLsbD e.val && !s.hasEngine e.val

/-! ## SLUICE_COMMIT (R80 to R88) -/

/-- The form of SLUICE_COMMIT is wrong: lengths, reserved bits, no class, or a field that the trigger does not use
(R84, R88). -/
def badCommit (r : Request) : Bool :=
  let p := r.params
  let f := parseCommit p
  badForm r 28 || badCommitHead p || f.classes == 0 || f.trigger.toNat > 5 || !zeroAt p 26 2
    || (field p 12 4 != 0 && f.trigger != 2 && f.trigger != 4)
    || (!zeroAt p 16 10 && f.trigger != 3)
    || (f.ref != 0 && f.engines == 0 && f.trigger != 2)

/-- The named parts do not fit each other (R88). -/
def CommitForm.misfit (f : CommitForm) : Bool :=
  (f.scoped && f.engines == 0) || (f.engines != 0 && !f.engines.getLsbD f.ref) || (f.tokened && f.token == 0)
    || (f.isPaired && (f.token == 0 || f.classes.toNat ≥ 1024 || f.engines == 0))

/-- TARGET_SEC and TARGET_NS in the units of the time domains. -/
def commitTime (p : Bytes) : Nat := timeOf (field p 16 6) (field p 22 4)

/-- The lead of R84 is outside what the trigger permits.  AT_TIME counts from TDA time as it stands. -/
def State.leadFault (s : State) (p : Bytes) (f : CommitForm) : Bool :=
  let lead := (u32 p 12 - (s.eng (engOf f.ref)).tx.fn).toNat
  match f.trigger.toNat with
  | 2 => lead < 2 || lead > 2 ^ 31
  | 3 =>
    let now := (s.domain 0).time
    commitTime p < now + timeOf 0 10000 || commitTime p > now + timeOf 351 843720888
  | 4 => lead < 4096 || lead > 2 ^ 31
  | _ => false

/-- Lowest COMMIT_ID that no pending commit has: the rule gives the range only (R88; log 34). -/
def State.freeCommitId (s : State) : Nat :=
  ((List.range 16).map (· + 1)).find? (fun i => s.commits.all fun k => k.id != i) |>.getD 16

/-- STATE of a commit just accepted (R91). -/
def startState (trigger : Byte) : Byte := if trigger == 4 then 2 else if trigger == 5 then 4 else 1

/-- A commit just accepted, each engine's own target beside the reference engine's (R85, R88). -/
def State.newCommit (s : State) (r : Request) (f : CommitForm) : Commit :=
  let ref := engOf f.ref
  let fnRef := (s.eng ref).tx.fn
  let t := if f.trigger == 1 then fnRef + 1 else u32 r.params 12
  { id := s.freeCommitId, port := r.port, trigger := f.trigger, engines := f.engines, ref := ref, classes := f.classes,
    token := f.token, state := startState f.trigger,
    targets := if f.trigger == 3 || f.trigger == 5 then Vector.replicate 4 0
      else Vector.ofFn fun e => t + ((s.eng e).tx.fn - fnRef),
    targetTime := (u48 r.params 16, u32 r.params 22),
    dueTick := if f.trigger == 1 then some (s.moduleTime + 1) else none, late := none,
    far := Vector.replicate 4 0, acks := 0, confirms := 0, mismatch := false, aborted := false, txDone := false,
    rxDone := 0, split := false }

/-- The reply of R88. -/
def State.commitReply (s : State) (id : Nat) (state : Byte) (ref : Nat) : Bytes :=
  [byte id, state, 0, 0] ++ be 4 (s.eng (engOf ref)).tx.fn

/-- Accept a validated group (R79, R84, R93, R94).  A validation-only group has no STATE in R91's table: 0 (R88;
log 34). -/
def State.acceptCommit (s : State) (r : Request) (f : CommitForm) : Answer :=
  if f.trigger == 0 then answer (s.commitReply 0 0 f.ref) s
  else
    let k := s.newCommit r f
    let s := { s with commits := s.commits ++ [k], spent := s.spent.filter fun x => x.1 != k.id }
    let s := if k.classes.getLsbD 9 then s.retireToken k.token else s
    .ok .ok (s.commitReply k.id k.state f.ref) (if k.paired then s.startPair k else s)

/-- SLUICE_COMMIT (R79 to R88).  A validation-only group holds nothing; like every group it is BUSY where its scope
overlaps a held one.  A paired group on an engine in a handshake is BUSY: R98 names no status (log 34).  The chapter gives
the subsystem's checks no order: it is the model's that BUSY, QUEUE-FULL and AT_TIME's NOT-READY precede validation and
its INCONSISTENT, that PAST comes last, and that a class's NOT-PRINCIPAL comes as early as the opcode's (log 34). -/
def sluiceCommitBody (r : Request) (s : State) : Answer :=
  let f := parseCommit r.params
  let real := f.trigger != 0
  guards [
    (badCommit r, .badParam),
    (f.principalOnly && r.port != 0, .notPrincipal),
    (f.ref > 3 || s.strangers f || !s.hasEngine f.ref
      || field r.params 22 4 > 999999999, .range),
    (s.scopeOutside r.port f, .notTenant),
    (f.misfit, .inconsistent),
    (s.commits.any f.overlaps, .busy),
    (f.isPaired && s.commits.any (fun k => k.paired && k.engines &&& f.engines != 0), .busy),
    (real && s.commits.length ≥ 16, .queueFull),
    (f.trigger == 3 && !(s.domain 0).everLocked, .notReady)]
    (match s.validate f.classes f.engines f.token with
      | some st => .fail st []
      | none => guards [(s.leadFault r.params f, .past)] (s.acceptCommit r f))

/-- SLUICE_COMMIT. -/
def execSluiceCommit (r : Request) (s : State) : Host.Outcome State Fault Refusal :=
  opcode 0x0301 false r s (sluiceCommitBody r)

/-! ## SLUICE_CANCEL (R89) -/

/-- SLUICE_CANCEL takes COMMIT_ID.  A local commit that is withdrawn raises commit.abort, its final event (R79, R89,
R100; log 22). -/
def sluiceCancelBody (r : Request) (s : State) : Answer :=
  let id := field r.params 0 1
  let mine : Hp → Bool := fun p => r.port == 0 || r.port == p
  guards [(badForm r 1, .badParam)]
    (match s.commitOf id with
      | some k => guards [(!mine k.port, .notTenant), (k.paired && s.pastPoint k, .busy)]
          (.ok .ok [] (if k.paired then s.abstain k false 4
            else (s.endCommit k false).raise 0x0303 k.place (commitData k.id 4 k.token)))
      | none => match s.spent.find? fun x => x.1 == id with
        | some x => guards [(!mine x.2, .notTenant)] (.fail .busy [])
        | none => .fail .range [])

/-- SLUICE_CANCEL. -/
def execSluiceCancel (r : Request) (s : State) : Host.Outcome State Fault Refusal :=
  opcode 0x0302 false r s (sluiceCancelBody r)

/-! ## SLUICE_DISCARD (R90) -/

/-- Drop the staged values of a scope: staged copies equal to the active ones, and a token's entries gone. -/
def State.discard (s : State) (f : CommitForm) : State :=
  let s := (List.finRange 4).foldl (fun s e => if f.engines.getLsbD e.val then
    s.stage e fun p => p.taking (s.eng e).params.active f.classes else s) s
  let cs := (List.finRange 64).filter fun c => s.portInScope f.classes f.engines c
  let s := cs.foldl (fun s c => s.updCport c fun p => { p with params := { p.params with staged := p.params.active } }) s
  let s := if f.classes.getLsbD 7 then (List.finRange 64).foldl (fun s l =>
      if f.engines.getLsbD (l.val / 16) then s.updLane l fun x => { x with eq := { x.eq with staged := x.eq.active } }
      else s) s else s
  let s := if f.classes.getLsbD 8 then { s with flows := { s.flows with
      staged := s.flows.staged.filter fun x => x.token != f.token } } else s
  let s := if f.classes.getLsbD 9 then
      (s.tokenSlots f.token).foldl (fun s n => s.setSlot n { s.slot n with staged := none }) s else s
  let s := if f.classes.getLsbD 10 then
      { s with time := { s.time with config := { s.time.config with staged := s.time.config.active } } } else s
  let s := if f.classes.getLsbD 11 then
      { s with synce := { s.synce with staged := s.synce.active },
               hw := { s.hw with config := { s.hw.config with staged := s.hw.config.active }, staged := none } }
    else s
  if f.classes.getLsbD 12 then { s with gauge := { s.gauge with
      seq := { s.gauge.seq with staged := s.gauge.seq.active } } } else s

/-- SLUICE_DISCARD (R90). -/
def sluiceDiscardBody (r : Request) (s : State) : Answer :=
  let f := parseCommit r.params
  guards [
    (badForm r 12 || badCommitHead r.params || f.trigger != 0 || f.ref != 0 || (f.engines != 0 && !f.scoped)
      || (f.token != 0 && !f.tokened), .badParam),
    (f.principalOnly && r.port != 0, .notPrincipal),
    (s.strangers f, .range),
    (s.scopeOutside r.port f, .notTenant),
    ((f.scoped && f.engines == 0) || (f.tokened && f.token == 0), .inconsistent),
    (s.commits.any f.overlaps, .busy)]
    (.ok .ok [] (s.discard f))

/-- SLUICE_DISCARD. -/
def execSluiceDiscard (r : Request) (s : State) : Host.Outcome State Fault Refusal :=
  opcode 0x0303 false r s (sluiceDiscardBody r)

/-! ## SLUICE_STATUS (R91) -/

/-- The delay of R228, once 64 frames have been measured: the mean of the last 64 in 1/16 ns; zero when unknown. -/
def Deframer.roundTrip (d : Deframer) : Nat := if d.rtd.length < 64 then 0 else d.rtd.sum / 64

/-- RTD of R91 in frames, rounded up (R228). -/
def Deframer.roundTripFrames (d : Deframer) : Nat := (d.roundTrip * 100 + 262143) / 262144

/-- One entry of 24 bytes (R91). -/
def State.commitEntry (s : State) (k : Commit) : Bytes :=
  let state : Byte := if k.paired && s.pastPoint k then 6 else k.state
  let rtd := if k.engines == 0 && k.trigger != 2 then 0 else (s.eng k.ref).deframer.roundTripFrames
  [byte k.id, state, k.engines.setWidth 8, byte k.port.val] ++ be 2 k.classes ++ [0, 0] ++ be 4 k.token
    ++ be 4 (k.target k.ref) ++ be 4 k.far[k.ref] ++ beBytes 4 rtd

/-- Pending commits in order of their numbers. -/
def State.commitsInOrder (s : State) : List Commit := (List.range 17).filterMap s.commitOf

/-- SLUICE_STATUS (R91). -/
def sluiceStatusBody (r : Request) (s : State) : Answer :=
  guards [(badForm r 0, .badParam)]
    (answer ([byte s.commits.length, 0, 0, 0] ++ (s.commitsInOrder.map s.commitEntry).flatten) s)

/-- SLUICE_STATUS. -/
def execSluiceStatus (r : Request) (s : State) : Host.Outcome State Fault Refusal :=
  opcode 0x0304 false r s (sluiceStatusBody r)

/-! ## Instants at which commits act -/

/-- A commit's happening: nothing for an unknown number or while it is not due (log 4). -/
def commitEvent (id : Nat) (s : State) (due : State → Commit → Bool) (act : State → Commit → State) :
    Host.Outcome State Fault Refusal :=
  event s fun s => match s.commitOf id with
    | some k => if due s k then act s k else s
    | none => s

/-- A local commit's boundary: the tick that comes (R74, R84). -/
def State.atCommitBoundary (s : State) (id : Nat) : State :=
  s.atBoundary fun s => match s.commitOf id with
    | some k => if s.boundaryDue k then s.runCommit k else s
    | none => s

/-- COMMIT_BOUNDARY. -/
def execCommitBoundary (id : Nat) (s : State) : Host.Outcome State Fault Refusal :=
  event s fun s => s.atCommitBoundary id

/-- ACK_DEADLINE: after the tick of frame D (R95, R550). -/
def execAckDeadline (id : Nat) (s : State) : Host.Outcome State Fault Refusal :=
  commitEvent id s State.deadlineDue State.ackDeadline

/-- RESPONDER_TARGET: after the tick of frame T_B (R95, R550). -/
def execResponderTarget (id : Nat) (s : State) : Host.Outcome State Fault Refusal :=
  commitEvent id s State.responderDue fun s k => s.abstain k false 3

/-- The end's own target: the tick that comes (R96). -/
def State.atPairTx (s : State) (id : Nat) : State :=
  s.atBoundary fun s => match s.commitOf id with
    | some k => if s.txSwitchDue k then s.pairTx k else s
    | none => s

/-- PAIRED_TX_SWITCH. -/
def execPairedTxSwitch (id : Nat) (s : State) : Host.Outcome State Fault Refusal :=
  event s fun s => s.atPairTx id

/-- The receive side of every engine whose frame it is (R96). -/
def State.pairRxDue (s : State) (id : Nat) : State :=
  (List.finRange 4).foldl (fun s e => match s.commitOf id with
    | some k => if s.rxSwitchDue k e then s.pairRx k e else s
    | none => s) s

/-- PAIRED_RX_SWITCH. -/
def execPairedRxSwitch (id : Nat) (s : State) : Host.Outcome State Fault Refusal :=
  event s fun s => s.pairRxDue id

end Sys2Proof.Machine
end

