-- ==== Sys2Proof/Machine/FrameSend.lean ====
section
/-! DEFINITION. The transmit framer: payload of the slots, overhead values, side-channel bytes, and the MFC tick at which
every running transmitter begins a frame (spec/09_brihezu_frame.md, R216 to R233, R243 to R246, R550). -/

namespace Sys2Proof.Machine

/-! ## Records of an Ethernet port (R231, R295) -/

/-- The frame of a port's buffer that starts next: the highest class, and within it the oldest (R295). -/
def nextBuffered (b : List Buffered) : Option Buffered :=
  [7, 6, 5, 4, 3, 2, 1, 0].findSome? fun k => b.find? fun x => x.cls == k

/-- A port with no record in progress starts one: a frame record, or an idle record when its buffer is empty. -/
def Cport.nextRecord (p : Cport) : Cport × Option TagMark :=
  match nextBuffered p.buffer with
  | none => ({ p with current := [0, 0], currentIdle := true }, none)
  | some x => ({ p with
      buffer := p.buffer.erase x, current := frameRecord x.bytes, currentIdle := false, currentCtx := x.ctx,
      currentCls := x.cls }, x.tag)

/-- A tile in the making: its bytes, the first record header in it, whether a frame record touches it, and the tagged
frames that start in it. -/
structure TileDraft where
  got : Bytes := []
  pointer : Option Nat := none
  frame : Bool := false
  tags : List TagMark := []
  deriving DecidableEq, Repr

/-- Fill a tile's 63 bytes with the record sequence, in at most `n` steps. -/
def Cport.fillTile : Nat → Cport → TileDraft → Cport × TileDraft
  | 0, p, t => (p, t)
  | n + 1, p, t =>
    if t.got.length ≥ 63 then (p, t)
    else if p.current.isEmpty then
      let r := p.nextRecord
      Cport.fillTile n r.1 { t with pointer := t.pointer.or (some t.got.length), tags := t.tags ++ r.2.toList }
    else
      let k := min (63 - t.got.length) p.current.length
      Cport.fillTile n { p with current := p.current.drop k }
        { t with got := t.got ++ p.current.take k, frame := t.frame || !p.currentIdle }

/-- A tile with its POINTER (R231). -/
def TileDraft.bytes (t : TileDraft) : Bytes := byte (t.pointer.getD 63) :: t.got

/-- `k` tiles of an Ethernet port. -/
def Cport.fillTiles : Nat → Cport → Cport × List TileDraft
  | 0, p => (p, [])
  | k + 1, p =>
    let r := p.fillTile 130 {}
    let rest := Cport.fillTiles k r.1
    (rest.1, r.2 :: rest.2)

/-! ## Payload (R229, R230, R272, R490) -/

/-- A tile of one value. -/
def plainTile (b : Byte) : Bytes := List.replicate 64 b

/-- A frame of the port waits in stage 2 or 3 (R490). -/
def State.frameWaits (s : State) (c : Cp) : Bool :=
  s.flows.ingress.misses.any (fun f => f.port == c) || s.flows.ingress.admitQ.any fun f => f.port == c

/-- The tiles of slot streams in the order of the frame: row by row, one tile of each stream (R230). -/
def streamTiles (streams : List Bytes) : List Bytes :=
  (List.range 8).flatMap fun r => streams.map fun st => slice st (64 * r) 64

/-- Tiles that a port sends as they are: those that are all ones carry nothing (R490). -/
def State.countSent (s : State) (e : Eng) (ts : List Bytes) : State :=
  let w := ts.countP allOnes
  (s.countTiles e .ingress 1 w).countTiles e .ingress 0 (ts.length - w)

/-- The 8 tiles a slot of a carried port for one frame, in ascending tile number, with the slot accounts of engine `e`
(R229 to R231, R272, R490).  A far-end loopback sends back what the port received; its tiles, like a native port's,
carry data unless they are all ones (log 19). -/
def State.portTiles (s : State) (e : Eng) (c : Cp) (slots : Nat) : State × List Bytes :=
  let p := s.cport c
  let f := p.params.active.form
  let n := 8 * slots
  let ones := List.replicate n (plainTile 0xFF)
  if p.failed then (s.countTiles e .ingress 1 n, ones)
  else if p.loopback == 3 then
    let ts := if p.received.length == n then p.received else ones
    (s.countSent e ts, ts)
  else if f.native then
    let lost := (s.nativeCtx c .ingress).isNone
    let ts := streamTiles (s.nativeStreams c)
    (s.countTiles e .ingress (if lost then 1 else 0) n, ts)
  else
    let waits := s.frameWaits c
    let r := p.fillTiles n
    let full := r.2.countP fun t => t.frame
    let s := s.updCport c fun _ => r.1
    let s := (s.countTiles e .ingress 0 full).countTiles e .ingress (if waits then 2 else 3) (n - full)
    let s := (r.2.flatMap fun t => t.tags).foldl (fun s m =>
      s.finishTag (some (m.enter 5 s.moduleTime)) c .ingress false 0) s
    (s, r.2.map TileDraft.bytes)

/-- Client ports that a slot map carries, in ascending order. -/
def mapPorts (m : SlotMap) (line : Nat) : List Cp := (List.finRange 64).filter fun c => !(portSlots m line c).isEmpty

/-- Put each port's tiles at its slots; the other slots carry zeros (R216, R229). -/
def placeTiles (slots : Nat) (ports : List (List Nat × List Bytes)) : List Bytes :=
  (List.range (8 * slots)).map fun j =>
    let row := j / slots
    match ports.find? fun p => p.1.contains (j % slots) with
    | none => plainTile 0
    | some p => p.2.getD (row * p.1.length + p.1.idxOf (j % slots)) []

/-- One step of a PRBS23 register and its output bit: x^23 + x^18 + 1 (R35; log 15). -/
def prbs23 (r : BitVec 23) : Bool × BitVec 23 :=
  let o := r.getLsbD 22
  (o, (r <<< 1) ||| (BitVec.ofBool (o ^^ r.getLsbD 17)).setWidth 23)

/-- `n` bits of a PRBS23 sequence. -/
def prbs23Bits : Nat → BitVec 23 → List Bool × BitVec 23
  | 0, r => ([], r)
  | n + 1, r =>
    let b := prbs23 r
    let rest := prbs23Bits n b.2
    (b.1 :: rest.1, rest.2)

/-- One carried port's tiles with the slots that it sends them in. -/
def addPort (e : Eng) (slots : List Nat) (a : State × List (List Nat × List Bytes)) (c : Cp) :
    State × List (List Nat × List Bytes) :=
  let t := a.1.portTiles e c slots.length
  (t.1, a.2 ++ [(slots, t.2)])

/-- The payload of one frame by the transmit map of engine `e` (R229 to R232, R35). -/
def State.payload (s : State) (e : Eng) : State × List Bytes :=
  let p := (s.eng e).frameParams
  let slots := slotsOf p.line
  if p.oxbow && p.oxbSrc == 1 then
    let runs := (s.eng e).tx.prbs.map (prbs23Bits 4096)
    (s.updEng e fun x => { x with tx := { x.tx with prbs := runs.map (·.2) } },
     streamTiles (runs.map fun r => bitsBytes r.1))
  else
    let ports := mapPorts p.slotmap p.line
    let r := ports.foldl (fun a c => addPort e (portSlots p.slotmap p.line c) a c) (s, [])
    let used := (ports.map fun c => (portSlots p.slotmap p.line c).length).sum
    (r.1.countTiles e .ingress 1 (8 * (slots - used)), placeTiles slots r.2)

/-! ## Side channel, transmit side (R243 to R246) -/

/-- The byte sampled in the slot that began two ticks before now, with older ones gone (R244). -/
def State.scTake (s : State) (e : Eng) : State × Option Byte :=
  let due := s.moduleTime - 2
  let x := s.eng e
  let got := (x.sc.ingress.find? fun b => b.1 == due).map (·.2)
  (s.updEng e fun x => { x with sc := { x.sc with
    ingress := x.sc.ingress.filter fun b => (b.1 - due).toNat != 0 && (b.1 - due).toNat < 2 ^ 47 } }, got)

/-- IV of a cipher run (R245). -/
def cipherIv (nonce : BitVec 64) (fn : BitVec 32) (linkid : Byte) : Bytes := be 8 nonce ++ be 4 fn ++ [linkid, 0, 0, 0]

/-- The side-channel key of a configuration, usable for the side channel of a direction (R246, R328). -/
def State.scKeySlot (s : State) (d : Dir) (f : FrameConfig) : Option KeySlot :=
  if f.scKey == 0 then none
  else
    let k := s.slot (f.scKey.toNat - 1)
    if k.usableIn d 2 then some k else none

/-- One request of one block for a side-channel byte: the express lane of a bank (R245, R322). -/
def State.scBlock (s : State) (d : Dir) (key : Bytes) : State :=
  s.expressWork d [{ rounds := aesRounds key.length }] 1

/-- The key is absent: SC_VALID = 0, and sc.key.absent once (R246). -/
def State.scAbsent (s : State) (e : Eng) (key : BitVec 32) : State :=
  let was := (s.eng e).sc.keyAbsent
  let s := s.updEng e fun x => { x with sc := { x.sc with keyAbsent := true, txShift := none } }
  if was then s else s.raise 0x0814 (.engine e) (be 4 key)

/-- SC_VALID, SC_ENC and SCB of the frame with number `fn` (R244 to R246).  Every frame of a cipher run carries
SC_ENC = 1, the first of them its start (log 23). -/
def State.scSend (s : State) (e : Eng) (fn : BitVec 32) : State × Bool × Bool × Byte :=
  let f := (s.eng e).txParams.frame
  let t := s.scTake e
  let s := t.1
  if !f.scFlags.getLsbD 0 then
    (s.updEng e fun x => { x with sc := { x.sc with keyAbsent := false, txShift := none } }, false, false, 0)
  else if !f.scFlags.getLsbD 1 then
    let s := s.updEng e fun x => { x with sc := { x.sc with keyAbsent := false, txShift := none } }
    match t.2 with | some b => (s, true, false, b) | none => (s, false, false, 0)
  else
    match s.scKeySlot .ingress f with
    | none => (s.scAbsent e f.scKey, false, false, 0)
    | some k =>
      let shift := ((s.eng e).sc.txShift).getD (cipherIv f.scNonce fn f.txLinkid)
      let keep := fun (s : State) (sh : Bytes) =>
        s.updEng e fun x => { x with sc := { x.sc with keyAbsent := false, txShift := some sh } }
      match t.2 with
      | none => (keep s shift, false, true, 0)
      | some b =>
        let c := cfb8Encrypt k.cur.key shift b
        ((keep s c.2).scBlock .ingress k.cur.key, true, true, c.1)

/-! ## Overhead values (R223 to R228) -/

/-- Lower member of an engine's pair. -/
def lowerOf (e : Eng) : Eng := engOf (e.val / 2 * 2)

/-- APS (R225, R242). -/
def State.apsOf (s : State) (e : Eng) : BitVec 32 :=
  let p := (s.eng e).frameParams
  let low := s.eng (lowerOf e)
  let upper := e.val % 2 == 1
  let mine := if upper then low.twin.higherOk else low.twin.lowerOk
  let other := if upper then low.twin.lowerOk else low.twin.higherOk
  if p.isTwin then
    BitVec.ofNat 32 ((if upper then 2 else 1) * 2 ^ 30 + low.txParams.frame.selMode.toNat % 4 * 2 ^ 28
      + low.twin.selected.val * 2 ^ 26 + bit mine 25 + bit other 24 + p.frame.twinTag.toNat)
  else BitVec.ofNat 32 p.frame.twinTag.toNat

/-- BDI_SUM (R225, R238): the lower member sends its pair's dTWIN. -/
def State.bdiOf (s : State) (e : Eng) : BitVec 16 :=
  let d := (s.eng e).deframer
  BitVec.ofNat 16 (bit d.los 15 + bit d.lof 14 + bit d.map 13 + bit d.link 12 + bit d.twin 11)

/-- Module time in 2^−16 ns: one MFC period is 163.84 ns. -/
def timeFracs (t : BitVec 48) : Nat := t.toNat * 1073741824 / 100

/-- From the MFC tick to the departure of a frame's header, in 2^−16 ns: the fixed latency and the lag (R227). -/
def State.departure (s : State) (e : Eng) : Int :=
  (Config.txLatency e.val : Int) + ((s.eng e).tx.chain.lag * 65536).floor

/-- LTS and LTS_TS of a frame that begins now: not valid without a domain that is set (R227). -/
def State.ltsOf (s : State) (e : Eng) : BitVec 4 × Nat :=
  match s.ltsDomain e with
  | none => (0, 0)
  | some d => if (s.domain d).mode == .unset then (0, 0)
    else ((tdCode d).setWidth 4, (s.domain d).at_ (s.departure e))

/-- LTS_DWELL: from the last accepted header's arrival to this header's departure (R227). -/
def State.dwellOf (s : State) (e : Eng) (arrival : Nat) : BitVec 32 :=
  BitVec.ofInt 32 ((timeFracs s.moduleTime : Int) + s.departure e - 4096 * (arrival : Int))

/-- CANN of the next frame: idle from the own target on (R93). -/
def TxState.cannAt (t : TxState) (fn : BitVec 32) : Cann :=
  if t.cann.phase != 0 && reached fn t.cann.target then {} else t.cann

/-- The overhead of the frame `fn` that begins now (R223 to R227). -/
def State.overheadOf (s : State) (e : Eng) (omitted : Nat) (sc : Bool × Bool × Byte) : Overhead :=
  let x := s.eng e
  let dep := x.tx.mode == .departing
  let lts := s.ltsOf e
  let echo := if x.deframer.mode == .sync then x.deframer.arrival else none
  { omitted := BitVec.ofNat 3 omitted, scValid := sc.1, scEnc := sc.2.1, scb := sc.2.2,
    depReason := if dep then x.tx.reason else 0,
    depLeft := if dep then byte ((x.tx.depLeft.getD 1) - 1) else 0,
    aps := s.apsOf e, fstat := x.tx.fstat, bdiSum := s.bdiOf e,
    bdiSlot := if x.frameParams.isTwin then (s.eng (lowerOf e)).deframer.replaced else x.deframer.replaced,
    cann := x.tx.cann, cack := x.tx.cack,
    ltsSec := BitVec.ofNat 48 (secOf lts.2), ltsNs := BitVec.ofNat 32 (nsOf lts.2),
    ltsFrac := BitVec.ofNat 16 (fracOf lts.2), ltsTs := lts.1,
    echoValid := echo.isSome, echo := if echo.isSome then x.deframer.fnr else 0,
    dwell := match echo with | some a => s.dwellOf e a | none => 0 }

/-! ## One engine's frame (R216, R219, R222, R550) -/

/-- Elastic tiles that the next frame omits: none until the new chain carries a frame's first bit (R200, R222). -/
def TxChain.omits (c : TxChain) : Nat :=
  if c.phase == .idle || c.nextLine.isSome then 0 else min 4 c.owed

/-- One MFC period of an Oxbow pattern, behind what the ended chain still sends (R124); the filters start anew with the
pattern, as they do with a chain (R114). -/
def TxChain.patternTick (c : TxChain) (line pat : Nat) : TxChain :=
  if c.phase != .idle || !c.waiting.isEmpty then c.frame []
  else match profileOf line with
    | none => c
    | some p =>
      let total := c.time + mkRat 16384 100
      let n := (total * mkRat p.baudNum p.baudDen).floor.toNat
      TxChain.pattern p pat n { c.turn with
        line := line, time := total - n * mkRat p.baudDen p.baudNum, closeAt := none,
        past := if c.closeAt.isSome then [] else c.sent }

/-- What the chain sends of a pattern: nothing from step 1 of a fast quench on, when modulation stops (R121, R124). -/
def Engine.patternSends (x : Engine) : TxChain :=
  let p := x.frameParams
  if x.litOrEnabling then x.tx.chain.patternTick p.line p.oxbPattern else x.tx.chain.trail

/-- A running transmitter begins its next frame, with payload `tiles` (R216, R550).  Under an Oxbow pattern it sends no
frame, and FN goes on (R16, R124). -/
def State.beginFrame (s : State) (e : Eng) (tiles : List Bytes) : State :=
  let fn := (s.eng e).tx.fn + 1
  let s := s.updEng e fun x => { x with tx := { x.tx with fn := fn, cann := x.tx.cannAt fn } }
  let p := (s.eng e).frameParams
  let left := (s.eng e).tx.depLeft.map (· - 1)
  if p.patterned then
    s.updEng e fun x => { x with tx := { x.tx with
      frame := none, depLeft := left, chain := x.patternSends } }
  else
    let sc := s.scSend e fn
    let s := sc.1
    let k := (s.eng e).tx.chain.omits
    let f : TxFrame := {
      fn := fn, mapgen := p.slotmap.mapgen.setWidth 4, linkid := p.frame.txLinkid, profile := BitVec.ofNat 4 p.code,
      overhead := s.overheadOf e k sc.2, tiles := tiles }
    let gone : Int := (timeFracs s.moduleTime : Int) + s.departure e
    s.updEng e fun x => { x with tx := { x.tx with
      frame := some f, depLeft := left, departs := ((fn, gone) :: x.tx.departs).take (2 ^ 20),
      chain := if x.tx.chain.phase == .idle then x.tx.chain
        else { x.tx.chain with owed := x.tx.chain.owed - k }.frame (frameBits f) } }

/-- Engines that send one payload: a Twin pair together, every other engine alone (R29).  Where a commit of TWIN executed
on one member only, the other's tile having failed, that member sends alone (R83). -/
def State.senders (s : State) (e : Eng) : List Eng :=
  if (s.eng (lowerOf e)).frameParams.isTwin && (s.eng (engOf (e.val / 2 * 2 + 1))).frameParams.isTwin then
    (if e.val % 2 == 0 then [e, engOf (e.val + 1)] else [])
  else [e]

/-- The frames of one payload begin (R29, R216). -/
def State.beginFrames (s : State) (e : Eng) : State :=
  match (s.senders e).filter fun x => (s.eng x).tx.running with
  | [] => s
  | es =>
    let r := if (s.eng e).frameParams.patterned then (s, []) else s.payload e
    es.foldl (fun s x => s.beginFrame x r.2) r.1

/-! ## What drains between ticks (R258, R320, R322) -/

/-- Spend a budget of thousandths on an amount of work: what is left of each. -/
def spend (budget need : Nat) : Nat × Nat :=
  if 1000 * need ≤ budget then (budget - 1000 * need, 0) else (budget % 1000, need - budget / 1000)

/-- Spend budgets of thousandths of AES rounds and of GHASH multiplications on a lane's requests, in order. -/
def spendJobs : Nat → Nat → List Job → Nat × Nat × List Job
  | a, g, [] => (a, g, [])
  | a, g, j :: js =>
    let x := spend a j.rounds
    let y := spend g j.ghash
    let rest := spendJobs x.1 y.1 js
    (rest.1, rest.2.1, { rounds := x.2, ghash := y.2 } :: rest.2.2)

/-- Requests that have nothing left to do complete, in order of admission (R322). -/
def finished (js : List Job) : List Job := js.dropWhile fun j => j.rounds == 0 && j.ghash == 0

/-- Groups that wait for the express lane join it in order, as far as its 512 entries go; what lies in the lane comes first
(R322, R323). -/
def joinExpress : List Job → List (List Job) → List Job × List (List Job)
  | lane, [] => (lane, [])
  | lane, g :: gs => if lane.length + g.length ≤ 512 then joinExpress (lane ++ g) gs else (lane, g :: gs)

/-- One MFC period of a bank: 1,024 round cores × 1.6 GHz and 256 multipliers × 0.8 GHz over 163.84 ns, express requests
first (R320, R322). -/
def Bank.drain (b : Bank) : Bank :=
  let e := spendJobs (b.carry + 268435456) (b.carryGhash + 33554432) b.express
  let k := spendJobs e.1 e.2.1 b.bulk
  let bulk := finished k.2.2
  let join := joinExpress (finished e.2.2) b.waiting
  let idle := join.1.isEmpty && bulk.isEmpty
  { b with
    express := join.1, waiting := join.2, bulk := bulk,
    peakNow := max b.peakNow (join.1.length + bulk.length),
    carry := if idle then 0 else k.1, carryGhash := if idle then 0 else k.2.1 }

/-- Frames that leave an egress buffer for a credit of client bytes, 20 bytes of preamble and gap with each (R258,
R296). -/
def sendOut : Nat → List Nat → Nat × List Nat
  | c, [] => (c, [])
  | c, l :: ls => if l + 20 ≤ c then sendOut (c - (l + 20)) ls else (c, l :: ls)

/-- One MFC period of a port's egress: 4,096 bytes a lane at 200 Gb/s of client data. -/
def Cport.drain (p : Cport) : Cport :=
  if p.egress.isEmpty then { p with credit := 0 }
  else
    let r := sendOut (p.credit + 4096 * p.params.active.form.width.toNat) p.egress
    { p with egress := r.2, credit := if r.2.isEmpty then 0 else r.1 }

/-- Banks, egress buffers and lane buffers over one MFC period. -/
def State.drain (s : State) : State :=
  let f := fun (x : FlowDir) => { x with bank := x.bank.drain }
  { s with flows := { s.flows with ingress := f s.flows.ingress, egress := f s.flows.egress },
           cports := s.cports.map Cport.drain, lanes := Vector.ofFn fun l => (s.lane l).tick (s.laneSymbols l) }

end Sys2Proof.Machine
end

