-- ==== Sys2Proof/Machine/FrameRows.lean ====
section
/-! DEFINITION. Group 0x08, the rows of the line frame: engine profile, frame configuration, slot map and status
(spec/09_brihezu_frame.md, R248 to R252; spec/02_line_profiles.md, R22, R23). -/

namespace Sys2Proof.Machine

/-! ## PROFILE (R22, R23, R119, R249) -/

/-- Reserved bits, a reserved LINE or OXB_SRC, or a pattern number that R124 does not list. -/
def badProfile (w : Nat) : Bool :=
  w % 16 > 6 || w.testBit 7 || w / 256 % 4 == 3 || w / 1024 % 4 != 0 || w / 4096 % 16 ≥ 10 || w / 65536 != 0

/-- PROFILE_WRITE (R119, R249). -/
def profileWriteBody (r : Request) (s : State) : Answer :=
  let n := field r.params 0 1
  let w := field r.params 4 4
  guards [
    (badForm r 8 || !zeroAt r.params 1 3 || badProfile w, .badParam),
    (!s.hasEngine n, .range),
    (!s.holdsEngine r.port n, .notTenant),
    (s.holdsScope 0 n, .busy),
    (w % 16 != 0 && s.calInvalid (engOf n), .calInvalid)]
    (.ok .ok [] (s.stage (engOf n) fun p => { p with profile := u32 r.params 4 }))

/-- PROFILE_WRITE. -/
def execProfileWrite (r : Request) (s : State) : Host.Outcome State Fault Refusal :=
  opcode 0x0801 false r s (profileWriteBody r)

/-- PROFILE_READ (R249). -/
def profileReadBody (r : Request) (s : State) : Answer :=
  engineGuards (badEngineCopy r) r s fun e =>
    answer ([u8 r.params 0, 0, 0, 0] ++ be 4 (copyOf (u8 r.params 1) (s.eng e).params).profile) s

/-- PROFILE_READ. -/
def execProfileRead (r : Request) (s : State) : Host.Outcome State Fault Refusal :=
  opcode 0x0802 false r s (profileReadBody r)

/-! ## FRAME_CONFIG (R250) -/

/-- The frame configuration of the 24 bytes of R250. -/
def parseFrame (p : Bytes) : FrameConfig :=
  { txLinkid := u8 p 1, expLinkid := u8 p 2, confirmN := u8 p 3, lofN := u8 p 4, scFlags := u8 p 5, selMode := u8 p 6,
    scKey := u32 p 8, twinTag := u16 p 12, scNonce := u64 p 16 }

/-- The 24 bytes of R250. -/
def renderFrame (e : Byte) (c : FrameConfig) : Bytes :=
  [e, c.txLinkid, c.expLinkid, c.confirmN, c.lofN, c.scFlags, c.selMode, 0] ++ be 4 c.scKey ++ be 2 c.twinTag ++ [0, 0]
    ++ be 8 c.scNonce

/-- CONFIRM_N and LOF_N: 0 or 2 to 15. -/
def thresholdOk (v : Byte) : Bool := v.toNat != 1 && v.toNat ≤ 15

/-- FRAME_CONFIG_WRITE (R250). -/
def frameConfigWriteBody (r : Request) (s : State) : Answer :=
  let n := field r.params 0 1
  let c := parseFrame r.params
  guards [
    (badForm r 24 || !zeroAt r.params 7 1 || !zeroAt r.params 14 2 || c.scFlags.toNat > 3 || c.selMode.toNat > 2,
      .badParam),
    (!s.hasEngine n || !thresholdOk c.confirmN || !thresholdOk c.lofN || c.scKey.toNat > 65536, .range),
    (!s.holdsEngine r.port n || (c.scKey != 0 && !s.holdsKs r.port (c.scKey.toNat - 1) 1), .notTenant),
    (s.holdsScope 2 n, .busy)]
    (.ok .ok [] (s.stage (engOf n) fun p => { p with frame := c }))

/-- FRAME_CONFIG_WRITE. -/
def execFrameConfigWrite (r : Request) (s : State) : Host.Outcome State Fault Refusal :=
  opcode 0x0803 false r s (frameConfigWriteBody r)

/-- FRAME_CONFIG_READ (R250). -/
def frameConfigReadBody (r : Request) (s : State) : Answer :=
  engineGuards (badEngineCopy r) r s fun e =>
    answer (renderFrame (u8 r.params 0) (copyOf (u8 r.params 1) (s.eng e).params).frame) s

/-- FRAME_CONFIG_READ. -/
def execFrameConfigRead (r : Request) (s : State) : Host.Outcome State Fault Refusal :=
  opcode 0x0804 false r s (frameConfigReadBody r)

/-! ## SLOTMAP (R251) -/

/-- The slot map of the 132 bytes of R251. -/
def parseMap (p : Bytes) : SlotMap := { mapgen := u8 p 1, entries := Vector.ofFn fun i => u8 p (4 + i.val) }

/-- The 132 bytes of R251. -/
def renderMap (e : Byte) (m : SlotMap) : Bytes := [e, m.mapgen, 0, 0] ++ m.entries.toList

/-- SLOTMAP_WRITE (R251); an entry names a populated client port (R2, R548). -/
def slotmapWriteBody (r : Request) (s : State) : Answer :=
  let n := field r.params 0 1
  let m := parseMap r.params
  guards [
    (badForm r 132 || !zeroAt r.params 2 2 || (slice r.params 4 128).any (fun b => b.toNat > 64), .badParam),
    (!s.hasEngine n || m.mapgen.toNat > 15 || m.entries.toList.any (fun b => b != 0 && !s.hasLane (b.toNat - 1)), .range),
    (!s.holdsEngine r.port n, .notTenant),
    (s.holdsScope 1 n, .busy)]
    (.ok .ok [] (s.stage (engOf n) fun p => { p with slotmap := m }))

/-- SLOTMAP_WRITE. -/
def execSlotmapWrite (r : Request) (s : State) : Host.Outcome State Fault Refusal :=
  opcode 0x0805 false r s (slotmapWriteBody r)

/-- SLOTMAP_READ (R251). -/
def slotmapReadBody (r : Request) (s : State) : Answer :=
  engineGuards (badEngineCopy r) r s fun e =>
    answer (renderMap (u8 r.params 0) (copyOf (u8 r.params 1) (s.eng e).params).slotmap) s

/-- SLOTMAP_READ. -/
def execSlotmapRead (r : Request) (s : State) : Host.Outcome State Fault Refusal :=
  opcode 0x0806 false r s (slotmapReadBody r)

/-! ## FRAME_STATUS (R252) -/

/-- Deframer state code. -/
def deframerCode : DeframerMode → Byte
  | .off => 0 | .hunt => 1 | .sync => 2

/-- DEFECTS of R252. -/
def Deframer.defects (d : Deframer) : Byte :=
  byte (bit d.los 0 + bit d.lof 1 + bit d.map 2 + bit d.link 3 + bit d.bdi 4 + bit d.twin 5 + bit (d.departed && d.los) 6)

/-- DEP of a received frame: reason and frames remaining. -/
def Overhead.dep (o : Overhead) : Bytes := [o.depReason, o.depLeft]

/-- SC_STATE of R252: running and enciphering by the transmit side's settings (R244 to R246). -/
def Engine.scState (x : Engine) : Byte :=
  let f := x.txParams.frame.scFlags
  byte (bit (f.getLsbD 0) 0 + bit (f.getLsbD 0 && f.getLsbD 1 && !x.sc.keyAbsent) 1 + bit x.sc.keyAbsent 2)

/-- The 80 bytes of R252.  SELECTED and TWIN_SKEW are the pair's, for both members. -/
def State.frameStatus (s : State) (e : Eng) : Bytes :=
  let x := s.eng e
  let d := x.deframer
  let pair := if x.params.active.isTwin then (s.eng (lowerOf e)).twin else {}
  [byte e.val, deframerCode d.mode, d.defects, d.rxProfile.setWidth 8] ++ be 4 x.tx.fn ++ be 4 d.fnr
    ++ [d.rxLinkid, d.rxMapgen.setWidth 8, sat 8 x.tx.chain.owed, byte pair.selected.val]
    ++ be 2 d.rx.bdiSum ++ d.rx.dep ++ be 4 d.rx.aps ++ be 8 d.rx.fstat ++ be 16 d.replaced ++ be 16 d.rx.bdiSlot
    ++ beBytes 4 d.roundTrip ++ be 4 (satInt 32 pair.skew) ++ [x.scState, 0] ++ be 2 x.sc.slips ++ be 4 d.ohcFail

/-- FRAME_STATUS (R252). -/
def frameStatusBody (r : Request) (s : State) : Answer :=
  engineGuards (badEngine3 r) r s fun e => answer (s.frameStatus e) s

/-- FRAME_STATUS. -/
def execFrameStatus (r : Request) (s : State) : Host.Outcome State Fault Refusal :=
  opcode 0x0807 false r s (frameStatusBody r)

end Sys2Proof.Machine
end

