-- ==== Sys2Proof/Machine/FrameReceive.lean ====
section
/-! DEFINITION. The deframer: the parse of a port's record sequence, delivery of slots, Twin selection, the fields of
accepted frames, defects, and alignment (spec/09_brihezu_frame.md, R224 to R246; spec/02_line_profiles.md, R29 to R35).
-/

namespace Sys2Proof.Machine

/-! ## Records of an Ethernet port (R231) -/

/-- The record in progress touches a tile. -/
def State.touchTile (s : State) (c : Cp) (id : Nat) : State :=
  if (s.cport c).parser.touch.contains id then s
  else s.updCport c fun q => { q with
    parser := { q.parser with touch := id :: q.parser.touch },
    tiles := q.tiles.map fun t => if t.id == id then { t with waits := t.waits + 1 } else t }

/-- The second byte of a record header: an idle record ends, a frame record begins, anything else loses the parse. -/
def State.recordHead (s : State) (c : Cp) (v : Nat) : State :=
  if v == 0 then
    let touch := (s.cport c).parser.touch
    (s.updCport c fun q => { q with parser := { on := true } }).fateTiles c touch 3 none
  else if v / 16384 == 1 && v % 16384 != 0 then
    s.updCport c fun q => { q with parser := { q.parser with head := none, need := v % 16384 } }
  else s.dropRecord c false

/-- One byte of the record sequence, in tile `id`, which came at module time `t1` (R11, R231).  Bytes outside the
parse are discarded, and the tile with them is wasted unless a frame in it has another fate (R490). -/
def State.recordByte (s : State) (c : Cp) (id : Nat) (t1 : BitVec 48) (b : Byte) : State :=
  if !(s.cport c).parser.on then
    s.updCport c fun p => { p with tiles := p.tiles.map fun t => if t.id == id then { t with cls := min t.cls 1 } else t }
  else
    let s := s.touchTile c id
    let p := (s.cport c).parser
    match p.need, p.head with
    | 0, none => s.updCport c fun q => { q with parser := { q.parser with
      head := some b, since := t1, entered := s.moduleTime } }
    | 0, some h => s.recordHead c (256 * h.toNat + b.toNat)
    | n + 1, _ =>
      if n == 0 then
        (s.updCport c fun q => { q with parser := { on := true } }).lineFrame c (b :: p.got).reverse p.touch
          p.since p.entered none
      else s.updCport c fun q => { q with parser := { q.parser with need := n, got := b :: p.got } }

/-- POINTER names this byte: the parse begins here, or begins anew where it does not stand at a record's end. -/
def State.atPointer (s : State) (c : Cp) : State :=
  let p := (s.cport c).parser
  if !p.on then s.updCport c fun q => { q with parser := { on := true } }
  else if p.need != 0 || p.head.isSome then s.dropRecord c true
  else s

/-- A tile of an Ethernet port, which came from engine `e` at module time `t1` (R231, R490).  It is held open while it is
parsed. -/
def State.portTile (s : State) (c : Cp) (e : Eng) (t1 : BitVec 48) (t : Bytes) : State :=
  let ptr := field t 0 1
  if ptr ≥ 64 then (s.dropRecord c false).countTiles e .egress 1 1
  else
    let id := (s.cport c).nextTile
    let s := s.updCport c fun q => { q with nextTile := id + 1, tiles := q.tiles ++ [{ id := id, engine := e, waits := 1 }] }
    let s := (t.drop 1).zipIdx.foldl (fun s b =>
      (if b.2 == ptr then s.atPointer c else s).recordByte c id t1 b.1) s
    s.fateTiles c [id] 3 none

/-! ## Delivery of a frame's slots (R238, R239, R490) -/

/-- The slot stream of slot `k` in the tiles of a frame of `slots` slots (R230). -/
def slotStream (tiles : List Bytes) (slots k : Nat) : Bytes :=
  ((List.range 8).map fun r => tiles.getD (r * slots + k) (plainTile 0xFF)).flatten

/-- Bits that differ. -/
def bitErrors (a b : List Bool) : Nat := (List.zip a b).countP fun p => p.1 != p.2

/-- The PRBS checker of one slot: its register is the next 23 bits, taken from the slot where it has none (R35;
log 15). -/
def checkSlot (reg : Option (BitVec 23)) (bits : List Bool) : Nat × BitVec 23 :=
  let start := reg.getD (BitVec.ofNat 23 (bitsValue (bits.take 23)))
  let r := prbs23Bits bits.length start
  (bitErrors r.1 bits, r.2)

/-- PRBS checking of every slot of a frame (R35). -/
def Deframer.checkPrbs (d : Deframer) (tiles : List Bytes) (slots : Nat) : Deframer :=
  let rs := (List.range slots).map fun k => checkSlot d.prbs[k]? (bytesBits (slotStream tiles slots k))
  { d with prbs := rs.map (·.2),
           prbsErrors := rs.zipIdx.map fun r => d.prbsErrors.getD r.2 0 + r.1.1 }

/-- One carried port receives its slots, which came at module time `t1`.  A slot of all ones stops the client frames
from the next frame on (R239, R272, R490). -/
def State.deliverPort (s : State) (e : Eng) (c : Cp) (sl : List Nat) (tiles : List Bytes) (slots : Nat)
    (replaced : Bool) (t1 : BitVec 48) : State :=
  let streams := sl.map (slotStream tiles slots)
  let mine := (List.range 8).flatMap fun r => sl.map fun k => tiles.getD (r * slots + k) (plainTile 0xFF)
  let s := s.updCport c fun p => { p with received := mine }
  let f := s.form c
  let s := if f.ethernet then mine.foldl (fun s t => s.portTile c e t1 t) s
    else if f.native then
      let near := (s.cport c).loopback == 1 || (s.cport c).loopback == 2
      let cls := if replaced || (s.nativeCtx c .egress).isNone then 1 else if near then 2 else 0
      (s.nativeOut c streams true t1).countTiles e .egress cls mine.length
    else s
  s.updCport c fun p => { p with onesLast := streams.any allOnes }

/-- Ports of an engine's lane group. -/
def State.groupPorts (s : State) (e : Eng) : List Cp :=
  (List.finRange 64).filter fun c => (s.form c).formed && s.portEngine c == e

/-- A native port that is not carried sends all ones (R233). -/
def State.idlePorts (s : State) (e : Eng) : State :=
  ((s.groupPorts e).filter fun c => (s.form c).native && (s.rxSlots c).isEmpty).foldl (fun s c =>
    s.nativeOut c (List.replicate (s.form c).slots (onesBytes 512)) false s.moduleTime) s

/-- Deliver one frame's slots, which came at module time `t1`, by the profile and the map that it came in, or every slot
replaced with all ones.  Under a
PRBS or pattern payload the group's ports get all ones, whatever arrives; during a Weir hold every port does (R35, R233,
R238, R239, R454). -/
def State.deliverBy (s : State) (e : Eng) (p : EngineParams) (tiles : List Bytes) (replaced : Bool) (t1 : BitVec 48) :
    State :=
  let slots := slotsOf p.line
  let replaced := replaced || s.weir.hold
  let ones := List.replicate (8 * slots) (plainTile 0xFF)
  let tiles := if replaced then ones else tiles
  let mask := (List.range slots).foldl (fun (m : BitVec 128) k =>
    if allOnes (slotStream tiles slots k) then m ||| (1 : BitVec 128) <<< k else m) 0
  let prbs := p.oxbow && p.oxbSrc == 1
  let s := s.updEng e fun x => { x with deframer :=
    { (if replaced then { x.deframer with prbs := [] }
       else if prbs then x.deframer.checkPrbs tiles slots else x.deframer) with replaced := mask } }
  if p.oxbow && p.oxbSrc != 0 then
    (s.groupPorts e).foldl (fun s c => s.deliverPort e c (List.range (s.form c).slots) ones (8 * slots) true t1) s
  else
    let ports := mapPorts p.slotmap p.line
    let used := (ports.map fun c => (portSlots p.slotmap p.line c).length).sum
    let s := ports.foldl (fun s c => s.deliverPort e c (portSlots p.slotmap p.line c) tiles slots replaced t1) s
    (s.countTiles e .egress (if replaced then 1 else 3) (8 * (slots - used))).idlePorts e

/-- Deliver one frame's slots as the receive side of engine `e` is set now. -/
def State.deliverTiles (s : State) (e : Eng) (tiles : List Bytes) (replaced : Bool) : State :=
  s.deliverBy e (s.eng e).rxParams tiles replaced s.moduleTime

/-! ## Three-frame filters (R237) -/

/-- One frame through a filter. -/
def Filter.step (f : Filter) (bad : Bool) : Filter :=
  if bad then { bad := min 3 (f.bad + 1), good := 0 } else { bad := 0, good := min 3 (f.good + 1) }

/-- The defect that follows a filter: raised at three bad frames, cleared at three good ones. -/
def Filter.defect (f : Filter) (old : Bool) : Bool := if old then f.good < 3 else f.bad ≥ 3

/-! ## Twin selection (R31, R32, R237, R241, R242) -/

/-- A pair by its lower member: the higher one. -/
def higherOf (e : Eng) : Eng := engOf (e.val / 2 * 2 + 1)

/-- Both pairs run Twin (R31). -/
def State.bothPairs (s : State) : Bool := (s.eng 0).rxParams.isTwin && (s.eng 2).rxParams.isTwin

/-- Usable differential delay U of the pair, in frames (R31). -/
def State.pairDelay (s : State) (low : Eng) : Nat := (delayStore s.bothPairs (slotsOf (s.eng low).rxParams.line)).2

/-- The later-arriving member of a pair whose delay is too large: 1 lower, 2 higher, 0 none (R32). -/
def TwinState.barred (t : TwinState) : Fin 3 := if !t.tooFar then 0 else if t.skew ≥ 0 then 2 else 1

/-- The copies of a member that is not selectable are not held (R32). -/
def TwinState.dropBarred (t : TwinState) : TwinState :=
  { t with lower := if t.barred == 1 then [] else t.lower, higher := if t.barred == 2 then [] else t.higher }

/-- Differential delay after an accepted frame: the members' arrivals, brought to one FN by frames of 163.84 ns, with
twin.skew.raise and twin.skew.clear (R32, R252). -/
def State.twinSkew (s : State) (low : Eng) : State :=
  let a := (s.eng low).deframer
  let b := (s.eng (higherOf low)).deframer
  match a.arrival, b.arrival with
  | some x, some y =>
    if a.mode != .sync || b.mode != .sync then s
    else
      let skew : Int := (y : Int) - x - (b.fnr - a.fnr).toInt * 262144 / 100
      let u := s.pairDelay low
      let was := (s.eng low).twin.tooFar
      let now := if was then decide (skew.natAbs * 100 > (u - 4) * 262144) else decide (skew.natAbs * 100 > u * 262144)
      let s := s.updEng low fun e => { e with twin := { e.twin with skew := skew, tooFar := now }.dropBarred }
      if now && !was then s.raise 0x0811 (.engine low) (be 4 (satInt 32 skew))
      else if was && !now then s.raise 0x0812 (.engine low) (be 4 (satInt 32 skew)) else s
  | _, _ => s

/-- The copy selected of one FN (R242): 0 none, 1 lower, 2 higher. -/
def selectCopy (mode : Byte) (old : Fin 3) (lower higher : Bool) : Fin 3 :=
  let pref : Fin 3 := if mode == 1 then 1 else if mode == 2 then 2 else if old == 2 then 2 else 1
  let ok := fun (k : Fin 3) => if k == 1 then lower else higher
  let other : Fin 3 := if pref == 1 then 2 else 1
  if ok pref then pref else if ok other then other else 0

/-- dTWIN after one frame (R237, R253). -/
def State.twinDefect (s : State) (low : Eng) (lower higher : Bool) : State :=
  let d := (s.eng low).deframer
  let ok := lower || higher
  let f := d.twinFilter.step (!ok)
  let now := f.defect d.twin
  let first : Fin 3 := if f.good == 1 then (if lower then 1 else 2) else (s.eng low).twin.firstOk
  let s := s.updEng low fun x => { x with
    deframer := { x.deframer with twin := now, twinFilter := f }, twin := { x.twin with firstOk := first } }
  if now && !d.twin then s.raise 0x080B (.engine low) []
  else if d.twin && !now then s.raise 0x080C (.engine low) [byte first.val] else s

/-- The number of the frame last delivered to a lower member's lane group (R32, R36). -/
def State.noteDelivered (s : State) (low : Eng) (fn : BitVec 32) : State :=
  s.updEng low fun x => { x with twin := { x.twin with lastFn := some fn } }

/-- The pair delivers one frame: its copies, as far as they have come, by the profile and the map that they came in (R36,
R242).  Where Twin has ended, frames that still waited are delivered without a new selection. -/
def State.twinDeliver (s : State) (low : Eng) (a b : Option TwinCopy) : State :=
  let t := (s.eng low).twin
  let runs := (s.eng low).rxParams.isTwin
  let params := match a.or b with | some x => x.params | none => (s.eng low).rxParams
  let usable := fun (o : Option TwinCopy) (k : Fin 3) =>
    t.barred != k && (match o with | some x => x.usable | none => false)
  let lower := usable a 1
  let higher := usable b 2
  let sel := selectCopy (s.eng low).rxParams.frame.selMode t.selected lower higher
  let s := if !runs then s
    else (s.updEng low fun x => { x with twin := { x.twin with
      selected := sel, changes := x.twin.changes + (if sel == t.selected then 0 else 1), lowerOk := lower,
      higherOk := higher } }).twinDefect low lower higher
  let s := match a.or b with | some x => s.noteDelivered low x.fn | none => s
  match (if sel == 1 then a else if sel == 2 then b else none) with
  | some x => s.deliverBy low x.params x.tiles false x.came
  | none => s.deliverBy low params [] true (match a.or b with | some x => x.came | none => s.moduleTime)

/-- A copy of a frame that has been delivered: its FN lies within the largest allotment of R31 behind the last one's
(R32, R36; log 27). -/
def TwinState.stale (t : TwinState) (fn : BitVec 32) : Bool :=
  match t.lastFn with | some l => (l - fn).toNat < 1024 | none => false

/-- A member's copy is not waited for: Twin has ended, the member is out of SYNC, barred, or the wait has used up U. -/
def State.noWait (s : State) (low m : Eng) (waiting : Nat) : Bool :=
  !(s.eng low).rxParams.isTwin || (s.eng m).deframer.mode != .sync || (s.eng m).tileFailed
    || ((s.eng low).twin.barred != 0 && ((s.eng low).twin.barred == 1) == (m == low)) || waiting > s.pairDelay low

/-- The lower member's fibre carries its lane group alone: Twin has not begun on it, or has ended (R36). -/
def State.lowerAlone (s : State) (low : Eng) : Bool := !(s.eng low).rxParams.isTwin && !(s.eng low).tileFailed

/-- Deliver what is ready, in order of FN, at most `n` frames (R31, R241).  Copies of the higher member wait while the
lower one has yet to start Twin, and are dropped where it has ended it: the lower member has delivered those frames
(R36). -/
def State.twinDrain (low : Eng) : Nat → State → State
  | 0, s => s
  | n + 1, s =>
    let t := (s.eng low).twin
    let popA := fun (s : State) => s.updEng low fun x => { x with twin := { x.twin with lower := x.twin.lower.drop 1 } }
    let popB := fun (s : State) => s.updEng low fun x => { x with twin := { x.twin with higher := x.twin.higher.drop 1 } }
    match t.lower, t.higher with
    | [], [] => s
    | a :: _, b :: _ =>
      if a.fn == b.fn then State.twinDrain low n ((popB (popA s)).twinDeliver low (some a) (some b))
      else if reached b.fn a.fn then State.twinDrain low n ((popA s).twinDeliver low (some a) none)
      else State.twinDrain low n ((popB s).twinDeliver low none (some b))
    | a :: _, [] =>
      if s.noWait low (higherOf low) t.lower.length then State.twinDrain low n ((popA s).twinDeliver low (some a) none)
      else s
    | [], b :: _ =>
      if s.lowerAlone low then
        if (s.eng (higherOf low)).rxParams.isTwin && t.higher.length ≤ s.pairDelay (higherOf low) then s
        else State.twinDrain low n (popB s)
      else if s.noWait low low t.higher.length then State.twinDrain low n ((popB s).twinDeliver low none (some b)) else s

/-- ROLE of a received APS (R225). -/
def apsRole (a : BitVec 32) : Nat := a.toNat / 2 ^ 30
/-- TWIN_TAG of a received APS. -/
def apsTag (a : BitVec 32) : BitVec 16 := a.setWidth 16

/-- A member's received APS carries another TWIN_TAG than the local one (R241). -/
def State.tagFault (s : State) (e : Eng) : Bool :=
  let x := s.eng e
  x.rxParams.frame.twinTag != 0 && apsTag x.deframer.rx.aps != x.rxParams.frame.twinTag

/-- The higher member receives the same ROLE as the lower one (R241). -/
def State.roleFault (s : State) (e : Eng) : Bool :=
  let x := s.eng e
  let o := s.eng (lowerOf e)
  e.val % 2 == 1 && x.deframer.mode == .sync && o.deframer.mode == .sync
    && apsRole x.deframer.rx.aps == apsRole o.deframer.rx.aps

/-- twin.aps.mismatch of one cause on a member: raised once until the condition clears (R241, R253). -/
def State.apsEvent (s : State) (e : Eng) (cause : Byte) (was now : Bool) : State :=
  if now && !was then
    s.raise 0x0813 (.engine (lowerOf e)) ([byte (e.val % 2 + 1), cause] ++ be 2 (apsTag (s.eng e).deframer.rx.aps))
  else s

/-- The APS received on a member is held against the TWIN_TAG, and against the other member's ROLE (R241). -/
def State.checkAps (s : State) (e : Eng) : State :=
  let high := higherOf (lowerOf e)
  let tag := s.tagFault e
  let role := s.roleFault high
  let wasTag := (s.eng e).deframer.apsTag
  let wasRole := (s.eng high).deframer.apsRole
  let s := s.updEng e fun y => { y with deframer := { y.deframer with apsTag := tag } }
  let s := s.updEng high fun y => { y with deframer := { y.deframer with apsRole := role } }
  (s.apsEvent e 1 wasTag tag).apsEvent high 2 wasRole role

/-- A member's copy enters the delay store, unless its frame has been delivered, and what is ready is delivered (R32, R36,
R241).  `good`: its header is accepted or
passes HCRC with the expected FN, and no uncorrectable position carried a bit of it. -/
def State.twinCopy (s : State) (e : Eng) (fn : BitVec 32) (good : Bool) (f : RxFrame) (tiles : List Bytes) : State :=
  let d := (s.eng e).deframer
  let usable := d.mode == .sync && !d.los && !d.map && !d.link && good && apsRole d.rx.aps != 0
    && !s.tagFault e && !s.roleFault e
  let low := lowerOf e
  let x : TwinCopy := { fn := fn, usable := usable, arrival := f.arrival, came := s.moduleTime, tiles := tiles,
                        params := (s.eng e).rxParams }
  if (s.eng low).twin.stale fn then s
  else
    let s := s.updEng low fun y => { y with twin := (if e == low then { y.twin with lower := y.twin.lower ++ [x] }
      else { y.twin with higher := y.twin.higher ++ [x] }).dropBarred }
    State.twinDrain low 4096 s

/-! ## Fields of an accepted frame -/

/-- The key that deciphers the side channel: the one in force for the egress direction (R245, R246, R340). -/
def State.scRxKey (s : State) (f : FrameConfig) : Option Bytes :=
  match s.scKeySlot .egress f with
  | none => none
  | some k => k.egressKeys.head?.map (·.key)

/-- A side-channel byte enters the 8-byte buffer, or slips (R244). -/
def SideChannel.put (c : SideChannel) (b : Byte) : SideChannel :=
  if c.egress.length ≥ 8 then { c with slips := bump c.slips, longSlips := c.longSlips + 1 }
  else { c with egress := c.egress ++ [b] }

/-- The side channel of an accepted frame (R244 to R246): a byte is dropped where SC_ENC is not the own one, and where no
key is there to decipher it. -/
def State.scReceive (s : State) (e : Eng) (fn : BitVec 32) (linkid : Byte) (o : Overhead) : State :=
  let f := (s.eng e).rxParams.frame
  let old := (s.eng e).sc.rxShift
  let shift := if !o.scEnc then none
    else if !(s.eng e).deframer.lastEnc then some (cipherIv f.scNonce fn linkid)
    else some (old.getD (cipherIv f.scNonce fn linkid))
  let s := s.updEng e fun x => { x with
    deframer := { x.deframer with lastEnc := o.scEnc }, sc := { x.sc with rxShift := shift } }
  if !o.scValid || f.scFlags.getLsbD 1 != o.scEnc then s
  else match shift with
    | none => s.updEng e fun x => { x with sc := x.sc.put o.scb }
    | some sh =>
      match s.scRxKey f with
      | none => s
      | some k =>
        let r := cfb8Decrypt k sh o.scb
        (s.updEng e fun x => { x with sc := { x.sc with rxShift := some r.2 }.put r.1 }).scBlock .egress k

/-- DEP of an accepted frame: frame.far.departing once a departure (R240). -/
def State.depReceive (s : State) (e : Eng) (o : Overhead) : State :=
  let was := (s.eng e).deframer.departing
  if o.depReason == 0 then s.updEng e fun x => { x with deframer := { x.deframer with departing := false } }
  else
    let s := s.updEng e fun x => { x with deframer := { x.deframer with departing := true, lastDep := some s.moduleTime } }
    if was then s else s.raise 0x080F (.engine e) [o.depReason]

/-- The receive profile code and MAPGEN (R237). -/
def EngineParams.rxCode (p : EngineParams) : Nat × Nat := (p.code, p.slotmap.mapgen.toNat % 16)

/-- dMAP, dLINK and dBDI after an accepted frame (R237, R253). -/
def State.smallDefects (s : State) (e : Eng) (h : BitVec 64) (o : Overhead) : State :=
  let p := (s.eng e).rxParams
  let d := (s.eng e).deframer
  let exp := p.frame.expLinkid
  let fm := d.mapFilter.step (headerProfile h != p.rxCode.1 || headerMapgen h != p.rxCode.2)
  let fl := if exp == 0 then {} else d.linkFilter.step (headerLinkid h != exp)
  let fb := d.bdiFilter.step (o.bdiSum.toNat / 2048 != 0)
  let map := fm.defect d.map
  let link := exp != 0 && fl.defect d.link
  let bdi := fb.defect d.bdi
  let s := s.updEng e fun x => { x with deframer := { x.deframer with
    map := map, link := link, bdi := bdi, mapFilter := fm, linkFilter := fl, bdiFilter := fb } }
  let s := if map && !d.map then
      s.raise 0x0805 (.engine e) [byte (headerProfile h), byte (headerMapgen h), byte p.rxCode.1, byte p.rxCode.2]
    else if d.map && !map then s.raise 0x0806 (.engine e) [] else s
  let s := if link && !d.link then s.raise 0x0807 (.engine e) [headerLinkid h, exp]
    else if d.link && !link then s.raise 0x0808 (.engine e) [] else s
  if bdi && !d.bdi then s.raise 0x0809 (.engine e) (be 2 o.bdiSum)
  else if d.bdi && !bdi then s.raise 0x080A (.engine e) [] else s

/-- The line round-trip delay of an accepted frame in 1/16 ns, from the frame of the own FN that it echoes (R228). -/
def State.roundTripOf (s : State) (e : Eng) (o : Overhead) (arrival : Nat) : Option Nat :=
  if !o.echoValid then none
  else ((s.eng e).tx.departs.find? fun d => d.1 == o.echo).map fun d =>
    ((4096 * (arrival : Int) - d.2 - o.dwell.toNat) / 4096).toNat

/-- θ of an accepted frame in 2^−16 ns, where LTS_TS names the own LTS domain and the round trip is known (R410). -/
def State.thetaSample (s : State) (e : Eng) (o : Overhead) (arrival : Nat) : Option Int :=
  match s.ltsDomain e with
  | none => none
  | some d =>
    let rt := (s.eng e).deframer.roundTrip
    if o.ltsTs != (tdCode d).setWidth 4 || rt == 0 then none
    else
      let lts : Int := (o.ltsSec.toNat * 1000000000 + o.ltsNs.toNat) * 65536 + o.ltsFrac.toNat
      let asym : Int := (s.time.config.active.asym[e]).toInt * 65536 / 1000
      let off : Int := 4096 * (arrival : Int) - timeFracs s.moduleTime
      some (lts + 2048 * rt + asym - fracsOf ((s.domain d).at_ off))

/-- Delays and time differences of the last 64 frames (R228, R410). -/
def State.measureLine (s : State) (e : Eng) (o : Overhead) (arrival : Nat) : State :=
  let s := match s.roundTripOf e o arrival with
    | some v => s.updEng e fun x => { x with deframer := { x.deframer with rtd := (v :: x.deframer.rtd).take 64 } }
    | none => s
  match s.thetaSample e o arrival with
  | some v => s.updEng e fun x => { x with deframer := { x.deframer with theta := (v :: x.deframer.theta).take 64 } }
  | none => s

/-- A frame is accepted: its header and its overhead fields act (R224). -/
def State.acceptFrame (s : State) (e : Eng) (f : RxFrame) (o : Overhead) : State :=
  let h := f.header
  let fn := headerFn h
  let s := s.updEng e fun x => { x with deframer := { x.deframer with
    fnr := fn, rxProfile := BitVec.ofNat 4 (headerProfile h), rxLinkid := headerLinkid h,
    rxMapgen := BitVec.ofNat 4 (headerMapgen h), rx := o, arrival := some f.arrival } }
  let s := s.measureLine e o f.arrival
  let s := (s.smallDefects e h o).depReceive e o
  let s := s.scReceive e fn (headerLinkid h) o
  let s := if (s.eng e).rxParams.isTwin then (s.checkAps e).twinSkew (lowerOf e) else s
  (s.onCann e fn o.cann).onCack e o.cack

/-! ## Alignment (R235, R236) -/

/-- CONFIRM_N and LOF_N in force (R250). -/
def confirmN (f : FrameConfig) : Nat := if f.confirmN == 0 then 3 else f.confirmN.toNat
/-- LOF_N in force. -/
def lofN (f : FrameConfig) : Nat := if f.lofN == 0 then 5 else f.lofN.toNat

/-- A header with this PROFILE may start a candidate (R235). -/
def startsCandidate (code : Nat) : Bool := code % 8 != 0 && code % 8 != 7

/-- The receiver reaches TRACK when the deframer reaches SYNC, with the profile code received (R149, R165, R166). -/
def State.rxTrack (s : State) (e : Eng) (code : Nat) : State :=
  let x := s.eng e
  if x.rx.mode != .decode then s
  else
    let us : BitVec 32 := sat 32 ((s.moduleTime - x.rx.freqEntry).toNat * 16384 / 100000)
    (s.updEng e fun x => { x with rx := { x.rx with
      mode := .track, lineOffered := true, acqCount := x.rx.acqCount + 1, acqTime := us } }).raise 0x0501 (.engine e)
        ([byte code, 0] ++ be 4 us)

/-- The deframer reaches SYNC with a candidate: the other candidates and streams are dropped, the cycle phase is fixed,
dLOF clears (R205, R228, R236, R237, R253). -/
def State.enterSync (s : State) (e : Eng) (k : Candidate) (code : Nat) : State :=
  let still := (s.eng e).rxParams.line == 6
  let s := s.updEng e fun x => { x with
    deframer := { x.deframer with
      mode := .sync, cands := [], ambiguous := false, misses := 0, jump := none, expect := k.fn + 1, next := k.next,
      ohcBad := false, arrival := none, rtd := [], theta := [] },
    fec := { x.fec with
      phase := some k.stream, testing := false,
      streams := Vector.ofFn fun i => if i == k.stream then x.fec.streams[i] else {} } }
  (s.lofClear e (be 4 k.fn ++ [if still then 0xFF else byte k.stream.val])).rxTrack e code

/-- A header in HUNT: it confirms or drops the candidates that expect one here, and starts one of its own (R235,
R236). -/
def State.huntFrame (s : State) (e : Eng) (f : RxFrame) : State :=
  let d := (s.eng e).deframer
  let ok := headerOk f.header
  let fn := headerFn f.header
  let code := headerProfile f.header
  let o := (descramble fn f.overhead [] 0).1
  let omitted := ohField o 64 3
  let here := fun (c : Candidate) => c.stream == f.stream && c.next == f.position
  let confirms := fun (c : Candidate) => here c && ok && fn == c.fn + 1 && overheadOk o && c.omitOk
  let next := f.position + frameLength code omitted
  let grown := (d.cands.filter confirms).map fun c => { c with
    next := next, fn := fn, count := c.count + 1, omitOk := decide (omitted ≤ 4) }
  let rest := d.cands.filter fun c => !here c
  let fresh : List Candidate := if ok && startsCandidate code && grown.isEmpty then
      [{ stream := f.stream, next := next, fn := fn, count := 0, omitOk := decide (omitted ≤ 4) }] else []
  let s := s.updEng e fun x => { x with deframer := { x.deframer with cands := rest ++ grown ++ fresh } }
  match grown.find? fun c => c.count ≥ confirmN (s.eng e).rxParams.frame with
  | none => s
  | some c =>
    let held := (rest ++ grown).filter fun x => x.count ≥ 1
    if held.length ≤ 1 then s.enterSync e c code
    else if d.ambiguous then s
    else (s.updEng e fun x => { x with deframer := { x.deframer with ambiguous := true } }).raise 0x080E (.engine e)
      [byte held.length]

/-- The deframer leaves SYNC for HUNT; the receiver falls back to DECODE, the phase hunt runs again on all streams, and
the group alignment is put to the test (R149, R205, R211, R236, R237). -/
def State.leaveSync (s : State) (e : Eng) : State :=
  let s := s.updEng e fun x => { x with
    deframer := { x.deframer with
      mode := .hunt, cands := [], ambiguous := false, misses := 0, jump := none, rtd := [], theta := [] },
    fec := { x.fec.losePhase with testing := x.fec.testing || x.rx.mode == .track },
    rx := { x.rx with mode := if x.rx.mode == .track then .decode else x.rx.mode, lineOffered := false } }
  s.lofRaise e

/-- An accepted frame mismatches the receive side's code, MAPGEN or, under an EXP_LINKID, LINKID (R238). -/
def EngineParams.mismatches (p : EngineParams) (h : BitVec 64) : Bool :=
  headerProfile h != p.rxCode.1 || headerMapgen h != p.rxCode.2
    || (p.frame.expLinkid != 0 && headerLinkid h != p.frame.expLinkid)

/-- The payload of a frame in SYNC: a Twin copy, or the engine's slots, replaced under R238. -/
def State.deliverFrame (s : State) (e : Eng) (fn : BitVec 32) (good accepted : Bool) (f : RxFrame) (damaged : Bool)
    (tiles : List Bytes) : State :=
  let x := s.eng e
  if x.rxParams.isTwin then s.twinCopy e fn ((good || accepted) && !damaged) f tiles
  else
    let s := if e.val % 2 == 0 then (State.twinDrain e 4096 s).noteDelivered e fn else s
    let replaced := x.deframer.mode != .sync || x.deframer.map || x.deframer.link
      || (accepted && x.rxParams.mismatches f.header)
    s.deliverTiles e tiles replaced

/-- The frame at the expected position in SYNC (R224, R236). -/
def State.takeFrame (s : State) (e : Eng) (f : RxFrame) : State :=
  let d := (s.eng e).deframer
  let ok := headerOk f.header
  let fn := headerFn f.header
  let good := ok && fn == d.expect
  let jumped := ok && !good && (match d.jump with | some j => fn == j + 1 | none => false)
  let x := descramble (if ok then fn else d.expect) f.overhead f.rest (8 * slotsOf (s.eng e).rxParams.line)
  let ohcOk := overheadOk x.1
  let omitted := omitOf x.1
  let misses := if good || jumped then 0 else d.misses + 1
  let now := if good || jumped then fn else d.expect
  let next := f.position + frameLength (s.eng e).rxParams.line omitted
  let s := s.updEng e fun y => { y with
    deframer := { y.deframer with
      misses := misses, jump := if ok && !good && !jumped then some fn else none, expect := now + 1, next := next,
      ohcBad := !ohcOk, ohcFail := if ohcOk then d.ohcFail else d.ohcFail + 1 },
    fec := { y.fec with streams := y.fec.streams.map fun r => r.dropTo (next - 2048) } }
  let s := if jumped then s.raise 0x080D (.engine e) (be 4 fn) else s
  let accepted := (good || jumped) && ohcOk
  let s := if accepted then s.acceptFrame e f (parseOverhead x.1) else s
  let s := if misses ≥ lofN (s.eng e).rxParams.frame then s.leaveSync e else s
  s.deliverFrame e now good accepted f (f.damagedTo next) x.2

/-- All of the frame's bits have come. -/
def Engine.whole (x : Engine) (f : RxFrame) : Bool :=
  let fn := if headerOk f.header then headerFn f.header else x.deframer.expect
  decide (2048 + f.rest.length ≥ frameLength x.rxParams.line (omitOf (descramble fn f.overhead [] 0).1))

/-- Receive sides that fall due at the frame expected next switch before it (R96). -/
def State.rxSwitches (s : State) (e : Eng) : State :=
  s.commits.foldl (fun s k => if s.rxSwitchDue k e then s.pairRx k e else s) s

/-- A frame at a position that the deframer examines: the expected one, or, after a frame that failed OHC, one of the
five for OMIT 0 to 4, where only the expected header counts ahead of the last (R236). -/
def State.syncFrame (s : State) (e : Eng) (f : RxFrame) : State :=
  let d := (s.eng e).deframer
  let early := d.ohcBad && headerOk f.header && headerFn f.header == d.expect
    && [512, 1024, 1536, 2048].any fun k => f.position + k == d.next
  if (s.eng e).fec.phase != some f.stream || !(f.position == d.next || early) then s
  else
    let t := s.rxSwitches e
    if (t.eng e).deframer.mode != .sync then t
    else if !(t.eng e).whole f then s
    else t.takeFrame e f

/-- A frame arrives at engine `e`. -/
def State.frameRx (s : State) (e : Eng) (f : RxFrame) : State :=
  if (s.eng e).tileFailed then s
  else match (s.eng e).deframer.mode with
    | .off => s
    | .hunt => s.huntFrame e f
    | .sync => s.syncFrame e f

/-- The bits that the decoder has delivered from a position of a stream on, as a frame; none before a header and the
overhead are there (R205, R216, R223). -/
def FecState.frameAt (f : FecState) (stream : Fin 5) (position arrival : Nat) : Option RxFrame :=
  let r := f.streams[stream]
  let bits := r.bits.drop (position - r.start)
  if !f.aligned || position < r.start || bits.length < 2048 then none
  else some {
    stream := stream, position := position, header := BitVec.ofNat 64 (bitsValue (bits.take 64)),
    overhead := BitVec.ofNat 1984 (bitsValue ((bits.drop 64).take 1984)),
    rest := (bits.drop 2048).take (frameLength 1 0 - 2048), hurt := r.hurt, arrival := arrival }

/-- FRAME_RECEIVE: the bits of one frame reach the deframer, out of a stream of the decoder's (R205, R224 to R242). -/
def execFrameReceive (e : Eng) (f : FrameArrival) (s : State) : Host.Outcome State Fault Refusal :=
  event s fun s =>
    match (s.eng e).fec.frameAt f.stream f.position f.arrival with
    | none => s
    | some x => s.frameRx e x

/-! ## Side-channel slots (R243, R244) -/

/-- One slot of SCn: the byte sampled on SCn_TXD, and the one that goes out on SCn_RXD. -/
def State.scSlot (s : State) (e : Eng) (b : Byte) (valid : Bool) : State :=
  let en := (s.eng e).txParams.frame.scFlags.getLsbD 0
  s.updEng e fun x => { x with sc := { x.sc with
    ingress := if valid then x.sc.ingress ++ [(s.moduleTime, b)] else x.sc.ingress,
    rxd := if en then x.sc.egress.head? else none,
    egress := if en then x.sc.egress.drop 1 else x.sc.egress } }

/-- SC_SLOT. -/
def execScSlot (e : Eng) (b : Byte) (valid : Bool) (s : State) : Host.Outcome State Fault Refusal :=
  eventIf s (s.hasEngine e.val) fun s => s.scSlot e b valid

/-! ## A failed tile (R6) -/

/-- The tile fails until a module reset: its laser is quenched, its transmitter stops, and from now on its egress slots
are replaced (R6, R121, R219, R238).  The spec gives tile.link.fail neither a code nor data: both are free (log 16). -/
def State.failTile (s : State) (e : Eng) : State :=
  let s := s.updEng e fun x => { x with tileFailed := true }
  let code := BitVec.ofNat 16 s.free
  let s := s.skip.raise code (.engine e) (beBytes 6 s.skip.free)
  let s := ((s.skip.quench e 6).txStop e).updEng e fun x => { x with tx := { x.tx with chain := x.tx.chain.cut } }
  s.commits.foldl (fun s k => s.settleCommit k.id) s

/-- TILE_LINK_FAIL. -/
def execTileLinkFail (e : Eng) (s : State) : Host.Outcome State Fault Refusal :=
  eventIf s (s.hasEngine e.val && !(s.eng e).tileFailed) fun s => s.failTile e

end Sys2Proof.Machine
end

