-- ==== Sys2Proof/Machine/RxChain.lean ====
section
/-! DEFINITION. The receive chain of an engine as it runs: ADC samples through front-end correction, resampler, bulk
compensation, equaliser and carrier recovery, to the data symbols that wait for the decoder, with the copies that a
capture takes on the way (spec/06_receive_path.md, R130 to R145, R161). -/

namespace Sys2Proof.Machine

/-- Baud of a profile in GBd (R25). -/
def Profile.baud (p : Profile) : Rat := mkRat p.baudNum p.baudDen

/-- ADC and DAC sample rate of a profile in GS/s: exactly 6/5 of the baud (R110, R131). -/
def Profile.adcRate (p : Profile) : Rat := 6 * p.baud / 5

/-- Channel centre in MHz (R115). -/
def TxConfig.centre (c : TxConfig) : Nat := 180000000 + c.chan.toNat * 6250

/-- The active kernel. -/
def Engine.kernel (x : Engine) : Nat := x.rxParams.kernel

/-- CPR_AVG in force (R145, R164). -/
def EngineParams.cprAvg (p : EngineParams) : Nat :=
  orDefault p.rx.cprAvg (match profileOf p.line with | some q => q.cprAvg | none => 16)

/-- PHASE_BPS_OFF: no blind phase search (R145, R163). -/
def EngineParams.bpsOff (p : EngineParams) : Bool := p.rx.flags.getLsbD 1

/-- What the stages made of some samples: after front-end correction, the resampler, bulk compensation, the equaliser and
carrier recovery (R130). -/
structure Stages where
  front : List Quad := []
  sampled : List Quad := []
  bulk : List Quad := []
  symbols : List Quad := []
  recovered : List Quad := []
  deriving DecidableEq, Repr

/-- Stages 2 to 5 of the chain. -/
def Engine.equalised (x : Engine) (e : Eng) (p : Profile) (samples : List Quad) : RxPipe × Stages :=
  let c := x.rxParams
  let k := x.rx.pipe
  let front := (frontCorrect e.val c.rx x.rx.frontEnd p.adcRate (k.raw ++ samples)).drop k.raw.length
  let k := if samples.isEmpty then k else { k with raw := samples }
  let r := k.resample x.kernel x.rx.rho front
  let k := { r.1 with fill := r.1.fill ++ r.2 }
  let b := RxPipe.save c.line (bulkFilter c.line x.rx.cdBulk c.tx.centre p.adcRate) (k.fill.length / fftNew c.line) k
  let q := b.1.equalise (maskTaps x.rx.taps x.rx.eq) b.2
  (q.1, { front := front, sampled := r.2, bulk := b.2, symbols := q.2 })

/-- Stage 6: the offset, then, once a pilot candidate is kept, the pilot grid and the phase.  Data symbols before the first
pilot behind the search have no phase and go no further (R143 to R145, R152). -/
def Engine.carried (x : Engine) (p : Profile) (k : RxPipe) (symbols : List Quad) :
    RxPipe × Option PilotGrid × List Quad :=
  let c := x.rxParams
  let r := k.derotate x.rx.carrier p.baud symbols
  match x.rx.grid with
  | none => (r.1, none, r.2)
  | some g =>
    let k := r.1
    let queued := k.out.length + (k.held.countP fun h => h.pilot.isNone)
    let left := if k.restarted == some x.fec.chain then none else x.fec.chainIn queued
    let t := g.tag left r.2
    let k := { k with
      held := k.held ++ t.1, restarted := if t.2.2 then some x.fec.chain else k.restarted }
    let o := RxPipe.release c.cprAvg c.bpsOff k.held.length k
    (o.1, some t.2.1, o.2)

/-- Entry size in bytes and maximum COUNT of a capture point. -/
def capturePoint : Nat → Nat × Nat
  | 1 | 2 | 3 => (4, 16384)
  | 4 | 5 => (8, 8192)
  | _ => (496, 1)

/-- The entries that a capture copies of what the stages made: up to POINT 0x03 of 8 bits, from 0x04 of 16 bits in 1/256 of
the unit amplitude; the taps are copied at the end (R161). -/
def Stages.entries (g : Stages) (point : Nat) : Bytes :=
  let small := fun (l : List Quad) => l.flatMap fun q => q.values.map fun v => captured 8 v
  let large := fun (l : List Quad) => l.flatMap fun q => q.values.flatMap fun v => be 2 (captured 16 (256 * v))
  match point with
  | 1 => small g.front
  | 2 => small g.sampled
  | 3 => small g.bulk
  | 4 => large g.symbols
  | 5 => large g.recovered
  | _ => []

/-- Bytes of a capture that is complete. -/
def CaptureJob.size (j : CaptureJob) : Nat := j.count * (capturePoint j.point.toNat).1

/-- A running capture takes what the stages made, once its boundary has come (R161). -/
def RxState.copy (r : RxState) (now : BitVec 48) (g : Stages) : RxState :=
  match r.capturing with
  | none => r
  | some j =>
    if (now - j.start).toNat ≥ 2 ^ 47 then r
    else { r with capture := (r.capture ++ g.entries j.point.toNat).take j.size }

/-- The samples that the ADCs take: of the light received, or, under OXB_LOOP, of what the DACs sent, from which that light
deviates (R34). -/
def Engine.arrived (x : Engine) (l : List Quad) : List Quad :=
  if x.rxParams.loop then l.zipIdx.map fun p => p.1.add (x.rx.looped.getD p.2 {}) else l

/-- ADC samples run through the chain, which runs while LINE is a profile (R130). -/
def State.receive (s : State) (e : Eng) (samples : List Quad) : State :=
  s.updEng e fun x =>
    match x.rxProfile with
    | none => x
    | some p =>
      let a := x.equalised e p (x.arrived samples)
      let b := x.carried p a.1 a.2.symbols
      let rx := { x.rx with pipe := b.1, grid := b.2.1, looped := x.rx.looped.drop samples.length }
      { x with rx := rx.copy s.moduleTime { a.2 with recovered := b.2.2 } }

end Sys2Proof.Machine
end

