-- ==== Sys2Proof/Machine/TxSignal.lean ====
section
/-! DEFINITION. The transmit signal path behind the symbols: pulse shaping (R110), dispersion pre-compensation (R111), the
quadrants' corrections (R112), scaling and clipping (R113), and the chains' boundaries (R114).  Log 35 names what the rules
leave open. -/

namespace Sys2Proof.Machine

/-- The point of a symbol; a pilot's quadrants are ±√E (R105, R108). -/
def Symbol.point : Symbol → Quad
  | .data xi xq yi yq => { xi := xi, xq := xq, yi := yi, yq := yq }
  | .pilot e a b c d =>
    let v := fun (x : Bool) => if x then Config.squareRoot (mkRat e 32) else -(Config.squareRoot (mkRat e 32))
    { xi := v a, xq := v b, yi := v c, yq := v d }

/-- One chain's part of a frame's time: its LINE code, the symbols that its filters reach, how many of them are of this
frame, and the symbol periods of the chain up to the last. -/
structure TxPart where
  line : Nat
  symbols : List Symbol
  now : Nat
  period : Nat
  deriving DecidableEq, Repr

/-- The parts of the last frame's time: at a chain change the old chain's and the new one's, each filtered alone (R114). -/
def TxChain.parts (c : TxChain) : List TxPart :=
  match c.ended with
  | none => [{ line := c.line, symbols := c.past ++ c.sent, now := c.sent.length, period := c.period }]
  | some (n, line, period, before) =>
    [{ line := line, symbols := before ++ c.sent.take n, now := n, period := period },
     { line := c.line, symbols := c.sent.drop n, now := c.sent.length - n, period := c.period }]

/-- Roll-off of ROLLOFF (R110). -/
def TxConfig.beta (c : TxConfig) : Rat := mkRat (4 + c.rolloff.toNat) 200

/-- Number of samples of a chain before one of its symbol periods, at 6/5 samples a symbol (R110). -/
def samplesBefore (period : Nat) : Nat := (6 * period + 4) / 5

/-- The symbols of one quadrant shaped with the root-raised-cosine response: samples `first` to `last` of the chain, whose
symbol number `start` is the first one given (R110). -/
def shaped (beta : Rat) (start first last : Nat) (l : List Rat) : List Rat :=
  (List.range (last - first)).map fun (n : Nat) =>
    ((l.zipIdx).map fun v => v.1 * Config.rootRaisedCosine beta (mkRat (5 * (first + n)) 6 - (start + v.2 : Nat))).sum

/-- The all-pass response of a fibre with the dispersion −TXCD at the channel centre, unless TXCD is zero (R111). -/
def precompensated (c : TxConfig) (rate : Rat) (l : List Cx) : List Cx :=
  if c.txcd == 0 then l
  else (List.range l.length).map fun (n : Nat) => l.zipIdx.foldl (fun a v =>
    a.add (v.1.mul (Config.fibre (-c.txcd.toInt) c.centre rate ((n : Int) - v.2)))) {}

/-- A filter by its impulse response on one quadrant. -/
def filtered (h : Int → Rat) (l : List Rat) : List Rat :=
  (List.range l.length).map fun (n : Nat) => (l.zipIdx.map fun v => v.1 * h ((n : Int) - v.2)).sum

/-- A quadrant behind its two corrections: the factory inverse, and PE, GAIN and SKEW of the host, none of which acts at zero
(R112). -/
def corrected4 (engine : Nat) (c : TxConfig) (rate : Rat) (q : Fin 4) (l : List Rat) : List Rat :=
  let k := c.quad[q]
  let l := filtered (Config.modulatorInverse engine q.val) l
  let l := if k.pe == 0 then l else filtered (Config.preEmphasis k.pe.toInt) l
  let l := if k.gain == 0 then l else l.map fun v => v * Config.decibels k.gain.toInt
  if k.skew == 0 then l else (List.range l.length).map (Config.delayed l (k.skew.toInt * rate / 10000))

/-- Scale of a quadrant: its nominal RMS, the root of the profile's mean energy, comes 12.04 dB and DAC_BACKOFF steps of
0.25 dB below full scale, which is 1 (R105, R113; log 35). -/
def dacScale (c : TxConfig) (p : Profile) : Rat :=
  Config.decibels (-1204 - 25 * (c.dacBackoff.toNat : Int)) / Config.squareRoot (mkRat p.energy32 32)

/-- DAC samples of one part of a frame's time before they are clipped (R110 to R113). -/
def TxPart.samples (t : TxPart) (engine : Nat) (c : TxConfig) : List Quad :=
  match profileOf t.line with
  | none => []
  | some p =>
    let start := t.period - t.symbols.length
    let first := samplesBefore start
    let l := t.symbols.map Symbol.point
    let l := perQuadrant (fun _ v => shaped c.beta start first (samplesBefore t.period) v) l
    let l := perPolarisation (precompensated c p.adcRate) l
    let l := perQuadrant (fun q v => (corrected4 engine c p.adcRate q v).map (dacScale c p * ·)) l
    l.drop (samplesBefore (t.period - t.now) - first)

/-- A sample within full scale (R113). -/
def clipped (v : Rat) : Rat := if v < -1 then -1 else if 1 < v then 1 else v
/-- A point whose four samples are within full scale. -/
def clippedQuad (q : Quad) : Quad := { xi := clipped q.xi, xq := clipped q.xq, yi := clipped q.yi, yq := clipped q.yq }

/-- What an engine's DACs send in a frame's time, and the samples that were clipped (R113). -/
def Engine.emit (x : Engine) (e : Nat) : Engine :=
  let l := x.tx.chain.parts.flatMap fun t => t.samples e x.txParams.tx
  { x with tx := { x.tx with
    samples := l.map clippedQuad
    clippedNow := x.tx.clippedNow + (l.map fun q => q.values.countP fun v => clipped v != v).sum } }

/-- Under OXB_LOOP what the modulator sent in the frame's time comes back to the receiver (R34). -/
def Engine.loopBack (x : Engine) : Engine :=
  let on := x.rxParams.loop && x.litOrEnabling
  { x with rx := { x.rx with looped := if on then x.rx.looped ++ x.tx.samples else [] } }

end Sys2Proof.Machine
end

