-- ==== Sys2Proof/Machine/Tick.lean ====
section
/-! DEFINITION. The MFC tick: what every engine's egress does where no frame arrives, and the frames that begin
(spec/01_architecture.md, R15 to R17; spec/09_brihezu_frame.md, R219, R238, R550). -/

namespace Sys2Proof.Machine

/-! ## Slots without frames (R238) -/

/-- An engine of whose frames nothing comes: out of SYNC, or its tile failed. -/
def State.deaf (s : State) (e : Eng) : Bool := (s.eng e).deframer.mode != .sync || (s.eng e).tileFailed

/-- One frame's time on an engine without frames: every slot of an enabled engine, or of a pair with neither member in
SYNC, is replaced (R6, R238, R242). -/
def State.silentFrame (s : State) (e : Eng) : State :=
  let p := (s.eng e).rxParams
  if p.line == 0 then s.idlePorts e
  else if !s.deaf e then s
  else if !p.isTwin then s.deliverTiles e [] true
  else if e.val % 2 == 1 || !s.deaf (higherOf e) then s
  else (s.updEng e fun x => { x with twin := { x.twin with lower := [], higher := [] } }).twinDeliver e none none

/-- What runs in every engine with the tick: the attenuator's and the laser's ramps, and the symbols that the chain of a
stopped transmitter still has to send (R116, R117, R197). -/
def Engine.tick (x : Engine) : Engine :=
  let x := x.ramps
  if x.tx.running then x else { x with tx := { x.tx with chain := x.tx.chain.trail } }

/-! ## The MFC tick (R15 to R17, R219, R550) -/

/-- The tick: module time and the time domains advance, what happens at the tick follows `at_`, engines without frames
replace their slots, and every running transmitter begins a frame. -/
def State.tickWith (s : State) (at_ : State → State) : State :=
  let s := s.timebaseTick
  let s := at_ s.advanceTime.servoSteps
  let s := twinPairs.foldl (fun s p => if (s.eng p.1).rxParams.isTwin then s else State.twinDrain p.1 4096 s) s
  let s := { s with engines := s.engines.map Engine.tick }
  let s := (List.finRange 4).foldl (fun s e => s.silentFrame e) s
  let s := (List.finRange 4).foldl (fun s e => s.beginFrames e) s
  { s with engines := Vector.ofFn fun e => ((s.engines[e]).emit e.val).loopBack }.drain

/-- FRAME_TRANSMIT: one MFC tick; the timebase runs whenever the rails are on, and the frames only once the module is
ready (R15, R505, R550). -/
def execFrameTransmit (s : State) : Host.Outcome State Fault Refusal :=
  .next (if s.ready then s.tickWith id
    else if s.railsOn then s.timebaseTick else s)

end Sys2Proof.Machine
end

