-- ==== Sys2Proof/Machine/Weir.lean ====
section
/-! DEFINITION. Group 0x10, the Weir governor: sensors, zones, throttling, shutdown and release
(spec/17_weir_thermal.md). -/

namespace Sys2Proof.Machine

/-! ## Policy (R460) -/

/-- A policy byte, or its default when it reads 0. -/
def orSet (v : Byte) (d : Nat) : Nat := if v == 0 then d else v.toNat

/-- THROTTLE_START in °C. -/
def WeirPolicy.startAt (p : WeirPolicy) : Nat := orSet p.start 100
/-- FLOOR_TEMP in °C. -/
def WeirPolicy.floorAt (p : WeirPolicy) : Nat := orSet p.floor 110
/-- ORDERLY_TEMP in °C. -/
def WeirPolicy.orderlyAt (p : WeirPolicy) : Nat := orSet p.orderly 115
/-- RELEASE_TEMP in °C. -/
def WeirPolicy.releaseAt (p : WeirPolicy) : Nat := orSet p.release 100
/-- I_FLOOR. -/
def WeirPolicy.iLow (p : WeirPolicy) : Nat := orSet p.iFloor 1
/-- TAP_FLOOR. -/
def WeirPolicy.tapLow (p : WeirPolicy) : Nat := orSet p.tapFloor 7
/-- FALLBACK_MARGIN in °C. -/
def WeirPolicy.margin (p : WeirPolicy) : Nat := orSet p.fallback 5

/-- The policy of the 16 bytes of R460. -/
def parsePolicy (p : Bytes) : WeirPolicy :=
  { start := u8 p 0, floor := u8 p 1, orderly := u8 p 2, release := u8 p 3, iFloor := u8 p 4, tapFloor := u8 p 5,
    fallback := u8 p 6, flags := u8 p 7, marginMin := u16 p 8 }

/-- The 16 bytes of R460. -/
def renderPolicy (p : WeirPolicy) : Bytes :=
  [p.start, p.floor, p.orderly, p.release, p.iFloor, p.tapFloor, p.fallback, p.flags] ++ be 2 p.marginMin ++ zeros 6

/-- Every value is 0 or lies in its range (R460). -/
def policyRangeOk (p : WeirPolicy) : Bool :=
  let ok := fun (v : Byte) (lo hi : Nat) => v == 0 || (lo ≤ v.toNat && v.toNat ≤ hi)
  ok p.start 85 105 && ok p.floor 87 112 && ok p.orderly 100 120 && ok p.release 60 115 && ok p.iFloor 1 4
    && ok p.tapFloor 7 31 && ok p.fallback 1 20

/-- THROTTLE_START < FLOOR_TEMP < ORDERLY_TEMP and RELEASE_TEMP ≤ ORDERLY_TEMP − 5. -/
def policyConsistent (p : WeirPolicy) : Bool :=
  p.startAt < p.floorAt && p.floorAt < p.orderlyAt && p.releaseAt + 5 ≤ p.orderlyAt

/-- WEIR_POLICY_WRITE (R459, R460): in force from the next reading (R458). -/
def weirPolicyWriteBody (r : Request) (s : State) : Answer :=
  let p := parsePolicy r.params
  guards [
    (notPrincipal r, .notPrincipal),
    (badForm r 16 || !zeroAt r.params 10 6 || p.flags.toNat > 3 || (p.tapFloor != 0 && p.tapFloor.toNat % 2 == 0),
      .badParam),
    (!policyRangeOk p, .range),
    (!policyConsistent p, .inconsistent)]
    (.ok .ok [] { s with weir := { s.weir with policy := p } })

/-- WEIR_POLICY_WRITE. -/
def execWeirPolicyWrite (r : Request) (s : State) : Host.Outcome State Fault Refusal :=
  opcode 0x1001 false r s (weirPolicyWriteBody r)

/-- WEIR_POLICY_READ (R460). -/
def weirPolicyReadBody (r : Request) (s : State) : Answer :=
  guards [(badForm r 0, .badParam)] (answer (renderPolicy s.weir.policy) s)

/-- WEIR_POLICY_READ. -/
def execWeirPolicyRead (r : Request) (s : State) : Host.Outcome State Fault Refusal :=
  opcode 0x1002 false r s (weirPolicyReadBody r)

/-! ## Sensors and zones (R448 to R451) -/

/-- Zone code of a sensor (R448). -/
def zoneOf (i : Nat) : Nat := if i < 32 then 0 else if i < 96 then 1 + (i - 32) / 16 else 5 + (i - 96) / 2

/-- Sensor `i` belongs to a populated part. -/
def State.hasSensor (s : State) (i : Nat) : Bool := i < 32 || s.hasEngine ((zoneOf i - 1) % 4)
/-- Zone `z` is populated. -/
def State.hasZone (s : State) (z : Nat) : Bool := z == 0 || s.hasEngine ((z - 1) % 4)
/-- Sensors of a zone. -/
def zoneSensors (z : Nat) : List Nat := (List.range 104).filter fun i => zoneOf i == z
/-- MIN_VALID of a zone (R448). -/
def minValid (z : Nat) : Nat := if z == 0 then 8 else if z < 5 then 4 else 1

/-- Sensor `i` of a list of sensors. -/
def sensorAt (l : Vector Sensor 104) (i : Nat) : Sensor := l.toList.getD i {}

/-- Insert a number into an ascending list. -/
def insertAsc (x : Int) : List Int → List Int
  | [] => [x]
  | y :: ys => if x ≤ y then x :: y :: ys else y :: insertAsc x ys

/-- Twice the median of readings, the mean of the middle two for an even number (R450); 0 for none. -/
def median2 (l : List Int) : Int :=
  let a := l.foldr insertAsc []
  let n := a.length
  if n == 0 then 0 else a.getD ((n - 1) / 2) 0 + a.getD (n / 2) 0

/-- Readings of the VALID neighbours of a sensor (R450). -/
def State.neighbourTemps (s : State) (l : Vector Sensor 104) (i : Nat) : List Int :=
  (s.ident.neighbours.getD i []).filterMap fun k =>
    if s.hasSensor k && (sensorAt l k).mode == .valid then some (sensorAt l k).temp else none

/-- A reading lies within −40 to +150 °C, in 1/16 °C. -/
def inSensorRange (t : Int) : Bool := -640 ≤ t && t ≤ 2400

/-- A new reading and the range rule: FAILED while outside, VALID again inside, unless the fuse row failed (R450). -/
def Sensor.read (x : Sensor) (t : Int) : Sensor :=
  if x.fuse then { x with temp := t, mode := .failed, fuseDue := false }
  else if !inSensorRange t then { x with temp := t, mode := .failed, far := 0, near := 0 }
  else if x.mode == .failed then { x with temp := t, mode := .valid, far := 0, near := 0 }
  else { x with temp := t }

/-- The cross-check of a sensor against twice its neighbours' median (R450). -/
def Sensor.check (x : Sensor) (m2 : Int) : Sensor :=
  let d := (2 * x.temp - m2).natAbs
  match x.mode with
  | .valid =>
    if d ≤ 256 then { x with far := 0 }
    else if x.far + 1 ≥ 16 then { x with mode := .excluded, far := 0, near := 0 } else { x with far := x.far + 1 }
  | .excluded =>
    if d > 128 then { x with near := 0 }
    else if x.near + 1 ≥ 1024 then { x with mode := .valid, far := 0, near := 0 } else { x with near := x.near + 1 }
  | .failed => x

/-- Event of one sensor's change of state (R463).  With no VALID neighbour there is no median: its field is free,
and so is the rounding of a median between two units (log 16). -/
def State.sensorEvent (s : State) (i : Nat) (old new : Sensor) (near : List Int) : State :=
  let t := be 2 (satInt 16 new.temp)
  if old.mode == new.mode && !old.fuseDue then s
  else if new.mode == .valid then s.raise 0x1004 (.principal (BitVec.ofNat 16 i)) t
  else
    let med : Bytes := if near.isEmpty then beBytes 2 s.free else be 2 (satInt 16 (s.whole 0 (median2 near) 2))
    s.skip.raise 0x1003 (.principal (BitVec.ofNat 16 i))
      ([if old.fuseDue then 3 else if new.mode == .excluded then 1 else 2, 0] ++ t ++ med)

/-- One reading of every populated sensor: range, then cross-check among the sensors that are VALID by then; with fewer
than two VALID neighbours the check is suspended (R450). -/
def State.readSensors (s : State) (temps : List (BitVec 16)) : State :=
  let old := s.weir.sensors
  let mid : Vector Sensor 104 := Vector.ofFn fun i =>
    if s.hasSensor i.val then old[i].read (temps.getD i.val 0).toInt else old[i]
  let new : Vector Sensor 104 := Vector.ofFn fun i =>
    let near := s.neighbourTemps mid i.val
    if s.hasSensor i.val && near.length ≥ 2 then mid[i].check (median2 near) else mid[i]
  let s := { s with weir := { s.weir with sensors := new } }
  (List.range 104).foldl (fun s i =>
    s.sensorEvent i (sensorAt old i) (sensorAt new i) (s.neighbourTemps mid i)) s

/-- VALID sensors of a zone. -/
def State.validIn (s : State) (z : Nat) : List Nat :=
  (zoneSensors z).filter fun i => s.hasSensor i && (sensorAt s.weir.sensors i).mode == .valid

/-- The highest reading of some sensors. -/
def State.highest (s : State) (l : List Nat) : Option Int := (l.map fun i => (sensorAt s.weir.sensors i).temp).max?

/-- The temperature of a zone from sensors alone: its own, or in fallback the VALID neighbours outside it plus
FALLBACK_MARGIN (R451). -/
def State.zoneTemp (s : State) (z : Nat) : Option Int :=
  let own := s.validIn z
  if own.length ≥ minValid z then s.highest own
  else
    let out := (zoneSensors z).flatMap fun i => (s.ident.neighbours.getD i []).filter fun k =>
      zoneOf k != z && s.hasSensor k && (sensorAt s.weir.sensors k).mode == .valid
    (s.highest out).map fun t => t + 16 * s.weir.inForce.margin

/-- Bring one zone up to date.  A zone without any sensor takes the hottest zone plus FALLBACK_MARGIN; where no zone
has one, nothing is stated and the temperature is free (R451, log 16). -/
def State.readZone (s : State) (temps : List (Option Int)) (z : Fin 9) : State :=
  if !s.hasZone z.val then s
  else
    let hottest : Int := match (temps.filterMap id).max? with
      | some t => t + 16 * s.weir.inForce.margin
      | none => (BitVec.ofNat 16 s.free).toInt
    let t := (temps.getD z.val none).getD hottest
    let n := (s.validIn z.val).length
    let fb := decide (n < minValid z.val)
    let old := s.weir.zones[z]
    let past := match old.temp with | some x => (x :: old.past).take 16 | none => []
    let s := { s.skip with weir := { s.weir with
      zones := s.weir.zones.set z { temp := some t, fallback := fb, past := past } } }
    if fb != old.fallback then
      s.raise 0x1005 (.principal (BitVec.ofNat 16 z.val)) ([byte fb.toNat, byte n] ++ be 2 (satInt 16 t))
    else s

/-- Every zone at a reading. -/
def State.readZones (s : State) : State :=
  let temps := (List.range 9).map fun z => if s.hasZone z then s.zoneTemp z else none
  (List.finRange 9).foldl (fun s z => s.readZone temps z) s

/-- The hottest zone, the lowest code among equals, and its temperature; 0 before the first reading. -/
def State.hottest (s : State) : Fin 9 × Int :=
  (List.finRange 9).foldl (fun (best : Fin 9 × Int) z =>
    match s.weir.zones[z].temp with
    | some t => if s.hasZone z.val && (t > best.2 || s.weir.zones[best.1].temp.isNone) then (z, t) else best
    | none => best) (0, (s.weir.zones[(0 : Fin 9)].temp).getD 0)

/-- What a zone has risen since its reading 16 readings earlier, or its oldest one, in 1/16 °C (R454). -/
def Zone.rise (z : Zone) : Int :=
  match z.temp, z.past.getLast? with
  | some t, some p => t - p
  | _, _ => 0

/-! ## Throttling (R452) -/

/-- The two limits that a temperature computes: floor of the share (T − THROTTLE_START) / (FLOOR_TEMP −
THROTTLE_START). -/
def limitsAt (p : WeirPolicy) (t : Int) : Nat × Nat :=
  let lo : Int := 16 * p.startAt
  let den := 16 * (p.floorAt - p.startAt)
  let num := min den (t - lo).toNat
  (4 - (4 - p.iLow) * num / den, 31 - 2 * ((31 - p.tapLow) / 2 * num / den))

/-- A limit follows what the readings compute: down at once, up when all of the last 64 lie higher. -/
def limitStep (limit : Nat) (computed : List Nat) (v : Nat) : Nat × List Nat :=
  let l := (v :: computed).take 64
  let top := l.foldl min v
  (if v < limit then v else if l.length ≥ 64 && top > limit then top else limit, l)

/-- TOTAL_USED (R453). -/
def Engine.totalUsed (x : Engine) : BitVec 16 := sat 16 (x.marginUsed.toNat + x.tapPenalty.toNat)

/-- One engine's limits at a reading; headless running holds them (R452, R458, R463). -/
def State.throttle (s : State) (e : Eng) : State :=
  match s.weir.zones.toList[1 + e.val]? with
  | some { temp := some t, .. } =>
    if !s.hasEngine e.val || s.sup.headless then s
    else
      let x := s.eng e
      let c := limitsAt s.weir.inForce t
      let i := limitStep x.iLimit x.iComputed c.1
      let k := limitStep x.tapLimit x.tapComputed c.2
      let changed := i.1 != x.iLimit || k.1 != x.tapLimit
      let s := s.updEng e fun x => { x with
        iLimit := i.1, iComputed := i.2, tapLimit := k.1, tapComputed := k.2, throttled := x.throttled || changed }
      let s := s.idleEffort e
      if changed && !x.throttled then
        s.raise 0x1001 (.engine e) ([byte i.1, byte k.1] ++ be 2 (s.eng e).totalUsed ++ be 2 (satInt 16 t))
      else s
  | _ => s

/-- Some engine's throttle temperature lies above THROTTLE_START (R452, R457). -/
def State.throttling (s : State) : Bool :=
  (List.range 4).any fun n => s.hasEngine n && (match (s.weir.zones.toList.getD (1 + n) {}).temp with
    | some t => decide (t > 16 * s.weir.inForce.startAt) | none => false)

/-- THERM_N is driven low: while the trip is latched, where P3V3_AUX is present, and once ready as R457 gives; the policy
counts as the last reading took it (R457, R458, R527). -/
def State.thermLow (s : State) : Bool :=
  (s.power.tripLatch && s.power.aux)
    || (s.ready && (s.weir.hold || (s.weir.inForce.flags.getLsbD 0 && s.weir.throttling)))

/-! ## Shutdown and release (R454, R455) -/

/-- RISE in 0.01 °C/ms of a rise in 1/16 °C over 16.384 ms: its rounding is free (R461, log 16). -/
def State.riseOf (s : State) (d : Int) : Int := s.whole 0 (d * 100000) 262144

/-- Hold one engine dark (R123, R454). -/
def State.holdDark (s : State) (e : Eng) (reason : Byte) : State :=
  let s := s.quench e reason
  s.updEng e fun x => { x with tx := { x.tx with
    mode := if x.tx.mode == .dark then .heldDark else x.tx.mode, enableNext := false } }

/-- The hottest zone has reached ORDERLY_TEMP: an orderly shutdown where T + r · 2.048 ms stays below 125 °C, otherwise
one that skips the orderly stage (R454). -/
def State.shutdown (s : State) (z : Fin 9) (t : Int) : State :=
  let d := s.weir.zones[z].rise
  let orderly := decide (8 * t + d < 16000)
  let s := { s with weir := { s.weir with hold := true, skipped := !orderly, holdHeadless := s.sup.headless } }
  let reason : Byte := if orderly then 3 else 4
  let s := s.raise 0x1006 .module ([reason, byte z.val] ++ be 2 (satInt 16 t) ++ be 2 (satInt 16 s.weir.rise))
  (List.finRange 4).foldl (fun s e => if s.hasEngine e.val then s.holdDark e reason else s) s

/-- RISE and the throttling mark after the zones of a reading are known (R457, R461). -/
def State.noteRise (s : State) : State :=
  let rise := s.riseOf s.weir.zones[s.hottest.1].rise
  let hot := s.throttling
  { s with fresh := s.fresh + 1, weir := { s.weir with rise := rise, throttling := hot } }

/-- Shut down where the hottest zone has reached ORDERLY_TEMP (R454, R458). -/
def State.shutdownDue (s : State) : State :=
  let h := s.hottest
  if !s.weir.hold && decide (h.2 ≥ 16 * s.weir.inForce.orderlyAt) then s.shutdown h.1 h.2 else s

/-- WEIR_READING: one reading of every sensor, from which a written policy is in force (R450 to R454, R458). -/
def State.weirReading (s : State) (temps : List (BitVec 16)) : State :=
  let s := { s with weir := { s.weir with inForce := s.weir.policy } }
  let s := (s.readSensors temps).readZones.noteRise
  ((List.finRange 4).foldl (fun s e => s.throttle e) s).shutdownDue

/-- A reading. -/
def execWeirReading (temps : List (BitVec 16)) (s : State) : Host.Outcome State Fault Refusal :=
  event s fun s => s.weirReading temps

/-- One engine leaves the hold: it is enabled where its LINE is not 0x0 (R123, R455). -/
def State.unhold (s : State) (e : Eng) : State :=
  if (s.eng e).tx.mode != .heldDark then s
  else
    let s := s.updEng e fun x => { x with tx := { x.tx with mode := .dark } }
    if (s.eng e).txParams.line != 0 && s.mayLight e then s.txEnable e false 0 else s

/-- The hold may be released: not with NO_AUTO_RELEASE, not a hold begun headless, and the hottest zone at or below
RELEASE_TEMP (R455, R458). -/
def State.mayRelease (s : State) : Bool :=
  s.weir.hold && !s.weir.inForce.flags.getLsbD 1 && !s.weir.holdHeadless
    && s.hottest.2 ≤ 16 * s.weir.inForce.releaseAt

/-- The hottest zone has stayed at or below RELEASE_TEMP for 10 s (R455). -/
def execWeirReleaseTimer (s : State) : Host.Outcome State Fault Refusal :=
  eventIf s s.mayRelease fun s =>
    let s := { s with weir := { s.weir with hold := false } }
    let s := s.raise 0x1007 .module (be 2 (satInt 16 s.hottest.2))
    (List.finRange 4).foldl (fun s e => s.unhold e) s

/-! ## WEIR_STATUS and WEIR_SENSOR_READ (R461, R462) -/

/-- STATE of R461. -/
def State.weirState (s : State) : Byte :=
  if s.weir.hold then
    (if (List.finRange 4).any fun e => (s.eng e).tx.mode == .departing || (s.eng e).tx.mode == .quenching then 2 else 3)
  else if s.weir.throttling then 1 else 0

/-- A zone's temperature as reported. -/
def State.zoneField (s : State) (z : Nat) : Bytes :=
  if s.hasZone z then be 2 (satInt 16 ((s.weir.zones.toList.getD z {}).temp.getD 0)) else [0x80, 0x00]

/-- One engine entry of R461. -/
def State.weirEngine (s : State) (e : Eng) : Bytes :=
  let x := s.eng e
  [byte e.val, byte x.iLimit, byte x.tapLimit, byte ((s.weir.zones.toList.getD (1 + e.val) {}).fallback.toNat)]
    ++ be 2 x.tapPenalty ++ be 2 x.totalUsed

/-- The 64 bytes of R461. -/
def State.weirStatus (s : State) : Bytes :=
  let h := s.hottest
  let out := (List.range 104).countP fun i => s.hasSensor i && (sensorAt s.weir.sensors i).mode != .valid
  [s.weirState, byte h.1.val] ++ be 2 (satInt 16 h.2)
    ++ [byte (bit s.sup.headless 0 + bit s.power.tripRecorded 1 + bit s.thermLow 2 + bit s.weir.skipped 3), byte out, 0, 0]
    ++ ((List.range 9).map s.zoneField).flatten ++ be 2 (satInt 16 s.weir.rise)
    ++ ((List.finRange 4).map s.weirEngine).flatten ++ zeros 4

/-- WEIR_STATUS (R461). -/
def weirStatusBody (r : Request) (s : State) : Answer := guards [(badForm r 0, .badParam)] (answer s.weirStatus s)

/-- WEIR_STATUS. -/
def execWeirStatus (r : Request) (s : State) : Host.Outcome State Fault Refusal :=
  opcode 0x1003 false r s (weirStatusBody r)

/-- Code of a sensor's state (R462). -/
def sensorCode : SensorMode → Byte
  | .valid => 0 | .excluded => 1 | .failed => 2

/-- COUNT and the entries of R462. -/
def State.sensorTable (s : State) : Bytes :=
  let l := (List.range 104).filter s.hasSensor
  [byte l.length, 0, 0, 0] ++ (l.map fun i =>
    let x := sensorAt s.weir.sensors i
    [byte i, sensorCode x.mode] ++ be 2 (satInt 16 x.temp)).flatten

/-- WEIR_SENSOR_READ (R462). -/
def weirSensorReadBody (r : Request) (s : State) : Answer :=
  guards [(badForm r 0, .badParam)] (answer s.sensorTable s)

/-- WEIR_SENSOR_READ. -/
def execWeirSensorRead (r : Request) (s : State) : Host.Outcome State Fault Refusal :=
  opcode 0x1004 false r s (weirSensorReadBody r)

end Sys2Proof.Machine
end

