-- ==== Sys2Proof/Machine/Supervisor.lean ====
section
/-! DEFINITION. Group 0x11, the supervisor pair: status, drill, restore, the referee's declarations, takeover and
headless running (spec/18_supervisor_pair.md). -/

namespace Sys2Proof.Machine

/-! ## The pair -/

/-- Change the supervisor pair's state. -/
def State.updSup (s : State) (f : SupState → SupState) : State := { s with sup := f s.sup }

/-- The other unit. -/
def otherUnit (u : Fin 2) : Fin 2 := if u == 0 then 1 else 0

/-- The unit that does not serve. -/
def SupState.other (p : SupState) : Fin 2 := otherUnit p.active

/-- Set one unit's state. -/
def SupState.setUnit (p : SupState) (u : Fin 2) (m : SupUnit) : SupState := { p with units := p.units.set u m }

/-- A unit is declared failed: cause, count and time (R472, R479). -/
def SupState.fail (p : SupState) (u : Fin 2) (cause : Byte) (now : BitVec 48) : SupState :=
  { p with units := p.units.set u .failed, causes := p.causes.set u cause,
           failures := p.failures.set u (bump p.failures[u]), failedAt := p.failedAt.set u now }

/-- FAULT_N is driven low: only once ready (R475, R527). -/
def State.faultLow (s : State) : Bool :=
  s.ready && (s.sup.headless || (s.sup.flags.getLsbD 1 && s.sup.units.toList.any fun u => u == .failed || u == .restoring))

/-- A drill or a restore is running (R470). -/
def SupState.busy (p : SupState) : Bool := p.swap.isSome || p.restore.isSome

/-! ## Automatic restores (R472) -/

/-- A restore of a unit starts. -/
def SupState.startRestore (p : SupState) (u : Fin 2) (issuer : Option Deferred) : SupState :=
  { p with units := p.units.set u .restoring, restore := some { target := u, issuer := issuer }, journalFails := 0 }

/-- An automatic restore starts, and is noted as the unit's last. -/
def SupState.startAuto (p : SupState) (u : Fin 2) (now : BitVec 48) : SupState :=
  { p.startRestore u none with
    lastAuto := p.lastAuto.set u (some now), hostRestored := p.hostRestored.set u false, autoDue := p.autoDue.set u false }

/-- When a drill or restore has ended, a postponed automatic restore starts, provided the unit is still failed. -/
def State.resumeAuto (s : State) : State :=
  [(0 : Fin 2), 1].foldl (fun s u =>
    if !s.sup.autoDue[u] || s.sup.busy || s.sup.headless then s
    else if s.sup.units[u] == .failed then s.updSup fun p => p.startAuto u s.moduleTime
    else s.updSup fun p => { p with autoDue := p.autoDue.set u false }) s

/-- The unit may be restored automatically: for the first time, after SUP_RESTORE has succeeded, or 60 s after the last
one (R472). -/
def State.autoAllowed (s : State) (u : Fin 2) : Bool :=
  match s.sup.lastAuto[u] with
  | none => true
  | some t => s.sup.hostRestored[u] || secondsOf (s.moduleTime - t).toNat ≥ 60

/-- The unit is failed, or a host's restore of it runs, which may yet fail (R472). -/
def SupState.isDown (p : SupState) (u : Fin 2) : Bool :=
  p.units[u] == .failed || (match p.restore with | some x => x.target == u && x.issuer.isSome | none => false)

/-- One second has passed since a unit's failure (R472). -/
def execAutoRestoreTimer (u : Fin 2) (s : State) : Host.Outcome State Fault Refusal :=
  eventIf s (s.sup.flags.getLsbD 0 && s.sup.isDown u && !s.sup.headless && s.autoAllowed u) fun s =>
    if s.sup.busy then s.updSup fun p => { p with autoDue := p.autoDue.set u true }
    else s.updSup fun p => p.startAuto u s.moduleTime

/-! ## Requests in execution when a supervisor is lost (R61) -/

/-- The data path gives up what requests in execution had begun: they have had no effect (R61). -/
def State.dropRunning (s : State) : State :=
  let s := (List.finRange 4).foldl (fun s e => s.updEng e fun x => { x with rx := { x.rx with capturing := none } }) s
  s.gbDrop

/-- Requests in execution go back to the front of their queues: the new active supervisor executes them from the start
(R61). -/
def State.recall (s : State) : State :=
  if ([0, 1, 2, 3] : List Hp).all fun p => (s.port p).running.isEmpty then s
  else
    [(0 : Hp), 1, 2, 3].foldl (fun s p => s.updPort p fun q => { q with queue := q.running ++ q.queue, running := [] })
      s.dropRunning

/-- Requests in execution are answered HEADLESS and have had no effect (R61). -/
def State.answerRunning (s : State) : State :=
  if ([0, 1, 2, 3] : List Hp).all fun p => (s.port p).running.isEmpty then s
  else
    [(0 : Hp), 1, 2, 3].foldl (fun s p =>
      ((s.port p).running.foldl (fun s x => s.conclude x.1 x.2 .headless []) s).updPort p fun q =>
        { q with running := [] }) s.dropRunning

/-! ## Headless running (R473) -/

/-- A deferred operation of the pair ends without success (R470, R471). -/
def State.notDone (s : State) (d : Option Deferred) : State :=
  match d with | some d => s.cmdDone d .notReady | none => s

/-- Both supervisors are failed: a running restore or drill ends with NOT-READY, pending handshakes and commits are
dropped, Headwater falls back, and sup.headless goes to every port (R470, R471, R473, R392; log 11 for the drill). -/
def State.goHeadless (s : State) (u : Fin 2) (cause : Byte) : State :=
  let s := s.notDone (match s.sup.restore with | some r => r.issuer | none => none)
  let s := s.notDone (s.sup.swap.map fun w => w.issuer)
  let s := (s.updSup fun p => { p with
    units := Vector.replicate 2 .failed, takeover := none, swap := none, restore := none, headless := true }).dropCommits
  let s := s.abandon
  let s := { s with hw := { s.hw with staged := none } }
  s.answerRunning.raise 0x1104 .forced [byte u.val, cause]

/-! ## Declaring the active unit failed (R467 to R470) -/

/-- The unit that the referee watches: the active one, or, while a takeover is in progress, the one called (R476). -/
def SupState.watched (p : SupState) : Fin 2 :=
  match p.takeover, p.swap with
  | some t, _ => otherUnit t.failed
  | none, some w => if w.taken then p.active else otherUnit w.yielded
  | none, none => p.active

/-- The referee declares the watched unit failed.  With a standby at hand a takeover begins; within a drill's 1 ms the
yielded unit is called back; otherwise the module goes headless (R468 to R471, R476). -/
def State.declare (s : State) (cause : Byte) : State :=
  let u := s.sup.watched
  let s := s.updSup fun p => { p.fail u cause s.moduleTime with missed := 0 }
  if s.sup.takeover.isSome || s.sup.units[otherUnit u] != .standby then s.goHeadless u cause
  else s.recall.updSup fun p => { p with
    takeover := some { failed := u, cause := cause },
    swap := p.swap.map fun w => { w with taken := true, returning := true } }

/-- A state-parity fault of the active unit (R467). -/
def execSupParityFault (s : State) : Host.Outcome State Fault Refusal :=
  eventIf s (!s.sup.headless) fun s => s.declare 2

/-- An illegal state of one of the active unit's sequencers (R467). -/
def execSupIllegalState (s : State) : Host.Outcome State Fault Refusal :=
  eventIf s (!s.sup.headless) fun s => s.declare 3

/-- The referee's decision: two of the three voters (R467). -/
def majority (votes : Vector Bool 3) : Bool := decide (2 ≤ votes.toList.countP id)

/-- The voter that the other two outvote (R467). -/
def outvoted (votes : Vector Bool 3) : Option (Fin 3) := (List.finRange 3).find? fun v => votes[v] != majority votes

/-- An outvoted voter: sup.referee.fault once for it (R467, R480). -/
def State.noteVote (s : State) (votes : Vector Bool 3) : State :=
  match outvoted votes with
  | none => s
  | some v =>
    if s.sup.referee.getLsbD v.val then s
    else
      (s.updSup fun p => { p with referee := p.referee ||| (1 : BitVec 3) <<< v.val }).raise 0x1105 .module [byte v.val]

/-- Some other decision of the referee is voted on (R467). -/
def execVoterDisagree (votes : Vector Bool 3) (s : State) : Host.Outcome State Fault Refusal :=
  event s fun s => s.noteVote votes

/-- One voter finds its unit's heartbeat valid: a clean state-parity summary, and a journal sequence number no lower
than that of the last valid one, which is what it takes "the one before" for (R467; DEDUCED, log 11). -/
def validBeat (last : BitVec 32) (x : Option Heartbeat) : Bool :=
  match x with | some b => b.parity && last.toNat ≤ b.journal.toNat | none => false

/-- A window of 10.24 µs ends, and the voters judge the heartbeat in it: the third in succession without a valid one
declares the active unit failed (R467). -/
def execRefereeWindow (beats : Vector (Option Heartbeat) 3) (s : State) : Host.Outcome State Fault Refusal :=
  eventIf s (!s.sup.headless && !s.inTakeover) fun s =>
    let votes := Vector.ofFn fun (v : Fin 3) => validBeat s.sup.lastBeat[v] beats[v]
    let last := Vector.ofFn fun (v : Fin 3) =>
      if votes[v] then (match beats[v] with | some b => b.journal | none => 0) else s.sup.lastBeat[v]
    let s := (s.updSup fun p => { p with lastBeat := last }).noteVote votes
    if majority votes then s.updSup fun p => { p with missed := 0 }
    else if s.sup.missed ≥ 2 then s.declare 1
    else s.updSup fun p => { p with missed := p.missed + 1 }

/-- A journal record has failed its check: the third failure in succession fails the standby with cause 0x04 (R465). -/
def execJournalRecordFail (s : State) : Host.Outcome State Fault Refusal :=
  eventIf s (!s.sup.headless && !s.inTakeover && s.sup.units[s.sup.other] == .standby) fun s =>
    if s.sup.journalFails ≥ 2 then
      let u := s.sup.other
      (s.updSup fun p => { p.fail u 4 s.moduleTime with journalFails := 0 }).raise 0x1102 .module [byte u.val, 4]
    else s.updSup fun p => { p with journalFails := p.journalFails + 1 }

/-! ## Takeover (R468, R470), which changes no data-path state (R20) -/

/-- The called unit is active: counts and times of the takeover. -/
def State.takeOver (s : State) (u : Fin 2) (cause : Byte) (duration : BitVec 16) : State :=
  (s.updSup fun p => { p with
    units := p.units.set u .active, active := u, takeovers := p.takeovers + 1, lastTakeover := s.moduleTime,
    lastDuration := duration, missed := 0, lastBeat := #v[0, 0, 0], journalFails := 0, takeover := none }).raise 0x1101 .module
      ([byte u.val, cause] ++ be 2 duration)

/-- TAKEOVER_COMPLETE: after a failure, sup.failed and sup.takeover, and the end of a drill whose new unit failed; in a
drill, sup.takeover with cause 0x04.  The new active unit evaluates Headwater's selection (R392, R468, R470). -/
def State.takeoverComplete (s : State) (duration : BitVec 16) : State :=
  match s.sup.takeover, s.sup.swap with
  | some t, w =>
    let s := (s.takeOver (otherUnit t.failed) t.cause duration).raise 0x1102 .module [byte t.failed.val, t.cause]
    let s := s.notDone (w.map fun w => w.issuer)
    ((s.updSup fun p => { p with swap := none }).resumeAuto).evaluateAfter
  | none, some w =>
    if w.taken then s
    else ((s.takeOver (otherUnit w.yielded) 4 duration).updSup fun p => { p with
      swap := some { w with taken := true } }).evaluateAfter
  | none, none => s

/-- The standby has become active. -/
def execTakeoverComplete (duration : BitVec 16) (s : State) : Host.Outcome State Fault Refusal :=
  eventIf s (!s.sup.headless) fun s => s.takeoverComplete duration

/-! ## SUP_SWAP (R470) -/

/-- SUP_SWAP: after its own closing record the active unit yields; a request still in execution is executed anew by the
other unit (R61, R470). -/
def supSwapBody (r : Request) (s : State) : Answer :=
  guards [
    (notPrincipal r, .notPrincipal),
    (badForm r 4 || !zeroAt r.params 0 4, .badParam),
    (s.sup.busy || s.sup.units[s.sup.other] != .standby, .busy)]
    (.ok .okDeferred [] (s.recall.updSup fun p => { p with
      units := p.units.set p.active .standby, missed := 0,
      swap := some { yielded := p.active, taken := false, returning := false, issuer := issuerOf 0x1102 r } }))

/-- SUP_SWAP. -/
def execSupSwap (r : Request) (s : State) : Host.Outcome State Fault Refusal :=
  opcode 0x1102 false r s (supSwapBody r)

/-- A drill has stood for 1 ms after the yield (R470). -/
def execSwapWindowEnd (s : State) : Host.Outcome State Fault Refusal :=
  event s fun s =>
    match s.sup.swap with
    | none => s
    | some w => if !w.taken || w.returning then s
      else ((s.updSup fun p => { p with swap := none }).cmdDone w.issuer .ok).resumeAuto

/-! ## SUP_RESTORE (R471, R472) -/

/-- SUP_RESTORE (R471, R476, R478): a running drill or restore is BUSY whatever the unit's state. -/
def supRestoreBody (r : Request) (s : State) : Answer :=
  let n := field r.params 0 1
  let u : Fin 2 := Fin.ofNat 2 n
  guards [
    (notPrincipal r, .notPrincipal),
    (badForm r 4 || !zeroAt r.params 1 3, .badParam),
    (n > 1, .range),
    (s.sup.busy, .busy),
    (s.sup.units[u] != .failed, .inconsistent)]
    (.ok .okDeferred [] (s.updSup fun p => p.startRestore u (some (issuerOf 0x1103 r))))

/-- SUP_RESTORE. -/
def execSupRestore (r : Request) (s : State) : Host.Outcome State Fault Refusal :=
  opcode 0x1103 false r s (supRestoreBody r)

/-- A restore has run: the unit is standby, with sup.restored, or failed its self-test with cause 0x05; cmd.done for a
host's (R471, R472). -/
def State.restored (s : State) (x : Restore) (passes : Bool) (tenths : BitVec 16) : State :=
  let host := x.issuer.isSome
  let s := s.updSup fun p => { p with
    restore := none,
    units := p.units.set x.target (if passes then .standby else .failed),
    causes := if passes then p.causes else p.causes.set x.target 5,
    hostRestored := if passes && host then p.hostRestored.set x.target true else p.hostRestored,
    autoDue := if passes && host then p.autoDue.set x.target false else p.autoDue }
  let s := if passes then
      s.raise 0x1103 .module ([byte x.target.val, if host then 1 else 2] ++ be 2 tenths) else s
  (match x.issuer with | some d => s.cmdDone d (if passes then .ok else .notReady) | none => s).resumeAuto

/-- RESTORE_COMPLETE. -/
def execRestoreComplete (passes : Bool) (tenths : BitVec 16) (s : State) : Host.Outcome State Fault Refusal :=
  event s fun s => match s.sup.restore with | none => s | some x => s.restored x passes tenths

/-! ## SUP_CONFIG and SUP_STATUS (R478, R479) -/

/-- SUP_CONFIG_WRITE (R478). -/
def supConfigWriteBody (r : Request) (s : State) : Answer :=
  guards [
    (notPrincipal r, .notPrincipal),
    (badForm r 4 || !zeroAt r.params 1 3 || field r.params 0 1 > 3, .badParam)]
    (.ok .ok [] (s.updSup fun p => { p with flags := (u8 r.params 0).setWidth 2 }))

/-- SUP_CONFIG_WRITE. -/
def execSupConfigWrite (r : Request) (s : State) : Host.Outcome State Fault Refusal :=
  opcode 0x1104 false r s (supConfigWriteBody r)

/-- SUP_CONFIG_READ (R478). -/
def supConfigReadBody (r : Request) (s : State) : Answer :=
  guards [(badForm r 0, .badParam)] (answer [s.sup.flags.setWidth 8, 0, 0, 0] s)

/-- SUP_CONFIG_READ. -/
def execSupConfigRead (r : Request) (s : State) : Host.Outcome State Fault Refusal :=
  opcode 0x1105 false r s (supConfigReadBody r)

/-- Code of a unit's state (R479). -/
def unitCode : SupUnit → Byte
  | .active => 0 | .standby => 1 | .failed => 2 | .restoring => 3

/-- MODE of R479, by the unit that does not serve. -/
def SupState.mode (p : SupState) : Byte :=
  match p.units[p.other] with | .failed => 1 | .restoring => 2 | _ => 0

/-- The 32 bytes of R479. -/
def SupState.status (p : SupState) : Bytes :=
  [byte p.active.val, p.mode, unitCode p.units[(0 : Fin 2)], unitCode p.units[(1 : Fin 2)], p.causes[(0 : Fin 2)],
   p.causes[(1 : Fin 2)], p.referee.setWidth 8, byte (bit p.swap.isSome 0 + bit p.restore.isSome 1)]
    ++ be 4 p.takeovers ++ be 4 p.journal ++ be 6 p.lastTakeover ++ be 2 p.lastDuration ++ be 2 p.failures[(0 : Fin 2)]
    ++ be 2 p.failures[(1 : Fin 2)] ++ zeros 4

/-- SUP_STATUS (R479). -/
def supStatusBody (r : Request) (s : State) : Answer := guards [(badForm r 0, .badParam)] (answer s.sup.status s)

/-- SUP_STATUS. -/
def execSupStatus (r : Request) (s : State) : Host.Outcome State Fault Refusal :=
  opcode 0x1101 false r s (supStatusBody r)

end Sys2Proof.Machine
end

