-- ==== Sys2Proof/Machine/Counters.lean ====
section
/-! DEFINITION. Group 0x12, the counter collector: views, snapshots, clears, the flight recorder and the tag log
(spec/19_counters_tracing.md). -/

namespace Sys2Proof.Machine

/-! ## The catalogue (R481, R482) -/

/-- Counter kinds in the catalogue's order. -/
def allKinds : List CounterKind :=
  [.txClipped, .fecPositions, .fecUncorrectable, .fecCorrected, .fecCorrectedOnes, .fecIterations, .fecEarly,
   .fecKnownErrors, .clientStuffErrors, .clientPrbsErrors, .clientLaneSlips, .clientFramesIn, .clientBytesIn,
   .clientFramesOut, .clientBytesOut, .clientDropFcs, .clientDropPcs, .clientDropSize, .clientDropEgress,
   .clientRsfecCorrected, .clientRsfecUncorrectable, .flowDropNocontext, .flowDropCache]
  ++ [.millraceBlocks, .millraceStalls, .millraceRetries, .millraceKeyabsent, .memReads, .memWrites, .memCorrected,
   .memUncorrectable, .memFreshReads, .memMergeRmw, .memMergeDiscard, .memScrubWords, .timeTcUnmeasured, .gaugePaceLate,
   .gaugeOverrun, .gaugeChecksDisagreed, .slotRetired, .slotWasted, .slotStarvedFront, .slotStarvedBack, .tagFrames,
   .tagSuppressed, .tagHist]

/-- The kind of a KIND number; none for an unknown one or one of the flight recorder. -/
def State.kindOf (s : State) (n : BitVec 16) : Option CounterKind :=
  match s.ident.kinds.findIdx? (· == n) with
  | some i => allKinds[i]?
  | none => none

/-- KIND number of a kind. -/
def State.kindNumber (s : State) (k : CounterKind) : BitVec 16 := s.ident.kinds.getD (kindInfo k).2.2.2 0

/-- INSTANCES of a scope (R481). -/
def State.instances (s : State) : CounterScope → Nat
  | .module => 1
  | .engine => s.engineCount
  | .engineDir => 2 * s.engineCount
  | .lane => s.laneCount
  | .cport => s.laneCount
  | .cportClass => 8 * s.laneCount
  | .channel => 8
  | .bank => 2
  | .bin => 1024

/-- A host port holds a client port and the engine that serves it: that of its active formation, or of its lane group while
it is not formed (R482, R548; log 29). -/
def State.holdsServed (s : State) (p : Hp) (c : Cp) : Bool :=
  let f := (s.cport c).params.active.form
  s.holdsCport p c && s.holdsEngine p (if f.formed then f.engine else c.val / 16)

/-- A port's tenancy holds an instance of a scope (R482). -/
def State.holdsInstance (s : State) (p : Hp) (sc : CounterScope) (i : Nat) : Bool :=
  match sc with
  | .engine => s.holdsEngine p i
  | .engineDir => s.holdsEngine p (i / 2)
  | .lane => s.holdsEngine p (i / 16)
  | .cport => s.holdsServed p (cpOf i)
  | .cportClass => s.holdsServed p (cpOf (i / 8))
  | .module | .channel | .bank | .bin => p == 0

/-- An instance is a resource of a port's tenancy, a client port's counters being the port's own, whatever engine serves it
(R486). -/
def State.ownsInstance (s : State) (p : Hp) (sc : CounterScope) (i : Nat) : Bool :=
  match sc with
  | .cport => s.holdsCport p i
  | .cportClass => s.holdsCport p (i / 8)
  | _ => s.holdsInstance p sc i

/-- Group of the kind at a place of the catalogue. -/
def groupAt (i : Nat) : Nat := match allKinds[i]? with | some k => (kindInfo k).1 | none => 0
/-- Scope of the kind at a place of the catalogue. -/
def scopeAt (i : Nat) : CounterScope := match allKinds[i]? with | some k => (kindInfo k).2.2.1 | none => .module
/-- Width of the kind at a place of the catalogue. -/
def widthAt (i : Nat) : Nat := match allKinds[i]? with | some k => kindWidth k | none => 48

/-! ## Views (R483 to R486) -/

/-- A port's view of one counter. -/
def State.view_ (s : State) (p : Hp) (key : Nat) : CounterView := readAt {} s.collector.views[p] key

/-- Replace a port's views. -/
def State.setViews (s : State) (p : Hp) (v : List (Nat × CounterView)) : State :=
  { s with collector := { s.collector with views := s.collector.views.set p v } }

/-- A snapshot of one counter at the value `v` (R483).  Values and bases are kept whole, so the count accrued since the
base is exact. -/
def CounterView.snapshot (x : CounterView) (w v : Nat) : CounterView :=
  { x with snap := v, ovf := x.ovf || decide (v - x.base ≥ 2 ^ w) }

/-- Every counter of the groups of a mask is copied into a port's view (R484). -/
def State.snapshot (s : State) (p : Hp) (mask : BitVec 32) : State :=
  s.setViews p (s.collector.values.foldl (fun l x =>
    let i := x.1 / 4096
    if mask.getLsbD (groupAt i) then writeAt {} l x.1 ((readAt {} l x.1).snapshot (widthAt i) x.2) else l)
    s.collector.views[p])

/-- SNAP_TIME of the groups of a mask (R484). -/
def State.noteSnapTime (s : State) (p : Hp) (mask : BitVec 32) : State :=
  { s with collector := { s.collector with
    snapTimes := s.collector.snapTimes.set p (((List.range 32).filter fun g => mask.getLsbD g).foldl (fun l g =>
      writeAt 0 l g s.moduleTime) s.collector.snapTimes[p]) } }

/-- The snapshots that are due are taken (R484, R494). -/
def State.takeSnapshots (s : State) : State :=
  let s := [(0 : Hp), 1, 2, 3].foldl (fun s p =>
    let m := s.collector.snapDue[p]
    if m == 0 then s else (s.snapshot p m).noteSnapTime p m) s
  { s with collector := { s.collector with snapDue := Vector.replicate 4 0 } }

/-- The MFC tick at which pending snapshots are taken. -/
def execCtrSnapshotTick (s : State) : Host.Outcome State Fault Refusal :=
  event s fun s => s.atBoundary State.takeSnapshots

/-- The views of the counters that a condition names restart at V (R486). -/
def State.restartViews (s : State) (p : Hp) (named : CounterScope → Nat → Bool) : State :=
  s.setViews p (s.collector.values.foldl (fun l x =>
    if named (scopeAt (x.1 / 4096)) (x.1 % 4096) then writeAt {} l x.1 { snap := x.2, base := x.2, ovf := false } else l)
    s.collector.views[p])

/-! ## CTR_CONFIG and CTR_SNAPSHOT (R496) -/

/-- A group mask names only groups 0x01 to 0x13. -/
def groupMaskOk (m : BitVec 32) : Bool := m &&& 0xFFF00001 == 0

/-- CTR_CONFIG_WRITE: in force from the next MFC tick (R487, R496). -/
def ctrConfigWriteBody (r : Request) (s : State) : Answer :=
  guards [
    (notPrincipal r, .notPrincipal),
    (badForm r 8 || !groupMaskOk (u32 r.params 0) || !zeroAt r.params 4 4, .badParam)]
    (.ok .ok [] { s with collector := { s.collector with groupNext := some (u32 r.params 0) } })

/-- CTR_CONFIG_WRITE. -/
def execCtrConfigWrite (r : Request) (s : State) : Host.Outcome State Fault Refusal :=
  opcode 0x1201 false r s (ctrConfigWriteBody r)

/-- The 8 bytes of TAG_CONFIG_WRITE (R500). -/
def TagConfig.bytes (t : TagConfig) : Bytes := [t.expIn, t.expEg, t.binw, byte t.logStop.toNat] ++ zeros 4

/-- CTR_CONFIG_READ: what was written last (R496). -/
def ctrConfigReadBody (r : Request) (s : State) : Answer :=
  let c := s.collector
  guards [(badForm r 0, .badParam)]
    (answer (be 4 (c.groupNext.getD c.groupEn) ++ zeros 4 ++ (c.tagNext.getD c.tag).bytes) s)

/-- CTR_CONFIG_READ. -/
def execCtrConfigRead (r : Request) (s : State) : Host.Outcome State Fault Refusal :=
  opcode 0x1202 false r s (ctrConfigReadBody r)

/-- CTR_SNAPSHOT: the reply names the next MFC tick, at which the snapshot is taken (R484, R496). -/
def ctrSnapshotBody (r : Request) (s : State) : Answer :=
  let m := u32 r.params 0
  guards [(badForm r 4 || !groupMaskOk m, .badParam)]
    (.ok .ok (be 6 (s.moduleTime + 1) ++ [0, 0]) { s with collector := { s.collector with
      snapDue := s.collector.snapDue.set r.port (s.collector.snapDue[r.port] ||| m) } })

/-- CTR_SNAPSHOT. -/
def execCtrSnapshot (r : Request) (s : State) : Host.Outcome State Fault Refusal :=
  opcode 0x1203 false r s (ctrSnapshotBody r)

/-! ## CTR_READ and CTR_CLEAR (R497, R498) -/

/-- One entry of CTR_READ: OVF and the value modulo the width (R483, R497). -/
def State.counterEntry (s : State) (p : Hp) (k : CounterKind) (i : Nat) : Bytes :=
  let x := s.view_ p (counterKey k i)
  [byte x.ovf.toNat] ++ beBytes 8 ((x.snap - x.base) % 2 ^ kindWidth k)

/-- Reply of CTR_READ (R497). -/
def State.counterReply (s : State) (p : Hp) (k : CounterKind) (first count : Nat) : Bytes :=
  be 2 (s.kindNumber k) ++ [byte (kindInfo k).2.1.toNat, 0] ++ beBytes 4 first ++ beBytes 2 count
    ++ be 6 (readAt 0 s.collector.snapTimes[p] (kindInfo k).1)
    ++ ((List.range count).map fun i => s.counterEntry p k (first + i)).flatten

/-- Every instance of a run lies in the port's tenancy. -/
def State.holdsRun (s : State) (p : Hp) (sc : CounterScope) (first count : Nat) : Bool :=
  (List.range count).all fun i => s.holdsInstance p sc (first + i)

/-- CTR_READ (R497). -/
def ctrReadBody (r : Request) (s : State) : Answer :=
  let first := field r.params 4 4
  let count := field r.params 8 2
  guards [(badForm r 12 || !zeroAt r.params 2 2 || !zeroAt r.params 10 2 || count == 0, .badParam)]
    (match s.kindOf (u16 r.params 0) with
    | none => .fail .range []
    | some k =>
      let sc := (kindInfo k).2.2.1
      guards [
        (count > 451 || first + count > s.instances sc, .range),
        (!s.holdsRun r.port sc first count, .notTenant)]
        (answer (s.counterReply r.port k first count) s))

/-- CTR_READ. -/
def execCtrRead (r : Request) (s : State) : Host.Outcome State Fault Refusal :=
  opcode 0x1204 false r s (ctrReadBody r)

/-- B becomes S and OVF is cleared, for the counters that a condition names (R485). -/
def State.clearViews (s : State) (p : Hp) (named : Nat → Nat → Bool) : State :=
  s.setViews p (s.collector.views[p].foldl (fun l x =>
    if named (x.1 / 4096) (x.1 % 4096) then writeAt {} l x.1 { x.2 with base := x.2.snap, ovf := false } else l)
    s.collector.views[p])

/-- CTR_CLEAR (R485, R498). -/
def ctrClearBody (r : Request) (s : State) : Answer :=
  let all := u16 r.params 0 == 0xFFFF
  let first := field r.params 4 4
  let count := field r.params 8 4
  guards [(badForm r 12 || !zeroAt r.params 2 2 || (all && (first != 0 || count != 0)) || (!all && count == 0), .badParam)]
    (if all then .ok .ok [] (s.clearViews r.port fun k i => s.holdsInstance r.port (scopeAt k) i)
    else match s.kindOf (u16 r.params 0) with
    | none => .fail .range []
    | some k =>
      let sc := (kindInfo k).2.2.1
      guards [
        (first + count > s.instances sc, .range),
        (!s.holdsRun r.port sc first count, .notTenant)]
        (.ok .ok [] (s.clearViews r.port fun j i => j == (kindInfo k).2.2.2 && first ≤ i && i < first + count)))

/-- CTR_CLEAR. -/
def execCtrClear (r : Request) (s : State) : Host.Outcome State Fault Refusal :=
  opcode 0x1205 false r s (ctrClearBody r)

/-! ## FR_READ (R489, R499) -/

/-- Counter `i` of the flight recorder with its sticky bit. -/
def State.flightAt (s : State) (i : Nat) : BitVec 32 × Bool :=
  match s.ident.flightMap[i]? with
  | some c => readAt (0, false) s.collector.flight c.toNat
  | none => (0, false)

/-- Bitmap of the sticky bits. -/
def State.stickyMap (s : State) : BitVec 256 :=
  (List.range 256).foldl (fun m i => if (s.flightAt i).2 then m ||| (1 : BitVec 256) <<< i else m) 0

/-- FR_READ (R499). -/
def frReadBody (r : Request) (s : State) : Answer :=
  let first := field r.params 0 1
  let count := field r.params 1 1
  guards [
    (badForm r 4 || !zeroAt r.params 2 2 || count == 0, .badParam),
    (first + count > 256, .range)]
    (answer (be 6 s.moduleTime ++ [0, 0] ++ be 32 s.stickyMap
      ++ ((List.range count).map fun i => be 4 (s.flightAt (first + i)).1).flatten) s)

/-- FR_READ. -/
def execFrRead (r : Request) (s : State) : Host.Outcome State Fault Refusal :=
  opcode 0x1206 false r s (frReadBody r)

/-! ## Tagging (R493, R500) -/

/-- TAG_CONFIG_WRITE: in force from the next MFC tick (R500). -/
def tagConfigWriteBody (r : Request) (s : State) : Answer :=
  guards [
    (notPrincipal r, .notPrincipal),
    (badForm r 8 || !zeroAt r.params 4 4 || field r.params 3 1 > 1, .badParam),
    (field r.params 0 1 > 20 || field r.params 1 1 > 20, .range)]
    (.ok .ok [] { s with collector := { s.collector with
      tagNext := some { expIn := u8 r.params 0, expEg := u8 r.params 1, binw := u8 r.params 2,
                        logStop := field r.params 3 1 == 1 } } })

/-- TAG_CONFIG_WRITE. -/
def execTagConfigWrite (r : Request) (s : State) : Host.Outcome State Fault Refusal :=
  opcode 0x1207 false r s (tagConfigWriteBody r)

/-- The oldest entries that a test admits, at most `n`, and what is left of the log. -/
def takeEntries (mine : TagEntry → Bool) : Nat → List TagEntry → List TagEntry × List TagEntry
  | _, [] => ([], [])
  | n, x :: xs =>
    if n == 0 then ([], x :: xs)
    else if mine x then
      let r := takeEntries mine (n - 1) xs
      (x :: r.1, r.2)
    else
      let r := takeEntries mine n xs
      (r.1, x :: r.2)

/-- TAG_LOG_READ (R493, R500). -/
def tagLogReadBody (r : Request) (s : State) : Answer :=
  let n := field r.params 0 1
  guards [(badForm r 4 || !zeroAt r.params 1 3 || n == 0 || n > 84, .badParam)]
    (let t := takeEntries (fun x => s.holdsCport r.port x.port) n s.collector.log
     .ok .ok ([byte t.1.length, 0, 0, 0] ++ be 4 s.collector.logLost ++ (t.1.map fun x => x.bytes).flatten)
       { s with collector := { s.collector with log := t.2, logFull := s.collector.logFull && !t.2.isEmpty } })

/-- TAG_LOG_READ. -/
def execTagLogRead (r : Request) (s : State) : Host.Outcome State Fault Refusal :=
  opcode 0x1208 false r s (tagLogReadBody r)

/-- GROUP_EN and the tag settings written take effect (R487, R500). -/
def State.collectorNext (s : State) : State :=
  let c := s.collector
  { s with collector := { c with
    groupEn := c.groupNext.getD c.groupEn, groupNext := none, tag := c.tagNext.getD c.tag, tagNext := none } }

end Sys2Proof.Machine
end

