-- ==== Sys2Proof/Machine/Watershed.lean ====
section
/-! DEFINITION. The Watershed table: its records and its layout, and the opcodes of group 0x02
(spec/03_tabger_commands.md, R70 to R73; R428, R449, R481 for the records of other chapters; log 9). -/

namespace Sys2Proof.Machine

/-! ## Names (R481, R489) -/

/-- Names of the counter kinds in the catalogue's order (R210, R283, R287, R294, R350, R376, R425, R447, R482). -/
def counterNames : List String :=
  [
   "tx.clipped.samples", "fec.positions", "fec.uncorrectable", "fec.corrected", "fec.corrected.ones",
   "fec.iterations", "fec.early", "fec.known.errors", "client.stuff.errors", "client.prbs.errors",
   "client.lane.slips", "client.frames.in", "client.bytes.in", "client.frames.out", "client.bytes.out",
   "client.drop.fcs", "client.drop.pcs", "client.drop.size", "client.drop.egress", "client.rsfec.corrected",
   "client.rsfec.uncorrectable", "flow.drop.nocontext", "flow.drop.cache"]
  ++ [
   "millrace.blocks", "millrace.stalls", "millrace.retries", "millrace.keyabsent", "mem.reads", "mem.writes",
   "mem.corrected", "mem.uncorrectable", "mem.fresh.reads", "mem.merge.rmw", "mem.merge.discard",
   "mem.scrub.words", "time.tc.unmeasured", "gauge.pace.late", "gauge.overrun", "gauge.checks.disagreed",
   "slot.retired", "slot.wasted", "slot.starved.front", "slot.starved.back", "tag.frames", "tag.suppressed",
   "tag.hist"]

/-- Names of the events in the order of `eventCodes` (R489). -/
def eventNames : List String :=
  [
   "event.overflow", "cmd.done", "port.auth.fail", "port.tenancy.changed", "commit.done", "commit.mismatch",
   "commit.abort", "commit.split", "commit.announce.rx", "commit.late", "tx.ready", "tx.quenched",
   "tx.bias.hold.raise", "tx.bias.hold.clear", "tx.laser.fault", "tx.power.fault", "rx.acquired", "rx.relock",
   "rx.cd.search.fail", "rx.sop.fast"]
  ++
  [
   "cal.sweep.done", "cal.slice.retired", "cal.slice.marginal", "cal.spares.exhausted", "cal.hold.raise",
   "cal.hold.clear", "cal.record.invalid", "cal.fuse.fault", "cal.dac.marginal", "fec.aligned",
   "fec.uncorrectable", "fec.effort", "fec.chain.start"]
  ++
  [
   "frame.los.raise", "frame.los.clear", "frame.lof.raise", "frame.lof.clear", "frame.map.raise",
   "frame.map.clear", "frame.link.raise", "frame.link.clear", "frame.bdi.raise", "frame.bdi.clear",
   "frame.twin.raise", "frame.twin.clear", "frame.fn.jump", "frame.align.ambiguous", "frame.far.departing",
   "twin.switch", "twin.skew.raise", "twin.skew.clear", "twin.aps.mismatch", "sc.key.absent", "sc.slip",
   "client.port.fail", "client.port.clear", "client.rf.rx", "client.lane.slip", "client.lane.ready"]
  ++
  [
   "pn.threshold", "ctx.exhausted", "ctx.quarantined", "ctx.suspended", "seal.overflow", "flow.overflow",
   "flow.c7.overrun", "flow.cache.drop", "flow.key.lost", "ctx.stats.invalid", "key.loaded", "key.rewritten",
   "key.erased", "key.unwrap.fail", "portkey.loaded", "portkey.erased", "millrace.stall"]
  ++
  [
   "mem.corrected", "mem.uncorrectable", "mem.sweep.done", "mem.scrub.pass", "mem.log.full", "mem.channel.fail",
   "hw.selected", "hw.holdover.enter", "hw.holdover.exit", "holdover.out_of_spec", "hw.input.qualified",
   "hw.input.failed", "hw.phase.stepped", "time.lock", "time.unlock", "time.stepped", "time.output.switched",
   "time.capture", "time.tpo.done", "time.tpo.missed", "time.decim.reset", "time.tc.unmeasured"]
  ++
  [
   "gauge.disagree", "gauge.hold.raise", "gauge.hold.clear", "gauge.overrun", "gauge.strap.fault", "weir.throttle",
   "weir.margin.low", "weir.sensor.excluded", "weir.sensor.reinstated", "weir.zone.fallback", "weir.shutdown",
   "weir.release", "weir.trip.recorded", "sup.takeover", "sup.failed", "sup.restored", "sup.headless",
   "sup.referee.fault", "tag.log.full", "ctr.wrap", "rst.ready"]

/-- An ASCII name in a field of `n` bytes, padded with 0x00. -/
def nameField (n : Nat) (t : String) : Bytes := fit n (t.toList.map fun c => byte c.toNat)

/-! ## Records (R71, R72) -/

/-- A record: TYPE, VLEN, the value, and zero bytes to a multiple of 4 (R71). -/
def wsRecord (type : Nat) (value : Bytes) : Nat × Bytes := (type, value)

/-- The bytes of a record. -/
def recordBytes (r : Nat × Bytes) : Bytes :=
  beBytes 2 r.1 ++ beBytes 2 r.2.length ++ r.2 ++ zeros ((4 - r.2.length % 4) % 4)

/-- A mask of the lowest `n` instances. -/
def lowMask (n : Nat) : Nat := 2 ^ n - 1

/-- IDENTITY. -/
def State.identityRecord (s : State) : Nat × Bytes :=
  wsRecord 1 (beBytes 2 0x0E57 ++ be 2 (variantCode s.ident.variant) ++ be 2 s.ident.hubRev ++ be 2 s.ident.tileRev
    ++ fit 16 s.ident.serial ++ be 4 s.ident.date ++ be 2 s.ident.contentRev ++ zeros 2)

/-- Instances of a group (R72). -/
def State.groupInstances (s : State) (g : Nat) : Nat :=
  if 3 ≤ g && g ≤ 8 then s.engineCount
  else if g = 9 || g = 10 then s.laneCount
  else if g = 1 || g = 14 then 4
  else if g = 12 then 8
  else if g = 11 || g = 15 || g = 17 then 2
  else 1

/-- BLOCK of a group. -/
def State.blockRecord (s : State) (g : Nat) : Nat × Bytes :=
  let n := s.groupInstances g
  wsRecord 2 ([byte g, byte n, 0, 1] ++ beBytes 8 (lowMask n))

/-- ENGINES. -/
def State.enginesRecord (s : State) : Nat × Bytes :=
  let n := s.engineCount
  let b := bandLimits s.ident.variant
  wsRecord 3 ([byte (lowMask n), if s.ident.variant = .l4 then 2 else 1, byte n, 0]
    ++ ((List.range n).map fun e => [byte e, 0, 0xC0, 0x7F] ++ beBytes 4 b.1 ++ beBytes 4 b.2).flatten)

/-- LANES: every variant carries both rates and both modes (R254, R255). -/
def State.lanesRecord (s : State) : Nat × Bytes :=
  let m := beBytes 8 (lowMask s.laneCount)
  wsRecord 4 (m ++ m ++ [3, 3, 0, 0])

/-- SIZES. -/
def sizesRecord : Nat × Bytes :=
  wsRecord 5 (([1048576, 131072, 65536, 8192, 134217728, 16777216, 65536, 256, 16, 16, 4096] : List Nat).map
    (beBytes 4)).flatten

/-- SCOPE code (R481). -/
def scopeCode : CounterScope → Nat
  | .module => 0 | .engine => 1 | .engineDir => 2 | .lane => 3 | .cport => 4 | .cportClass => 5 | .channel => 6
  | .bank => 7 | .bin => 8

/-- COUNTERS of a kind of the collector (R481). -/
def State.counterRecord (s : State) (k : CounterKind) : Nat × Bytes :=
  let i := kindInfo k
  wsRecord 7 (be 2 (s.kindNumber k) ++ [byte i.1, byte i.2.1.toNat, byte (scopeCode i.2.2.1), 0]
    ++ beBytes 2 (s.instances i.2.2.1) ++ zeros 4 ++ nameField 32 (counterNames.getD i.2.2.2 ""))

/-- COUNTERS of one counter of the flight recorder (R481, R489). -/
def State.flightRecord (s : State) (i : Nat) : Nat × Bytes :=
  let code := s.ident.flightMap.getD i 0
  wsRecord 7 (be 2 (s.ident.kinds.getD (46 + i) 0) ++ [byte (code.toNat / 256), 2, 9, byte i] ++ beBytes 2 1
    ++ be 2 code ++ zeros 2
    ++ nameField 32 (match eventCodes.findIdx? (· == code) with | some j => eventNames.getD j "" | none => ""))

/-- The sensors of the variant, in order (R448). -/
def State.sensorList (s : State) : List Nat := (List.range 104).filter s.hasSensor

/-- One entry of SENSORS (R449): the populated ones of the sensor's neighbours. -/
def State.sensorField (s : State) (i : Nat) : Bytes :=
  let near := ((s.ident.neighbours.getD i []).filter s.hasSensor).take 8
  [byte i, byte (zoneOf i), byte near.length, 0] ++ near.map byte ++ List.replicate (8 - near.length) 0xFF

/-- SENSORS (R449). -/
def State.sensorsRecord (s : State) : Nat × Bytes :=
  wsRecord 8 ([byte s.sensorList.length, 0, 0, 0] ++ (s.sensorList.map s.sensorField).flatten)

/-- KIND of a Gauge channel (R428). -/
def channelKind (c : Nat) : Byte :=
  if c = 0 || (2 ≤ c && c ≤ 4) then 5
  else if c = 5 || c = 6 then 6
  else if c = 8 || c = 14 then 2
  else if c = 15 || c ≥ 60 then 0
  else if c < 16 then 1
  else if c < 48 then ([3, 2, 4, 2, 3, 3, 1, 1] : List Byte).getD (c % 8) 0
  else 1

/-- One entry of GAUGE_MAP (R428).  SCALE and OFFSET are factory values that the spec leaves to each module, so they
are free (log 9). -/
def State.gaugeField (s : State) (c : Nat) : Bytes :=
  [byte c, channelKind c, match channelEngine c with | some e => byte e | none => 0xFF,
   byte (bit (s.hasChannel c) 0 + bit (s.gaSamples c || (60 > c && c ≥ 16)) 1 + bit true 2 + bit (2 ≤ c && c ≤ 4) 3)]
    ++ beBytes 4 (Config.gaugeScale c) ++ beBytes 4 (Config.gaugeOffset c)

/-- GAUGE_MAP (R428). -/
def State.gaugeRecord (s : State) : Nat × Bytes :=
  wsRecord 9 ([64, 0, 0, 0] ++ ((List.range 64).map s.gaugeField).flatten)

/-- Every record, IDENTITY first and END last (R71). -/
def State.wsRecords (s : State) : List (Nat × Bytes) :=
  [s.identityRecord] ++ ((List.range 19).map fun i => s.blockRecord (i + 1))
    ++ [s.enginesRecord, s.lanesRecord, sizesRecord] ++ allKinds.map s.counterRecord
    ++ (List.range s.ident.flightMap.length).map s.flightRecord
    ++ [s.sensorsRecord, s.gaugeRecord, wsRecord 0 []]

/-! ## The table and its opcodes (R70, R73) -/

/-- Everything behind the header. -/
def State.wsBody (s : State) : Bytes := (s.wsRecords.map recordBytes).flatten

/-- The 16-byte header. -/
def wsHeader (body : Bytes) : Bytes :=
  beBytes 4 0x57534844 ++ beBytes 2 1 ++ zeros 2 ++ beBytes 4 (16 + body.length) ++ be 4 (crc32 body)

/-- The whole table. -/
def State.wsTable (s : State) : Bytes := let b := s.wsBody; wsHeader b ++ b

/-- WS_INFO (R73). -/
def wsInfoBody (r : Request) (s : State) : Answer :=
  guards [(badForm r 0, .badParam)] (answer (wsHeader s.wsBody) s)

/-- WS_INFO. -/
def execWsInfo (r : Request) (s : State) : Host.Outcome State Fault Refusal := opcode 0x0201 true r s (wsInfoBody r)

/-- WS_READ (R73). -/
def wsReadBody (r : Request) (s : State) : Answer :=
  let offset := field r.params 0 4
  let count := field r.params 4 2
  guards [
    (badForm r 6 || count == 0 || count > 4080, .badParam),
    (offset ≥ s.wsTable.length, .range)]
    (answer (slice s.wsTable offset count) s)

/-- WS_READ. -/
def execWsRead (r : Request) (s : State) : Host.Outcome State Fault Refusal := opcode 0x0202 true r s (wsReadBody r)

/-- Offset and VLEN of the `n`th record of a TYPE among records that start at an offset. -/
def findRecord (type : Nat) : List (Nat × Bytes) → Nat → Nat → Option (Nat × Nat)
  | [], _, _ => none
  | x :: xs, at_, n =>
    if x.1 = type then
      (match n with | 0 => some (at_, x.2.length) | m + 1 => findRecord type xs (at_ + (recordBytes x).length) m)
    else findRecord type xs (at_ + (recordBytes x).length) n

/-- WS_FIND (R73). -/
def wsFindBody (r : Request) (s : State) : Answer :=
  guards [(badForm r 4, .badParam)]
    (match findRecord (field r.params 0 2) s.wsRecords 16 (field r.params 2 2) with
    | none => .fail .range []
    | some x => answer (beBytes 4 x.1 ++ beBytes 2 x.2 ++ zeros 2) s)

/-- WS_FIND. -/
def execWsFind (r : Request) (s : State) : Host.Outcome State Fault Refusal := opcode 0x0203 true r s (wsFindBody r)

end Sys2Proof.Machine
end

