-- ==== Sys2Proof/Machine/HostPort.lean ====
section
/-! DEFINITION. The four host ports on their I3C buses: addresses, packets, in-band interrupts and CCCs, and the
opcodes of group 0x01 (spec/03_tabger_commands.md). -/

namespace Sys2Proof.Machine

/-! ## Addresses and the bus (R38 to R41, R504, R510) -/

/-- The static address of a port (R38). -/
def State.staticAddr (s : State) (p : Hp) : BitVec 7 := BitVec.ofNat 7 (0x10 + 4 * s.power.strap0.toNat + p.val)

/-- What the port did on its bus. -/
def State.onBus (s : State) (p : Hp) (a : BusAnswer) : State := s.updPort p fun q => { q with bus := a }

/-- The port drives its contacts: the rails are on and VIO is present (R504, R527). -/
def State.drives (s : State) : Bool := s.railsOn && s.power.vio

/-- The port serves its bus: the module is ready and STRAP1 bit 1 leaves the port in service (R38, R510). -/
def State.portServes (s : State) (p : Hp) : Bool := s.ready && (p == 0 || !s.power.strap1.getLsbD 1)

/-- A transfer to an address is the port's: its dynamic address, or without one its static address, unless STRAP1
bit 0 forbids that (R40, R510). -/
def State.addressed (s : State) (p : Hp) (addr : BitVec 7) : Bool :=
  match (s.port p).dynAddr with
  | some d => addr == d
  | none => !s.power.strap1.getLsbD 0 && addr == s.staticAddr p

/-- A transfer or directed CCC to an address: nothing is driven while the contacts float, and whatever is not served is
not acknowledged (R38, R40, R504, R510). -/
def State.directed (s : State) (p : Hp) (addr : BitVec 7) (f : State → State) : State :=
  if !s.drives then s.onBus p .ignored
  else if !(s.portServes p && s.addressed p addr) then s.onBus p .nack
  else f s

/-- A broadcast CCC: ignored by a port that does not serve (R510). -/
def State.broadcast (s : State) (p : Hp) (f : State → State) : State :=
  if s.drives && s.portServes p then f s else s.onBus p .ignored

/-- A CCC in its directed or its broadcast form. -/
def State.ccc (s : State) (p : Hp) (to_ : Option (BitVec 7)) (f : State → State) : State :=
  match to_ with
  | some a => s.directed p a f
  | none => s.broadcast p f

/-- The framing of a packet suits the bus: SDR, which ends HDR mode, or HDR-DDR with the port's command code while in
HDR mode (R40, R41; the exit pattern is I3C's, log 10). -/
def State.framed (s : State) (p : Hp) (x : Xfer) (code : Byte) (f : State → State) : State :=
  match x with
  | .sdr => f (s.updPort p fun q => { q with hdr := false })
  | .ddr c => if !(s.port p).hdr then s.onBus p .ignored else if c != code then s.onBus p .nack else f s

/-! ## Request packets (R41, R43 to R49, R53) -/

/-- The fields of a request's header. -/
structure Header where
  version : Nat
  auth : Bool
  chain : Bool
  prio : Bool
  flag0 : Bool
  tag : Byte
  opcode : BitVec 16
  len : Nat
  seq : BitVec 16
  deriving DecidableEq, Repr

/-- The header of a packet (R43). -/
def parseHeader (b : Bytes) : Header :=
  let f := u8 b 0
  { version := f.toNat / 16, auth := f.getLsbD 3, chain := f.getLsbD 2, prio := f.getLsbD 1, flag0 := f.getLsbD 0,
    tag := u8 b 1, opcode := u16 b 2, len := field b 4 2, seq := u16 b 6 }

/-- A reply that the port itself makes at steps 1 to 5 (R45, R53). -/
def State.portReply (s : State) (p : Hp) (h : Header) (auth : Option AuthContext) (st : Status) (data : Bytes) :
    State :=
  (s.authWork auth (8 + data.length)).updPort p fun q => q.pushReply
    { seq := h.seq, opcode := h.opcode, bytes := replyPacket auth h.chain h.prio h.tag h.seq st data }

/-- The transfer length does not suit LENGTH (R44). -/
def Header.badLength (h : Header) (b : Bytes) : Bool :=
  h.len > 4080 || b.length != 8 + h.len + (if h.auth then 8 else 4)

/-- The trailer's CMAC is that of the port's key and prefix (R46). -/
def authentic (a : AuthContext) (b : Bytes) (len : Nat) : Bool :=
  (cmac a.key (authPrefix 0 a ++ b.take (8 + len))).take 8 == b.drop (8 + len)

/-- The trailer's CRC-32 is right (R45). -/
def crcRight (b : Bytes) (len : Nat) : Bool := be 4 (crc32 (b.take (8 + len))) == b.drop (8 + len)

/-- An AUTH-FAIL answer; the 16th in succession raises port.auth.fail (R47). -/
def State.authFail (s : State) (p : Hp) (h : Header) : State :=
  let n := (s.port p).authFails + 1
  let s := (s.updPort p fun q => { q with authFails := n }).portReply p h none .authFail []
  if n = 16 then s.raise 0x0103 (.host p) (beBytes 4 n) else s

/-- A request is accepted: NEXT_SEQ goes on, WRAP counts its wraps, and the request joins the queue (R46, R48). -/
def State.accept (s : State) (p : Hp) (h : Header) (auth : Option AuthContext) (b : Bytes) : State :=
  let r : Request := { port := p, tag := h.tag, seq := h.seq, auth := auth, chain := h.chain, prio := h.prio,
                       flag0 := h.flag0, params := slice b 8 h.len }
  s.updPort p fun q => { q with
    nextSeq := q.nextSeq + 1, wrap := if q.nextSeq == 0xFFFF then q.wrap + 1 else q.wrap,
    queue := q.queue ++ [(h.opcode, r)] }

/-- A retransmission: the retained copy is queued again, or nothing happens (R49). -/
def State.retransmit (s : State) (p : Hp) (seq : BitVec 16) : State :=
  match (s.port p).retained with
  | some c => if c.seq == seq then s.updPort p fun q => q.pushReply c else s
  | none => s

/-- Steps 4 and 5 of R53, for a packet whose trailer is right. -/
def State.sequence (s : State) (p : Hp) (h : Header) (auth : Option AuthContext) (b : Bytes) : State :=
  let q := s.port p
  if q.authReq && !h.auth && h.opcode != 0x0101 then s.portReply p h none .authRequired []
  else if h.seq == q.nextSeq then s.accept p h auth b
  else if h.seq == q.nextSeq - 1 then s.retransmit p h.seq
  else s.portReply p h auth .sequence (be 2 q.nextSeq)

/-- Step 3 of R53: CRC-32, or the CMAC under the port's command-authentication key (R45 to R47). -/
def State.trailer (s : State) (p : Hp) (h : Header) (b : Bytes) : State :=
  if !h.auth then
    if crcRight b h.len then s.sequence p h none b else s.portReply p h none .crcError []
  else match (s.port p).cak.key with
    | none => s.portReply p h none .keyAbsent []
    | some k =>
      let a : AuthContext := { key := k, sessionStart := (s.port p).sessionStart, wrap := (s.port p).wrap }
      let s := s.authWork (some a) (8 + h.len)
      if authentic a b h.len then (s.updPort p fun q => { q with authFails := 0 }).sequence p h (some a) b
      else s.authFail p h

/-- Steps 1 and 2 of R53, for a packet of at least a header. -/
def State.packet (s : State) (p : Hp) (b : Bytes) : State :=
  let h := parseHeader b
  if h.version != 1 then s.portReply p h none .version []
  else if h.badLength b then s.portReply p h none .length []
  else s.trailer p h b

/-- A write reaches the port: NACKed with 16 reply slots taken; shorter than a header it is discarded and counted
(R41).  The rule gives the count no width and no command reads it: 48 bits, wrapping (log 33). -/
def State.write (s : State) (p : Hp) (b : Bytes) : State :=
  if (s.port p).slotsUsed ≥ 16 then s.onBus p .nack
  else
    let s := s.onBus p .ack
    if b.length < 8 then s.updPort p fun q => { q with shortWrites := q.shortWrites + 1 } else s.packet p b

/-- REQUEST_PACKET. -/
def execRequestPacket (p : Hp) (addr : BitVec 7) (x : Xfer) (bytes : Bytes) (s : State) :
    Host.Outcome State Fault Refusal :=
  .next (s.directed p addr fun s => s.framed p x 0x01 fun s => s.write p bytes)

/-! ## Replies (R41, R49) -/

/-- The reply read is the one by which MODULE_RESET was answered OK (R513). -/
def Reply.grantsReset (r : Reply) : Bool := r.opcode == 0x1301 && slice r.bytes 2 2 == [0, 0]

/-- A read returns the oldest reply, which becomes the retained copy; with none queued it is NACKed. -/
def State.read (s : State) (p : Hp) : State :=
  match (s.port p).replies with
  | [] => s.onBus p .nack
  | r :: rest =>
    let s := (s.updPort p fun q => { q with replies := rest, retained := some r }).onBus p (.data r.bytes)
    { s with power := { s.power with resetRead := s.power.resetRead || (s.power.resetDue && r.grantsReset) } }

/-- REPLY_READ. -/
def execReplyRead (p : Hp) (addr : BitVec 7) (x : Xfer) (s : State) : Host.Outcome State Fault Refusal :=
  .next (s.directed p addr fun s => s.framed p x 0x81 fun s => s.read p)

/-- Request an IBI while a queue is non-empty (R42). -/
def State.ibiIfTraffic (s : State) (p : Hp) : State :=
  s.updPort p fun q => if q.hasTraffic then q.requestIbi else q

/-- IBI_REPEAT: IBI_HOLDOFF has run out; zero means no repeat (R42). -/
def execIbiRepeat (p : Hp) (s : State) : Host.Outcome State Fault Refusal :=
  eventIf s ((s.port p).holdoff != 0) fun s => s.ibiIfTraffic p

/-! ## CCCs (R39, R40, R42) -/

/-- The provisional ID (R39). -/
def State.provisionalId (s : State) (p : Hp) : BitVec 48 :=
  (0x0E57 : BitVec 15) ++ (0 : BitVec 1) ++ (0x1280 : BitVec 16) ++ BitVec.ofNat 4 p.val ++ s.power.strap0
    ++ (crc32 (fit 16 s.ident.serial)).setWidth 9

/-- What a port sends in the arbitration of ENTDAA: provisional ID, BCR, DCR (R39; I3C, log 10). -/
def State.daaId (s : State) (p : Hp) : BitVec 64 := s.provisionalId p ++ (0x26 : BitVec 8) ++ (0 : BitVec 8)

/-- A dynamic address is taken; traffic that waits requests an IBI at once (R42). -/
def State.takeAddr (s : State) (p : Hp) (addr : BitVec 7) : State :=
  (s.updPort p fun q => { q with dynAddr := some addr }).ibiIfTraffic p

/-- ENTDAA: a port without a dynamic address takes part, and the lowest identifier wins the round (I3C, log 10). -/
def execCccEntdaa (p : Hp) (rivals : List (BitVec 64)) (addr : BitVec 7) (s : State) :
    Host.Outcome State Fault Refusal :=
  .next (s.broadcast p fun s =>
    if (s.port p).dynAddr.isSome then s.onBus p .ignored
    else if rivals.all fun r => (s.daaId p).toNat ≤ r.toNat then
      (s.takeAddr p addr).onBus p (.data (be 8 (s.daaId p)))
    else s.onBus p .nack)

/-- SETDASA, by the static address: NACKed with STRAP1 bit 0 or with a dynamic address held (R40, R510). -/
def execCccSetdasa (p : Hp) (static addr : BitVec 7) (s : State) : Host.Outcome State Fault Refusal :=
  .next (s.directed p static fun s =>
    if (s.port p).dynAddr.isSome then s.onBus p .nack else (s.takeAddr p addr).onBus p .ack)

/-- SETNEWDA, by the dynamic address.  Changing an address is not receiving one: no IBI is requested (R42; log 33). -/
def execCccSetnewda (p : Hp) (to_ addr : BitVec 7) (s : State) : Host.Outcome State Fault Refusal :=
  .next (s.directed p to_ fun s =>
    if (s.port p).dynAddr.isNone then s.onBus p .nack
    else (s.updPort p fun q => { q with dynAddr := some addr }).onBus p .ack)

/-- RSTDAA, a broadcast (R40, R42). -/
def execCccRstdaa (p : Hp) (s : State) : Host.Outcome State Fault Refusal :=
  .next (s.broadcast p fun s => (s.updPort p fun q => { q with dynAddr := none }).onBus p .ack)

/-- ENEC: traffic that waits requests an IBI, also where IBIs were enabled already (R42; log 33). -/
def execCccEnec (p : Hp) (to_ : Option (BitVec 7)) (s : State) : Host.Outcome State Fault Refusal :=
  .next (s.ccc p to_ fun s => ((s.updPort p fun q => { q with ibiOn := true }).ibiIfTraffic p).onBus p .ack)

/-- DISEC (R42). -/
def execCccDisec (p : Hp) (to_ : Option (BitVec 7)) (s : State) : Host.Outcome State Fault Refusal :=
  .next (s.ccc p to_ fun s => (s.updPort p fun q => { q with ibiOn := false }).onBus p .ack)

/-- GETPID (R39). -/
def execCccGetpid (p : Hp) (to_ : BitVec 7) (s : State) : Host.Outcome State Fault Refusal :=
  .next (s.directed p to_ fun s => s.onBus p (.data (be 6 (s.provisionalId p))))

/-- GETBCR (R39). -/
def execCccGetbcr (p : Hp) (to_ : BitVec 7) (s : State) : Host.Outcome State Fault Refusal :=
  .next (s.directed p to_ fun s => s.onBus p (.data [0x26]))

/-- GETDCR (R39). -/
def execCccGetdcr (p : Hp) (to_ : BitVec 7) (s : State) : Host.Outcome State Fault Refusal :=
  .next (s.directed p to_ fun s => s.onBus p (.data [0x00]))

/-- GETSTATUS: two bytes whose content the spec does not give, so they are free (R40, log 10). -/
def execCccGetstatus (p : Hp) (to_ : BitVec 7) (s : State) : Host.Outcome State Fault Refusal :=
  .next (s.directed p to_ fun s => s.skip.onBus p (.data (beBytes 2 s.free)))

/-- GETMWL (R40). -/
def execCccGetmwl (p : Hp) (to_ : BitVec 7) (s : State) : Host.Outcome State Fault Refusal :=
  .next (s.directed p to_ fun s => s.onBus p (.data (beBytes 2 4096)))

/-- GETMRL (R40). -/
def execCccGetmrl (p : Hp) (to_ : BitVec 7) (s : State) : Host.Outcome State Fault Refusal :=
  .next (s.directed p to_ fun s => s.onBus p (.data (beBytes 2 4096 ++ [3])))

/-- SETMWL: only 4,096 is accepted, and it changes nothing (R40). -/
def execCccSetmwl (p : Hp) (to_ : Option (BitVec 7)) (value : BitVec 16) (s : State) :
    Host.Outcome State Fault Refusal :=
  .next (s.ccc p to_ fun s => s.onBus p (if value == 4096 then .ack else if to_.isSome then .nack else .ignored))

/-- SETMRL: only 4,096 is accepted, and it changes nothing (R40). -/
def execCccSetmrl (p : Hp) (to_ : Option (BitVec 7)) (value : BitVec 16) (s : State) :
    Host.Outcome State Fault Refusal :=
  .next (s.ccc p to_ fun s => s.onBus p (if value == 4096 then .ack else if to_.isSome then .nack else .ignored))

/-- ENTHDR0, a broadcast (R40). -/
def execCccEnthdr0 (p : Hp) (s : State) : Host.Outcome State Fault Refusal :=
  .next (s.broadcast p fun s => (s.updPort p fun q => { q with hdr := true }).onBus p .ack)

/-- Any other CCC: NACKed when directed, ignored when broadcast (R40). -/
def execCccOther (p : Hp) (to_ : Option (BitVec 7)) (_code : Byte) (s : State) : Host.Outcome State Fault Refusal :=
  .next (s.ccc p to_ fun s => s.onBus p (if to_.isSome then .nack else .ignored))

/-! ## PORT_INFO and PORT_CONFIG (R65, R66) -/

/-- A port's tenancy is empty. -/
def Tenancy.isEmpty (t : Tenancy) : Bool := t == {}

/-- MODULE of PORT_INFO: the orderly shutdown is one that Weir carries out with its DEP stage (R454). -/
def State.moduleBits (s : State) : Byte :=
  byte (bit s.ready 0 + bit s.sup.headless 1 + bit s.faultLow 2 + bit (s.weirState == 2 && !s.weir.skipped) 3)

/-- The 32 bytes of R65: NEXT_SEQ as the request's own acceptance left it; its own reply slot is still reserved. -/
def State.portInfo (s : State) (r : Request) : Bytes :=
  let p := r.port
  let q := s.port p
  [byte p.val, byte (bit (p == 0) 0 + bit (p == 0 || !q.tenancy.isEmpty) 1), (s.staticAddr p).setWidth 8,
   (q.dynAddr.getD 0).setWidth 8]
    ++ be 2 (r.seq + 1) ++ be 2 q.wrap ++ be 6 q.sessionStart ++ be 6 s.moduleTime
    ++ [byte (bit q.cak.key.isSome 0 + bit q.authReq 1), s.moduleBits, byte (16 - q.queue.length),
        byte (15 - q.slotsUsed)]
    ++ beBytes 2 q.events.length ++ zeros 2 ++ be 4 q.lost

/-- PORT_INFO. -/
def portInfoBody (r : Request) (s : State) : Answer :=
  guards [(badForm r 0, .badParam)] (answer (s.portInfo r) s)

/-- PORT_INFO. -/
def execPortInfo (r : Request) (s : State) : Host.Outcome State Fault Refusal :=
  opcode 0x0101 true r s (portInfoBody r)

/-- The request names a port that is not its own (R58). -/
def namesOther (r : Request) : Bool := r.port != 0 && !r.params.isEmpty && field r.params 0 1 != r.port.val

/-- PORT_CONFIG (R66). -/
def portConfigBody (r : Request) (s : State) : Answer :=
  let n := field r.params 0 1
  let p : Hp := Fin.ofNat 4 n
  let on := field r.params 1 1 == 1
  guards [
    (namesOther r, .notPrincipal),
    (badForm r 8 || field r.params 1 1 > 1 || !groupMaskOk (u32 r.params 4), .badParam),
    (n > 3, .range),
    (on && (s.port p).cak.key.isNone, .keyAbsent),
    (!on && (s.port p).authReq && r.auth.isNone, .authRequired)]
    (.ok .ok [] (s.updPort p fun q => { q with
      authReq := on, holdoff := u16 r.params 2, mask := u32 r.params 4 }))

/-- PORT_CONFIG. -/
def execPortConfig (r : Request) (s : State) : Host.Outcome State Fault Refusal :=
  opcode 0x0102 false r s (portConfigBody r)

/-! ## PORT_RESET, PORT_ECHO, EVENT_READ (R67 to R69) -/

/-- PORT_RESET (R67): a request still in execution goes on and is answered, outside every chain. -/
def portResetBody (r : Request) (s : State) : Answer :=
  let now := s.moduleTime
  guards [(badForm r 0, .badParam)]
    (.ok .ok [] (s.updPort r.port fun q => { q with
      nextSeq := 0, wrap := 0, sessionStart := now, queue := [], replies := [], retained := none,
      chainFailed := false, offChain := q.running }))

/-- PORT_RESET. -/
def execPortReset (r : Request) (s : State) : Host.Outcome State Fault Refusal :=
  opcode 0x0103 true r s (portResetBody r)

/-- PORT_ECHO (R68). -/
def portEchoBody (r : Request) (s : State) : Answer := guards [(r.flag0, .badParam)] (answer r.params s)

/-- PORT_ECHO. -/
def execPortEcho (r : Request) (s : State) : Host.Outcome State Fault Refusal :=
  opcode 0x0104 false r s (portEchoBody r)

/-- The 16 bytes of an event record (R55). -/
def eventBytes (e : Event) : Bytes := be 6 e.time ++ be 2 e.code ++ be 2 e.inst ++ fit 6 e.data

/-- event.overflow, once space is free after losses: ahead of any new event, and the lost count is cleared (R57). -/
def State.overflow (s : State) (p : Hp) : State :=
  let q := s.port p
  if q.lost == 0 then s
  else
    let e : Event := { time := q.firstLost, code := 0x0101, inst := BitVec.ofNat 16 p.val, data := fit 6 (be 4 q.lost) }
    (s.noteFlight 0x0101).updPort p fun q => ({ q with lost := 0 }).pushEvent e

/-- The `k` oldest records leave the queue (R57, R69). -/
def State.takeEvents (s : State) (p : Hp) (k : Nat) : State :=
  let s := s.updPort p fun q => { q with events := q.events.drop k }
  if (s.port p).events.length < 256 then s.overflow p else s

/-- EVENT_READ (R69). -/
def eventReadBody (r : Request) (s : State) : Answer :=
  let k := field r.params 0 1
  guards [(badForm r 1 || k == 0, .badParam)]
    (.ok .ok (((s.port r.port).events.take k).map eventBytes).flatten (s.takeEvents r.port k))

/-- EVENT_READ. -/
def execEventRead (r : Request) (s : State) : Host.Outcome State Fault Refusal :=
  opcode 0x0105 true r s (eventReadBody r)

/-! ## Tenancy (R58 to R60) -/

/-- Entry `i` of a list of ranges. -/
def rangeAt (b : Bytes) (o i : Nat) : TenancyRange := { first := u32 b (o + 8 * i), count := u32 b (o + 8 * i + 4) }

/-- The used entries of a list of ranges. -/
def rangesOf (b : Bytes) (o n : Nat) : List TenancyRange := (List.range n).map (rangeAt b o)

/-- The tenancy of the 80 bytes of R59. -/
def parseTenancy (b : Bytes) : Tenancy :=
  { engines := BitVec.ofNat 4 (field b 1 1), tpo := BitVec.ofNat 4 (field b 2 1), sc := BitVec.ofNat 4 (field b 3 1),
    cports := u64 b 4, ctx := rangesOf b 16 (field b 12 1), ks := rangesOf b 48 (field b 13 1) }

/-- A list of ranges in its 32 bytes. -/
def rangeBytes (l : List TenancyRange) : Bytes := fit 32 (l.map fun x => be 4 x.first ++ be 4 x.count).flatten

/-- The 80 bytes of R59. -/
def renderTenancy (p : Byte) (t : Tenancy) : Bytes :=
  [p, t.engines.setWidth 8, t.tpo.setWidth 8, t.sc.setWidth 8] ++ be 8 t.cports
    ++ [byte t.ctx.length, byte t.ks.length, 0, 0] ++ rangeBytes t.ctx ++ rangeBytes t.ks

/-- A list of ranges is ill-formed: too many, an unused entry that is not zero, or a used one of COUNT 0 (R59). -/
def badRanges (b : Bytes) (o n : Nat) : Bool :=
  n > 4 || !zeroAt b (o + 8 * n) (8 * (4 - n)) || (rangesOf b o n).any fun x => x.count == 0

/-- The 80 bytes are ill-formed. -/
def badTenancy (b : Bytes) : Bool :=
  field b 1 1 > 15 || field b 2 1 > 15 || field b 3 1 > 15 || !zeroAt b 14 2 || badRanges b 16 (field b 12 1)
    || badRanges b 48 (field b 13 1)

/-- Every named instance is populated, and every range ends within its space (R59). -/
def State.tenancyExists (s : State) (t : Tenancy) : Bool :=
  t.engines.toNat < 2 ^ s.engineCount && t.sc.toNat < 2 ^ s.engineCount && t.cports.toNat < 2 ^ s.laneCount
    && t.ctx.all (fun x => x.first.toNat + x.count.toNat ≤ 1048576)
    && t.ks.all (fun x => x.first.toNat + x.count.toNat ≤ 65536)

/-- Two ranges share a number. -/
def overlap (x y : TenancyRange) : Bool :=
  x.first.toNat < y.first.toNat + y.count.toNat && y.first.toNat < x.first.toNat + x.count.toNat

/-- Two ranges of one list overlap. -/
def selfOverlap : List TenancyRange → Bool
  | [] => false
  | x :: xs => xs.any (overlap x) || selfOverlap xs

/-- Two tenancies share a resource. -/
def Tenancy.meets (a b : Tenancy) : Bool :=
  a.engines &&& b.engines != 0 || a.tpo &&& b.tpo != 0 || a.sc &&& b.sc != 0 || a.cports &&& b.cports != 0
    || a.ctx.any (fun x => b.ctx.any (overlap x)) || a.ks.any (fun x => b.ks.any (overlap x))

/-- A tenancy conflicts with itself or with that of another port than `p` (R59). -/
def State.tenancyConflict (s : State) (p : Hp) (t : Tenancy) : Bool :=
  selfOverlap t.ctx || selfOverlap t.ks
    || (([1, 2, 3] : List Hp).any fun q => q != p && t.meets (s.port q).tenancy)

/-- A tenancy takes effect: the views of the counters that enter it restart, and port.tenancy.changed follows (R60,
R486). -/
def State.setTenancy (s : State) (p : Hp) (t : Tenancy) : State :=
  let u := s.updPort p fun q => { q with tenancy := t }
  (u.restartViews p fun sc i => u.ownsInstance p sc i && !s.ownsInstance p sc i).raise 0x0104 (.host p)
    [if t.isEmpty then 0 else 1]

/-- TENANCY_SET (R59). -/
def tenancySetBody (r : Request) (s : State) : Answer :=
  let n := field r.params 0 1
  let t := parseTenancy r.params
  guards [
    (notPrincipal r, .notPrincipal),
    (badForm r 80 || badTenancy r.params, .badParam),
    (n == 0 || n > 3 || !s.tenancyExists t, .range),
    (s.tenancyConflict (Fin.ofNat 4 n) t, .inconsistent)]
    (.ok .ok [] (s.setTenancy (Fin.ofNat 4 n) t))

/-- TENANCY_SET. -/
def execTenancySet (r : Request) (s : State) : Host.Outcome State Fault Refusal :=
  opcode 0x0106 false r s (tenancySetBody r)

/-- Every populated resource: what HP0 holds (R60). -/
def State.everything (s : State) : Tenancy :=
  { engines := BitVec.ofNat 4 (lowMask s.engineCount), tpo := 15, sc := BitVec.ofNat 4 (lowMask s.engineCount),
    cports := BitVec.ofNat 64 (lowMask s.laneCount), ctx := [{ first := 0, count := 1048576 }],
    ks := [{ first := 0, count := 65536 }] }

/-- TENANCY_GET (R60). -/
def tenancyGetBody (r : Request) (s : State) : Answer :=
  let n := field r.params 0 1
  guards [
    (namesOther r, .notPrincipal),
    (badForm r 1, .badParam),
    (n > 3, .range)]
    (answer (renderTenancy (byte n) (if n = 0 then s.everything else (s.port (Fin.ofNat 4 n)).tenancy)) s)

/-- TENANCY_GET. -/
def execTenancyGet (r : Request) (s : State) : Host.Outcome State Fault Refusal :=
  opcode 0x0107 false r s (tenancyGetBody r)

end Sys2Proof.Machine
end

