-- ==== Sys2Proof/Machine/Receive.lean ====
section
/-! DEFINITION. Group 0x05, the receive path: configuration, status, monitors, freeze and capture, and the moves of
the acquisition state machine (spec/06_receive_path.md). -/

namespace Sys2Proof.Machine

/-! ## RX_CONFIG (R163, R164) -/

/-- The receive configuration from the 32 bytes of R163. -/
def parseRx (p : Bytes) : RxConfig :=
  { cdMode := u8 p 1, kernel := u8 p 2, mimoTaps := u8 p 3, cdHint := u32 p 4, cdSpan := u32 p 8, mimoMu := u8 p 12,
    trBw := u8 p 13, cprAvg := u8 p 14, flags := u8 p 15, losThr := u16 p 16,
    feSkew := Vector.ofFn fun i => u16 p (20 + 2 * i.val) }

/-- The 32 bytes of R163. -/
def renderRx (e : Byte) (c : RxConfig) : Bytes :=
  [e, c.cdMode, c.kernel, c.mimoTaps] ++ be 4 c.cdHint ++ be 4 c.cdSpan ++ [c.mimoMu, c.trBw, c.cprAvg, c.flags]
    ++ be 2 c.losThr ++ [0, 0] ++ (c.feSkew.toList.map fun v => be 2 v).flatten ++ zeros 4

/-- Every value lies in its range (R163). -/
def rxRangeOk (c : RxConfig) : Bool :=
  c.kernel.toNat ≤ 8 && (c.mimoTaps == 0 || (7 ≤ c.mimoTaps.toNat && c.mimoTaps.toNat ≤ 31))
    && within c.cdHint.toInt 100000 && c.cdSpan.toNat ≤ 100000 && c.mimoMu.toNat ≤ 10 && c.trBw.toNat ≤ 6
    && c.cprAvg.toNat ≤ 64 && (c.losThr == 0 || (100 ≤ c.losThr.toNat && c.losThr.toNat ≤ 350))
    && c.feSkew.toList.all (fun v => within v.toInt 200)

/-- RX_CONFIG_WRITE (R163): an illegal CD_MODE or an even MIMO_TAPS is BAD-PARAM.  A value out of its range is answered
before the tenancy is looked at, here and in the captures: R53 orders the instance only (log 34). -/
def rxConfigWriteBody (r : Request) (s : State) : Answer :=
  let n := field r.params 0 1
  let c := parseRx r.params
  guards [
    (badForm r 32 || !zeroAt r.params 18 2 || !zeroAt r.params 28 4 || c.cdMode.toNat > 2 || c.flags.toNat > 3
      || (c.mimoTaps != 0 && c.mimoTaps.toNat % 2 == 0), .badParam),
    (!s.hasEngine n || !rxRangeOk c, .range),
    (!s.holdsEngine r.port n, .notTenant),
    (s.holdsScope 5 n, .busy)]
    (.ok .ok [] (s.stage (engOf n) fun p => { p with rx := c }))

/-- RX_CONFIG_WRITE. -/
def execRxConfigWrite (r : Request) (s : State) : Host.Outcome State Fault Refusal :=
  opcode 0x0501 false r s (rxConfigWriteBody r)

/-- RX_CONFIG_READ (R163). -/
def rxConfigReadBody (r : Request) (s : State) : Answer :=
  engineGuards (badEngineCopy r) r s fun e =>
    answer (renderRx (u8 r.params 0) (copyOf (u8 r.params 1) (s.eng e).params).rx) s

/-- RX_CONFIG_READ. -/
def execRxConfigRead (r : Request) (s : State) : Host.Outcome State Fault Refusal :=
  opcode 0x0502 false r s (rxConfigReadBody r)

/-! ## Values in force (R142, R164) -/

/-- The committed tap count, or the profile's default. -/
def Engine.tapsCommitted (x : Engine) : Nat := x.rxParams.taps

/-- MIMO_MU in force (R141, R164). -/
def EngineParams.mimoMu (p : EngineParams) : Nat := orDefault p.rx.mimoMu 4

/-- TR_BW in force (R136, R164). -/
def EngineParams.trBw (p : EngineParams) : Nat :=
  orDefault p.rx.trBw (match profileOf p.line with | some q => q.trBw | none => 3)

/-- Loss-of-signal threshold in force, in 0.01 dBm: −28.0 dBm where none is set (R163). -/
def EngineParams.losThreshold (p : EngineParams) : Int :=
  if p.rx.losThr == 0 then -2800 else -10 * (p.rx.losThr.toNat : Int)

/-- DD_OFF: the equaliser stays on pilots alone (R141, R163). -/
def EngineParams.ddOff (p : EngineParams) : Bool := p.rx.flags.getLsbD 0

/-! ## RX_STATUS and RX_MONITOR -/

/-- The 16 bytes of R165. -/
def rxStatusBytes (e : Eng) (x : Engine) : Bytes :=
  [byte e.val, rxCode x.rx.mode, x.rx.lastRelock, x.rx.frozen.setWidth 8] ++ be 4 (BitVec.ofInt 32 x.rx.cdBulk)
    ++ be 4 x.rx.acqCount ++ be 4 x.rx.acqTime

/-- RX_STATUS (R165). -/
def rxStatusBody (r : Request) (s : State) : Answer :=
  engineGuards (badEngine3 r) r s fun e => answer (rxStatusBytes e (s.eng e)) s

/-- RX_STATUS. -/
def execRxStatus (r : Request) (s : State) : Host.Outcome State Fault Refusal :=
  opcode 0x0503 false r s (rxStatusBody r)

/-- A monitor field that VALID marks, otherwise zero (R154). -/
def ifValid {w : Nat} (m : RxMonitor) (k : Nat) (v : BitVec w) : BitVec w := if m.valid.getLsbD k then v else 0

/-- The 56 bytes of R154. -/
def rxMonitorBytes (e : Eng) (x : Engine) : Bytes :=
  let m := x.rx.monitor
  [byte e.val, rxCode x.rx.mode] ++ be 2 m.valid ++ be 2 (ifValid m 0 m.pIn) ++ be 2 (ifValid m 1 m.osnr)
    ++ be 2 (ifValid m 2 m.snrE) ++ be 2 (ifValid m 3 m.q) ++ be 4 (ifValid m 4 m.berPre)
    ++ be 4 (ifValid m 5 m.cdTotal) ++ be 4 (ifValid m 6 m.cdResid) ++ be 2 (ifValid m 7 m.dgd)
    ++ be 2 (ifValid m 8 m.pdl) ++ be 4 (ifValid m 9 m.sopRate) ++ be 4 (ifValid m 10 m.freqOff)
    ++ be 4 (ifValid m 11 m.clkOff) ++ [byte x.rx.taps, byte x.kernel, 0, 0] ++ be 4 m.pilotErr ++ be 6 m.time
    ++ [0, 0]

/-- RX_MONITOR (R154). -/
def rxMonitorBody (r : Request) (s : State) : Answer :=
  engineGuards (badEngine3 r) r s fun e => answer (rxMonitorBytes e (s.eng e)) s

/-- RX_MONITOR. -/
def execRxMonitor (r : Request) (s : State) : Host.Outcome State Fault Refusal :=
  opcode 0x0504 false r s (rxMonitorBody r)

/-! ## RX_REACQUIRE and RX_FREEZE -/

/-- States 0x02 to 0x09 (R149). -/
def acquiring : RxMode → Bool
  | .off | .waitLight => false
  | _ => true

/-- RX_REACQUIRE (R162): from any state from 0x02 the receiver enters FREQ with rx.relock cause 0x05. -/
def rxReacquireBody (r : Request) (s : State) : Answer :=
  engineGuards (badForm r 4 || !zeroAt r.params 2 2 || field r.params 1 1 > 1) r s fun e =>
    let m := (s.eng e).rx.mode
    guards [(m == .off, .notReady)] (.ok .ok []
      (if acquiring m then (s.rxFreq e (field r.params 1 1 == 1)).relock e 5 (rxCode m) else s))

/-- RX_REACQUIRE. -/
def execRxReacquire (r : Request) (s : State) : Host.Outcome State Fault Refusal :=
  opcode 0x0505 false r s (rxReacquireBody r)

/-- RX_FREEZE (R160): only while active OXBOW is 1. -/
def rxFreezeBody (r : Request) (s : State) : Answer :=
  engineGuards (badForm r 4 || !zeroAt r.params 2 2 || field r.params 1 1 > 15) r s fun e =>
    guards [(!(s.eng e).params.active.oxbow, .inconsistent)] (.ok .ok []
      (s.updEng e fun x => { x with rx := { x.rx with frozen := (u8 r.params 1).setWidth 4 } }))

/-- RX_FREEZE. -/
def execRxFreeze (r : Request) (s : State) : Host.Outcome State Fault Refusal :=
  opcode 0x0506 false r s (rxFreezeBody r)

/-! ## Captures (R161) -/

/-- RX_CAPTURE (R161): it starts at the next MFC boundary, and is answered when it is complete.  Where a capture runs and
the receiver is OFF the answer is BUSY: R161 and R162 give no order (log 34). -/
def rxCaptureBody (r : Request) (s : State) : Answer :=
  let point := field r.params 1 1
  let count := field r.params 2 2
  let n := field r.params 0 1
  let x := s.eng (engOf n)
  guards [
    (badForm r 4 || point == 0 || point > 6 || count == 0, .badParam),
    (!s.hasEngine n || count > (capturePoint point).2, .range),
    (!s.holdsEngine r.port n, .notTenant),
    (x.rx.capturing.isSome, .busy),
    (x.rx.mode == .off, .notReady)]
    (.later (s.updEng (engOf n) fun x => { x with rx := { x.rx with
      capture := [],
      capturing := some { request := r, point := byte point, count := count, start := s.moduleTime + 1 } } }))

/-- RX_CAPTURE. -/
def execRxCapture (r : Request) (s : State) : Host.Outcome State Fault Refusal :=
  opcode 0x0507 false r s (rxCaptureBody r)

/-- A capture ends: the last samples run through the chain, the buffer holds the COUNT entries copied since its start, or
the taps, and the request is answered (R161).  Where LINE has become 0x0 meanwhile the stages have stopped: the capture
ends with the entries that it has (log 35). -/
def execRxCaptureDone (e : Eng) (c : CaptureInput) (s : State) : Host.Outcome State Fault Refusal :=
  event s fun s =>
    match (s.eng e).rx.capturing with
    | none => s
    | some j =>
      let s1 := s.receive e c.samples
      let full := if j.point == 6 then tapBytes (maskTaps (s1.eng e).rx.taps (s1.eng e).rx.eq) else (s1.eng e).rx.capture
      if (s.moduleTime - j.start).toNat ≥ 2 ^ 47 || (full.length < j.size && (s.eng e).rxParams.line != 0) then s
      else
        (s1.updEng e fun x => { x with rx := { x.rx with capturing := none, capture := full.take j.size } }).conclude
          0x0507 j.request .ok []

/-- RX_CAPTURE_READ (R161). -/
def rxCaptureReadBody (r : Request) (s : State) : Answer :=
  let off := field r.params 2 4
  let len := field r.params 6 2
  let n := field r.params 0 1
  let buf := (s.eng (engOf n)).rx.capture
  guards [
    (badForm r 8 || !zeroAt r.params 1 1 || len == 0 || len > 4080, .badParam),
    (!s.hasEngine n || off ≥ buf.length, .range),
    (!s.holdsEngine r.port n, .notTenant)]
    (answer (slice buf off len) s)

/-- RX_CAPTURE_READ. -/
def execRxCaptureRead (r : Request) (s : State) : Host.Outcome State Fault Refusal :=
  opcode 0x0508 false r s (rxCaptureReadBody r)

/-! ## Moves of the acquisition state machine (R149) -/

/-- Input power has stayed below LOS_THR for 10 µs; `v` is the highest it has been, in 0.01 dBm. -/
def execLosTimer (v : EngineReading (BitVec 16)) (s : State) : Host.Outcome State Fault Refusal :=
  let e := v.engine
  let m := (s.eng e).rx.mode
  eventIf s (acquiring m && decide (v.value.toInt < (s.eng e).rxParams.losThreshold)) fun s =>
    let s := s.rxWait e
    if m == .track then s.relock e 1 (rxCode m) else s

/-- Input power has stayed above LOS_THR + 1.0 dB for 100 µs; `v` is the lowest it has been, in 0.01 dBm. -/
def execLightTimer (v : EngineReading (BitVec 16)) (s : State) : Host.Outcome State Fault Refusal :=
  let x := s.eng v.engine
  eventIf s (x.rx.mode == .waitLight && decide (v.value.toInt > x.rxParams.losThreshold + 100)) fun s =>
    s.rxFreq v.engine false

/-! ## The dispersion search (R139, R151) -/

/-- A dispersion in ps/nm clipped to a range (R139). -/
def clipCd (range : Nat) (v : Int) : Int := max (-(range : Int)) (min v range)

/-- `n` values `step` apart, the middle one at `mid`, each clipped to the range (R139). -/
def trialsAt (range step n : Nat) (mid : Int) : List Int :=
  (List.range n).map fun (k : Nat) => clipCd range (mid + ((k : Int) - (n / 2 : Nat)) * step)

/-- Values of a coarse pass: five about the last CD_BULK, CD_HINT ± CD_SPAN, or the full range (R139, R151). -/
def coarsePass (p : Profile) (c : RxConfig) (fast : Bool) (bulk : Int) : List Int :=
  if fast then trialsAt p.cdRange p.coarse 5 bulk
  else if c.cdMode == 1 then
    let hint := clipCd p.cdRange c.cdHint.toInt
    let lo := clipCd p.cdRange (hint - c.cdSpan.toNat)
    let hi := clipCd p.cdRange (hint + c.cdSpan.toNat)
    let n := ((hi - lo).toNat + p.coarse - 1) / p.coarse + 1
    trialsAt p.cdRange p.coarse (if n % 2 == 0 then n + 1 else n) ((lo + hi) / 2)
  else trialsAt p.cdRange p.coarse (2 * p.cdRange / p.coarse + 1) 0

/-- The search that begins now: the settings and the profile active at its beginning govern it (R139, R153). -/
def Engine.searchNow (x : Engine) (fast : Bool) : Option CdSearch :=
  x.rxProfile.map fun p =>
    { mode := x.rxParams.rx.cdMode, coarse := coarsePass p x.rxParams.rx fast x.rx.cdBulk, fine := p.fine,
      range := p.cdRange }

/-- CD_HINT clipped to the active profile's range (R139). -/
def Engine.fixedCd (x : Engine) : Int :=
  clipCd (match x.rxProfile with | some p => p.cdRange | none => 0) x.rxParams.rx.cdHint.toInt

/-- The value of a fine trial about a coarse one: the passes' values are numbered from 0 (R139). -/
def CdSearch.value (c : CdSearch) (coarse fine : Nat) : Option Int :=
  if fine < 41 then (c.coarse[coarse]?).map fun v => clipCd c.range (v + ((fine : Int) - 20) * c.fine) else none

/-- CLOCK is entered with a dispersion. -/
def Engine.clock (x : Engine) (cd : Int) : Engine :=
  { x with rx := { x.rx with mode := .clock, cdBulk := cd, fast := false, search := none } }

/-- A search begins, or CLOCK is entered with the value that needs none; under OXB_LOOP the clocks are the engine's own and
CD_BULK is 0 (R139, R149, R151, R159). -/
def Engine.beginSearch (x : Engine) : Engine :=
  if x.rxParams.loop then (x.clock 0).selfLit
  else if x.rxParams.rx.cdMode == 2 then x.clock (if x.rx.fast then x.rx.cdBulk else x.fixedCd)
  else { x with rx := { x.rx with mode := .cd, search := x.searchNow x.rx.fast, fast := false } }

/-- The light that reaches the receiver is the engine's own, unmodulated (R159). -/
def EngineParams.unmodulated (p : EngineParams) : Bool := p.loop && p.patterned && p.oxbPattern == 0

/-- The offset has been estimated, in Hz: on to the search, or past it (R139, R143, R149, R159).  Without modulation no
estimate can be made. -/
def execFreqEstimated (v : EngineReading Int) (s : State) : Host.Outcome State Fault Refusal :=
  let x := s.eng v.engine
  eventIf s (x.rx.mode == .freq && offsetOk v.value && !x.rxParams.unmodulated) fun s =>
    s.updEng v.engine fun x => Engine.beginSearch { x with rx := { x.rx with carrier := v.value } }

/-- A search ends, with the numbers of the coarse and the fine value of the strongest tone, or with none above the floor:
then the search repeats, as CD_MODE now says.  A failed pass is taken to span the coarse and the fine trials, all of them
made, with one event: R139 does not say what a fine pass does without a coarse tone (R139, R151, R153, R159;
log 35). -/
def execCdSearchPassEnd (e : Eng) (best : Option (Nat × Nat)) (s : State) : Host.Outcome State Fault Refusal :=
  eventIf s ((s.eng e).rx.mode == .cd) fun s =>
    match (s.eng e).rx.search with
    | none => s
    | some c =>
      match best with
      | some (i, j) => match c.value i j with
        | some v => s.updEng e fun x => if x.rxParams.loop then (x.clock 0).selfLit else x.clock v
        | none => s
      | none => (s.updEng e Engine.beginSearch).raise 0x0503 (.engine e) ([c.mode, 0] ++ beBytes 4 (c.coarse.length + 41))

/-! ## Timing, carrier and pilots (R136, R144, R145) -/

/-- 16 consecutive blocks of 4,096 output samples had an RMS timing error below 1/32 of a symbol (R136). -/
def timingGood (errors : List Rat) : Bool := errors.all fun v => v < 1 / 32

/-- 16 consecutive blocks had an error above 1/8 of a symbol (R136). -/
def timingBad (errors : List Rat) : Bool := errors.all fun v => v > 1 / 8

/-- Timing lock (R136); `v` are the detector's RMS errors over the last 16 blocks, in symbols. -/
def execTimingLock (v : EngineReading (List Rat)) (s : State) : Host.Outcome State Fault Refusal :=
  eventIf s ((s.eng v.engine).rx.mode == .clock && timingGood v.value) fun s =>
    s.updEng v.engine fun x => { x with rx := { x.rx with mode := .premix } }

/-- Timing lock lost (R136): from TRACK the re-acquisition is fast (R151). -/
def execTimingLockLost (v : EngineReading (List Rat)) (s : State) : Host.Outcome State Fault Refusal :=
  let e := v.engine
  let m := (s.eng e).rx.mode
  eventIf s ((m == .premix || m == .pilot || m == .decode || m == .track) && timingBad v.value) fun s =>
    (s.rxFreq e (m == .track)).relock e 4 (rxCode m)

/-- The constant-modulus stage has converged: pilots next, or HOLD for an Oxbow pattern. -/
def execCmaConverged (e : Eng) (s : State) : Host.Outcome State Fault Refusal :=
  eventIf s ((s.eng e).rx.mode == .premix) fun s =>
    s.updEng e fun x => { x with rx := { x.rx with mode := if x.rxParams.patterned then .hold else .pilot } }

/-- The pilot candidate that the last 4,096 symbols hold, carried on to the next symbol (R144). -/
def RxPipe.found (k : RxPipe) : Option PilotGrid :=
  (pilotSearch (k.recent.map decisions)).map fun g => g.skip (k.recent.length - g.position)

/-- Carrier lock has held for 1,024 pilots, the row's samples included; the quadrant signs of 4,096 symbols hold a candidate
whose pilots satisfy the recurrence, which is kept: DECODE.  The deframer hunts, so dLOF is raised until SYNC (R144, R149,
R236, R237). -/
def execPilotFound (v : EngineReading (List Quad)) (s : State) : Host.Outcome State Fault Refusal :=
  let e := v.engine
  eventIf s ((s.eng e).rx.mode == .pilot) fun s =>
    let s := s.receive e v.value
    match (s.eng e).rx.pipe.found with
    | none => s
    | some g =>
      let s := s.updEng e fun x => { x with
        rx := { x.rx with mode := .decode, grid := some g }, deframer := { x.deframer with mode := .hunt } }
      s.lofRaise e

/-- Carrier lock lost in TRACK: more than 256 of the last 1,024 pilots in error, the row's samples included (R145,
R151). -/
def execCarrierLockLost (v : EngineReading (List Quad)) (s : State) : Host.Outcome State Fault Refusal :=
  eventIf s ((s.eng v.engine).rx.mode == .track) fun s =>
    let s := s.receive v.engine v.value
    if (s.eng v.engine).rx.pipe.flags.countP id > 256 then (s.rxFreq v.engine true).relock v.engine 3 (rxCode .track)
    else s

/-- No progress within 2 ms of entry to CLOCK, PREMIX, PILOT or DECODE. -/
def execRxStateTimeout (e : Eng) (s : State) : Host.Outcome State Fault Refusal :=
  let m := (s.eng e).rx.mode
  eventIf s (m == .clock || m == .premix || m == .pilot || m == .decode) fun s =>
    (s.rxFreq e false).relock e 2 (rxCode m)

/-! ## Tap updates (R141 to R143, R160, R453) -/

/-- The gradient that steers the taps: constant modulus before the pilots are found, then the pilots, with the decisions
unless DD_OFF is set (R141, R148). -/
def steering (m : RxMode) (ddOff : Bool) (u : TapGradients) : List TapSet :=
  match m with
  | .premix | .pilot | .hold => [u.cma]
  | .decode | .track => if ddOff then [u.pilot] else [u.pilot, u.decision]
  | .off | .waitLight | .freq | .cd | .clock => []

/-- The taps after an update: the active ones step unless frozen, removed ones are zero, restored ones enter at zero
(R141, R142, R160). -/
def Engine.nextTaps (x : Engine) (now : Nat) (u : TapGradients) : TapSet :=
  let moved := if x.rx.frozen.getLsbD 0 then x.rx.eq
    else (steering x.rx.mode x.rxParams.ddOff u).foldl (stepTaps x.rxParams.mimoMu) x.rx.eq
  maskTaps (min now x.rx.taps) moved

/-- States in which timing recovery runs: from CLOCK. -/
def fromClock : RxMode → Bool
  | .off | .waitLight | .freq | .cd => false
  | .clock | .premix | .pilot | .decode | .track | .hold => true

/-- ρ after an update: the timing loop moves it from CLOCK on, unless it is frozen or the clocks are the engine's own
(R133, R136, R159, R160). -/
def Engine.nextRho (x : Engine) (u : LoopErrors) : BitVec 48 :=
  if !fromClock x.rx.mode || x.rx.frozen.getLsbD 3 || x.rxParams.loop then x.rx.rho
  else limitRho (x.rx.rho.toNat + Config.timingLoop (trBandwidth x.rxParams.trBw) u.timing x.rx.rho)

/-- The carrier offset after an update: the frequency loop follows it within ±3.5 GHz from its estimate on, unless it is
frozen (R143, R160). -/
def Engine.nextCarrier (x : Engine) (u : LoopErrors) : Int :=
  if !acquiring x.rx.mode || x.rx.mode == .freq || x.rx.frozen.getLsbD 1 then x.rx.carrier
  else max (-3500000000) (min (x.rx.carrier + u.carrier) 3500000000)

/-- floor(log10 n) for n ≥ 1, with fuel. -/
def log10Floor : Nat → Nat → Nat
  | 0, _ => 0
  | fuel + 1, n => if n < 10 then 0 else log10Floor fuel (n / 10) + 1

/-- −10 log10(1 − E_r/E_t) in 0.01 dB, rounded to nearest, exactly: the number of k with
(E_t/(E_t − E_r))^2000 ≥ 10^(2k − 1).  Undefined when all the energy goes. -/
def tapPenaltyOf (total removed : Rat) : Option Nat :=
  if removed ≥ total then none
  else
    let r := total / (total - removed)
    let q := r.num.toNat ^ 2000 / r.den ^ 2000
    some ((log10Floor (q.log2 + 1) q + 1) / 2)

/-- TAP_PENALTY after an update that leaves `now` taps: zero at the committed count, anew at a removal (R453).  Where the
whole energy goes, the formula has no value: it is free. -/
def Engine.nextPenalty (x : Engine) (now : Nat) (free : Nat) : BitVec 16 :=
  if now == x.tapsCommitted then 0
  else if now < x.rx.taps then
    (match tapPenaltyOf (tapEnergy x.rx.eq) (tapEnergy x.rx.eq - tapEnergy (maskTaps now x.rx.eq)) with
      | some v => sat 16 v | none => BitVec.ofNat 16 free)
  else x.tapPenalty

/-- A tap update, once per 64 symbols while LINE is a profile: the samples run through the chain, the active count follows
the committed count and Weir's limit, the taps adapt, and the timing and frequency loops move (R130, R136, R141 to R143,
R160, R453). -/
def execTapUpdate (e : Eng) (g : TapGradients) (u : LoopErrors) (s : State) : Host.Outcome State Fault Refusal :=
  eventIf s ((s.eng e).rxParams.line != 0) fun s =>
    (s.receive e u.samples).skip.updEng e fun x =>
      let now := min x.tapsCommitted x.tapLimit
      { x with
        rx := { x.rx with taps := now, eq := x.nextTaps now g, rho := x.nextRho u, carrier := x.nextCarrier u },
        tapPenalty := x.nextPenalty now s.free }

end Sys2Proof.Machine
end

