-- ==== Sys2Proof/Machine/Intervals.lean ====
section
/-! DEFINITION. The ends of the short interval of 1.024 ms and of the long interval of 65.536 ms: monitors, interval
figures and the events that are raised at most once per interval (R154). -/

namespace Sys2Proof.Machine

/-! ## The receiver's short monitors (R140, R153 to R157) -/

/-- BER_PRE in units of 2^−36, rounded down; none when no coded bit counts (R156). -/
def FecInterval.ber (n : FecInterval) : Option (BitVec 32) :=
  if n.bits = 0 then none else some (sat 32 (n.corrected * 2 ^ 36 / n.bits))

/-- Q in 0.01 dB of a number of errors in a number of bits, from BER_PRE (R156). -/
def berQuality (errors bits : Nat) : Int := quality (errors * 2 ^ 36 / bits) (2 ^ 36)

/-- Q in 0.01 dB, 0x7FFF when no error was counted (R154, R156; log 14). -/
def FecInterval.quality (n : FecInterval) : BitVec 16 :=
  if n.corrected = 0 then 0x7FFF else satInt 16 (berQuality n.corrected n.bits)

/-- VALID bits of the short monitors: P_IN from WAIT_LIGHT, FREQ_OFF from CLOCK (R155), the others in TRACK, where alone R155
gives them an accuracy (log 24). -/
def shortValid (m : RxMode) (counted : Bool) : BitVec 16 :=
  BitVec.ofNat 16 (bit (m != .off) 0 + bit (m == .track) 2 + bit (m == .track && counted) 3
    + bit (m == .track && counted) 4 + bit (m == .track) 9 + bit (fromClock m) 10)

/-- VALID bits of the short monitors, whichever are set. -/
def shortMask : BitVec 16 := 0x061D

/-- The monitors at the end of a short interval; FREQ_OFF is the offset that the frequency loop holds (R143, R154). -/
def RxMonitor.short (o : RxMonitor) (m : RxMode) (n : FecInterval) (v : ShortMeasure) (carrier : Int) (pilots : Nat)
    (now : BitVec 48) : RxMonitor :=
  { o with
    pIn := v.pIn, snrE := v.snrE, q := n.quality, berPre := n.ber.getD 0, sopRate := v.sopRate,
    freqOff := satInt 32 ((carrier + 50000) / 100000), pilotErr := sat 32 pilots, time := now,
    valid := (o.valid &&& ~~~shortMask) ||| shortValid m n.ber.isSome }

/-- CD_BULK moves by one fine step toward a residual of more than half a step, within the profile's range (R140),
unless its tracking is frozen (R160) or the receiver sees its own laser (R159). -/
def Engine.cdTrack (x : Engine) (residual : Int) : Int :=
  match x.rxProfile with
  | none => x.rx.cdBulk
  | some p =>
    if x.rx.mode == .track && !x.rxParams.loop && !x.rx.frozen.getLsbD 2 && residual.natAbs > 5 * p.fine then
      clipCd p.cdRange (x.rx.cdBulk + (if residual > 0 then (p.fine : Int) else -(p.fine : Int)))
    else x.rx.cdBulk

/-- The interval's BER exceeds twice the profile's design limit (R26, R153). -/
def Engine.badSwitch (x : Engine) : Bool :=
  match x.rxProfile with
  | none => false
  | some p => x.rx.mode == .track && x.fec.now.corrected * 40000 > 2 * limit40k p.rows p.window p.iters * x.fec.now.bits

/-- FSTAT (R225). -/
def Engine.fstatNow (x : Engine) : BitVec 64 :=
  let q : BitVec 16 := if x.rx.monitor.valid.getLsbD 3 then x.rx.monitor.q else 0x7FFF
  rxCode x.rx.mode ++ BitVec.ofNat 4 x.fec.iActive ++ BitVec.ofNat 4 x.iLimit ++ q ++ x.marginUsed
    ++ sat 8 x.fec.last.uncorr ++ (0 : BitVec 8)

/-- One engine's figures of the interval that ends; its transmit measurements with them (R127, R154, R214, R225). -/
def Engine.shortEnd (x : Engine) (v : ShortMeasure) (now : BitVec 48) : Engine :=
  let y := { x with
    rx := { x.rx with
      monitor := x.rx.monitor.short x.rx.mode x.fec.now v x.rx.carrier x.rx.pipe.errors now,
      cdBulk := x.cdTrack v.residual, pipe := { x.rx.pipe with errors := 0 },
      frontEnd := x.rx.frontEnd.learn v.frontEnd (x.rx.mode == RxMode.track),
      sopFast := decide (v.sopRate.toNat > 10000), postSwitch := x.rx.postSwitch - 1 }
    tx := { x.tx with pOut := v.pOut, freqErr := v.freqErr, clipped := sat 16 x.tx.clippedNow, clippedNow := 0 }
    fec := { x.fec with last := x.fec.now, now := {} } }
  { y with tx := { y.tx with fstat := y.fstatNow } }

/-- rx.sop.fast, once until an interval at or below 10 Mrad/s (R157, R166). -/
def State.sopEvent (s : State) (e : Eng) (old : Engine) (rate : BitVec 32) : State :=
  if rate.toNat > 10000 && !old.rx.sopFast then s.raise 0x0504 (.engine e) (be 4 rate) else s

/-- The check of the first complete interval after a profile switch: re-acquisition with cause 0x06 (R151, R153). -/
def State.switchCheck (s : State) (e : Eng) (old : Engine) : State :=
  if old.rx.postSwitch == 1 && old.badSwitch then (s.rxFreq e true).relock e 6 (rxCode old.rx.mode) else s

/-- The short interval ends on one engine; an engine for which no measurement is given keeps its figures. -/
def State.shortEngine (s : State) (l : List ShortMeasure) (e : Eng) : State :=
  match l[e.val]? with
  | none => s
  | some v =>
    if s.hasEngine e.val then
      let old := s.eng e
      let now := s.moduleTime
      let s := (s.updEng e fun x => x.shortEnd v now).count .txClipped e.val old.tx.clippedNow
      (s.sopEvent e old v.sopRate).switchCheck e old
    else s

/-! ## Events once per short interval -/

/-- twin.switch with the interval's changes of selection; FNR is that of the selected member, the lower one when none
is selected (R242, R253). -/
def State.twinSwitch (s : State) (e : Eng) : State :=
  let t := (s.eng e).twin
  if t.changes = 0 then s
  else
    let of_ : Eng := if t.selected = 2 then Fin.ofNat 4 (e.val + 1) else e
    let s := s.updEng e fun x => { x with twin := { x.twin with changes := 0 } }
    s.raise 0x0810 (.engine e) ([byte t.selected.val, byte (min 255 t.changes)] ++ be 4 (s.eng of_).deframer.fnr)

/-- time.decim.reset with the interval's resets (R415, R425). -/
def State.decimEvent (s : State) : State :=
  let n := s.time.decResets
  if n = 0 then s
  else ({ s with time := { s.time with decResets := 0 } }).raise 0x0E08 .module
    ([s.time.config.active.decSync, 0] ++ be 2 (sat 16 n))

/-- A bank's figures of the interval that ends (R350). -/
def Bank.shortEnd (b : Bank) : Bank :=
  { b with peak := b.peakNow, peakNow := b.occupancy, stalls := b.stallsNow, stallsNow := 0, retries := b.retriesNow,
           retriesNow := 0 }

/-- Engines, lanes, ports and banks at the end of a short interval (R281, R296, R319, R350). -/
def State.shortClients (s : State) : State :=
  let f := s.flows
  { s with
    engines := s.engines.map fun (x : Engine) => { x with throttled := false }
    lanes := s.lanes.map fun (l : Lane) => { l with prbsLast := sat 32 l.prbsNow, prbsNow := 0, owed := false }
    cports := s.cports.map fun (c : Cport) => { c with sealedNow := false }
    flows := { f with
      suspended := [], ingress := { f.ingress with bank := f.ingress.bank.shortEnd },
      egress := { f.egress with bank := f.egress.bank.shortEnd } } }

/-- RS-FEC codewords corrected and uncorrectable in the interval, of an Ethernet port's receiver (R282, R283). -/
def State.rsFec (s : State) (ports : List (Nat × Nat)) (c : Cp) : State :=
  match ports[c.val]? with
  | none => s
  | some v =>
    if !(s.form c).ethernet then s
    else
      let s := s.updCport c fun p => { p with fecCorr := sat 32 v.1, fecUncorr := sat 32 v.2 }
      (s.count .clientRsfecCorrected c.val v.1).count .clientRsfecUncorrectable c.val v.2

/-- SHORT_INTERVAL_END. -/
def execShortIntervalEnd (m : ShortReport) (s : State) : Host.Outcome State Fault Refusal :=
  event s fun s =>
    let s := (List.finRange 4).foldl (fun s e => s.shortEngine m.engines e) s
    let s := (List.finRange 64).foldl (fun s l => s.prbsErrors l (m.lanes.getD l.val 0)) s
    let s := (List.finRange 64).foldl (fun s c => s.rsFec m.ports c) s
    ((s.twinSwitch 0).twinSwitch 2).decimEvent.shortClients

/-! ## The long interval -/

/-- VALID bits of the long monitors: CLK_OFF from CLOCK, the others in TRACK (R155, log 24). -/
def longValid (m : RxMode) : BitVec 16 :=
  if m == .track then 0x09E2 else if fromClock m then 0x0800 else 0

/-- CLK_OFF in 0.001 ppm, from ρ (R133, R154); rounded to nearest (log 24). -/
def clockOffset (rho : BitVec 48) : BitVec 32 :=
  satInt 32 ((((rho.toNat : Int) - 2 ^ 40) * 1000000000 + 2 ^ 39) / 2 ^ 40)

/-- The monitors at the end of a long interval; CD_TOTAL is CD_BULK plus the residual, to the nearest ps/nm (R154,
log 24). -/
def RxMonitor.long (o : RxMonitor) (m : RxMode) (bulk : Int) (rho : BitVec 48) (v : LongMeasure) :
    RxMonitor :=
  { o with
    osnr := v.osnr, cdTotal := satInt 32 (bulk + (v.cdResid.toInt + 5) / 10), cdResid := v.cdResid, dgd := v.dgd,
    pdl := v.pdl, clkOff := clockOffset rho, valid := (o.valid &&& shortMask) ||| longValid m }

/-- The margin left on an engine in 0.01 dB; none when no error was counted, for then Q has no figure (R154, R453;
log 14). -/
def Engine.marginLeft (x : Engine) : Option Int :=
  match x.rxParams.limit x.fec.iActive with
  | none => none
  | some l =>
    if x.rx.mode == .track && x.fec.longErrors ≠ 0 then
      some (berQuality x.fec.longErrors x.fec.longBits - quality l 40000)
    else none

/-- weir.margin.low (R453, R463). -/
def State.marginEvent (s : State) (e : Eng) : State :=
  match (s.eng e).marginLeft with
  | none => s
  | some m =>
    if s.weir.inForce.marginMin != 0 && decide (m < s.weir.inForce.marginMin.toNat) then
      s.raise 0x1002 (.engine e) (be 2 (satInt 16 m) ++ be 2 (s.eng e).totalUsed)
    else s

/-- The measurements of one engine over the long interval. -/
def State.longEngine (s : State) (l : List LongMeasure) (e : Eng) : State :=
  match l[e.val]? with
  | none => s
  | some v =>
    if s.hasEngine e.val then
      (s.updEng e fun x => { x with
        rx := { x.rx with monitor := x.rx.monitor.long x.rx.mode x.rx.cdBulk x.rx.rho v } }).marginEvent e
    else s

/-- fec.uncorrectable and sc.slip of one engine (R215, R244, R253). -/
def State.longReports (s : State) (e : Eng) : State :=
  let x := s.eng e
  let s := s.updEng e fun x => { x with
    fec := { x.fec with longUncorr := 0, longErrors := 0, longBits := 0 }, sc := { x.sc with longSlips := 0 } }
  let s := if x.fec.longUncorr = 0 then s else s.raise 0x0702 (.engine e) (be 4 (sat 32 x.fec.longUncorr))
  if x.sc.longSlips = 0 then s else s.raise 0x0815 (.engine e) (be 2 (sat 16 x.sc.longSlips))

/-- millrace.stall of one direction (R352); "at most once" is read as once for each direction that DATA can name
(DEDUCED, log 24). -/
def State.stallEvent (s : State) (dir : Byte) (n : Nat) : State :=
  if n = 0 then s else s.raise 0x0B07 .module ([dir, 0] ++ be 4 (sat 32 n))

/-- The banks' stalls of the long interval. -/
def State.longBanks (s : State) : State :=
  let f := s.flows
  let s := { s with flows := { f with
    ingress := { f.ingress with bank := { f.ingress.bank with stallsLong := 0 } },
    egress := { f.egress with bank := { f.egress.bank with stallsLong := 0 } } } }
  (s.stallEvent 0 f.ingress.bank.stallsLong).stallEvent 1 f.egress.bank.stallsLong

/-- A channel's figures of the long interval (R373, R374). -/
def Channel.longEnd (c : Channel) : Channel :=
  { c with peak := c.peakNow, peakNow := c.merge.length, corr := c.corrNow, corrNow := 0, corrRaised := false }

/-- time.tc.unmeasured of each port, and the pulses' event marks (R410, R425). -/
def State.longTime (s : State) : State :=
  let l := s.time.unmeasured
  let s := { s with time := { s.time with
    unmeasured := [], tpo := s.time.tpo.map fun (t : Tpo) => { t with raised := false } } }
  l.foldl (fun s x => s.raise 0x0E09 (s.cportPlace (Fin.ofNat 64 x.1)) (be 4 (sat 32 x.2))) s

/-- gauge.overrun (R434, R447). -/
def State.longGauge (s : State) : State :=
  let n := s.gauge.lostLong
  if n = 0 then s
  else ({ s with gauge := { s.gauge with lostLong := 0 } }).raise 0x0F04 .module (be 4 (sat 32 n))

/-- ctr.wrap (R501). -/
def State.longCounters (s : State) : State :=
  match s.collector.wrapped with
  | none => s
  | some c => ({ s with collector := { s.collector with wrapped := none } }).raise 0x1202 .module
      (be 2 (s.kindNumber c.1) ++ beBytes 4 c.2)

/-- LONG_INTERVAL_END. -/
def execLongIntervalEnd (engines : List LongMeasure) (s : State) : Host.Outcome State Fault Refusal :=
  event s fun s =>
    let s := (List.finRange 4).foldl (fun s e => (s.longEngine engines e).longReports e) s
    let s := { s with mem := { s.mem with channels := s.mem.channels.map Channel.longEnd } }
    s.longSheds.longBanks.longTime.longGauge.longCounters

end Sys2Proof.Machine
end

