-- ==== Sys2Proof/Machine/Reset.lean ====
section
/-! DEFINITION. Power, the reset kinds and ready, group 0x13, the non-volatile store and boundary scan
(spec/20_bring_up_reset.md, spec/21_connector_pins.md). -/

namespace Sys2Proof.Machine

/-! ## What a reset leaves (R506, R507) -/

/-- The non-volatile store after a cut: of a running write, some of its first pages are programmed (R511); how many is
free. -/
def NvState.cut (n : NvState) (free : Nat) : NvState :=
  match n.job with
  | none => n
  | some j => { n with
      job := none,
      integrator := writeRun 0 n.integrator j.offset (j.data.take (64 * (free % (j.data.length / 64 + 1)))) }

/-- The fuses after a reset that cuts OWNER_PROVISION short: some first ones of the ten rows are burnt, the record last; how
many is free (R335, R517). -/
def State.cutFuses (s : State) : NvState :=
  let n := s.nv.cut (Config.freeValue (s.fresh + 1))
  if s.keys.owner == .provisioning then n.burnOwner ((ownerRows s.keys.ownerKey).take (s.free % 11)) else n

/-- The key store after a reset: everything is zeroised but the owner key, which stands in the fuses (R343, R517). -/
def keysFrom (fuses : List FuseRow) : KeyState := { owner := (ownerOf fuses).1, ownerKey := (ownerOf fuses).2 }

/-- Headwater on entry to a pin or command reset: a steered state becomes HOLDOVER (R506). -/
def State.hwWarm (s : State) : State :=
  match s.hw.mode with
  | .acquiring | .locked | .buildOut => s.toHoldover s.hw.selected 3
  | .freerun | .holdover => s

/-- Headwater after a pin or command reset: reset values of its configuration; the holdover, its timer, the slew and
the oven go on (R506, R549). -/
def HwState.warm (h : HwState) : HwState :=
  { mode := h.mode, lostBy := h.lostBy, toSecond := h.toSecond, stepNext := h.stepNext, slew := h.slew, freqs := h.freqs,
    followers := h.followers, hoTime := h.hoTime, hoPhase := h.hoPhase,
    hoFull := h.hoFull, hoFreq := h.hoFreq, hoBound := h.hoBound, outOfSpec := h.outOfSpec,
    ovenStable := h.ovenStable, ovenDays := h.ovenDays, ovenSince := h.ovenSince }

/-- Headwater after a power-on kind: FREERUN; the oven goes on (R504, R507). -/
def HwState.cold (h : HwState) : HwState :=
  { ovenStable := h.ovenStable, ovenDays := h.ovenDays, ovenSince := h.ovenSince }

/-- The counts that the referee keeps across a pin or command reset (R479). -/
def SupState.warm (p : SupState) : SupState :=
  { takeovers := p.takeovers, lastTakeover := p.lastTakeover, lastDuration := p.lastDuration, failures := p.failures }

/-- Supplies, pins and the trip latch as they stand, with the rest of the power state at its reset values; `warm` for a
pin or command reset (R505, R507, R514). -/
def PowerState.after (p : PowerState) (phase : PowerPhase) (cause : Byte) (warm : Bool) : PowerState :=
  { phase := phase, p12v := p.p12v, aux := p.aux, vio := p.vio, resetLow := p.resetLow, cause := cause,
    auxLost := p.auxLost, tripOff := p.tripOff, tripLatch := p.tripLatch,
    resets := if warm then bump p.resets else 0, tripRecorded := warm && p.tripRecorded }

/-- The test access port in Test-Logic-Reset; the cells hold what they held (R531). -/
def JtagState.idle (j : JtagState) : JtagState :=
  { j with instr := .testLogicReset, driving := false, floating := false }

/-- Every table row that all reset kinds share (R507): reset values, but what outlasts a reset. -/
def State.blank (s : State) : State :=
  { State.reset with
    pending := s.pending
    fresh := s.fresh + 2
    ident := s.ident
    keys := keysFrom s.cutFuses.fuses
    nv := s.cutFuses
    records := []
    jtag := s.jtag.idle }

/-- A pin or command reset begins: module time, the flight recorder, the referee's counts and Headwater go on
(R505 to R507). -/
def State.warmReset (s : State) (cause : Byte) : State :=
  let s := s.hwWarm
  { s.blank with
    power := s.power.after .starting cause true
    moduleTime := s.moduleTime
    hw := s.hw.warm
    sup := s.sup.warm
    collector := { flight := s.collector.flight } }

/-- A reset of a power-on kind begins, or the rails go off: module time is 0 (R505, R507). -/
def State.coldReset (s : State) (phase : PowerPhase) (cause : Byte) : State :=
  { s.blank with power := s.power.after phase cause false, hw := s.hw.cold }

/-- The rails generated from P12V go off, and with them everything but the auxiliary domain and the non-volatile
stores; the oven's days so far are fixed, because module time ends (R343, R388, R503). -/
def State.powerDown (s : State) : State :=
  let days := s.ocxoDays
  let s := s.coldReset .unpowered s.power.cause
  { s with hw := { s.hw with ovenDays := days, ovenSince := 0 } }

/-- The rails go off if they are on. -/
def State.railsOff (s : State) : State := if s.railsOn then s.powerDown else s

/-! ## Supplies and the trip latch (R456, R502 to R504) -/

/-- The oven has run for a number of days, free, while module time stood still (R388, log 13). -/
def State.ovenWaited (s : State) : State :=
  { s with fresh := s.fresh + 1, hw := { s.hw with ovenDays := s.hw.ovenDays + s.free } }

/-- A reset of a power-on kind begins from the unpowered module. -/
def State.powerUp (s : State) (cause : Byte) : State := s.ovenWaited.coldReset .starting cause

/-- Both supplies meet R502: CAUSE 0x05 where P3V3_AUX had been lost, 0x01 otherwise (R502, R505). -/
def State.powerOn (s : State) : State :=
  let cause : Byte := if s.power.auxLost then 5 else 1
  ({ s with power := { s.power with p12v := true, aux := true, auxLost := false } }).powerUp cause

/-- POWER_ON_TRIGGER: not while the trip is latched, whose release starts the reset (R456, R502). -/
def execPowerOnTrigger (s : State) : Host.Outcome State Fault Refusal :=
  .next (if !s.railsOn && !s.power.tripLatch then s.powerOn else s)

/-- P12V is lost: the rails go off and the trip latch is released (R456, R503). -/
def State.losesP12v (s : State) : State :=
  let s := s.railsOff
  { s with power := { s.power with p12v := false, tripLatch := false } }

/-- P3V3_AUX is lost: the rails go off and the oven stops.  Whether the trip latch and its record outlast the loss of
the supply that holds them is free (R503, R456, log 16). -/
def State.losesAux (s : State) : State :=
  let on := s.railsOn
  let s := s.railsOff.skip
  let keeps := s.free % 2 == 0
  { s with
    power := { s.power with
      aux := false, auxLost := s.power.auxLost || on, tripLatch := s.power.tripLatch && keeps,
      tripOff := s.power.tripOff && keeps }
    hw := { s.hw with ovenStable := false, ovenDays := 0, ovenSince := 0 } }

/-- SUPPLY_LOSS of P3V3_AUX or of P12V. -/
def execSupplyLoss (aux : Bool) (s : State) : Host.Outcome State Fault Refusal :=
  .next (if aux then (if s.power.aux then s.losesAux else s) else if s.power.p12v then s.losesP12v else s)

/-- P3V3_AUX comes within range: the oven starts, and the days count from now (R21, R388, R504). -/
def execP3v3AuxApplied (s : State) : Host.Outcome State Fault Refusal :=
  .next (if s.power.aux then s
    else { s with
      power := { s.power with aux := true }
      hw := { s.hw with ovenStable := false, ovenDays := 0, ovenSince := s.moduleTime } })

/-- HARDWIRED_TRIP: the comparator quenches every laser, switches the rails off and latches the trip; it runs while
P3V3_AUX is present (R21, R456). -/
def execHardwiredTrip (s : State) : Host.Outcome State Fault Refusal :=
  .next (if s.power.aux then
      let s := s.railsOff
      { s with power := { s.power with tripLatch := true, tripOff := true } }
    else s)

/-- TRIP_LATCH_RELEASE: by RESET_N asserted or P12V removed, the sensors' readings being the environment's; with both
supplies present a power-on reset after trip begins (R456, R505). -/
def execTripLatchRelease (s : State) : Host.Outcome State Fault Refusal :=
  .next (if s.power.tripLatch && (s.power.resetLow || !s.power.p12v) then
      let s := { s with power := { s.power with tripLatch := false } }
      if s.power.p12v && s.power.aux && !s.railsOn then s.powerUp 4 else s
    else s)

/-- VIO_LOSS (R504). -/
def execVioLoss (s : State) : Host.Outcome State Fault Refusal :=
  .next { s with power := { s.power with vio := false } }

/-- VIO_RESTORED (R504). -/
def execVioRestored (s : State) : Host.Outcome State Fault Refusal :=
  .next { s with power := { s.power with vio := true } }

/-! ## RESET_N (R505) -/

/-- RESET_N_ASSERT: while RESET_N is low nothing acts and every laser is dark (R505, R526). -/
def execResetNAssert (s : State) : Host.Outcome State Fault Refusal :=
  .next { s with power := { s.power with resetLow := true } }

/-- A pulse makes a reset: from 10 µs always, from 1 µs to 10 µs freely, below 1 µs never (R505, log 16). -/
def State.pulseResets (s : State) (ns : Nat) : Bool :=
  s.railsOn && (ns ≥ 10000 || (ns ≥ 1000 && s.free % 2 == 0))

/-- A reset of a power-on kind is in progress: RESET_N only extends it (R505). -/
def State.poweringOn (s : State) : Bool :=
  s.power.phase == .starting && s.power.cause != 2 && s.power.cause != 3

/-- RESET_N_DEASSERT after a pulse of `lowNs`: the pin reset's timeline starts (R505, R517); EXTEST, CLAMP and HIGHZ
end with the low level (R531). -/
def execResetNDeassert (lowNs : Nat) (s : State) : Host.Outcome State Fault Refusal :=
  .next (if s.power.resetLow then
      let resets := s.pulseResets lowNs
      let s := { s with
        fresh := s.fresh + 1
        power := { s.power with resetLow := false }
        jtag := { s.jtag with driving := false, floating := false } }
      if resets && !s.poweringOn then s.warmReset 2 else s
    else s)

/-- A laser gives light: never while the module is unpowered, held in reset or in a reset (R505, R527). -/
def State.laserOn (s : State) (e : Eng) : Bool := s.ready && !laserDark (s.eng e).tx

/-! ## MODULE_RESET and RESET_INFO (R513, R514) -/

/-- MODULE_RESET (R513). -/
def moduleResetBody (r : Request) (s : State) : Answer :=
  guards [
    (notPrincipal r, .notPrincipal),
    (badForm r 4 || field r.params 0 2 != 0x5253 || !zeroAt r.params 2 2, .badParam)]
    (.ok .ok [] { s with power := { s.power with resetDue := true } })

/-- MODULE_RESET. -/
def execModuleReset (r : Request) (s : State) : Host.Outcome State Fault Refusal :=
  opcode 0x1301 true r s (moduleResetBody r)

/-- MODULE_RESET_BEGIN: the command reset begins once its MODULE_RESET has been answered and that reply read, or 10 ms
later; deferred operations end without cmd.done (R513). -/
def execModuleResetBegin (s : State) : Host.Outcome State Fault Refusal :=
  eventIf s s.power.resetDue fun s => s.warmReset 3

/-- FLAGS of R514. -/
def PowerState.resetFlags (p : PowerState) : Byte := byte (bit p.tripRecorded 0 + bit p.ovenCold 1)

/-- RESET_INFO (R514). -/
def resetInfoBody (r : Request) (s : State) : Answer :=
  let p := s.power
  guards [(badForm r 0, .badParam)]
    (answer ([p.cause, p.resetFlags] ++ be 2 p.resets ++ be 4 p.readyTime ++ be 6 s.moduleTime ++ zeros 2) s)

/-- RESET_INFO. -/
def execResetInfo (r : Request) (s : State) : Host.Outcome State Fault Refusal :=
  opcode 0x1302 true r s (resetInfoBody r)

/-! ## The non-volatile store (R511, R515) -/

/-- Bytes of the factory region (R515; `false`) or of the integrator region (R511). -/
def regionSize (integrator : Bool) : Nat := if integrator then 65536 else 262144

/-- The running write touches a range of the integrator region. -/
def NvState.overlaps (n : NvState) (offset len : Nat) : Bool :=
  match n.job with
  | none => false
  | some j => offset < j.offset + j.data.length && j.offset < offset + len

/-- Bytes of a region (R515). -/
def NvState.bytes (n : NvState) (integrator : Bool) (offset len : Nat) : Bytes :=
  readRun 0 (if integrator then n.integrator else n.factory) offset len

/-- NV_READ (R515); a LENGTH above 4,080 is BAD-PARAM like 0 (log 22). -/
def nvReadBody (r : Request) (s : State) : Answer :=
  let region := field r.params 0 1
  let offset := field r.params 4 4
  let len := field r.params 8 2
  guards [
    (badForm r 12 || region > 1 || !zeroAt r.params 1 3 || !zeroAt r.params 10 2 || len == 0 || len > 4080, .badParam),
    (offset + len > regionSize (region == 1), .range),
    (region == 1 && s.nv.overlaps offset len, .busy)]
    (answer (s.nv.bytes (region == 1) offset len) s)

/-- NV_READ. -/
def execNvRead (r : Request) (s : State) : Host.Outcome State Fault Refusal := opcode 0x1303 false r s (nvReadBody r)

/-- The header of an NV_WRITE is ill-formed, or its data are not LENGTH bytes (R515). -/
def badNvWrite (p : Bytes) : Bool :=
  let len := field p 8 2
  p.length < 12 || p.length != 12 + len || field p 0 1 != 1 || !zeroAt p 1 3 || !zeroAt p 10 2
    || len < 64 || len > 4032 || len % 64 != 0 || field p 4 4 % 64 != 0

/-- NV_WRITE (R515). -/
def nvWriteBody (r : Request) (s : State) : Answer :=
  let offset := field r.params 4 4
  guards [
    (notPrincipal r, .notPrincipal),
    (r.flag0 || badNvWrite r.params, .badParam),
    (offset + field r.params 8 2 > regionSize true, .range),
    (s.nv.job.isSome, .busy)]
    (.ok .okDeferred [] { s with nv := { s.nv with
      job := some { offset := offset, data := r.params.drop 12, issuer := issuerOf 0x1304 r } } })

/-- NV_WRITE. -/
def execNvWrite (r : Request) (s : State) : Host.Outcome State Fault Refusal := opcode 0x1304 false r s (nvWriteBody r)

/-- The last page is programmed, and cmd.done follows (R511, R515). -/
def State.nvDone (s : State) (j : NvJob) : State :=
  ({ s with nv := { s.nv with job := none, integrator := writeRun 0 s.nv.integrator j.offset j.data } }).cmdDone
    j.issuer .ok

/-- NV_WRITE_DONE. -/
def execNvWriteDone (s : State) : Host.Outcome State Fault Refusal :=
  event s fun s => match s.nv.job with | some j => s.nvDone j | none => s

/-! ## Ready (R508, R509) -/

/-- The level whose window holds an averaged code (R440). -/
def strapWindow (c : BitVec 12) : Option (BitVec 3) :=
  let l := c.toNat / 512
  if 128 ≤ c.toNat % 512 && c.toNat % 512 ≤ 384 then some (BitVec.ofNat 3 l) else none

/-- Level of a strap from its readings, nine at most, and the code of its fault if none falls in a window (R440). -/
def strapLevel (readings : List (BitVec 12)) (none_ : BitVec 12) : BitVec 3 × Option (BitVec 12) :=
  let l := readings.take 9
  match l.findSome? strapWindow with
  | some v => (v, none)
  | none => let c := l.getLastD none_; (BitVec.ofNat 3 (c.toNat / 512), some c)

/-- gauge.strap.fault (R447). -/
def State.strapFault (s : State) (strap : Byte) (code : Option (BitVec 12)) : State :=
  match code with
  | none => s
  | some c => s.raise 0x0F05 .module ([strap, 0] ++ beBytes 2 c.toNat)

/-- The straps are read; a strap for which the report gives no reading takes a free code (R440, R510). -/
def State.readStraps (s : State) (rep : ReadyReport) : State :=
  let a := strapLevel rep.strap0 (BitVec.ofNat 12 s.free)
  let b := strapLevel rep.strap1 (BitVec.ofNat 12 (Config.freeValue (s.fresh + 1)))
  let s := { s with fresh := s.fresh + 2, power := { s.power with strap0 := a.1, strap1 := b.1 } }
  (s.strapFault 0 a.2).strapFault 1 b.2

/-- A slice or phase whose fuse row failed: its trims are zero (R180). -/
def Slice.noFuse (x : Slice) : Slice := { x with offset := 0, gain := 0, skew := 0, fuseFailed := true }

/-- Both tables of an ADC with one slice's fuse row failed. -/
def Adc.noFuse (a : Adc) (i : Fin 256) : Adc :=
  { a with active := a.active.set i a.active[i].noFuse, shadow := a.shadow.set i a.shadow[i].noFuse }

/-- Both tables of a DAC with one phase's fuse row failed. -/
def Dac.noFuse (d : Dac) (i : Fin 4) : Dac :=
  { d with active := d.active.set i d.active[i].noFuse, shadow := d.shadow.set i d.shadow[i].noFuse }

/-- The effect of a failed slice or phase row on an engine's converters; a row of a DAC phase above 3 does not exist. -/
def CalState.noFuse (c : CalState) (conv : Fin 8) (i : Fin 256) : CalState :=
  let k : Fin 4 := Fin.ofNat 4 conv.val
  if conv.val < 4 then { c with adc := c.adc.set k (c.adc[k].noFuse i) }
  else if i.val < 4 then { c with dac := c.dac.set k (c.dac[k].noFuse (Fin.ofNat 4 i.val)) }
  else c

/-- The phase that DAC steps measure first: the lowest with a failed row, else the first (R180). -/
def CalState.firstPhase (c : CalState) : Fin 16 :=
  match (List.finRange 16).find? fun i =>
    ((c.dac.toList.getD (i.val / 4) {}).active.toList.getD (i.val % 4) {}).fuseFailed with
  | some i => i
  | none => 0

/-- The effect of one failed fuse row (R180, R450); the owner's rows are judged together (R334). -/
def State.fuseEffect (s : State) (f : FuseRow) : State :=
  let e : Eng := Fin.ofNat 4 (f.die.toNat - 1)
  let tile := 1 ≤ f.die.toNat && f.die.toNat ≤ 4
  match f.content with
  | .slice conv i =>
    if tile then s.updEng e fun x => { x with cal := x.cal.noFuse conv i } else s
  | .tileBandgap => if tile then s.updEng e fun x => { x with cal := { x.cal with fuseInvalid := true } } else s
  | .hubBandgap =>
    { s with engines := s.engines.map fun (x : Engine) => { x with cal := { x.cal with fuseInvalid := true } } }
  | .sensor n =>
    let x : Sensor := { s.weir.sensors[n] with fuse := true, fuseDue := true, mode := .failed }
    { s with weir := { s.weir with sensors := s.weir.sensors.set n x } }
  | .owner _ => s

/-- Place of an event that names an engine by number, module-wide where there is no such engine (R190). -/
def enginePlace (n : Nat) : Place := if h : n < 4 then .engine ⟨n, h⟩ else .module

/-- Initial trims of a slice or phase from its row's data bits: offset, gain and skew from the lowest bit up (log 2). -/
def Slice.load (x : Slice) (w : BitVec 32) : Slice :=
  { x with offset := w.extractLsb' 0 8, gain := w.extractLsb' 8 8, skew := w.extractLsb' 16 10 }

/-- The initial trims of a slice or phase row reach both tables (R169, R180). -/
def CalState.load (c : CalState) (conv : Fin 8) (i : Fin 256) (w : BitVec 32) : CalState :=
  let k : Fin 4 := Fin.ofNat 4 conv.val
  if conv.val < 4 then
    let a := c.adc[k]
    let a := { a with active := a.active.set i (a.active[i].load w), shadow := a.shadow.set i (a.shadow[i].load w) }
    { c with adc := c.adc.set k a }
  else if i.val < 4 then
    let a := c.dac[k]
    let j : Fin 4 := Fin.ofNat 4 i.val
    let a := { a with active := a.active.set j (a.active[j].load w), shadow := a.shadow.set j (a.shadow[j].load w) }
    { c with dac := c.dac.set k a }
  else c

/-- One failed fuse row: its effect and cal.fuse.fault (R180, R190). -/
def State.fuseFault (s : State) (f : FuseRow) : State :=
  (s.fuseEffect f).raise 0x0608 (if f.die = 0 then .module else enginePlace (f.die.toNat - 1))
    ([f.die, 0] ++ be 2 f.row ++ zeros 2)

/-- One fuse row is read: a failed one by its content, a good one for its initial trims; the other contents have no
register in the module.  A tile that the variant lacks has no rows (R180). -/
def State.readFuse (s : State) (f : FuseRow) : State :=
  if f.die != 0 && !s.hasEngine (f.die.toNat - 1) then s
  else if !fuseHolds f then s.fuseFault f
  else match f.content with
    | .slice conv i =>
      if f.die == 0 then s
      else s.updEng (Fin.ofNat 4 (f.die.toNat - 1)) fun x => { x with cal := x.cal.load conv i f.word }
    | .tileBandgap | .hubBandgap | .sensor _ | .owner _ => s

/-- Two rows are the same row of a die: by their number, or by their place in the owner key. -/
def sameFuse (f g : FuseRow) : Bool := (f.die == g.die && f.row == g.row) || (isOwnerFuse f && f.content == g.content)

/-- The state of the owner key and the key are read from the fuses (R334). -/
def State.readOwner (s : State) : State :=
  { s with keys := { s.keys with owner := (ownerOf s.nv.fuses).1, ownerKey := (ownerOf s.nv.fuses).2 } }

/-- The fuses are read, with the rows that no longer read as they did; a row that reads 0 holds trims of zero (R180). -/
def State.readFuses (s : State) (rep : ReadyReport) : State :=
  let rows := (s.nv.fuses.filter fun f => rep.fuses.all fun g => !sameFuse f g) ++ rep.fuses
  let s := { s with nv := { s.nv with fuses := rows } }
  let s := rows.foldl State.readFuse s
  { s with engines := s.engines.map fun (x : Engine) => { x with cal := { x.cal with dacPhase := x.cal.firstPhase } } }

/-! ## Factory records (R181 to R183) -/

/-- The record is one that every module must hold; any other is ignored (R182). -/
def State.knownRecord (s : State) (f : FactoryRecord) : Bool :=
  (requiredRecords s.engineCount).any fun r => r.type == f.type && r.engine == f.engine

/-- The factory record at an offset, and the offset after it; none at the end of the list.  STATUS is 3 where the length
runs past the end, which ends the walk too, or where a reserved byte is set under a right CHECK (R181, R183, R189;
log 2). -/
def recordAt (cells : List Host.Cell) (o : Nat) : Option (FactoryRecord × Option Nat) :=
  let h := readRun 0 cells o 16
  let len := field h 4 4
  let body := 16 + (len + 3) / 4 * 4
  let f := fun (status : Byte) => ({ type := u16 h 0, engine := u8 h 2, status := status, version := u16 h 8,
                                     length := BitVec.ofNat 32 len } : FactoryRecord)
  if o + 2 > regionSize false || u16 h 0 == 0 then none
  else if o + body + 4 > regionSize false then some (f 3, none)
  else
    let right := be 4 (crc32 (readRun 0 cells o body)) == readRun 0 cells (o + body) 4
    some (f (if !right then 1 else if !zeroAt h 3 1 || !zeroAt h 10 6 then 3 else 0), some (o + body + 4))

/-- The records of the factory region from an offset on, back to back; each takes 20 bytes at least (R181). -/
def walkRecords (cells : List Host.Cell) : Nat → Nat → List FactoryRecord
  | 0, _ => []
  | fuel + 1, o =>
    match recordAt cells o with
    | none => []
    | some (f, none) => [f]
    | some (f, some next) => f :: walkRecords cells fuel next

/-- Every record found, and every required one that is missing (R183, R189). -/
def findRecords (cells : List Host.Cell) (engines : Nat) : List FactoryRecord :=
  let found := walkRecords cells (regionSize false / 20 + 1) 0
  found ++ ((requiredRecords engines).filter fun r => !found.any fun f => f.type == r.type && f.engine == r.engine).map
    fun r => { r with status := 2, version := 0, length := 0 }

/-- cal.record.invalid (R183, R190). -/
def State.recordFault (s : State) (f : FactoryRecord) : State :=
  if f.status != 0 && s.knownRecord f then
    s.raise 0x0607 (enginePlace f.engine.toNat) (be 2 f.type ++ [f.engine, f.status] ++ zeros 2)
  else s

/-- The factory region is read and checked once, with the bytes that no longer read as they did (R183). -/
def State.readRecords (s : State) (rep : ReadyReport) : State :=
  let cells := rep.factory.foldl (fun l b => if b.1 < regionSize false then writeAt 0 l b.1 b.2 else l) s.nv.factory
  let l := findRecords cells s.engineCount
  l.foldl State.recordFault { s with nv := { s.nv with factory := cells }, records := l }

/-- Both monitor converters are calibrated before ready: their corrections are measured, so they are free (R437, R441,
log 13). -/
def State.calibrateGauge (s : State) : State :=
  let v := fun (i : Nat) => ((Config.freeValue (s.fresh + i) % 32761 : Nat) : Int)
  { s with fresh := s.fresh + 7, gauge := { s.gauge with
    offsets := [v 0, v 1, v 2, v 3], gain := v 4, gaOffset := v 5, gaGain := v 6 } }

/-- weir.trip.recorded, where the trip was latched since the last ready (R456, R509). -/
def State.recordTrip (s : State) : State :=
  if s.power.tripOff then
    ({ s with power := { s.power with tripOff := false, tripRecorded := true } }).raise 0x1008 .module []
  else s

/-- A mem.sweep.done raised before ready carries the TIME of ready (R509). -/
def Port.retime (p : Port) (now : BitVec 48) : Port :=
  { p with events := (p.events.filter fun x => x.code != 0x0C03)
      ++ (p.events.filter fun x => x.code == 0x0C03).map fun x => { x with time := now } }

/-- The ports come up: SESSION_START is the module time at ready (R46, R507, R509). -/
def State.openPorts (s : State) : State :=
  let start := s.moduleTime
  { s with ports := s.ports.map fun (p : Port) => { p.retime start with sessionStart := start } }

/-- rst.ready (R516). -/
def State.announceReady (s : State) (time : BitVec 32) : State :=
  let s := { s with power := { s.power with
    phase := .ready, readyTime := time, ovenCold := !s.hw.ovenStable } }
  s.raise 0x1301 .module ([s.power.cause, s.power.resetFlags] ++ be 4 time)

/-- The whole of ready: fuses, the owner key, straps, GA and GB, records, the trip's record, and last rst.ready (R508, R509). -/
def State.becomeReady (s : State) (rep : ReadyReport) : State :=
  let s := (((s.openPorts.readFuses rep).readOwner.readStraps rep).calibrateGauge)
  ((s.readRecords rep).recordTrip).announceReady rep.readyTime

/-- MODULE_READY: the timeline of the reset in progress ends (R508). -/
def execModuleReady (rep : ReadyReport) (s : State) : Host.Outcome State Fault Refusal :=
  .next (if s.power.phase == .starting && !s.power.resetLow then s.becomeReady rep else s)

/-! ## Boundary scan (R531) -/

/-- The outcome of a row of the test access port, which is ignored until the rails are in regulation. -/
def tap (s : State) (f : JtagState → JtagState) : Host.Outcome State Fault Refusal :=
  .next (if s.railsOn then { s with jtag := f s.jtag } else s)

/-- BYPASS: the one-bit register, which captures 0 (IEEE 1149.1, log 6). -/
def JtagState.toBypass (j : JtagState) : JtagState :=
  { j with instr := .bypass, driving := false, floating := false, out := [false] }

/-- TAP_RESET. -/
def execTapReset (s : State) : Host.Outcome State Fault Refusal := tap s JtagState.idle

/-- JTAG_BYPASS. -/
def execJtagBypass (s : State) : Host.Outcome State Fault Refusal := tap s JtagState.toBypass

/-- The identification code: revision, 0x1280, 0x657, 1. -/
def State.idcode (s : State) : BitVec 32 :=
  s.ident.hubRev.setWidth 4 ++ (0x1280 : BitVec 16) ++ (0x657 : BitVec 11) ++ (1 : BitVec 1)

/-- JTAG_IDCODE: bits leave least significant first (IEEE 1149.1, log 6). -/
def execJtagIdcode (s : State) : Host.Outcome State Fault Refusal :=
  tap s fun j => { j with
    instr := .idcode, driving := false, floating := false, out := (List.range 32).map s.idcode.getLsbD }

/-- JTAG_SAMPLE_PRELOAD: the levels at the contacts are sampled, and the cells may be loaded. -/
def execJtagSamplePreload (preload : Option (List Bool)) (pins : List Bool) (s : State) :
    Host.Outcome State Fault Refusal :=
  tap s fun j => { j with
    instr := .samplePreload, driving := false, floating := false, out := pins, cells := preload.getD j.cells }

/-- JTAG_EXTEST: the contacts follow the cells, only while RESET_N is low; otherwise it acts as BYPASS. -/
def execJtagExtest (s : State) : Host.Outcome State Fault Refusal :=
  tap s fun j => if s.power.resetLow then
      { j with instr := .extest, driving := true, floating := false, out := j.cells }
    else j.toBypass

/-- JTAG_CLAMP: the contacts follow the cells with the bypass register selected. -/
def execJtagClamp (s : State) : Host.Outcome State Fault Refusal :=
  tap s fun j => if s.power.resetLow then
      { j with instr := .clamp, driving := true, floating := false, out := [false] }
    else j.toBypass

/-- JTAG_HIGHZ: the contacts float with the bypass register selected. -/
def execJtagHighz (s : State) : Host.Outcome State Fault Refusal :=
  tap s fun j => if s.power.resetLow then
      { j with instr := .highz, driving := false, floating := true, out := [false] }
    else j.toBypass

end Sys2Proof.Machine
end

