-- ==== Sys2Proof/Machine/Idle.lean ====
section
/-! DEFINITION. What takes effect at the first MFC boundary after a request, and the idle step: one whole MFC period
with everything that the state itself makes due in it (R310, R338, R339, R487, R500; log 3). -/

namespace Sys2Proof.Machine

/-! ## Immediate effects -/

/-- One effect that waited for the boundary. -/
def State.immediateEffect (s : State) (x : Immediate) : State :=
  match x with
  | .flow ops => ops.foldl State.flowOp s
  | .keysLoaded p slots => s.keysUsable p slots
  | .keysRewritten slots => s.keysBoth slots

/-- Everything that waits for the boundary, in the order in which it was requested; then GROUP_EN and the tag
settings. -/
def State.immediateEffects (s : State) : State :=
  let l := s.immediate
  (l.foldl State.immediateEffect { s with immediate := [] }).collectorNext

/-- IMMEDIATE_EFFECT_BOUNDARY. -/
def execImmediateEffectBoundary (s : State) : Host.Outcome State Fault Refusal :=
  event s fun s => s.atBoundary State.immediateEffects

/-! ## The idle step -/

/-- The numbers of the pending commits, in order. -/
def State.commitIds (s : State) : List Nat := s.commitsInOrder.map (·.id)

/-- DEP_END where the last DEP frame has been sent (R121). -/
def State.depEndDue (s : State) (e : Eng) : State :=
  if (s.eng e).tx.depLeft == some 0 then match execDepEnd e s with | .next t => t | _ => s else s

/-- What is due at the boundary of the coming tick, before its frames begin (R74, R310, R342, R484, R550). -/
def State.beforeTick (s : State) : State :=
  let s := (List.finRange 4).foldl (fun s e => s.depEndDue e) s
  let s := s.atBoundary State.takeSnapshots
  let s := s.commitIds.foldl (fun s id => (s.atCommitBoundary id).atPairTx id) s
  (s.atBoundary State.immediateEffects).erasePoints

/-- A TD_SET that waits for the next MFC boundary takes effect at the tick (R420). -/
def State.tdSetsDue (s : State) : State :=
  [(0 : Fin 2), 1].foldl (fun s d => match (s.domain d).setDue with
    | some x => if x.second then s else s.applyTdSet d
    | none => s) s

/-- One commit's deadlines, once the tick's frames have begun (R95, R550). -/
def State.deadlines (s : State) (id : Nat) : State :=
  let s := match s.commitOf id with | some k => if s.deadlineDue k then s.ackDeadline k else s | none => s
  match s.commitOf id with | some k => if s.responderDue k then s.abstain k false 3 else s | none => s

/-- Run an operation `n` times. -/
def repeated (n : Nat) (f : State → State) (s : State) : State := (List.range n).foldl (fun s _ => f s) s

/-- The context fetches and admissions that wait in one direction are made (R291, R321). -/
def State.serveFlows (s : State) (d : Dir) : State :=
  let s := repeated (s.flowDir d).misses.length (fun s => s.fetchNext d) s
  repeated (s.flowDir d).admitQ.length (fun s => s.admitNext d) s

/-- What falls into the MFC period that the tick begins: pulses of the PPS outputs, a step and the TD_SETs that wait for the
second boundary, edges of the timed pulse outputs, and a pass of GB's sequence (R386, R390, R412, R420, R432, R549). -/
def State.withinPeriod (s : State) : State :=
  let s := (List.finRange 2).foldl (fun s n => if s.ppsDue n then s.ppsEdge n else s) s
  let second := s.secondHere
  let s := if second then (List.finRange 2).foldl (fun s d => if s.setNow d then s.applyTdSet d else s) s.applyPending
    else s
  let s := (List.finRange 4).foldl (fun s n => if s.edgeDue s.time.tpo[n] then s.emitEdge n else s) s
  if s.passDue then s.passTick else s

/-- What follows the tick. -/
def State.afterTick (s : State) : State :=
  let s := s.commitIds.foldl State.deadlines s.withinPeriod
  (s.serveFlows .ingress).serveFlows .egress

/-- One MFC period of a ready module; a command reset whose reply has been read begins instead (R513). -/
def State.readyTick (s : State) : State :=
  if s.power.resetRead then s.warmReset 3 else (s.beforeTick.tickWith State.tdSetsDue).afterTick

/-- The idle step: nothing without rails; before ready, and while RESET_N is low, the timebase alone runs (R15, R505). -/
def State.idle (s : State) : State :=
  if s.ready then s.readyTick
  else if s.railsOn then s.timebaseTick
  else s

end Sys2Proof.Machine
end

