-- ==== Sys2Proof/Machine/Dispatch.lean ====
section
/-! DEFINITION. `exec`: one arm per command, each one direct call of its meaning. -/

namespace Sys2Proof.Machine

open Sys2Proof

/-- The effect of one command on everything but the queue. -/
def exec (i : Instr) (s : State) : Host.Outcome State Fault Refusal :=
  match i with
  | .requestPacket p addr x bytes => Sys2Proof.Machine.execRequestPacket p addr x bytes s
  | .replyRead p addr x => Sys2Proof.Machine.execReplyRead p addr x s
  | .ibiRepeat p => Sys2Proof.Machine.execIbiRepeat p s
  | .cccEntdaa p rivals addr => Sys2Proof.Machine.execCccEntdaa p rivals addr s
  | .cccSetdasa p static addr => Sys2Proof.Machine.execCccSetdasa p static addr s
  | .cccSetnewda p to_ addr => Sys2Proof.Machine.execCccSetnewda p to_ addr s
  | .cccRstdaa p => Sys2Proof.Machine.execCccRstdaa p s
  | .cccEnec p to_ => Sys2Proof.Machine.execCccEnec p to_ s
  | .cccDisec p to_ => Sys2Proof.Machine.execCccDisec p to_ s
  | .cccGetpid p to_ => Sys2Proof.Machine.execCccGetpid p to_ s
  | .cccGetbcr p to_ => Sys2Proof.Machine.execCccGetbcr p to_ s
  | .cccGetdcr p to_ => Sys2Proof.Machine.execCccGetdcr p to_ s
  | .cccGetstatus p to_ => Sys2Proof.Machine.execCccGetstatus p to_ s
  | .cccGetmwl p to_ => Sys2Proof.Machine.execCccGetmwl p to_ s
  | .cccGetmrl p to_ => Sys2Proof.Machine.execCccGetmrl p to_ s
  | .cccSetmwl p to_ value => Sys2Proof.Machine.execCccSetmwl p to_ value s
  | .cccSetmrl p to_ value => Sys2Proof.Machine.execCccSetmrl p to_ value s
  | .cccEnthdr0 p => Sys2Proof.Machine.execCccEnthdr0 p s
  | .cccOther p to_ code => Sys2Proof.Machine.execCccOther p to_ code s
  | .portInfo r => Sys2Proof.Machine.execPortInfo r s
  | .portConfig r => Sys2Proof.Machine.execPortConfig r s
  | .portReset r => Sys2Proof.Machine.execPortReset r s
  | .portEcho r => Sys2Proof.Machine.execPortEcho r s
  | .eventRead r => Sys2Proof.Machine.execEventRead r s
  | .tenancySet r => Sys2Proof.Machine.execTenancySet r s
  | .tenancyGet r => Sys2Proof.Machine.execTenancyGet r s
  | .wsInfo r => Sys2Proof.Machine.execWsInfo r s
  | .wsRead r => Sys2Proof.Machine.execWsRead r s
  | .wsFind r => Sys2Proof.Machine.execWsFind r s
  | .sluiceCommit r => Sys2Proof.Machine.execSluiceCommit r s
  | .sluiceCancel r => Sys2Proof.Machine.execSluiceCancel r s
  | .sluiceDiscard r => Sys2Proof.Machine.execSluiceDiscard r s
  | .sluiceStatus r => Sys2Proof.Machine.execSluiceStatus r s
  | .commitBoundary id => Sys2Proof.Machine.execCommitBoundary id s
  | .ackDeadline id => Sys2Proof.Machine.execAckDeadline id s
  | .responderTarget id => Sys2Proof.Machine.execResponderTarget id s
  | .pairedTxSwitch id => Sys2Proof.Machine.execPairedTxSwitch id s
  | .pairedRxSwitch id => Sys2Proof.Machine.execPairedRxSwitch id s
  | .txConfigWrite r => Sys2Proof.Machine.execTxConfigWrite r s
  | .txConfigRead r => Sys2Proof.Machine.execTxConfigRead r s
  | .txStatus r => Sys2Proof.Machine.execTxStatus r s
  | .txBiasHold r => Sys2Proof.Machine.execTxBiasHold r s
  | .frameTransmit => Sys2Proof.Machine.execFrameTransmit s
  | .lockerLocked e => Sys2Proof.Machine.execLockerLocked e s
  | .biasAcquired e => Sys2Proof.Machine.execBiasAcquired e s
  | .txReady e pOut freqErr => Sys2Proof.Machine.execTxReady e pOut freqErr s
  | .depEnd e => Sys2Proof.Machine.execDepEnd e s
  | .txQuenched e => Sys2Proof.Machine.execTxQuenched e s
  | .laserFault e cause => Sys2Proof.Machine.execLaserFault e cause s
  | .txPowerFault e pOut nearest => Sys2Proof.Machine.execTxPowerFault e pOut nearest s
  | .rxConfigWrite r => Sys2Proof.Machine.execRxConfigWrite r s
  | .rxConfigRead r => Sys2Proof.Machine.execRxConfigRead r s
  | .rxStatus r => Sys2Proof.Machine.execRxStatus r s
  | .rxMonitor r => Sys2Proof.Machine.execRxMonitor r s
  | .rxReacquire r => Sys2Proof.Machine.execRxReacquire r s
  | .rxFreeze r => Sys2Proof.Machine.execRxFreeze r s
  | .rxCapture r => Sys2Proof.Machine.execRxCapture r s
  | .rxCaptureDone e c => Sys2Proof.Machine.execRxCaptureDone e c s
  | .rxCaptureRead r => Sys2Proof.Machine.execRxCaptureRead r s
  | .losTimer v => Sys2Proof.Machine.execLosTimer v s
  | .lightTimer v => Sys2Proof.Machine.execLightTimer v s
  | .freqEstimated v => Sys2Proof.Machine.execFreqEstimated v s
  | .cdSearchPassEnd e best => Sys2Proof.Machine.execCdSearchPassEnd e best s
  | .timingLock v => Sys2Proof.Machine.execTimingLock v s
  | .timingLockLost v => Sys2Proof.Machine.execTimingLockLost v s
  | .cmaConverged e => Sys2Proof.Machine.execCmaConverged e s
  | .pilotFound v => Sys2Proof.Machine.execPilotFound v s
  | .carrierLockLost v => Sys2Proof.Machine.execCarrierLockLost v s
  | .rxStateTimeout e => Sys2Proof.Machine.execRxStateTimeout e s
  | .tapUpdate e g u => Sys2Proof.Machine.execTapUpdate e g u s
  | .calConfigWrite r => Sys2Proof.Machine.execCalConfigWrite r s
  | .calConfigRead r => Sys2Proof.Machine.execCalConfigRead r s
  | .calStatus r => Sys2Proof.Machine.execCalStatus r s
  | .calSliceRead r => Sys2Proof.Machine.execCalSliceRead r s
  | .calRecords r => Sys2Proof.Machine.execCalRecords r s
  | .calApply e conv => Sys2Proof.Machine.execCalApply e conv s
  | .calMeasureDone e conv pairs => Sys2Proof.Machine.execCalMeasureDone e conv pairs s
  | .calIntervalEnd e conv => Sys2Proof.Machine.execCalIntervalEnd e conv s
  | .dacCalStepDone e pairs => Sys2Proof.Machine.execDacCalStepDone e pairs s
  | .fecConfigWrite r => Sys2Proof.Machine.execFecConfigWrite r s
  | .fecConfigRead r => Sys2Proof.Machine.execFecConfigRead r s
  | .fecStatus r => Sys2Proof.Machine.execFecStatus r s
  | .decoderAdvance e a => Sys2Proof.Machine.execDecoderAdvance e a s
  | .groupHuntDone e noise => Sys2Proof.Machine.execGroupHuntDone e noise s
  | .profileWrite r => Sys2Proof.Machine.execProfileWrite r s
  | .profileRead r => Sys2Proof.Machine.execProfileRead r s
  | .frameConfigWrite r => Sys2Proof.Machine.execFrameConfigWrite r s
  | .frameConfigRead r => Sys2Proof.Machine.execFrameConfigRead r s
  | .slotmapWrite r => Sys2Proof.Machine.execSlotmapWrite r s
  | .slotmapRead r => Sys2Proof.Machine.execSlotmapRead r s
  | .frameStatus r => Sys2Proof.Machine.execFrameStatus r s
  | .frameReceive e f => Sys2Proof.Machine.execFrameReceive e f s
  | .scSlot e byte valid => Sys2Proof.Machine.execScSlot e byte valid s
  | .cportWrite r => Sys2Proof.Machine.execCportWrite r s
  | .cportRead r => Sys2Proof.Machine.execCportRead r s
  | .laneEqWrite r => Sys2Proof.Machine.execLaneEqWrite r s
  | .laneEqRead r => Sys2Proof.Machine.execLaneEqRead r s
  | .lanePower r => Sys2Proof.Machine.execLanePower r s
  | .clientLoopback r => Sys2Proof.Machine.execClientLoopback r s
  | .prbsControl r => Sys2Proof.Machine.execPrbsControl r s
  | .synceWrite r => Sys2Proof.Machine.execSynceWrite r s
  | .synceRead r => Sys2Proof.Machine.execSynceRead r s
  | .laneStatus r => Sys2Proof.Machine.execLaneStatus r s
  | .portStatus r => Sys2Proof.Machine.execPortStatus r s
  | .clientFrameRx c frame pcsError => Sys2Proof.Machine.execClientFrameRx c frame pcsError s
  | .laneFrameRx l symbols slip => Sys2Proof.Machine.execLaneFrameRx l symbols slip s
  | .clientOrderedSetRx c set => Sys2Proof.Machine.execClientOrderedSetRx c set s
  | .portFailDetect c signalLost clockLost pcsLost => Sys2Proof.Machine.execPortFailDetect c signalLost clockLost pcsLost s
  | .portFailClearTimer c => Sys2Proof.Machine.execPortFailClearTimer c s
  | .laneAdaptDone l a => Sys2Proof.Machine.execLaneAdaptDone l a s
  | .flowPortWrite r => Sys2Proof.Machine.execFlowPortWrite r s
  | .flowPortRead r => Sys2Proof.Machine.execFlowPortRead r s
  | .etypeWrite r => Sys2Proof.Machine.execEtypeWrite r s
  | .etypeRead r => Sys2Proof.Machine.execEtypeRead r s
  | .flowAdd r => Sys2Proof.Machine.execFlowAdd r s
  | .flowDelete r => Sys2Proof.Machine.execFlowDelete r s
  | .flowLookup r => Sys2Proof.Machine.execFlowLookup r s
  | .ctxLoad r => Sys2Proof.Machine.execCtxLoad r s
  | .ctxFill r => Sys2Proof.Machine.execCtxFill r s
  | .ctxFillDone => Sys2Proof.Machine.execCtxFillDone s
  | .ctxRead r => Sys2Proof.Machine.execCtxRead r s
  | .ctxRekey r => Sys2Proof.Machine.execCtxRekey r s
  | .ctxReload r => Sys2Proof.Machine.execCtxReload r s
  | .sealConfigWrite r => Sys2Proof.Machine.execSealConfigWrite r s
  | .sealConfigRead r => Sys2Proof.Machine.execSealConfigRead r s
  | .contextFetchDone d => Sys2Proof.Machine.execContextFetchDone d s
  | .millraceAdmit d => Sys2Proof.Machine.execMillraceAdmit d s
  | .lineEgressFrame c frame => Sys2Proof.Machine.execLineEgressFrame c frame s
  | .graceExpiry => Sys2Proof.Machine.execGraceExpiry s
  | .keyLoad r => Sys2Proof.Machine.execKeyLoad r s
  | .keyRewrite r => Sys2Proof.Machine.execKeyRewrite r s
  | .keyRewriteGraceEnd => Sys2Proof.Machine.execKeyRewriteGraceEnd s
  | .keyErase r => Sys2Proof.Machine.execKeyErase r s
  | .keyErasePoint => Sys2Proof.Machine.execKeyErasePoint s
  | .keyEraseDone => Sys2Proof.Machine.execKeyEraseDone s
  | .keyStatus r => Sys2Proof.Machine.execKeyStatus r s
  | .portkeyLoad r => Sys2Proof.Machine.execPortkeyLoad r s
  | .portkeyErase r => Sys2Proof.Machine.execPortkeyErase r s
  | .portkeyStatus r => Sys2Proof.Machine.execPortkeyStatus r s
  | .millraceStatus r => Sys2Proof.Machine.execMillraceStatus r s
  | .ownerProvision r => Sys2Proof.Machine.execOwnerProvision r s
  | .ownerProvisionDone agrees => Sys2Proof.Machine.execOwnerProvisionDone agrees s
  | .ownerStatus r => Sys2Proof.Machine.execOwnerStatus r s
  | .idChallenge r => Sys2Proof.Machine.execIdChallenge r s
  | .memConfigWrite r => Sys2Proof.Machine.execMemConfigWrite r s
  | .memConfigRead r => Sys2Proof.Machine.execMemConfigRead r s
  | .memStatus r => Sys2Proof.Machine.execMemStatus r s
  | .memLogRead r => Sys2Proof.Machine.execMemLogRead r s
  | .memWordRead r => Sys2Proof.Machine.execMemWordRead r s
  | .memInject r => Sys2Proof.Machine.execMemInject r s
  | .channelTrainingDone c => Sys2Proof.Machine.execChannelTrainingDone c s
  | .channelTrainingFail c => Sys2Proof.Machine.execChannelTrainingFail c s
  | .memSweepDone nanoseconds => Sys2Proof.Machine.execMemSweepDone nanoseconds s
  | .eddyRead => Sys2Proof.Machine.execEddyRead s
  | .mergeRetire c => Sys2Proof.Machine.execMergeRetire c s
  | .hwConfigWrite r => Sys2Proof.Machine.execHwConfigWrite r s
  | .hwConfigRead r => Sys2Proof.Machine.execHwConfigRead r s
  | .hwPhaseStep r => Sys2Proof.Machine.execHwPhaseStep r s
  | .hwStatus r => Sys2Proof.Machine.execHwStatus r s
  | .hwInputStatus r => Sys2Proof.Machine.execHwInputStatus r s
  | .inputQualifyTimer input freq => Sys2Proof.Machine.execInputQualifyTimer input freq s
  | .inputLoss input cause => Sys2Proof.Machine.execInputLoss input cause s
  | .buildOutWindowEnd phase => Sys2Proof.Machine.execBuildOutWindowEnd phase s
  | .hwLockDeclared => Sys2Proof.Machine.execHwLockDeclared s
  | .wtrExpiry input => Sys2Proof.Machine.execWtrExpiry input s
  | .holdoverSecond => Sys2Proof.Machine.execHoldoverSecond s
  | .phaseStepApply => Sys2Proof.Machine.execPhaseStepApply s
  | .phaseSlewEnd => Sys2Proof.Machine.execPhaseSlewEnd s
  | .refoutRestart => Sys2Proof.Machine.execRefoutRestart s
  | .ovenStable => Sys2Proof.Machine.execOvenStable s
  | .tdConfigWrite r => Sys2Proof.Machine.execTdConfigWrite r s
  | .tdConfigRead r => Sys2Proof.Machine.execTdConfigRead r s
  | .tdSet r => Sys2Proof.Machine.execTdSet r s
  | .tdStatus r => Sys2Proof.Machine.execTdStatus r s
  | .ptpPortWrite r => Sys2Proof.Machine.execPtpPortWrite r s
  | .ptpPortRead r => Sys2Proof.Machine.execPtpPortRead r s
  | .tpoWrite r => Sys2Proof.Machine.execTpoWrite r s
  | .tpoRead r => Sys2Proof.Machine.execTpoRead r s
  | .captureRead r => Sys2Proof.Machine.execCaptureRead r s
  | .tslogRead r => Sys2Proof.Machine.execTslogRead r s
  | .ptpEventMessage c m => Sys2Proof.Machine.execPtpEventMessage c m s
  | .syncLossTimeout d => Sys2Proof.Machine.execSyncLossTimeout d s
  | .tpoEdge n => Sys2Proof.Machine.execTpoEdge n s
  | .captureEdge input quarters => Sys2Proof.Machine.execCaptureEdge input quarters s
  | .decimatorReset => Sys2Proof.Machine.execDecimatorReset s
  | .gaugeSeqWrite r => Sys2Proof.Machine.execGaugeSeqWrite r s
  | .gaugeSeqRead r => Sys2Proof.Machine.execGaugeSeqRead r s
  | .gaugeInject r => Sys2Proof.Machine.execGaugeInject r s
  | .gaugeCalibrate r => Sys2Proof.Machine.execGaugeCalibrate r s
  | .gaugeCalDone offsets gain => Sys2Proof.Machine.execGaugeCalDone offsets gain s
  | .gaugeCheckWrite r => Sys2Proof.Machine.execGaugeCheckWrite r s
  | .gaugeStatus r => Sys2Proof.Machine.execGaugeStatus r s
  | .gaugeResultRead r => Sys2Proof.Machine.execGaugeResultRead r s
  | .gaCycleStart codes check => Sys2Proof.Machine.execGaCycleStart codes check s
  | .gbConversionEnd raw => Sys2Proof.Machine.execGbConversionEnd raw s
  | .gbPassTick => Sys2Proof.Machine.execGbPassTick s
  | .weirPolicyWrite r => Sys2Proof.Machine.execWeirPolicyWrite r s
  | .weirPolicyRead r => Sys2Proof.Machine.execWeirPolicyRead r s
  | .weirStatus r => Sys2Proof.Machine.execWeirStatus r s
  | .weirSensorRead r => Sys2Proof.Machine.execWeirSensorRead r s
  | .weirReading temps => Sys2Proof.Machine.execWeirReading temps s
  | .weirReleaseTimer => Sys2Proof.Machine.execWeirReleaseTimer s
  | .hardwiredTrip => Sys2Proof.Machine.execHardwiredTrip s
  | .supStatus r => Sys2Proof.Machine.execSupStatus r s
  | .supSwap r => Sys2Proof.Machine.execSupSwap r s
  | .swapWindowEnd => Sys2Proof.Machine.execSwapWindowEnd s
  | .supRestore r => Sys2Proof.Machine.execSupRestore r s
  | .restoreComplete passes tenths => Sys2Proof.Machine.execRestoreComplete passes tenths s
  | .autoRestoreTimer unit => Sys2Proof.Machine.execAutoRestoreTimer unit s
  | .supConfigWrite r => Sys2Proof.Machine.execSupConfigWrite r s
  | .supConfigRead r => Sys2Proof.Machine.execSupConfigRead r s
  | .refereeWindow beats => Sys2Proof.Machine.execRefereeWindow beats s
  | .supParityFault => Sys2Proof.Machine.execSupParityFault s
  | .supIllegalState => Sys2Proof.Machine.execSupIllegalState s
  | .journalRecordFail => Sys2Proof.Machine.execJournalRecordFail s
  | .voterDisagree votes => Sys2Proof.Machine.execVoterDisagree votes s
  | .takeoverComplete duration => Sys2Proof.Machine.execTakeoverComplete duration s
  | .ctrConfigWrite r => Sys2Proof.Machine.execCtrConfigWrite r s
  | .ctrConfigRead r => Sys2Proof.Machine.execCtrConfigRead r s
  | .ctrSnapshot r => Sys2Proof.Machine.execCtrSnapshot r s
  | .ctrSnapshotTick => Sys2Proof.Machine.execCtrSnapshotTick s
  | .ctrRead r => Sys2Proof.Machine.execCtrRead r s
  | .ctrClear r => Sys2Proof.Machine.execCtrClear r s
  | .frRead r => Sys2Proof.Machine.execFrRead r s
  | .tagConfigWrite r => Sys2Proof.Machine.execTagConfigWrite r s
  | .tagLogRead r => Sys2Proof.Machine.execTagLogRead r s
  | .shortIntervalEnd m => Sys2Proof.Machine.execShortIntervalEnd m s
  | .longIntervalEnd engines => Sys2Proof.Machine.execLongIntervalEnd engines s
  | .moduleReset r => Sys2Proof.Machine.execModuleReset r s
  | .moduleResetBegin => Sys2Proof.Machine.execModuleResetBegin s
  | .resetInfo r => Sys2Proof.Machine.execResetInfo r s
  | .nvRead r => Sys2Proof.Machine.execNvRead r s
  | .nvWrite r => Sys2Proof.Machine.execNvWrite r s
  | .nvWriteDone => Sys2Proof.Machine.execNvWriteDone s
  | .powerOnTrigger => Sys2Proof.Machine.execPowerOnTrigger s
  | .supplyLoss aux => Sys2Proof.Machine.execSupplyLoss aux s
  | .tripLatchRelease => Sys2Proof.Machine.execTripLatchRelease s
  | .resetNAssert => Sys2Proof.Machine.execResetNAssert s
  | .resetNDeassert lowNs => Sys2Proof.Machine.execResetNDeassert lowNs s
  | .vioLoss => Sys2Proof.Machine.execVioLoss s
  | .moduleReady report => Sys2Proof.Machine.execModuleReady report s
  | .tapReset => Sys2Proof.Machine.execTapReset s
  | .jtagBypass => Sys2Proof.Machine.execJtagBypass s
  | .jtagIdcode => Sys2Proof.Machine.execJtagIdcode s
  | .jtagSamplePreload preload pins => Sys2Proof.Machine.execJtagSamplePreload preload pins s
  | .jtagExtest => Sys2Proof.Machine.execJtagExtest s
  | .jtagClamp => Sys2Proof.Machine.execJtagClamp s
  | .jtagHighz => Sys2Proof.Machine.execJtagHighz s
  | .tileLinkFail e => Sys2Proof.Machine.execTileLinkFail e s
  | .vioRestored => Sys2Proof.Machine.execVioRestored s
  | .p3v3AuxApplied => Sys2Proof.Machine.execP3v3AuxApplied s
  | .prbsCheckerLock l => Sys2Proof.Machine.execPrbsCheckerLock l s
  | .prbsCheckerRelock v => Sys2Proof.Machine.execPrbsCheckerRelock v s
  | .ppsOutEdge n => Sys2Proof.Machine.execPpsOutEdge n s
  | .outputTimeSlewEnd => Sys2Proof.Machine.execOutputTimeSlewEnd s
  | .tdSetApply d => Sys2Proof.Machine.execTdSetApply d s
  | .immediateEffectBoundary => Sys2Proof.Machine.execImmediateEffectBoundary s

end Sys2Proof.Machine
end

