-- ==== Sys2Proof/Machine/Serve.lean ====
section
/-! DEFINITION. Which accepted request executes next, and which command its opcode names (spec/03_tabger_commands.md,
R50, R53, R63; the opcode tables of chapters 03 to 20). -/

namespace Sys2Proof.Machine

/-! ## Opcodes (R63) -/

/-- Groups 0x01 to 0x03. -/
def portOpcodes : List (Nat × (Request → Instr)) :=
  [(0x0101, .portInfo), (0x0102, .portConfig), (0x0103, .portReset), (0x0104, .portEcho), (0x0105, .eventRead),
   (0x0106, .tenancySet), (0x0107, .tenancyGet), (0x0201, .wsInfo), (0x0202, .wsRead), (0x0203, .wsFind),
   (0x0301, .sluiceCommit), (0x0302, .sluiceCancel), (0x0303, .sluiceDiscard), (0x0304, .sluiceStatus)]

/-- Groups 0x04 to 0x08. -/
def lineOpcodes : List (Nat × (Request → Instr)) :=
  [(0x0401, .txConfigWrite), (0x0402, .txConfigRead), (0x0403, .txStatus), (0x0404, .txBiasHold),
   (0x0501, .rxConfigWrite), (0x0502, .rxConfigRead), (0x0503, .rxStatus), (0x0504, .rxMonitor),
   (0x0505, .rxReacquire), (0x0506, .rxFreeze), (0x0507, .rxCapture), (0x0508, .rxCaptureRead),
   (0x0601, .calConfigWrite), (0x0602, .calConfigRead), (0x0603, .calStatus), (0x0604, .calSliceRead),
   (0x0605, .calRecords), (0x0701, .fecConfigWrite), (0x0702, .fecConfigRead), (0x0703, .fecStatus),
   (0x0801, .profileWrite), (0x0802, .profileRead), (0x0803, .frameConfigWrite), (0x0804, .frameConfigRead),
   (0x0805, .slotmapWrite), (0x0806, .slotmapRead), (0x0807, .frameStatus)]

/-- Groups 0x09 and 0x0A. -/
def clientOpcodes : List (Nat × (Request → Instr)) :=
  [(0x0901, .cportWrite), (0x0902, .cportRead), (0x0903, .laneEqWrite), (0x0904, .laneEqRead),
   (0x0905, .lanePower), (0x0906, .clientLoopback), (0x0907, .prbsControl), (0x0908, .synceWrite),
   (0x0909, .synceRead), (0x090A, .laneStatus), (0x090B, .portStatus), (0x0A01, .flowPortWrite),
   (0x0A02, .flowPortRead), (0x0A03, .etypeWrite), (0x0A04, .etypeRead), (0x0A05, .flowAdd),
   (0x0A06, .flowDelete), (0x0A07, .flowLookup), (0x0A08, .ctxLoad), (0x0A09, .ctxFill), (0x0A0A, .ctxRead),
   (0x0A0B, .ctxRekey), (0x0A0C, .ctxReload), (0x0A0D, .sealConfigWrite), (0x0A0E, .sealConfigRead)]

/-- Groups 0x0B and 0x0C. -/
def keyOpcodes : List (Nat × (Request → Instr)) :=
  [(0x0B01, .keyLoad), (0x0B02, .keyRewrite), (0x0B03, .keyErase), (0x0B04, .keyStatus), (0x0B05, .portkeyLoad),
   (0x0B06, .portkeyErase), (0x0B07, .portkeyStatus), (0x0B08, .millraceStatus), (0x0C01, .memConfigWrite),
   (0x0C02, .memConfigRead), (0x0C03, .memStatus), (0x0C04, .memLogRead), (0x0C05, .memWordRead),
   (0x0C06, .memInject)]

/-- Groups 0x0D to 0x0F. -/
def clockOpcodes : List (Nat × (Request → Instr)) :=
  [(0x0D01, .hwConfigWrite), (0x0D02, .hwConfigRead), (0x0D03, .hwPhaseStep), (0x0D04, .hwStatus),
   (0x0D05, .hwInputStatus), (0x0E01, .tdConfigWrite), (0x0E02, .tdConfigRead), (0x0E03, .tdSet),
   (0x0E04, .tdStatus), (0x0E05, .ptpPortWrite), (0x0E06, .ptpPortRead), (0x0E07, .tpoWrite), (0x0E08, .tpoRead),
   (0x0E09, .captureRead), (0x0E0A, .tslogRead), (0x0F01, .gaugeSeqWrite), (0x0F02, .gaugeSeqRead),
   (0x0F03, .gaugeInject), (0x0F04, .gaugeCalibrate), (0x0F05, .gaugeCheckWrite), (0x0F06, .gaugeStatus),
   (0x0F07, .gaugeResultRead)]

/-- Groups 0x10 to 0x13. -/
def hubOpcodes : List (Nat × (Request → Instr)) :=
  [(0x1001, .weirPolicyWrite), (0x1002, .weirPolicyRead), (0x1003, .weirStatus), (0x1004, .weirSensorRead),
   (0x1101, .supStatus), (0x1102, .supSwap), (0x1103, .supRestore), (0x1104, .supConfigWrite),
   (0x1105, .supConfigRead), (0x1201, .ctrConfigWrite), (0x1202, .ctrConfigRead), (0x1203, .ctrSnapshot),
   (0x1204, .ctrRead), (0x1205, .ctrClear), (0x1206, .frRead), (0x1207, .tagConfigWrite), (0x1208, .tagLogRead),
   (0x1301, .moduleReset), (0x1302, .resetInfo), (0x1303, .nvRead), (0x1304, .nvWrite), (0x1320, .ownerProvision),
   (0x1321, .ownerStatus), (0x1322, .idChallenge)]

/-- The command that executes an accepted request; none for an unknown opcode (R63). -/
def instrOf (op : BitVec 16) (r : Request) : Option Instr :=
  let table := portOpcodes ++ lineOpcodes ++ clientOpcodes ++ keyOpcodes ++ clockOpcodes ++ hubOpcodes
  (table.find? fun x => x.1 == op.toNat).map fun x => x.2 r

/-- A request of an unknown opcode: steps 6 to 8 of R53. -/
def State.unknownOpcode (s : State) (op : BitVec 16) (r : Request) : State :=
  serve op true r s fun _ => .fail .unknownOpcode []

/-! ## The order of execution (R50) -/

/-- The ports in rotation, beginning after the one served last. -/
def rotation (turn : Hp) : List Hp := [turn + 1, turn + 2, turn + 3, turn]

/-- The first request with PRIO that waits on any port, in rotation. -/
def State.nextUrgent (s : State) : Option (BitVec 16 × Request) :=
  (rotation s.turn).findSome? fun p => (s.port p).queue.find? fun x => urgent x.2

/-- The first request that waits, in rotation.  A port whose chained request is still in execution is passed over
(R51). -/
def State.nextOrdinary (s : State) : Option (BitVec 16 × Request) :=
  (rotation s.turn).findSome? fun p => if (s.port p).chainOpen then none else (s.port p).queue.head?

/-- The request that executes next: one with PRIO before every other, and ports in rotation (R50); none while nothing is
served (R468, R508). -/
def State.nextRequest (s : State) : Option (BitVec 16 × Request) :=
  if s.serving then s.nextUrgent.or s.nextOrdinary else none

/-- The rotation has come to a port. -/
def State.turnTo (s : State) (p : Hp) : State := { s with turn := p }

end Sys2Proof.Machine
end

