-- ==== Sys2Proof/Machine/Step.lean ====
section
/-! DEFINITION. One step: the command at the front of the queue; on an empty queue the next accepted request, or the
idle step (log 3). -/

namespace Sys2Proof.Machine

/-- The next accepted request executes. -/
def stepRequest (s : State) (op : BitVec 16) (r : Request) : Host.Outcome State Fault Refusal :=
  match instrOf op r with
  | some i => exec i (s.turnTo r.port)
  | none => .next ((s.turnTo r.port).unknownOpcode op r)

/-- The step on an empty queue. -/
def stepIdle (s : State) : Host.Outcome State Fault Refusal :=
  match s.nextRequest with
  | some (op, r) => stepRequest s op r
  | none => .next s.idle

/-- One step of the block. -/
def step (s : State) : Host.Outcome State Fault Refusal :=
  match s.pending with
  | i :: rest => exec i { s with pending := rest }
  | [] => stepIdle s

/-- The state with the command that a table word spells put at the front of its queue; no row of the table has bits, so
no word spells one. -/
def State.withFetchWord (s : State) (nbits w : Nat) : State :=
  match decodeTableWord nbits w with
  | some i => { s with pending := i :: s.pending }
  | none => s

end Sys2Proof.Machine
end

