-- ==== Sys2Proof/Safety.lean ====
section
/-! DEFINITION. What counts as a sound state and a completed request, in the terms in which claims about this block are
stated. -/

namespace Sys2Proof.Machine

/-! ## Sound states -/

/-- The code words of context memory are held in canonical form: addresses strictly rising, no FRESH word listed
(R353). -/
def Memory.wf (l : List (Nat × MemWord)) : Bool := canon {} l

/-- Context memory and the key slots are in canonical form. -/
def State.storesOk (s : State) : Prop := Memory.wf s.mem.words = true ∧ canon {} s.keys.slots = true

/-- Every port's event queue holds at most 256 records (R56). -/
def State.eventsOk (s : State) : Prop := ∀ p : Hp, (s.port p).events.length ≤ 256

/-- No resource lies in the tenancy of two ports besides HP0 (R58). -/
def State.tenancyOk (s : State) : Prop :=
  ∀ p q : Hp, p ≠ 0 → q ≠ 0 → p ≠ q → (s.port p).tenancy.meets (s.port q).tenancy = false

/-- The supervisor pair outside headless running: a unit being restored is in that state, and the unit that serves is
ACTIVE, or, while a takeover or the first half of a drill is in progress, the unit called to serve is STANDBY (R464,
R468 to R471). -/
def State.pairOk (s : State) : Prop :=
  s.sup.headless = false →
    (∀ x, s.sup.restore = some x → s.sup.units[x.target] = .restoring) ∧
    match s.sup.takeover, s.sup.swap with
    | some t, _ => s.sup.units[otherUnit t.failed] = .standby
    | none, some w => if w.taken then s.sup.units[s.sup.active] = .active
        else s.sup.units[otherUnit w.yielded] = .standby
    | none, none => s.sup.units[s.sup.active] = .active

/-- Weir's policy in force lies in its ranges, and THROTTLE_START < FLOOR_TEMP < ORDERLY_TEMP and RELEASE_TEMP ≤
ORDERLY_TEMP − 5 hold of it, defaults counted (R460). -/
def State.policyOk (s : State) : Prop :=
  policyRangeOk s.weir.policy = true ∧ policyConsistent s.weir.policy = true

/-! ## Settings -/

/-- What stays as written until its own command, or a reset, writes it: identity, Weir's policy, the tenancies, the
supervisors' FLAGS, both regions of the non-volatile store, Eddy's settings, the check's settings, the sealing
configuration, the owner key, and every staged copy. -/
structure Settings where
  ident : Identity
  policy : WeirPolicy
  tenancies : Vector Tenancy 4
  supFlags : BitVec 2
  factory : List (Nat × Byte)
  integrator : List (Nat × Byte)
  scrub : BitVec 16 × BitVec 16
  check : Byte × Byte
  sealing : SealConfig
  ownerKey : Bytes
  engines : Vector EngineParams 4
  lanes : Vector LaneEq 64
  cports : Vector CportParams 64
  synce : Vector (Byte × Byte) 4
  hw : HwConfig
  time : TdConfig
  gauge : GaugeSeq

/-- The settings of a state. -/
def State.settings (s : State) : Settings :=
  { ident := s.ident
    policy := s.weir.policy
    tenancies := s.ports.map fun (p : Port) => p.tenancy
    supFlags := s.sup.flags
    factory := s.nv.factory
    integrator := s.nv.integrator
    scrub := (s.mem.scrubRate, s.mem.corrThr)
    check := (s.gauge.tol, s.gauge.disagreeN)
    sealing := s.flows.sealing
    ownerKey := s.keys.ownerKey
    engines := s.engines.map fun (x : Engine) => x.params.staged
    lanes := s.lanes.map fun (l : Lane) => l.eq.staged
    cports := s.cports.map fun (c : Cport) => c.params.staged
    synce := s.synce.staged
    hw := s.hw.config.staged
    time := s.time.config.staged
    gauge := s.gauge.seq.staged }

/-- What a command may make of the settings: a configuration write its own part, SLUICE_DISCARD the staged copies,
what can reset the module nothing or a reset's values, every other command nothing. -/
def SettingsFrame (c : Instr) (a b : Settings) : Prop :=
  match c with
  | .txConfigWrite _ | .rxConfigWrite _ | .calConfigWrite _ | .fecConfigWrite _ | .profileWrite _ | .frameConfigWrite _
  | .slotmapWrite _ | .etypeWrite _ => b = { a with engines := b.engines }
  | .cportWrite _ | .flowPortWrite _ | .ptpPortWrite _ => b = { a with cports := b.cports }
  | .laneEqWrite _ => b = { a with lanes := b.lanes }
  | .synceWrite _ => b = { a with synce := b.synce }
  | .sealConfigWrite _ => b = { a with sealing := b.sealing }
  | .hwConfigWrite _ => b = { a with hw := b.hw }
  | .tdConfigWrite _ => b = { a with time := b.time }
  | .gaugeSeqWrite _ => b = { a with gauge := b.gauge }
  | .gaugeCheckWrite _ => b = { a with check := b.check }
  | .memConfigWrite _ => b = { a with scrub := b.scrub }
  | .weirPolicyWrite _ => b = { a with policy := b.policy }
  | .supConfigWrite _ => b = { a with supFlags := b.supFlags }
  | .tenancySet _ => b = { a with tenancies := b.tenancies }
  | .ownerProvision _ => b = { a with ownerKey := b.ownerKey }
  | .nvWriteDone => b = { a with integrator := b.integrator }
  | .moduleReady _ => b = { a with factory := b.factory, ownerKey := b.ownerKey }
  | .sluiceDiscard _ => b = { a with
      engines := b.engines, lanes := b.lanes, cports := b.cports, synce := b.synce, hw := b.hw, time := b.time,
      gauge := b.gauge }
  | .powerOnTrigger | .supplyLoss _ | .hardwiredTrip | .tripLatchRelease | .resetNDeassert _ | .moduleResetBegin =>
    b = a ∨ b = { State.reset.settings with
      ident := a.ident, factory := a.factory, integrator := b.integrator, ownerKey := b.ownerKey }
  | _ => b = a

/-! ## Requests -/

/-- A request passes steps 6, 7 and 9 of R53 and executes: the module serves it and no chained predecessor is still in
execution, PRIO and CHAIN are not both set, no chained predecessor failed, and the opcode is served in headless running
or a supervisor is active (R50, R51, R61, R62). -/
def Executes (servedHeadless : Bool) (r : Request) (s : State) : Prop :=
  s.serves r = true ∧ (r.prio && r.chain) = false ∧ ((s.port r.port).chainFailed && !urgent r) = false ∧
    (s.sup.headless && !servedHeadless) = false

/-- The outcome of a request answered with a status and data, from the state its effect left (R61). -/
def answered (op : BitVec 16) (r : Request) (st : Status) (data : Bytes) (s : State) :
    Host.Outcome State Fault Refusal := .next (s.conclude op r st data)

/-- A command that executes a request answers OK with data and changes nothing else. -/
def Reads (op : BitVec 16) (c : Request → Instr) (r : Request) (s : State) (data : State → Bytes) : Prop :=
  exec (c r) s = answered op r .ok (data (s.takeRequest op r)) (s.takeRequest op r)

/-- A command that executes a request answers OK without data and takes effect. -/
def Writes (op : BitVec 16) (c : Request → Instr) (r : Request) (s : State) (effect : State → State) : Prop :=
  exec (c r) s = answered op r .ok [] (effect (s.takeRequest op r))

/-- A command that executes a request fails with a status and changes nothing else (R54). -/
def Fails (op : BitVec 16) (c : Request → Instr) (r : Request) (s : State) (st : Status) : Prop :=
  exec (c r) s = answered op r st [] (s.takeRequest op r)

/-- A reply's data are `len` bytes long and hold at each listed offset the listed bytes: a table of the spec. -/
def Lays (data : Bytes) (len : Nat) (fields : List (Nat × Bytes)) : Prop :=
  data.length = len ∧ ∀ x ∈ fields, slice data x.1 x.2.length = x.2

/-- A command that executes a request answers OK with data that hold a table's fields, and changes nothing else. -/
def Reports (op : BitVec 16) (c : Request → Instr) (r : Request) (s : State) (len : Nat) (fields : List (Nat × Bytes)) :
    Prop :=
  ∃ data, Reads op c r s (fun _ => data) ∧ Lays data len fields

/-- A transfer or directed CCC to an address is the port's: it drives its contacts, serves its bus, and the address is
its own (R40, R504, R510). -/
def AddressedTo (p : Hp) (addr : BitVec 7) (s : State) : Prop :=
  s.drives = true ∧ s.portServes p = true ∧ s.addressed p addr = true

/-- A CCC reaches the port, directed to its address or as a broadcast. -/
def CccReaches (p : Hp) (to_ : Option (BitVec 7)) (s : State) : Prop :=
  s.drives = true ∧ s.portServes p = true ∧ ∀ a, to_ = some a → s.addressed p a = true

/-- A well-formed packet of R43 to R45 with a CRC-32 trailer: VER_FLAGS, TAG, OPCODE, LENGTH, SEQ, PARAMS. -/
def crcPacket (flags tag : Byte) (op seq : BitVec 16) (params : Bytes) : Bytes :=
  let head := [flags, tag] ++ be 2 op ++ beBytes 2 params.length ++ be 2 seq ++ params
  head ++ be 4 (crc32 head)

/-- A reply that the port itself makes, with a CRC-32 trailer (R45). -/
def plainReply (op seq : BitVec 16) (tag : Byte) (chain prio : Bool) (st : Status) (data : Bytes) : Reply :=
  { seq := seq, opcode := op, bytes := replyPacket none chain prio tag seq st data }

/-- The opcodes that the host-port logic serves in headless running (R62, R64, R351, R512). -/
def headlessOpcodes : List (BitVec 16) :=
  [0x0101, 0x0103, 0x0105, 0x0201, 0x0202, 0x0203, 0x1301, 0x1302, 0x1321, 0x1322]

/-- The principal-only opcodes of the opcode tables (R58, R64, R276, R309, R372, R394, R418, R442, R459, R477, R495,
R351, R512). -/
def principalOpcodes : List (BitVec 16) :=
  [0x0106, 0x0908, 0x0A0D, 0x0C01, 0x0C04, 0x0C05, 0x0C06, 0x0D01, 0x0D03, 0x0E01, 0x0E03, 0x0E09, 0x0F01, 0x0F03,
   0x0F04, 0x0F05, 0x1001, 0x1102, 0x1103, 0x1104, 0x1201, 0x1207, 0x1301, 0x1304, 0x1320]

/-- The parameters have a length, and VER_FLAGS bit 0 is clear (R43, R53 step 11). -/
def Formed (r : Request) (len : Nat) : Prop := r.flag0 = false ∧ r.params.length = len

/-- The parameters have a length and name engine `e`, which is populated and which the port holds (R53 steps 11 to
13). -/
def NamesEngine (r : Request) (s : State) (e : Eng) (len : Nat) : Prop :=
  Formed r len ∧ field r.params 0 1 = e.val ∧ s.hasEngine e.val = true ∧ s.holdsEngine r.port e.val = true

/-- A read of engine `e` with COPY `c`, 0 or 1 (R76). -/
def ReadsCopy (r : Request) (s : State) (e : Eng) (c : Bool) : Prop :=
  r.flag0 = false ∧ r.params = [byte e.val, byte c.toNat, 0, 0] ∧ s.hasEngine e.val = true ∧
    s.holdsEngine r.port e.val = true

/-- The copy of engine `e`'s parameters that COPY names: the staged one, or the active one (R76). -/
def State.copy (s : State) (e : Eng) (c : Bool) : EngineParams :=
  if c then (s.eng e).params.staged else (s.eng e).params.active

/-- A request's parameters are ENGINE and zeros. -/
def AsksEngine (r : Request) (s : State) (e : Eng) : Prop :=
  r.flag0 = false ∧ r.params = [byte e.val, 0, 0, 0] ∧ s.hasEngine e.val = true ∧ s.holdsEngine r.port e.val = true

/-- SLUICE_COMMIT passes its checks of form, principal, range, tenancy and fit (R79 to R88). -/
def CommitFormed (r : Request) (s : State) : Prop :=
  let f := parseCommit r.params
  badCommit r = false ∧ (f.principalOnly = true → r.port = 0) ∧ f.ref ≤ 3 ∧ s.strangers f = false ∧
    s.hasEngine f.ref = true ∧ field r.params 22 4 ≤ 999999999 ∧
    s.scopeOutside r.port f = false ∧ f.misfit = false

/-- No pending commit stands against a group: no held scope overlaps it, and no engine of a paired group is in a
handshake (R79, R98). -/
def Unopposed (f : CommitForm) (s : State) : Prop :=
  (∀ k ∈ s.commits, f.overlaps k = false) ∧
    (f.isPaired = true → ∀ k ∈ s.commits, k.paired = true → k.engines &&& f.engines = 0)

/-- A port has taken events and nothing else: its event queue, the lost count and the IBIs may differ (R42, R56). -/
def OnlyEvents (old new : Port) : Prop :=
  new = { old with
    events := new.events, lost := new.lost, firstLost := new.firstLost, ibis := new.ibis,
    ibiPayload := new.ibiPayload }

/-- What happens on one engine's signal path changes that engine alone, but not its parameters; events may be raised
and counted, and free values drawn. -/
def EngineOnly (e : Eng) (s t : State) : Prop :=
  t = { s with fresh := t.fresh, ports := t.ports, engines := t.engines, collector := t.collector } ∧
    (∀ d, d ≠ e → t.eng d = s.eng d) ∧ (t.eng e).params = (s.eng e).params ∧ (∀ p, OnlyEvents (s.port p) (t.port p))

/-- A ready module answers an event with a next state that differs on one engine's signal path alone and has a
property. -/
def ActsOn (e : Eng) (c : Instr) (s : State) (P : State → Prop) : Prop :=
  ∃ t, exec c s = .next t ∧ EngineOnly e s t ∧ P t

/-- A batch of flow changes takes effect at the next MFC boundary, or is staged under its token (R309, R310). -/
def State.enacted (s : State) (r : Request) (ops : List FlowOp) : State :=
  if batchToken r = 0 then { s with immediate := s.immediate ++ [.flow ops] }
  else { s with flows := { s.flows with
    staged := s.flows.staged ++ ops.map fun o => { token := batchToken r, port := r.port, op := o } } }

/-- Entries staged under tokens stay within 4,096 with `n` more, where the batch has a token (R309). -/
def RoomFor (r : Request) (s : State) (n : Nat) : Prop :=
  batchToken r ≠ 0 → s.flows.staged.length + s.stagedKeys + n ≤ 4096

/-- A state with events raised and counted, and nothing else. -/
def Raises (s t : State) : Prop :=
  t = { s with ports := t.ports, collector := t.collector } ∧ ∀ p, OnlyEvents (s.port p) (t.port p)

/-- An event of a ready module leads to a state, but for the events that it raises and counts. -/
def Yields (c : Instr) (s u : State) : Prop := ∃ t, exec c s = .next t ∧ Raises u t

/-- A word of context memory holds data, its check bits agree, and no merge entry waits for it (R358, R364). -/
def State.holdsClean (s : State) (wa : Nat) (d : BitVec 128) : Prop :=
  s.word wa = { kind := .data, data := d } ∧ s.mergeOf wa = none

/-- The configuration of R395 is well formed and in range, and every input that it names is populated (R378, R395). -/
def HwFormed (p : Bytes) (s : State) : Prop :=
  let c := parseHw p
  c.mode.toNat ≤ 2 ∧ c.refout.toNat ≤ 3 ∧ c.flags.toNat ≤ 15 ∧ c.refin.toNat ≤ 15 ∧
    (∀ i ∈ c.force :: c.priority.toList, badInput i = false ∧ s.inputOk i = true) ∧
    (∀ o ∈ c.ppsOut.toList, o.src.toNat ≤ 2) ∧ (∀ at_ ∈ [7, 37, 45], zeroAt p at_ 1 = true) ∧ zeroAt p 52 4 = true ∧
    hwRangeOk c = true

/-- The configuration of R419 is well formed and in range (R402 to R407, R419). -/
def TimeFormed (p : Bytes) (s : State) : Prop :=
  let c := parseTime p
  c.outSrc.toNat ≤ 2 ∧ c.switch.toNat ≤ 1 ∧ c.decSync.toNat ≤ 5 ∧ noThree c.lts = true ∧ noThree c.capDomain = true ∧
    c.capDomain.toNat ≤ 63 ∧ zeroAt p 7 1 = true ∧ zeroAt p 24 8 = true ∧ zeroAt p 60 4 = true ∧
    zeroAt p 92 4 = true ∧ c.slewRate.toNat ≤ 1000 ∧ (∀ v ∈ c.asym.toList, within v.toInt 10000000 = true) ∧
    (∀ b ∈ c.td.toList, badTd b = false ∧ s.hasLane b.port.toNat = true ∧ b.lockWin.toNat ≤ 100 ∧
      b.stepThr.toNat ≤ 10000)

/-- What answering a request changes, and nothing more: on the issuing port the queue of requests, the replies, the
chain, its requests in execution and the IBIs; the journal's sequence number (R41, R42, R51, R479). -/
def OnlyReplied (p : Hp) (s t : State) : Prop :=
  (∃ ports sup, t = { s with ports := ports, sup := sup }) ∧
  (∃ n, t.sup = { s.sup with journal := n, journalFails := t.sup.journalFails }) ∧
  (∀ q, q ≠ p → t.port q = s.port q) ∧
  t.port p = { s.port p with queue := (t.port p).queue, replies := (t.port p).replies,
                             running := (t.port p).running,
                             chainFailed := (t.port p).chainFailed, ibis := (t.port p).ibis,
                             ibiPayload := (t.port p).ibiPayload }

end Sys2Proof.Machine
end

