-- ==== Sys2Proof/Certificates/Slice0/Obligations.lean ====
section
/-! DEFINITION. The statements about this block, for the provers: what a step takes, how a request is served, what each
family of commands does and leaves alone, what reset leaves, and the invariants that every step keeps.  A statement
whose docstring names a log entry rests there on the model's choice. -/

open Sys2Proof Sys2Proof.Machine

/-! ## The step -/

/-- With a command at the front of the queue, a step is that command's execution with the queue's rest. -/
def Obligations.StepTakesFrontCommand : Prop :=
  ∀ (c : Instr) (rest : List Instr) (s : State), s.pending = c :: rest → step s = exec c { s with pending := rest }

/-- On an empty queue a step executes the accepted request that is next: a waiting PRIO request of any port before
every other, ports in rotation from the one after the port served last (R50), where a port whose chained request is
still in execution is passed over by the ordinary ones (R51); an opcode that no row has is answered UNKNOWN-OPCODE
(R63); with no request to serve the block idles for one MFC period (log 3). -/
def Obligations.StepServesQueuedRequest : Prop :=
  (∀ (s : State) (op : BitVec 16) (r : Request) (i : Instr), s.pending = [] → s.nextRequest = some (op, r) →
    instrOf op r = some i → step s = exec i { s with turn := r.port }) ∧
  (∀ (s : State) (op : BitVec 16) (r : Request), s.pending = [] → s.nextRequest = some (op, r) →
    instrOf op r = none → Executes true r s →
    step s = answered op r .unknownOpcode [] (({ s with turn := r.port } : State).takeRequest op r)) ∧
  (∀ s : State, s.pending = [] → s.nextRequest = none → step s = .next s.idle) ∧
  (∀ (s : State) (op : BitVec 16) (r : Request) (p : Hp), s.serving = true →
    (s.port p).queue.find? (fun x => urgent x.2) = some (op, r) →
    (∀ q : Hp, q - s.turn - 1 < p - s.turn - 1 → ∀ x ∈ (s.port q).queue, urgent x.2 = false) →
    s.nextRequest = some (op, r)) ∧
  (∀ (s : State) (op : BitVec 16) (r : Request) (p : Hp), s.serving = true →
    (∀ q : Hp, ∀ x ∈ (s.port q).queue, urgent x.2 = false) → (s.port p).queue.head? = some (op, r) →
    (s.port p).chainOpen = false →
    (∀ q : Hp, q - s.turn - 1 < p - s.turn - 1 → (s.port q).queue = [] ∨ (s.port q).chainOpen = true) →
    s.nextRequest = some (op, r)) ∧
  (∀ s : State, (s.serving = false ∨ ∀ q : Hp, (∀ x ∈ (s.port q).queue, urgent x.2 = false) ∧
    ((s.port q).queue = [] ∨ (s.port q).chainOpen = true)) → s.nextRequest = none)

/-- Every command of the table has an outcome in every state: the block neither faults nor refuses. -/
def Obligations.EveryCommandAnswersNextState : Prop :=
  ∀ (c : Instr) (s : State), ∃ t, exec c s = .next t

/-! ## Serving a request (R50 to R54, R58, R62) -/

/-- After a chained request of a port has failed, every opcode but PORT_RESET is answered SKIPPED without being
executed, unless it has PRIO, which no chain skips (R50, R51). A request with both PRIO and CHAIN is answered
BAD-PARAM, whatever its opcode (R50, R53 step 6). A principal-only opcode on HP1 to HP3 is answered NOT-PRINCIPAL and
changes nothing, before its parameters are looked at (R53 step 10, R58). VER_FLAGS bit 0 set on HP0 is answered
BAD-PARAM by every opcode (R43, R53 step 11). In headless running every opcode that the tables do not mark as served is
answered HEADLESS (R62). While a request is not served, before ready, during a takeover, and without PRIO while a
chained request of its port is still in execution, an opcode's command leaves the module as it is: the request waits
(R51, R468, R508). -/
def Obligations.ChecksBeforeExecution : Prop :=
  (∀ (op : BitVec 16) (r : Request) (i : Instr) (s : State), instrOf op r = some i → op ≠ 0x0103 →
     s.serves r = true → r.prio = false → (s.port r.port).chainFailed = true → (op, r) ∉ (s.port r.port).offChain →
     exec i s = answered op r .skipped [] (s.takeRequest op r)) ∧
  (∀ (op : BitVec 16) (r : Request) (i : Instr) (s : State), instrOf op r = some i → s.serves r = true →
     r.prio = true → r.chain = true → exec i s = answered op r .badParam [] (s.takeRequest op r)) ∧
  (∀ (op : BitVec 16) (r : Request) (i : Instr) (s : State), instrOf op r = some i → op ∈ principalOpcodes →
     r.port ≠ 0 → Executes false r s → exec i s = answered op r .notPrincipal [] (s.takeRequest op r)) ∧
  (∀ (op : BitVec 16) (r : Request) (i : Instr) (s : State), instrOf op r = some i → r.port = 0 → r.flag0 = true →
     Executes false r s → exec i s = answered op r .badParam [] (s.takeRequest op r)) ∧
  (∀ (op : BitVec 16) (r : Request) (i : Instr) (s : State), instrOf op r = some i → op ∉ headlessOpcodes →
     s.serves r = true → s.sup.headless = true → (r.prio && r.chain) = false →
     ((s.port r.port).chainFailed && !urgent r) = false →
     exec i s = answered op r .headless [] (s.takeRequest op r)) ∧
  (∀ (op : BitVec 16) (r : Request) (i : Instr) (s : State), instrOf op r = some i → s.serves r = false →
     exec i s = .next s)

/-- A request answered with a failure status has changed nothing (R54), but for what the chapters say of the words and
contexts that a check reads (FLOW_ADD, FLOW_DELETE, CTX_LOAD, CTX_RELOAD, CTX_REKEY, CTX_READ, MEM_WORD_READ,
MEM_INJECT: R359, R369) and of the failed unwraps that a port counts (KEY_LOAD, KEY_REWRITE, PORTKEY_LOAD: R330). -/
def Obligations.FailedRequestChangesNothing : Prop :=
  ∀ (op : BitVec 16) (r : Request) (i : Instr) (s : State), instrOf op r = some i → s.serves r = true →
    op ∉ ([0x0A05, 0x0A06, 0x0A08, 0x0A0A, 0x0A0B, 0x0A0C, 0x0C05, 0x0C06, 0x0B01, 0x0B02, 0x0B05] : List (BitVec 16)) →
    (∃ st data t, exec i s = answered op r st data t ∧ (statusOk st = false → t = s.takeRequest op r)) ∨
    ((op = 0x0507 ∨ op = 0x0F03 ∨ op = 0x0F04) ∧ ∃ t, exec i s = .next t ∧ (t.port r.port).replies = (s.port r.port).replies)

/-! ## The port buses (R38 to R42, R48, R49) -/

/-- R39: BCR, DCR and the 48-bit provisional ID. R38: the static address is 0x10 + 4 × L + n. -/
def Obligations.PortIdentifiersAndStaticAddress : Prop :=
  (∀ (p : Hp) (addr : BitVec 7) (s : State), AddressedTo p addr s →
     exec (.cccGetbcr p addr) s = .next (s.onBus p (.data [0x26])) ∧
     exec (.cccGetdcr p addr) s = .next (s.onBus p (.data [0x00])) ∧
     ∃ id : BitVec 48, exec (.cccGetpid p addr) s = .next (s.onBus p (.data (be 6 id))) ∧
       id.toNat / 2 ^ 33 = 0x0E57 ∧ id.getLsbD 32 = false ∧ id.toNat / 2 ^ 16 % 2 ^ 16 = 0x1280 ∧
       id.toNat / 2 ^ 12 % 2 ^ 4 = p.val ∧ id.toNat / 2 ^ 9 % 2 ^ 3 = s.power.strap0.toNat ∧
       id.toNat % 2 ^ 9 = (crc32 (fit 16 s.ident.serial)).toNat % 2 ^ 9) ∧
  (∀ (p : Hp) (s : State), (s.staticAddr p).toNat = 0x10 + 4 * s.power.strap0.toNat + p.val ∧
     0x10 ≤ (s.staticAddr p).toNat ∧ (s.staticAddr p).toNat ≤ 0x2F)

/-- The CCCs of R40 on a port that they reach: dynamic addresses, IBI enables, lengths, HDR, and the answer to every
other CCC. The two bytes of GETSTATUS are free (log 10). A transfer that is not the port's changes nothing but what
the port does on its bus: it acknowledges neither its static address while it holds a dynamic one, nor anything before
the module is ready (R38, R40). -/
def Obligations.CccsAndForeignTransfers : Prop :=
  (∀ (p : Hp) (addr a : BitVec 7) (to_ : Option (BitVec 7)) (value : BitVec 16) (code : Byte) (s : State),
     (CccReaches p to_ s →
       (∃ t, exec (.cccEnec p to_) s = .next t ∧ (t.port p).ibiOn = true ∧ (t.port p).bus = .ack ∧
         ((s.port p).dynAddr ≠ none → (s.port p).hasTraffic = true → (t.port p).ibis = (s.port p).ibis + 1)) ∧
       exec (.cccDisec p to_) s = .next ((s.updPort p fun q => { q with ibiOn := false }).onBus p .ack) ∧
       (value = 4096 → exec (.cccSetmwl p to_ value) s = .next (s.onBus p .ack) ∧
         exec (.cccSetmrl p to_ value) s = .next (s.onBus p .ack)) ∧
       (to_ ≠ none → exec (.cccOther p to_ code) s = .next (s.onBus p .nack)) ∧
       (to_ = none → exec (.cccOther p to_ code) s = .next (s.onBus p .ignored))) ∧
     (CccReaches p none s →
       exec (.cccRstdaa p) s = .next ((s.updPort p fun q => { q with dynAddr := none }).onBus p .ack) ∧
       exec (.cccEnthdr0 p) s = .next ((s.updPort p fun q => { q with hdr := true }).onBus p .ack) ∧
       ((s.port p).dynAddr = none → ∃ t, exec (.cccEntdaa p [] a) s = .next t ∧ (t.port p).dynAddr = some a ∧
         ((s.port p).ibiOn = true → (s.port p).hasTraffic = true → (t.port p).ibis = (s.port p).ibis + 1))) ∧
     (AddressedTo p addr s →
       ((s.port p).dynAddr = none → ∃ t, exec (.cccSetdasa p addr a) s = .next t ∧ (t.port p).dynAddr = some a ∧
         (t.port p).bus = .ack) ∧
       ((s.port p).dynAddr ≠ none →
         exec (.cccSetnewda p addr a) s = .next ((s.updPort p fun q => { q with dynAddr := some a }).onBus p .ack)) ∧
       exec (.cccGetstatus p addr) s = .next (s.skip.onBus p (.data (beBytes 2 s.free))) ∧
       exec (.cccGetmwl p addr) s = .next (s.onBus p (.data [0x10, 0x00])) ∧
       exec (.cccGetmrl p addr) s = .next (s.onBus p (.data [0x10, 0x00, 3])))) ∧
  (∀ (p : Hp) (addr : BitVec 7) (x : Xfer) (b : Bytes) (s : State), s.drives = true →
     (s.ready = false ∨ (∃ d, (s.port p).dynAddr = some d ∧ addr ≠ d)) →
     exec (.requestPacket p addr x b) s = .next (s.onBus p .nack) ∧
     exec (.replyRead p addr x) s = .next (s.onBus p .nack))

/-- R48: a request that reaches the sequence check with SEQ = NEXT_SEQ is accepted and NEXT_SEQ goes on by one modulo
65,536; with any value but NEXT_SEQ − 1 it is answered SEQUENCE with NEXT_SEQ as its data, and NEXT_SEQ stays.  Stated
for packets with a CRC-32 trailer; WRAP counts the wraps (R46). -/
def Obligations.RequestsFollowTheSequence : Prop :=
  ∀ (p : Hp) (addr : BitVec 7) (tag : Byte) (op seq : BitVec 16) (chain prio flag0 : Bool) (params : Bytes) (s : State),
    AddressedTo p addr s → (s.port p).slotsUsed < 16 → params.length ≤ 4080 → (s.port p).authReq = false →
    ∃ t, exec (.requestPacket p addr .sdr
        (crcPacket (byte (0x10 + bit chain 2 + bit prio 1 + bit flag0 0)) tag op seq params)) s = .next t ∧
      (t.port p).bus = .ack ∧ t.engines = s.engines ∧ t.mem = s.mem ∧ t.power = s.power ∧
      (seq = (s.port p).nextSeq →
        (t.port p).nextSeq = seq + 1 ∧ (t.port p).replies = (s.port p).replies ∧
        (t.port p).wrap = (if seq = 0xFFFF then (s.port p).wrap + 1 else (s.port p).wrap) ∧
        (t.port p).queue = (s.port p).queue ++
          [(op, { port := p, tag := tag, seq := seq, auth := none, chain := chain, prio := prio, flag0 := flag0,
                  params := params })]) ∧
      (seq ≠ (s.port p).nextSeq → (t.port p).nextSeq = (s.port p).nextSeq ∧ (t.port p).queue = (s.port p).queue) ∧
      (seq ≠ (s.port p).nextSeq → seq ≠ (s.port p).nextSeq - 1 → (t.port p).replies = (s.port p).replies ++
        [plainReply op seq tag chain prio .sequence (be 2 (s.port p).nextSeq)]) ∧
      (seq = (s.port p).nextSeq - 1 → ∀ c, (s.port p).retained = some c → c.seq = seq →
        (t.port p).replies = (s.port p).replies ++ [c]) ∧
      (seq = (s.port p).nextSeq - 1 → (∀ c, (s.port p).retained = some c → c.seq ≠ seq) →
        (t.port p).replies = (s.port p).replies)

/-- Packets that fail steps 1 to 4 of R53 are answered VERSION, LENGTH, CRC-ERROR and AUTH-REQUIRED with a CRC-32
trailer, are not accepted and do not advance NEXT_SEQ; a packet below 8 bytes is discarded and counted, and with 16
reply slots taken a write is NACKed (R41, R44, R45, R47, R53). -/
def Obligations.RejectedPacketsAreNotAccepted : Prop :=
  ∀ (p : Hp) (addr : BitVec 7) (b : Bytes) (s : State), AddressedTo p addr s →
    ((s.port p).slotsUsed ≥ 16 → ∃ t, exec (.requestPacket p addr .sdr b) s = .next t ∧ (t.port p).bus = .nack ∧
      (t.port p).queue = (s.port p).queue ∧ (t.port p).nextSeq = (s.port p).nextSeq) ∧
    ((s.port p).slotsUsed < 16 → b.length < 8 → ∃ t, exec (.requestPacket p addr .sdr b) s = .next t ∧
      (t.port p).shortWrites = (s.port p).shortWrites + 1 ∧ (t.port p).replies = (s.port p).replies ∧
      (t.port p).nextSeq = (s.port p).nextSeq) ∧
    ((s.port p).slotsUsed < 16 → 8 ≤ b.length → ∀ st,
      (st = .version ∧ (u8 b 0).toNat / 16 ≠ 1 ∨
       st = .length ∧ (u8 b 0).toNat / 16 = 1 ∧
        (field b 4 2 > 4080 ∨ b.length ≠ 8 + field b 4 2 + (if (u8 b 0).getLsbD 3 then 8 else 4)) ∨
       st = .crcError ∧ (u8 b 0).toNat / 16 = 1 ∧ (u8 b 0).getLsbD 3 = false ∧ field b 4 2 ≤ 4080 ∧
        b.length = 12 + field b 4 2 ∧ be 4 (crc32 (b.take (8 + field b 4 2))) ≠ b.drop (8 + field b 4 2) ∨
       st = .keyAbsent ∧ (u8 b 0).toNat / 16 = 1 ∧ (u8 b 0).getLsbD 3 = true ∧ field b 4 2 ≤ 4080 ∧
        b.length = 16 + field b 4 2 ∧ (s.port p).cak.key = none) →
      ∃ t, exec (.requestPacket p addr .sdr b) s = .next t ∧ (t.port p).nextSeq = (s.port p).nextSeq ∧
        (t.port p).queue = (s.port p).queue ∧ (t.port p).replies = (s.port p).replies ++
          [plainReply (u16 b 2) (u16 b 6) (u8 b 1) ((u8 b 0).getLsbD 2) ((u8 b 0).getLsbD 1) st []])

/-- A read returns the oldest queued reply, removes it and keeps it as the copy; with no reply queued it is NACKed
(R41, R49). IBI_REPEAT requests an IBI while a queue is non-empty, an address is held and IBIs are enabled (R42). The
reply packet of R43 to R46: version 1, the request's CHAIN and PRIO, AUTH exactly when a CMAC trailer follows, TAG and
SEQ echoed, the status, LENGTH and the data; trailers of 4 and of 8 bytes. -/
def Obligations.RepliesAndTheirPackets : Prop :=
  (∀ (p : Hp) (addr : BitVec 7) (s : State),
     (AddressedTo p addr s →
       (∀ c rest, (s.port p).replies = c :: rest → ∃ t, exec (.replyRead p addr .sdr) s = .next t ∧
         (t.port p).bus = .data c.bytes ∧ (t.port p).replies = rest ∧ (t.port p).retained = some c ∧
         (t.port p).queue = (s.port p).queue ∧ t.engines = s.engines) ∧
       ((s.port p).replies = [] → ∃ t, exec (.replyRead p addr .sdr) s = .next t ∧ (t.port p).bus = .nack ∧
         (t.port p).retained = (s.port p).retained)) ∧
     (s.ready = true → (s.port p).holdoff ≠ 0 → (s.port p).ibiOn = true → (s.port p).dynAddr ≠ none →
       (s.port p).hasTraffic = true → exec (.ibiRepeat p) s = .next (s.updPort p fun q =>
         { q with ibis := q.ibis + 1, ibiPayload := q.payload }))) ∧
  (∀ (auth : Option AuthContext) (chain prio : Bool) (tag : Byte) (seq : BitVec 16) (st : Status) (data : Bytes),
     (∀ x ∈ [(0, [byte (0x10 + bit auth.isSome 3 + bit chain 2 + bit prio 1), tag]), (2, be 2 (statusCode st)),
         (4, beBytes 2 data.length), (6, be 2 seq), (8, data)],
       slice (replyPacket auth chain prio tag seq st data) x.1 x.2.length = x.2) ∧
     (auth = none → (replyPacket auth chain prio tag seq st data).length = 12 + data.length ∧
       (replyPacket auth chain prio tag seq st data).drop (8 + data.length) =
         be 4 (crc32 ((replyPacket auth chain prio tag seq st data).take (8 + data.length)))) ∧
     (∀ a, auth = some a → (replyPacket auth chain prio tag seq st data).drop (8 + data.length) =
       (cmac a.key ([1] ++ be 6 a.sessionStart ++ be 2 a.wrap ++
         (replyPacket auth chain prio tag seq st data).take (8 + data.length))).take 8))

/-! ## Opcodes of the port and of the Watershed table (R65 to R69, R59, R60, R73) -/

/-- PORT_ECHO returns its parameters unchanged (R68). PORT_INFO answers the 32 bytes of its table (R65), TENANCY_GET the
80 bytes of a port's tenancy, for PORT 0 everything that the variant has (R58, R60), WS_INFO the Watershed table's
header, WS_READ the bytes of the table from OFFSET, as many as there are of COUNT (R70, R73), and WS_FIND the place and
length of the record found; none of these changes anything. PORT_CONFIG sets AUTH_REQ, HOLDOFF and EVENT_MASK, on HP0
for any port and elsewhere for its own (R58, R66). TENANCY_SET replaces the tenancy of one port and raises
port.tenancy.changed there, whose DATA tells an empty tenancy from another (R59, R60). -/
def Obligations.PortOpcodes : Prop :=
  (∀ (r : Request) (s : State), r.flag0 = false →
     (Executes false r s → Reads 0x0104 .portEcho r s (fun _ => r.params)) ∧
     (Executes true r s → r.params = [] → Reports 0x0101 .portInfo r s 32
       [(0, [byte r.port.val]), (1, [byte (bit (r.port == 0) 0 +
           bit (r.port == 0 || (s.port r.port).tenancy != {}) 1)]),
        (2, [(s.staticAddr r.port).setWidth 8]), (3, [((s.port r.port).dynAddr.getD 0).setWidth 8]),
        (4, be 2 (r.seq + 1)), (6, be 2 (s.port r.port).wrap), (8, be 6 (s.port r.port).sessionStart),
        (14, be 6 s.moduleTime), (20, [byte (bit (s.port r.port).cak.key.isSome 0 + bit (s.port r.port).authReq 1)]),
        (21, [byte (bit s.ready 0 + bit s.sup.headless 1 + bit s.faultLow 2 +
          bit (s.weirState == 2 && !s.weir.skipped) 3)]),
        (22, [byte (16 - ((s.takeRequest 0x0101 r).port r.port).queue.length)]),
        (23, [byte (15 - ((s.takeRequest 0x0101 r).port r.port).slotsUsed)]),
        (24, beBytes 2 (s.port r.port).events.length), (26, [0, 0]), (28, be 4 (s.port r.port).lost)]) ∧
     (Executes false r s → ∀ n : Hp, r.params = [byte n.val] → (r.port = 0 ∨ r.port = n) →
       ∀ w : Tenancy, w = (if n = 0 then s.everything else (s.port n).tenancy) →
       Reports 0x0107 .tenancyGet r s 80
         [(0, [byte n.val]), (1, [w.engines.setWidth 8]), (2, [w.tpo.setWidth 8]), (3, [w.sc.setWidth 8]),
          (4, be 8 w.cports), (12, [byte w.ctx.length]), (13, [byte w.ks.length]), (14, [0, 0]),
          (16, fit 32 (w.ctx.map fun x => be 4 x.first ++ be 4 x.count).flatten),
          (48, fit 32 (w.ks.map fun x => be 4 x.first ++ be 4 x.count).flatten)]) ∧
     (Executes true r s → r.params = [] → Reports 0x0201 .wsInfo r s 16
       [(0, [0x57, 0x53, 0x48, 0x44]), (4, [0x00, 0x01]), (6, [0, 0]), (8, beBytes 4 s.wsTable.length),
        (12, be 4 (crc32 (s.wsTable.drop 16)))]) ∧
     (Executes true r s → ∀ (o : BitVec 32) (n : BitVec 16), r.params = be 4 o ++ be 2 n → n ≠ 0 → n.toNat ≤ 4080 →
       o.toNat < s.wsTable.length → Reads 0x0202 .wsRead r s (fun s => slice s.wsTable o.toNat n.toNat)) ∧
     (Executes true r s → ∀ (k n : BitVec 16) (at_ len : Nat), r.params = be 2 k ++ be 2 n →
       findRecord k.toNat s.wsRecords 16 n.toNat = some (at_, len) →
       Reads 0x0203 .wsFind r s (fun _ => beBytes 4 at_ ++ beBytes 2 len ++ zeros 2))) ∧
  (∀ s : State, s.everything = {
     engines := BitVec.ofNat 4 (2 ^ s.engineCount - 1), tpo := 15,
     sc := BitVec.ofNat 4 (2 ^ s.engineCount - 1), cports := BitVec.ofNat 64 (2 ^ s.laneCount - 1),
     ctx := [{ first := 0, count := 1048576 }], ks := [{ first := 0, count := 65536 }] }) ∧
  (∀ (r : Request) (s : State) (n : Hp), Executes false r s →
     (∀ (on : Bool) (holdoff : BitVec 16) (mask : BitVec 32), r.flag0 = false →
       r.params = [byte n.val, byte on.toNat] ++ be 2 holdoff ++ be 4 mask → groupMaskOk mask = true →
       (r.port = 0 ∨ r.port = n) → (on = true → (s.port n).cak.key ≠ none) →
       (on = false → (s.port n).authReq = true → r.auth ≠ none) →
       Writes 0x0102 .portConfig r s fun s => s.updPort n fun q =>
         { q with authReq := on, holdoff := holdoff, mask := mask }) ∧
     (Formed r 80 → n ≠ 0 → r.port = 0 → field r.params 0 1 = n.val → badTenancy r.params = false →
       s.tenancyExists (parseTenancy r.params) = true → s.tenancyConflict n (parseTenancy r.params) = false →
       ∃ u : State, exec (.tenancySet r) s = answered 0x0106 r .ok []
           (u.raise 0x0104 (.host n) [if (parseTenancy r.params).isEmpty then 0 else 1]) ∧
         (u.port n).tenancy = parseTenancy r.params ∧ (u.port n).events = (s.port n).events ∧
         (∀ q, q ≠ n → q ≠ r.port → u.port q = s.port q) ∧ u.engines = s.engines ∧ u.commits = s.commits ∧
         u.moduleTime = s.moduleTime))

/-- R67: what PORT_RESET sets and discards, that its own reply is the only one left and carries the prefix in force
before it, that a chain ends with it, failed or with a request still in execution, and that it leaves the event queue,
the lost count, the tenancy, PORT_CONFIG and the dynamic address. It is executed even after a chained predecessor failed
(R51). -/
def Obligations.PortResetLeavesItsReply : Prop :=
  ∀ (r : Request) (s : State), s.serves r = true → (r.prio && r.chain) = false → Formed r 0 →
    ∃ t, exec (.portReset r) s = .next t ∧
      (t.port r.port).nextSeq = 0 ∧ (t.port r.port).wrap = 0 ∧ (t.port r.port).sessionStart = s.moduleTime ∧
      (t.port r.port).queue = [] ∧ (t.port r.port).retained = none ∧
      (t.port r.port).replies = [{ seq := r.seq, opcode := 0x0103, bytes := replyTo r .ok [] }] ∧
      (t.port r.port).chainFailed = false ∧ (t.port r.port).chainOpen = false ∧
      (t.port r.port).events = (s.port r.port).events ∧ (t.port r.port).lost = (s.port r.port).lost ∧
      (t.port r.port).tenancy = (s.port r.port).tenancy ∧ (t.port r.port).authReq = (s.port r.port).authReq ∧
      (t.port r.port).holdoff = (s.port r.port).holdoff ∧ (t.port r.port).mask = (s.port r.port).mask ∧
      (t.port r.port).dynAddr = (s.port r.port).dynAddr ∧ (∀ q, q ≠ r.port → t.port q = s.port q) ∧
      t.engines = s.engines ∧ t.mem = s.mem ∧ t.keys = s.keys

/-- R69: EVENT_READ takes 1 byte, MAX, from 1 to 255, and MAX = 0 is answered BAD-PARAM. It returns the k oldest
records, k the smaller of MAX and the number queued, 16 bytes each, and removes them; an empty queue gives no bytes.
When it frees space after losses, one event.overflow is queued behind the records that are older than the first lost
event, with that event's time and the lost count, which is cleared. A full queue counts the events it loses, saturating;
the first lost one's time is kept (R57). -/
def Obligations.EventsReadAndLost : Prop :=
  (∀ (r : Request) (s : State) (max : Byte), Executes true r s → r.flag0 = false → r.params = [max] →
     (max = 0 → Fails 0x0105 .eventRead r s .badParam) ∧
     (max ≠ 0 → ∃ (data : Bytes) (u : State), exec (.eventRead r) s = .next (u.conclude 0x0105 r .ok data) ∧
       data.length = 16 * min max.toNat (s.port r.port).events.length ∧
       (∀ (i : Nat) (e : Event), (s.port r.port).events[i]? = some e → i < max.toNat →
         slice data (16 * i) 16 = be 6 e.time ++ be 2 e.code ++ be 2 e.inst ++ fit 6 e.data) ∧
       (∀ q, q ≠ r.port → u.port q = s.port q) ∧
       ((s.port r.port).lost = 0 → (u.port r.port).events = (s.port r.port).events.drop max.toNat) ∧
       ((s.port r.port).lost ≠ 0 → ((s.port r.port).events.drop max.toNat).length < 256 →
         (∀ e ∈ (s.port r.port).events, e.time ≠ (s.port r.port).firstLost ∧
           ((s.port r.port).firstLost - e.time).toNat < 2 ^ 47) → ∃ o, (u.port r.port).lost = 0 ∧
         (u.port r.port).events = (s.port r.port).events.drop max.toNat ++ [o] ∧ o.code = 0x0101 ∧
         o.time = (s.port r.port).firstLost ∧ o.data.take 4 = be 4 (s.port r.port).lost))) ∧
  (∀ (r : Request) (s : State), Executes true r s → r.params.length ≠ 1 → Fails 0x0105 .eventRead r s .badParam) ∧
  (∀ (q : Port) (e : Event), q.events.length ≥ 256 →
     (q.pushEvent e).events = q.events ∧
     (q.pushEvent e).lost.toNat = min (q.lost.toNat + 1) 0xFFFFFFFF ∧
     (q.lost = 0 → (q.pushEvent e).firstLost = e.time) ∧ (q.lost ≠ 0 → (q.pushEvent e).firstLost = q.firstLost))

/-! ## Staged configuration and commits (R74 to R91) -/

/-- A write of an engine's configuration completes and stages: with parameters in form and range, in the port's tenancy,
and with no commit holding the scope, TX_CONFIG_WRITE, RX_CONFIG_WRITE, CAL_CONFIG_WRITE, FEC_CONFIG_WRITE,
PROFILE_WRITE, FRAME_CONFIG_WRITE and SLOTMAP_WRITE answer OK without data, and the staged copy of the engine's block of
that class is what the parameters say; nothing else changes (R74, R126, R163, R186, R213, R22, R250, R251). -/
def Obligations.EngineConfigWritesComplete : Prop :=
  ∀ (r : Request) (s : State) (e : Eng), Executes false r s →
     (NamesEngine r s e 32 → zeroAt r.params 1 3 = true → txRangeOk s.ident.variant (parseTx r.params) = true →
       s.holdsScope 4 e.val = false →
       exec (.txConfigWrite r) s =
         .next (((s.takeRequest 0x0401 r).stage e fun p => { p with tx := parseTx r.params }).conclude 0x0401 r .ok [])) ∧
     (NamesEngine r s e 32 → zeroAt r.params 18 2 = true → zeroAt r.params 28 4 = true →
       (parseRx r.params).cdMode.toNat ≤ 2 → (parseRx r.params).flags.toNat ≤ 3 →
       ((parseRx r.params).mimoTaps = 0 ∨ (parseRx r.params).mimoTaps.toNat % 2 = 1) →
       rxRangeOk (parseRx r.params) = true → s.holdsScope 5 e.val = false →
       exec (.rxConfigWrite r) s =
         .next (((s.takeRequest 0x0501 r).stage e fun p => { p with rx := parseRx r.params }).conclude 0x0501 r .ok [])) ∧
     (NamesEngine r s e 16 → zeroAt r.params 3 1 = true → zeroAt r.params 13 3 = true →
       (parseCal r.params).adcMode.toNat ≤ 3 → (parseCal r.params).dacMode.toNat ≤ 1 →
       (parseCal r.params).attempts ≠ 0 → calRangeOk (parseCal r.params) = true → s.holdsScope 6 e.val = false →
       exec (.calConfigWrite r) s =
         .next (((s.takeRequest 0x0601 r).stage e fun p => { p with cal := parseCal r.params }).conclude 0x0601 r .ok [])) ∧
     (∀ w i flags : Byte, r.params = [byte e.val, w, i, flags, 0, 0, 0, 0] → NamesEngine r s e 8 →
       (w = 0 ∨ 4 ≤ w.toNat ∧ w.toNat ≤ 16) → i.toNat ≤ 4 → flags.toNat ≤ 1 → s.holdsScope 3 e.val = false →
       exec (.fecConfigWrite r) s =
         .next (((s.takeRequest 0x0701 r).stage e fun p => { p with fec := ⟨w, i, flags⟩ }).conclude 0x0701 r .ok [])) ∧
     (NamesEngine r s e 8 → zeroAt r.params 1 3 = true → badProfile (field r.params 4 4) = false →
       s.holdsScope 0 e.val = false → (field r.params 4 4 % 16 = 0 ∨ s.calInvalid e = false) →
       exec (.profileWrite r) s =
         .next (((s.takeRequest 0x0801 r).stage e fun p => { p with profile := u32 r.params 4 }).conclude 0x0801 r .ok [])) ∧
     (NamesEngine r s e 24 → zeroAt r.params 7 1 = true → zeroAt r.params 14 2 = true →
       (parseFrame r.params).scFlags.toNat ≤ 3 → (parseFrame r.params).selMode.toNat ≤ 2 →
       thresholdOk (parseFrame r.params).confirmN = true → thresholdOk (parseFrame r.params).lofN = true →
       (parseFrame r.params).scKey.toNat ≤ 65536 →
       ((parseFrame r.params).scKey ≠ 0 → s.holdsKs r.port ((parseFrame r.params).scKey.toNat - 1) 1 = true) →
       s.holdsScope 2 e.val = false →
       exec (.frameConfigWrite r) s =
         .next (((s.takeRequest 0x0803 r).stage e fun p => { p with frame := parseFrame r.params }).conclude 0x0803 r .ok [])) ∧
     (NamesEngine r s e 132 → zeroAt r.params 2 2 = true → (∀ b ∈ slice r.params 4 128, b.toNat ≤ s.laneCount) →
       (parseMap r.params).mapgen.toNat ≤ 15 → s.holdsScope 1 e.val = false →
       exec (.slotmapWrite r) s =
         .next (((s.takeRequest 0x0805 r).stage e fun p => { p with slotmap := parseMap r.params }).conclude 0x0805 r .ok []))

/-- A read of an engine's configuration returns the copy that COPY names and changes nothing (R76). A COPY above 1 is
answered BAD-PARAM by every read of engine configuration (R76). -/
def Obligations.EngineConfigReads : Prop :=
  (∀ (r : Request) (s : State) (e : Eng) (c : Bool), Executes false r s → ReadsCopy r s e c →
     Reads 0x0402 .txConfigRead r s (fun s => renderTx (byte e.val) (s.copy e c).tx) ∧
     Reads 0x0502 .rxConfigRead r s (fun s => renderRx (byte e.val) (s.copy e c).rx) ∧
     Reads 0x0602 .calConfigRead r s (fun s => renderCal (byte e.val) (s.copy e c).cal) ∧
     Reads 0x0702 .fecConfigRead r s (fun s => [byte e.val, (s.copy e c).fec.w, (s.copy e c).fec.i,
       (s.copy e c).fec.flags, 0, 0, 0, 0]) ∧
     Reads 0x0802 .profileRead r s (fun s => [byte e.val, 0, 0, 0] ++ be 4 (s.copy e c).profile) ∧
     Reads 0x0804 .frameConfigRead r s (fun s => renderFrame (byte e.val) (s.copy e c).frame) ∧
     Reads 0x0806 .slotmapRead r s (fun s => renderMap (byte e.val) (s.copy e c).slotmap)) ∧
  (∀ (r : Request) (s : State) (e : Eng) (c : Byte), Executes false r s → NamesEngine r s e 4 →
     r.params = [byte e.val, c, 0, 0] → 1 < c.toNat →
     Fails 0x0402 .txConfigRead r s .badParam ∧ Fails 0x0502 .rxConfigRead r s .badParam ∧
     Fails 0x0602 .calConfigRead r s .badParam ∧ Fails 0x0702 .fecConfigRead r s .badParam ∧
     Fails 0x0802 .profileRead r s .badParam ∧ Fails 0x0804 .frameConfigRead r s .badParam ∧
     Fails 0x0806 .slotmapRead r s .badParam)

/-- What a configuration write stages reads back byte for byte: each layout of parameters and its reading agree (R126,
R163, R186, R250, R251). So do a port's formation and a lane's equalisation (R277, R278). -/
def Obligations.ConfigurationReadsBack : Prop :=
  (∀ (b : Bytes) (e : Byte), u8 b 0 = e →
     (b.length = 32 → zeroAt b 1 3 = true → renderTx e (parseTx b) = b) ∧
     (b.length = 32 → zeroAt b 18 2 = true → zeroAt b 28 4 = true → renderRx e (parseRx b) = b) ∧
     (b.length = 16 → zeroAt b 3 1 = true → zeroAt b 13 3 = true → renderCal e (parseCal b) = b) ∧
     (b.length = 24 → zeroAt b 7 1 = true → zeroAt b 14 2 = true → renderFrame e (parseFrame b) = b) ∧
     (b.length = 132 → zeroAt b 2 2 = true → renderMap e (parseMap b) = b)) ∧
  (∀ (b : Bytes) (n : Byte), u8 b 0 = n →
     (b.length = 8 → zeroAt b 5 1 = true → renderCport n (parseCport b) = b) ∧
     (b.length = 12 → zeroAt b 8 4 = true → renderLaneEq n (parseLaneEq b) = b))

/-- R80: at most 16 commits are pending in the module at once, whatever step is taken; a further commit is answered
QUEUE-FULL. -/
def Obligations.AtMostSixteenCommitsPending : Prop :=
  (∀ s t : State, s.commits.length ≤ 16 → step s = .next t → t.commits.length ≤ 16) ∧
  (∀ (r : Request) (s : State), Executes false r s → CommitFormed r s → Unopposed (parseCommit r.params) s →
    (parseCommit r.params).trigger ≠ 0 → s.commits.length = 16 → Fails 0x0301 .sluiceCommit r s .queueFull)

/-- An accepted commit is pending under the lowest free number from 1 to 16 (log 34), holds its scope and changes no
parameter; a validation-only group is answered with COMMIT_ID and STATE 0 (log 34) and holds nothing (R79, R81, R84,
R88). A staged write into a held scope, and a commit whose scope overlaps one, is answered BUSY and changes nothing
(R79). SLUICE_CANCEL withdraws a pending commit: a local one at
once, a paired one before C with ABORT; the hold ends and the staged copies stand (R89). SLUICE_DISCARD makes the
staged copies of the engines' classes equal to the active ones (R90). SLUICE_STATUS lists what is pending (R91). -/
def Obligations.SluiceRequests : Prop :=
  (∀ (r : Request) (s : State) (e : Eng), Executes false r s →
     (NamesEngine r s e 32 → zeroAt r.params 1 3 = true → txRangeOk s.ident.variant (parseTx r.params) = true →
       s.holdsScope 4 e.val = true → Fails 0x0401 .txConfigWrite r s .busy) ∧
     (NamesEngine r s e 8 → zeroAt r.params 1 3 = true → badProfile (field r.params 4 4) = false →
       s.holdsScope 0 e.val = true → Fails 0x0801 .profileWrite r s .busy) ∧
     (NamesEngine r s e 132 → zeroAt r.params 2 2 = true → (∀ b ∈ slice r.params 4 128, b.toNat ≤ s.laneCount) →
       (parseMap r.params).mapgen.toNat ≤ 15 → s.holdsScope 1 e.val = true →
       Fails 0x0805 .slotmapWrite r s .busy) ∧
     (CommitFormed r s → (parseCommit r.params).trigger ≠ 0 →
       (∃ k ∈ s.commits, (parseCommit r.params).overlaps k = true) → Fails 0x0301 .sluiceCommit r s .busy)) ∧
  (∀ (r : Request) (s : State), Executes false r s → CommitFormed r s → Unopposed (parseCommit r.params) s →
     s.commits.length < 16 →
     ((parseCommit r.params).trigger = 3 → (s.domain 0).everLocked = true) →
     s.validate (parseCommit r.params).classes (parseCommit r.params).engines (parseCommit r.params).token = none →
     s.leadFault r.params (parseCommit r.params) = false →
     ((parseCommit r.params).trigger = 0 → Reads 0x0301 .sluiceCommit r s fun s =>
       [0, 0, 0, 0] ++ be 4 (s.eng (engOf (parseCommit r.params).ref)).tx.fn) ∧
     ((parseCommit r.params).trigger ≠ 0 → ∃ k t, exec (.sluiceCommit r) s =
         answered 0x0301 r .ok ([byte k.id, k.state, 0, 0]
           ++ be 4 (s.eng (engOf (parseCommit r.params).ref)).tx.fn) t ∧
       t.commits = s.commits ++ [k] ∧ 1 ≤ k.id ∧ k.id ≤ 16 ∧ (∀ x ∈ s.commits, x.id ≠ k.id) ∧
       (∀ i, 1 ≤ i → i < k.id → ∃ x ∈ s.commits, x.id = i) ∧ k.port = r.port ∧
       k.classes = (parseCommit r.params).classes ∧ k.engines = (parseCommit r.params).engines ∧
       k.token = (parseCommit r.params).token ∧ (∀ e, (t.eng e).params = (s.eng e).params) ∧
       (∀ c e, c < 16 → k.classes.getLsbD c = true → k.engines.getLsbD e = true → t.holdsScope c e = true))) ∧
  (∀ (r : Request) (s : State), Executes false r s →
     (∀ k, r.flag0 = false → r.params = [byte k.id] → k.id < 256 → s.commitOf k.id = some k →
       (r.port = 0 ∨ r.port = k.port) → (k.paired = true → s.pastPoint k = false) →
       ∃ t, exec (.sluiceCancel r) s = answered 0x0302 r .ok [] t ∧ t.commitOf k.id = none ∧
         (∀ e, (t.eng e).params = (s.eng e).params)) ∧
     (∀ k, r.flag0 = false → r.params = [byte k.id] → k.id < 256 → s.commitOf k.id = some k →
       (r.port = 0 ∨ r.port = k.port) → k.paired = true → s.pastPoint k = true →
       Fails 0x0302 .sluiceCancel r s .busy) ∧
     (Formed r 12 → badCommitHead r.params = false → (parseCommit r.params).trigger = 0 →
       (parseCommit r.params).ref = 0 → ((parseCommit r.params).engines ≠ 0 ↔ (parseCommit r.params).scoped = true) →
       ((parseCommit r.params).token ≠ 0 ↔ (parseCommit r.params).tokened = true) →
       ((parseCommit r.params).principalOnly = true → r.port = 0) → s.strangers (parseCommit r.params) = false →
       s.scopeOutside r.port (parseCommit r.params) = false →
       (∀ k ∈ s.commits, (parseCommit r.params).overlaps k = false) →
       ∃ t, exec (.sluiceDiscard r) s = answered 0x0303 r .ok [] t ∧
         (∀ e, (t.eng e).params.active = (s.eng e).params.active) ∧
         (∀ e : Eng, (parseCommit r.params).engines.getLsbD e.val = true → (t.eng e).params.staged =
           (s.eng e).params.staged.taking (s.eng e).params.active (parseCommit r.params).classes) ∧
         (∀ e : Eng, (parseCommit r.params).engines.getLsbD e.val = false → (t.eng e).params = (s.eng e).params)) ∧
     (Formed r 0 → Reads 0x0304 .sluiceStatus r s fun s => [byte s.commits.length, 0, 0, 0] ++
       (s.commitsInOrder.map fun k => [byte k.id, if k.paired && s.pastPoint k then 6 else k.state,
         k.engines.setWidth 8, byte k.port.val] ++ be 2 k.classes ++ [0, 0] ++ be 4 k.token ++
         be 4 (k.target k.ref) ++ be 4 k.far[k.ref] ++ beBytes 4 (if k.engines = 0 ∧ k.trigger ≠ 2 then 0 else
           ((s.eng k.ref).deframer.roundTrip * 100 + 262143) / 262144)).flatten))

/-- A local commit at its boundary gives the active copies of its classes on every working engine that it names the
values of the staged ones, leaves every engine it does not name and every staged copy alone, and is no longer pending;
the boundary is that of the next tick (R74, R83, R85; log 3). The instants of a paired commit: at D the initiator
confirms where every acknowledgement has come and otherwise abstains, without CONFIRM the responder abstains at its
target, and abstaining changes no parameter; at its own target the transmit side of every working named engine takes
effect, and the receive side keeps what it ran on, until it follows at its own instant (R95, R96). -/
def Obligations.CommitInstants : Prop :=
  (∀ (s : State) (k : Commit), s.ready = true → s.commitOf k.id = some k →
     ({ s with moduleTime := s.moduleTime + 1 } : State).boundaryDue k = true →
     ∃ t, exec (.commitBoundary k.id) s = .next t ∧ t.commitOf k.id = none ∧ t.moduleTime = s.moduleTime ∧
       (∀ e, (t.eng e).params.staged = (s.eng e).params.staged) ∧
       (∀ e, k.has e = false → (t.eng e).params = (s.eng e).params) ∧
       (∀ e, k.has e = true → (s.eng e).tileFailed = true → (t.eng e).params = (s.eng e).params) ∧
       (∀ e, k.has e = true → (s.eng e).tileFailed = false →
         (t.eng e).params.active = (s.eng e).params.active.taking (s.eng e).params.staged k.classes) ∧
       (∀ p, (t.port p).tenancy = (s.port p).tenancy) ∧ t.weir = s.weir) ∧
  (∀ (s : State) (k : Commit), s.ready = true → s.commitOf k.id = some k →
     (s.deadlineDue k = true → s.allIn k k.acks = true → ∃ t, exec (.ackDeadline k.id) s = .next t ∧
       (∀ k', t.commitOf k.id = some k' → k'.state = 3) ∧
       (∀ e, k.has e = true → (t.eng e).tx.cann = ⟨k.token, k.target e, k.classes, 2⟩)) ∧
     (s.deadlineDue k = true → s.allIn k k.acks = false → ∃ t, exec (.ackDeadline k.id) s = .next t ∧
       t.commitOf k.id = none ∧ (∀ e, (t.eng e).params = (s.eng e).params)) ∧
     (s.responderDue k = true → ∃ t, exec (.responderTarget k.id) s = .next t ∧ t.commitOf k.id = none ∧
       (∀ e, (t.eng e).params = (s.eng e).params)) ∧
     (({ s with moduleTime := s.moduleTime + 1 } : State).txSwitchDue k = true → k.rxDone = 0 →
       ∃ t, exec (.pairedTxSwitch k.id) s = .next t ∧
         (∀ k', t.commitOf k.id = some k' → k'.txDone = true) ∧
         (∀ e, (t.eng e).params.staged = (s.eng e).params.staged) ∧
         (∀ e, k.has e = true → (s.eng e).tileFailed = false →
           (t.eng e).params.active = (s.eng e).params.active.taking (s.eng e).params.staged k.classes ∧
           (t.eng e).txParams = (t.eng e).params.active ∧ (t.eng e).rxParams = (s.eng e).rxParams)) ∧
     (∀ e, s.rxSwitchDue k e = true → k.txDone = true → (∀ d, d ≠ e → s.rxSwitchDue k d = false) →
       ∃ t, exec (.pairedRxSwitch k.id) s = .next t ∧ (t.eng e).rxParams = (s.eng e).params.active ∧
         (∀ k', t.commitOf k.id = some k' → k'.rxDone.getLsbD e.val = true) ∧
         (∀ d, (t.eng d).params = (s.eng d).params)))

/-! ## Engines: status, transmitter, receiver, converters, decoder, frames -/

/-- The status reads of an engine return their tables and change nothing: TX_STATUS (R127), RX_STATUS (R165), RX_MONITOR
with zeros where VALID is clear (R154), CAL_STATUS with an entry for each of four ADCs and four DACs (R187),
CAL_SLICE_READ (R188), CAL_RECORDS, at most 255 entries (R189), FRAME_STATUS (R252) and RX_CAPTURE_READ (R161).
FEC_STATUS returns its table; it draws free values for figures that no rule defines (log 13), and changes nothing else
(R214). -/
def Obligations.EngineStatusReads : Prop :=
  ∀ (r : Request) (s : State) (e : Eng), Executes false r s →
    (AsksEngine r s e →
      Reports 0x0403 .txStatus r s 16
        [(0, [byte e.val]), (1, [(s.eng e).txCode]),
         (2, [if (s.eng e).tx.mode = .enabling then
           (if (s.eng e).tx.step = 4 ∧ (s.eng e).rampDone = true then 5 else byte (s.eng e).tx.step) else 0]),
         (3, [(s.eng e).tx.lastQuench]),
         (4, [((s.eng e).tx.acquired &&& ~~~(s.eng e).tx.held).setWidth 8]), (5, [(s.eng e).tx.held.setWidth 8]),
         (6, be 2 (s.eng e).tx.pOut), (8, be 4 (s.eng e).tx.freqErr), (12, be 2 (s.eng e).tx.clipped), (14, [0, 0])] ∧
      Reports 0x0503 .rxStatus r s 16
        [(0, [byte e.val]), (1, [rxCode (s.eng e).rx.mode]), (2, [(s.eng e).rx.lastRelock]),
         (3, [(s.eng e).rx.frozen.setWidth 8]), (4, be 4 (BitVec.ofInt 32 (s.eng e).rx.cdBulk)),
         (8, be 4 (s.eng e).rx.acqCount), (12, be 4 (s.eng e).rx.acqTime)] ∧
      (∀ m : RxMonitor, m = (s.eng e).rx.monitor → Reports 0x0504 .rxMonitor r s 56
        [(0, [byte e.val]), (1, [rxCode (s.eng e).rx.mode]), (2, be 2 m.valid),
         (4, be 2 (if m.valid.getLsbD 0 then m.pIn else 0)), (6, be 2 (if m.valid.getLsbD 1 then m.osnr else 0)),
         (8, be 2 (if m.valid.getLsbD 2 then m.snrE else 0)), (10, be 2 (if m.valid.getLsbD 3 then m.q else 0)),
         (12, be 4 (if m.valid.getLsbD 4 then m.berPre else 0)),
         (16, be 4 (if m.valid.getLsbD 5 then m.cdTotal else 0)),
         (20, be 4 (if m.valid.getLsbD 6 then m.cdResid else 0)),
         (24, be 2 (if m.valid.getLsbD 7 then m.dgd else 0)), (26, be 2 (if m.valid.getLsbD 8 then m.pdl else 0)),
         (28, be 4 (if m.valid.getLsbD 9 then m.sopRate else 0)),
         (32, be 4 (if m.valid.getLsbD 10 then m.freqOff else 0)),
         (36, be 4 (if m.valid.getLsbD 11 then m.clkOff else 0)),
         (40, [byte (s.eng e).rx.taps]), (41, [byte (s.eng e).kernel]), (42, [0, 0]), (44, be 4 m.pilotErr),
         (48, be 6 m.time), (54, [0, 0])]) ∧
      Reports 0x0603 .calStatus r s 68 ([(0, [byte e.val]),
          (1, [byte (bit (s.calInvalid e) 0 + bit (s.eng e).cal.held 1)]), (2, [0, 0])]
        ++ (List.finRange 4).map (fun k => (4 + 8 * k.val, adcEntry k.val (s.adcClock e) (s.eng e).cal.held
            (s.eng e).params.active.cal.adcMode (s.eng e).cal.adc[k]))
        ++ (List.finRange 4).map (fun k => (36 + 8 * k.val, dacEntry k (s.dacClock e) (s.eng e).cal.held (s.dacRuns e)
            (s.eng e).cal (s.eng e).dacSettings.dacMode))) ∧
      (∃ data, exec (.fecStatus r) s = answered 0x0703 r .ok data
          { s.takeRequest 0x0703 r with fresh := s.fresh + 5 } ∧
        Lays data 32 [(0, [byte e.val]), (1, [(s.eng e).fecCode]), (5, [byte (s.eng e).iLimit]),
          (6, [match (s.eng e).fec.phase with
            | some c => if (s.eng e).rxParams.line = 6 then 0xFF else byte c.val | none => 0xFF]),
          (7, [byte (bit (s.eng e).fec.etOff 0 + bit ((s.eng e).fec.last.uncorr != 0) 1)]),
          (12, be 2 (s.eng e).marginUsed), (16, be 4 (sat 32 (s.eng e).fec.last.positions)),
          (20, be 4 (sat 32 (s.eng e).fec.last.uncorr)), (24, be 4 (sat 32 (s.eng e).fec.last.corrected)),
          (28, be 4 (s.eng e).fec.chainFnr)] ∧
        (∀ w, (s.eng e).rxParams.window = some w → slice data 2 1 = [byte w]) ∧
        (∀ i, (s.eng e).rxParams.iters = some i → slice data 3 1 = [byte i]) ∧
        ((s.eng e).fec.iActive ≠ 0 → slice data 4 1 = [byte (s.eng e).fec.iActive]) ∧
        (∀ l, (s.eng e).rxParams.limit (s.eng e).fec.iActive = some l → ∃ v, slice data 8 4 = beBytes 4 v ∧
          (v = l * 2 ^ 36 / 40000 ∨ v = l * 2 ^ 36 / 40000 + 1)) ∧
        ((s.eng e).fec.last.advances ≠ 0 → ∃ v, slice data 14 2 = beBytes 2 v ∧
          (v = (s.eng e).fec.last.iterations * 256 / (s.eng e).fec.last.advances ∨
            v = (s.eng e).fec.last.iterations * 256 / (s.eng e).fec.last.advances + 1))) ∧
      (∀ d : Deframer, d = (s.eng e).deframer → Reports 0x0807 .frameStatus r s 80
        [(0, [byte e.val]), (1, [deframerCode d.mode]),
         (2, [byte (bit d.los 0 + bit d.lof 1 + bit d.map 2 + bit d.link 3 + bit d.bdi 4 + bit d.twin 5 +
           bit (d.departed && d.los) 6)]),
         (3, [d.rxProfile.setWidth 8]), (4, be 4 (s.eng e).tx.fn), (8, be 4 d.fnr), (12, [d.rxLinkid]),
         (13, [d.rxMapgen.setWidth 8]), (14, [sat 8 (s.eng e).tx.chain.owed]),
         (15, [if (s.eng e).params.active.isTwin then byte (s.eng (lowerOf e)).twin.selected.val else 0]),
         (16, be 2 d.rx.bdiSum), (18, d.rx.dep), (20, be 4 d.rx.aps), (24, be 8 d.rx.fstat), (32, be 16 d.replaced),
         (48, be 16 d.rx.bdiSlot), (64, beBytes 4 d.roundTrip),
         (68, be 4 (if (s.eng e).params.active.isTwin then satInt 32 (s.eng (lowerOf e)).twin.skew else 0)),
         (72, [(s.eng e).scState]), (73, [0]), (74, be 2 (s.eng e).sc.slips), (76, be 4 d.ohcFail)])) ∧
    (∀ k : Fin 8, r.flag0 = false → r.params = [byte e.val, byte k.val, 0, 0] → s.hasEngine e.val = true →
      s.holdsEngine r.port e.val = true → Reads 0x0604 .calSliceRead r s fun s =>
        if h : k.val < 4 then [byte k.val, 0, 1, 0] ++
          ((s.eng e).cal.adc[k.val].active.toList.map fun x => [byte (sliceCode x.mode + bit x.marginal 2 +
            bit x.fuseFailed 3), if x.mode = .active then byte x.pos else 0xFF, x.offset, x.gain] ++
            be 2 (x.skew.signExtend 16)).flatten
        else [byte k.val, 0, 0, 4] ++
          ((s.eng e).cal.dac[k.val - 4].active.toList.map fun x => [byte (bit x.marginal 2 + bit x.fuseFailed 3),
            byte x.pos, x.offset, x.gain] ++ be 2 (x.skew.signExtend 16)).flatten) ∧
    (Formed r 0 → Reads 0x0605 .calRecords r s fun s => [byte (s.records.take 255).length, 0, 0, 0] ++
      ((s.records.take 255).map fun f => be 2 f.type ++ [f.engine, f.status] ++ be 2 f.version ++ [0, 0] ++
        be 4 f.length).flatten) ∧
    (∀ (o : BitVec 32) (n : BitVec 16), r.flag0 = false → r.params = [byte e.val, 0] ++ be 4 o ++ be 2 n → n ≠ 0 →
      n.toNat ≤ 4080 → o.toNat < (s.eng e).rx.capture.length → s.hasEngine e.val = true →
      s.holdsEngine r.port e.val = true →
      Reads 0x0508 .rxCaptureRead r s (fun s => slice (s.eng e).rx.capture o.toNat n.toNat))

/-- The enable and quench sequences, one event at a time, each at the conditions under which the rules have it: the
locker closes, and the receiver leaves OFF; the bias loops are acquired; tx.ready, at the launch target within ±0.5 dB;
the last DEP frame; laser current at zero; a laser fault of a lit engine; and an output more than 1.5 dB off the
attenuator's setpoint, which quenches nothing. Only the engine's signal path changes (R117, R120 to R123, R128). -/
def Obligations.TransmitterSequence : Prop :=
  ∀ (s : State) (e : Eng) (pOut nearest : BitVec 16) (freqErr : BitVec 32) (cause : Fin 3), s.ready = true →
    ((s.eng e).tx.mode = .enabling → (s.eng e).tx.step = 1 → ActsOn e (.lockerLocked e) s fun t =>
      (t.eng e).tx.mode = .enabling ∧
      (t.eng e).tx.step = (if (s.eng e).tx.hostHold == 0x3F && !s.gauge.hold then 4 else 3) ∧
      ((s.eng e).rx.mode = .off → (t.eng e).rx.mode = .waitLight)) ∧
    ((s.eng e).tx.mode = .enabling → (s.eng e).tx.step = 3 → s.gauge.hold = false →
      ActsOn e (.biasAcquired e) s fun t => (t.eng e).tx.step = 4 ∧ (t.eng e).tx.acquired = 0x3F) ∧
    ((s.eng e).tx.mode = .enabling → (s.eng e).tx.step = 4 → (s.eng e).tx.setpoint = (s.eng e).txParams.launch →
      (s.eng e).txParams.powerOk pOut (s.eng e).txParams.launch 50000000 = true →
      ActsOn e (.txReady e pOut freqErr) s fun t =>
      (t.eng e).tx.mode = .lit ∧ (t.eng e).tx.pOut = pOut ∧ (t.eng e).tx.freqErr = freqErr) ∧
    ((s.eng e).tx.mode = .departing → (s.eng e).tx.depLeft = some 0 → ActsOn e (.depEnd e) s fun t =>
      (t.eng e).tx.mode = .quenching ∧ (t.eng e).tx.setpoint = -3500000000 ∧ (t.eng e).rx.mode = .off ∧
      ((s.eng e).txParams.line = 0 → (t.eng e).tx.running = false)) ∧
    ((s.eng e).tx.mode = .quenching → (s.eng e).tx.enableNext = false →
      (s.eng e).tx.newFn = false → ActsOn e (.txQuenched e) s fun t =>
      (t.eng e).tx.lastQuench = (s.eng e).tx.reason ∧
      (t.eng e).tx.mode = (if (s.eng e).tx.fault then .laserFault else if s.weir.hold then .heldDark else .dark)) ∧
    ((s.eng e).tx.mode = .lit → s.gauge.hold = false → s.hasEngine e.val = true → (s.eng e).tx.fault = false →
      s.calInvalid e = false → ActsOn e (.laserFault e cause) s fun t =>
      (t.eng e).tx.fault = true ∧ (t.eng e).tx.mode = .quenching ∧ (t.eng e).tx.reason = 7) ∧
    ((s.eng e).tx.mode = .lit → (s.eng e).txParams.powerOk pOut (s.eng e).tx.setpoint 150000000 = false →
      (s.eng e).txParams.powerOk nearest (s.eng e).tx.setpoint 150000000 = false →
      ActsOn e (.txPowerFault e pOut nearest) s fun t => (t.eng e).tx.pOut = pOut ∧ (t.eng e).tx.mode = .lit)

/-- The requests that act on an engine's signal path: TX_BIAS_HOLD, RX_REACQUIRE, RX_FREEZE in Oxbow, and RX_CAPTURE,
which starts at the next MFC boundary and is answered when the capture ends (R128, R160 to R162). -/
def Obligations.SignalPathRequests : Prop :=
  ∀ (r : Request) (s : State) (e : Eng), Executes false r s → r.flag0 = false → s.hasEngine e.val = true →
    s.holdsEngine r.port e.val = true →
    (∀ hold : BitVec 6, r.params = [byte e.val, hold.setWidth 8] →
      ∃ t, exec (.txBiasHold r) s = answered 0x0404 r .ok [] t ∧ (t.eng e).tx.hostHold = hold ∧
        (t.eng e).tx.held = (if laserDark (s.eng e).tx || s.gauge.hold then 0x3F else hold) ∧
        (∀ d, d ≠ e → t.eng d = s.eng d)) ∧
    (∀ short : Bool, r.params = [byte e.val, byte short.toNat, 0, 0] → acquiring (s.eng e).rx.mode = true →
      ∃ t, exec (.rxReacquire r) s = answered 0x0505 r .ok [] t ∧ (t.eng e).rx.mode = .freq ∧
        (t.eng e).rx.fast = short ∧ (t.eng e).rx.frozen = 0 ∧ (t.eng e).rx.lastRelock = 5 ∧
        (∀ d, d ≠ e → t.eng d = s.eng d)) ∧
    (∀ mask : BitVec 4, r.params = [byte e.val, mask.setWidth 8, 0, 0] → (s.eng e).params.active.oxbow = true →
      Writes 0x0506 .rxFreeze r s fun s => s.updEng e fun x => { x with rx := { x.rx with frozen := mask } }) ∧
    (∀ (point : Byte) (count : BitVec 16), r.params = [byte e.val, point] ++ be 2 count → point ≠ 0 →
      point.toNat ≤ 6 → count ≠ 0 → count.toNat ≤ (capturePoint point.toNat).2 → (s.eng e).rx.capturing = none →
      (s.eng e).rx.mode ≠ .off →
      exec (.rxCapture r) s = .next (((s.takeRequest 0x0507 r).updEng e fun x => { x with rx := { x.rx with
        capture := [], capturing := some {
          request := r, point := point, count := count.toNat, start := s.moduleTime + 1 } } }).runOn
          0x0507 r))

/-- The receiver's states, one event at a time, each at the readings under which the rules have it, from loss of light
to TRACK: what R136, R139, R143 to R145, R148 and R149 make of each, with the relock causes of R166, on the engine's
signal path alone. A tap update sets the count in force and masks the taps beyond it; the penalty that the taps do not
fix is free (R142, R453; log 13). RX_CAPTURE_DONE fills the capture buffer and answers the request that waits (R161). -/
def Obligations.ReceiverStates : Prop :=
  ∀ (s : State) (e : Eng), s.ready = true →
    (∀ p, acquiring (s.eng e).rx.mode = true → p.toInt < (s.eng e).rxParams.losThreshold →
      ActsOn e (.losTimer ⟨e, p⟩) s fun t =>
      (t.eng e).rx.mode = .waitLight ∧ (t.eng e).deframer.los = true ∧ (t.eng e).deframer.mode = .off ∧
      ((s.eng e).rx.mode = .track → (t.eng e).rx.lastRelock = 1)) ∧
    (∀ p, (s.eng e).rx.mode = .waitLight → (s.eng e).rxParams.losThreshold + 100 < p.toInt →
      ActsOn e (.lightTimer ⟨e, p⟩) s fun t => (t.eng e).rx.mode = .freq ∧ (t.eng e).deframer.los = false) ∧
    (∀ offset, (s.eng e).rx.mode = .freq → offsetOk offset = true → (s.eng e).rxParams.unmodulated = false →
      ActsOn e (.freqEstimated ⟨e, offset⟩) s fun t => (t.eng e).rx.carrier = offset ∧
      (t.eng e).rx.mode = (if (s.eng e).rxParams.loop || (s.eng e).rxParams.rx.cdMode == 2 then .clock else .cd) ∧
      ((s.eng e).rxParams.loop = true → (t.eng e).rx.cdBulk = 0) ∧
      ((s.eng e).rxParams.loop = false → (s.eng e).rxParams.rx.cdMode = 2 → (s.eng e).rx.fast = true →
        (t.eng e).rx.cdBulk = (s.eng e).rx.cdBulk)) ∧
    (∀ c i j v, (s.eng e).rx.mode = .cd → (s.eng e).rx.search = some c → c.value i j = some v →
      ActsOn e (.cdSearchPassEnd e (some (i, j))) s fun t =>
        (t.eng e).rx.mode = .clock ∧ (t.eng e).rx.cdBulk = (if (s.eng e).rxParams.loop then 0 else v)) ∧
    (∀ c, (s.eng e).rx.mode = .cd → (s.eng e).rx.search = some c → ActsOn e (.cdSearchPassEnd e none) s fun t =>
      (t.eng e).rx.mode =
        (if (s.eng e).rxParams.loop || (s.eng e).rxParams.rx.cdMode == 2 then .clock else .cd)) ∧
    (∀ l, (s.eng e).rx.mode = .clock → l.length = 16 → (∀ v ∈ l, v < 1 / 32) →
      ActsOn e (.timingLock ⟨e, l⟩) s fun t => (t.eng e).rx.mode = .premix) ∧
    ((s.eng e).rx.mode = .premix → ActsOn e (.cmaConverged e) s fun t =>
      (t.eng e).rx.mode = (if (s.eng e).rxParams.patterned then .hold else .pilot)) ∧
    (∀ l g, (s.eng e).rx.mode = .pilot → ((s.receive e l).eng e).rx.pipe.found = some g →
      ActsOn e (.pilotFound ⟨e, l⟩) s fun t =>
      (t.eng e).rx.mode = .decode ∧ (t.eng e).rx.grid = some g ∧ (t.eng e).deframer.mode = .hunt) ∧
    (∀ l, ((s.eng e).rx.mode = .premix ∨ (s.eng e).rx.mode = .pilot ∨ (s.eng e).rx.mode = .decode ∨
        (s.eng e).rx.mode = .track) → l.length = 16 → (∀ v ∈ l, 1 / 8 < v) →
      ActsOn e (.timingLockLost ⟨e, l⟩) s fun t =>
      (t.eng e).rx.mode = .freq ∧ (t.eng e).rx.lastRelock = 4 ∧ (t.eng e).rx.frozen = 0) ∧
    (∀ l, (s.eng e).rx.mode = .track → 256 < ((s.receive e l).eng e).rx.pipe.flags.count true →
      ActsOn e (.carrierLockLost ⟨e, l⟩) s fun t =>
      (t.eng e).rx.mode = .freq ∧ (t.eng e).rx.lastRelock = 3 ∧ (t.eng e).rx.fast = true) ∧
    ((s.eng e).rx.mode = .clock ∨ (s.eng e).rx.mode = .premix ∨ (s.eng e).rx.mode = .pilot ∨
        (s.eng e).rx.mode = .decode → ActsOn e (.rxStateTimeout e) s fun t =>
      (t.eng e).rx.mode = .freq ∧ (t.eng e).rx.lastRelock = 2) ∧
    ((s.eng e).rxParams.line ≠ 0 → ∀ g u, ActsOn e (.tapUpdate e g u) s fun t =>
      (t.eng e).rx.taps = min (s.eng e).tapsCommitted (s.eng e).tapLimit ∧
      ((s.eng e).tapsCommitted ≤ (s.eng e).tapLimit → (t.eng e).tapPenalty = 0) ∧
      ((s.eng e).rx.frozen.getLsbD 0 = true → (t.eng e).rx.eq =
        maskTaps (min (min (s.eng e).tapsCommitted (s.eng e).tapLimit) (s.eng e).rx.taps) (s.eng e).rx.eq)) ∧
    (∀ j c full, (s.eng e).rx.capturing = some j → (s.moduleTime - j.start).toNat < 2 ^ 47 →
      full = (if j.point == 6 then
          tapBytes (maskTaps ((s.receive e c.samples).eng e).rx.taps ((s.receive e c.samples).eng e).rx.eq)
        else ((s.receive e c.samples).eng e).rx.capture) →
      (j.size ≤ full.length ∨ (s.eng e).rxParams.line = 0) →
      ∃ t, exec (.rxCaptureDone e c) s = answered 0x0507 j.request .ok [] t ∧ (t.eng e).rx.capturing = none ∧
      (t.eng e).rx.capture = full.take j.size)

/-- The converters' background calibration: a slice's result goes to the shadow table and leaves the table in use as
it is; the wait ends; an apply makes the shadow table the one in use, for an ADC and for a DAC (R168, R171, R174,
R177). The decoder: symbols come in with each window advance; where the window is full, or its chain has ended, the
oldest position is output and counted, as an uncorrectable one where the decoder's outcome is not good, and with the
first data group of a chain whose start was known CHAIN_FNR is set (R202, R206, R210, R214); otherwise nothing is
counted. A group hunt over the profile's G offsets ends on the smallest count, where that passes the fraction test
(R204). `smallest` finds the least count, and the first of equal ones (R204). -/
def Obligations.CalibrationAndDecoder : Prop :=
  (∀ (s : State) (e : Eng) (k : Fin 4) (pairs : List (Estimate × Estimate)), s.ready = true →
     (∀ x v w, s.adcClock e = true → (s.eng e).cal.held = false → (s.eng e).cal.adc[k].phase = .measuring →
       ((s.eng e).adcSettings k).adcMode ≠ 0 → (s.eng e).cal.adc[k].test = some x →
       measured ((s.eng e).adcSettings k) (s.eng e).cal.adc[k].shadow[x] pairs = some (v, w) →
       ActsOn e (.calMeasureDone e k pairs) s fun t =>
         (t.eng e).cal.adc[k].active = (s.eng e).cal.adc[k].active ∧
         (t.eng e).cal.adc[k].phase = (if ((s.eng e).adcSettings k).interval == 0 then .closing else .waiting) ∧
         (∀ d : Fin 4, d ≠ k → (t.eng e).cal.adc[d] = (s.eng e).cal.adc[d])) ∧
     (s.adcClock e = true → (s.eng e).cal.held = false → (s.eng e).cal.adc[k].phase = .waiting →
       ActsOn e (.calIntervalEnd e k) s fun t => (t.eng e).cal.adc[k].phase = .closing ∧
         (t.eng e).cal.adc[k].active = (s.eng e).cal.adc[k].active) ∧
     (s.adcClock e = true → (s.eng e).cal.held = false → (s.eng e).cal.adc[k].phase = .closing →
       ActsOn e (.calApply e (Fin.castAdd 4 k)) s fun t =>
         (t.eng e).cal.adc[k].active = (t.eng e).cal.adc[k].shadow ∧ (t.eng e).cal.adc[k].phase ≠ .closing) ∧
     (s.dacClock e = true → (s.eng e).cal.held = false → (s.eng e).cal.dac[k].due ≠ none →
       ActsOn e (.calApply e (Fin.natAdd 4 k)) s fun t =>
         (t.eng e).cal.dac[k].active = (s.eng e).cal.dac[k].shadow ∧ (t.eng e).cal.dac[k].due = none) ∧
     (∀ v w, s.dacRuns e = true →
       measured (s.eng e).dacSettings (s.eng e).cal.dac[Fin.ofNat 4 ((s.eng e).cal.dacPhase.val / 4)].shadow[
         Fin.ofNat 4 (s.eng e).cal.dacPhase.val] pairs = some (v, w) →
       ActsOn e (.dacCalStepDone e pairs) s fun t =>
         (t.eng e).cal.dacPhase = (s.eng e).cal.dacPhase + 1 ∧
         (t.eng e).cal.dac[Fin.ofNat 4 ((s.eng e).cal.dacPhase.val / 4)].due ≠ none ∧
         (∀ d : Fin 4, (t.eng e).cal.dac[d].active = (s.eng e).cal.dac[d].active))) ∧
  (∀ (s : State) (e : Eng), s.ready = true → ((s.eng e).rx.mode = .decode ∨ (s.eng e).rx.mode = .track) →
     (∀ a u w o, (s.eng e).fec.aligned = true → u = (s.fecEffort e).absorb e a.noise →
       (u.eng e).fec.window.head? = some w →
       (u.eng e).fec.ready ((((u.eng e).paramsFor w.line).window).getD 0) = true →
       o = (u.eng e).fec.decode w ((((u.eng e).paramsFor w.line).window).getD 0) →
       ActsOn e (.decoderAdvance e a) s fun t =>
       (t.eng e).fec.now.positions = (s.eng e).fec.now.positions + 1 ∧
       (t.eng e).fec.now.advances = (s.eng e).fec.now.advances + 1 ∧
       (t.eng e).fec.now.iterations = (s.eng e).fec.now.iterations + o.ran ∧
       (o.good = true → (t.eng e).fec.now.uncorr = (s.eng e).fec.now.uncorr) ∧
       (o.good = false → (t.eng e).fec.now.uncorr = (s.eng e).fec.now.uncorr + 1 ∧
         (t.eng e).fec.now.corrected = (s.eng e).fec.now.corrected) ∧
       (∀ f, w.last = true → w.chainStart = some f → (t.eng e).fec.chainFnr = f)) ∧
     (∀ a u, (s.eng e).fec.aligned = true → u = (s.fecEffort e).absorb e a.noise →
       (∀ w, (u.eng e).fec.window.head? = some w →
         (u.eng e).fec.ready ((((u.eng e).paramsFor w.line).window).getD 0) = false) →
       ActsOn e (.decoderAdvance e a) s fun t =>
       (t.eng e).fec.now = (s.eng e).fec.now ∧ (t.eng e).fec.chainFnr = (s.eng e).fec.chainFnr) ∧
     (∀ noise off c p, (s.eng e).fec.aligned = false → (s.eng e).rxProfile = some p →
       huntLength p ≤ (s.eng e).rx.pipe.out.length →
       smallest (huntCounts p noise (s.eng e).rx.pipe.out) = some (off, c) →
       ActsOn e (.groupHuntDone e noise) s fun t =>
       (t.eng e).fec.aligned = fractionOk p.rows c ∧ (fractionOk p.rows c = true → (t.eng e).fec.offset = off))) ∧
  (∀ (counts : List Nat) (i c : Nat), smallest counts = some (i, c) →
     counts[i]? = some c ∧ (∀ (j d : Nat), counts[j]? = some d → c ≤ d ∧ (j < i → c < d)))

/-- Every MFC tick advances module time by one, modulo 2^48, and, once the module is ready, the FN of every running
transmitter by one, modulo 2^32; commits' parameters, the key slots and Weir's state stay (R15 to R17, R219, R550).
Before ready, with the rails on, it advances the timebase alone, and with it the second boundaries of the Headwater
phase (R549). A frame that is sent carries FN, MAPGEN, LINKID and the profile code of the parameters on which the
transmitter builds its frames (R121, R216, R218). FRAME_RECEIVE in HUNT: a header that passes HCRC with a starting
profile, at a position that no candidate of its stream expects, becomes a candidate, and nothing else changes (R235,
R236); a tile that has failed receives nothing (R6). SC_SLOT samples a valid byte and, with SC_EN set, sends the oldest
received one (R243, R244). TILE_LINK_FAIL fails the tile and quenches its laser with reason 6, stated where no commit is
pending (R6, R121). -/
def Obligations.TicksFramesAndTiles : Prop :=
  (∀ s : State,
     (s.railsOn = true → s.ready = false → ∃ t, exec .frameTransmit s = .next t ∧
       t = { s with moduleTime := s.moduleTime + 1, fresh := t.fresh, hw := t.hw } ∧
       (s.secondHere = false → t.hw.toSecond = s.hw.toSecond - s.periodNow) ∧
       (s.secondHere = true → t.hw.toSecond = s.hw.toSecond - s.periodNow + 10 ^ 18 + s.hw.stepNext)) ∧
     (s.ready = true → ∃ t, exec .frameTransmit s = .next t ∧ t.moduleTime = s.moduleTime + 1 ∧
       (∀ e, (t.eng e).params = (s.eng e).params) ∧ t.weir = s.weir ∧ t.keys.slots = s.keys.slots ∧
       (∀ e, (s.eng e).tx.running = true → (t.eng e).tx.fn = (s.eng e).tx.fn + 1 ∧
         ((s.eng e).frameParams.patterned = false → ∃ f, (t.eng e).tx.frame = some f ∧ f.fn = (s.eng e).tx.fn + 1 ∧
           f.mapgen = (s.eng e).frameParams.slotmap.mapgen.setWidth 4 ∧
           f.linkid = (s.eng e).frameParams.frame.txLinkid ∧
           f.profile = BitVec.ofNat 4 (s.eng e).frameParams.code)) ∧
       (∀ e, (s.eng e).tx.running = false → (t.eng e).tx.fn = (s.eng e).tx.fn))) ∧
  (∀ (s : State) (e : Eng) (a : FrameArrival) (f : RxFrame) (b : Byte), s.ready = true →
     ((s.eng e).tileFailed = false → (s.eng e).deframer.mode = .hunt →
       (s.eng e).fec.frameAt a.stream a.position a.arrival = some f → headerOk f.header = true →
       startsCandidate (headerProfile f.header) = true →
       (∀ c ∈ (s.eng e).deframer.cands, c.stream = f.stream → c.next ≠ f.position) →
       ActsOn e (.frameReceive e a) s fun t => (t.eng e).deframer.mode = .hunt ∧
         ∃ c, (t.eng e).deframer.cands = (s.eng e).deframer.cands ++ [c] ∧ c.stream = f.stream ∧
           c.fn = headerFn f.header ∧ c.count = 0) ∧
     ((s.eng e).tileFailed = true → exec (.frameReceive e a) s = .next s) ∧
     (s.hasEngine e.val = true → (s.eng e).txParams.frame.scFlags.getLsbD 0 = true →
       exec (.scSlot e b true) s = .next (s.updEng e fun x => { x with sc := { x.sc with
         ingress := x.sc.ingress ++ [(s.moduleTime, b)], rxd := x.sc.egress.head?, egress := x.sc.egress.drop 1 } })) ∧
     (s.hasEngine e.val = true → (s.eng e).tileFailed = false → (s.eng e).tx.mode = .lit → s.commits = [] →
       ActsOn e (.tileLinkFail e) s fun t => (t.eng e).tileFailed = true ∧ (t.eng e).tx.mode = .quenching ∧
         (t.eng e).tx.reason = 6 ∧ (t.eng e).tx.running = false))

/-! ## Client lanes and ports -/

/-- Client writes: a formation, a lane's equalisation and SyncE nominations change the staged copies alone; lane
power, loopback and PRBS act at once on the lanes or the port that they name (R255, R271 to R274, R277 to R279).
Client reads: the copies that COPY names, the status of a lane, which draws free values for the eye figures that no
rule defines and for the input of a lane in no port (log 13), and the status of a port (R274, R277 to R282). -/
def Obligations.ClientRequests : Prop :=
  (∀ (r : Request) (s : State), Executes false r s →
     (∀ c : Cp, Formed r 8 → field r.params 0 1 = c.val → s.hasLane c.val = true → (parseCport r.params).mode.toNat ≤ 2 →
       (parseCport r.params).rate.toNat ≤ 2 → zeroAt r.params 5 1 = true → (parseCport r.params).first.toNat ≤ 63 →
       s.hasLane (parseCport r.params).first.toNat = true → (parseCport r.params).width.toNat ≤ 16 →
       ((parseCport r.params).frameMax = 0 ∨
         64 ≤ (parseCport r.params).frameMax.toNat ∧ (parseCport r.params).frameMax.toNat ≤ 16350) →
       s.holdsPort r.port c = true → (∀ e ∈ s.enginesAfter c (parseCport r.params),
         s.holdsEngine r.port e = true ∧ s.holdsScope 7 e = false) →
       Writes 0x0901 .cportWrite r s fun s => s.updCport c fun p => { p with
         params := { p.params with staged := { p.params.staged with form := parseCport r.params } } }) ∧
     (∀ l : LaneNo, Formed r 12 → field r.params 0 1 = l.val → s.hasLane l.val = true →
       (parseLaneEq r.params).rxFlags.toNat ≤ 7 → (parseLaneEq r.params).polarity.toNat ≤ 3 →
       zeroAt r.params 8 4 = true → laneEqRangeOk (parseLaneEq r.params) = true →
       s.holdsEngine r.port (l.val / 16) = true → s.holdsScope 7 (l.val / 16) = false →
       Writes 0x0903 .laneEqWrite r s fun s => s.updLane l fun x => { x with
         eq := { x.eq with staged := parseLaneEq r.params } }) ∧
     (∀ (mask : BitVec 64) (state : Fin 3), r.flag0 = false → r.params = be 8 mask ++ [byte state.val, 0, 0, 0] →
       (∀ l : LaneNo, mask.getLsbD l.val = true → s.hasLane l.val = true ∧ s.holdsEngine r.port (l.val / 16) = true) →
       ∃ t, exec (.lanePower r) s = answered 0x0905 r .ok [] t ∧
         (∀ l : LaneNo, mask.getLsbD l.val = true → (t.lane l).power = powerOf state.val) ∧
         (∀ l : LaneNo, mask.getLsbD l.val = false → t.lane l = s.lane l)) ∧
     (∀ (c : Cp) (mode : Fin 4), r.flag0 = false → r.params = [byte c.val, byte mode.val, 0, 0] →
       s.hasLane c.val = true → s.holdsPort r.port c = true → (s.form c).formed = true →
       ∃ t, exec (.clientLoopback r) s = answered 0x0906 r .ok [] t ∧ (t.cport c).loopback = byte mode.val ∧
         (mode.val = 1 ∨ mode.val = 2 → (t.cport c).failed = true) ∧ (∀ d, d ≠ c → t.cport d = s.cport d)) ∧
     (∀ (mask : BitVec 64) (gen chk : Fin 3), r.flag0 = false →
       r.params = be 8 mask ++ [byte gen.val, byte chk.val, 0, 0] →
       (∀ l : LaneNo, mask.getLsbD l.val = true →
         s.hasLane l.val = true ∧ s.holdsEngine r.port (l.val / 16) = true ∧ (s.lane l).power = .active) →
       ∃ t, exec (.prbsControl r) s = answered 0x0907 r .ok [] t ∧
         (∀ l : LaneNo, mask.getLsbD l.val = true → (t.lane l).gen = byte gen.val ∧ (t.lane l).chk = byte chk.val) ∧
         (∀ l : LaneNo, mask.getLsbD l.val = false → t.lane l = s.lane l)) ∧
     (Formed r 8 → r.port = 0 → s.holdsModule 11 = false →
       (∀ i : Fin 4, (synceEntry r.params i.val).1 = 0 ∨ ((synceEntry r.params i.val).1.toNat ≤ 64 ∧
         s.hasLane ((synceEntry r.params i.val).1.toNat - 1) = true)) →
       Writes 0x0908 .synceWrite r s fun s => { s with
         synce := { s.synce with staged := Vector.ofFn fun i => synceEntry r.params i.val } })) ∧
  (∀ (r : Request) (s : State) (cp : Bool), Executes false r s → r.flag0 = false →
     (∀ c : Cp, r.params = [byte c.val, byte cp.toNat, 0, 0] → s.hasLane c.val = true → s.holdsPort r.port c = true →
       Reads 0x0902 .cportRead r s fun s => renderCport (byte c.val)
         (if cp then (s.cport c).params.staged else (s.cport c).params.active).form) ∧
     (∀ l : LaneNo, r.params = [byte l.val, byte cp.toNat, 0, 0] → s.hasLane l.val = true →
       s.holdsEngine r.port (l.val / 16) = true →
       Reads 0x0904 .laneEqRead r s fun s => renderLaneEq (byte l.val)
         (if cp then (s.lane l).eq.staged else (s.lane l).eq.active)) ∧
     (r.params = [byte cp.toNat, 0, 0, 0] → Reads 0x0909 .synceRead r s fun s =>
       ((if cp then s.synce.staged else s.synce.active).toList.map fun e => [e.1, e.2]).flatten) ∧
     (∀ l : LaneNo, r.params = [byte l.val, 0, 0, 0] → s.hasLane l.val = true →
       s.holdsEngine r.port (l.val / 16) = true →
       ∃ data, exec (.laneStatus r) s = answered 0x090A r .ok data
           { s.takeRequest 0x090A r with fresh := s.fresh + 3 } ∧
         ∀ x : Lane, x = s.lane l → ∃ signal clock : Bool,
           (s.portOfLane l ≠ none → signal = !x.signalLost ∧ clock = !x.clockLost) ∧
           Lays data 16 [(0, [byte l.val]), (1, [powerCode x.power]),
           (2, [byte (bit (x.power != .deep && signal) 0 + bit (x.power != .deep && clock) 1 +
             bit ((match s.portOfLane l with | some c => (s.form c).native | none => false) && x.inFrame) 2 +
             bit x.locked 3)]),
           (3, [if (x.eqOf .transmit).rxFlags.getLsbD 0 then (x.eqOf .transmit).ctlePeak else x.ctle]), (8, [x.gen + 4 * x.chk]),
           (9, [match s.portOfLane l with | some c => byte (c.val + 1) | none => 0]), (10, be 2 x.slips),
           (12, be 4 x.prbsLast)]) ∧
     (∀ c : Cp, r.params = [byte c.val, 0, 0, 0] → s.hasLane c.val = true → s.holdsPort r.port c = true →
       Reports 0x090B .portStatus r s 16 [(0, [byte c.val]),
         (1, [if !(s.form c).formed then 0 else if (s.cport c).failed then 2 else 1]),
         (2, [byte (if (s.form c).formed then s.portCause c else 0)]), (3, [(s.cport c).loopback]),
         (4, [s.egressCode c]), (5, [byte (bit (s.cport c).rxRemote 0 + bit (s.cport c).rxLocal 1)]), (6, [0, 0]),
         (8, if (s.form c).ethernet then be 4 (s.cport c).fecCorr else [0, 0, 0, 0]),
         (12, if (s.form c).ethernet then be 4 (s.cport c).fecUncorr else [0, 0, 0, 0])]))

/-- Client events: a failure condition fails a formed port and its end releases it (R268); fault ordered sets (R259);
an adaptation that ends (R269, R271); a PRBS checker that locks, and one that loses lock, with the errors of its last
window counted (R273); a native lane frame in frame adds its streams to the lane's buffer (R260 to R266). -/
def Obligations.ClientEvents : Prop :=
  ∀ (s : State) (c : Cp) (l : LaneNo), s.ready = true →
    (∀ a b, (s.form c).ethernet = true → ∃ t, exec (.portFailDetect c a b true) s = .next t ∧
      (t.cport c).failed = true ∧ (t.cport c).pcsLost = true ∧ (∀ d, d ≠ c → t.cport d = s.cport d) ∧
      t.engines = s.engines) ∧
    ((s.form c).formed = true → (s.cport c).failed = true → s.stateCause c = 0 →
      ∃ t, exec (.portFailClearTimer c) s = .next t ∧ (t.cport c).failed = false ∧
        (∀ d, d ≠ c → t.cport d = s.cport d) ∧ t.engines = s.engines) ∧
    ((s.form c).ethernet = true →
      (∃ t, exec (.clientOrderedSetRx c .localFault) s = .next t ∧ (t.cport c).rxLocal = true ∧
        (t.cport c).failed = true) ∧
      exec (.clientOrderedSetRx c .localEnd) s = .next (s.updCport c fun p => { p with rxLocal := false }) ∧
      (∃ t, exec (.clientOrderedSetRx c .remoteFault) s = .next t ∧ (t.cport c).rxRemote = true ∧
        (t.cport c).failed = (s.cport c).failed) ∧
      (∃ t, exec (.clientOrderedSetRx c .remoteEnd) s = .next t ∧ (t.cport c).rxRemote = false)) ∧
    (∀ a, (s.lane l).power = .active → ∃ t, exec (.laneAdaptDone l a) s = .next t ∧
      t.lane l = { (s.lane l).adapt a.ctle a.dfe with adapting := none } ∧ (∀ k, k ≠ l → t.lane k = s.lane k)) ∧
    ((s.lane l).chk ≠ 0 → (s.lane l).power = .active →
      exec (.prbsCheckerLock l) s = .next (s.updLane l fun x => { x with locked := true })) ∧
    (∀ n, (s.lane l).locked = true → (s.lane l).power = .active → ∃ t,
      exec (.prbsCheckerRelock ⟨l, n⟩) s = .next t ∧
      t.lane l = { s.lane l with locked := false, owed := false, prbsNow := (s.lane l).prbsNow + n }) ∧
    (∀ symbols, s.portOfLane l = some c → (s.form c).native = true → (s.lane l).power = .active →
      (s.lane l).inFrame = true → markerOk (invert (((s.lane l).eqOf .transmit).polarity.getLsbD 0) symbols) = true →
      ∃ t, exec (.laneFrameRx l symbols none) s = .next t ∧ (t.lane l).inFrame = true ∧
        (t.lane l).streams = (s.lane l).streams ++
          [(readLane (rateSlots (s.form c).rate) l.val
            (invert (((s.lane l).eqOf .transmit).polarity.getLsbD 0) symbols)).2.1] ∧
        (∀ k, k ≠ l → t.lane k = s.lane k) ∧ t.engines = s.engines)

/-- An Ethernet client frame: under a near-end loopback, with the port's lanes ACTIVE and no generator on them, it
returns to the host, with 0x01 as the lanes bring it and with 0x02 as the receiver reads it (R258, R272); on a failed
port it is discarded; a bad one is counted once, as PCS, FCS or size in this order (log 19); a good one is counted with
its bytes, passes the PTP processing and is offered to the flow contexts, as is a frame that comes from the line with a
right FCS (R257, R268, R303, R407); one with a wrong FCS is counted as a drop, and so is any that meets a near-end
loopback (R272). What the receiver reads is the frame itself, unless polarity is inverted between the host and the lane
(R270; log 19). PTP_EVENT_MESSAGE is the same with its instants given (log 20). -/
def Obligations.ClientFramesThroughThePort : Prop :=
  ∀ (s : State) (c : Cp) (frame : Bytes) (pcs : Bool) (k : CounterKind) (m : PtpMessage) (x : Bytes × Bool),
    s.ready = true → (s.cport c).params.active.form.ethernet = true → x = s.ethernetRead c frame pcs →
    ((s.cport c).loopback = 1 ∨ (s.cport c).loopback = 2 →
      ((∀ l ∈ (s.form c).lanes, (s.lane l).power = .active ∧ (s.lane l).gen = 0) →
        exec (.clientFrameRx c frame pcs) s =
          .next (if (s.cport c).loopback = 1 then s.driveFrame c frame true else s.driveFrame c x.1 false)) ∧
      ∀ u v, u = s.selectTag c .egress frame.length s.moduleTime → v = u.2.map (fun t => t.enter 6 s.moduleTime) →
        exec (.lineEgressFrame c frame) s =
          .next (((u.1.count .clientDropEgress c.val 1).fateTiles c [] 2 none).finishTag v c .egress false 6)) ∧
    (((s.cport c).loopback ≠ 1 ∧ (s.cport c).loopback ≠ 2) →
      ((s.cport c).failed = true → exec (.clientFrameRx c frame pcs) s = .next s) ∧
      (∀ u, u = s.selectTag c .ingress x.1.length s.moduleTime → (s.cport c).failed = false →
        badClientFrame (s.cport c).params.active.form x.1 x.2 = some k →
        exec (.clientFrameRx c frame pcs) s = .next ((u.1.count k c.val 1).finishTag u.2 c .ingress false 1)) ∧
      (∀ u n v, u = s.selectTag c .ingress x.1.length s.moduleTime →
        n = ((u.1.count .clientFramesIn c.val 1).count .clientBytesIn c.val x.1.length) →
        (s.cport c).failed = false → badClientFrame (s.cport c).params.active.form x.1 x.2 = none →
        (v = ({ n with fresh := n.fresh + 4 } : State).ptp .ingress c x.1 n.freeInstants →
          exec (.clientFrameRx c frame pcs) s = .next (v.1.offerFrame .ingress c v.2 u.2 [] none)) ∧
        (isPtpEvent m.frame = true → m.dir = .ingress → m.frame = frame → pcs = false →
          v = ({ n with fresh := n.fresh + 4 } : State).ptp .ingress c x.1 { client := m.client, line := m.line } →
          exec (.ptpEventMessage c m) s = .next (v.1.offerFrame .ingress c v.2 u.2 [] none))) ∧
      (∀ u v, u = s.selectTag c .egress frame.length s.moduleTime → v = u.2.map (fun t => t.enter 6 s.moduleTime) →
        (fcsOk frame = true → exec (.lineEgressFrame c frame) s =
          .next (u.1.offerFrame .egress c frame v [] none)) ∧
        (fcsOk frame = false → exec (.lineEgressFrame c frame) s =
          .next (((u.1.count .clientDropFcs c.val 1).fateTiles c [] 1 none).finishTag v c .egress false 6)) ∧
        (isPtpEvent m.frame = true → m.dir = .egress → m.frame = frame → fcsOk frame = true →
          exec (.ptpEventMessage c m) s = .next (u.1.offerFrame .egress c frame v []
            (some (s.moduleTime, m.client, m.line))))))

/-! ## Flow contexts -/

/-- Flow configuration: staged by port and by lane group, the sealing settings at once; each reads back (R311, R312,
R318). FLOW_LOOKUP and CTX_READ answer what the words hold, reading memory as the host; CTX_FILL starts a deferred
fill of its range (R307, R313, R315, R316, R371). -/
def Obligations.FlowConfigurationAndLookups : Prop :=
  (∀ (r : Request) (s : State), Executes false r s → r.flag0 = false →
     (∀ (c : Cp) (mask : BitVec 4) (dIn dOut : BitVec 32),
       r.params = [byte c.val, mask.setWidth 8, 0, 0] ++ be 4 dIn ++ be 4 dOut ++ [0, 0, 0, 0] →
       s.hasLane c.val = true → dIn.toNat ≤ 1048576 → dOut.toNat ≤ 1048576 → s.holdsPort r.port c = true →
       (dIn ≠ 0 → s.holdsCtx r.port (dIn.toNat - 1) 1 = true) →
       (dOut ≠ 0 → s.holdsCtx r.port (dOut.toNat - 1) 1 = true) → s.portBusy c = false →
       Writes 0x0A01 .flowPortWrite r s fun s => s.updCport c fun p => { p with params := { p.params with
         staged := { p.params.staged with flow := { keyMask := mask.setWidth 8, defIn := dIn, defOut := dOut } } } }) ∧
     (∀ (c : Cp) (cp : Bool), r.params = [byte c.val, byte cp.toNat, 0, 0] → s.hasLane c.val = true →
       s.holdsPort r.port c = true → ∃ f, f = (if cp then (s.cport c).params.staged else (s.cport c).params.active).flow ∧
       Reads 0x0A02 .flowPortRead r s fun _ =>
         [byte c.val, f.keyMask, 0, 0] ++ be 4 f.defIn ++ be 4 f.defOut ++ [0, 0, 0, 0]) ∧
     (∀ e : Eng, NamesEngine r s e 64 → zeroAt r.params 1 3 = true →
       (∀ i, i < 15 → badEtype (slice r.params (4 + 4 * i) 4) = false) → s.holdsScope 7 e.val = false →
       Writes 0x0A03 .etypeWrite r s fun s => s.stage e fun p => { p with etype := Vector.ofFn fun i =>
         { etype := u16 r.params (4 + 4 * i.val), flags := u8 r.params (6 + 4 * i.val) } }) ∧
     (∀ (e : Eng) (cp : Bool), ReadsCopy r s e cp → Reads 0x0A04 .etypeRead r s fun s =>
       [byte e.val, 0, 0, 0] ++ (((s.copy e cp).etype.toList).map fun x => be 2 x.etype ++ [x.flags, 0]).flatten) ∧
     (Formed r 144 → r.port = 0 → zeroAt r.params 4 4 = true → (∀ i, i < 16 → zeroAt r.params (22 + 8 * i) 2 = true) →
       (∀ i j, i < j → j < 16 → u48 r.params (16 + 8 * i) ≠ 0 → u48 r.params (16 + 8 * i) ≠ u48 r.params (16 + 8 * j)) →
       (∀ i, i < 16 → u48 r.params (16 + 8 * i) ≠ s.sciMac (65536 * i) → s.blockSeals i = false) →
       Writes 0x0A0D .sealConfigWrite r s fun s => { s with flows := { s.flows with sealing :=
         { limit32 := u32 r.params 0, limit64 := u64 r.params 8,
           macs := Vector.ofFn fun i => u48 r.params (16 + 8 * i.val) } } }) ∧
     (r.params = [] → Reports 0x0A0E .sealConfigRead r s 144
       ([(0, be 4 s.flows.sealing.limit32), (4, [0, 0, 0, 0]), (8, be 8 s.flows.sealing.limit64)] ++
         (List.finRange 16).map fun i => (16 + 8 * i.val, be 6 s.flows.sealing.macs[i] ++ [0, 0])))) ∧
  (∀ (r : Request) (s : State), Executes false r s →
     (Formed r 16 → badFlowEntry false r.params = false → s.hasLane (entryPort r.params) = true →
       s.holdsPort r.port (cpOf (entryPort r.params)) = true → s.keyUnready r.params = false →
       ∃ u found, u = (s.takeRequest 0x0A07 r).findKey (r.params.take 12) 4 (bucketWords (r.params.take 12)) ∧
         found = (match u.2 with | some (_, n) => n + 1 | none => 0) ∧
         exec (.flowLookup r) s = answered 0x0A07 r .ok (beBytes 4 found) u.1) ∧
     (∀ (n : Nat) (copy : Bool) (ds : List (BitVec 128)) (f : Bool), r.flag0 = false → n < 1048576 →
       r.params = beBytes 4 n ++ [2, byte copy.toNat, 0, 0] → s.holdsCtx r.port n 1 = true → s.ctxReady n = true →
       ((s.takeRequest 0x0A0A r).ctxReadWords n [1, 2, 3]).2 = some (ds, f) →
       exec (.ctxRead r) s = answered 0x0A0A r (if f then .fresh else .ok)
         (beBytes 4 n ++ [2, 0, 0, 0] ++ (ds.map fun d => be 16 d).flatten)
         ((s.takeRequest 0x0A0A r).ctxReadWords n [1, 2, 3]).1) ∧
     (∀ (first count : BitVec 32) (flags : Byte) (hot : BitVec 128), r.flag0 = false →
       r.params = be 4 first ++ be 4 count ++ [flags, 0, 0, 0] ++ be 16 hot → count ≠ 0 → flags.toNat ≤ 7 →
       badHot hot = false → first.toNat + count.toNat ≤ 1048576 → s.holdsCtx r.port first.toNat count.toNat = true →
       s.holdsEntryKey r.port (Hot.ofBits hot) = true →
       (∀ i, i < count.toNat → s.loadReady (first.toNat + i) (flags ≥ 4) = true) →
       s.flows.fill = none →
       (flags &&& 1 = 1 → tooManyPins (s.pinned (dirOf (Hot.ofBits hot).dir) ++ s.pinsDue (dirOf (Hot.ofBits hot).dir) ++
         s.fillPins (dirOf (Hot.ofBits hot).dir) flags (Hot.ofBits hot) first.toNat count.toNat) = false) →
       (s.takeRequest 0x0A09 r).bindingFault (Hot.ofBits hot) first.toNat (first.toNat + count.toNat - 1) = none →
       ∃ t j, exec (.ctxFill r) s = answered 0x0A09 r .okDeferred [] t ∧ t.flows.fill = some j ∧ j.first = first.toNat ∧
         j.count = count.toNat ∧ j.flags = flags ∧ j.template = hot ∧ t.mem = s.mem))

/-- A batch of flow changes whose checks pass takes effect at the next MFC boundary, or is staged under its token, as a
whole: FLOW_ADD and FLOW_DELETE, whose check looks the keys up first, and CTX_LOAD, CTX_REKEY and CTX_RELOAD, whose
check reads the hot words of its contexts first; each entry is checked after the effect of those before it (R309, R310,
R313, R314, R317, R359, R369; log 8). -/
def Obligations.FlowBatchesTakeEffectAsAWhole : Prop :=
  ∀ (r : Request) (s u : State), Executes false r s → s.holdsToken 8 (batchToken r) = false →
    (badBatch r 16 254 = false → u = (s.takeRequest 0x0A05 r).seekAll (batchEntries r 16) →
      (∀ e ∈ batchEntries r 16, badFlowEntry true e = false ∧ s.hasLane (entryPort e) = true ∧
        field e 12 4 < 1048576 ∧ s.holdsPort r.port (cpOf (entryPort e)) = true ∧
        s.holdsCtx r.port (field e 12 4) 1 = true) →
      firstFault State.addFault State.addEntry u (batchEntries r 16) 0 = none →
      RoomFor r u (batchEntries r 16).length →
      exec (.flowAdd r) s = answered 0x0A05 r .ok [] (u.enacted r ((batchEntries r 16).map .add))) ∧
    (badBatch r 16 254 = false → u = (s.takeRequest 0x0A06 r).seekAll (batchEntries r 16) →
      (∀ e ∈ batchEntries r 16, badFlowEntry false e = false ∧ s.hasLane (entryPort e) = true ∧
        field e 12 4 < 1048576 ∧ s.holdsPort r.port (cpOf (entryPort e)) = true) →
      firstFault State.deleteFault State.dropEntry u (batchEntries r 16) 0 = none →
      RoomFor r u (batchEntries r 16).length →
      exec (.flowDelete r) s = answered 0x0A06 r .ok [] (u.enacted r ((batchEntries r 16).map .delete))) ∧
    (badBatch r 24 169 = false → (∀ e ∈ batchEntries r 24, badLoadEntry e = false ∧ entryCtx e < 1048576 ∧
        s.holdsCtx r.port (entryCtx e) 1 = true ∧ s.holdsEntryKey r.port (Hot.ofBits (entryHot e)) = true) →
      pinFault u.pinsDue u.pinned (batchEntries r 24) 0 = none →
      (u = (s.takeRequest 0x0A08 r).touchAll (batchEntries r 24) →
        firstFault (fun s e => s.loadFault e false) (fun s e => s.flowOp (.load e)) u (batchEntries r 24) 0 = none →
        RoomFor r u (batchEntries r 24).length →
        exec (.ctxLoad r) s = answered 0x0A08 r .ok [] (u.enacted r ((batchEntries r 24).map .load))) ∧
      (batchToken r = 0 → u = (s.takeRequest 0x0A0C r).touchAll (batchEntries r 24) →
        firstFault (fun s e => s.loadFault e true) (fun s e => s.flowOp (.reload e)) u (batchEntries r 24) 0 = none →
        exec (.ctxReload r) s = answered 0x0A0C r .ok [] (u.enacted r ((batchEntries r 24).map .reload)))) ∧
    (badBatch r 16 254 = false → (∀ e ∈ batchEntries r 16, field e 6 1 ≤ 3 ∧ zeroAt e 7 1 = true ∧
        entryCtx e < 1048576 ∧ s.holdsCtx r.port (entryCtx e) 1 = true ∧ s.holdsKs r.port (field e 4 2) 1 = true) →
      u = (s.takeRequest 0x0A0B r).touchAll (batchEntries r 16) →
      firstFault State.rekeyFault (fun s e => s.flowOp (.rekey e)) u (batchEntries r 16) 0 = none →
      (batchToken r = 0 → graceFault u (batchEntries r 16) 0 u.graceFree = none) →
      RoomFor r u (batchEntries r 16).length →
      exec (.ctxRekey r) s = answered 0x0A0B r .ok [] (u.enacted r ((batchEntries r 16).map .rekey)))

/-- The flow engine's own instants: a fill that completes is over; a fetch serves one waiting context, whose frames go
on in order; an admission takes the express frame that fits, or else the bulk one; grace entries end after 1,024 frames
(R291, R304, R315, R321, R322). -/
def Obligations.FlowInstants : Prop :=
  ∀ (s : State) (d : Dir), s.ready = true →
    (∀ j, s.flows.fill = some j → ∃ t, exec .ctxFillDone s = .next t ∧ t.flows.fill = none) ∧
    (∀ m, s.nextMiss d = some m → ∃ u, u = s.updDir d (fun x => { x with
        misses := x.misses.filter fun f => f.ctx != m.ctx }) ∧
      exec (.contextFetchDone d) s = .next (((s.flowDir d).misses.filter fun f => f.ctx == m.ctx).foldl
        (fun s f => s.bindFrame d f) (u.install d m.ctx))) ∧
    (∀ f, (s.flowDir d).admitQ.find? (fun f => s.express d f) = some f → s.fits d f = true →
      exec (.millraceAdmit d) s = .next (s.admitFrame d f)) ∧
    (∀ f, (s.flowDir d).admitQ.find? (fun f => s.express d f) = none → (s.flowDir d).admitQ.head? = some f →
      s.fits d f = true → exec (.millraceAdmit d) s = .next (s.admitFrame d f)) ∧
    (∃ t, exec .graceExpiry s = .next t ∧ t.mem = s.mem ∧ t.keys = s.keys ∧
      (∀ g, g ∈ t.flows.grace ↔ g ∈ s.flows.grace ∧ (s.moduleTime - g.since).toNat < 1024))

/-! ## Keys and identity -/

/-- KEY_LOAD and KEY_REWRITE whose checks and unwraps pass: a load takes its slots at once, usable from the next MFC
boundary; a rewrite is staged under its token or, without one, for that boundary (R338, R339, R346). -/
def Obligations.KeyLoadsAndRewrites : Prop :=
  ∀ (r : Request) (s u : State) (vs : List (Nat × KeyValue)) (gate : KeySlot → Option Status), Executes false r s →
    badBatch r 68 59 = false →
    (∀ e ∈ batchEntries r 68, zeroAt e 2 2 = true ∧ s.holdsKs r.port (entrySlot e) 1 = true) →
    repeats entrySlot (batchEntries r 68) [] 0 = none →
    (batchToken r = 0 → gate = (fun k => match k.state with
        | .empty => none | .erasing => some .busy | _ => some .inconsistent) →
      (s.takeRequest 0x0B01 r).unwrapAll r.port gate (batchEntries r 68) 0 = (u, .ok vs) →
      exec (.keyLoad r) s = answered 0x0B01 r .ok []
        { u.loadKeys vs with immediate := u.immediate ++ [.keysLoaded r.port (vs.map (·.1))] }) ∧
    (batchToken r = 0 → gate = (fun k => match k.state with
        | .empty => some .keyAbsent | .rewriting | .erasing => some .busy
        | .loaded => match k.staged with | some _ => some .busy | none => none) →
      (s.takeRequest 0x0B02 r).unwrapAll r.port gate (batchEntries r 68) 0 = (u, .ok vs) →
      s.heldKeys + vs.length ≤ 4096 → ∃ t, exec (.keyRewrite r) s = answered 0x0B02 r .ok [] t ∧
        t.immediate = s.immediate ++ [.keysRewritten (vs.map (·.1))] ∧
        (∀ n, n ∉ vs.map (·.1) → t.slot n = s.slot n) ∧
        (∀ n, (t.slot n).cur = (s.slot n).cur ∧ (t.slot n).gen = (s.slot n).gen))

/-- R326: a slot's generation is 0 after every reset; a load and a rewrite set it to the next value modulo 65,536,
skipping 0; an erase leaves it unchanged. -/
def Obligations.SlotGenerations : Prop :=
  ∀ (s : State) (n : Nat) (v : KeyValue) (j : EraseJob) (kind : Byte), canon {} s.keys.slots = true →
    (State.reset.slot n).gen = 0 ∧ ((s.warmReset kind).slot n).gen = 0 ∧ (s.powerOn.slot n).gen = 0 ∧
    ((s.loadKeys [(n, v)]).slot n).gen = nextGen (s.slot n).gen ∧
    (∀ tok w, (s.slot n).staged = some (tok, w) → ((s.rewriteTx n).slot n).gen = nextGen (s.slot n).gen) ∧
    ((s.erasePoint j).slot n).gen = (s.slot n).gen ∧ ((s.eraseDone j).slot n).gen = (s.slot n).gen ∧
    (∀ g : BitVec 16, (nextGen g).toNat = if g.toNat = 65535 then 1 else g.toNat + 1)

/-- R347: the parameters of KEY_ERASE; COUNT = 0 is answered BAD-PARAM, FIRST + COUNT above 65,536 RANGE. A range
whose slots are all empty is answered OK; otherwise the erase is deferred and joins the jobs; where a pending commit
holds the rewrite of a slot in it, it is answered BUSY (R342). R348: KEY_STATUS takes FIRST and COUNT from 1 to 509;
COUNT = 0 is answered BAD-PARAM, a COUNT above 509 or a range past slot 65,535 RANGE; it returns FIRST, COUNT and the
descriptors of 8 bytes in slot order. A descriptor is 8 bytes: STATE, staged, key length and usage in the first, the
port in the second, GEN, the key check value of a key that is held, and a zero byte (R325). -/
def Obligations.KeyErasesAndStatus : Prop :=
  (∀ (r : Request) (s : State) (first : BitVec 16) (count : BitVec 32), Executes false r s → r.flag0 = false →
     r.params = be 2 first ++ [0, 0] ++ be 4 count →
     (count = 0 → Fails 0x0B03 .keyErase r s .badParam) ∧
     (count ≠ 0 → first.toNat + count.toNat > 65536 → Fails 0x0B03 .keyErase r s .range) ∧
     (count ≠ 0 → first.toNat + count.toNat ≤ 65536 → s.holdsKs r.port first.toNat count.toNat = true →
       (∀ x ∈ s.slotsIn first.toNat count.toNat, ∀ t v, x.2.staged = some (t, v) → s.holdsToken 9 t = false) →
       (∀ w ∈ s.keys.rewrites, s.rewriteHeld w first.toNat count.toNat = false) →
       ((∀ x ∈ s.slotsIn first.toNat count.toNat, x.2.state = .empty) → Writes 0x0B03 .keyErase r s id) ∧
       ((∃ x ∈ s.slotsIn first.toNat count.toNat, x.2.state ≠ .empty) → ∃ j, j.first = first.toNat ∧
         j.count = count.toNat ∧ j.pointed = false ∧ exec (.keyErase r) s = answered 0x0B03 r .okDeferred []
           { s.takeRequest 0x0B03 r with keys := { s.keys with erases := s.keys.erases ++ [j] } })) ∧
     (count ≠ 0 → first.toNat + count.toNat ≤ 65536 → s.holdsKs r.port first.toNat count.toNat = true →
       ((∃ x ∈ s.slotsIn first.toNat count.toNat, ∃ t v, x.2.staged = some (t, v) ∧ s.holdsToken 9 t = true) ∨
         ∃ w ∈ s.keys.rewrites, s.rewriteHeld w first.toNat count.toNat = true) →
       Fails 0x0B03 .keyErase r s .busy)) ∧
  (∀ (r : Request) (s : State) (first count : BitVec 16), Executes false r s → r.flag0 = false →
     r.params = be 2 first ++ be 2 count →
     (count = 0 → Fails 0x0B04 .keyStatus r s .badParam) ∧
     (count ≠ 0 → (count.toNat > 509 ∨ first.toNat + count.toNat > 65536) → Fails 0x0B04 .keyStatus r s .range) ∧
     (count ≠ 0 → count.toNat ≤ 509 → first.toNat + count.toNat ≤ 65536 →
       s.holdsKs r.port first.toNat count.toNat = true → ∃ data, Reads 0x0B04 .keyStatus r s (fun _ => data) ∧
         data.length = 4 + 8 * count.toNat ∧ slice data 0 2 = be 2 first ∧ slice data 2 2 = be 2 count ∧
         (∀ i, i < count.toNat → slice data (4 + 8 * i) 8 = (s.slot (first.toNat + i)).descriptor))) ∧
  (∀ (r : Request) (s : State), Executes false r s →
     ((r.params.length ≠ 8 ∨ zeroAt r.params 2 2 = false) → Fails 0x0B03 .keyErase r s .badParam) ∧
     (r.params.length ≠ 4 → Fails 0x0B04 .keyStatus r s .badParam)) ∧
  (∀ (state port usage : Nat) (staged : Bool) (key : Bytes) (gen : BitVec 16), state < 4 → port < 4 → usage < 8 →
     Lays (descriptor state staged key usage port gen) 8
       [(0, [byte (32 * state + 16 * staged.toNat + 8 * (decide (key.length = 32)).toNat + usage)]),
        (1, [byte (64 * port)]), (2, be 2 gen),
        (4, if key = [] ∨ state = 0 then [0, 0, 0] else (aesEncrypt key (zeros 16)).take 3), (7, [0])])

/-- Port keys: a load that unwraps takes the key with its next generation, and a command-authentication key starts a new
session; an erase of the command-authentication key clears AUTH_REQ; status; Millrace's own status, a block for the
ingress bank and one for the egress bank; and the owner key's provisioning, status and challenge (R333 to R337, R349 to
R351). R337: ID_CHALLENGE takes a 16-byte NONCE and returns 40 bytes, TAG under the key derived for identity, on any
port; it is answered KEY-ABSENT unless the owner key is PROVISIONED. -/
def Obligations.PortOwnerAndIdentityKeys : Prop :=
  (∀ (r : Request) (s : State), r.flag0 = false →
     (Executes false r s → ∀ u v, Formed r 68 → zeroAt r.params 1 3 = true → u8 r.params 0 = 3 →
       (s.takeRequest 0x0B05 r).unwrap r.port 3 0 (nextGen (s.port r.port).cak.gen) (slice r.params 4 64) = (u, .ok v) →
       ∃ t, exec (.portkeyLoad r) s = answered 0x0B05 r .ok [] t ∧ (t.port r.port).cak.key = some v.key ∧
         (t.port r.port).cak.gen = nextGen (s.port r.port).cak.gen ∧ (t.port r.port).sessionStart = s.moduleTime ∧
         (t.port r.port).wrap = 0 ∧ (t.port r.port).kek = (s.port r.port).kek ∧ t.keys = s.keys) ∧
     (Executes false r s → ∀ u v, Formed r 68 → zeroAt r.params 1 3 = true → u8 r.params 0 = 2 →
       (s.takeRequest 0x0B05 r).unwrap r.port 2 0 (nextGen (s.port r.port).kek.gen) (slice r.params 4 64) = (u, .ok v) →
       ∃ t, exec (.portkeyLoad r) s = answered 0x0B05 r .ok [] t ∧ (t.port r.port).kek.key = some v.key ∧
         (t.port r.port).kek.gen = nextGen (s.port r.port).kek.gen ∧
         (t.port r.port).sessionStart = (s.port r.port).sessionStart ∧
         (t.port r.port).cak = (s.port r.port).cak ∧ t.keys = s.keys) ∧
     (Executes false r s → ∀ mask : Fin 4, r.params = [byte mask.val, 0, 0, 0] →
       ∃ t, exec (.portkeyErase r) s = answered 0x0B06 r .ok [] t ∧
         (mask.val / 2 = 1 → (t.port r.port).cak.key = none ∧
           ((s.port r.port).cak.key ≠ none → (t.port r.port).authReq = false)) ∧
         (mask.val % 2 = 1 → (t.port r.port).kek.key = none) ∧
         (mask.val / 2 = 0 → (t.port r.port).cak = (s.port r.port).cak ∧
           (t.port r.port).authReq = (s.port r.port).authReq) ∧
         (t.port r.port).cak.gen = (s.port r.port).cak.gen) ∧
     (Executes false r s → ∀ p : Hp, (r.port = 0 ∨ r.port = p) → r.params = [byte p.val, 0, 0, 0] →
       Reads 0x0B07 .portkeyStatus r s fun s => (s.port p).kek.descriptor ++ (s.port p).cak.descriptor) ∧
     (Executes false r s → r.params = [] → ∀ a b : Bank, a = s.flows.ingress.bank → b = s.flows.egress.bank →
       Reports 0x0B08 .millraceStatus r s 32
         [(0, be 2 (sat 16 a.express.length)), (2, be 2 (sat 16 a.bulk.length)), (4, be 2 (sat 16 a.peak)),
          (6, be 2 (sat 16 (s.keys.slots.countP fun k => k.2.state == .rewriting))), (8, be 4 (sat 32 a.stalls)),
          (12, [0, 0, 0, 0]),
          (16, be 2 (sat 16 b.express.length)), (18, be 2 (sat 16 b.bulk.length)), (20, be 2 (sat 16 b.peak)),
          (22, be 2 (sat 16 s.stagedKeys)), (24, be 4 (sat 32 b.stalls)), (28, be 4 (sat 32 b.retries))]) ∧
     (Executes false r s → r.port = 0 → r.params.length = 32 → s.keys.owner = .unprovisioned →
       ∃ t, exec (.ownerProvision r) s = answered 0x1320 r .okDeferred [] t ∧ t.keys.owner = .provisioning ∧
         t.keys.ownerKey = r.params ∧ t.keys.slots = s.keys.slots) ∧
     (Executes true r s → r.params = [] → ∃ kcv, Reads 0x1321 .ownerStatus r s (fun s =>
         [ownerCode s.keys.owner, 0, 0, 0] ++ kcv) ∧ (s.keys.owner ≠ .provisioned → kcv = [0, 0, 0, 0]) ∧
       (s.keys.owner = .provisioned → kcv = (aesEncrypt s.keys.ownerKey (zeros 16)).take 4))) ∧
  (∀ (r : Request) (s : State), Executes true r s → Formed r 16 → s.ident.serial.length = 16 →
     (s.keys.owner ≠ .provisioned → Fails 0x1322 .idChallenge r s .keyAbsent) ∧
     (s.keys.owner = .provisioned → ∃ data, exec (.idChallenge r) s = answered 0x1322 r .ok data
         (((s.takeRequest 0x1322 r).deriveWork labelId).cmacWork (deriveKey s.keys.ownerKey labelId) 38) ∧ Lays data 40
       [(0, s.ident.serial), (16, [0x0E, 0x57]), (18, be 2 (variantCode s.ident.variant)), (20, [0, 0, 0, 0]),
        (24, cmac (deriveKey s.keys.ownerKey labelId) ([0x49] ++ r.params ++ s.ident.serial ++ [0x0E, 0x57]
           ++ be 2 (variantCode s.ident.variant) ++ [byte r.port.val]))]))

/-- The key store's own instants: the oldest rewrite past its grace ends, and its slots that were REWRITING are LOADED
with no old key; every waiting erase passes its erase point; the oldest erase past it leaves its slots EMPTY; owner
provisioning ends as its read-back agrees (R335, R341, R342). -/
def Obligations.KeyInstants : Prop :=
  ∀ s : State, s.ready = true → canon {} s.keys.slots = true →
    (∀ w, s.keys.rewrites.find? s.graceOver = some w → ∃ t, exec .keyRewriteGraceEnd s = .next t ∧
      t.keys.rewrites = s.keys.rewrites.erase w ∧
      (∀ n ∈ w.slots, (s.slot n).state = .rewriting → (t.slot n).state = .loaded ∧ (t.slot n).old = none ∧
        (t.slot n).cur = (s.slot n).cur) ∧
      (∀ n, n ∉ w.slots → t.slot n = s.slot n)) ∧
    (∀ j, s.keys.erases = [j] → j.pointed = false → ∃ t, exec .keyErasePoint s = .next t ∧
      (∀ n, j.first ≤ n → n < j.first + j.count → (s.slot n).state ≠ .empty → (t.slot n).state = .erasing ∧
        (t.slot n).staged = none ∧ (t.slot n).old = none) ∧
      (∀ n, n < j.first ∨ j.first + j.count ≤ n → t.slot n = s.slot n)) ∧
    (∀ j, s.keys.erases.find? (·.pointed) = some j → ∃ t, exec .keyEraseDone s = .next t ∧
      t.keys.erases = s.keys.erases.erase j ∧
      (∀ n, j.first ≤ n → n < j.first + j.count → (s.slot n).state = .erasing →
        (t.slot n).state = .empty ∧ (t.slot n).cur.key = [] ∧ (t.slot n).gen = (s.slot n).gen)) ∧
    (∀ d agrees, s.keys.provision = some d → ∃ t, exec (.ownerProvisionDone agrees) s = .next t ∧
      t.keys.owner = (if agrees then .provisioned else .faulted) ∧ t.keys.ownerKey = s.keys.ownerKey)

/-! ## Context memory -/

/-- Requests of group 0x0C: Eddy's settings are written at once and read back, the log is read and cleared, a word is
read with its class, FRESH for one never written, and an injection leaves the word with the bits of FLIP and the address
of XOR_ADDR inverted (R353, R358, R371, R373 to R375). The matrices are those of log 7. -/
def Obligations.MemoryRequests : Prop :=
  ∀ (r : Request) (s : State), Executes false r s → r.flag0 = false →
    (∀ rate thr : BitVec 16, r.port = 0 → r.params = be 2 rate ++ be 2 thr ++ [0, 0, 0, 0] → rate.toNat ≤ 4096 →
      Writes 0x0C01 .memConfigWrite r s fun s => { s with mem := { s.mem with scrubRate := rate, corrThr := thr } }) ∧
    (r.params = [] → Reads 0x0C02 .memConfigRead r s fun s =>
      be 2 s.mem.scrubRate ++ be 2 s.mem.corrThr ++ [0, 0, 0, 0]) ∧
    (r.params = [] → Reports 0x0C03 .memStatus r s 144
      ([(0, [byte (bit s.mem.swept 0 + bit s.eddyRuns 1), byte s.mem.log.length]), (2, be 2 s.mem.lost),
        (4, beBytes 4 s.mem.eddy.toNat), (8, be 4 s.mem.passes), (12, [0, 0, 0, 0])] ++
       (List.finRange 8).map fun c => (16 + 16 * c.val,
         [match (s.mem.channels[c]).mode with
            | .ready => 0
            | .training => 1
            | .sweeping => if (s.mem.channels[c]).pointer s.moduleTime < 1048576 then 1 else 0
            | .failed => 2,
          byte (min 255 (s.mem.channels[c]).peak), 0, 0] ++ beBytes 4 ((s.mem.channels[c]).pointer s.moduleTime) ++
         be 4 (sat 32 (s.mem.channels[c]).corr) ++
         (match (s.mem.channels[c]).lastCorr with
           | some w => beBytes 4 w.toNat | none => [0xFF, 0xFF, 0xFF, 0xFF])))) ∧
    (∀ clear : Bool, r.port = 0 → r.params = [byte clear.toNat, 0, 0, 0] →
      exec (.memLogRead r) s = answered 0x0C04 r .ok
        ([byte s.mem.log.length, 0] ++ be 2 s.mem.lost ++ (s.mem.log.map logBytes).flatten)
        (if clear then { s.takeRequest 0x0C04 r with mem := { s.mem with log := [], lost := 0 } }
         else s.takeRequest 0x0C04 r)) ∧
    (∀ wa : BitVec 32, r.port = 0 → r.params = be 4 wa → wa.toNat < 8388608 → s.wordReady wa.toNat = true →
      (∀ d, s.holdsClean wa.toNat d → ∃ t, exec (.memWordRead r) s =
          answered 0x0C05 r .ok (be 16 d ++ [0, 0, 0, 0]) t ∧ t.mem.words = s.mem.words) ∧
      (s.word wa.toNat = {} → s.mergeOf wa.toNat = none → ∃ t, exec (.memWordRead r) s =
          answered 0x0C05 r .fresh (be 16 (0 : BitVec 128) ++ [0xFF, 0xFF, 2, 0]) t ∧ t.mem.words = s.mem.words) ∧
      (∀ d flips, s.word wa.toNat = { kind := .data, data := d, flips := flips } → popcount flips = 1 →
        s.mergeOf wa.toNat = none → ∃ (syn : BitVec 16) (t : State), exec (.memWordRead r) s =
          answered 0x0C05 r .ok (be 16 d ++ be 2 syn ++ [1, 0]) t ∧ t.word wa.toNat = { kind := .data, data := d }) ∧
      (∀ d flips, s.word wa.toNat = { kind := .data, data := d, flips := flips } → popcount flips = 2 →
        wa.toNat < 0x200000 → ∃ t, exec (.memWordRead r) s = answered 0x0C05 r .poisoned [] t ∧
          (t.word wa.toNat).kind = .poisoned)) ∧
    (∀ (wa other : BitVec 32) (flips : BitVec 144) (d : BitVec 128), r.port = 0 →
      r.params = be 4 wa ++ be 4 other ++ be 18 flips ++ [0, 0] → wa.toNat < 8388608 → other.toNat < 8388608 →
      s.wordReady wa.toNat = true → s.holdsClean wa.toNat d →
      ∃ t, exec (.memInject r) s = answered 0x0C06 r .ok [] t ∧
        t.word wa.toNat = { kind := .data, data := d, flips := flips, addrXor := other.setWidth 23 } ∧
        (∀ w, w ≠ wa.toNat → t.word w = s.word w))

/-- Context memory's own instants: training, the sweep, Eddy's walk, which corrects what it reads and leaves a right
word as it is, and the retirement of merge entries (R359, R360, R364, R366). -/
def Obligations.MemoryInstants : Prop :=
  ∀ (s : State) (c : Fin 8),
    (s.railsOn = true → s.power.resetLow = false → (s.mem.channels[c]).mode = .training →
      exec (.channelTrainingDone c) s = .next (s.updChannel c fun ch =>
        { ch with mode := .sweeping, since := s.moduleTime }) ∧
      ((∃ d : Fin 8, d ≠ c ∧ (s.mem.channels[d]).mode ≠ .failed) →
        Yields (.channelTrainingFail c) s (s.updChannel c fun ch => { ch with mode := .failed }))) ∧
    (∀ ns, s.railsOn = true → s.power.resetLow = false → s.mem.swept = false → s.allFailed = false →
      (∀ d : Fin 8, (s.mem.channels[d]).mode ≠ .training) → ∃ t, exec (.memSweepDone ns) s = .next t ∧
      t.mem.swept = true ∧ t.mem.words = s.mem.words ∧
      (∀ d : Fin 8, (t.mem.channels[d]).mode =
        if (s.mem.channels[d]).mode = .sweeping then .ready else (s.mem.channels[d]).mode)) ∧
    (s.ready = true → s.eddyRuns = true →
      (∀ d, s.holdsClean s.mem.eddy.toNat d → ∃ t, exec .eddyRead s = .next t ∧ t.mem.words = s.mem.words ∧
        t.mem.eddy = s.mem.eddy + 1 ∧
        t.mem.passes = (if s.mem.eddy + 1 = 0 then s.mem.passes + 1 else s.mem.passes)) ∧
      (∀ d flips, s.word s.mem.eddy.toNat = { kind := .data, data := d, flips := flips } → popcount flips = 1 →
        s.wordReady s.mem.eddy.toNat = true → s.mergeOf s.mem.eddy.toNat = none →
        ∃ t, exec .eddyRead s = .next t ∧ t.word s.mem.eddy.toNat = { kind := .data, data := d } ∧
          (∀ w, w ≠ s.mem.eddy.toNat → t.word w = s.word w))) ∧
    (∀ m rest d, s.ready = true → (s.mem.channels[c]).merge = m :: rest → channelOf m.wa = c →
      ((s.moduleTime - m.time).toNat ≥ 2 ∨ (s.mem.channels[c]).merge.length > 192) →
      s.word m.wa = { kind := .data, data := d } →
      ∃ t, exec (.mergeRetire c) s = .next t ∧ t.word m.wa = { kind := .data, data := overlay d m.data m.mask } ∧
        t.mergeOf m.wa = none ∧ (∀ w, w ≠ m.wa → t.word w = s.word w))

/-! ## Headwater -/

/-- Requests of group 0x0D: the configuration is staged and read back, a written phase step is made pending or staged,
and the two status tables, which draw free values for what only a measurement gives (R386, R394 to R398; log 13). -/
def Obligations.HeadwaterRequests : Prop :=
  ∀ (r : Request) (s : State), Executes false r s →
    (Formed r 56 → r.port = 0 → HwFormed r.params s → s.holdsModule 11 = false →
      Writes 0x0D01 .hwConfigWrite r s fun s => { s with hw := { s.hw with
        config := { s.hw.config with staged := parseHw r.params } } }) ∧
    (∀ copy : Bool, r.flag0 = false → r.params = [byte copy.toNat, 0, 0, 0] → Reads 0x0D02 .hwConfigRead r s fun s =>
      renderHw (if copy then s.hw.config.staged else s.hw.config.active)) ∧
    (∀ (amount : BitVec 32) (commit : Bool), r.port = 0 → r.flag0 = false →
      r.params = be 4 amount ++ [byte (1 + commit.toNat), 0, 0, 0] → -500000 ≤ amount.toInt → amount.toInt ≤ 500000 →
      (commit = true → s.holdsModule 11 = false) → amount ≠ 0 →
      (s.hw.stepping = true → Fails 0x0D03 .hwPhaseStep r s .busy) ∧
      (s.hw.stepping = false → Writes 0x0D03 .hwPhaseStep r s fun s => { s with hw := { s.hw with
        pending := if commit then none else some amount.toInt, staged := if commit then some amount.toInt else none } })) ∧
    (Formed r 0 → (∃ data, exec (.hwStatus r) s = answered 0x0D04 r .ok data
        { s.takeRequest 0x0D04 r with fresh := s.fresh + 1 } ∧
      Lays data 36 [(0, [hwModeCode s.hw.mode, s.hw.selected, s.hw.candidate]),
        (3, [byte (bit s.hw.ovenStable 0 + bit (s.hw.holding && s.hw.outOfSpec) 1 +
          bit (s.hw.holding && s.hw.hoFull && decide (s.ocxoDays ≥ 30)) 2 +
          bit (s.hw.pending.isSome || s.hw.staged.isSome) 3 + bit s.hw.slew.isSome 4 + bit s.hw.fallback 5)]),
        (12, be 8 (satInt 64 (if phaseInput s.hw.selected then s.hw.buildOut else 0))),
        (20, be 4 (if s.hw.holding then sat 32 ((s.hw.hoBound + 863999) / 864000) else 0)),
        (24, beBytes 4 (if s.hw.holding then s.hw.hoTime else 0)), (28, beBytes 2 s.wtrLeft),
        (30, be 2 (BitVec.ofInt 16 s.slewLeft)), (32, be 2 (sat 16 s.ocxoDays)), (34, [0, 0])] ∧
      (s.hw.steering = .freerun → slice data 4 4 = [0, 0, 0, 0]) ∧
      (s.hw.steering = .holdover → slice data 4 4 = be 4 s.hw.hoFreq) ∧
      (s.hw.steering = .acquiring ∨ s.hw.steering = .locked → ∀ f, s.hw.freqs.head? = some f →
        slice data 4 4 = be 4 (BitVec.ofInt 32 f)) ∧
      slice data 8 4 = (if s.hw.mode = .acquiring ∨ s.hw.mode = .locked then be 4 (BitVec.ofInt 32 s.hw.phaseErr)
        else [0, 0, 0, 0])) ∧
      ∃ data, exec (.hwInputStatus r) s = answered 0x0D05 r .ok data
          { s.takeRequest 0x0D05 r with fresh := s.fresh + 28 } ∧
        Lays data 116 ([(0, [14, 0, 0, 0])] ++ (List.finRange 14).map (fun i => (4 + 8 * i.val, [inputCode i]))
          ++ (List.finRange 14).map (fun i => (6 + 8 * i.val, [(s.hw.inputs[i]).cause.setWidth 8, 0]))) ∧
        (∀ i : Fin 14, (s.inputUsed i = false → slice data (5 + 8 * i.val) 1 = [0]) ∧
          (s.inputOffered i = false → slice data (8 + 8 * i.val) 4 = [0, 0, 0, 0]) ∧
          (s.inputOffered i = true → (s.hw.inputs[i]).qualified = true → i.val < 12 → ∃ v : Int, v.natAbs ≤ 12000 ∧
            slice data (8 + 8 * i.val) 4 = be 4 (BitVec.ofInt 32 v)) ∧
          (s.inputUsed i = true → s.hw.selected = inputCode i → slice data (5 + 8 * i.val) 1 = [4]) ∧
          (s.inputUsed i = true → s.hw.selected ≠ inputCode i → (s.hw.inputs[i]).qualified = true →
            slice data (5 + 8 * i.val) 1 = [3]) ∧
          (s.inputUsed i = true → s.hw.selected ≠ inputCode i → (s.hw.inputs[i]).qualified = false →
            s.inputOffered i = false → slice data (5 + 8 * i.val) 1 = [1]) ∧
          (s.inputUsed i = true → s.hw.selected ≠ inputCode i → (s.hw.inputs[i]).qualified = false →
            slice data (5 + 8 * i.val) 1 = [1] ∨ slice data (5 + 8 * i.val) 1 = [2])))

/-- Headwater's own instants: an input qualifies; an input is lost by a cause of its own, and the selected one with no
other left brings HOLDOVER; a build-out window ends with its candidate selected; lock is declared once the phase error
has stayed in its window for 10 over the bandwidth; a wait to restore has run; at a second boundary a pending step moves
those after it; a slew ends; the reference output restarts; a pulse output emits an edge at its time; a second of
holdover passes, with the bound of R388; the oven is stable (R379 to R390, R504). -/
def Obligations.HeadwaterInstants : Prop :=
  ∀ (s : State) (i : Fin 14) (n : Fin 2) (freq : BitVec 32) (cause : BitVec 4) (phase : Int),
    (s.ready = true →
      ((s.hw.inputs[i]).qualified = false → s.inputOffered i = true → nearNominal i freq = true →
        ∃ t, exec (.inputQualifyTimer i freq) s = .next t ∧
        (t.hw.inputs[i]).qualified = true ∧ (t.hw.inputs[i]).since = s.moduleTime ∧ t.hw.selected = s.hw.selected ∧
        (∀ j : Fin 14, j ≠ i → t.hw.inputs[j] = s.hw.inputs[j])) ∧
      ((s.hw.inputs[i]).qualified = true → s.lossFits i cause = true → s.hw.mode ≠ .buildOut → s.hw.selected ≠ inputCode i →
        exec (.inputLoss i cause) s = .next (s.updInput i fun x =>
          { x with qualified := false, cause := cause, waited := false })) ∧
      ((s.hw.inputs[i]).qualified = true → s.lossFits i cause = true → s.hw.mode ≠ .buildOut → s.hw.selected = inputCode i →
        (∀ j : Fin 14, j ≠ i → (s.hw.inputs[j]).qualified = false) → ∃ t, exec (.inputLoss i cause) s = .next t ∧
        t.hw.mode = .holdover ∧ t.hw.selected = 0 ∧ t.hw.hoTime = 0 ∧ t.hw.lostBy = 1 ∧
        (t.hw.inputs[i]).qualified = false ∧ t.hw.config = s.hw.config) ∧
      (s.hw.mode = .buildOut → ∃ t, exec (.buildOutWindowEnd phase) s = .next t ∧ t.hw.selected = s.hw.candidate ∧
        t.hw.buildOut = (if phaseInput s.hw.candidate then phase - s.hw.config.active.compOf s.hw.candidate -
          s.hw.windowStep else 0) ∧ t.hw.config = s.hw.config) ∧
      (s.hw.mode = .acquiring → s.hw.phaseErr.natAbs ≤ lockWindow s.hw.selected →
        lockTicks s.hw.config.active s.hw.selected ≤ s.hw.within →
        exec .hwLockDeclared s = .next { s with hw := { s.hw with mode := .locked, lockedFor := some 0 } }) ∧
      ((s.hw.inputs[i]).qualified = true → s.hw.config.active.revertive = true →
        ∃ t, exec (.wtrExpiry i) s = .next t ∧ (t.hw.inputs[i]).waited = true ∧ t.hw.selected = s.hw.selected) ∧
      (∀ a, s.hw.pending = some a → s.secondHere = true → ∃ t, exec .phaseStepApply s = .next t ∧ t.hw.pending = none ∧
        t.hw.stepNext = s.hw.stepNext + 1000000 * a ∧ t.hw.toSecond = s.hw.toSecond ∧ t.hw.selected = s.hw.selected ∧
        t.hw.buildOut = (if phaseInput s.hw.selected then s.hw.buildOut - a else s.hw.buildOut)) ∧
      (s.hw.slew ≠ none → exec .phaseSlewEnd s = .next { s with hw := { s.hw with slew := none } }) ∧
      (s.hw.refoutStopped = true → exec .refoutRestart s = .next { s with hw := { s.hw with refoutStopped := false } }) ∧
      (s.ppsDue n = true → s.hw.ppsRise[n] ≠ some s.moduleTime → exec (.ppsOutEdge n) s = .next { s with hw := { s.hw with
        ppsEdges := s.hw.ppsEdges.set n (s.hw.ppsEdges[n] + 1),
        ppsRise := s.hw.ppsRise.set n (some s.moduleTime) } }) ∧
      (s.hw.holding = true → ∃ t, exec .holdoverSecond s = .next t ∧ t.hw.hoTime = s.hw.hoTime + 1 ∧
        t.hw.mode = s.hw.mode ∧ t.hw.hoBound = 864 * (s.hw.hoPhase + (if s.hw.hoFull then 550 else 1500) *
          (s.hw.hoTime + 1)) + (if s.ocxoDays ≥ 30 then 1 else 5) * (s.hw.hoTime + 1) * (s.hw.hoTime + 1) ∧
        (t.hw.outOfSpec = true ↔ s.hw.outOfSpec = true ∨ t.hw.hoBound > 864000 * s.hw.config.active.bound))) ∧
    (s.power.aux = true → exec .ovenStable s = .next { s with hw := { s.hw with ovenStable := true } })

/-! ## Time domains -/

/-- Requests of group 0x0E: the configuration and the ports' settings are staged and read back, TD_SET notes the time or
the step of its domain, TD_STATUS answers its table, schedules are armed and read back with how far they have come,
captures and timestamps leave in order (R406 to R414, R418 to R424). -/
def Obligations.TimeRequests : Prop :=
  ∀ (r : Request) (s : State) (copy : Bool), Executes false r s →
    (Formed r 96 → r.port = 0 → TimeFormed r.params s → s.holdsModule 10 = false →
      Writes 0x0E01 .tdConfigWrite r s fun s => { s with time := { s.time with
        config := { s.time.config with staged := parseTime r.params } } }) ∧
    (r.flag0 = false → r.params = [byte copy.toNat, 0, 0, 0] → Reads 0x0E02 .tdConfigRead r s fun s =>
      renderTime (if copy then s.time.config.staged else s.time.config.active)) ∧
    (∀ (d : Fin 2) (relative second : Bool) (sec : BitVec 48) (ns : BitVec 32) (frac : BitVec 16), r.port = 0 →
      r.flag0 = false → r.params = [byte (1 + d.val), byte (1 + relative.toNat), byte (1 + second.toNat), 0] ++ be 6 sec
        ++ [0, 0] ++ be 4 ns ++ be 2 frac ++ [0, 0] →
      (if relative then ns.toInt.natAbs else ns.toNat) ≤ 999999999 → (s.tdBlock d).mode ≠ 1 →
      Writes 0x0E03 .tdSet r s fun s => s.updDomain d fun x => { x with setDue := some {
        relative := relative, second := second, amount := tdAmount r.params relative } }) ∧
    (Formed r 0 → Reports 0x0E04 .tdStatus r s 80 (((List.finRange 2).map fun d => (32 * d.val,
        [tdCode d, tdModeCode (s.domain d).mode, byte (bit (s.domain d).everLocked 0 + bit (s.steersHeadwater d) 1 +
          bit (s.domain d).path.isSome 2), 0] ++ beBytes 6 (secOf (s.domain d).time) ++ [0, 0] ++
        beBytes 4 (nsOf (s.domain d).time) ++ be 4 (s.domain d).offset ++
        be 4 (sat 32 (psOf ((s.domain d).path.getD 0)).toNat) ++
        be 4 (BitVec.ofInt 32 (((s.domain d).freq * 10 ^ 12).tdiv (2 ^ 48))) ++ be 4 (s.domain d).syncs)) ++
      [(64, [s.time.config.active.outSrc]),
       (65, [if s.outDomain = none then 0 else if s.time.slewing then 2 else 1]), (66, [0, 0]),
       (68, be 8 (satInt 64 ((s.time.outOffset * 1000).tdiv unitsPerNs))), (76, [0, 0, 0, 0])])) ∧
    (∀ (c : Cp) (flags : BitVec 5) (ts : Fin 3), r.flag0 = false →
      r.params = [byte c.val, flags.setWidth 8, byte ts.val, 0, 0, 0, 0, 0] → s.hasLane c.val = true →
      s.holdsPort r.port c = true → s.portBusy c = false → Writes 0x0E05 .ptpPortWrite r s fun s => s.updCport c fun p =>
        { p with params := { p.params with staged := { p.params.staged with
            ptp := { flags := flags.setWidth 8, tsDomain := byte ts.val } } } }) ∧
    (∀ c : Cp, r.flag0 = false → r.params = [byte c.val, byte copy.toNat, 0, 0] → s.hasLane c.val = true →
      s.holdsPort r.port c = true → ∃ p, p = (if copy then (s.cport c).params.staged else (s.cport c).params.active).ptp ∧
      Reads 0x0E06 .ptpPortRead r s fun _ => [byte c.val, p.flags, p.tsDomain, 0, 0, 0, 0, 0]) ∧
    (∀ n : Fin 4, Formed r 32 → u8 r.params 0 = byte n.val → badTpo (parseTpo r.params) = false →
      zeroAt r.params 10 2 = true → tpoRangeOk (parseTpo r.params) = true → s.holdsTpo r.port n.val = true →
      ((parseTpo r.params).period ≠ 0 → (parseTpo r.params).width.toNat < (parseTpo r.params).period.toNat) →
      (parseTpo r.params).mode = 0 → Writes 0x0E07 .tpoWrite r s fun s => s.updTpo n fun x =>
        { parseTpo r.params with raised := x.raised }) ∧
    (∀ (n : Fin 4) (now : Nat), Formed r 32 → u8 r.params 0 = byte n.val → badTpo (parseTpo r.params) = false →
      zeroAt r.params 10 2 = true → tpoRangeOk (parseTpo r.params) = true → s.holdsTpo r.port n.val = true →
      (parseTpo r.params).mode ≠ 0 →
      ((parseTpo r.params).period ≠ 0 → (parseTpo r.params).width.toNat < (parseTpo r.params).period.toNat) →
      s.scaleSet (parseTpo r.params).scale = true → s.scaleTime (parseTpo r.params).scale = some now →
      ((parseTpo r.params).edge 0 < now + 10000 * unitsPerNs → Fails 0x0E07 .tpoWrite r s .past) ∧
      (now + 10000 * unitsPerNs ≤ (parseTpo r.params).edge 0 → Writes 0x0E07 .tpoWrite r s fun s =>
        s.updTpo n fun x => { parseTpo r.params with raised := x.raised })) ∧
    (∀ n : Fin 4, r.flag0 = false → r.params = [byte n.val, 0, 0, 0] → s.holdsTpo r.port n.val = true →
      ∃ data, exec (.tpoRead r) s = answered 0x0E08 r .ok data { s.takeRequest 0x0E08 r with fresh := s.fresh + 2 } ∧
        ∀ x : Tpo, x = s.time.tpo[n] → Lays data 52 [(0, renderTpo (byte n.val) x), (32, [tpoCode x.state]), (33, [0]),
          (34, be 2 x.missed), (36, be 4 x.emitted), (46, [0, 0])] ∧
        (x.live = true → slice data 40 6 = beBytes 6 (secOf (x.edge x.next)) ∧
          slice data 48 4 = beBytes 4 (nsOf (x.edge x.next)))) ∧
    (∀ (i : Fin 3) (max : Byte), r.port = 0 → r.flag0 = false → r.params = [byte i.val, max, 0, 0] → max ≠ 0 →
      max.toNat ≤ 16 →
      exec (.captureRead r) s = answered 0x0E09 r .ok
        ([byte (min max.toNat (s.time.captures[i]).entries.length), 0, 0, 0] ++ be 4 (s.time.captures[i]).lost
          ++ (((s.time.captures[i]).entries.take max.toNat).map captureBytes).flatten)
        ((s.takeRequest 0x0E09 r).updCapture i fun q => { q with entries := q.entries.drop max.toNat })) ∧
    (∀ max : Byte, r.flag0 = false → r.params = [max, 0, 0, 0] → max ≠ 0 → max.toNat ≤ 169 →
      (∀ x ∈ s.time.log, s.holdsCport r.port x.port.val = true) → s.time.log.length ≤ max.toNat →
      exec (.tslogRead r) s = answered 0x0E0A r .ok
        ([byte s.time.log.length, 0, 0, 0] ++ be 4 s.time.logLost ++ (s.time.log.map tsBytes).flatten)
        { s.takeRequest 0x0E0A r with time := { s.time with log := [] } })

/-- The time domains' own instants: a TD_SET steps its domain at its instant and leaves it FREE; a slew of the output
time ends; a schedule's edge counts, and the last one ends it; an edge on PPS0, PPS1 or CAP is captured, or counted as
lost where 16 wait; a servo that loses its master goes to HOLDOVER (R402, R405, R406, R409, R412, R414). -/
def Obligations.TimeInstants : Prop :=
  ∀ (s : State) (d : Fin 2) (n : Fin 4) (i : Fin 3) (quarters : Nat), s.ready = true →
    (∀ x, (s.domain d).setDue = some x → (x.second = true → s.secondHere = true) →
      ∃ t, exec (.tdSetApply d) s = .next t ∧ (t.domain d).setDue = none ∧
      (t.domain d).mode = .free ∧ (t.domain d).everLocked = true ∧
      (x.relative = false → x.second = false → (t.domain d).time = wrapTime (x.amount * unitsPerFrac)) ∧
      (x.relative = true → (t.domain d).time = wrapTime ((s.domain d).time + x.amount * unitsPerFrac)) ∧
      (∀ e, e ≠ d → (t.domain e).time = (s.domain e).time)) ∧
    (s.time.slewing = true → exec .outputTimeSlewEnd s = .next { s with time := { s.time with
      slewing := false, outOffset := 0 } }) ∧
    (s.edgeDue s.time.tpo[n] = true → ∃ t, exec (.tpoEdge n) s = .next t ∧
      (t.time.tpo[n]).emitted = (s.time.tpo[n]).emitted + 1 ∧
      (t.time.tpo[n]).state = (if (s.time.tpo[n]).mode = 1 ∨ ((s.time.tpo[n]).count ≠ 0 ∧
        (s.time.tpo[n]).emitted.toNat + 1 ≥ (s.time.tpo[n]).count.toNat) then .done else .running) ∧
      (∀ k : Fin 4, k ≠ n → t.time.tpo[k] = s.time.tpo[k])) ∧
    (∀ e, s.captureDomain i = some e →
      ((s.time.captures[i]).entries.length ≥ 16 → exec (.captureEdge i quarters) s = .next (s.updCapture i fun q =>
        { q with lost := bump q.lost })) ∧
      ((s.time.captures[i]).entries.length < 16 → ∃ x, x.mtime = s.moduleTime ∧ x.domain = tdCode e ∧
        Yields (.captureEdge i quarters) s (s.updCapture i fun q => { q with entries := q.entries ++ [x] }))) ∧
    ((s.domain d).mode = .locked → Yields (.syncLossTimeout d) s (s.updDomain d fun x =>
      { x with mode := .holdover, near := 0, far := 0 }))

/-! ## Gauge -/

/-- Requests of group 0x0F: the sequence is staged and reads back, the check's settings are written, results leave in
order, and an injection or a calibration stays in execution until GB has made it, the injection at once or behind those
before it (R434, R436, R437, R442 to R446). -/
def Obligations.GaugeRequests : Prop :=
  ∀ (r : Request) (s : State), Executes false r s →
    (Formed r 136 → r.port = 0 → zeroAt r.params 1 1 = true → zeroAt r.params 4 4 = true →
      (parseSeq r.params).count.toNat ≤ 16 →
      (∀ i, i < 16 → badEntry r.params (parseSeq r.params).count.toNat i = false) →
      (∀ e ∈ (parseSeq r.params).used, s.entryOk e = true) → s.holdsModule 12 = false →
      Writes 0x0F01 .gaugeSeqWrite r s fun s => { s with gauge := { s.gauge with
        seq := { s.gauge.seq with staged := parseSeq r.params } } }) ∧
    (∀ copy : Bool, r.flag0 = false → r.params = [byte copy.toNat, 0, 0, 0] → Reads 0x0F02 .gaugeSeqRead r s fun s =>
      renderSeq (if copy then s.gauge.seq.staged else s.gauge.seq.active)) ∧
    (∀ ch set gain : Byte, r.port = 0 → r.flag0 = false → r.params = [ch, set, gain, 0] → badGain gain = false →
      s.hasChannel ch.toNat = true → set.toNat ≤ 64 →
      (∀ j, s.gauge.work = .injection j → exec (.gaugeInject r) s = .next (State.runOn { s.takeRequest 0x0F03 r with
        gauge := { s.gauge with injections := s.gauge.injections ++ [r] } } 0x0F03 r)) ∧
      ((∀ j, s.gauge.work ≠ .injection j) → s.gauge.restart = none →
        exec (.gaugeInject r) s = .next (State.runOn { s.takeRequest 0x0F03 r with
          gauge := { s.gauge with work := .injection r, restart := none } } 0x0F03 r)) ∧
      (∀ mask, (∀ j, s.gauge.work ≠ .injection j) → s.gauge.restart = some mask →
        exec (.gaugeInject r) s = .next (State.runOn (State.resetCics { s.takeRequest 0x0F03 r with
          gauge := { s.gauge with work := .injection r, restart := none } } mask) 0x0F03 r))) ∧
    (r.port = 0 → r.flag0 = false → r.params = [0, 0, 0, 0] → ∀ u : State, u = { s.takeRequest 0x0F04 r with
        gauge := { s.gauge with calibrations := s.gauge.calibrations ++ [r] } } →
      (s.gauge.work ≠ .idle → exec (.gaugeCalibrate r) s = .next (u.runOn 0x0F04 r)) ∧
      (s.gauge.work = .idle → exec (.gaugeCalibrate r) s = .next (u.gbNext.runOn 0x0F04 r))) ∧
    (∀ tol n : Byte, r.port = 0 → r.flag0 = false → r.params = [tol, n, 0, 0] → tol.toNat ≤ 64 → n ≠ 0 →
      Writes 0x0F05 .gaugeCheckWrite r s fun s => { s with gauge := { s.gauge with tol := tol, disagreeN := n } }) ∧
    (Formed r 0 → Reports 0x0F06 .gaugeStatus r s 144
      ([(0, [byte (bit s.gauge.hold 0 + bit s.gauge.disagreed 1 + bit (s.gauge.buffer.length ≥ 4096) 2)]),
        (1, [byte (s.power.strap0.toNat + 8 * s.power.strap1.toNat)]), (2, be 2 s.gauge.gaLast[0]),
        (4, be 2 s.gauge.gbCheck), (6, [if s.gauge.tol = 0 then 8 else byte s.gauge.tol.toNat]),
        (7, [s.gauge.disagreeN]),
        (8, beBytes 2 s.gauge.buffer.length), (10, be 2 (sat 16 s.gauge.lost.toNat)), (12, [0, 0, 0, 0])] ++
       (List.finRange 64).map fun i => (16 + 2 * i.val, be 2 s.gauge.gaLast[i]))) ∧
    (∀ max : Byte, r.flag0 = false → r.params = [max, 0, 0, 0] → max ≠ 0 → s.gauge.buffer.length ≤ 4096 →
      exec (.gaugeResultRead r) s = answered 0x0F07 r .ok
        ([byte (min max.toNat s.gauge.buffer.length), 0, 0, 0] ++ be 4 s.gauge.lost
          ++ ((s.gauge.buffer.take max.toNat).map resultBytes).flatten)
        { s.takeRequest 0x0F07 r with gauge := s.gauge.takeResults (min max.toNat s.gauge.buffer.length) } ∧
      (s.gauge.takeResults (min max.toNat s.gauge.buffer.length)).buffer =
        s.gauge.buffer.drop max.toNat ++ (match s.gauge.register with | some x => [x] | none => []))

/-- Gauge's own instants: an injection's conversion answers its request with the code and its clipped mark, and a
calibration's end answers its own; an entry's conversion is a result; at a tick whose module time is a multiple of PACE
a pass starts, or is late; a cycle of GA, at one whose module time is a multiple of 6,250, whose check agrees clears the
disagreement, and one that disagrees DISAGREE_N times holds (R429 to R432, R434, R436, R437); the decimators start again
(R415, R438). -/
def Obligations.GaugeInstants : Prop :=
  ∀ (s : State) (raw : BitVec 12), s.ready = true →
    (∀ r, s.gauge.work = .injection r → ∃ (v : BitVec 16) (flag : Byte) (u : State), v.toNat ≤ 4095 ∧
      (flag = byte (bit s.gauge.overruns 1) ∨ flag = byte (4 + bit s.gauge.overruns 1)) ∧
      u.gauge.injected = v ∧ u.gauge.seq = s.gauge.seq ∧
      exec (.gbConversionEnd raw) s = .next (u.conclude 0x0F03 r .ok (be 2 v ++ [flag, 0])).gbNext) ∧
    (∀ n e, s.gauge.work = .entry n e → s.gauge.restart = none → e.ratio.toNat ≤ 1 → s.gauge.buffer.length < 4096 →
      ∃ (u : State) (x : GbResult), x.tag = byte n.val ∧ x.value.toNat ≤ 4095 ∧ x.time = s.moduleTime.setWidth 32 ∧
        u.gauge.buffer = s.gauge.buffer ++ [x] ∧ u.gauge.lastValues = s.gauge.lastValues.set n x.value ∧
        exec (.gbConversionEnd raw) s = .next ({ u with gauge := u.gauge.advance n.val } : State).gbNext) ∧
    (∀ r offsets gain, s.gauge.work = .calibration r → exec (.gaugeCalDone offsets gain) s =
      .next ((
        { s with gauge := { s.gauge with offsets := offsets, gain := gain, calibrations := s.gauge.calibrations.drop 1 } }
        : State).conclude 0x0F04 r .ok []).gbNext) ∧
    (s.gauge.seq.active.count ≠ 0 → s.gauge.seq.active.pace ≠ 0 → s.gauge.passAt ≠ some s.moduleTime →
      s.moduleTime.toNat % s.gauge.seq.active.pace.toNat = 0 →
      (s.gauge.pass = true → s.gauge.late = false → ∃ t, exec .gbPassTick s = .next t ∧
        t.gauge = { s.gauge with late := true, passAt := some s.moduleTime } ∧ t.engines = s.engines) ∧
      (s.gauge.pass = false → s.gauge.work ≠ .idle → exec .gbPassTick s = .next { s with gauge := { s.gauge with
        pass := true, due := 0, passAt := some s.moduleTime } })) ∧
    (∀ codes check, s.moduleTime.toNat % 6250 = 0 → s.gauge.cycleAt ≠ some s.moduleTime →
      (∃ n e, s.gauge.work = .entry n e) → ∃ t, exec (.gaCycleStart codes check) s = .next t ∧
      t.gauge.gaLast = (Vector.ofFn fun (i : Fin 64) =>
        if s.gaSamples i.val then ((codes[i.val]?).map (s.gaCode i.val)).getD s.gauge.gaLast[i] else 0) ∧
      ((((t.gauge.gaLast[(0 : Fin 64)]).toNat : Int) - t.gauge.gbCheck.toNat).natAbs ≤ s.gauge.tolerance →
        t.gauge.disagreed = false ∧ t.gauge.bad = 0) ∧
      (s.gauge.tolerance < (((t.gauge.gaLast[(0 : Fin 64)]).toNat : Int) - t.gauge.gbCheck.toNat).natAbs →
        t.gauge.disagreed = true ∧
        (s.gauge.hold = false → s.gauge.bad + 1 ≥ s.gauge.disagreeN.toNat → t.gauge.hold = true ∧
          (∀ e, s.hasEngine e.val = true → (t.eng e).tx.held = 0x3F)))) ∧
    (s.time.config.active.decSync ≠ 0 → ∃ t, exec .decimatorReset s = .next t ∧
      t.gauge = { s.gauge with cic := Vector.replicate 16 {} } ∧ t.time.decResets = s.time.decResets + 1)

/-! ## Weir -/

/-- Requests of group 0x10: a policy in range and consistent is in force at once and reads back, and its checks are
answered RANGE and INCONSISTENT; WEIR_STATUS and WEIR_SENSOR_READ answer their tables (R459 to R462). -/
def Obligations.WeirRequests : Prop :=
  ∀ (r : Request) (s : State), Executes false r s →
    (Formed r 16 → r.port = 0 → zeroAt r.params 10 6 = true → (parsePolicy r.params).flags.toNat ≤ 3 →
      ((parsePolicy r.params).tapFloor = 0 ∨ (parsePolicy r.params).tapFloor.toNat % 2 = 1) →
      (policyRangeOk (parsePolicy r.params) = false → Fails 0x1001 .weirPolicyWrite r s .range) ∧
      (policyRangeOk (parsePolicy r.params) = true → policyConsistent (parsePolicy r.params) = false →
        Fails 0x1001 .weirPolicyWrite r s .inconsistent) ∧
      (policyRangeOk (parsePolicy r.params) = true → policyConsistent (parsePolicy r.params) = true →
        renderPolicy (parsePolicy r.params) = r.params ∧
        Writes 0x1001 .weirPolicyWrite r s fun s => { s with weir := { s.weir with policy := parsePolicy r.params } })) ∧
    (Formed r 0 →
      Reads 0x1002 .weirPolicyRead r s (fun s => renderPolicy s.weir.policy) ∧
      Reports 0x1003 .weirStatus r s 64
        ([(0, [s.weirState]), (1, [byte s.hottest.1.val]), (2, be 2 (satInt 16 s.hottest.2)),
          (4, [byte (bit s.sup.headless 0 + bit s.power.tripRecorded 1 + bit s.thermLow 2 + bit s.weir.skipped 3)]),
          (5, [byte ((List.range 104).countP fun i => s.hasSensor i && (sensorAt s.weir.sensors i).mode != .valid)]),
          (6, [0, 0]), (26, be 2 (satInt 16 s.weir.rise)), (60, [0, 0, 0, 0])] ++
         (List.finRange 9).map (fun z => (8 + 2 * z.val,
           if s.hasZone z.val then be 2 (satInt 16 ((s.weir.zones[z]).temp.getD 0)) else [0x80, 0x00])) ++
         (List.finRange 4).map (fun e => (28 + 8 * e.val, [byte e.val, byte (s.eng e).iLimit, byte (s.eng e).tapLimit,
           byte (s.weir.zones[1 + e.val].fallback.toNat)] ++ be 2 (s.eng e).tapPenalty ++
           be 2 (s.eng e).totalUsed))) ∧
      Reads 0x1004 .weirSensorRead r s (fun s => [byte ((List.range 104).filter s.hasSensor).length, 0, 0, 0] ++
        (((List.range 104).filter s.hasSensor).map fun i => [byte i, sensorCode (sensorAt s.weir.sensors i).mode] ++
          be 2 (satInt 16 (sensorAt s.weir.sensors i).temp)).flatten))

/-- A reading of a module that is not in headless running and holds nothing dark: when the hottest zone has reached
ORDERLY_TEMP the lasers are held dark, and below it they are not; a hold ends with its release (R450 to R455).  Weir
changes no configuration.  The comparator's trip leaves the module unpowered with the latch set (R456). -/
def Obligations.WeirInstants : Prop :=
  ∀ (s : State) (temps : List (BitVec 16)),
    (s.ready = true → s.weir.hold = false → ∃ t, exec (.weirReading temps) s = .next t ∧
      (t.hottest.2 ≥ 16 * s.weir.policy.orderlyAt → t.weir.hold = true ∧
        (∀ e, s.hasEngine e.val = true → (t.eng e).tx.mode ≠ .lit ∧ (t.eng e).tx.mode ≠ .enabling)) ∧
      (t.hottest.2 < 16 * s.weir.policy.orderlyAt → t.weir.hold = false ∧
        (∀ e, (t.eng e).tx = (s.eng e).tx)) ∧
      t.weir.policy = s.weir.policy ∧ (∀ e, (t.eng e).params = (s.eng e).params)) ∧
    (s.ready = true → s.mayRelease = true → ∃ t, exec .weirReleaseTimer s = .next t ∧ t.weir.hold = false ∧
      (∀ e, (s.eng e).tx.mode = .heldDark → (t.eng e).tx.mode ≠ .heldDark) ∧
      (∀ e, (s.eng e).tx.mode ≠ .heldDark → (t.eng e).tx = (s.eng e).tx)) ∧
    (s.power.aux = true → ∃ t, exec .hardwiredTrip s = .next t ∧ t.railsOn = false ∧ t.power.tripLatch = true ∧
      t.thermLow = true ∧ (∀ e, t.laserOn e = false))

/-! ## The supervisor pair -/

/-- Requests of group 0x11: the drill and the restore are deferred, BUSY and INCONSISTENT where they may not start; the
settings and the status (R470, R471, R478, R479). -/
def Obligations.SupervisorRequests : Prop :=
  ∀ (r : Request) (s : State), Executes false r s → r.flag0 = false →
    (r.params = [] → Reports 0x1101 .supStatus r s 32
      [(0, [byte s.sup.active.val, s.sup.mode, unitCode s.sup.units[(0 : Fin 2)], unitCode s.sup.units[(1 : Fin 2)]]),
       (4, [s.sup.causes[(0 : Fin 2)], s.sup.causes[(1 : Fin 2)]]), (6, [s.sup.referee.setWidth 8]),
       (7, [byte (bit s.sup.swap.isSome 0 + bit s.sup.restore.isSome 1)]), (8, be 4 s.sup.takeovers),
       (12, be 4 s.sup.journal), (16, be 6 s.sup.lastTakeover), (22, be 2 s.sup.lastDuration),
       (24, be 2 s.sup.failures[(0 : Fin 2)]), (26, be 2 s.sup.failures[(1 : Fin 2)]), (28, [0, 0, 0, 0])]) ∧
    (r.port = 0 → r.params = [0, 0, 0, 0] →
      ((s.sup.busy = true ∨ s.sup.units[s.sup.other] ≠ .standby) → Fails 0x1102 .supSwap r s .busy) ∧
      (s.sup.busy = false → s.sup.units[s.sup.other] = .standby → ∃ t w,
        exec (.supSwap r) s = answered 0x1102 r .okDeferred [] t ∧ t.sup.swap = some w ∧ w.yielded = s.sup.active ∧
        w.taken = false ∧ t.sup.units[s.sup.active] = .standby ∧ t.serving = false)) ∧
    (∀ u : Fin 2, r.port = 0 → r.params = [byte u.val, 0, 0, 0] →
      (s.sup.busy = true → Fails 0x1103 .supRestore r s .busy) ∧
      (s.sup.busy = false → s.sup.units[u] ≠ .failed → Fails 0x1103 .supRestore r s .inconsistent) ∧
      (s.sup.busy = false → s.sup.units[u] = .failed → ∃ t x, exec (.supRestore r) s =
        answered 0x1103 r .okDeferred [] t ∧ t.sup.restore = some x ∧ x.target = u ∧ t.sup.units[u] = .restoring)) ∧
    (∀ flags : BitVec 2, r.port = 0 → r.params = [flags.setWidth 8, 0, 0, 0] →
      Writes 0x1104 .supConfigWrite r s fun s => { s with sup := { s.sup with flags := flags } }) ∧
    (r.params = [] → Reads 0x1105 .supConfigRead r s fun s => [s.sup.flags.setWidth 8, 0, 0, 0])

/-- The referee and the pair: two of three voters judge a heartbeat (log 11), and the third window missed in succession,
a parity fault and an illegal state declare the active unit failed, and with a standby at hand a takeover begins, which
its completion ends; without one the module runs headless and drops what is pending; requests in execution wait to be
executed anew, or are answered HEADLESS (R61); drills, restores, the journal and the voters (R465 to R473, R480). -/
def Obligations.SupervisorInstants : Prop :=
  ∀ (s : State) (u : Fin 2) (passes : Bool) (n : BitVec 16) (v : Fin 3) (votes : Vector Bool 3)
      (beats : Vector (Option Heartbeat) 3), s.ready = true → s.sup.headless = false →
    (s.sup.takeover = none → s.sup.swap = none → s.sup.units[s.sup.other] = .standby →
      (∀ c ∈ [(Instr.supParityFault, (2 : Byte)), (.supIllegalState, 3), (.refereeWindow beats, 1)],
        (c.2 = 1 → 2 ≤ s.sup.missed ∧ majority (Vector.ofFn fun v => validBeat s.sup.lastBeat[v] beats[v]) = false) →
          ∃ t, exec c.1 s = .next t ∧ t.sup.units[s.sup.active] = .failed ∧
          t.sup.causes[s.sup.active] = c.2 ∧ t.sup.takeover = some { failed := s.sup.active, cause := c.2 } ∧
          t.serving = false ∧ (∀ e, (t.eng e).params = (s.eng e).params) ∧
          (∀ p : Hp, (t.port p).running = [] ∧
            (t.port p).queue = (s.port p).running ++ (s.port p).queue))) ∧
    (s.sup.takeover = none → s.sup.swap = none → s.sup.units[s.sup.other] ≠ .standby →
      ∃ t, exec .supParityFault s = .next t ∧ t.sup.headless = true ∧ t.commits = [] ∧
        t.sup.units = Vector.replicate 2 .failed ∧ (∀ p : Hp, (t.port p).running = []) ∧
        (∀ e, (t.eng e).params = (s.eng e).params)) ∧
    (s.inTakeover = false → votes = (Vector.ofFn fun v => validBeat s.sup.lastBeat[v] beats[v]) →
      (majority votes = true ∨ s.sup.missed < 2) → ∃ t, exec (.refereeWindow beats) s = .next t ∧
      t.sup.missed = (if majority votes then 0 else s.sup.missed + 1) ∧
      (∀ b, beats[v] = some b → t.sup.lastBeat[v] = if votes[v] then b.journal else s.sup.lastBeat[v]) ∧
      Raises { s with sup := { s.sup with
        missed := t.sup.missed, lastBeat := t.sup.lastBeat, referee := t.sup.referee } } t) ∧
    (majority votes = true ↔ 2 ≤ votes.toList.count true) ∧
    (∀ x, s.sup.takeover = some x → ∃ t, exec (.takeoverComplete n) s = .next t ∧ t.sup.takeover = none ∧
      t.sup.active = otherUnit x.failed ∧ t.sup.units[otherUnit x.failed] = .active ∧
      t.sup.takeovers = s.sup.takeovers + 1 ∧ t.sup.lastDuration = n ∧ t.sup.lastTakeover = s.moduleTime) ∧
    (∀ w, s.sup.takeover = none → s.sup.swap = some w → w.taken = true → w.returning = false →
      ∃ t, exec .swapWindowEnd s = .next t ∧ t.sup.swap = none ∧ t.sup.active = s.sup.active) ∧
    (∀ x, s.sup.restore = some x → (∀ k : Fin 2, s.sup.autoDue[k] = false) →
      ∃ t, exec (.restoreComplete passes n) s = .next t ∧ t.sup.restore = none ∧
        t.sup.units[x.target] = (if passes then .standby else .failed)) ∧
    (s.sup.flags.getLsbD 0 = true → s.sup.units[u] = .failed → s.autoAllowed u = true →
      (s.sup.busy = false → ∃ t, exec (.autoRestoreTimer u) s = .next t ∧ t.sup.units[u] = .restoring ∧
        t.sup.lastAuto[u] = some s.moduleTime) ∧
      (s.sup.busy = true → exec (.autoRestoreTimer u) s = .next { s with sup := { s.sup with
        autoDue := s.sup.autoDue.set u true } })) ∧
    (s.inTakeover = false → s.sup.units[s.sup.other] = .standby → 2 ≤ s.sup.journalFails →
      ∃ t, exec .journalRecordFail s = .next t ∧ t.sup.units[s.sup.other] = .failed ∧
        t.sup.causes[s.sup.other] = 4 ∧ t.sup.journalFails = 0) ∧
    ((∀ w : Fin 3, votes[w] = votes[v]) → exec (.voterDisagree votes) s = .next s) ∧
    ((∀ w : Fin 3, w ≠ v → votes[w] ≠ votes[v]) → s.sup.referee.getLsbD v.val = false → Yields (.voterDisagree votes) s
      { s with sup := { s.sup with referee := s.sup.referee ||| (1 : BitVec 3) <<< v.val } })

/-! ## Counters and intervals -/

/-- Requests of group 0x12: settings from the next tick, snapshots, reads and clears of a port's own views, the flight
recorder, the tag log (R484 to R487, R493 to R500). -/
def Obligations.CounterRequests : Prop :=
  ∀ (r : Request) (s : State), Executes false r s → r.flag0 = false →
    (∀ mask : BitVec 32, r.port = 0 → r.params = be 4 mask ++ [0, 0, 0, 0] → mask &&& 0xFFF00001 = 0 →
      Writes 0x1201 .ctrConfigWrite r s fun s => { s with collector := { s.collector with groupNext := some mask } }) ∧
    (r.params = [] → Reads 0x1202 .ctrConfigRead r s fun s => be 4 (s.collector.groupNext.getD s.collector.groupEn)
      ++ [0, 0, 0, 0] ++ (s.collector.tagNext.getD s.collector.tag).bytes) ∧
    (∀ mask : BitVec 32, r.params = be 4 mask → mask &&& 0xFFF00001 = 0 → ∃ t, exec (.ctrSnapshot r) s =
        answered 0x1203 r .ok (be 6 (s.moduleTime + 1) ++ [0, 0]) t ∧
      t.collector = { s.collector with snapDue := s.collector.snapDue.set r.port (s.collector.snapDue[r.port] ||| mask) }) ∧
    (∀ (k : CounterKind) (first : BitVec 32) (count : BitVec 16), r.params = be 2 (s.kindNumber k) ++ [0, 0] ++
        be 4 first ++ be 2 count ++ [0, 0] → s.kindOf (s.kindNumber k) = some k → count ≠ 0 → count.toNat ≤ 451 →
      first.toNat + count.toNat ≤ s.instances (kindInfo k).2.2.1 →
      s.holdsRun r.port (kindInfo k).2.2.1 first.toNat count.toNat = true →
      ∃ data, Reads 0x1204 .ctrRead r s (fun _ => data) ∧ data.length = 16 + 9 * count.toNat ∧
        ∀ i, i < count.toNat → slice data (16 + 9 * i) 9 = s.counterEntry r.port k (first.toNat + i)) ∧
    (r.params = [0xFF, 0xFF, 0, 0, 0, 0, 0, 0, 0, 0, 0, 0] → canon {} (s.collector.views[r.port]) = true →
      ∃ t, exec (.ctrClear r) s = answered 0x1205 r .ok [] t ∧ (∀ p, p ≠ r.port → ∀ key, t.view_ p key = s.view_ p key) ∧
        t.collector.values = s.collector.values ∧
        ∀ key, s.holdsInstance r.port (scopeAt (key / 4096)) (key % 4096) = true →
          t.view_ r.port key = { s.view_ r.port key with base := (s.view_ r.port key).snap, ovf := false }) ∧
    (∀ first count : Byte, r.params = [first, count, 0, 0] → count ≠ 0 → first.toNat + count.toNat ≤ 256 →
      ∃ data, Reads 0x1206 .frRead r s (fun _ => data) ∧ data.length = 40 + 4 * count.toNat ∧
        slice data 0 8 = be 6 s.moduleTime ++ [0, 0] ∧ slice data 8 32 = be 32 s.stickyMap ∧
        ∀ i, i < count.toNat → slice data (40 + 4 * i) 4 = be 4 (s.flightAt (first.toNat + i)).1) ∧
    (∀ (a b binw : Byte) (stop : Bool), r.port = 0 → r.params = [a, b, binw, byte stop.toNat, 0, 0, 0, 0] →
      a.toNat ≤ 20 → b.toNat ≤ 20 → Writes 0x1207 .tagConfigWrite r s fun s => { s with collector := { s.collector with
        tagNext := some { expIn := a, expEg := b, binw := binw, logStop := stop } } }) ∧
    (∀ max : Byte, r.params = [max, 0, 0, 0] → max ≠ 0 → max.toNat ≤ 84 →
      (∀ x ∈ s.collector.log, s.holdsCport r.port x.port = true) → max.toNat ≤ s.collector.log.length → ∃ t,
      exec (.tagLogRead r) s = answered 0x1208 r .ok ([max, 0, 0, 0] ++ be 4 s.collector.logLost
        ++ ((s.collector.log.take max.toNat).map fun x => x.bytes).flatten) t ∧
      t.collector.log = s.collector.log.drop max.toNat)

/-- What the block does with time: snapshots that are due take every counter of their groups as it stands and the next
tick's time (R484, R494); what waits for the next MFC boundary takes effect there, and settings of the collector with it
(R310, R338, R487, R500); the ends of the short and of the long interval store what was measured, a lane's bit errors
among it, and start anew (R154, R281, R374). -/
def Obligations.IntervalsAndSnapshots : Prop :=
  ∀ s : State, s.ready = true →
    (∃ t, exec .ctrSnapshotTick s = .next t ∧ t.moduleTime = s.moduleTime ∧ t.engines = s.engines ∧
      t.collector.values = s.collector.values ∧ (∀ p : Hp, t.collector.snapDue[p] = 0) ∧
      (∀ p : Hp, s.collector.snapDue[p] = 0 → t.collector.views[p] = s.collector.views[p]) ∧
      (canon 0 s.collector.values = true → ∀ (p : Hp) (x : Nat × Nat), x ∈ s.collector.values →
        canon {} s.collector.views[p] = true → (s.collector.snapDue[p]).getLsbD (groupAt (x.1 / 4096)) = true →
        (t.view_ p x.1).snap = x.2)) ∧
    (∃ t, exec .immediateEffectBoundary s = .next t ∧ t.immediate = [] ∧ t.moduleTime = s.moduleTime ∧
      t.collector.groupNext = none ∧ t.collector.groupEn = s.collector.groupNext.getD s.collector.groupEn ∧
      t.collector.tag = s.collector.tagNext.getD s.collector.tag ∧ (∀ e, (t.eng e).params = (s.eng e).params)) ∧
    (∀ m : ShortReport, ∃ t, exec (.shortIntervalEnd m) s = .next t ∧ t.moduleTime = s.moduleTime ∧
      (∀ e, (t.eng e).params = (s.eng e).params) ∧
      (∀ k : LaneNo, (t.lane k).prbsLast = sat 32 ((s.lane k).prbsNow +
          if (s.lane k).locked then m.lanes.getD k.val 0 else 0) ∧ (t.lane k).prbsNow = 0) ∧
      (∀ (e : Eng) v, m.engines[e.val]? = some v → s.hasEngine e.val = true → (t.eng e).tx.pOut = v.pOut ∧
        (t.eng e).tx.freqErr = v.freqErr ∧ (t.eng e).rx.monitor.pIn = v.pIn ∧ (t.eng e).rx.monitor.time = s.moduleTime)) ∧
    (∀ l, ∃ t, exec (.longIntervalEnd l) s = .next t ∧ t.moduleTime = s.moduleTime ∧
      (∀ e, (t.eng e).params = (s.eng e).params) ∧
      (∀ c : Fin 8, (t.mem.channels[c]).corr = (s.mem.channels[c]).corrNow ∧ (t.mem.channels[c]).corrNow = 0) ∧
      (∀ (e : Eng) v, l[e.val]? = some v → s.hasEngine e.val = true → (t.eng e).rx.monitor.osnr = v.osnr ∧
        (t.eng e).rx.monitor.dgd = v.dgd ∧ (t.eng e).rx.monitor.cdResid = v.cdResid))

/-! ## Power, resets, the non-volatile store and boundary scan -/

/-- Requests of group 0x13 (R511, R513 to R515): MODULE_RESET under its key, RESET_INFO, reads of both regions, and a
write of whole pages, which is deferred and BUSY while another runs. -/
def Obligations.ResetAndStoreRequests : Prop :=
  ∀ (r : Request) (s : State), r.flag0 = false →
    (Executes true r s → r.port = 0 → r.params = [0x52, 0x53, 0, 0] → Writes 0x1301 .moduleReset r s fun s =>
      { s with power := { s.power with resetDue := true } }) ∧
    (Executes true r s → r.params = [] → Reports 0x1302 .resetInfo r s 16
      [(0, [s.power.cause, s.power.resetFlags]), (2, be 2 s.power.resets), (4, be 4 s.power.readyTime),
       (8, be 6 s.moduleTime), (14, [0, 0])]) ∧
    (Executes false r s → ∀ (integrator : Bool) (o : BitVec 32) (n : BitVec 16),
      r.params = [byte integrator.toNat, 0, 0, 0] ++ be 4 o ++ be 2 n ++ [0, 0] → n ≠ 0 → n.toNat ≤ 4080 →
      (o.toNat + n.toNat > (if integrator then 65536 else 262144) → Fails 0x1303 .nvRead r s .range) ∧
      (o.toNat + n.toNat ≤ (if integrator then 65536 else 262144) → s.nv.job = none →
        ∃ data, Reads 0x1303 .nvRead r s (fun _ => data) ∧ data.length = n.toNat ∧
          ∀ i, i < n.toNat → data[i]? =
            some (readAt 0 (if integrator then s.nv.integrator else s.nv.factory) (o.toNat + i)))) ∧
    (Executes false r s → ∀ (o : BitVec 32) (n : BitVec 16) (data : Bytes), r.port = 0 →
      r.params = [1, 0, 0, 0] ++ be 4 o ++ be 2 n ++ [0, 0] ++ data → data.length = n.toNat → 64 ≤ n.toNat →
      n.toNat ≤ 4032 → n.toNat % 64 = 0 → o.toNat % 64 = 0 → o.toNat + n.toNat ≤ 65536 →
      (s.nv.job ≠ none → Fails 0x1304 .nvWrite r s .busy) ∧
      (s.nv.job = none → ∃ t j, exec (.nvWrite r) s = answered 0x1304 r .okDeferred [] t ∧ t.nv.job = some j ∧
        j.offset = o.toNat ∧ j.data = data ∧ t.nv.integrator = s.nv.integrator))

/-- Supplies, RESET_N, the resets and ready: which cause each reset names, whether module time and Headwater go on, what
is cleared with every reset, and that no laser gives light until ready (R502 to R509, R513).  The clauses on the trip
latch, and a pulse of 10 µs or more, are those of R456 and R505. -/
def Obligations.PowerAndResets : Prop :=
  ∀ s : State,
    (s.railsOn = false → s.power.tripLatch = false → ∃ t, exec .powerOnTrigger s = .next t ∧ t.power.phase = .starting ∧
      t.power.cause = (if s.power.auxLost then 5 else 1) ∧ t.moduleTime = 0 ∧ t.hw.mode = .freerun ∧
      t.power.resets = 0 ∧ t.engines = State.reset.engines ∧ t.commits = []) ∧
    (s.power.p12v = true → ∃ t, exec (.supplyLoss false) s = .next t ∧ t.power.p12v = false ∧ t.railsOn = false ∧
      t.power.tripLatch = false ∧ t.hw.ovenStable = s.hw.ovenStable) ∧
    (s.power.aux = true → ∃ t, exec (.supplyLoss true) s = .next t ∧ t.power.aux = false ∧ t.railsOn = false ∧
      t.hw.ovenStable = false) ∧
    (s.power.aux = false → ∃ t, exec .p3v3AuxApplied s = .next t ∧ t.power.aux = true ∧ t.hw.ovenStable = false ∧
      t.engines = s.engines) ∧
    exec .vioLoss s = .next { s with power := { s.power with vio := false } } ∧
    exec .vioRestored s = .next { s with power := { s.power with vio := true } } ∧
    (∃ t, exec .resetNAssert s = .next t ∧ t.power.resetLow = true ∧ t.ready = false ∧ t.engines = s.engines ∧
      (∀ e, t.laserOn e = false)) ∧
    (∀ ns, s.power.resetLow = true → s.power.phase = .ready → 10000 ≤ ns →
      ∃ t, exec (.resetNDeassert ns) s = .next t ∧
      t.power.phase = .starting ∧ t.power.cause = 2 ∧ t.power.resets = bump s.power.resets ∧
      t.moduleTime = s.moduleTime ∧ t.engines = State.reset.engines ∧ t.sup.takeovers = s.sup.takeovers) ∧
    (∀ ns, s.power.resetLow = true → ns < 1000 → ∃ t, exec (.resetNDeassert ns) s = .next t ∧ t.power.resetLow = false ∧
      t.power.phase = s.power.phase ∧ t.engines = s.engines) ∧
    (s.ready = true → s.power.resetDue = true → ∃ t, exec .moduleResetBegin s = .next t ∧ t.power.phase = .starting ∧
      t.power.cause = 3 ∧ t.moduleTime = s.moduleTime ∧ t.keys.slots = [] ∧
      t.keys.owner = (ownerOf t.nv.fuses).1 ∧ (s.keys.owner ≠ .provisioning → t.nv.fuses = s.nv.fuses) ∧
      t.mem.words = [] ∧ t.commits = [] ∧
      (∀ p : Hp, (t.port p).queue = [] ∧ (t.port p).events = [] ∧ (t.port p).tenancy = {})) ∧
    (s.power.tripLatch = true → s.power.resetLow = true → s.power.p12v = true → s.power.aux = true → s.railsOn = false →
      ∃ t, exec .tripLatchRelease s = .next t ∧ t.power.tripLatch = false ∧ t.power.phase = .starting ∧
        t.power.cause = 4) ∧
    (∀ rep, s.power.phase = .starting → s.power.resetLow = false → ∃ t, exec (.moduleReady rep) s = .next t ∧
      t.ready = true ∧ t.power.readyTime = rep.readyTime ∧ t.moduleTime = s.moduleTime ∧
      (∀ p : Hp, (t.port p).sessionStart = s.moduleTime) ∧ t.records = findRecords t.nv.factory s.engineCount ∧
      (∀ e, (t.eng e).params = (s.eng e).params)) ∧
    (∀ j, s.ready = true → s.nv.job = some j → ∃ t, exec .nvWriteDone s = .next t ∧ t.nv.job = none ∧
      t.nv.integrator = writeRun 0 s.nv.integrator j.offset j.data ∧ t.nv.factory = s.nv.factory)

/-- R531: the test access port.  Its rows are ignored until the rails are in regulation, act on it alone, and EXTEST,
CLAMP and HIGHZ take the contacts only while RESET_N is low, and otherwise select the bypass register.  What leaves the
registers follows IEEE 1149.1 (log 6). -/
def Obligations.BoundaryScan : Prop :=
  ∀ (s : State) (preload : Option (List Bool)) (pins : List Bool) (c : Instr) (j : TapInstr),
    (c, j) ∈ [(Instr.tapReset, TapInstr.testLogicReset), (.jtagBypass, .bypass), (.jtagIdcode, .idcode),
      (.jtagSamplePreload preload pins, .samplePreload), (.jtagExtest, .extest), (.jtagClamp, .clamp),
      (.jtagHighz, .highz)] →
    (s.railsOn = false → exec c s = .next s) ∧
    (s.railsOn = true → ∃ t, exec c s = .next t ∧ t = { s with jtag := t.jtag } ∧
      t.jtag.instr = (if s.power.resetLow = false ∧ (j = .extest ∨ j = .clamp ∨ j = .highz) then .bypass else j) ∧
      t.jtag.driving = (s.power.resetLow && (j == .extest || j == .clamp)) ∧
      t.jtag.floating = (s.power.resetLow && j == .highz) ∧
      (j = .samplePreload → t.jtag.out = pins ∧ t.jtag.cells = preload.getD s.jtag.cells) ∧
      (j ≠ .samplePreload → t.jtag.cells = s.jtag.cells) ∧
      (j = .idcode → t.jtag.out.length = 32 ∧ t.jtag.out.take 12 = (List.range 12).map ((0xCAF : BitVec 32).getLsbD)))

/-! ## Invariants -/

/-- The state after reset: unready and dark, with nothing pending, every configuration at its defaults, and sound.  The
values that the spec gives no reset value for are those of log 12. -/
def Obligations.ResetStateIsSound : Prop :=
  State.reset.pending = [] ∧ State.reset.commits = [] ∧ State.reset.ready = false ∧ State.reset.moduleTime = 0 ∧
    (∀ p : Hp, (State.reset.port p).nextSeq = 0 ∧ (State.reset.port p).queue = [] ∧ (State.reset.port p).events = [] ∧
      (State.reset.port p).lost = 0 ∧ (State.reset.port p).dynAddr = none) ∧
    (∀ e : Eng, (State.reset.eng e).params.active = (State.reset.eng e).params.staged ∧
      (State.reset.eng e).tx.mode = .dark ∧ (State.reset.eng e).rx.mode = .off ∧ State.reset.laserOn e = false) ∧
    (∀ wa, State.reset.word wa = {}) ∧ (∀ n, (State.reset.slot n).state = .empty ∧ (State.reset.slot n).gen = 0) ∧
    State.reset.sup.active = 0 ∧ State.reset.sup.units[(0 : Fin 2)] = .active ∧
    State.reset.sup.units[(1 : Fin 2)] = .standby ∧ State.reset.sup.headless = false ∧
    State.reset.hw.mode = .freerun ∧ State.reset.power.tripLatch = false ∧
    State.reset.storesOk ∧ State.reset.eventsOk ∧ State.reset.tenancyOk ∧ State.reset.pairOk ∧ State.reset.policyOk

/-- What a configuration write, SLUICE_DISCARD or a reset writes, no other command changes: no event, status read,
commit or tick touches identity, Weir's policy, a tenancy, FLAGS, the non-volatile store, Eddy's, the check's or the
sealing settings, the owner key or a staged copy; each such command writes its own part alone; a reset brings the
defaults and keeps identity and the factory region (R54, R59, R74 to R76, R90, R460, R513). -/
def Obligations.SettingsChangeOnlyByTheirCommands : Prop :=
  ∀ (c : Instr) (s t : State), exec c s = .next t → SettingsFrame c s.settings t.settings

/-- R58: no resource lies in the tenancies of two ports besides HP0, whatever step is taken. -/
def Obligations.TenanciesStayDisjoint : Prop :=
  ∀ s t : State, s.tenancyOk → step s = .next t → t.tenancyOk

/-- Outside headless running a unit serves, or has been called to, whatever step is taken (R464, R468 to R471). -/
def Obligations.SupervisorPairStaysSound : Prop :=
  ∀ s t : State, s.pairOk → step s = .next t → t.pairOk

/-- Weir's policy stays in range and consistent, whatever step is taken (R460). -/
def Obligations.WeirPolicyStaysConsistent : Prop :=
  ∀ s t : State, s.policyOk → step s = .next t → t.policyOk

/-- Context memory and the key slots stay in canonical form, whatever step is taken: equal contents are equal data. -/
def Obligations.StoresStayCanonical : Prop :=
  ∀ s t : State, s.storesOk → step s = .next t → t.storesOk

/-- No port's event queue grows beyond 256 records, whatever step is taken (R56, R57). -/
def Obligations.EventQueuesStayBounded : Prop :=
  ∀ s t : State, s.eventsOk → step s = .next t → t.eventsOk
end

