-- ==== Sys2Proof/Laws/Bytes.lean ====
section
/-! SUPPORT. Lengths and fields of byte strings: what is written big-endian reads back, and a field of two strings laid
end to end lies in one of them. -/

namespace Sys2Proof.Machine

@[simp] theorem beBytes_length (n v : Nat) : (beBytes n v).length = n := by
  induction n generalizing v with
  | zero => rfl
  | succ n ih => simp [beBytes, ih]

@[simp] theorem be_length {w : Nat} (n : Nat) (v : BitVec w) : (be n v).length = n := by simp [be]

@[simp] theorem zeros_length (n : Nat) : (zeros n).length = n := by simp [zeros]

@[simp] theorem slice_length (b : Bytes) (o n : Nat) : (slice b o n).length = min n (b.length - o) := by
  simp [slice]

@[simp] theorem fit_length (n : Nat) (b : Bytes) : (fit n b).length = n := by
  simp only [fit, List.length_append, List.length_take, zeros_length]
  omega

/-- The value of a string with one more byte at its end. -/
theorem beValue_concat (a : Bytes) (x : Byte) : beValue (a ++ [x]) = beValue a * 256 + x.toNat := by simp [beValue]

/-- The value of a string is below 256 to its length. -/
theorem beValue_lt (b : Bytes) : beValue b < 256 ^ b.length := by
  induction b using List.reverseRecOn with
  | nil => simp [beValue]
  | append_singleton a x ih =>
    have := x.isLt
    rw [beValue_concat]
    simp only [List.length_append, List.length_singleton, Nat.pow_succ]
    omega

/-- What `beBytes` writes reads back, modulo 256 to the length. -/
theorem beValue_beBytes (n v : Nat) : beValue (beBytes n v) = v % 256 ^ n := by
  induction n generalizing v with
  | zero => simp [beValue, beBytes, Nat.mod_one]
  | succ n ih =>
    have h8 : v % 256 % 2 ^ 8 = v % 256 := Nat.mod_eq_of_lt (by omega)
    rw [beBytes, beValue_concat, ih, BitVec.toNat_ofNat, h8, Nat.pow_succ, Nat.mul_comm (256 ^ n), Nat.mod_mul]
    omega

/-- A string is what its value spells at its length. -/
theorem beBytes_beValue (b : Bytes) : beBytes b.length (beValue b) = b := by
  induction b using List.reverseRecOn with
  | nil => rfl
  | append_singleton a x ih =>
    have := x.isLt
    rw [beValue_concat]
    simp only [List.length_append, List.length_singleton, beBytes]
    have h1 : (beValue a * 256 + x.toNat) / 256 = beValue a := by omega
    have h2 : (beValue a * 256 + x.toNat) % 256 = x.toNat := by omega
    rw [h1, h2, ih]
    simp

theorem field_append_left {a b : Bytes} {o n : Nat} (h : o + n ≤ a.length) : field (a ++ b) o n = field a o n := by
  simp only [field]
  rw [List.drop_append_of_le_length (by omega), List.take_append_of_le_length (by simp; omega)]

theorem field_append_right {a b : Bytes} {o n : Nat} (h : a.length ≤ o) :
    field (a ++ b) o n = field b (o - a.length) n := by
  simp only [field]
  rw [List.drop_append, List.drop_eq_nil_of_le h, List.nil_append]

theorem slice_append_left {a b : Bytes} {o n : Nat} (h : o + n ≤ a.length) : slice (a ++ b) o n = slice a o n := by
  simp only [slice]
  rw [List.drop_append_of_le_length (by omega), List.take_append_of_le_length (by simp; omega)]

theorem slice_append_right {a b : Bytes} {o n : Nat} (h : a.length ≤ o) :
    slice (a ++ b) o n = slice b (o - a.length) n := by
  simp only [slice]
  rw [List.drop_append, List.drop_eq_nil_of_le h, List.nil_append]

theorem slice_all {a : Bytes} {n : Nat} (h : a.length = n) : slice a 0 n = a := by
  subst h; simp [slice]

theorem field_all {a : Bytes} {n : Nat} (h : a.length = n) : field a 0 n = beValue a := by
  subst h; simp [field]

/-- A bit vector of whole bytes written big-endian reads back. -/
theorem field_be {n : Nat} (v : BitVec (8 * n)) : field (be n v) 0 n = v.toNat := by
  rw [field_all (by simp), be, beValue_beBytes, Nat.mod_eq_of_lt]
  have := v.isLt
  rwa [Nat.pow_mul] at this

/-- A byte at the head of a string. -/
@[simp] theorem field_cons_zero (x : Byte) (b : Bytes) : field (x :: b) 0 1 = x.toNat := by simp [field, beValue]

@[simp] theorem field_cons_succ (x : Byte) (b : Bytes) (o n : Nat) : field (x :: b) (o + 1) n = field b o n := rfl

@[simp] theorem byte_toNat_of_lt {n : Nat} (h : n < 256) : (byte n).toNat = n := by
  simp [byte, Nat.mod_eq_of_lt h]

/-! Numbers and zeros at the front of a list of parameters. -/

@[simp] theorem field_be2 (v : BitVec 16) (x : Bytes) : field (be 2 v ++ x) 0 2 = v.toNat := by
  rw [field_append_left (by simp)]
  exact field_be (n := 2) v
@[simp] theorem field_be2_only (v : BitVec 16) : field (be 2 v) 0 2 = v.toNat := field_be (n := 2) v
@[simp] theorem field_be4 (v : BitVec 32) (x : Bytes) : field (be 4 v ++ x) 0 4 = v.toNat := by
  rw [field_append_left (by simp)]
  exact field_be (n := 4) v
@[simp] theorem field_be4_only (v : BitVec 32) : field (be 4 v) 0 4 = v.toNat := field_be (n := 4) v
@[simp] theorem field_be2_succ (v : BitVec 16) (x : Bytes) (o n : Nat) : field (be 2 v ++ x) (o + 2) n = field x o n := by
  rw [field_append_right (by simp)]
  simp
@[simp] theorem field_be4_succ (v : BitVec 32) (x : Bytes) (o n : Nat) : field (be 4 v ++ x) (o + 4) n = field x o n := by
  rw [field_append_right (by simp)]
  simp
@[simp] theorem zeroAt_be2_succ (v : BitVec 16) (x : Bytes) (o n : Nat) : zeroAt (be 2 v ++ x) (o + 2) n = zeroAt x o n := by
  simp only [zeroAt, List.drop_append]
  rw [List.drop_eq_nil_of_le (by simp)]
  simp
@[simp] theorem zeroAt_be4_succ (v : BitVec 32) (x : Bytes) (o n : Nat) : zeroAt (be 4 v ++ x) (o + 4) n = zeroAt x o n := by
  simp only [zeroAt, List.drop_append]
  rw [List.drop_eq_nil_of_le (by simp)]
  simp
@[simp] theorem zeroAt_cons_succ (x : Byte) (b : Bytes) (o n : Nat) : zeroAt (x :: b) (o + 1) n = zeroAt b o n := rfl
@[simp] theorem zeroAt_cons_zero (x : Byte) (b : Bytes) (n : Nat) : zeroAt (x :: b) 0 (n + 1) = ((x == 0) && zeroAt b 0 n) := rfl
@[simp] theorem zeroAt_nil (n : Nat) : zeroAt [] 0 n = true := by simp [zeroAt]
@[simp] theorem zeroAt_none (b : Bytes) (n : Nat) : zeroAt b n 0 = true := by simp [zeroAt]
@[simp] theorem bytes_cons_append (a : Byte) (l m : Bytes) : (a :: l) ++ m = a :: (l ++ m) := rfl

end Sys2Proof.Machine
end

