-- ==== Sys2Proof/Laws/State.lean ====
section
/-! SUPPORT. One lemma for each updater of the state and each field that it leaves alone, and what it does to the field
it writes. -/

namespace Sys2Proof.Machine
variable (s : State)


/-! State.updEng -/

@[simp] theorem State.updEng_pending (e : Eng) (f : Engine → Engine) : (s.updEng e f).pending = s.pending := rfl
@[simp] theorem State.updEng_fresh (e : Eng) (f : Engine → Engine) : (s.updEng e f).fresh = s.fresh := rfl
@[simp] theorem State.updEng_ident (e : Eng) (f : Engine → Engine) : (s.updEng e f).ident = s.ident := rfl
@[simp] theorem State.updEng_moduleTime (e : Eng) (f : Engine → Engine) : (s.updEng e f).moduleTime = s.moduleTime := rfl
@[simp] theorem State.updEng_power (e : Eng) (f : Engine → Engine) : (s.updEng e f).power = s.power := rfl
@[simp] theorem State.updEng_ports (e : Eng) (f : Engine → Engine) : (s.updEng e f).ports = s.ports := rfl
@[simp] theorem State.updEng_turn (e : Eng) (f : Engine → Engine) : (s.updEng e f).turn = s.turn := rfl
@[simp] theorem State.updEng_commits (e : Eng) (f : Engine → Engine) : (s.updEng e f).commits = s.commits := rfl
@[simp] theorem State.updEng_spent (e : Eng) (f : Engine → Engine) : (s.updEng e f).spent = s.spent := rfl
@[simp] theorem State.updEng_seenTokens (e : Eng) (f : Engine → Engine) : (s.updEng e f).seenTokens = s.seenTokens := rfl
@[simp] theorem State.updEng_records (e : Eng) (f : Engine → Engine) : (s.updEng e f).records = s.records := rfl
@[simp] theorem State.updEng_lanes (e : Eng) (f : Engine → Engine) : (s.updEng e f).lanes = s.lanes := rfl
@[simp] theorem State.updEng_cports (e : Eng) (f : Engine → Engine) : (s.updEng e f).cports = s.cports := rfl
@[simp] theorem State.updEng_synce (e : Eng) (f : Engine → Engine) : (s.updEng e f).synce = s.synce := rfl
@[simp] theorem State.updEng_flows (e : Eng) (f : Engine → Engine) : (s.updEng e f).flows = s.flows := rfl
@[simp] theorem State.updEng_keys (e : Eng) (f : Engine → Engine) : (s.updEng e f).keys = s.keys := rfl
@[simp] theorem State.updEng_mem (e : Eng) (f : Engine → Engine) : (s.updEng e f).mem = s.mem := rfl
@[simp] theorem State.updEng_immediate (e : Eng) (f : Engine → Engine) : (s.updEng e f).immediate = s.immediate := rfl
@[simp] theorem State.updEng_hw (e : Eng) (f : Engine → Engine) : (s.updEng e f).hw = s.hw := rfl
@[simp] theorem State.updEng_time (e : Eng) (f : Engine → Engine) : (s.updEng e f).time = s.time := rfl
@[simp] theorem State.updEng_gauge (e : Eng) (f : Engine → Engine) : (s.updEng e f).gauge = s.gauge := rfl
@[simp] theorem State.updEng_weir (e : Eng) (f : Engine → Engine) : (s.updEng e f).weir = s.weir := rfl
@[simp] theorem State.updEng_sup (e : Eng) (f : Engine → Engine) : (s.updEng e f).sup = s.sup := rfl
@[simp] theorem State.updEng_collector (e : Eng) (f : Engine → Engine) : (s.updEng e f).collector = s.collector := rfl
@[simp] theorem State.updEng_nv (e : Eng) (f : Engine → Engine) : (s.updEng e f).nv = s.nv := rfl
@[simp] theorem State.updEng_jtag (e : Eng) (f : Engine → Engine) : (s.updEng e f).jtag = s.jtag := rfl

/-! State.updPort -/

@[simp] theorem State.updPort_pending (p : Hp) (f : Port → Port) : (s.updPort p f).pending = s.pending := rfl
@[simp] theorem State.updPort_fresh (p : Hp) (f : Port → Port) : (s.updPort p f).fresh = s.fresh := rfl
@[simp] theorem State.updPort_ident (p : Hp) (f : Port → Port) : (s.updPort p f).ident = s.ident := rfl
@[simp] theorem State.updPort_moduleTime (p : Hp) (f : Port → Port) : (s.updPort p f).moduleTime = s.moduleTime := rfl
@[simp] theorem State.updPort_power (p : Hp) (f : Port → Port) : (s.updPort p f).power = s.power := rfl
@[simp] theorem State.updPort_turn (p : Hp) (f : Port → Port) : (s.updPort p f).turn = s.turn := rfl
@[simp] theorem State.updPort_engines (p : Hp) (f : Port → Port) : (s.updPort p f).engines = s.engines := rfl
@[simp] theorem State.updPort_commits (p : Hp) (f : Port → Port) : (s.updPort p f).commits = s.commits := rfl
@[simp] theorem State.updPort_spent (p : Hp) (f : Port → Port) : (s.updPort p f).spent = s.spent := rfl
@[simp] theorem State.updPort_seenTokens (p : Hp) (f : Port → Port) : (s.updPort p f).seenTokens = s.seenTokens := rfl
@[simp] theorem State.updPort_records (p : Hp) (f : Port → Port) : (s.updPort p f).records = s.records := rfl
@[simp] theorem State.updPort_lanes (p : Hp) (f : Port → Port) : (s.updPort p f).lanes = s.lanes := rfl
@[simp] theorem State.updPort_cports (p : Hp) (f : Port → Port) : (s.updPort p f).cports = s.cports := rfl
@[simp] theorem State.updPort_synce (p : Hp) (f : Port → Port) : (s.updPort p f).synce = s.synce := rfl
@[simp] theorem State.updPort_flows (p : Hp) (f : Port → Port) : (s.updPort p f).flows = s.flows := rfl
@[simp] theorem State.updPort_keys (p : Hp) (f : Port → Port) : (s.updPort p f).keys = s.keys := rfl
@[simp] theorem State.updPort_mem (p : Hp) (f : Port → Port) : (s.updPort p f).mem = s.mem := rfl
@[simp] theorem State.updPort_immediate (p : Hp) (f : Port → Port) : (s.updPort p f).immediate = s.immediate := rfl
@[simp] theorem State.updPort_hw (p : Hp) (f : Port → Port) : (s.updPort p f).hw = s.hw := rfl
@[simp] theorem State.updPort_time (p : Hp) (f : Port → Port) : (s.updPort p f).time = s.time := rfl
@[simp] theorem State.updPort_gauge (p : Hp) (f : Port → Port) : (s.updPort p f).gauge = s.gauge := rfl
@[simp] theorem State.updPort_weir (p : Hp) (f : Port → Port) : (s.updPort p f).weir = s.weir := rfl
@[simp] theorem State.updPort_sup (p : Hp) (f : Port → Port) : (s.updPort p f).sup = s.sup := rfl
@[simp] theorem State.updPort_collector (p : Hp) (f : Port → Port) : (s.updPort p f).collector = s.collector := rfl
@[simp] theorem State.updPort_nv (p : Hp) (f : Port → Port) : (s.updPort p f).nv = s.nv := rfl
@[simp] theorem State.updPort_jtag (p : Hp) (f : Port → Port) : (s.updPort p f).jtag = s.jtag := rfl

/-! State.skip -/

@[simp] theorem State.skip_pending : (s.skip).pending = s.pending := rfl
@[simp] theorem State.skip_ident : (s.skip).ident = s.ident := rfl
@[simp] theorem State.skip_moduleTime : (s.skip).moduleTime = s.moduleTime := rfl
@[simp] theorem State.skip_power : (s.skip).power = s.power := rfl
@[simp] theorem State.skip_ports : (s.skip).ports = s.ports := rfl
@[simp] theorem State.skip_turn : (s.skip).turn = s.turn := rfl
@[simp] theorem State.skip_engines : (s.skip).engines = s.engines := rfl
@[simp] theorem State.skip_commits : (s.skip).commits = s.commits := rfl
@[simp] theorem State.skip_spent : (s.skip).spent = s.spent := rfl
@[simp] theorem State.skip_seenTokens : (s.skip).seenTokens = s.seenTokens := rfl
@[simp] theorem State.skip_records : (s.skip).records = s.records := rfl
@[simp] theorem State.skip_lanes : (s.skip).lanes = s.lanes := rfl
@[simp] theorem State.skip_cports : (s.skip).cports = s.cports := rfl
@[simp] theorem State.skip_synce : (s.skip).synce = s.synce := rfl
@[simp] theorem State.skip_flows : (s.skip).flows = s.flows := rfl
@[simp] theorem State.skip_keys : (s.skip).keys = s.keys := rfl
@[simp] theorem State.skip_mem : (s.skip).mem = s.mem := rfl
@[simp] theorem State.skip_immediate : (s.skip).immediate = s.immediate := rfl
@[simp] theorem State.skip_hw : (s.skip).hw = s.hw := rfl
@[simp] theorem State.skip_time : (s.skip).time = s.time := rfl
@[simp] theorem State.skip_gauge : (s.skip).gauge = s.gauge := rfl
@[simp] theorem State.skip_weir : (s.skip).weir = s.weir := rfl
@[simp] theorem State.skip_sup : (s.skip).sup = s.sup := rfl
@[simp] theorem State.skip_collector : (s.skip).collector = s.collector := rfl
@[simp] theorem State.skip_nv : (s.skip).nv = s.nv := rfl
@[simp] theorem State.skip_jtag : (s.skip).jtag = s.jtag := rfl

/-! State.noteFlight -/

@[simp] theorem State.noteFlight_pending (c : BitVec 16) : (s.noteFlight c).pending = s.pending := rfl
@[simp] theorem State.noteFlight_fresh (c : BitVec 16) : (s.noteFlight c).fresh = s.fresh := rfl
@[simp] theorem State.noteFlight_ident (c : BitVec 16) : (s.noteFlight c).ident = s.ident := rfl
@[simp] theorem State.noteFlight_moduleTime (c : BitVec 16) : (s.noteFlight c).moduleTime = s.moduleTime := rfl
@[simp] theorem State.noteFlight_power (c : BitVec 16) : (s.noteFlight c).power = s.power := rfl
@[simp] theorem State.noteFlight_ports (c : BitVec 16) : (s.noteFlight c).ports = s.ports := rfl
@[simp] theorem State.noteFlight_turn (c : BitVec 16) : (s.noteFlight c).turn = s.turn := rfl
@[simp] theorem State.noteFlight_engines (c : BitVec 16) : (s.noteFlight c).engines = s.engines := rfl
@[simp] theorem State.noteFlight_commits (c : BitVec 16) : (s.noteFlight c).commits = s.commits := rfl
@[simp] theorem State.noteFlight_spent (c : BitVec 16) : (s.noteFlight c).spent = s.spent := rfl
@[simp] theorem State.noteFlight_seenTokens (c : BitVec 16) : (s.noteFlight c).seenTokens = s.seenTokens := rfl
@[simp] theorem State.noteFlight_records (c : BitVec 16) : (s.noteFlight c).records = s.records := rfl
@[simp] theorem State.noteFlight_lanes (c : BitVec 16) : (s.noteFlight c).lanes = s.lanes := rfl
@[simp] theorem State.noteFlight_cports (c : BitVec 16) : (s.noteFlight c).cports = s.cports := rfl
@[simp] theorem State.noteFlight_synce (c : BitVec 16) : (s.noteFlight c).synce = s.synce := rfl
@[simp] theorem State.noteFlight_flows (c : BitVec 16) : (s.noteFlight c).flows = s.flows := rfl
@[simp] theorem State.noteFlight_keys (c : BitVec 16) : (s.noteFlight c).keys = s.keys := rfl
@[simp] theorem State.noteFlight_mem (c : BitVec 16) : (s.noteFlight c).mem = s.mem := rfl
@[simp] theorem State.noteFlight_immediate (c : BitVec 16) : (s.noteFlight c).immediate = s.immediate := rfl
@[simp] theorem State.noteFlight_hw (c : BitVec 16) : (s.noteFlight c).hw = s.hw := rfl
@[simp] theorem State.noteFlight_time (c : BitVec 16) : (s.noteFlight c).time = s.time := rfl
@[simp] theorem State.noteFlight_gauge (c : BitVec 16) : (s.noteFlight c).gauge = s.gauge := rfl
@[simp] theorem State.noteFlight_weir (c : BitVec 16) : (s.noteFlight c).weir = s.weir := rfl
@[simp] theorem State.noteFlight_sup (c : BitVec 16) : (s.noteFlight c).sup = s.sup := rfl
@[simp] theorem State.noteFlight_nv (c : BitVec 16) : (s.noteFlight c).nv = s.nv := rfl
@[simp] theorem State.noteFlight_jtag (c : BitVec 16) : (s.noteFlight c).jtag = s.jtag := rfl

/-! State.updLane -/

@[simp] theorem State.updLane_pending (l : LaneNo) (f : Lane → Lane) : (s.updLane l f).pending = s.pending := rfl
@[simp] theorem State.updLane_fresh (l : LaneNo) (f : Lane → Lane) : (s.updLane l f).fresh = s.fresh := rfl
@[simp] theorem State.updLane_ident (l : LaneNo) (f : Lane → Lane) : (s.updLane l f).ident = s.ident := rfl
@[simp] theorem State.updLane_moduleTime (l : LaneNo) (f : Lane → Lane) : (s.updLane l f).moduleTime = s.moduleTime := rfl
@[simp] theorem State.updLane_power (l : LaneNo) (f : Lane → Lane) : (s.updLane l f).power = s.power := rfl
@[simp] theorem State.updLane_ports (l : LaneNo) (f : Lane → Lane) : (s.updLane l f).ports = s.ports := rfl
@[simp] theorem State.updLane_turn (l : LaneNo) (f : Lane → Lane) : (s.updLane l f).turn = s.turn := rfl
@[simp] theorem State.updLane_engines (l : LaneNo) (f : Lane → Lane) : (s.updLane l f).engines = s.engines := rfl
@[simp] theorem State.updLane_commits (l : LaneNo) (f : Lane → Lane) : (s.updLane l f).commits = s.commits := rfl
@[simp] theorem State.updLane_spent (l : LaneNo) (f : Lane → Lane) : (s.updLane l f).spent = s.spent := rfl
@[simp] theorem State.updLane_seenTokens (l : LaneNo) (f : Lane → Lane) : (s.updLane l f).seenTokens = s.seenTokens := rfl
@[simp] theorem State.updLane_records (l : LaneNo) (f : Lane → Lane) : (s.updLane l f).records = s.records := rfl
@[simp] theorem State.updLane_cports (l : LaneNo) (f : Lane → Lane) : (s.updLane l f).cports = s.cports := rfl
@[simp] theorem State.updLane_synce (l : LaneNo) (f : Lane → Lane) : (s.updLane l f).synce = s.synce := rfl
@[simp] theorem State.updLane_flows (l : LaneNo) (f : Lane → Lane) : (s.updLane l f).flows = s.flows := rfl
@[simp] theorem State.updLane_keys (l : LaneNo) (f : Lane → Lane) : (s.updLane l f).keys = s.keys := rfl
@[simp] theorem State.updLane_mem (l : LaneNo) (f : Lane → Lane) : (s.updLane l f).mem = s.mem := rfl
@[simp] theorem State.updLane_immediate (l : LaneNo) (f : Lane → Lane) : (s.updLane l f).immediate = s.immediate := rfl
@[simp] theorem State.updLane_hw (l : LaneNo) (f : Lane → Lane) : (s.updLane l f).hw = s.hw := rfl
@[simp] theorem State.updLane_time (l : LaneNo) (f : Lane → Lane) : (s.updLane l f).time = s.time := rfl
@[simp] theorem State.updLane_gauge (l : LaneNo) (f : Lane → Lane) : (s.updLane l f).gauge = s.gauge := rfl
@[simp] theorem State.updLane_weir (l : LaneNo) (f : Lane → Lane) : (s.updLane l f).weir = s.weir := rfl
@[simp] theorem State.updLane_sup (l : LaneNo) (f : Lane → Lane) : (s.updLane l f).sup = s.sup := rfl
@[simp] theorem State.updLane_collector (l : LaneNo) (f : Lane → Lane) : (s.updLane l f).collector = s.collector := rfl
@[simp] theorem State.updLane_nv (l : LaneNo) (f : Lane → Lane) : (s.updLane l f).nv = s.nv := rfl
@[simp] theorem State.updLane_jtag (l : LaneNo) (f : Lane → Lane) : (s.updLane l f).jtag = s.jtag := rfl

/-! State.updCport -/

@[simp] theorem State.updCport_pending (c : Cp) (f : Cport → Cport) : (s.updCport c f).pending = s.pending := rfl
@[simp] theorem State.updCport_fresh (c : Cp) (f : Cport → Cport) : (s.updCport c f).fresh = s.fresh := rfl
@[simp] theorem State.updCport_ident (c : Cp) (f : Cport → Cport) : (s.updCport c f).ident = s.ident := rfl
@[simp] theorem State.updCport_moduleTime (c : Cp) (f : Cport → Cport) : (s.updCport c f).moduleTime = s.moduleTime := rfl
@[simp] theorem State.updCport_power (c : Cp) (f : Cport → Cport) : (s.updCport c f).power = s.power := rfl
@[simp] theorem State.updCport_ports (c : Cp) (f : Cport → Cport) : (s.updCport c f).ports = s.ports := rfl
@[simp] theorem State.updCport_turn (c : Cp) (f : Cport → Cport) : (s.updCport c f).turn = s.turn := rfl
@[simp] theorem State.updCport_engines (c : Cp) (f : Cport → Cport) : (s.updCport c f).engines = s.engines := rfl
@[simp] theorem State.updCport_commits (c : Cp) (f : Cport → Cport) : (s.updCport c f).commits = s.commits := rfl
@[simp] theorem State.updCport_spent (c : Cp) (f : Cport → Cport) : (s.updCport c f).spent = s.spent := rfl
@[simp] theorem State.updCport_seenTokens (c : Cp) (f : Cport → Cport) : (s.updCport c f).seenTokens = s.seenTokens := rfl
@[simp] theorem State.updCport_records (c : Cp) (f : Cport → Cport) : (s.updCport c f).records = s.records := rfl
@[simp] theorem State.updCport_lanes (c : Cp) (f : Cport → Cport) : (s.updCport c f).lanes = s.lanes := rfl
@[simp] theorem State.updCport_synce (c : Cp) (f : Cport → Cport) : (s.updCport c f).synce = s.synce := rfl
@[simp] theorem State.updCport_flows (c : Cp) (f : Cport → Cport) : (s.updCport c f).flows = s.flows := rfl
@[simp] theorem State.updCport_keys (c : Cp) (f : Cport → Cport) : (s.updCport c f).keys = s.keys := rfl
@[simp] theorem State.updCport_mem (c : Cp) (f : Cport → Cport) : (s.updCport c f).mem = s.mem := rfl
@[simp] theorem State.updCport_immediate (c : Cp) (f : Cport → Cport) : (s.updCport c f).immediate = s.immediate := rfl
@[simp] theorem State.updCport_hw (c : Cp) (f : Cport → Cport) : (s.updCport c f).hw = s.hw := rfl
@[simp] theorem State.updCport_time (c : Cp) (f : Cport → Cport) : (s.updCport c f).time = s.time := rfl
@[simp] theorem State.updCport_gauge (c : Cp) (f : Cport → Cport) : (s.updCport c f).gauge = s.gauge := rfl
@[simp] theorem State.updCport_weir (c : Cp) (f : Cport → Cport) : (s.updCport c f).weir = s.weir := rfl
@[simp] theorem State.updCport_sup (c : Cp) (f : Cport → Cport) : (s.updCport c f).sup = s.sup := rfl
@[simp] theorem State.updCport_collector (c : Cp) (f : Cport → Cport) : (s.updCport c f).collector = s.collector := rfl
@[simp] theorem State.updCport_nv (c : Cp) (f : Cport → Cport) : (s.updCport c f).nv = s.nv := rfl
@[simp] theorem State.updCport_jtag (c : Cp) (f : Cport → Cport) : (s.updCport c f).jtag = s.jtag := rfl

/-! State.updChannel -/

@[simp] theorem State.updChannel_pending (c : Fin 8) (f : Channel → Channel) : (s.updChannel c f).pending = s.pending := rfl
@[simp] theorem State.updChannel_fresh (c : Fin 8) (f : Channel → Channel) : (s.updChannel c f).fresh = s.fresh := rfl
@[simp] theorem State.updChannel_ident (c : Fin 8) (f : Channel → Channel) : (s.updChannel c f).ident = s.ident := rfl
@[simp] theorem State.updChannel_moduleTime (c : Fin 8) (f : Channel → Channel) : (s.updChannel c f).moduleTime = s.moduleTime := rfl
@[simp] theorem State.updChannel_power (c : Fin 8) (f : Channel → Channel) : (s.updChannel c f).power = s.power := rfl
@[simp] theorem State.updChannel_ports (c : Fin 8) (f : Channel → Channel) : (s.updChannel c f).ports = s.ports := rfl
@[simp] theorem State.updChannel_turn (c : Fin 8) (f : Channel → Channel) : (s.updChannel c f).turn = s.turn := rfl
@[simp] theorem State.updChannel_engines (c : Fin 8) (f : Channel → Channel) : (s.updChannel c f).engines = s.engines := rfl
@[simp] theorem State.updChannel_commits (c : Fin 8) (f : Channel → Channel) : (s.updChannel c f).commits = s.commits := rfl
@[simp] theorem State.updChannel_spent (c : Fin 8) (f : Channel → Channel) : (s.updChannel c f).spent = s.spent := rfl
@[simp] theorem State.updChannel_seenTokens (c : Fin 8) (f : Channel → Channel) : (s.updChannel c f).seenTokens = s.seenTokens := rfl
@[simp] theorem State.updChannel_records (c : Fin 8) (f : Channel → Channel) : (s.updChannel c f).records = s.records := rfl
@[simp] theorem State.updChannel_lanes (c : Fin 8) (f : Channel → Channel) : (s.updChannel c f).lanes = s.lanes := rfl
@[simp] theorem State.updChannel_cports (c : Fin 8) (f : Channel → Channel) : (s.updChannel c f).cports = s.cports := rfl
@[simp] theorem State.updChannel_synce (c : Fin 8) (f : Channel → Channel) : (s.updChannel c f).synce = s.synce := rfl
@[simp] theorem State.updChannel_flows (c : Fin 8) (f : Channel → Channel) : (s.updChannel c f).flows = s.flows := rfl
@[simp] theorem State.updChannel_keys (c : Fin 8) (f : Channel → Channel) : (s.updChannel c f).keys = s.keys := rfl
@[simp] theorem State.updChannel_immediate (c : Fin 8) (f : Channel → Channel) : (s.updChannel c f).immediate = s.immediate := rfl
@[simp] theorem State.updChannel_hw (c : Fin 8) (f : Channel → Channel) : (s.updChannel c f).hw = s.hw := rfl
@[simp] theorem State.updChannel_time (c : Fin 8) (f : Channel → Channel) : (s.updChannel c f).time = s.time := rfl
@[simp] theorem State.updChannel_gauge (c : Fin 8) (f : Channel → Channel) : (s.updChannel c f).gauge = s.gauge := rfl
@[simp] theorem State.updChannel_weir (c : Fin 8) (f : Channel → Channel) : (s.updChannel c f).weir = s.weir := rfl
@[simp] theorem State.updChannel_sup (c : Fin 8) (f : Channel → Channel) : (s.updChannel c f).sup = s.sup := rfl
@[simp] theorem State.updChannel_collector (c : Fin 8) (f : Channel → Channel) : (s.updChannel c f).collector = s.collector := rfl
@[simp] theorem State.updChannel_nv (c : Fin 8) (f : Channel → Channel) : (s.updChannel c f).nv = s.nv := rfl
@[simp] theorem State.updChannel_jtag (c : Fin 8) (f : Channel → Channel) : (s.updChannel c f).jtag = s.jtag := rfl

/-! State.putWord -/

@[simp] theorem State.putWord_pending (wa : Nat) (w : MemWord) : (s.putWord wa w).pending = s.pending := rfl
@[simp] theorem State.putWord_fresh (wa : Nat) (w : MemWord) : (s.putWord wa w).fresh = s.fresh := rfl
@[simp] theorem State.putWord_ident (wa : Nat) (w : MemWord) : (s.putWord wa w).ident = s.ident := rfl
@[simp] theorem State.putWord_moduleTime (wa : Nat) (w : MemWord) : (s.putWord wa w).moduleTime = s.moduleTime := rfl
@[simp] theorem State.putWord_power (wa : Nat) (w : MemWord) : (s.putWord wa w).power = s.power := rfl
@[simp] theorem State.putWord_ports (wa : Nat) (w : MemWord) : (s.putWord wa w).ports = s.ports := rfl
@[simp] theorem State.putWord_turn (wa : Nat) (w : MemWord) : (s.putWord wa w).turn = s.turn := rfl
@[simp] theorem State.putWord_engines (wa : Nat) (w : MemWord) : (s.putWord wa w).engines = s.engines := rfl
@[simp] theorem State.putWord_commits (wa : Nat) (w : MemWord) : (s.putWord wa w).commits = s.commits := rfl
@[simp] theorem State.putWord_spent (wa : Nat) (w : MemWord) : (s.putWord wa w).spent = s.spent := rfl
@[simp] theorem State.putWord_seenTokens (wa : Nat) (w : MemWord) : (s.putWord wa w).seenTokens = s.seenTokens := rfl
@[simp] theorem State.putWord_records (wa : Nat) (w : MemWord) : (s.putWord wa w).records = s.records := rfl
@[simp] theorem State.putWord_lanes (wa : Nat) (w : MemWord) : (s.putWord wa w).lanes = s.lanes := rfl
@[simp] theorem State.putWord_cports (wa : Nat) (w : MemWord) : (s.putWord wa w).cports = s.cports := rfl
@[simp] theorem State.putWord_synce (wa : Nat) (w : MemWord) : (s.putWord wa w).synce = s.synce := rfl
@[simp] theorem State.putWord_flows (wa : Nat) (w : MemWord) : (s.putWord wa w).flows = s.flows := rfl
@[simp] theorem State.putWord_keys (wa : Nat) (w : MemWord) : (s.putWord wa w).keys = s.keys := rfl
@[simp] theorem State.putWord_immediate (wa : Nat) (w : MemWord) : (s.putWord wa w).immediate = s.immediate := rfl
@[simp] theorem State.putWord_hw (wa : Nat) (w : MemWord) : (s.putWord wa w).hw = s.hw := rfl
@[simp] theorem State.putWord_time (wa : Nat) (w : MemWord) : (s.putWord wa w).time = s.time := rfl
@[simp] theorem State.putWord_gauge (wa : Nat) (w : MemWord) : (s.putWord wa w).gauge = s.gauge := rfl
@[simp] theorem State.putWord_weir (wa : Nat) (w : MemWord) : (s.putWord wa w).weir = s.weir := rfl
@[simp] theorem State.putWord_sup (wa : Nat) (w : MemWord) : (s.putWord wa w).sup = s.sup := rfl
@[simp] theorem State.putWord_collector (wa : Nat) (w : MemWord) : (s.putWord wa w).collector = s.collector := rfl
@[simp] theorem State.putWord_nv (wa : Nat) (w : MemWord) : (s.putWord wa w).nv = s.nv := rfl
@[simp] theorem State.putWord_jtag (wa : Nat) (w : MemWord) : (s.putWord wa w).jtag = s.jtag := rfl

/-! State.setSlot -/

@[simp] theorem State.setSlot_pending (n : Nat) (k : KeySlot) : (s.setSlot n k).pending = s.pending := rfl
@[simp] theorem State.setSlot_fresh (n : Nat) (k : KeySlot) : (s.setSlot n k).fresh = s.fresh := rfl
@[simp] theorem State.setSlot_ident (n : Nat) (k : KeySlot) : (s.setSlot n k).ident = s.ident := rfl
@[simp] theorem State.setSlot_moduleTime (n : Nat) (k : KeySlot) : (s.setSlot n k).moduleTime = s.moduleTime := rfl
@[simp] theorem State.setSlot_power (n : Nat) (k : KeySlot) : (s.setSlot n k).power = s.power := rfl
@[simp] theorem State.setSlot_ports (n : Nat) (k : KeySlot) : (s.setSlot n k).ports = s.ports := rfl
@[simp] theorem State.setSlot_turn (n : Nat) (k : KeySlot) : (s.setSlot n k).turn = s.turn := rfl
@[simp] theorem State.setSlot_engines (n : Nat) (k : KeySlot) : (s.setSlot n k).engines = s.engines := rfl
@[simp] theorem State.setSlot_commits (n : Nat) (k : KeySlot) : (s.setSlot n k).commits = s.commits := rfl
@[simp] theorem State.setSlot_spent (n : Nat) (k : KeySlot) : (s.setSlot n k).spent = s.spent := rfl
@[simp] theorem State.setSlot_seenTokens (n : Nat) (k : KeySlot) : (s.setSlot n k).seenTokens = s.seenTokens := rfl
@[simp] theorem State.setSlot_records (n : Nat) (k : KeySlot) : (s.setSlot n k).records = s.records := rfl
@[simp] theorem State.setSlot_lanes (n : Nat) (k : KeySlot) : (s.setSlot n k).lanes = s.lanes := rfl
@[simp] theorem State.setSlot_cports (n : Nat) (k : KeySlot) : (s.setSlot n k).cports = s.cports := rfl
@[simp] theorem State.setSlot_synce (n : Nat) (k : KeySlot) : (s.setSlot n k).synce = s.synce := rfl
@[simp] theorem State.setSlot_flows (n : Nat) (k : KeySlot) : (s.setSlot n k).flows = s.flows := rfl
@[simp] theorem State.setSlot_mem (n : Nat) (k : KeySlot) : (s.setSlot n k).mem = s.mem := rfl
@[simp] theorem State.setSlot_immediate (n : Nat) (k : KeySlot) : (s.setSlot n k).immediate = s.immediate := rfl
@[simp] theorem State.setSlot_hw (n : Nat) (k : KeySlot) : (s.setSlot n k).hw = s.hw := rfl
@[simp] theorem State.setSlot_time (n : Nat) (k : KeySlot) : (s.setSlot n k).time = s.time := rfl
@[simp] theorem State.setSlot_gauge (n : Nat) (k : KeySlot) : (s.setSlot n k).gauge = s.gauge := rfl
@[simp] theorem State.setSlot_weir (n : Nat) (k : KeySlot) : (s.setSlot n k).weir = s.weir := rfl
@[simp] theorem State.setSlot_sup (n : Nat) (k : KeySlot) : (s.setSlot n k).sup = s.sup := rfl
@[simp] theorem State.setSlot_collector (n : Nat) (k : KeySlot) : (s.setSlot n k).collector = s.collector := rfl
@[simp] theorem State.setSlot_nv (n : Nat) (k : KeySlot) : (s.setSlot n k).nv = s.nv := rfl
@[simp] theorem State.setSlot_jtag (n : Nat) (k : KeySlot) : (s.setSlot n k).jtag = s.jtag := rfl

/-! State.updDomain -/

@[simp] theorem State.updDomain_pending (d : Fin 2) (f : Domain → Domain) : (s.updDomain d f).pending = s.pending := rfl
@[simp] theorem State.updDomain_fresh (d : Fin 2) (f : Domain → Domain) : (s.updDomain d f).fresh = s.fresh := rfl
@[simp] theorem State.updDomain_ident (d : Fin 2) (f : Domain → Domain) : (s.updDomain d f).ident = s.ident := rfl
@[simp] theorem State.updDomain_moduleTime (d : Fin 2) (f : Domain → Domain) : (s.updDomain d f).moduleTime = s.moduleTime := rfl
@[simp] theorem State.updDomain_power (d : Fin 2) (f : Domain → Domain) : (s.updDomain d f).power = s.power := rfl
@[simp] theorem State.updDomain_ports (d : Fin 2) (f : Domain → Domain) : (s.updDomain d f).ports = s.ports := rfl
@[simp] theorem State.updDomain_turn (d : Fin 2) (f : Domain → Domain) : (s.updDomain d f).turn = s.turn := rfl
@[simp] theorem State.updDomain_engines (d : Fin 2) (f : Domain → Domain) : (s.updDomain d f).engines = s.engines := rfl
@[simp] theorem State.updDomain_commits (d : Fin 2) (f : Domain → Domain) : (s.updDomain d f).commits = s.commits := rfl
@[simp] theorem State.updDomain_spent (d : Fin 2) (f : Domain → Domain) : (s.updDomain d f).spent = s.spent := rfl
@[simp] theorem State.updDomain_seenTokens (d : Fin 2) (f : Domain → Domain) : (s.updDomain d f).seenTokens = s.seenTokens := rfl
@[simp] theorem State.updDomain_records (d : Fin 2) (f : Domain → Domain) : (s.updDomain d f).records = s.records := rfl
@[simp] theorem State.updDomain_lanes (d : Fin 2) (f : Domain → Domain) : (s.updDomain d f).lanes = s.lanes := rfl
@[simp] theorem State.updDomain_cports (d : Fin 2) (f : Domain → Domain) : (s.updDomain d f).cports = s.cports := rfl
@[simp] theorem State.updDomain_synce (d : Fin 2) (f : Domain → Domain) : (s.updDomain d f).synce = s.synce := rfl
@[simp] theorem State.updDomain_flows (d : Fin 2) (f : Domain → Domain) : (s.updDomain d f).flows = s.flows := rfl
@[simp] theorem State.updDomain_keys (d : Fin 2) (f : Domain → Domain) : (s.updDomain d f).keys = s.keys := rfl
@[simp] theorem State.updDomain_mem (d : Fin 2) (f : Domain → Domain) : (s.updDomain d f).mem = s.mem := rfl
@[simp] theorem State.updDomain_immediate (d : Fin 2) (f : Domain → Domain) : (s.updDomain d f).immediate = s.immediate := rfl
@[simp] theorem State.updDomain_hw (d : Fin 2) (f : Domain → Domain) : (s.updDomain d f).hw = s.hw := rfl
@[simp] theorem State.updDomain_gauge (d : Fin 2) (f : Domain → Domain) : (s.updDomain d f).gauge = s.gauge := rfl
@[simp] theorem State.updDomain_weir (d : Fin 2) (f : Domain → Domain) : (s.updDomain d f).weir = s.weir := rfl
@[simp] theorem State.updDomain_sup (d : Fin 2) (f : Domain → Domain) : (s.updDomain d f).sup = s.sup := rfl
@[simp] theorem State.updDomain_collector (d : Fin 2) (f : Domain → Domain) : (s.updDomain d f).collector = s.collector := rfl
@[simp] theorem State.updDomain_nv (d : Fin 2) (f : Domain → Domain) : (s.updDomain d f).nv = s.nv := rfl
@[simp] theorem State.updDomain_jtag (d : Fin 2) (f : Domain → Domain) : (s.updDomain d f).jtag = s.jtag := rfl

/-! State.updTpo -/

@[simp] theorem State.updTpo_pending (n : Fin 4) (f : Tpo → Tpo) : (s.updTpo n f).pending = s.pending := rfl
@[simp] theorem State.updTpo_fresh (n : Fin 4) (f : Tpo → Tpo) : (s.updTpo n f).fresh = s.fresh := rfl
@[simp] theorem State.updTpo_ident (n : Fin 4) (f : Tpo → Tpo) : (s.updTpo n f).ident = s.ident := rfl
@[simp] theorem State.updTpo_moduleTime (n : Fin 4) (f : Tpo → Tpo) : (s.updTpo n f).moduleTime = s.moduleTime := rfl
@[simp] theorem State.updTpo_power (n : Fin 4) (f : Tpo → Tpo) : (s.updTpo n f).power = s.power := rfl
@[simp] theorem State.updTpo_ports (n : Fin 4) (f : Tpo → Tpo) : (s.updTpo n f).ports = s.ports := rfl
@[simp] theorem State.updTpo_turn (n : Fin 4) (f : Tpo → Tpo) : (s.updTpo n f).turn = s.turn := rfl
@[simp] theorem State.updTpo_engines (n : Fin 4) (f : Tpo → Tpo) : (s.updTpo n f).engines = s.engines := rfl
@[simp] theorem State.updTpo_commits (n : Fin 4) (f : Tpo → Tpo) : (s.updTpo n f).commits = s.commits := rfl
@[simp] theorem State.updTpo_spent (n : Fin 4) (f : Tpo → Tpo) : (s.updTpo n f).spent = s.spent := rfl
@[simp] theorem State.updTpo_seenTokens (n : Fin 4) (f : Tpo → Tpo) : (s.updTpo n f).seenTokens = s.seenTokens := rfl
@[simp] theorem State.updTpo_records (n : Fin 4) (f : Tpo → Tpo) : (s.updTpo n f).records = s.records := rfl
@[simp] theorem State.updTpo_lanes (n : Fin 4) (f : Tpo → Tpo) : (s.updTpo n f).lanes = s.lanes := rfl
@[simp] theorem State.updTpo_cports (n : Fin 4) (f : Tpo → Tpo) : (s.updTpo n f).cports = s.cports := rfl
@[simp] theorem State.updTpo_synce (n : Fin 4) (f : Tpo → Tpo) : (s.updTpo n f).synce = s.synce := rfl
@[simp] theorem State.updTpo_flows (n : Fin 4) (f : Tpo → Tpo) : (s.updTpo n f).flows = s.flows := rfl
@[simp] theorem State.updTpo_keys (n : Fin 4) (f : Tpo → Tpo) : (s.updTpo n f).keys = s.keys := rfl
@[simp] theorem State.updTpo_mem (n : Fin 4) (f : Tpo → Tpo) : (s.updTpo n f).mem = s.mem := rfl
@[simp] theorem State.updTpo_immediate (n : Fin 4) (f : Tpo → Tpo) : (s.updTpo n f).immediate = s.immediate := rfl
@[simp] theorem State.updTpo_hw (n : Fin 4) (f : Tpo → Tpo) : (s.updTpo n f).hw = s.hw := rfl
@[simp] theorem State.updTpo_gauge (n : Fin 4) (f : Tpo → Tpo) : (s.updTpo n f).gauge = s.gauge := rfl
@[simp] theorem State.updTpo_weir (n : Fin 4) (f : Tpo → Tpo) : (s.updTpo n f).weir = s.weir := rfl
@[simp] theorem State.updTpo_sup (n : Fin 4) (f : Tpo → Tpo) : (s.updTpo n f).sup = s.sup := rfl
@[simp] theorem State.updTpo_collector (n : Fin 4) (f : Tpo → Tpo) : (s.updTpo n f).collector = s.collector := rfl
@[simp] theorem State.updTpo_nv (n : Fin 4) (f : Tpo → Tpo) : (s.updTpo n f).nv = s.nv := rfl
@[simp] theorem State.updTpo_jtag (n : Fin 4) (f : Tpo → Tpo) : (s.updTpo n f).jtag = s.jtag := rfl

/-! State.updCapture -/

@[simp] theorem State.updCapture_pending (i : Fin 3) (f : CaptureQueue → CaptureQueue) : (s.updCapture i f).pending = s.pending := rfl
@[simp] theorem State.updCapture_fresh (i : Fin 3) (f : CaptureQueue → CaptureQueue) : (s.updCapture i f).fresh = s.fresh := rfl
@[simp] theorem State.updCapture_ident (i : Fin 3) (f : CaptureQueue → CaptureQueue) : (s.updCapture i f).ident = s.ident := rfl
@[simp] theorem State.updCapture_moduleTime (i : Fin 3) (f : CaptureQueue → CaptureQueue) : (s.updCapture i f).moduleTime = s.moduleTime := rfl
@[simp] theorem State.updCapture_power (i : Fin 3) (f : CaptureQueue → CaptureQueue) : (s.updCapture i f).power = s.power := rfl
@[simp] theorem State.updCapture_ports (i : Fin 3) (f : CaptureQueue → CaptureQueue) : (s.updCapture i f).ports = s.ports := rfl
@[simp] theorem State.updCapture_turn (i : Fin 3) (f : CaptureQueue → CaptureQueue) : (s.updCapture i f).turn = s.turn := rfl
@[simp] theorem State.updCapture_engines (i : Fin 3) (f : CaptureQueue → CaptureQueue) : (s.updCapture i f).engines = s.engines := rfl
@[simp] theorem State.updCapture_commits (i : Fin 3) (f : CaptureQueue → CaptureQueue) : (s.updCapture i f).commits = s.commits := rfl
@[simp] theorem State.updCapture_spent (i : Fin 3) (f : CaptureQueue → CaptureQueue) : (s.updCapture i f).spent = s.spent := rfl
@[simp] theorem State.updCapture_seenTokens (i : Fin 3) (f : CaptureQueue → CaptureQueue) : (s.updCapture i f).seenTokens = s.seenTokens := rfl
@[simp] theorem State.updCapture_records (i : Fin 3) (f : CaptureQueue → CaptureQueue) : (s.updCapture i f).records = s.records := rfl
@[simp] theorem State.updCapture_lanes (i : Fin 3) (f : CaptureQueue → CaptureQueue) : (s.updCapture i f).lanes = s.lanes := rfl
@[simp] theorem State.updCapture_cports (i : Fin 3) (f : CaptureQueue → CaptureQueue) : (s.updCapture i f).cports = s.cports := rfl
@[simp] theorem State.updCapture_synce (i : Fin 3) (f : CaptureQueue → CaptureQueue) : (s.updCapture i f).synce = s.synce := rfl
@[simp] theorem State.updCapture_flows (i : Fin 3) (f : CaptureQueue → CaptureQueue) : (s.updCapture i f).flows = s.flows := rfl
@[simp] theorem State.updCapture_keys (i : Fin 3) (f : CaptureQueue → CaptureQueue) : (s.updCapture i f).keys = s.keys := rfl
@[simp] theorem State.updCapture_mem (i : Fin 3) (f : CaptureQueue → CaptureQueue) : (s.updCapture i f).mem = s.mem := rfl
@[simp] theorem State.updCapture_immediate (i : Fin 3) (f : CaptureQueue → CaptureQueue) : (s.updCapture i f).immediate = s.immediate := rfl
@[simp] theorem State.updCapture_hw (i : Fin 3) (f : CaptureQueue → CaptureQueue) : (s.updCapture i f).hw = s.hw := rfl
@[simp] theorem State.updCapture_gauge (i : Fin 3) (f : CaptureQueue → CaptureQueue) : (s.updCapture i f).gauge = s.gauge := rfl
@[simp] theorem State.updCapture_weir (i : Fin 3) (f : CaptureQueue → CaptureQueue) : (s.updCapture i f).weir = s.weir := rfl
@[simp] theorem State.updCapture_sup (i : Fin 3) (f : CaptureQueue → CaptureQueue) : (s.updCapture i f).sup = s.sup := rfl
@[simp] theorem State.updCapture_collector (i : Fin 3) (f : CaptureQueue → CaptureQueue) : (s.updCapture i f).collector = s.collector := rfl
@[simp] theorem State.updCapture_nv (i : Fin 3) (f : CaptureQueue → CaptureQueue) : (s.updCapture i f).nv = s.nv := rfl
@[simp] theorem State.updCapture_jtag (i : Fin 3) (f : CaptureQueue → CaptureQueue) : (s.updCapture i f).jtag = s.jtag := rfl

/-! State.updInput -/

@[simp] theorem State.updInput_pending (i : Fin 14) (f : HwInput → HwInput) : (s.updInput i f).pending = s.pending := rfl
@[simp] theorem State.updInput_fresh (i : Fin 14) (f : HwInput → HwInput) : (s.updInput i f).fresh = s.fresh := rfl
@[simp] theorem State.updInput_ident (i : Fin 14) (f : HwInput → HwInput) : (s.updInput i f).ident = s.ident := rfl
@[simp] theorem State.updInput_moduleTime (i : Fin 14) (f : HwInput → HwInput) : (s.updInput i f).moduleTime = s.moduleTime := rfl
@[simp] theorem State.updInput_power (i : Fin 14) (f : HwInput → HwInput) : (s.updInput i f).power = s.power := rfl
@[simp] theorem State.updInput_ports (i : Fin 14) (f : HwInput → HwInput) : (s.updInput i f).ports = s.ports := rfl
@[simp] theorem State.updInput_turn (i : Fin 14) (f : HwInput → HwInput) : (s.updInput i f).turn = s.turn := rfl
@[simp] theorem State.updInput_engines (i : Fin 14) (f : HwInput → HwInput) : (s.updInput i f).engines = s.engines := rfl
@[simp] theorem State.updInput_commits (i : Fin 14) (f : HwInput → HwInput) : (s.updInput i f).commits = s.commits := rfl
@[simp] theorem State.updInput_spent (i : Fin 14) (f : HwInput → HwInput) : (s.updInput i f).spent = s.spent := rfl
@[simp] theorem State.updInput_seenTokens (i : Fin 14) (f : HwInput → HwInput) : (s.updInput i f).seenTokens = s.seenTokens := rfl
@[simp] theorem State.updInput_records (i : Fin 14) (f : HwInput → HwInput) : (s.updInput i f).records = s.records := rfl
@[simp] theorem State.updInput_lanes (i : Fin 14) (f : HwInput → HwInput) : (s.updInput i f).lanes = s.lanes := rfl
@[simp] theorem State.updInput_cports (i : Fin 14) (f : HwInput → HwInput) : (s.updInput i f).cports = s.cports := rfl
@[simp] theorem State.updInput_synce (i : Fin 14) (f : HwInput → HwInput) : (s.updInput i f).synce = s.synce := rfl
@[simp] theorem State.updInput_flows (i : Fin 14) (f : HwInput → HwInput) : (s.updInput i f).flows = s.flows := rfl
@[simp] theorem State.updInput_keys (i : Fin 14) (f : HwInput → HwInput) : (s.updInput i f).keys = s.keys := rfl
@[simp] theorem State.updInput_mem (i : Fin 14) (f : HwInput → HwInput) : (s.updInput i f).mem = s.mem := rfl
@[simp] theorem State.updInput_immediate (i : Fin 14) (f : HwInput → HwInput) : (s.updInput i f).immediate = s.immediate := rfl
@[simp] theorem State.updInput_time (i : Fin 14) (f : HwInput → HwInput) : (s.updInput i f).time = s.time := rfl
@[simp] theorem State.updInput_gauge (i : Fin 14) (f : HwInput → HwInput) : (s.updInput i f).gauge = s.gauge := rfl
@[simp] theorem State.updInput_weir (i : Fin 14) (f : HwInput → HwInput) : (s.updInput i f).weir = s.weir := rfl
@[simp] theorem State.updInput_sup (i : Fin 14) (f : HwInput → HwInput) : (s.updInput i f).sup = s.sup := rfl
@[simp] theorem State.updInput_collector (i : Fin 14) (f : HwInput → HwInput) : (s.updInput i f).collector = s.collector := rfl
@[simp] theorem State.updInput_nv (i : Fin 14) (f : HwInput → HwInput) : (s.updInput i f).nv = s.nv := rfl
@[simp] theorem State.updInput_jtag (i : Fin 14) (f : HwInput → HwInput) : (s.updInput i f).jtag = s.jtag := rfl

/-! State.updSup -/

@[simp] theorem State.updSup_pending (f : SupState → SupState) : (s.updSup f).pending = s.pending := rfl
@[simp] theorem State.updSup_fresh (f : SupState → SupState) : (s.updSup f).fresh = s.fresh := rfl
@[simp] theorem State.updSup_ident (f : SupState → SupState) : (s.updSup f).ident = s.ident := rfl
@[simp] theorem State.updSup_moduleTime (f : SupState → SupState) : (s.updSup f).moduleTime = s.moduleTime := rfl
@[simp] theorem State.updSup_power (f : SupState → SupState) : (s.updSup f).power = s.power := rfl
@[simp] theorem State.updSup_ports (f : SupState → SupState) : (s.updSup f).ports = s.ports := rfl
@[simp] theorem State.updSup_turn (f : SupState → SupState) : (s.updSup f).turn = s.turn := rfl
@[simp] theorem State.updSup_engines (f : SupState → SupState) : (s.updSup f).engines = s.engines := rfl
@[simp] theorem State.updSup_commits (f : SupState → SupState) : (s.updSup f).commits = s.commits := rfl
@[simp] theorem State.updSup_spent (f : SupState → SupState) : (s.updSup f).spent = s.spent := rfl
@[simp] theorem State.updSup_seenTokens (f : SupState → SupState) : (s.updSup f).seenTokens = s.seenTokens := rfl
@[simp] theorem State.updSup_records (f : SupState → SupState) : (s.updSup f).records = s.records := rfl
@[simp] theorem State.updSup_lanes (f : SupState → SupState) : (s.updSup f).lanes = s.lanes := rfl
@[simp] theorem State.updSup_cports (f : SupState → SupState) : (s.updSup f).cports = s.cports := rfl
@[simp] theorem State.updSup_synce (f : SupState → SupState) : (s.updSup f).synce = s.synce := rfl
@[simp] theorem State.updSup_flows (f : SupState → SupState) : (s.updSup f).flows = s.flows := rfl
@[simp] theorem State.updSup_keys (f : SupState → SupState) : (s.updSup f).keys = s.keys := rfl
@[simp] theorem State.updSup_mem (f : SupState → SupState) : (s.updSup f).mem = s.mem := rfl
@[simp] theorem State.updSup_immediate (f : SupState → SupState) : (s.updSup f).immediate = s.immediate := rfl
@[simp] theorem State.updSup_hw (f : SupState → SupState) : (s.updSup f).hw = s.hw := rfl
@[simp] theorem State.updSup_time (f : SupState → SupState) : (s.updSup f).time = s.time := rfl
@[simp] theorem State.updSup_gauge (f : SupState → SupState) : (s.updSup f).gauge = s.gauge := rfl
@[simp] theorem State.updSup_weir (f : SupState → SupState) : (s.updSup f).weir = s.weir := rfl
@[simp] theorem State.updSup_collector (f : SupState → SupState) : (s.updSup f).collector = s.collector := rfl
@[simp] theorem State.updSup_nv (f : SupState → SupState) : (s.updSup f).nv = s.nv := rfl
@[simp] theorem State.updSup_jtag (f : SupState → SupState) : (s.updSup f).jtag = s.jtag := rfl

/-! State.setViews -/

@[simp] theorem State.setViews_pending (p : Hp) (v : List (Nat × CounterView)) : (s.setViews p v).pending = s.pending := rfl
@[simp] theorem State.setViews_fresh (p : Hp) (v : List (Nat × CounterView)) : (s.setViews p v).fresh = s.fresh := rfl
@[simp] theorem State.setViews_ident (p : Hp) (v : List (Nat × CounterView)) : (s.setViews p v).ident = s.ident := rfl
@[simp] theorem State.setViews_moduleTime (p : Hp) (v : List (Nat × CounterView)) : (s.setViews p v).moduleTime = s.moduleTime := rfl
@[simp] theorem State.setViews_power (p : Hp) (v : List (Nat × CounterView)) : (s.setViews p v).power = s.power := rfl
@[simp] theorem State.setViews_ports (p : Hp) (v : List (Nat × CounterView)) : (s.setViews p v).ports = s.ports := rfl
@[simp] theorem State.setViews_turn (p : Hp) (v : List (Nat × CounterView)) : (s.setViews p v).turn = s.turn := rfl
@[simp] theorem State.setViews_engines (p : Hp) (v : List (Nat × CounterView)) : (s.setViews p v).engines = s.engines := rfl
@[simp] theorem State.setViews_commits (p : Hp) (v : List (Nat × CounterView)) : (s.setViews p v).commits = s.commits := rfl
@[simp] theorem State.setViews_spent (p : Hp) (v : List (Nat × CounterView)) : (s.setViews p v).spent = s.spent := rfl
@[simp] theorem State.setViews_seenTokens (p : Hp) (v : List (Nat × CounterView)) : (s.setViews p v).seenTokens = s.seenTokens := rfl
@[simp] theorem State.setViews_records (p : Hp) (v : List (Nat × CounterView)) : (s.setViews p v).records = s.records := rfl
@[simp] theorem State.setViews_lanes (p : Hp) (v : List (Nat × CounterView)) : (s.setViews p v).lanes = s.lanes := rfl
@[simp] theorem State.setViews_cports (p : Hp) (v : List (Nat × CounterView)) : (s.setViews p v).cports = s.cports := rfl
@[simp] theorem State.setViews_synce (p : Hp) (v : List (Nat × CounterView)) : (s.setViews p v).synce = s.synce := rfl
@[simp] theorem State.setViews_flows (p : Hp) (v : List (Nat × CounterView)) : (s.setViews p v).flows = s.flows := rfl
@[simp] theorem State.setViews_keys (p : Hp) (v : List (Nat × CounterView)) : (s.setViews p v).keys = s.keys := rfl
@[simp] theorem State.setViews_mem (p : Hp) (v : List (Nat × CounterView)) : (s.setViews p v).mem = s.mem := rfl
@[simp] theorem State.setViews_immediate (p : Hp) (v : List (Nat × CounterView)) : (s.setViews p v).immediate = s.immediate := rfl
@[simp] theorem State.setViews_hw (p : Hp) (v : List (Nat × CounterView)) : (s.setViews p v).hw = s.hw := rfl
@[simp] theorem State.setViews_time (p : Hp) (v : List (Nat × CounterView)) : (s.setViews p v).time = s.time := rfl
@[simp] theorem State.setViews_gauge (p : Hp) (v : List (Nat × CounterView)) : (s.setViews p v).gauge = s.gauge := rfl
@[simp] theorem State.setViews_weir (p : Hp) (v : List (Nat × CounterView)) : (s.setViews p v).weir = s.weir := rfl
@[simp] theorem State.setViews_sup (p : Hp) (v : List (Nat × CounterView)) : (s.setViews p v).sup = s.sup := rfl
@[simp] theorem State.setViews_nv (p : Hp) (v : List (Nat × CounterView)) : (s.setViews p v).nv = s.nv := rfl
@[simp] theorem State.setViews_jtag (p : Hp) (v : List (Nat × CounterView)) : (s.setViews p v).jtag = s.jtag := rfl

/-! State.setCommit -/

@[simp] theorem State.setCommit_pending (k : Commit) : (s.setCommit k).pending = s.pending := rfl
@[simp] theorem State.setCommit_fresh (k : Commit) : (s.setCommit k).fresh = s.fresh := rfl
@[simp] theorem State.setCommit_ident (k : Commit) : (s.setCommit k).ident = s.ident := rfl
@[simp] theorem State.setCommit_moduleTime (k : Commit) : (s.setCommit k).moduleTime = s.moduleTime := rfl
@[simp] theorem State.setCommit_power (k : Commit) : (s.setCommit k).power = s.power := rfl
@[simp] theorem State.setCommit_ports (k : Commit) : (s.setCommit k).ports = s.ports := rfl
@[simp] theorem State.setCommit_turn (k : Commit) : (s.setCommit k).turn = s.turn := rfl
@[simp] theorem State.setCommit_engines (k : Commit) : (s.setCommit k).engines = s.engines := rfl
@[simp] theorem State.setCommit_spent (k : Commit) : (s.setCommit k).spent = s.spent := rfl
@[simp] theorem State.setCommit_seenTokens (k : Commit) : (s.setCommit k).seenTokens = s.seenTokens := rfl
@[simp] theorem State.setCommit_records (k : Commit) : (s.setCommit k).records = s.records := rfl
@[simp] theorem State.setCommit_lanes (k : Commit) : (s.setCommit k).lanes = s.lanes := rfl
@[simp] theorem State.setCommit_cports (k : Commit) : (s.setCommit k).cports = s.cports := rfl
@[simp] theorem State.setCommit_synce (k : Commit) : (s.setCommit k).synce = s.synce := rfl
@[simp] theorem State.setCommit_flows (k : Commit) : (s.setCommit k).flows = s.flows := rfl
@[simp] theorem State.setCommit_keys (k : Commit) : (s.setCommit k).keys = s.keys := rfl
@[simp] theorem State.setCommit_mem (k : Commit) : (s.setCommit k).mem = s.mem := rfl
@[simp] theorem State.setCommit_immediate (k : Commit) : (s.setCommit k).immediate = s.immediate := rfl
@[simp] theorem State.setCommit_hw (k : Commit) : (s.setCommit k).hw = s.hw := rfl
@[simp] theorem State.setCommit_time (k : Commit) : (s.setCommit k).time = s.time := rfl
@[simp] theorem State.setCommit_gauge (k : Commit) : (s.setCommit k).gauge = s.gauge := rfl
@[simp] theorem State.setCommit_weir (k : Commit) : (s.setCommit k).weir = s.weir := rfl
@[simp] theorem State.setCommit_sup (k : Commit) : (s.setCommit k).sup = s.sup := rfl
@[simp] theorem State.setCommit_collector (k : Commit) : (s.setCommit k).collector = s.collector := rfl
@[simp] theorem State.setCommit_nv (k : Commit) : (s.setCommit k).nv = s.nv := rfl
@[simp] theorem State.setCommit_jtag (k : Commit) : (s.setCommit k).jtag = s.jtag := rfl

/-! State.turnTo -/

@[simp] theorem State.turnTo_pending (p : Hp) : (s.turnTo p).pending = s.pending := rfl
@[simp] theorem State.turnTo_fresh (p : Hp) : (s.turnTo p).fresh = s.fresh := rfl
@[simp] theorem State.turnTo_ident (p : Hp) : (s.turnTo p).ident = s.ident := rfl
@[simp] theorem State.turnTo_moduleTime (p : Hp) : (s.turnTo p).moduleTime = s.moduleTime := rfl
@[simp] theorem State.turnTo_power (p : Hp) : (s.turnTo p).power = s.power := rfl
@[simp] theorem State.turnTo_ports (p : Hp) : (s.turnTo p).ports = s.ports := rfl
@[simp] theorem State.turnTo_engines (p : Hp) : (s.turnTo p).engines = s.engines := rfl
@[simp] theorem State.turnTo_commits (p : Hp) : (s.turnTo p).commits = s.commits := rfl
@[simp] theorem State.turnTo_spent (p : Hp) : (s.turnTo p).spent = s.spent := rfl
@[simp] theorem State.turnTo_seenTokens (p : Hp) : (s.turnTo p).seenTokens = s.seenTokens := rfl
@[simp] theorem State.turnTo_records (p : Hp) : (s.turnTo p).records = s.records := rfl
@[simp] theorem State.turnTo_lanes (p : Hp) : (s.turnTo p).lanes = s.lanes := rfl
@[simp] theorem State.turnTo_cports (p : Hp) : (s.turnTo p).cports = s.cports := rfl
@[simp] theorem State.turnTo_synce (p : Hp) : (s.turnTo p).synce = s.synce := rfl
@[simp] theorem State.turnTo_flows (p : Hp) : (s.turnTo p).flows = s.flows := rfl
@[simp] theorem State.turnTo_keys (p : Hp) : (s.turnTo p).keys = s.keys := rfl
@[simp] theorem State.turnTo_mem (p : Hp) : (s.turnTo p).mem = s.mem := rfl
@[simp] theorem State.turnTo_immediate (p : Hp) : (s.turnTo p).immediate = s.immediate := rfl
@[simp] theorem State.turnTo_hw (p : Hp) : (s.turnTo p).hw = s.hw := rfl
@[simp] theorem State.turnTo_time (p : Hp) : (s.turnTo p).time = s.time := rfl
@[simp] theorem State.turnTo_gauge (p : Hp) : (s.turnTo p).gauge = s.gauge := rfl
@[simp] theorem State.turnTo_weir (p : Hp) : (s.turnTo p).weir = s.weir := rfl
@[simp] theorem State.turnTo_sup (p : Hp) : (s.turnTo p).sup = s.sup := rfl
@[simp] theorem State.turnTo_collector (p : Hp) : (s.turnTo p).collector = s.collector := rfl
@[simp] theorem State.turnTo_nv (p : Hp) : (s.turnTo p).nv = s.nv := rfl
@[simp] theorem State.turnTo_jtag (p : Hp) : (s.turnTo p).jtag = s.jtag := rfl

/-! State.stage -/

@[simp] theorem State.stage_pending (e : Eng) (f : EngineParams → EngineParams) : (s.stage e f).pending = s.pending := rfl
@[simp] theorem State.stage_fresh (e : Eng) (f : EngineParams → EngineParams) : (s.stage e f).fresh = s.fresh := rfl
@[simp] theorem State.stage_ident (e : Eng) (f : EngineParams → EngineParams) : (s.stage e f).ident = s.ident := rfl
@[simp] theorem State.stage_moduleTime (e : Eng) (f : EngineParams → EngineParams) : (s.stage e f).moduleTime = s.moduleTime := rfl
@[simp] theorem State.stage_power (e : Eng) (f : EngineParams → EngineParams) : (s.stage e f).power = s.power := rfl
@[simp] theorem State.stage_ports (e : Eng) (f : EngineParams → EngineParams) : (s.stage e f).ports = s.ports := rfl
@[simp] theorem State.stage_turn (e : Eng) (f : EngineParams → EngineParams) : (s.stage e f).turn = s.turn := rfl
@[simp] theorem State.stage_commits (e : Eng) (f : EngineParams → EngineParams) : (s.stage e f).commits = s.commits := rfl
@[simp] theorem State.stage_spent (e : Eng) (f : EngineParams → EngineParams) : (s.stage e f).spent = s.spent := rfl
@[simp] theorem State.stage_seenTokens (e : Eng) (f : EngineParams → EngineParams) : (s.stage e f).seenTokens = s.seenTokens := rfl
@[simp] theorem State.stage_records (e : Eng) (f : EngineParams → EngineParams) : (s.stage e f).records = s.records := rfl
@[simp] theorem State.stage_lanes (e : Eng) (f : EngineParams → EngineParams) : (s.stage e f).lanes = s.lanes := rfl
@[simp] theorem State.stage_cports (e : Eng) (f : EngineParams → EngineParams) : (s.stage e f).cports = s.cports := rfl
@[simp] theorem State.stage_synce (e : Eng) (f : EngineParams → EngineParams) : (s.stage e f).synce = s.synce := rfl
@[simp] theorem State.stage_flows (e : Eng) (f : EngineParams → EngineParams) : (s.stage e f).flows = s.flows := rfl
@[simp] theorem State.stage_keys (e : Eng) (f : EngineParams → EngineParams) : (s.stage e f).keys = s.keys := rfl
@[simp] theorem State.stage_mem (e : Eng) (f : EngineParams → EngineParams) : (s.stage e f).mem = s.mem := rfl
@[simp] theorem State.stage_immediate (e : Eng) (f : EngineParams → EngineParams) : (s.stage e f).immediate = s.immediate := rfl
@[simp] theorem State.stage_hw (e : Eng) (f : EngineParams → EngineParams) : (s.stage e f).hw = s.hw := rfl
@[simp] theorem State.stage_time (e : Eng) (f : EngineParams → EngineParams) : (s.stage e f).time = s.time := rfl
@[simp] theorem State.stage_gauge (e : Eng) (f : EngineParams → EngineParams) : (s.stage e f).gauge = s.gauge := rfl
@[simp] theorem State.stage_weir (e : Eng) (f : EngineParams → EngineParams) : (s.stage e f).weir = s.weir := rfl
@[simp] theorem State.stage_sup (e : Eng) (f : EngineParams → EngineParams) : (s.stage e f).sup = s.sup := rfl
@[simp] theorem State.stage_collector (e : Eng) (f : EngineParams → EngineParams) : (s.stage e f).collector = s.collector := rfl
@[simp] theorem State.stage_nv (e : Eng) (f : EngineParams → EngineParams) : (s.stage e f).nv = s.nv := rfl
@[simp] theorem State.stage_jtag (e : Eng) (f : EngineParams → EngineParams) : (s.stage e f).jtag = s.jtag := rfl

/-! State.takeRequest -/

@[simp] theorem State.takeRequest_pending (op : BitVec 16) (r : Request) : (s.takeRequest op r).pending = s.pending := rfl
@[simp] theorem State.takeRequest_fresh (op : BitVec 16) (r : Request) : (s.takeRequest op r).fresh = s.fresh := rfl
@[simp] theorem State.takeRequest_ident (op : BitVec 16) (r : Request) : (s.takeRequest op r).ident = s.ident := rfl
@[simp] theorem State.takeRequest_moduleTime (op : BitVec 16) (r : Request) : (s.takeRequest op r).moduleTime = s.moduleTime := rfl
@[simp] theorem State.takeRequest_power (op : BitVec 16) (r : Request) : (s.takeRequest op r).power = s.power := rfl
@[simp] theorem State.takeRequest_turn (op : BitVec 16) (r : Request) : (s.takeRequest op r).turn = s.turn := rfl
@[simp] theorem State.takeRequest_engines (op : BitVec 16) (r : Request) : (s.takeRequest op r).engines = s.engines := rfl
@[simp] theorem State.takeRequest_commits (op : BitVec 16) (r : Request) : (s.takeRequest op r).commits = s.commits := rfl
@[simp] theorem State.takeRequest_spent (op : BitVec 16) (r : Request) : (s.takeRequest op r).spent = s.spent := rfl
@[simp] theorem State.takeRequest_seenTokens (op : BitVec 16) (r : Request) : (s.takeRequest op r).seenTokens = s.seenTokens := rfl
@[simp] theorem State.takeRequest_records (op : BitVec 16) (r : Request) : (s.takeRequest op r).records = s.records := rfl
@[simp] theorem State.takeRequest_lanes (op : BitVec 16) (r : Request) : (s.takeRequest op r).lanes = s.lanes := rfl
@[simp] theorem State.takeRequest_cports (op : BitVec 16) (r : Request) : (s.takeRequest op r).cports = s.cports := rfl
@[simp] theorem State.takeRequest_synce (op : BitVec 16) (r : Request) : (s.takeRequest op r).synce = s.synce := rfl
@[simp] theorem State.takeRequest_flows (op : BitVec 16) (r : Request) : (s.takeRequest op r).flows = s.flows := rfl
@[simp] theorem State.takeRequest_keys (op : BitVec 16) (r : Request) : (s.takeRequest op r).keys = s.keys := rfl
@[simp] theorem State.takeRequest_mem (op : BitVec 16) (r : Request) : (s.takeRequest op r).mem = s.mem := rfl
@[simp] theorem State.takeRequest_immediate (op : BitVec 16) (r : Request) : (s.takeRequest op r).immediate = s.immediate := rfl
@[simp] theorem State.takeRequest_hw (op : BitVec 16) (r : Request) : (s.takeRequest op r).hw = s.hw := rfl
@[simp] theorem State.takeRequest_time (op : BitVec 16) (r : Request) : (s.takeRequest op r).time = s.time := rfl
@[simp] theorem State.takeRequest_gauge (op : BitVec 16) (r : Request) : (s.takeRequest op r).gauge = s.gauge := rfl
@[simp] theorem State.takeRequest_weir (op : BitVec 16) (r : Request) : (s.takeRequest op r).weir = s.weir := rfl
@[simp] theorem State.takeRequest_sup (op : BitVec 16) (r : Request) : (s.takeRequest op r).sup = s.sup := rfl
@[simp] theorem State.takeRequest_collector (op : BitVec 16) (r : Request) : (s.takeRequest op r).collector = s.collector := rfl
@[simp] theorem State.takeRequest_nv (op : BitVec 16) (r : Request) : (s.takeRequest op r).nv = s.nv := rfl
@[simp] theorem State.takeRequest_jtag (op : BitVec 16) (r : Request) : (s.takeRequest op r).jtag = s.jtag := rfl

/-! What the written field becomes. -/

@[simp] theorem State.skip_fresh : s.skip.fresh = s.fresh + 1 := rfl
@[simp] theorem State.turnTo_turn (p : Hp) : (s.turnTo p).turn = p := rfl
@[simp] theorem State.updSup_sup (f : SupState → SupState) : (s.updSup f).sup = f s.sup := rfl
@[simp] theorem State.setSlot_slots (n : Nat) (k : KeySlot) :
    (s.setSlot n k).keys.slots = writeAt {} s.keys.slots n k := rfl
@[simp] theorem State.putWord_words (wa : Nat) (w : MemWord) :
    (s.putWord wa w).mem.words = writeAt {} s.mem.words wa w := rfl
@[simp] theorem State.updChannel_words (c : Fin 8) (f : Channel → Channel) :
    (s.updChannel c f).mem.words = s.mem.words := rfl

theorem State.eng_updEng (e d : Eng) (f : Engine → Engine) :
    (s.updEng e f).eng d = if d = e then f (s.eng d) else s.eng d := by
  unfold State.updEng State.eng
  by_cases h : d = e
  · subst h; simp
  · rw [if_neg h]
    have h' : e.val ≠ d.val := fun x => h (Fin.ext x.symm)
    simp [h']

@[simp] theorem State.eng_updEng_same (e : Eng) (f : Engine → Engine) : (s.updEng e f).eng e = f (s.eng e) := by
  simp [State.eng_updEng]

theorem State.port_updPort (p q : Hp) (f : Port → Port) :
    (s.updPort p f).port q = if q = p then f (s.port q) else s.port q := by
  unfold State.updPort State.port
  by_cases h : q = p
  · subst h; simp
  · rw [if_neg h]
    have h' : p.val ≠ q.val := fun x => h (Fin.ext x.symm)
    simp [h']

@[simp] theorem State.port_updPort_same (p : Hp) (f : Port → Port) : (s.updPort p f).port p = f (s.port p) := by
  simp [State.port_updPort]

end Sys2Proof.Machine
end

