-- ==== Sys2Proof/Laws/Events.lean ====
section
/-! SUPPORT. What raising an event, counting, answering a request and pushing a reply leave alone. -/

namespace Sys2Proof.Machine
variable (s : State)

/-! ## Ports -/

@[simp] theorem Port.requestIbi_dynAddr (p : Port) : p.requestIbi.dynAddr = p.dynAddr := by
  unfold Port.requestIbi; split <;> rfl
@[simp] theorem Port.requestIbi_ibiOn (p : Port) : p.requestIbi.ibiOn = p.ibiOn := by
  unfold Port.requestIbi; split <;> rfl
@[simp] theorem Port.requestIbi_hdr (p : Port) : p.requestIbi.hdr = p.hdr := by
  unfold Port.requestIbi; split <;> rfl
@[simp] theorem Port.requestIbi_authReq (p : Port) : p.requestIbi.authReq = p.authReq := by
  unfold Port.requestIbi; split <;> rfl
@[simp] theorem Port.requestIbi_holdoff (p : Port) : p.requestIbi.holdoff = p.holdoff := by
  unfold Port.requestIbi; split <;> rfl
@[simp] theorem Port.requestIbi_mask (p : Port) : p.requestIbi.mask = p.mask := by
  unfold Port.requestIbi; split <;> rfl
@[simp] theorem Port.requestIbi_nextSeq (p : Port) : p.requestIbi.nextSeq = p.nextSeq := by
  unfold Port.requestIbi; split <;> rfl
@[simp] theorem Port.requestIbi_wrap (p : Port) : p.requestIbi.wrap = p.wrap := by
  unfold Port.requestIbi; split <;> rfl
@[simp] theorem Port.requestIbi_sessionStart (p : Port) : p.requestIbi.sessionStart = p.sessionStart := by
  unfold Port.requestIbi; split <;> rfl
@[simp] theorem Port.requestIbi_queue (p : Port) : p.requestIbi.queue = p.queue := by
  unfold Port.requestIbi; split <;> rfl
@[simp] theorem Port.requestIbi_running (p : Port) : p.requestIbi.running = p.running := by
  unfold Port.requestIbi; split <;> rfl
@[simp] theorem Port.requestIbi_replies (p : Port) : p.requestIbi.replies = p.replies := by
  unfold Port.requestIbi; split <;> rfl
@[simp] theorem Port.requestIbi_retained (p : Port) : p.requestIbi.retained = p.retained := by
  unfold Port.requestIbi; split <;> rfl
@[simp] theorem Port.requestIbi_chainFailed (p : Port) : p.requestIbi.chainFailed = p.chainFailed := by
  unfold Port.requestIbi; split <;> rfl
@[simp] theorem Port.requestIbi_offChain (p : Port) : p.requestIbi.offChain = p.offChain := by
  unfold Port.requestIbi; split <;> rfl
@[simp] theorem Port.requestIbi_shortWrites (p : Port) : p.requestIbi.shortWrites = p.shortWrites := by
  unfold Port.requestIbi; split <;> rfl
@[simp] theorem Port.requestIbi_authFails (p : Port) : p.requestIbi.authFails = p.authFails := by
  unfold Port.requestIbi; split <;> rfl
@[simp] theorem Port.requestIbi_unwrapFails (p : Port) : p.requestIbi.unwrapFails = p.unwrapFails := by
  unfold Port.requestIbi; split <;> rfl
@[simp] theorem Port.requestIbi_events (p : Port) : p.requestIbi.events = p.events := by
  unfold Port.requestIbi; split <;> rfl
@[simp] theorem Port.requestIbi_lost (p : Port) : p.requestIbi.lost = p.lost := by
  unfold Port.requestIbi; split <;> rfl
@[simp] theorem Port.requestIbi_firstLost (p : Port) : p.requestIbi.firstLost = p.firstLost := by
  unfold Port.requestIbi; split <;> rfl
@[simp] theorem Port.requestIbi_tenancy (p : Port) : p.requestIbi.tenancy = p.tenancy := by
  unfold Port.requestIbi; split <;> rfl
@[simp] theorem Port.requestIbi_kek (p : Port) : p.requestIbi.kek = p.kek := by
  unfold Port.requestIbi; split <;> rfl
@[simp] theorem Port.requestIbi_cak (p : Port) : p.requestIbi.cak = p.cak := by
  unfold Port.requestIbi; split <;> rfl
@[simp] theorem Port.requestIbi_bus (p : Port) : p.requestIbi.bus = p.bus := by
  unfold Port.requestIbi; split <;> rfl
@[simp] theorem Port.pushReply_dynAddr (p : Port) (r : Reply) : (p.pushReply r).dynAddr = p.dynAddr := by
  unfold Port.pushReply; dsimp only; split <;> simp
@[simp] theorem Port.pushReply_ibiOn (p : Port) (r : Reply) : (p.pushReply r).ibiOn = p.ibiOn := by
  unfold Port.pushReply; dsimp only; split <;> simp
@[simp] theorem Port.pushReply_hdr (p : Port) (r : Reply) : (p.pushReply r).hdr = p.hdr := by
  unfold Port.pushReply; dsimp only; split <;> simp
@[simp] theorem Port.pushReply_authReq (p : Port) (r : Reply) : (p.pushReply r).authReq = p.authReq := by
  unfold Port.pushReply; dsimp only; split <;> simp
@[simp] theorem Port.pushReply_holdoff (p : Port) (r : Reply) : (p.pushReply r).holdoff = p.holdoff := by
  unfold Port.pushReply; dsimp only; split <;> simp
@[simp] theorem Port.pushReply_mask (p : Port) (r : Reply) : (p.pushReply r).mask = p.mask := by
  unfold Port.pushReply; dsimp only; split <;> simp
@[simp] theorem Port.pushReply_nextSeq (p : Port) (r : Reply) : (p.pushReply r).nextSeq = p.nextSeq := by
  unfold Port.pushReply; dsimp only; split <;> simp
@[simp] theorem Port.pushReply_wrap (p : Port) (r : Reply) : (p.pushReply r).wrap = p.wrap := by
  unfold Port.pushReply; dsimp only; split <;> simp
@[simp] theorem Port.pushReply_sessionStart (p : Port) (r : Reply) : (p.pushReply r).sessionStart = p.sessionStart := by
  unfold Port.pushReply; dsimp only; split <;> simp
@[simp] theorem Port.pushReply_queue (p : Port) (r : Reply) : (p.pushReply r).queue = p.queue := by
  unfold Port.pushReply; dsimp only; split <;> simp
@[simp] theorem Port.pushReply_running (p : Port) (r : Reply) : (p.pushReply r).running = p.running := by
  unfold Port.pushReply; dsimp only; split <;> simp
@[simp] theorem Port.pushReply_retained (p : Port) (r : Reply) : (p.pushReply r).retained = p.retained := by
  unfold Port.pushReply; dsimp only; split <;> simp
@[simp] theorem Port.pushReply_chainFailed (p : Port) (r : Reply) : (p.pushReply r).chainFailed = p.chainFailed := by
  unfold Port.pushReply; dsimp only; split <;> simp
@[simp] theorem Port.pushReply_offChain (p : Port) (r : Reply) : (p.pushReply r).offChain = p.offChain := by
  unfold Port.pushReply; dsimp only; split <;> simp
@[simp] theorem Port.pushReply_shortWrites (p : Port) (r : Reply) : (p.pushReply r).shortWrites = p.shortWrites := by
  unfold Port.pushReply; dsimp only; split <;> simp
@[simp] theorem Port.pushReply_authFails (p : Port) (r : Reply) : (p.pushReply r).authFails = p.authFails := by
  unfold Port.pushReply; dsimp only; split <;> simp
@[simp] theorem Port.pushReply_unwrapFails (p : Port) (r : Reply) : (p.pushReply r).unwrapFails = p.unwrapFails := by
  unfold Port.pushReply; dsimp only; split <;> simp
@[simp] theorem Port.pushReply_events (p : Port) (r : Reply) : (p.pushReply r).events = p.events := by
  unfold Port.pushReply; dsimp only; split <;> simp
@[simp] theorem Port.pushReply_lost (p : Port) (r : Reply) : (p.pushReply r).lost = p.lost := by
  unfold Port.pushReply; dsimp only; split <;> simp
@[simp] theorem Port.pushReply_firstLost (p : Port) (r : Reply) : (p.pushReply r).firstLost = p.firstLost := by
  unfold Port.pushReply; dsimp only; split <;> simp
@[simp] theorem Port.pushReply_tenancy (p : Port) (r : Reply) : (p.pushReply r).tenancy = p.tenancy := by
  unfold Port.pushReply; dsimp only; split <;> simp
@[simp] theorem Port.pushReply_kek (p : Port) (r : Reply) : (p.pushReply r).kek = p.kek := by
  unfold Port.pushReply; dsimp only; split <;> simp
@[simp] theorem Port.pushReply_cak (p : Port) (r : Reply) : (p.pushReply r).cak = p.cak := by
  unfold Port.pushReply; dsimp only; split <;> simp
@[simp] theorem Port.pushReply_bus (p : Port) (r : Reply) : (p.pushReply r).bus = p.bus := by
  unfold Port.pushReply; dsimp only; split <;> simp
@[simp] theorem Port.pushReply_replies (p : Port) (r : Reply) : (p.pushReply r).replies = p.replies ++ [r] := by
  unfold Port.pushReply; dsimp only; split <;> simp
@[simp] theorem Port.pushEvent_dynAddr (p : Port) (v : Event) : (p.pushEvent v).dynAddr = p.dynAddr := by
  unfold Port.pushEvent; split
  · rfl
  · dsimp only; split <;> simp
@[simp] theorem Port.pushEvent_ibiOn (p : Port) (v : Event) : (p.pushEvent v).ibiOn = p.ibiOn := by
  unfold Port.pushEvent; split
  · rfl
  · dsimp only; split <;> simp
@[simp] theorem Port.pushEvent_hdr (p : Port) (v : Event) : (p.pushEvent v).hdr = p.hdr := by
  unfold Port.pushEvent; split
  · rfl
  · dsimp only; split <;> simp
@[simp] theorem Port.pushEvent_authReq (p : Port) (v : Event) : (p.pushEvent v).authReq = p.authReq := by
  unfold Port.pushEvent; split
  · rfl
  · dsimp only; split <;> simp
@[simp] theorem Port.pushEvent_holdoff (p : Port) (v : Event) : (p.pushEvent v).holdoff = p.holdoff := by
  unfold Port.pushEvent; split
  · rfl
  · dsimp only; split <;> simp
@[simp] theorem Port.pushEvent_mask (p : Port) (v : Event) : (p.pushEvent v).mask = p.mask := by
  unfold Port.pushEvent; split
  · rfl
  · dsimp only; split <;> simp
@[simp] theorem Port.pushEvent_nextSeq (p : Port) (v : Event) : (p.pushEvent v).nextSeq = p.nextSeq := by
  unfold Port.pushEvent; split
  · rfl
  · dsimp only; split <;> simp
@[simp] theorem Port.pushEvent_wrap (p : Port) (v : Event) : (p.pushEvent v).wrap = p.wrap := by
  unfold Port.pushEvent; split
  · rfl
  · dsimp only; split <;> simp
@[simp] theorem Port.pushEvent_sessionStart (p : Port) (v : Event) : (p.pushEvent v).sessionStart = p.sessionStart := by
  unfold Port.pushEvent; split
  · rfl
  · dsimp only; split <;> simp
@[simp] theorem Port.pushEvent_queue (p : Port) (v : Event) : (p.pushEvent v).queue = p.queue := by
  unfold Port.pushEvent; split
  · rfl
  · dsimp only; split <;> simp
@[simp] theorem Port.pushEvent_running (p : Port) (v : Event) : (p.pushEvent v).running = p.running := by
  unfold Port.pushEvent; split
  · rfl
  · dsimp only; split <;> simp
@[simp] theorem Port.pushEvent_replies (p : Port) (v : Event) : (p.pushEvent v).replies = p.replies := by
  unfold Port.pushEvent; split
  · rfl
  · dsimp only; split <;> simp
@[simp] theorem Port.pushEvent_retained (p : Port) (v : Event) : (p.pushEvent v).retained = p.retained := by
  unfold Port.pushEvent; split
  · rfl
  · dsimp only; split <;> simp
@[simp] theorem Port.pushEvent_chainFailed (p : Port) (v : Event) : (p.pushEvent v).chainFailed = p.chainFailed := by
  unfold Port.pushEvent; split
  · rfl
  · dsimp only; split <;> simp
@[simp] theorem Port.pushEvent_offChain (p : Port) (v : Event) : (p.pushEvent v).offChain = p.offChain := by
  unfold Port.pushEvent; split
  · rfl
  · dsimp only; split <;> simp
@[simp] theorem Port.pushEvent_shortWrites (p : Port) (v : Event) : (p.pushEvent v).shortWrites = p.shortWrites := by
  unfold Port.pushEvent; split
  · rfl
  · dsimp only; split <;> simp
@[simp] theorem Port.pushEvent_authFails (p : Port) (v : Event) : (p.pushEvent v).authFails = p.authFails := by
  unfold Port.pushEvent; split
  · rfl
  · dsimp only; split <;> simp
@[simp] theorem Port.pushEvent_unwrapFails (p : Port) (v : Event) : (p.pushEvent v).unwrapFails = p.unwrapFails := by
  unfold Port.pushEvent; split
  · rfl
  · dsimp only; split <;> simp
@[simp] theorem Port.pushEvent_tenancy (p : Port) (v : Event) : (p.pushEvent v).tenancy = p.tenancy := by
  unfold Port.pushEvent; split
  · rfl
  · dsimp only; split <;> simp
@[simp] theorem Port.pushEvent_kek (p : Port) (v : Event) : (p.pushEvent v).kek = p.kek := by
  unfold Port.pushEvent; split
  · rfl
  · dsimp only; split <;> simp
@[simp] theorem Port.pushEvent_cak (p : Port) (v : Event) : (p.pushEvent v).cak = p.cak := by
  unfold Port.pushEvent; split
  · rfl
  · dsimp only; split <;> simp
@[simp] theorem Port.pushEvent_bus (p : Port) (v : Event) : (p.pushEvent v).bus = p.bus := by
  unfold Port.pushEvent; split
  · rfl
  · dsimp only; split <;> simp

/-! ## Raising an event -/

@[simp] theorem State.deliver_pending (pl : Place) (v : Event) (p : Hp) : (s.deliver pl v p).pending = s.pending := by
  unfold State.deliver; split <;> rfl
@[simp] theorem State.deliver_fresh (pl : Place) (v : Event) (p : Hp) : (s.deliver pl v p).fresh = s.fresh := by
  unfold State.deliver; split <;> rfl
@[simp] theorem State.deliver_ident (pl : Place) (v : Event) (p : Hp) : (s.deliver pl v p).ident = s.ident := by
  unfold State.deliver; split <;> rfl
@[simp] theorem State.deliver_moduleTime (pl : Place) (v : Event) (p : Hp) : (s.deliver pl v p).moduleTime = s.moduleTime := by
  unfold State.deliver; split <;> rfl
@[simp] theorem State.deliver_power (pl : Place) (v : Event) (p : Hp) : (s.deliver pl v p).power = s.power := by
  unfold State.deliver; split <;> rfl
@[simp] theorem State.deliver_turn (pl : Place) (v : Event) (p : Hp) : (s.deliver pl v p).turn = s.turn := by
  unfold State.deliver; split <;> rfl
@[simp] theorem State.deliver_engines (pl : Place) (v : Event) (p : Hp) : (s.deliver pl v p).engines = s.engines := by
  unfold State.deliver; split <;> rfl
@[simp] theorem State.deliver_commits (pl : Place) (v : Event) (p : Hp) : (s.deliver pl v p).commits = s.commits := by
  unfold State.deliver; split <;> rfl
@[simp] theorem State.deliver_spent (pl : Place) (v : Event) (p : Hp) : (s.deliver pl v p).spent = s.spent := by
  unfold State.deliver; split <;> rfl
@[simp] theorem State.deliver_seenTokens (pl : Place) (v : Event) (p : Hp) : (s.deliver pl v p).seenTokens = s.seenTokens := by
  unfold State.deliver; split <;> rfl
@[simp] theorem State.deliver_records (pl : Place) (v : Event) (p : Hp) : (s.deliver pl v p).records = s.records := by
  unfold State.deliver; split <;> rfl
@[simp] theorem State.deliver_lanes (pl : Place) (v : Event) (p : Hp) : (s.deliver pl v p).lanes = s.lanes := by
  unfold State.deliver; split <;> rfl
@[simp] theorem State.deliver_cports (pl : Place) (v : Event) (p : Hp) : (s.deliver pl v p).cports = s.cports := by
  unfold State.deliver; split <;> rfl
@[simp] theorem State.deliver_synce (pl : Place) (v : Event) (p : Hp) : (s.deliver pl v p).synce = s.synce := by
  unfold State.deliver; split <;> rfl
@[simp] theorem State.deliver_flows (pl : Place) (v : Event) (p : Hp) : (s.deliver pl v p).flows = s.flows := by
  unfold State.deliver; split <;> rfl
@[simp] theorem State.deliver_keys (pl : Place) (v : Event) (p : Hp) : (s.deliver pl v p).keys = s.keys := by
  unfold State.deliver; split <;> rfl
@[simp] theorem State.deliver_mem (pl : Place) (v : Event) (p : Hp) : (s.deliver pl v p).mem = s.mem := by
  unfold State.deliver; split <;> rfl
@[simp] theorem State.deliver_immediate (pl : Place) (v : Event) (p : Hp) : (s.deliver pl v p).immediate = s.immediate := by
  unfold State.deliver; split <;> rfl
@[simp] theorem State.deliver_hw (pl : Place) (v : Event) (p : Hp) : (s.deliver pl v p).hw = s.hw := by
  unfold State.deliver; split <;> rfl
@[simp] theorem State.deliver_time (pl : Place) (v : Event) (p : Hp) : (s.deliver pl v p).time = s.time := by
  unfold State.deliver; split <;> rfl
@[simp] theorem State.deliver_gauge (pl : Place) (v : Event) (p : Hp) : (s.deliver pl v p).gauge = s.gauge := by
  unfold State.deliver; split <;> rfl
@[simp] theorem State.deliver_weir (pl : Place) (v : Event) (p : Hp) : (s.deliver pl v p).weir = s.weir := by
  unfold State.deliver; split <;> rfl
@[simp] theorem State.deliver_sup (pl : Place) (v : Event) (p : Hp) : (s.deliver pl v p).sup = s.sup := by
  unfold State.deliver; split <;> rfl
@[simp] theorem State.deliver_collector (pl : Place) (v : Event) (p : Hp) : (s.deliver pl v p).collector = s.collector := by
  unfold State.deliver; split <;> rfl
@[simp] theorem State.deliver_nv (pl : Place) (v : Event) (p : Hp) : (s.deliver pl v p).nv = s.nv := by
  unfold State.deliver; split <;> rfl
@[simp] theorem State.deliver_jtag (pl : Place) (v : Event) (p : Hp) : (s.deliver pl v p).jtag = s.jtag := by
  unfold State.deliver; split <;> rfl
@[simp] theorem State.deliver_port_dynAddr (pl : Place) (v : Event) (p q : Hp) :
    ((s.deliver pl v p).port q).dynAddr = (s.port q).dynAddr := by
  unfold State.deliver; split
  · rw [State.port_updPort]; split <;> simp
  · rfl
@[simp] theorem State.deliver_port_ibiOn (pl : Place) (v : Event) (p q : Hp) :
    ((s.deliver pl v p).port q).ibiOn = (s.port q).ibiOn := by
  unfold State.deliver; split
  · rw [State.port_updPort]; split <;> simp
  · rfl
@[simp] theorem State.deliver_port_hdr (pl : Place) (v : Event) (p q : Hp) :
    ((s.deliver pl v p).port q).hdr = (s.port q).hdr := by
  unfold State.deliver; split
  · rw [State.port_updPort]; split <;> simp
  · rfl
@[simp] theorem State.deliver_port_authReq (pl : Place) (v : Event) (p q : Hp) :
    ((s.deliver pl v p).port q).authReq = (s.port q).authReq := by
  unfold State.deliver; split
  · rw [State.port_updPort]; split <;> simp
  · rfl
@[simp] theorem State.deliver_port_holdoff (pl : Place) (v : Event) (p q : Hp) :
    ((s.deliver pl v p).port q).holdoff = (s.port q).holdoff := by
  unfold State.deliver; split
  · rw [State.port_updPort]; split <;> simp
  · rfl
@[simp] theorem State.deliver_port_mask (pl : Place) (v : Event) (p q : Hp) :
    ((s.deliver pl v p).port q).mask = (s.port q).mask := by
  unfold State.deliver; split
  · rw [State.port_updPort]; split <;> simp
  · rfl
@[simp] theorem State.deliver_port_nextSeq (pl : Place) (v : Event) (p q : Hp) :
    ((s.deliver pl v p).port q).nextSeq = (s.port q).nextSeq := by
  unfold State.deliver; split
  · rw [State.port_updPort]; split <;> simp
  · rfl
@[simp] theorem State.deliver_port_wrap (pl : Place) (v : Event) (p q : Hp) :
    ((s.deliver pl v p).port q).wrap = (s.port q).wrap := by
  unfold State.deliver; split
  · rw [State.port_updPort]; split <;> simp
  · rfl
@[simp] theorem State.deliver_port_sessionStart (pl : Place) (v : Event) (p q : Hp) :
    ((s.deliver pl v p).port q).sessionStart = (s.port q).sessionStart := by
  unfold State.deliver; split
  · rw [State.port_updPort]; split <;> simp
  · rfl
@[simp] theorem State.deliver_port_queue (pl : Place) (v : Event) (p q : Hp) :
    ((s.deliver pl v p).port q).queue = (s.port q).queue := by
  unfold State.deliver; split
  · rw [State.port_updPort]; split <;> simp
  · rfl
@[simp] theorem State.deliver_port_running (pl : Place) (v : Event) (p q : Hp) :
    ((s.deliver pl v p).port q).running = (s.port q).running := by
  unfold State.deliver; split
  · rw [State.port_updPort]; split <;> simp
  · rfl
@[simp] theorem State.deliver_port_replies (pl : Place) (v : Event) (p q : Hp) :
    ((s.deliver pl v p).port q).replies = (s.port q).replies := by
  unfold State.deliver; split
  · rw [State.port_updPort]; split <;> simp
  · rfl
@[simp] theorem State.deliver_port_retained (pl : Place) (v : Event) (p q : Hp) :
    ((s.deliver pl v p).port q).retained = (s.port q).retained := by
  unfold State.deliver; split
  · rw [State.port_updPort]; split <;> simp
  · rfl
@[simp] theorem State.deliver_port_chainFailed (pl : Place) (v : Event) (p q : Hp) :
    ((s.deliver pl v p).port q).chainFailed = (s.port q).chainFailed := by
  unfold State.deliver; split
  · rw [State.port_updPort]; split <;> simp
  · rfl
@[simp] theorem State.deliver_port_offChain (pl : Place) (v : Event) (p q : Hp) :
    ((s.deliver pl v p).port q).offChain = (s.port q).offChain := by
  unfold State.deliver; split
  · rw [State.port_updPort]; split <;> simp
  · rfl
@[simp] theorem State.deliver_port_shortWrites (pl : Place) (v : Event) (p q : Hp) :
    ((s.deliver pl v p).port q).shortWrites = (s.port q).shortWrites := by
  unfold State.deliver; split
  · rw [State.port_updPort]; split <;> simp
  · rfl
@[simp] theorem State.deliver_port_authFails (pl : Place) (v : Event) (p q : Hp) :
    ((s.deliver pl v p).port q).authFails = (s.port q).authFails := by
  unfold State.deliver; split
  · rw [State.port_updPort]; split <;> simp
  · rfl
@[simp] theorem State.deliver_port_unwrapFails (pl : Place) (v : Event) (p q : Hp) :
    ((s.deliver pl v p).port q).unwrapFails = (s.port q).unwrapFails := by
  unfold State.deliver; split
  · rw [State.port_updPort]; split <;> simp
  · rfl
@[simp] theorem State.deliver_port_tenancy (pl : Place) (v : Event) (p q : Hp) :
    ((s.deliver pl v p).port q).tenancy = (s.port q).tenancy := by
  unfold State.deliver; split
  · rw [State.port_updPort]; split <;> simp
  · rfl
@[simp] theorem State.deliver_port_kek (pl : Place) (v : Event) (p q : Hp) :
    ((s.deliver pl v p).port q).kek = (s.port q).kek := by
  unfold State.deliver; split
  · rw [State.port_updPort]; split <;> simp
  · rfl
@[simp] theorem State.deliver_port_cak (pl : Place) (v : Event) (p q : Hp) :
    ((s.deliver pl v p).port q).cak = (s.port q).cak := by
  unfold State.deliver; split
  · rw [State.port_updPort]; split <;> simp
  · rfl
@[simp] theorem State.deliver_port_bus (pl : Place) (v : Event) (p q : Hp) :
    ((s.deliver pl v p).port q).bus = (s.port q).bus := by
  unfold State.deliver; split
  · rw [State.port_updPort]; split <;> simp
  · rfl
@[simp] theorem State.raise_pending (c : BitVec 16) (pl : Place) (d : Bytes) : (s.raise c pl d).pending = s.pending := by
  simp [State.raise]
@[simp] theorem State.raise_fresh (c : BitVec 16) (pl : Place) (d : Bytes) : (s.raise c pl d).fresh = s.fresh := by
  simp [State.raise]
@[simp] theorem State.raise_ident (c : BitVec 16) (pl : Place) (d : Bytes) : (s.raise c pl d).ident = s.ident := by
  simp [State.raise]
@[simp] theorem State.raise_moduleTime (c : BitVec 16) (pl : Place) (d : Bytes) : (s.raise c pl d).moduleTime = s.moduleTime := by
  simp [State.raise]
@[simp] theorem State.raise_power (c : BitVec 16) (pl : Place) (d : Bytes) : (s.raise c pl d).power = s.power := by
  simp [State.raise]
@[simp] theorem State.raise_turn (c : BitVec 16) (pl : Place) (d : Bytes) : (s.raise c pl d).turn = s.turn := by
  simp [State.raise]
@[simp] theorem State.raise_engines (c : BitVec 16) (pl : Place) (d : Bytes) : (s.raise c pl d).engines = s.engines := by
  simp [State.raise]
@[simp] theorem State.raise_commits (c : BitVec 16) (pl : Place) (d : Bytes) : (s.raise c pl d).commits = s.commits := by
  simp [State.raise]
@[simp] theorem State.raise_spent (c : BitVec 16) (pl : Place) (d : Bytes) : (s.raise c pl d).spent = s.spent := by
  simp [State.raise]
@[simp] theorem State.raise_seenTokens (c : BitVec 16) (pl : Place) (d : Bytes) : (s.raise c pl d).seenTokens = s.seenTokens := by
  simp [State.raise]
@[simp] theorem State.raise_records (c : BitVec 16) (pl : Place) (d : Bytes) : (s.raise c pl d).records = s.records := by
  simp [State.raise]
@[simp] theorem State.raise_lanes (c : BitVec 16) (pl : Place) (d : Bytes) : (s.raise c pl d).lanes = s.lanes := by
  simp [State.raise]
@[simp] theorem State.raise_cports (c : BitVec 16) (pl : Place) (d : Bytes) : (s.raise c pl d).cports = s.cports := by
  simp [State.raise]
@[simp] theorem State.raise_synce (c : BitVec 16) (pl : Place) (d : Bytes) : (s.raise c pl d).synce = s.synce := by
  simp [State.raise]
@[simp] theorem State.raise_flows (c : BitVec 16) (pl : Place) (d : Bytes) : (s.raise c pl d).flows = s.flows := by
  simp [State.raise]
@[simp] theorem State.raise_keys (c : BitVec 16) (pl : Place) (d : Bytes) : (s.raise c pl d).keys = s.keys := by
  simp [State.raise]
@[simp] theorem State.raise_mem (c : BitVec 16) (pl : Place) (d : Bytes) : (s.raise c pl d).mem = s.mem := by
  simp [State.raise]
@[simp] theorem State.raise_immediate (c : BitVec 16) (pl : Place) (d : Bytes) : (s.raise c pl d).immediate = s.immediate := by
  simp [State.raise]
@[simp] theorem State.raise_hw (c : BitVec 16) (pl : Place) (d : Bytes) : (s.raise c pl d).hw = s.hw := by
  simp [State.raise]
@[simp] theorem State.raise_time (c : BitVec 16) (pl : Place) (d : Bytes) : (s.raise c pl d).time = s.time := by
  simp [State.raise]
@[simp] theorem State.raise_gauge (c : BitVec 16) (pl : Place) (d : Bytes) : (s.raise c pl d).gauge = s.gauge := by
  simp [State.raise]
@[simp] theorem State.raise_weir (c : BitVec 16) (pl : Place) (d : Bytes) : (s.raise c pl d).weir = s.weir := by
  simp [State.raise]
@[simp] theorem State.raise_sup (c : BitVec 16) (pl : Place) (d : Bytes) : (s.raise c pl d).sup = s.sup := by
  simp [State.raise]
@[simp] theorem State.raise_nv (c : BitVec 16) (pl : Place) (d : Bytes) : (s.raise c pl d).nv = s.nv := by
  simp [State.raise]
@[simp] theorem State.raise_jtag (c : BitVec 16) (pl : Place) (d : Bytes) : (s.raise c pl d).jtag = s.jtag := by
  simp [State.raise]
@[simp] theorem State.raise_port_dynAddr (c : BitVec 16) (pl : Place) (d : Bytes) (q : Hp) :
    ((s.raise c pl d).port q).dynAddr = (s.port q).dynAddr := by
  simp only [State.raise, List.foldl, State.deliver_port_dynAddr]; rfl
@[simp] theorem State.raise_port_ibiOn (c : BitVec 16) (pl : Place) (d : Bytes) (q : Hp) :
    ((s.raise c pl d).port q).ibiOn = (s.port q).ibiOn := by
  simp only [State.raise, List.foldl, State.deliver_port_ibiOn]; rfl
@[simp] theorem State.raise_port_hdr (c : BitVec 16) (pl : Place) (d : Bytes) (q : Hp) :
    ((s.raise c pl d).port q).hdr = (s.port q).hdr := by
  simp only [State.raise, List.foldl, State.deliver_port_hdr]; rfl
@[simp] theorem State.raise_port_authReq (c : BitVec 16) (pl : Place) (d : Bytes) (q : Hp) :
    ((s.raise c pl d).port q).authReq = (s.port q).authReq := by
  simp only [State.raise, List.foldl, State.deliver_port_authReq]; rfl
@[simp] theorem State.raise_port_holdoff (c : BitVec 16) (pl : Place) (d : Bytes) (q : Hp) :
    ((s.raise c pl d).port q).holdoff = (s.port q).holdoff := by
  simp only [State.raise, List.foldl, State.deliver_port_holdoff]; rfl
@[simp] theorem State.raise_port_mask (c : BitVec 16) (pl : Place) (d : Bytes) (q : Hp) :
    ((s.raise c pl d).port q).mask = (s.port q).mask := by
  simp only [State.raise, List.foldl, State.deliver_port_mask]; rfl
@[simp] theorem State.raise_port_nextSeq (c : BitVec 16) (pl : Place) (d : Bytes) (q : Hp) :
    ((s.raise c pl d).port q).nextSeq = (s.port q).nextSeq := by
  simp only [State.raise, List.foldl, State.deliver_port_nextSeq]; rfl
@[simp] theorem State.raise_port_wrap (c : BitVec 16) (pl : Place) (d : Bytes) (q : Hp) :
    ((s.raise c pl d).port q).wrap = (s.port q).wrap := by
  simp only [State.raise, List.foldl, State.deliver_port_wrap]; rfl
@[simp] theorem State.raise_port_sessionStart (c : BitVec 16) (pl : Place) (d : Bytes) (q : Hp) :
    ((s.raise c pl d).port q).sessionStart = (s.port q).sessionStart := by
  simp only [State.raise, List.foldl, State.deliver_port_sessionStart]; rfl
@[simp] theorem State.raise_port_queue (c : BitVec 16) (pl : Place) (d : Bytes) (q : Hp) :
    ((s.raise c pl d).port q).queue = (s.port q).queue := by
  simp only [State.raise, List.foldl, State.deliver_port_queue]; rfl
@[simp] theorem State.raise_port_running (c : BitVec 16) (pl : Place) (d : Bytes) (q : Hp) :
    ((s.raise c pl d).port q).running = (s.port q).running := by
  simp only [State.raise, List.foldl, State.deliver_port_running]; rfl
@[simp] theorem State.raise_port_replies (c : BitVec 16) (pl : Place) (d : Bytes) (q : Hp) :
    ((s.raise c pl d).port q).replies = (s.port q).replies := by
  simp only [State.raise, List.foldl, State.deliver_port_replies]; rfl
@[simp] theorem State.raise_port_retained (c : BitVec 16) (pl : Place) (d : Bytes) (q : Hp) :
    ((s.raise c pl d).port q).retained = (s.port q).retained := by
  simp only [State.raise, List.foldl, State.deliver_port_retained]; rfl
@[simp] theorem State.raise_port_chainFailed (c : BitVec 16) (pl : Place) (d : Bytes) (q : Hp) :
    ((s.raise c pl d).port q).chainFailed = (s.port q).chainFailed := by
  simp only [State.raise, List.foldl, State.deliver_port_chainFailed]; rfl
@[simp] theorem State.raise_port_offChain (c : BitVec 16) (pl : Place) (d : Bytes) (q : Hp) :
    ((s.raise c pl d).port q).offChain = (s.port q).offChain := by
  simp only [State.raise, List.foldl, State.deliver_port_offChain]; rfl
@[simp] theorem State.raise_port_shortWrites (c : BitVec 16) (pl : Place) (d : Bytes) (q : Hp) :
    ((s.raise c pl d).port q).shortWrites = (s.port q).shortWrites := by
  simp only [State.raise, List.foldl, State.deliver_port_shortWrites]; rfl
@[simp] theorem State.raise_port_authFails (c : BitVec 16) (pl : Place) (d : Bytes) (q : Hp) :
    ((s.raise c pl d).port q).authFails = (s.port q).authFails := by
  simp only [State.raise, List.foldl, State.deliver_port_authFails]; rfl
@[simp] theorem State.raise_port_unwrapFails (c : BitVec 16) (pl : Place) (d : Bytes) (q : Hp) :
    ((s.raise c pl d).port q).unwrapFails = (s.port q).unwrapFails := by
  simp only [State.raise, List.foldl, State.deliver_port_unwrapFails]; rfl
@[simp] theorem State.raise_port_tenancy (c : BitVec 16) (pl : Place) (d : Bytes) (q : Hp) :
    ((s.raise c pl d).port q).tenancy = (s.port q).tenancy := by
  simp only [State.raise, List.foldl, State.deliver_port_tenancy]; rfl
@[simp] theorem State.raise_port_kek (c : BitVec 16) (pl : Place) (d : Bytes) (q : Hp) :
    ((s.raise c pl d).port q).kek = (s.port q).kek := by
  simp only [State.raise, List.foldl, State.deliver_port_kek]; rfl
@[simp] theorem State.raise_port_cak (c : BitVec 16) (pl : Place) (d : Bytes) (q : Hp) :
    ((s.raise c pl d).port q).cak = (s.port q).cak := by
  simp only [State.raise, List.foldl, State.deliver_port_cak]; rfl
@[simp] theorem State.raise_port_bus (c : BitVec 16) (pl : Place) (d : Bytes) (q : Hp) :
    ((s.raise c pl d).port q).bus = (s.port q).bus := by
  simp only [State.raise, List.foldl, State.deliver_port_bus]; rfl
@[simp] theorem State.raise_eng (c : BitVec 16) (pl : Place) (d : Bytes) (e : Eng) :
    (s.raise c pl d).eng e = s.eng e := by simp [State.eng]
@[simp] theorem State.raise_engineCount (c : BitVec 16) (pl : Place) (d : Bytes) :
    (s.raise c pl d).engineCount = s.engineCount := by simp [State.engineCount]

/-! ## Counting -/

@[simp] theorem State.count_pending (k : CounterKind) (i n : Nat) : (s.count k i n).pending = s.pending := by
  unfold State.count; split <;> rfl
@[simp] theorem State.count_fresh (k : CounterKind) (i n : Nat) : (s.count k i n).fresh = s.fresh := by
  unfold State.count; split <;> rfl
@[simp] theorem State.count_ident (k : CounterKind) (i n : Nat) : (s.count k i n).ident = s.ident := by
  unfold State.count; split <;> rfl
@[simp] theorem State.count_moduleTime (k : CounterKind) (i n : Nat) : (s.count k i n).moduleTime = s.moduleTime := by
  unfold State.count; split <;> rfl
@[simp] theorem State.count_power (k : CounterKind) (i n : Nat) : (s.count k i n).power = s.power := by
  unfold State.count; split <;> rfl
@[simp] theorem State.count_ports (k : CounterKind) (i n : Nat) : (s.count k i n).ports = s.ports := by
  unfold State.count; split <;> rfl
@[simp] theorem State.count_turn (k : CounterKind) (i n : Nat) : (s.count k i n).turn = s.turn := by
  unfold State.count; split <;> rfl
@[simp] theorem State.count_engines (k : CounterKind) (i n : Nat) : (s.count k i n).engines = s.engines := by
  unfold State.count; split <;> rfl
@[simp] theorem State.count_commits (k : CounterKind) (i n : Nat) : (s.count k i n).commits = s.commits := by
  unfold State.count; split <;> rfl
@[simp] theorem State.count_spent (k : CounterKind) (i n : Nat) : (s.count k i n).spent = s.spent := by
  unfold State.count; split <;> rfl
@[simp] theorem State.count_seenTokens (k : CounterKind) (i n : Nat) : (s.count k i n).seenTokens = s.seenTokens := by
  unfold State.count; split <;> rfl
@[simp] theorem State.count_records (k : CounterKind) (i n : Nat) : (s.count k i n).records = s.records := by
  unfold State.count; split <;> rfl
@[simp] theorem State.count_lanes (k : CounterKind) (i n : Nat) : (s.count k i n).lanes = s.lanes := by
  unfold State.count; split <;> rfl
@[simp] theorem State.count_cports (k : CounterKind) (i n : Nat) : (s.count k i n).cports = s.cports := by
  unfold State.count; split <;> rfl
@[simp] theorem State.count_synce (k : CounterKind) (i n : Nat) : (s.count k i n).synce = s.synce := by
  unfold State.count; split <;> rfl
@[simp] theorem State.count_flows (k : CounterKind) (i n : Nat) : (s.count k i n).flows = s.flows := by
  unfold State.count; split <;> rfl
@[simp] theorem State.count_keys (k : CounterKind) (i n : Nat) : (s.count k i n).keys = s.keys := by
  unfold State.count; split <;> rfl
@[simp] theorem State.count_mem (k : CounterKind) (i n : Nat) : (s.count k i n).mem = s.mem := by
  unfold State.count; split <;> rfl
@[simp] theorem State.count_immediate (k : CounterKind) (i n : Nat) : (s.count k i n).immediate = s.immediate := by
  unfold State.count; split <;> rfl
@[simp] theorem State.count_hw (k : CounterKind) (i n : Nat) : (s.count k i n).hw = s.hw := by
  unfold State.count; split <;> rfl
@[simp] theorem State.count_time (k : CounterKind) (i n : Nat) : (s.count k i n).time = s.time := by
  unfold State.count; split <;> rfl
@[simp] theorem State.count_gauge (k : CounterKind) (i n : Nat) : (s.count k i n).gauge = s.gauge := by
  unfold State.count; split <;> rfl
@[simp] theorem State.count_weir (k : CounterKind) (i n : Nat) : (s.count k i n).weir = s.weir := by
  unfold State.count; split <;> rfl
@[simp] theorem State.count_sup (k : CounterKind) (i n : Nat) : (s.count k i n).sup = s.sup := by
  unfold State.count; split <;> rfl
@[simp] theorem State.count_nv (k : CounterKind) (i n : Nat) : (s.count k i n).nv = s.nv := by
  unfold State.count; split <;> rfl
@[simp] theorem State.count_jtag (k : CounterKind) (i n : Nat) : (s.count k i n).jtag = s.jtag := by
  unfold State.count; split <;> rfl
@[simp] theorem State.count_eng (k : CounterKind) (i n : Nat) (e : Eng) : (s.count k i n).eng e = s.eng e := by
  simp [State.eng]
@[simp] theorem State.count_port (k : CounterKind) (i n : Nat) (p : Hp) : (s.count k i n).port p = s.port p := by
  simp [State.port]



/-! ## Requests of the express lane (R320, R324) -/

@[simp] theorem State.expressWork_pending (d : Dir) (rs : List Job) (b : Nat) : (s.expressWork d rs b).pending = s.pending := by
  unfold State.expressWork; cases d <;> simp
@[simp] theorem State.expressWork_fresh (d : Dir) (rs : List Job) (b : Nat) : (s.expressWork d rs b).fresh = s.fresh := by
  unfold State.expressWork; cases d <;> simp
@[simp] theorem State.expressWork_ident (d : Dir) (rs : List Job) (b : Nat) : (s.expressWork d rs b).ident = s.ident := by
  unfold State.expressWork; cases d <;> simp
@[simp] theorem State.expressWork_moduleTime (d : Dir) (rs : List Job) (b : Nat) : (s.expressWork d rs b).moduleTime = s.moduleTime := by
  unfold State.expressWork; cases d <;> simp
@[simp] theorem State.expressWork_power (d : Dir) (rs : List Job) (b : Nat) : (s.expressWork d rs b).power = s.power := by
  unfold State.expressWork; cases d <;> simp
@[simp] theorem State.expressWork_ports (d : Dir) (rs : List Job) (b : Nat) : (s.expressWork d rs b).ports = s.ports := by
  unfold State.expressWork; cases d <;> simp
@[simp] theorem State.expressWork_turn (d : Dir) (rs : List Job) (b : Nat) : (s.expressWork d rs b).turn = s.turn := by
  unfold State.expressWork; cases d <;> simp
@[simp] theorem State.expressWork_engines (d : Dir) (rs : List Job) (b : Nat) : (s.expressWork d rs b).engines = s.engines := by
  unfold State.expressWork; cases d <;> simp
@[simp] theorem State.expressWork_commits (d : Dir) (rs : List Job) (b : Nat) : (s.expressWork d rs b).commits = s.commits := by
  unfold State.expressWork; cases d <;> simp
@[simp] theorem State.expressWork_spent (d : Dir) (rs : List Job) (b : Nat) : (s.expressWork d rs b).spent = s.spent := by
  unfold State.expressWork; cases d <;> simp
@[simp] theorem State.expressWork_seenTokens (d : Dir) (rs : List Job) (b : Nat) : (s.expressWork d rs b).seenTokens = s.seenTokens := by
  unfold State.expressWork; cases d <;> simp
@[simp] theorem State.expressWork_records (d : Dir) (rs : List Job) (b : Nat) : (s.expressWork d rs b).records = s.records := by
  unfold State.expressWork; cases d <;> simp
@[simp] theorem State.expressWork_lanes (d : Dir) (rs : List Job) (b : Nat) : (s.expressWork d rs b).lanes = s.lanes := by
  unfold State.expressWork; cases d <;> simp
@[simp] theorem State.expressWork_cports (d : Dir) (rs : List Job) (b : Nat) : (s.expressWork d rs b).cports = s.cports := by
  unfold State.expressWork; cases d <;> simp
@[simp] theorem State.expressWork_synce (d : Dir) (rs : List Job) (b : Nat) : (s.expressWork d rs b).synce = s.synce := by
  unfold State.expressWork; cases d <;> simp
@[simp] theorem State.expressWork_keys (d : Dir) (rs : List Job) (b : Nat) : (s.expressWork d rs b).keys = s.keys := by
  unfold State.expressWork; cases d <;> simp
@[simp] theorem State.expressWork_mem (d : Dir) (rs : List Job) (b : Nat) : (s.expressWork d rs b).mem = s.mem := by
  unfold State.expressWork; cases d <;> simp
@[simp] theorem State.expressWork_immediate (d : Dir) (rs : List Job) (b : Nat) : (s.expressWork d rs b).immediate = s.immediate := by
  unfold State.expressWork; cases d <;> simp
@[simp] theorem State.expressWork_hw (d : Dir) (rs : List Job) (b : Nat) : (s.expressWork d rs b).hw = s.hw := by
  unfold State.expressWork; cases d <;> simp
@[simp] theorem State.expressWork_time (d : Dir) (rs : List Job) (b : Nat) : (s.expressWork d rs b).time = s.time := by
  unfold State.expressWork; cases d <;> simp
@[simp] theorem State.expressWork_gauge (d : Dir) (rs : List Job) (b : Nat) : (s.expressWork d rs b).gauge = s.gauge := by
  unfold State.expressWork; cases d <;> simp
@[simp] theorem State.expressWork_weir (d : Dir) (rs : List Job) (b : Nat) : (s.expressWork d rs b).weir = s.weir := by
  unfold State.expressWork; cases d <;> simp
@[simp] theorem State.expressWork_sup (d : Dir) (rs : List Job) (b : Nat) : (s.expressWork d rs b).sup = s.sup := by
  unfold State.expressWork; cases d <;> simp
@[simp] theorem State.expressWork_nv (d : Dir) (rs : List Job) (b : Nat) : (s.expressWork d rs b).nv = s.nv := by
  unfold State.expressWork; cases d <;> simp
@[simp] theorem State.expressWork_jtag (d : Dir) (rs : List Job) (b : Nat) : (s.expressWork d rs b).jtag = s.jtag := by
  unfold State.expressWork; cases d <;> simp
@[simp] theorem State.expressWork_flows_tags (d : Dir) (rs : List Job) (b : Nat) : (s.expressWork d rs b).flows.tags = s.flows.tags := by
  unfold State.expressWork; cases d <;> simp
@[simp] theorem State.expressWork_flows_grace (d : Dir) (rs : List Job) (b : Nat) : (s.expressWork d rs b).flows.grace = s.flows.grace := by
  unfold State.expressWork; cases d <;> simp
@[simp] theorem State.expressWork_flows_staged (d : Dir) (rs : List Job) (b : Nat) : (s.expressWork d rs b).flows.staged = s.flows.staged := by
  unfold State.expressWork; cases d <;> simp
@[simp] theorem State.expressWork_flows_fill (d : Dir) (rs : List Job) (b : Nat) : (s.expressWork d rs b).flows.fill = s.flows.fill := by
  unfold State.expressWork; cases d <;> simp
@[simp] theorem State.expressWork_flows_sealing (d : Dir) (rs : List Job) (b : Nat) : (s.expressWork d rs b).flows.sealing = s.flows.sealing := by
  unfold State.expressWork; cases d <;> simp
@[simp] theorem State.expressWork_flows_pnRaised (d : Dir) (rs : List Job) (b : Nat) : (s.expressWork d rs b).flows.pnRaised = s.flows.pnRaised := by
  unfold State.expressWork; cases d <;> simp
@[simp] theorem State.expressWork_flows_suspended (d : Dir) (rs : List Job) (b : Nat) : (s.expressWork d rs b).flows.suspended = s.flows.suspended := by
  unfold State.expressWork; cases d <;> simp
@[simp] theorem State.expressWork_eng (d : Dir) (rs : List Job) (b : Nat) (e : Eng) : (s.expressWork d rs b).eng e = s.eng e := by simp [State.eng]
@[simp] theorem State.expressWork_port (d : Dir) (rs : List Job) (b : Nat) (p : Hp) : (s.expressWork d rs b).port p = s.port p := by simp [State.port]
@[simp] theorem State.cmacWork_pending (key : Bytes) (n : Nat) : (s.cmacWork key n).pending = s.pending := by
  simp [State.cmacWork]
@[simp] theorem State.cmacWork_fresh (key : Bytes) (n : Nat) : (s.cmacWork key n).fresh = s.fresh := by
  simp [State.cmacWork]
@[simp] theorem State.cmacWork_ident (key : Bytes) (n : Nat) : (s.cmacWork key n).ident = s.ident := by
  simp [State.cmacWork]
@[simp] theorem State.cmacWork_moduleTime (key : Bytes) (n : Nat) : (s.cmacWork key n).moduleTime = s.moduleTime := by
  simp [State.cmacWork]
@[simp] theorem State.cmacWork_power (key : Bytes) (n : Nat) : (s.cmacWork key n).power = s.power := by
  simp [State.cmacWork]
@[simp] theorem State.cmacWork_ports (key : Bytes) (n : Nat) : (s.cmacWork key n).ports = s.ports := by
  simp [State.cmacWork]
@[simp] theorem State.cmacWork_turn (key : Bytes) (n : Nat) : (s.cmacWork key n).turn = s.turn := by
  simp [State.cmacWork]
@[simp] theorem State.cmacWork_engines (key : Bytes) (n : Nat) : (s.cmacWork key n).engines = s.engines := by
  simp [State.cmacWork]
@[simp] theorem State.cmacWork_commits (key : Bytes) (n : Nat) : (s.cmacWork key n).commits = s.commits := by
  simp [State.cmacWork]
@[simp] theorem State.cmacWork_spent (key : Bytes) (n : Nat) : (s.cmacWork key n).spent = s.spent := by
  simp [State.cmacWork]
@[simp] theorem State.cmacWork_seenTokens (key : Bytes) (n : Nat) : (s.cmacWork key n).seenTokens = s.seenTokens := by
  simp [State.cmacWork]
@[simp] theorem State.cmacWork_records (key : Bytes) (n : Nat) : (s.cmacWork key n).records = s.records := by
  simp [State.cmacWork]
@[simp] theorem State.cmacWork_lanes (key : Bytes) (n : Nat) : (s.cmacWork key n).lanes = s.lanes := by
  simp [State.cmacWork]
@[simp] theorem State.cmacWork_cports (key : Bytes) (n : Nat) : (s.cmacWork key n).cports = s.cports := by
  simp [State.cmacWork]
@[simp] theorem State.cmacWork_synce (key : Bytes) (n : Nat) : (s.cmacWork key n).synce = s.synce := by
  simp [State.cmacWork]
@[simp] theorem State.cmacWork_keys (key : Bytes) (n : Nat) : (s.cmacWork key n).keys = s.keys := by
  simp [State.cmacWork]
@[simp] theorem State.cmacWork_mem (key : Bytes) (n : Nat) : (s.cmacWork key n).mem = s.mem := by
  simp [State.cmacWork]
@[simp] theorem State.cmacWork_immediate (key : Bytes) (n : Nat) : (s.cmacWork key n).immediate = s.immediate := by
  simp [State.cmacWork]
@[simp] theorem State.cmacWork_hw (key : Bytes) (n : Nat) : (s.cmacWork key n).hw = s.hw := by
  simp [State.cmacWork]
@[simp] theorem State.cmacWork_time (key : Bytes) (n : Nat) : (s.cmacWork key n).time = s.time := by
  simp [State.cmacWork]
@[simp] theorem State.cmacWork_gauge (key : Bytes) (n : Nat) : (s.cmacWork key n).gauge = s.gauge := by
  simp [State.cmacWork]
@[simp] theorem State.cmacWork_weir (key : Bytes) (n : Nat) : (s.cmacWork key n).weir = s.weir := by
  simp [State.cmacWork]
@[simp] theorem State.cmacWork_sup (key : Bytes) (n : Nat) : (s.cmacWork key n).sup = s.sup := by
  simp [State.cmacWork]
@[simp] theorem State.cmacWork_nv (key : Bytes) (n : Nat) : (s.cmacWork key n).nv = s.nv := by
  simp [State.cmacWork]
@[simp] theorem State.cmacWork_jtag (key : Bytes) (n : Nat) : (s.cmacWork key n).jtag = s.jtag := by
  simp [State.cmacWork]
@[simp] theorem State.cmacWork_flows_tags (key : Bytes) (n : Nat) : (s.cmacWork key n).flows.tags = s.flows.tags := by
  simp [State.cmacWork]
@[simp] theorem State.cmacWork_flows_grace (key : Bytes) (n : Nat) : (s.cmacWork key n).flows.grace = s.flows.grace := by
  simp [State.cmacWork]
@[simp] theorem State.cmacWork_flows_staged (key : Bytes) (n : Nat) : (s.cmacWork key n).flows.staged = s.flows.staged := by
  simp [State.cmacWork]
@[simp] theorem State.cmacWork_flows_fill (key : Bytes) (n : Nat) : (s.cmacWork key n).flows.fill = s.flows.fill := by
  simp [State.cmacWork]
@[simp] theorem State.cmacWork_flows_sealing (key : Bytes) (n : Nat) : (s.cmacWork key n).flows.sealing = s.flows.sealing := by
  simp [State.cmacWork]
@[simp] theorem State.cmacWork_flows_pnRaised (key : Bytes) (n : Nat) : (s.cmacWork key n).flows.pnRaised = s.flows.pnRaised := by
  simp [State.cmacWork]
@[simp] theorem State.cmacWork_flows_suspended (key : Bytes) (n : Nat) : (s.cmacWork key n).flows.suspended = s.flows.suspended := by
  simp [State.cmacWork]
@[simp] theorem State.cmacWork_eng (key : Bytes) (n : Nat) (e : Eng) : (s.cmacWork key n).eng e = s.eng e := by simp [State.eng]
@[simp] theorem State.cmacWork_port (key : Bytes) (n : Nat) (p : Hp) : (s.cmacWork key n).port p = s.port p := by simp [State.port]
@[simp] theorem State.authWork_pending (a : Option AuthContext) (n : Nat) : (s.authWork a n).pending = s.pending := by
  unfold State.authWork; split <;> simp
@[simp] theorem State.authWork_fresh (a : Option AuthContext) (n : Nat) : (s.authWork a n).fresh = s.fresh := by
  unfold State.authWork; split <;> simp
@[simp] theorem State.authWork_ident (a : Option AuthContext) (n : Nat) : (s.authWork a n).ident = s.ident := by
  unfold State.authWork; split <;> simp
@[simp] theorem State.authWork_moduleTime (a : Option AuthContext) (n : Nat) : (s.authWork a n).moduleTime = s.moduleTime := by
  unfold State.authWork; split <;> simp
@[simp] theorem State.authWork_power (a : Option AuthContext) (n : Nat) : (s.authWork a n).power = s.power := by
  unfold State.authWork; split <;> simp
@[simp] theorem State.authWork_ports (a : Option AuthContext) (n : Nat) : (s.authWork a n).ports = s.ports := by
  unfold State.authWork; split <;> simp
@[simp] theorem State.authWork_turn (a : Option AuthContext) (n : Nat) : (s.authWork a n).turn = s.turn := by
  unfold State.authWork; split <;> simp
@[simp] theorem State.authWork_engines (a : Option AuthContext) (n : Nat) : (s.authWork a n).engines = s.engines := by
  unfold State.authWork; split <;> simp
@[simp] theorem State.authWork_commits (a : Option AuthContext) (n : Nat) : (s.authWork a n).commits = s.commits := by
  unfold State.authWork; split <;> simp
@[simp] theorem State.authWork_spent (a : Option AuthContext) (n : Nat) : (s.authWork a n).spent = s.spent := by
  unfold State.authWork; split <;> simp
@[simp] theorem State.authWork_seenTokens (a : Option AuthContext) (n : Nat) : (s.authWork a n).seenTokens = s.seenTokens := by
  unfold State.authWork; split <;> simp
@[simp] theorem State.authWork_records (a : Option AuthContext) (n : Nat) : (s.authWork a n).records = s.records := by
  unfold State.authWork; split <;> simp
@[simp] theorem State.authWork_lanes (a : Option AuthContext) (n : Nat) : (s.authWork a n).lanes = s.lanes := by
  unfold State.authWork; split <;> simp
@[simp] theorem State.authWork_cports (a : Option AuthContext) (n : Nat) : (s.authWork a n).cports = s.cports := by
  unfold State.authWork; split <;> simp
@[simp] theorem State.authWork_synce (a : Option AuthContext) (n : Nat) : (s.authWork a n).synce = s.synce := by
  unfold State.authWork; split <;> simp
@[simp] theorem State.authWork_keys (a : Option AuthContext) (n : Nat) : (s.authWork a n).keys = s.keys := by
  unfold State.authWork; split <;> simp
@[simp] theorem State.authWork_mem (a : Option AuthContext) (n : Nat) : (s.authWork a n).mem = s.mem := by
  unfold State.authWork; split <;> simp
@[simp] theorem State.authWork_immediate (a : Option AuthContext) (n : Nat) : (s.authWork a n).immediate = s.immediate := by
  unfold State.authWork; split <;> simp
@[simp] theorem State.authWork_hw (a : Option AuthContext) (n : Nat) : (s.authWork a n).hw = s.hw := by
  unfold State.authWork; split <;> simp
@[simp] theorem State.authWork_time (a : Option AuthContext) (n : Nat) : (s.authWork a n).time = s.time := by
  unfold State.authWork; split <;> simp
@[simp] theorem State.authWork_gauge (a : Option AuthContext) (n : Nat) : (s.authWork a n).gauge = s.gauge := by
  unfold State.authWork; split <;> simp
@[simp] theorem State.authWork_weir (a : Option AuthContext) (n : Nat) : (s.authWork a n).weir = s.weir := by
  unfold State.authWork; split <;> simp
@[simp] theorem State.authWork_sup (a : Option AuthContext) (n : Nat) : (s.authWork a n).sup = s.sup := by
  unfold State.authWork; split <;> simp
@[simp] theorem State.authWork_nv (a : Option AuthContext) (n : Nat) : (s.authWork a n).nv = s.nv := by
  unfold State.authWork; split <;> simp
@[simp] theorem State.authWork_jtag (a : Option AuthContext) (n : Nat) : (s.authWork a n).jtag = s.jtag := by
  unfold State.authWork; split <;> simp
@[simp] theorem State.authWork_flows_tags (a : Option AuthContext) (n : Nat) : (s.authWork a n).flows.tags = s.flows.tags := by
  unfold State.authWork; split <;> simp
@[simp] theorem State.authWork_flows_grace (a : Option AuthContext) (n : Nat) : (s.authWork a n).flows.grace = s.flows.grace := by
  unfold State.authWork; split <;> simp
@[simp] theorem State.authWork_flows_staged (a : Option AuthContext) (n : Nat) : (s.authWork a n).flows.staged = s.flows.staged := by
  unfold State.authWork; split <;> simp
@[simp] theorem State.authWork_flows_fill (a : Option AuthContext) (n : Nat) : (s.authWork a n).flows.fill = s.flows.fill := by
  unfold State.authWork; split <;> simp
@[simp] theorem State.authWork_flows_sealing (a : Option AuthContext) (n : Nat) : (s.authWork a n).flows.sealing = s.flows.sealing := by
  unfold State.authWork; split <;> simp
@[simp] theorem State.authWork_flows_pnRaised (a : Option AuthContext) (n : Nat) : (s.authWork a n).flows.pnRaised = s.flows.pnRaised := by
  unfold State.authWork; split <;> simp
@[simp] theorem State.authWork_flows_suspended (a : Option AuthContext) (n : Nat) : (s.authWork a n).flows.suspended = s.flows.suspended := by
  unfold State.authWork; split <;> simp
@[simp] theorem State.authWork_eng (a : Option AuthContext) (n : Nat) (e : Eng) : (s.authWork a n).eng e = s.eng e := by simp [State.eng]
@[simp] theorem State.authWork_port (a : Option AuthContext) (n : Nat) (p : Hp) : (s.authWork a n).port p = s.port p := by simp [State.port]

/-! ## Answering a request (R50, R51, R61) -/

@[simp] theorem State.journalled_pending : s.journalled.pending = s.pending := by unfold State.journalled; split <;> rfl
@[simp] theorem State.journalled_fresh : s.journalled.fresh = s.fresh := by unfold State.journalled; split <;> rfl
@[simp] theorem State.journalled_ident : s.journalled.ident = s.ident := by unfold State.journalled; split <;> rfl
@[simp] theorem State.journalled_moduleTime : s.journalled.moduleTime = s.moduleTime := by unfold State.journalled; split <;> rfl
@[simp] theorem State.journalled_power : s.journalled.power = s.power := by unfold State.journalled; split <;> rfl
@[simp] theorem State.journalled_ports : s.journalled.ports = s.ports := by unfold State.journalled; split <;> rfl
@[simp] theorem State.journalled_turn : s.journalled.turn = s.turn := by unfold State.journalled; split <;> rfl
@[simp] theorem State.journalled_engines : s.journalled.engines = s.engines := by unfold State.journalled; split <;> rfl
@[simp] theorem State.journalled_commits : s.journalled.commits = s.commits := by unfold State.journalled; split <;> rfl
@[simp] theorem State.journalled_spent : s.journalled.spent = s.spent := by unfold State.journalled; split <;> rfl
@[simp] theorem State.journalled_seenTokens : s.journalled.seenTokens = s.seenTokens := by unfold State.journalled; split <;> rfl
@[simp] theorem State.journalled_records : s.journalled.records = s.records := by unfold State.journalled; split <;> rfl
@[simp] theorem State.journalled_lanes : s.journalled.lanes = s.lanes := by unfold State.journalled; split <;> rfl
@[simp] theorem State.journalled_cports : s.journalled.cports = s.cports := by unfold State.journalled; split <;> rfl
@[simp] theorem State.journalled_synce : s.journalled.synce = s.synce := by unfold State.journalled; split <;> rfl
@[simp] theorem State.journalled_flows : s.journalled.flows = s.flows := by unfold State.journalled; split <;> rfl
@[simp] theorem State.journalled_keys : s.journalled.keys = s.keys := by unfold State.journalled; split <;> rfl
@[simp] theorem State.journalled_mem : s.journalled.mem = s.mem := by unfold State.journalled; split <;> rfl
@[simp] theorem State.journalled_immediate : s.journalled.immediate = s.immediate := by unfold State.journalled; split <;> rfl
@[simp] theorem State.journalled_hw : s.journalled.hw = s.hw := by unfold State.journalled; split <;> rfl
@[simp] theorem State.journalled_time : s.journalled.time = s.time := by unfold State.journalled; split <;> rfl
@[simp] theorem State.journalled_gauge : s.journalled.gauge = s.gauge := by unfold State.journalled; split <;> rfl
@[simp] theorem State.journalled_weir : s.journalled.weir = s.weir := by unfold State.journalled; split <;> rfl
@[simp] theorem State.journalled_collector : s.journalled.collector = s.collector := by unfold State.journalled; split <;> rfl
@[simp] theorem State.journalled_nv : s.journalled.nv = s.nv := by unfold State.journalled; split <;> rfl
@[simp] theorem State.journalled_jtag : s.journalled.jtag = s.jtag := by unfold State.journalled; split <;> rfl
@[simp] theorem State.journalled_port (p : Hp) : s.journalled.port p = s.port p := by simp [State.port]
@[simp] theorem State.conclude_pending (op : BitVec 16) (r : Request) (st : Status) (d : Bytes) :
    (s.conclude op r st d).pending = s.pending := by simp [State.conclude]
@[simp] theorem State.conclude_fresh (op : BitVec 16) (r : Request) (st : Status) (d : Bytes) :
    (s.conclude op r st d).fresh = s.fresh := by simp [State.conclude]
@[simp] theorem State.conclude_ident (op : BitVec 16) (r : Request) (st : Status) (d : Bytes) :
    (s.conclude op r st d).ident = s.ident := by simp [State.conclude]
@[simp] theorem State.conclude_moduleTime (op : BitVec 16) (r : Request) (st : Status) (d : Bytes) :
    (s.conclude op r st d).moduleTime = s.moduleTime := by simp [State.conclude]
@[simp] theorem State.conclude_power (op : BitVec 16) (r : Request) (st : Status) (d : Bytes) :
    (s.conclude op r st d).power = s.power := by simp [State.conclude]
@[simp] theorem State.conclude_turn (op : BitVec 16) (r : Request) (st : Status) (d : Bytes) :
    (s.conclude op r st d).turn = s.turn := by simp [State.conclude]
@[simp] theorem State.conclude_engines (op : BitVec 16) (r : Request) (st : Status) (d : Bytes) :
    (s.conclude op r st d).engines = s.engines := by simp [State.conclude]
@[simp] theorem State.conclude_commits (op : BitVec 16) (r : Request) (st : Status) (d : Bytes) :
    (s.conclude op r st d).commits = s.commits := by simp [State.conclude]
@[simp] theorem State.conclude_spent (op : BitVec 16) (r : Request) (st : Status) (d : Bytes) :
    (s.conclude op r st d).spent = s.spent := by simp [State.conclude]
@[simp] theorem State.conclude_seenTokens (op : BitVec 16) (r : Request) (st : Status) (d : Bytes) :
    (s.conclude op r st d).seenTokens = s.seenTokens := by simp [State.conclude]
@[simp] theorem State.conclude_records (op : BitVec 16) (r : Request) (st : Status) (d : Bytes) :
    (s.conclude op r st d).records = s.records := by simp [State.conclude]
@[simp] theorem State.conclude_lanes (op : BitVec 16) (r : Request) (st : Status) (d : Bytes) :
    (s.conclude op r st d).lanes = s.lanes := by simp [State.conclude]
@[simp] theorem State.conclude_cports (op : BitVec 16) (r : Request) (st : Status) (d : Bytes) :
    (s.conclude op r st d).cports = s.cports := by simp [State.conclude]
@[simp] theorem State.conclude_synce (op : BitVec 16) (r : Request) (st : Status) (d : Bytes) :
    (s.conclude op r st d).synce = s.synce := by simp [State.conclude]
@[simp] theorem State.conclude_keys (op : BitVec 16) (r : Request) (st : Status) (d : Bytes) :
    (s.conclude op r st d).keys = s.keys := by simp [State.conclude]
@[simp] theorem State.conclude_mem (op : BitVec 16) (r : Request) (st : Status) (d : Bytes) :
    (s.conclude op r st d).mem = s.mem := by simp [State.conclude]
@[simp] theorem State.conclude_immediate (op : BitVec 16) (r : Request) (st : Status) (d : Bytes) :
    (s.conclude op r st d).immediate = s.immediate := by simp [State.conclude]
@[simp] theorem State.conclude_hw (op : BitVec 16) (r : Request) (st : Status) (d : Bytes) :
    (s.conclude op r st d).hw = s.hw := by simp [State.conclude]
@[simp] theorem State.conclude_time (op : BitVec 16) (r : Request) (st : Status) (d : Bytes) :
    (s.conclude op r st d).time = s.time := by simp [State.conclude]
@[simp] theorem State.conclude_gauge (op : BitVec 16) (r : Request) (st : Status) (d : Bytes) :
    (s.conclude op r st d).gauge = s.gauge := by simp [State.conclude]
@[simp] theorem State.conclude_weir (op : BitVec 16) (r : Request) (st : Status) (d : Bytes) :
    (s.conclude op r st d).weir = s.weir := by simp [State.conclude]
@[simp] theorem State.conclude_nv (op : BitVec 16) (r : Request) (st : Status) (d : Bytes) :
    (s.conclude op r st d).nv = s.nv := by simp [State.conclude]
@[simp] theorem State.conclude_jtag (op : BitVec 16) (r : Request) (st : Status) (d : Bytes) :
    (s.conclude op r st d).jtag = s.jtag := by simp [State.conclude]
@[simp] theorem State.conclude_flows_tags (op : BitVec 16) (r : Request) (st : Status) (d : Bytes) :
    (s.conclude op r st d).flows.tags = s.flows.tags := by simp [State.conclude]
@[simp] theorem State.conclude_flows_grace (op : BitVec 16) (r : Request) (st : Status) (d : Bytes) :
    (s.conclude op r st d).flows.grace = s.flows.grace := by simp [State.conclude]
@[simp] theorem State.conclude_flows_staged (op : BitVec 16) (r : Request) (st : Status) (d : Bytes) :
    (s.conclude op r st d).flows.staged = s.flows.staged := by simp [State.conclude]
@[simp] theorem State.conclude_flows_fill (op : BitVec 16) (r : Request) (st : Status) (d : Bytes) :
    (s.conclude op r st d).flows.fill = s.flows.fill := by simp [State.conclude]
@[simp] theorem State.conclude_flows_sealing (op : BitVec 16) (r : Request) (st : Status) (d : Bytes) :
    (s.conclude op r st d).flows.sealing = s.flows.sealing := by simp [State.conclude]
@[simp] theorem State.conclude_flows_pnRaised (op : BitVec 16) (r : Request) (st : Status) (d : Bytes) :
    (s.conclude op r st d).flows.pnRaised = s.flows.pnRaised := by simp [State.conclude]
@[simp] theorem State.conclude_flows_suspended (op : BitVec 16) (r : Request) (st : Status) (d : Bytes) :
    (s.conclude op r st d).flows.suspended = s.flows.suspended := by simp [State.conclude]
@[simp] theorem State.conclude_port_dynAddr (op : BitVec 16) (r : Request) (st : Status) (d : Bytes) (p : Hp) :
    ((s.conclude op r st d).port p).dynAddr = (s.port p).dynAddr := by
  unfold State.conclude; rw [State.port_updPort]; split <;> simp
@[simp] theorem State.conclude_port_ibiOn (op : BitVec 16) (r : Request) (st : Status) (d : Bytes) (p : Hp) :
    ((s.conclude op r st d).port p).ibiOn = (s.port p).ibiOn := by
  unfold State.conclude; rw [State.port_updPort]; split <;> simp
@[simp] theorem State.conclude_port_hdr (op : BitVec 16) (r : Request) (st : Status) (d : Bytes) (p : Hp) :
    ((s.conclude op r st d).port p).hdr = (s.port p).hdr := by
  unfold State.conclude; rw [State.port_updPort]; split <;> simp
@[simp] theorem State.conclude_port_authReq (op : BitVec 16) (r : Request) (st : Status) (d : Bytes) (p : Hp) :
    ((s.conclude op r st d).port p).authReq = (s.port p).authReq := by
  unfold State.conclude; rw [State.port_updPort]; split <;> simp
@[simp] theorem State.conclude_port_holdoff (op : BitVec 16) (r : Request) (st : Status) (d : Bytes) (p : Hp) :
    ((s.conclude op r st d).port p).holdoff = (s.port p).holdoff := by
  unfold State.conclude; rw [State.port_updPort]; split <;> simp
@[simp] theorem State.conclude_port_mask (op : BitVec 16) (r : Request) (st : Status) (d : Bytes) (p : Hp) :
    ((s.conclude op r st d).port p).mask = (s.port p).mask := by
  unfold State.conclude; rw [State.port_updPort]; split <;> simp
@[simp] theorem State.conclude_port_nextSeq (op : BitVec 16) (r : Request) (st : Status) (d : Bytes) (p : Hp) :
    ((s.conclude op r st d).port p).nextSeq = (s.port p).nextSeq := by
  unfold State.conclude; rw [State.port_updPort]; split <;> simp
@[simp] theorem State.conclude_port_wrap (op : BitVec 16) (r : Request) (st : Status) (d : Bytes) (p : Hp) :
    ((s.conclude op r st d).port p).wrap = (s.port p).wrap := by
  unfold State.conclude; rw [State.port_updPort]; split <;> simp
@[simp] theorem State.conclude_port_sessionStart (op : BitVec 16) (r : Request) (st : Status) (d : Bytes) (p : Hp) :
    ((s.conclude op r st d).port p).sessionStart = (s.port p).sessionStart := by
  unfold State.conclude; rw [State.port_updPort]; split <;> simp
@[simp] theorem State.conclude_port_queue (op : BitVec 16) (r : Request) (st : Status) (d : Bytes) (p : Hp) :
    ((s.conclude op r st d).port p).queue = (s.port p).queue := by
  unfold State.conclude; rw [State.port_updPort]; split <;> simp
@[simp] theorem State.conclude_port_retained (op : BitVec 16) (r : Request) (st : Status) (d : Bytes) (p : Hp) :
    ((s.conclude op r st d).port p).retained = (s.port p).retained := by
  unfold State.conclude; rw [State.port_updPort]; split <;> simp
@[simp] theorem State.conclude_port_shortWrites (op : BitVec 16) (r : Request) (st : Status) (d : Bytes) (p : Hp) :
    ((s.conclude op r st d).port p).shortWrites = (s.port p).shortWrites := by
  unfold State.conclude; rw [State.port_updPort]; split <;> simp
@[simp] theorem State.conclude_port_authFails (op : BitVec 16) (r : Request) (st : Status) (d : Bytes) (p : Hp) :
    ((s.conclude op r st d).port p).authFails = (s.port p).authFails := by
  unfold State.conclude; rw [State.port_updPort]; split <;> simp
@[simp] theorem State.conclude_port_unwrapFails (op : BitVec 16) (r : Request) (st : Status) (d : Bytes) (p : Hp) :
    ((s.conclude op r st d).port p).unwrapFails = (s.port p).unwrapFails := by
  unfold State.conclude; rw [State.port_updPort]; split <;> simp
@[simp] theorem State.conclude_port_events (op : BitVec 16) (r : Request) (st : Status) (d : Bytes) (p : Hp) :
    ((s.conclude op r st d).port p).events = (s.port p).events := by
  unfold State.conclude; rw [State.port_updPort]; split <;> simp
@[simp] theorem State.conclude_port_lost (op : BitVec 16) (r : Request) (st : Status) (d : Bytes) (p : Hp) :
    ((s.conclude op r st d).port p).lost = (s.port p).lost := by
  unfold State.conclude; rw [State.port_updPort]; split <;> simp
@[simp] theorem State.conclude_port_firstLost (op : BitVec 16) (r : Request) (st : Status) (d : Bytes) (p : Hp) :
    ((s.conclude op r st d).port p).firstLost = (s.port p).firstLost := by
  unfold State.conclude; rw [State.port_updPort]; split <;> simp
@[simp] theorem State.conclude_port_tenancy (op : BitVec 16) (r : Request) (st : Status) (d : Bytes) (p : Hp) :
    ((s.conclude op r st d).port p).tenancy = (s.port p).tenancy := by
  unfold State.conclude; rw [State.port_updPort]; split <;> simp
@[simp] theorem State.conclude_port_kek (op : BitVec 16) (r : Request) (st : Status) (d : Bytes) (p : Hp) :
    ((s.conclude op r st d).port p).kek = (s.port p).kek := by
  unfold State.conclude; rw [State.port_updPort]; split <;> simp
@[simp] theorem State.conclude_port_cak (op : BitVec 16) (r : Request) (st : Status) (d : Bytes) (p : Hp) :
    ((s.conclude op r st d).port p).cak = (s.port p).cak := by
  unfold State.conclude; rw [State.port_updPort]; split <;> simp
@[simp] theorem State.conclude_port_bus (op : BitVec 16) (r : Request) (st : Status) (d : Bytes) (p : Hp) :
    ((s.conclude op r st d).port p).bus = (s.port p).bus := by
  unfold State.conclude; rw [State.port_updPort]; split <;> simp
@[simp] theorem State.conclude_eng (op : BitVec 16) (r : Request) (st : Status) (d : Bytes) (e : Eng) :
    (s.conclude op r st d).eng e = s.eng e := by simp [State.eng]
theorem State.conclude_port_other (op : BitVec 16) (r : Request) (st : Status) (d : Bytes) {p : Hp} (h : p ≠ r.port) :
    (s.conclude op r st d).port p = s.port p := by
  unfold State.conclude; rw [State.port_updPort, if_neg h]; simp
@[simp] theorem State.conclude_replies (op : BitVec 16) (r : Request) (st : Status) (d : Bytes) :
    ((s.conclude op r st d).port r.port).replies =
      (s.port r.port).replies ++ [{ seq := r.seq, opcode := op, bytes := replyTo r st d }] := by
  unfold State.conclude; rw [State.port_updPort, if_pos rfl]; simp


end Sys2Proof.Machine
end

