-- ==== Sys2Proof/Laws/Engine.lean ====
section
/-! SUPPORT. What the shared operations of an engine's signal path can do: each changes that engine alone, raises and
counts events, and draws free values. -/

namespace Sys2Proof.Machine

/-! ## Events on a port -/

theorem OnlyEvents.refl (p : Port) : OnlyEvents p p := rfl

theorem OnlyEvents.trans {p q r : Port} (h1 : OnlyEvents p q) (h2 : OnlyEvents q r) : OnlyEvents p r := by
  unfold OnlyEvents at *
  rw [h2, h1]

theorem onlyEvents_requestIbi (p : Port) : OnlyEvents p p.requestIbi := by
  unfold Port.requestIbi OnlyEvents
  split <;> rfl

theorem onlyEvents_pushEvent (p : Port) (e : Event) : OnlyEvents p (p.pushEvent e) := by
  unfold Port.pushEvent
  split
  · rfl
  · dsimp only
    split
    · refine OnlyEvents.trans (q := { p with events := insertEvent e p.events }) ?_ (onlyEvents_requestIbi _)
      exact rfl
    · rfl

theorem onlyEvents_deliver (s : State) (pl : Place) (ev : Event) (p q : Hp) :
    OnlyEvents (s.port q) ((s.deliver pl ev p).port q) := by
  unfold State.deliver
  split
  · by_cases h : q = p
    · subst h; rw [State.port_updPort_same]; exact onlyEvents_pushEvent _ _
    · rw [State.port_updPort, if_neg h]; exact OnlyEvents.refl _
  · exact OnlyEvents.refl _

theorem deliver_eq (s : State) (pl : Place) (ev : Event) (p : Hp) :
    s.deliver pl ev p = { s with ports := (s.deliver pl ev p).ports } := by
  unfold State.deliver
  split <;> rfl

/-- Raising an event changes port queues and the flight recorder alone. -/
theorem raises_raise (s : State) (c : BitVec 16) (pl : Place) (d : Bytes) : Raises s (s.raise c pl d) := by
  unfold State.raise
  simp only [List.foldl_cons, List.foldl_nil]
  constructor
  · rw [deliver_eq, deliver_eq (s := _), deliver_eq (s := _), deliver_eq (s := s.noteFlight c)]
    rfl
  · intro p
    refine OnlyEvents.trans ?_ (onlyEvents_deliver _ _ _ _ p)
    refine OnlyEvents.trans ?_ (onlyEvents_deliver _ _ _ _ p)
    refine OnlyEvents.trans ?_ (onlyEvents_deliver _ _ _ _ p)
    exact onlyEvents_deliver (s.noteFlight c) _ _ _ p

theorem Raises.refl (s : State) : Raises s s := ⟨rfl, fun _ => OnlyEvents.refl _⟩

theorem Raises.trans {s t u : State} (h1 : Raises s t) (h2 : Raises t u) : Raises s u := by
  refine ⟨?_, fun p => (h1.2 p).trans (h2.2 p)⟩
  rw [h2.1, h1.1]

/-- Counting changes the collector alone. -/
theorem raises_count (s : State) (k : CounterKind) (i n : Nat) : Raises s (s.count k i n) := by
  unfold State.count
  split
  · exact ⟨rfl, fun _ => OnlyEvents.refl _⟩
  · exact Raises.refl s

/-! ## One engine -/

theorem EngineOnly.refl (e : Eng) (s : State) : EngineOnly e s s :=
  ⟨rfl, fun _ _ => rfl, rfl, fun _ => OnlyEvents.refl _⟩

theorem EngineOnly.trans {e : Eng} {s t u : State} (h1 : EngineOnly e s t) (h2 : EngineOnly e t u) :
    EngineOnly e s u := by
  obtain ⟨a1, b1, c1, d1⟩ := h1
  obtain ⟨a2, b2, c2, d2⟩ := h2
  refine ⟨?_, fun d h => (b2 d h).trans (b1 d h), c2.trans c1, fun p => (d1 p).trans (d2 p)⟩
  rw [a2, a1]

theorem engineOnly_of_raises {e : Eng} {s t : State} (h : Raises s t) : EngineOnly e s t := by
  have he : t.engines = s.engines := by rw [h.1]
  refine ⟨?_, fun d _ => ?_, ?_, h.2⟩
  · rw [h.1]
  · simp [State.eng, he]
  · simp [State.eng, he]

theorem engineOnly_raise (e : Eng) (s : State) (c : BitVec 16) (pl : Place) (d : Bytes) :
    EngineOnly e s (s.raise c pl d) := engineOnly_of_raises (raises_raise s c pl d)

theorem engineOnly_count (e : Eng) (s : State) (k : CounterKind) (i n : Nat) : EngineOnly e s (s.count k i n) :=
  engineOnly_of_raises (raises_count s k i n)

theorem engineOnly_skip (e : Eng) (s : State) : EngineOnly e s s.skip :=
  ⟨rfl, fun _ _ => rfl, rfl, fun _ => OnlyEvents.refl _⟩

theorem engineOnly_updEng (e : Eng) (s : State) {f : Engine → Engine} (h : (f (s.eng e)).params = (s.eng e).params) :
    EngineOnly e s (s.updEng e f) := by
  refine ⟨rfl, fun d hd => by rw [State.eng_updEng, if_neg hd], ?_, fun _ => OnlyEvents.refl _⟩
  rw [State.eng_updEng_same, h]

theorem engineOnly_ite {e : Eng} {s t u : State} {c : Prop} [Decidable c] (h1 : EngineOnly e s t) (h2 : EngineOnly e s u) :
    EngineOnly e s (if c then t else u) := by split <;> assumption

theorem engineOnly_rehold (e : Eng) (s : State) (c : Byte) : EngineOnly e s (s.rehold e c) := by
  unfold State.rehold
  refine EngineOnly.trans ?_ (engineOnly_ite (engineOnly_raise _ _ _ _ _) (EngineOnly.refl _ _))
  refine EngineOnly.trans ?_ (engineOnly_ite (engineOnly_raise _ _ _ _ _) (EngineOnly.refl _ _))
  exact engineOnly_updEng e s rfl

theorem engineOnly_reholdDark (e : Eng) (s : State) : EngineOnly e s (s.reholdDark e) :=
  (engineOnly_skip e s).trans (engineOnly_rehold e _ _)

theorem engineOnly_maskSmall (e : Eng) (s : State) : EngineOnly e s (s.maskSmall e) := by
  unfold State.maskSmall
  refine EngineOnly.trans ?_ (engineOnly_ite (engineOnly_raise _ _ _ _ _) (EngineOnly.refl _ _))
  refine EngineOnly.trans ?_ (engineOnly_ite (engineOnly_raise _ _ _ _ _) (EngineOnly.refl _ _))
  refine EngineOnly.trans ?_ (engineOnly_ite (engineOnly_raise _ _ _ _ _) (EngineOnly.refl _ _))
  exact engineOnly_updEng e s rfl

theorem engineOnly_lofRaise (e : Eng) (s : State) : EngineOnly e s (s.lofRaise e) := by
  unfold State.lofRaise
  refine engineOnly_ite (EngineOnly.refl _ _) ?_
  refine EngineOnly.trans ?_ (engineOnly_maskSmall _ _)
  exact (engineOnly_updEng e s rfl).trans (engineOnly_raise _ _ _ _ _)

theorem engineOnly_lofClear (e : Eng) (s : State) (d : Bytes) : EngineOnly e s (s.lofClear e d) := by
  unfold State.lofClear
  exact engineOnly_ite ((engineOnly_updEng e s rfl).trans (engineOnly_raise _ _ _ _ _)) (EngineOnly.refl _ _)

theorem engineOnly_deframerOff (e : Eng) (s : State) : EngineOnly e s (s.deframerOff e) := engineOnly_updEng e s rfl

theorem engineOnly_setLos (e : Eng) (s : State) (on : Bool) : EngineOnly e s (s.setLos e on) := by
  unfold State.setLos
  refine engineOnly_ite (EngineOnly.refl _ _) ?_
  refine EngineOnly.trans ?_ (engineOnly_ite ?_ (EngineOnly.refl _ _))
  · exact (engineOnly_updEng e s rfl).trans (engineOnly_raise _ _ _ _ _)
  · refine EngineOnly.trans ?_ (engineOnly_maskSmall _ _)
    exact engineOnly_ite ((engineOnly_skip _ _).trans (engineOnly_lofClear _ _ _)) (EngineOnly.refl _ _)

theorem engineOnly_fecReset (e : Eng) (s : State) : EngineOnly e s (s.fecReset e) := engineOnly_updEng e s rfl

theorem engineOnly_rxOff (e : Eng) (s : State) : EngineOnly e s (s.rxOff e) := by
  unfold State.rxOff
  refine engineOnly_ite (EngineOnly.refl _ _) ?_
  exact (((engineOnly_updEng e s rfl).trans (engineOnly_deframerOff e _)).trans (engineOnly_setLos e _ _)).trans
    (engineOnly_fecReset e _)

theorem engineOnly_rxWait (e : Eng) (s : State) : EngineOnly e s (s.rxWait e) := by
  unfold State.rxWait
  exact (((engineOnly_updEng e s rfl).trans (engineOnly_deframerOff e _)).trans (engineOnly_setLos e _ _)).trans
    (engineOnly_fecReset e _)

theorem engineOnly_relock (e : Eng) (s : State) (c l : Byte) : EngineOnly e s (s.relock e c l) :=
  (engineOnly_updEng e s rfl).trans (engineOnly_raise _ _ _ _ _)

theorem engineOnly_rxFreq (e : Eng) (s : State) (fast : Bool) : EngineOnly e s (s.rxFreq e fast) := by
  unfold State.rxFreq
  refine EngineOnly.trans ?_ (engineOnly_fecReset e _)
  refine EngineOnly.trans ?_ (engineOnly_setLos e _ _)
  refine EngineOnly.trans ?_ (engineOnly_deframerOff e _)
  exact (engineOnly_updEng e s rfl).trans (engineOnly_ite (engineOnly_lofRaise e _) (EngineOnly.refl _ _))

/-- An enable that does not start the transmitter; one that does may step the FN of the Twin fellow (R29). -/
theorem engineOnly_txEnable (e : Eng) (s : State) (lead : BitVec 32) : EngineOnly e s (s.txEnable e false lead) := by
  unfold State.txEnable
  simp only [Bool.false_eq_true, if_false]
  exact (engineOnly_updEng e s rfl).trans (engineOnly_rehold e _ _)

theorem engineOnly_txStop (e : Eng) (s : State) : EngineOnly e s (s.txStop e) := engineOnly_updEng e s rfl

theorem engineOnly_fastQuench (e : Eng) (s : State) (r : Byte) (b : Bool) : EngineOnly e s (s.fastQuench e r b) := by
  unfold State.fastQuench
  refine EngineOnly.trans ?_ (engineOnly_rxOff e _)
  refine EngineOnly.trans ?_ (engineOnly_reholdDark e _)
  refine EngineOnly.trans ?_ (engineOnly_ite (engineOnly_txStop e _) (EngineOnly.refl _ _))
  exact engineOnly_updEng e s rfl

theorem engineOnly_quench (e : Eng) (s : State) (r : Byte) : EngineOnly e s (s.quench e r) := by
  unfold State.quench
  split
  · exact engineOnly_ite (engineOnly_updEng e s rfl) (engineOnly_fastQuench e s r false)
  · exact engineOnly_fastQuench e s r false
  · exact engineOnly_ite (EngineOnly.refl _ _) (engineOnly_fastQuench e s r false)
  · exact engineOnly_ite (engineOnly_updEng e s rfl) (EngineOnly.refl _ _)
  · exact EngineOnly.refl _ _
  · exact EngineOnly.refl _ _
  · exact EngineOnly.refl _ _

end Sys2Proof.Machine
end

