-- ==== Sys2Proof/Laws/Store.lean ====
section
/-! SUPPORT. The sparse store: a read after a write, and the canonical form, which every write keeps. -/

namespace Sys2Proof.Machine
variable {α : Type} [DecidableEq α] {d : α}

theorem canonAbove_mono {l : List (Nat × α)} {lo hi : Nat} (h : canonAbove d hi l = true) (hl : lo ≤ hi) :
    canonAbove d lo l = true := by
  cases l with
  | nil => rfl
  | cons x xs =>
    simp only [canonAbove, Bool.and_eq_true, decide_eq_true_eq] at h ⊢
    exact ⟨⟨by omega, h.1.2⟩, h.2⟩

/-- Below its first address a canonical store reads as its default. -/
theorem readAt_below {l : List (Nat × α)} {lo a : Nat} (h : canonAbove d lo l = true) (ha : a < lo) :
    readAt d l a = d := by
  induction l generalizing lo with
  | nil => rfl
  | cons x xs ih =>
    simp only [canonAbove, Bool.and_eq_true, decide_eq_true_eq] at h
    have hne : (a == x.1) = false := by simp; omega
    simp only [readAt, hne, Bool.false_eq_true, if_false]
    exact ih h.2 (by omega)

/-- Writing keeps the canonical form. -/
theorem canonAbove_writeAt {l : List (Nat × α)} {lo a : Nat} (v : α) (h : canonAbove d lo l = true) (ha : lo ≤ a) :
    canonAbove d lo (writeAt d l a v) = true := by
  induction l generalizing lo with
  | nil => by_cases hv : v = d <;> simp [writeAt, canonAbove, hv, ha]
  | cons x xs ih =>
    simp only [canonAbove, Bool.and_eq_true, decide_eq_true_eq] at h
    obtain ⟨⟨h1, h2⟩, h3⟩ := h
    simp only [writeAt]
    by_cases hlt : a < x.1
    · rw [if_pos hlt]
      by_cases hv : v = d
      · simp [canonAbove, hv, h1, h2, h3]
      · have : canonAbove d (x.1 + 1) xs = true := h3
        simp only [hv, if_false, canonAbove, Bool.and_eq_true, decide_eq_true_eq]
        exact ⟨⟨ha, hv⟩, ⟨by omega, h2⟩, h3⟩
    · rw [if_neg hlt]
      by_cases heq : a = x.1
      · rw [if_pos heq]
        by_cases hv : v = d
        · rw [if_pos hv]; exact canonAbove_mono h3 (by omega)
        · simp only [hv, if_false, canonAbove, Bool.and_eq_true, decide_eq_true_eq]
          exact ⟨⟨ha, hv⟩, by rw [heq]; exact h3⟩
      · rw [if_neg heq]
        simp only [canonAbove, Bool.and_eq_true, decide_eq_true_eq]
        exact ⟨⟨h1, h2⟩, ih h3 (by omega)⟩

/-- Writing keeps the canonical form of a store. -/
theorem canon_writeAt {l : List (Nat × α)} (a : Nat) (v : α) (h : canon d l = true) : canon d (writeAt d l a v) = true :=
  canonAbove_writeAt v h (Nat.zero_le a)

/-- Writing consecutive values keeps the canonical form. -/
theorem canon_writeRun {l : List (Nat × α)} (a : Nat) (vs : List α) (h : canon d l = true) :
    canon d (writeRun d l a vs) = true := by
  induction vs generalizing l a with
  | nil => exact h
  | cons v vs ih => exact ih (a + 1) (canon_writeAt a v h)

theorem readAt_writeAt_above {l : List (Nat × α)} {lo a : Nat} (v : α) (h : canonAbove d lo l = true) :
    readAt d (writeAt d l a v) a = v := by
  induction l generalizing lo with
  | nil =>
    by_cases hv : v = d
    · simp [writeAt, readAt, hv]
    · simp [writeAt, readAt, hv]
  | cons x xs ih =>
    simp only [canonAbove, Bool.and_eq_true, decide_eq_true_eq] at h
    simp only [writeAt]
    by_cases hlt : a < x.1
    · rw [if_pos hlt]
      by_cases hv : v = d
      · have hne : (a == x.1) = false := by simp; omega
        simp only [hv, if_true, readAt, hne, Bool.false_eq_true, if_false]
        exact readAt_below h.2 (by omega)
      · simp [hv, readAt]
    · rw [if_neg hlt]
      by_cases heq : a = x.1
      · rw [if_pos heq]
        by_cases hv : v = d
        · rw [if_pos hv, hv]
          exact readAt_below h.2 (by omega)
        · simp [hv, readAt]
      · have hne : (a == x.1) = false := by simp [heq]
        simp only [if_neg heq, readAt, hne, Bool.false_eq_true, if_false]
        exact ih h.2

/-- A read after a write to the same address gives the value written. -/
theorem readAt_writeAt_same {l : List (Nat × α)} (a : Nat) (v : α) (h : canon d l = true) :
    readAt d (writeAt d l a v) a = v := readAt_writeAt_above v h

/-- A value other than the default reads back from any list. -/
theorem readAt_writeAt_ne_default (l : List (Nat × α)) (a : Nat) {v : α} (hv : v ≠ d) :
    readAt d (writeAt d l a v) a = v := by
  induction l with
  | nil => simp [writeAt, readAt, hv]
  | cons x xs ih =>
    simp only [writeAt]
    by_cases hlt : a < x.1
    · simp [hlt, hv, readAt]
    · by_cases heq : a = x.1
      · simp [heq, hv, readAt]
      · have hne : (a == x.1) = false := by simp [heq]
        simp [hlt, heq, readAt, ih]

/-- A write leaves every other address alone. -/
theorem readAt_writeAt_other (l : List (Nat × α)) {a b : Nat} (v : α) (hab : b ≠ a) :
    readAt d (writeAt d l a v) b = readAt d l b := by
  have hba : (b == a) = false := by simp [hab]
  induction l with
  | nil => by_cases hv : v = d <;> simp [writeAt, readAt, hv, hba]
  | cons x xs ih =>
    simp only [writeAt]
    by_cases hlt : a < x.1
    · by_cases hv : v = d <;> simp [hlt, hv, readAt, hba]
    · by_cases heq : a = x.1
      · by_cases hv : v = d
        · subst heq; simp [hv, readAt, hba]
        · subst heq; simp [hv, readAt, hba]
      · simp only [hlt, heq, if_false, readAt, ih]

/-- What consecutive writes leave at an address. -/
theorem readAt_writeRun {l : List (Nat × α)} (a b : Nat) (vs : List α) (h : canon d l = true) :
    readAt d (writeRun d l a vs) b = if a ≤ b ∧ b < a + vs.length then vs.getD (b - a) d else readAt d l b := by
  induction vs generalizing l a with
  | nil => rw [if_neg (by simp)]; rfl
  | cons v vs ih =>
    rw [writeRun, ih (a + 1) (canon_writeAt a v h)]
    by_cases hb : b = a
    · subst hb
      rw [if_neg (by omega), readAt_writeAt_same b v h, if_pos (by simp)]
      simp
    · rw [readAt_writeAt_other l v hb]
      by_cases hr : a + 1 ≤ b ∧ b < a + 1 + vs.length
      · rw [if_pos hr, if_pos (by simp; omega)]
        obtain ⟨k, rfl⟩ : ∃ k, b = a + 1 + k := ⟨b - (a + 1), by omega⟩
        have h1 : a + 1 + k - (a + 1) = k := by omega
        have h2 : a + 1 + k - a = k + 1 := by omega
        rw [h1, h2, List.getD_cons_succ]
      · rw [if_neg hr, if_neg (by simp; omega)]

end Sys2Proof.Machine
end

