-- ==== Sys2Proof/Laws/Memory.lean ====
section
/-! SUPPORT. Every operation of context memory keeps its words in canonical form, and writes as it says. -/

namespace Sys2Proof.Machine

theorem reset_memory_wf : Memory.wf State.reset.mem.words = true := rfl

/-! ## Canonical form -/

theorem putWord_wf (s : State) (wa : Nat) (w : MemWord) (h : Memory.wf s.mem.words = true) :
    Memory.wf (s.putWord wa w).mem.words = true := canon_writeAt wa w h

@[simp] theorem updChannel_words (s : State) (c : Fin 8) (f : Channel → Channel) :
    (s.updChannel c f).mem.words = s.mem.words := rfl

@[simp] theorem updLine_mem (s : State) (n : Nat) (f : CacheLine → CacheLine) : (s.updLine n f).mem = s.mem := rfl

@[simp] theorem memWrite_words (s : State) (wa : Nat) (d : BitVec 128) :
    (s.memWrite wa d).mem.words = writeAt {} s.mem.words wa { kind := .data, data := d } := by
  unfold State.memWrite
  simp [State.putWord]

theorem memWrite_wf (s : State) (wa : Nat) (d : BitVec 128) (h : Memory.wf s.mem.words = true) :
    Memory.wf (s.memWrite wa d).mem.words = true := by
  rw [memWrite_words]
  exact canon_writeAt wa _ h

theorem mergeWrite_wf (s : State) (wa : Nat) (d : BitVec 128) (mask : BitVec 16) (h : Memory.wf s.mem.words = true) :
    Memory.wf (s.mergeWrite wa d mask).mem.words = true := by
  unfold State.mergeWrite
  dsimp only
  split <;> split <;> first | exact memWrite_wf _ _ _ h | exact h

theorem markInvalid_wf (s : State) (n : Nat) (h : Memory.wf s.mem.words = true) :
    Memory.wf (s.markInvalid n).mem.words = true := by
  unfold State.markInvalid
  split
  · exact h
  · dsimp only
    split
    · exact h
    · exact mergeWrite_wf _ _ _ _ h

theorem lostWord_wf (s : State) (wa : Nat) (d : BitVec 128) (h : Memory.wf s.mem.words = true) :
    Memory.wf (s.lostWord wa d).1.mem.words = true := by
  unfold State.lostWord
  split
  · split
    · rw [State.raise_mem]
      exact h
    · exact h
  · split
    · exact memWrite_wf _ _ _ h
    · exact h
  · split
    · exact memWrite_wf _ _ _ h
    · rw [State.raise_mem]
      exact memWrite_wf _ _ _ h
  · rw [State.raise_mem]
    exact markInvalid_wf _ _ (memWrite_wf _ _ _ h)
  · rw [State.raise_mem]
    exact markInvalid_wf _ _ (memWrite_wf _ _ _ h)

theorem logError_words (s : State) (x : MemLogEntry) : (s.logError x).mem.words = s.mem.words := by
  unfold State.logError
  split
  · rfl
  · dsimp only
    split
    · rw [State.raise_mem]
    · rfl

theorem wordCorrected_words (s : State) (wa : Nat) (d : BitVec 128) :
    (s.wordCorrected wa d).mem.words = writeAt {} s.mem.words wa { kind := .data, data := d } := by
  unfold State.wordCorrected
  dsimp only
  rw [apply_ite (fun t : State => t.mem.words)]
  simp [State.putWord]

theorem memRead_wf (s : State) (wa : Nat) (reader : Byte) (h : Memory.wf s.mem.words = true) :
    Memory.wf (s.memRead wa reader).1.mem.words = true := by
  have hc (k : CounterKind) (i n : Nat) (t : State) (ht : Memory.wf t.mem.words = true) :
      Memory.wf (t.count k i n).mem.words = true := by rw [State.count_mem]; exact ht
  have h1 := hc .memReads (channelOf wa).val 1 s h
  unfold State.memRead
  dsimp only
  generalize s.count .memReads (channelOf wa).val 1 = t at h1 ⊢
  split
  · exact h1
  · rw [wordCorrected_words]
    exact canon_writeAt _ _ h1
  · exact hc _ _ _ _ h1
  · split
    · exact h1
    · exact lostWord_wf _ _ _ h1
  · rw [State.raise_mem, logError_words]
    split
    · exact putWord_wf _ _ _ (hc _ _ _ _ h1)
    · exact lostWord_wf _ _ _ (putWord_wf _ _ _ (hc _ _ _ _ h1))

theorem retire_wf (s : State) (m : MergeEntry) (h : Memory.wf s.mem.words = true) :
    Memory.wf (s.retire m).mem.words = true := by
  unfold State.retire
  dsimp only
  split <;> rw [State.count_mem]
  · exact memWrite_wf _ _ _ (memRead_wf _ _ _ h)
  · exact memRead_wf _ _ _ h

theorem sweepDone_words (s : State) (b : Bytes) : (s.sweepDone b).mem.words = s.mem.words := by
  unfold State.sweepDone
  rw [State.raise_mem]

theorem eddyAdvance_words (s : State) : (s.eddyAdvance).mem.words = s.mem.words := by
  unfold State.eddyAdvance
  dsimp only
  split
  · rw [State.raise_mem]
  · rfl

/-! ## Words read after a write -/

theorem putWord_word_same (s : State) (wa : Nat) (w : MemWord) (h : Memory.wf s.mem.words = true) :
    (s.putWord wa w).word wa = w := readAt_writeAt_same wa w h

theorem putWord_word_other (s : State) {wa a : Nat} (w : MemWord) (h : a ≠ wa) : (s.putWord wa w).word a = s.word a :=
  readAt_writeAt_other _ w h

theorem memWrite_word_same (s : State) (wa : Nat) (d : BitVec 128) (h : Memory.wf s.mem.words = true) :
    (s.memWrite wa d).word wa = { kind := .data, data := d } := by
  unfold State.word
  rw [memWrite_words]
  exact readAt_writeAt_same wa _ h

theorem memWrite_word_other (s : State) {wa a : Nat} (d : BitVec 128) (h : a ≠ wa) :
    (s.memWrite wa d).word a = s.word a := by
  unfold State.word
  rw [memWrite_words]
  exact readAt_writeAt_other _ _ h

/-! ## Key slots -/

theorem setSlot_canon (s : State) (n : Nat) (k : KeySlot) (h : canon {} s.keys.slots = true) :
    canon {} (s.setSlot n k).keys.slots = true := canon_writeAt n k h

theorem setSlot_slot_same (s : State) (n : Nat) (k : KeySlot) (h : canon {} s.keys.slots = true) :
    (s.setSlot n k).slot n = k := readAt_writeAt_same n k h

theorem setSlot_slot_other (s : State) {n m : Nat} (k : KeySlot) (h : m ≠ n) : (s.setSlot n k).slot m = s.slot m :=
  readAt_writeAt_other _ k h

/-! ## Reading a word whose check bits agree -/

theorem sampleCode_ok : sampleCode.ok = true := by decide +kernel

/-- The matrices of the module have the properties of R356, whichever they are. -/
theorem moduleCode_ok : moduleCode.ok = true := by
  unfold moduleCode
  dsimp only
  split
  · assumption
  · exact sampleCode_ok

theorem timesColumns_zero {w : Nat} (l : List (BitVec 16)) : timesColumns l (0 : BitVec w) = 0 := by
  have h (n : Nat) : (List.range n).foldl (fun (a : BitVec 16) i => if (0 : BitVec w).getLsbD i then a ^^^ l.getD i 0 else a) 0
      = 0 := by
    induction n with
    | zero => rfl
    | succ n ih => rw [List.range_succ, List.foldl_append, ih]; simp
  exact h w

/-- A word with no bit inverted, at its own address, has the syndrome that was forced, or none. -/
theorem syndrome_plain (w : MemWord) (h1 : w.flips = 0) (h2 : w.addrXor = 0) :
    w.syndrome = if w.kind = .data then 0 else freshSyndrome := by
  simp only [MemWord.syndrome, h1, h2, timesColumns_zero]
  simp

theorem read_clean (d : BitVec 128) :
    ({ kind := .data, data := d } : MemWord).read = { cls := .clean, data := d, syndrome := 0 } := by
  simp [MemWord.read, syndrome_plain, MemWord.stored, MemWord.written]

/-- A word that nothing has written reads FRESH. -/
theorem read_fresh : ({} : MemWord).read = { cls := .fresh, data := 0, syndrome := freshSyndrome } := by
  simp [MemWord.read, syndrome_plain, MemWord.stored, MemWord.written, forcedRead, freshSyndrome]

/-- A word that a reader has poisoned reads POISONED. -/
theorem read_poisoned (b : Bool) : ({ kind := .poisoned, byEddy := b } : MemWord).read =
    { cls := .poisoned, data := BitVec.allOnes 128, syndrome := freshSyndrome } := by
  simp [MemWord.read, syndrome_plain, MemWord.stored, MemWord.written, forcedRead, freshSyndrome]

/-- Reading a clean word counts the read and changes nothing else. -/
theorem memRead_clean (s : State) (wa : Nat) (b : Byte) (d : BitVec 128) (h : s.word wa = { kind := .data, data := d }) :
    s.memRead wa b = (s.count .memReads (channelOf wa).val 1,
      { cls := .clean, data := d, syndrome := 0 }) := by
  simp only [State.memRead]
  rw [h, read_clean]

theorem readWord_clean (s : State) (wa : Nat) (b : Byte) (d : BitVec 128) (h : s.holdsClean wa d) :
    s.readWord wa b = (s.count .memReads (channelOf wa).val 1, some (d, false)) := by
  have h2 : (s.count .memReads (channelOf wa).val 1).mergeOf wa = none := by
    simpa only [State.mergeOf, State.count_mem] using h.2
  simp only [State.readWord, memRead_clean s wa b d h.1, State.withMerge, h2]
  rfl

end Sys2Proof.Machine
end

