-- ==== Sys2Proof/Laws/Flows.lean ====
section
/-! SUPPORT. Flow keys whose hash is unknown (log 8), and unwrapped keys. -/

namespace Sys2Proof.Machine

/-! ## The entries of a flow key -/

theorem bucketWords_lt (k : Bytes) : ∀ wa ∈ bucketWords k, wa < 2097152 := by
  intro wa h
  simp only [bucketWords, List.mem_append, List.mem_map, List.mem_range] at h
  obtain ⟨e, he, rfl⟩ | ⟨e, he, rfl⟩ := h <;> omega

/-- Where every channel is ready, every entry of a key is. -/
theorem keyUnready_false (s : State) (e : Bytes) (h : ∀ c : Fin 8, (s.mem.channels[c]).mode = .ready) :
    s.keyUnready e = false := by
  rw [State.keyUnready, List.any_eq_false]
  intro wa hw
  have := bucketWords_lt _ _ hw
  simp only [State.wordReady, Channel.pointer, h]
  simp; omega

/-- Without tags a search reads nothing and finds nothing. -/
theorem findKey_none (s : State) (k : Bytes) (b : Byte) (l : List Nat) (h : s.flows.tags = []) :
    s.findKey k b l = (s, none) := by
  induction l with
  | nil => rfl
  | cons a l ih => simp [State.findKey, h, readAt, ih]

/-- A key whose entry comes first is found. -/
theorem findKey_some (s : State) (k : Bytes) (b : Byte) (wa : Nat) (l : List Nat) (d : BitVec 128)
    (ht : readAt none s.flows.tags wa = some (tagOf k)) (hr : s.wordReady wa = true) (h : s.holdsClean wa d)
    (hk : (be 16 d).take 12 = k) :
    s.findKey k b (wa :: l) = (s.count .memReads (channelOf wa).val 1, some (wa, field (be 16 d) 12 4)) := by
  simp [State.findKey, ht, hr, readWord_clean s wa b d h, hk]

theorem roomFor_some (s : State) (k : Bytes) (h : s.flows.tags = []) : (s.roomFor k).isNone = false := by
  simp [State.roomFor, bucketWords, h, readAt, List.range, List.range.loop]

theorem keyHeld_false (s : State) (k : Bytes) (h : s.flows.staged = []) : s.keyHeld k = false := by
  simp [State.keyHeld, h]

/-- A first key may be added. -/
theorem addFault_none (s : State) (e : Bytes) (h : ∀ c : Fin 8, (s.mem.channels[c]).mode = .ready)
    (h1 : s.flows.tags = []) (h2 : s.flows.staged = []) (h3 : s.outsideMask e = false) : s.addFault e = none := by
  simp [State.addFault, keyUnready_false s e h, keyHeld_false s _ h2, h3, findKey_none s _ _ _ h1, roomFor_some s _ h1]

/-! ## Wrapped keys -/

/-- A wrapped blob whose plaintext passes gives its key, and the count of failures is zero. -/
theorem unwrap_ok (s : State) (p : Hp) (kind : Byte) (slot : Nat) (gen : BitVec 16) (blob kek plain : Bytes)
    (v : KeyValue) (h1 : s.wrapKey p kind = some kek) (h2 : keyUnwrap kek blob = some plain)
    (h3 : plainKey plain p kind slot gen = some v) :
    s.unwrap p kind slot gen blob = ((if kind = 2 then s.deriveWork labelWrap else s).updPort p fun q =>
      { q with unwrapFails := 0 }, .ok v) := by
  simp [State.unwrap, h1, h2, h3]

/-- A batch of one blob that passes. -/
theorem unwrapAll_one (s : State) (p : Hp) (gate : KeySlot → Option Status) (e kek plain : Bytes) (v : KeyValue)
    (h0 : gate (s.slot (entrySlot e)) = none) (h1 : s.wrapKey p 1 = some kek)
    (h2 : keyUnwrap kek (slice e 4 64) = some plain)
    (h3 : plainKey plain p 1 (entrySlot e) (nextGen (s.slot (entrySlot e)).gen) = some v) :
    s.unwrapAll p gate [e] 0 = (s.updPort p fun q => { q with unwrapFails := 0 }, .ok [(entrySlot e, v)]) := by
  have h := unwrap_ok s p 1 _ _ _ kek plain v h1 h2 h3
  have h12 : (1 : Byte) ≠ 2 := by decide
  rw [if_neg h12] at h
  simp only [State.unwrapAll, h0, h]

end Sys2Proof.Machine
end

