-- ==== Sys2Proof/Laws/Ops.lean ====
section
/-! SUPPORT. What the shared operations can do: the request leaving its queue, the serving of a request through R53,
replies, events and counters. -/

namespace Sys2Proof.Machine
variable (s : State)

/-! ## The request leaves its queue -/

@[simp] theorem takeRequest_dynAddr (op : BitVec 16) (r : Request) (q : Hp) :
    ((s.takeRequest op r).port q).dynAddr = (s.port q).dynAddr := by
  unfold State.takeRequest; rw [State.port_updPort]; split <;> rfl
@[simp] theorem takeRequest_ibiOn (op : BitVec 16) (r : Request) (q : Hp) :
    ((s.takeRequest op r).port q).ibiOn = (s.port q).ibiOn := by
  unfold State.takeRequest; rw [State.port_updPort]; split <;> rfl
@[simp] theorem takeRequest_hdr (op : BitVec 16) (r : Request) (q : Hp) :
    ((s.takeRequest op r).port q).hdr = (s.port q).hdr := by
  unfold State.takeRequest; rw [State.port_updPort]; split <;> rfl
@[simp] theorem takeRequest_authReq (op : BitVec 16) (r : Request) (q : Hp) :
    ((s.takeRequest op r).port q).authReq = (s.port q).authReq := by
  unfold State.takeRequest; rw [State.port_updPort]; split <;> rfl
@[simp] theorem takeRequest_holdoff (op : BitVec 16) (r : Request) (q : Hp) :
    ((s.takeRequest op r).port q).holdoff = (s.port q).holdoff := by
  unfold State.takeRequest; rw [State.port_updPort]; split <;> rfl
@[simp] theorem takeRequest_mask (op : BitVec 16) (r : Request) (q : Hp) :
    ((s.takeRequest op r).port q).mask = (s.port q).mask := by
  unfold State.takeRequest; rw [State.port_updPort]; split <;> rfl
@[simp] theorem takeRequest_nextSeq (op : BitVec 16) (r : Request) (q : Hp) :
    ((s.takeRequest op r).port q).nextSeq = (s.port q).nextSeq := by
  unfold State.takeRequest; rw [State.port_updPort]; split <;> rfl
@[simp] theorem takeRequest_wrap (op : BitVec 16) (r : Request) (q : Hp) :
    ((s.takeRequest op r).port q).wrap = (s.port q).wrap := by
  unfold State.takeRequest; rw [State.port_updPort]; split <;> rfl
@[simp] theorem takeRequest_sessionStart (op : BitVec 16) (r : Request) (q : Hp) :
    ((s.takeRequest op r).port q).sessionStart = (s.port q).sessionStart := by
  unfold State.takeRequest; rw [State.port_updPort]; split <;> rfl
@[simp] theorem takeRequest_replies (op : BitVec 16) (r : Request) (q : Hp) :
    ((s.takeRequest op r).port q).replies = (s.port q).replies := by
  unfold State.takeRequest; rw [State.port_updPort]; split <;> rfl
@[simp] theorem takeRequest_running (op : BitVec 16) (r : Request) (q : Hp) :
    ((s.takeRequest op r).port q).running = (s.port q).running := by
  unfold State.takeRequest; rw [State.port_updPort]; split <;> rfl
@[simp] theorem takeRequest_retained (op : BitVec 16) (r : Request) (q : Hp) :
    ((s.takeRequest op r).port q).retained = (s.port q).retained := by
  unfold State.takeRequest; rw [State.port_updPort]; split <;> rfl
@[simp] theorem takeRequest_chainFailed (op : BitVec 16) (r : Request) (q : Hp) :
    ((s.takeRequest op r).port q).chainFailed = (s.port q).chainFailed := by
  unfold State.takeRequest; rw [State.port_updPort]; split <;> rfl
@[simp] theorem takeRequest_offChain (op : BitVec 16) (r : Request) (q : Hp) :
    ((s.takeRequest op r).port q).offChain = (s.port q).offChain := by
  unfold State.takeRequest; rw [State.port_updPort]; split <;> rfl
@[simp] theorem takeRequest_shortWrites (op : BitVec 16) (r : Request) (q : Hp) :
    ((s.takeRequest op r).port q).shortWrites = (s.port q).shortWrites := by
  unfold State.takeRequest; rw [State.port_updPort]; split <;> rfl
@[simp] theorem takeRequest_authFails (op : BitVec 16) (r : Request) (q : Hp) :
    ((s.takeRequest op r).port q).authFails = (s.port q).authFails := by
  unfold State.takeRequest; rw [State.port_updPort]; split <;> rfl
@[simp] theorem takeRequest_unwrapFails (op : BitVec 16) (r : Request) (q : Hp) :
    ((s.takeRequest op r).port q).unwrapFails = (s.port q).unwrapFails := by
  unfold State.takeRequest; rw [State.port_updPort]; split <;> rfl
@[simp] theorem takeRequest_events (op : BitVec 16) (r : Request) (q : Hp) :
    ((s.takeRequest op r).port q).events = (s.port q).events := by
  unfold State.takeRequest; rw [State.port_updPort]; split <;> rfl
@[simp] theorem takeRequest_lost (op : BitVec 16) (r : Request) (q : Hp) :
    ((s.takeRequest op r).port q).lost = (s.port q).lost := by
  unfold State.takeRequest; rw [State.port_updPort]; split <;> rfl
@[simp] theorem takeRequest_firstLost (op : BitVec 16) (r : Request) (q : Hp) :
    ((s.takeRequest op r).port q).firstLost = (s.port q).firstLost := by
  unfold State.takeRequest; rw [State.port_updPort]; split <;> rfl
@[simp] theorem takeRequest_tenancy (op : BitVec 16) (r : Request) (q : Hp) :
    ((s.takeRequest op r).port q).tenancy = (s.port q).tenancy := by
  unfold State.takeRequest; rw [State.port_updPort]; split <;> rfl
@[simp] theorem takeRequest_kek (op : BitVec 16) (r : Request) (q : Hp) :
    ((s.takeRequest op r).port q).kek = (s.port q).kek := by
  unfold State.takeRequest; rw [State.port_updPort]; split <;> rfl
@[simp] theorem takeRequest_cak (op : BitVec 16) (r : Request) (q : Hp) :
    ((s.takeRequest op r).port q).cak = (s.port q).cak := by
  unfold State.takeRequest; rw [State.port_updPort]; split <;> rfl
@[simp] theorem takeRequest_ibis (op : BitVec 16) (r : Request) (q : Hp) :
    ((s.takeRequest op r).port q).ibis = (s.port q).ibis := by
  unfold State.takeRequest; rw [State.port_updPort]; split <;> rfl
@[simp] theorem takeRequest_ibiPayload (op : BitVec 16) (r : Request) (q : Hp) :
    ((s.takeRequest op r).port q).ibiPayload = (s.port q).ibiPayload := by
  unfold State.takeRequest; rw [State.port_updPort]; split <;> rfl
@[simp] theorem takeRequest_bus (op : BitVec 16) (r : Request) (q : Hp) :
    ((s.takeRequest op r).port q).bus = (s.port q).bus := by
  unfold State.takeRequest; rw [State.port_updPort]; split <;> rfl

@[simp] theorem takeRequest_eng (op : BitVec 16) (r : Request) (e : Eng) :
    (s.takeRequest op r).eng e = s.eng e := rfl
@[simp] theorem takeRequest_ready (op : BitVec 16) (r : Request) : (s.takeRequest op r).ready = s.ready := rfl
@[simp] theorem takeRequest_serving (op : BitVec 16) (r : Request) : (s.takeRequest op r).serving = s.serving := rfl
@[simp] theorem takeRequest_engineCount (op : BitVec 16) (r : Request) :
    (s.takeRequest op r).engineCount = s.engineCount := rfl
@[simp] theorem takeRequest_laneCount (op : BitVec 16) (r : Request) :
    (s.takeRequest op r).laneCount = s.laneCount := rfl
@[simp] theorem takeRequest_hasEngine (op : BitVec 16) (r : Request) (n : Nat) :
    (s.takeRequest op r).hasEngine n = s.hasEngine n := rfl
@[simp] theorem takeRequest_hasLane (op : BitVec 16) (r : Request) (n : Nat) :
    (s.takeRequest op r).hasLane n = s.hasLane n := rfl
@[simp] theorem takeRequest_holdsEngine (op : BitVec 16) (r : Request) (p : Hp) (n : Nat) :
    (s.takeRequest op r).holdsEngine p n = s.holdsEngine p n := by simp [State.holdsEngine]
@[simp] theorem takeRequest_holdsCport (op : BitVec 16) (r : Request) (p : Hp) (n : Nat) :
    (s.takeRequest op r).holdsCport p n = s.holdsCport p n := by simp [State.holdsCport]
@[simp] theorem takeRequest_holdsTpo (op : BitVec 16) (r : Request) (p : Hp) (n : Nat) :
    (s.takeRequest op r).holdsTpo p n = s.holdsTpo p n := by simp [State.holdsTpo]
@[simp] theorem takeRequest_holdsSc (op : BitVec 16) (r : Request) (p : Hp) (n : Nat) :
    (s.takeRequest op r).holdsSc p n = s.holdsSc p n := by simp [State.holdsSc]
@[simp] theorem takeRequest_holdsCtx (op : BitVec 16) (r : Request) (p : Hp) (a n : Nat) :
    (s.takeRequest op r).holdsCtx p a n = s.holdsCtx p a n := by simp [State.holdsCtx]
@[simp] theorem takeRequest_holdsKs (op : BitVec 16) (r : Request) (p : Hp) (a n : Nat) :
    (s.takeRequest op r).holdsKs p a n = s.holdsKs p a n := by simp [State.holdsKs]
@[simp] theorem takeRequest_holdsScope (op : BitVec 16) (r : Request) (c n : Nat) :
    (s.takeRequest op r).holdsScope c n = s.holdsScope c n := rfl
@[simp] theorem takeRequest_holdsModule (op : BitVec 16) (r : Request) (c : Nat) :
    (s.takeRequest op r).holdsModule c = s.holdsModule c := rfl

@[simp] theorem takeRequest_serves (op : BitVec 16) (r q : Request) : (s.takeRequest op r).serves q = s.serves q := by
  simp [State.serves, Port.chainOpen]

/-! ## Checks -/

@[simp] theorem guards_nil (a : Answer) : guards [] a = a := rfl
@[simp] theorem guards_false (st : Status) (l : List (Bool × Status)) (a : Answer) :
    guards ((false, st) :: l) a = guards l a := rfl
@[simp] theorem guards_true (st : Status) (l : List (Bool × Status)) (a : Answer) :
    guards ((true, st) :: l) a = .fail st [] := rfl

/-- Checks that all pass leave the answer as it is. -/
theorem guards_pass (l : List (Bool × Status)) (a : Answer) (h : ∀ x ∈ l, x.1 = false) : guards l a = a := by
  induction l with
  | nil => rfl
  | cons x xs ih =>
    have h1 := h x (by simp)
    have h2 := ih fun y hy => h y (by simp [hy])
    simp [guards, h1, h2]

/-- What a list of checks answers: the answer itself, or a failure with one of the list's statuses and no data. -/
theorem guards_cases (l : List (Bool × Status)) (a : Answer) :
    guards l a = a ∨ ∃ x ∈ l, x.1 = true ∧ guards l a = .fail x.2 [] := by
  induction l with
  | nil => exact .inl rfl
  | cons x xs ih =>
    cases h : x.1
    · simp only [guards, h, Bool.false_eq_true, if_false]
      rcases ih with h1 | ⟨y, hy, h2⟩
      · exact .inl h1
      · exact .inr ⟨y, by simp [hy], h2⟩
    · exact .inr ⟨x, by simp, h, by simp [guards, h]⟩

/-! ## Serving a request (R50 to R53) -/

/-- Steps 6, 7 and 9 pass for a request that executes. -/
theorem judge_executes {op : BitVec 16} {v : Bool} {r : Request} {s : State} (h : Executes v r s)
    (body : State → Answer) : judge op v r (s.takeRequest op r) body = body (s.takeRequest op r) := by
  obtain ⟨-, h1, h2, h3⟩ := h
  refine guards_pass _ _ fun x hx => ?_
  simp only [List.mem_cons, List.not_mem_nil, or_false] at hx
  rcases hx with rfl | rfl | rfl
  · exact h1
  · simp only [Port.skips, takeRequest_chainFailed, h2, Bool.false_and]
  · exact h3

/-- A request that executes and succeeds: its effect, then one reply. -/
theorem opcode_ok {op : BitVec 16} {v : Bool} {r : Request} {s t : State} {st : Status} {data : Bytes}
    {body : State → Answer} (h : Executes v r s) (hb : body (s.takeRequest op r) = .ok st data t) :
    opcode op v r s body = answered op r st data t := by
  simp [opcode, serve, h.1, judge_executes h, hb, answered]

/-- A request that executes and fails a check of its opcode: the status alone. -/
theorem opcode_fail {op : BitVec 16} {v : Bool} {r : Request} {s : State} {st : Status} {data : Bytes}
    {body : State → Answer} (h : Executes v r s) (hb : body (s.takeRequest op r) = .fail st data) :
    opcode op v r s body = answered op r st data (s.takeRequest op r) := by
  simp [opcode, serve, h.1, judge_executes h, hb, answered]

/-- A request that executes and is answered later. -/
theorem opcode_later {op : BitVec 16} {v : Bool} {r : Request} {s t : State}
    {body : State → Answer} (h : Executes v r s) (hb : body (s.takeRequest op r) = .later t) :
    opcode op v r s body = .next (t.runOn op r) := by
  simp [opcode, serve, h.1, judge_executes h, hb]

/-- Everything that executing a request can do. -/
theorem opcode_cases (op : BitVec 16) (v : Bool) (r : Request) (s : State) (body : State → Answer) :
    (s.serves r = false ∧ opcode op v r s body = .next s) ∨
    (∃ st data, opcode op v r s body = answered op r st data (s.takeRequest op r)) ∨
    (∃ st data t, body (s.takeRequest op r) = .ok st data t ∧ opcode op v r s body = answered op r st data t) ∨
    (∃ t, body (s.takeRequest op r) = .later t ∧ opcode op v r s body = .next (t.runOn op r)) := by
  unfold opcode serve
  cases hs : s.serves r
  · exact .inl ⟨rfl, rfl⟩
  · simp only [Bool.not_true, Bool.false_eq_true, if_false]
    rcases guards_cases _ (body (s.takeRequest op r)) with h | ⟨x, -, -, h⟩
    · unfold judge
      rw [h]
      cases hb : body (s.takeRequest op r) with
      | fail st data => exact .inr (.inl ⟨st, data, rfl⟩)
      | ok st data t => exact .inr (.inr (.inl ⟨st, data, t, rfl, rfl⟩))
      | later t => exact .inr (.inr (.inr ⟨t, rfl, rfl⟩))
    · unfold judge
      rw [h]
      exact .inr (.inl ⟨x.2, [], rfl⟩)

/-! ## Events of the environment -/

@[simp] theorem event_ready {s : State} (h : s.ready = true) (f : State → State) : event s f = .next (f s) := by
  simp [event, h]

theorem eventIf_true {s : State} {c : Bool} (h : s.ready = true) (hc : c = true) (f : State → State) :
    eventIf s c f = .next (f s) := by simp [eventIf, event, h, hc]

end Sys2Proof.Machine
end

