-- ==== Sys2Proof/Laws/Serve.lean ====
section
/-! SUPPORT. Every row that executes a request is one instance of `opcode`: what R50 to R53 say of all of them follows
from this. -/

namespace Sys2Proof.Machine

/-- A table entry's command serves its request under its own opcode, in headless running exactly where R62 says so. -/
def ServesAs (x : Nat × (Request → Instr)) : Prop :=
  ∃ (v : Bool) (body : Request → State → Answer), (∀ r s, exec (x.2 r) s = opcode (BitVec.ofNat 16 x.1) v r s (body r)) ∧
    v = decide (BitVec.ofNat 16 x.1 ∈ headlessOpcodes)

theorem portOpcodes_serve : ∀ x ∈ portOpcodes, ServesAs x := by
  simp only [portOpcodes, List.forall_mem_cons]
  repeat' apply And.intro
  all_goals first | exact ⟨_, _, fun _ _ => rfl, by decide⟩ | simp

theorem lineOpcodes_serve : ∀ x ∈ lineOpcodes, ServesAs x := by
  simp only [lineOpcodes, List.forall_mem_cons]
  repeat' apply And.intro
  all_goals first | exact ⟨_, _, fun _ _ => rfl, by decide⟩ | simp

theorem clientOpcodes_serve : ∀ x ∈ clientOpcodes, ServesAs x := by
  simp only [clientOpcodes, List.forall_mem_cons]
  repeat' apply And.intro
  all_goals first | exact ⟨_, _, fun _ _ => rfl, by decide⟩ | simp

theorem keyOpcodes_serve : ∀ x ∈ keyOpcodes, ServesAs x := by
  simp only [keyOpcodes, List.forall_mem_cons]
  repeat' apply And.intro
  all_goals first | exact ⟨_, _, fun _ _ => rfl, by decide⟩ | simp

theorem clockOpcodes_serve : ∀ x ∈ clockOpcodes, ServesAs x := by
  simp only [clockOpcodes, List.forall_mem_cons]
  repeat' apply And.intro
  all_goals first | exact ⟨_, _, fun _ _ => rfl, by decide⟩ | simp

theorem hubOpcodes_serve : ∀ x ∈ hubOpcodes, ServesAs x := by
  simp only [hubOpcodes, List.forall_mem_cons]
  repeat' apply And.intro
  all_goals first | exact ⟨_, _, fun _ _ => rfl, by decide⟩ | simp

/-- The command of an accepted request serves it under its opcode. -/
theorem instrOf_serves {op : BitVec 16} {r : Request} {i : Instr} (h : instrOf op r = some i) :
    ∃ (v : Bool) (body : State → Answer), (∀ s, exec i s = opcode op v r s body) ∧ v = decide (op ∈ headlessOpcodes) := by
  unfold instrOf at h
  simp only [Option.map_eq_some_iff] at h
  obtain ⟨x, hx, rfl⟩ := h
  have hm := List.mem_of_find?_eq_some hx
  have hp : x.1 = op.toNat := by simpa using List.find?_some hx
  have hs : ServesAs x := by
    simp only [List.mem_append] at hm
    rcases hm with ((((hm | hm) | hm) | hm) | hm) | hm
    · exact portOpcodes_serve x hm
    · exact lineOpcodes_serve x hm
    · exact clientOpcodes_serve x hm
    · exact keyOpcodes_serve x hm
    · exact clockOpcodes_serve x hm
    · exact hubOpcodes_serve x hm
  obtain ⟨v, body, h1, h2⟩ := hs
  have e : BitVec.ofNat 16 x.1 = op := by rw [hp]; simp
  rw [e] at h2
  exact ⟨v, body r, fun s => by rw [h1 r s, e], h2⟩

end Sys2Proof.Machine
end

