-- ==== Sys2Proof/Laws/Settings.lean ====
section
/-! SUPPORT. Every shared operation that is no configuration write and no reset leaves the settings as they are. -/

namespace Sys2Proof.Machine

theorem vector_map_set {α β : Type} {n : Nat} (v : Vector α n) (i : Fin n) (x : α) (f : α → β) (h : f x = f v[i]) :
    (v.set i x).map f = v.map f := by
  apply Vector.ext
  intro k hk
  simp only [Vector.getElem_map, Vector.getElem_set]
  split
  · rename_i h1
    subst h1
    exact h
  · rfl

/-- A change of one engine that keeps its staged copy keeps the settings. -/
@[simp] theorem State.updEng_settings (s : State) (e : Eng) (f : Engine → Engine)
    (h : ∀ x, (f x).params.staged = x.params.staged) : (s.updEng e f).settings = s.settings := by
  have := vector_map_set s.engines e (f s.engines[e]) (fun (x : Engine) => x.params.staged) (h _)
  simp only [State.settings, State.updEng] at *
  rw [this]

/-- A change of one port that keeps its tenancy keeps the settings. -/
@[simp] theorem State.updPort_settings (s : State) (p : Hp) (f : Port → Port)
    (h : ∀ x, (f x).tenancy = x.tenancy) : (s.updPort p f).settings = s.settings := by
  have := vector_map_set s.ports p (f s.ports[p]) (fun (x : Port) => x.tenancy) (h _)
  simp only [State.settings, State.updPort] at *
  rw [this]

/-- A change of one lane that keeps its staged equalisation keeps the settings. -/
@[simp] theorem State.updLane_settings (s : State) (l : LaneNo) (f : Lane → Lane)
    (h : ∀ x, (f x).eq.staged = x.eq.staged) : (s.updLane l f).settings = s.settings := by
  have := vector_map_set s.lanes l (f s.lanes[l]) (fun (x : Lane) => x.eq.staged) (h _)
  simp only [State.settings, State.updLane] at *
  rw [this]

/-- A change of one client port that keeps its staged parameters keeps the settings. -/
@[simp] theorem State.updCport_settings (s : State) (c : Cp) (f : Cport → Cport)
    (h : ∀ x, (f x).params.staged = x.params.staged) : (s.updCport c f).settings = s.settings := by
  have := vector_map_set s.cports c (f s.cports[c]) (fun (x : Cport) => x.params.staged) (h _)
  simp only [State.settings, State.updCport] at *
  rw [this]

/-- A change of one client port whose staged parameters stand keeps the settings. -/
theorem State.updCport_settings_at (s : State) (c : Cp) (f : Cport → Cport)
    (h : (f (s.cport c)).params.staged = (s.cport c).params.staged) : (s.updCport c f).settings = s.settings := by
  have := vector_map_set s.cports c (f s.cports[c]) (fun (x : Cport) => x.params.staged) h
  simp only [State.settings, State.updCport] at *
  rw [this]

/-- A fold of operations that keep the settings keeps them. -/
@[simp] theorem foldl_settings {α : Type} (l : List α) (f : State → α → State)
    (h : ∀ s x, (f s x).settings = s.settings) (s : State) : (l.foldl f s).settings = s.settings := by
  induction l generalizing s with
  | nil => rfl
  | cons x xs ih => rw [List.foldl_cons, ih, h]

/-! A change of one field, seen from the settings. -/

@[simp] theorem settings_fresh (s : State) (x : Nat) : ({ s with fresh := x } : State).settings = s.settings := rfl

@[simp] theorem settings_moduleTime (s : State) (x : BitVec 48) : ({ s with moduleTime := x } : State).settings = s.settings := rfl

@[simp] theorem settings_power (s : State) (x : PowerState) : ({ s with power := x } : State).settings = s.settings := rfl

@[simp] theorem settings_commits (s : State) (x : List Commit) : ({ s with commits := x } : State).settings = s.settings := rfl

@[simp] theorem settings_immediate (s : State) (x : List Immediate) : ({ s with immediate := x } : State).settings = s.settings := rfl

@[simp] theorem settings_collector (s : State) (x : Collector) : ({ s with collector := x } : State).settings = s.settings := rfl

@[simp] theorem settings_seenTokens (s : State) (x : List (BitVec 32)) : ({ s with seenTokens := x } : State).settings = s.settings := rfl

@[simp] theorem settings_turn (s : State) (x : Hp) : ({ s with turn := x } : State).settings = s.settings := rfl

@[simp] theorem settings_jtag (s : State) (x : JtagState) : ({ s with jtag := x } : State).settings = s.settings := rfl

@[simp] theorem settings_pending (s : State) (x : List Instr) : ({ s with pending := x } : State).settings = s.settings := rfl

@[simp] theorem settings_spent (s : State) (x : List (Nat × Hp)) : ({ s with spent := x } : State).settings = s.settings := rfl

@[simp] theorem settings_records (s : State) (x : List FactoryRecord) : ({ s with records := x } : State).settings = s.settings := rfl

@[simp] theorem settings_flows (s : State) (x : FlowState) (h : x.sealing = s.flows.sealing) :
    ({ s with flows := x } : State).settings = s.settings := by
  simp only [State.settings, h]

@[simp] theorem settings_keys (s : State) (x : KeyState) (h : x.ownerKey = s.keys.ownerKey) :
    ({ s with keys := x } : State).settings = s.settings := by
  simp only [State.settings, h]

@[simp] theorem settings_hw (s : State) (x : HwState) (h : x.config.staged = s.hw.config.staged) :
    ({ s with hw := x } : State).settings = s.settings := by
  simp only [State.settings, h]

@[simp] theorem settings_time (s : State) (x : TimeState) (h : x.config.staged = s.time.config.staged) :
    ({ s with time := x } : State).settings = s.settings := by
  simp only [State.settings, h]

@[simp] theorem settings_weir (s : State) (x : WeirState) (h : x.policy = s.weir.policy) :
    ({ s with weir := x } : State).settings = s.settings := by
  simp only [State.settings, h]

@[simp] theorem settings_sup (s : State) (x : SupState) (h : x.flags = s.sup.flags) :
    ({ s with sup := x } : State).settings = s.settings := by
  simp only [State.settings, h]

@[simp] theorem settings_gauge (s : State) (x : GaugeState) (h : x.seq.staged = s.gauge.seq.staged)
    (h2 : x.tol = s.gauge.tol) (h3 : x.disagreeN = s.gauge.disagreeN) :
    ({ s with gauge := x } : State).settings = s.settings := by
  simp only [State.settings, h, h2, h3]

@[simp] theorem settings_mem (s : State) (x : MemState) (h : x.scrubRate = s.mem.scrubRate)
    (h2 : x.corrThr = s.mem.corrThr) : ({ s with mem := x } : State).settings = s.settings := by
  simp only [State.settings, h, h2]

@[simp] theorem ite_settings (c : Prop) [Decidable c] (s t : State) :
    (if c then s else t).settings = if c then s.settings else t.settings := by split <;> rfl

/-- An operation that keeps the settings, done or not. -/
theorem ite_settings_same {c : Prop} [Decidable c] {s : State} (t : State) (h : t.settings = s.settings) :
    (if c then t else s).settings = s.settings := by
  split
  · exact h
  · rfl

@[simp] theorem Lane.marker_eq (l : Lane) (ok : Bool) : (l.marker ok).eq = l.eq := by
  cases ok <;> rfl

@[simp] theorem Cport.drain_params (p : Cport) : p.drain.params = p.params := by
  unfold Cport.drain
  split <;> rfl

@[simp] theorem GaugeState.advance_keeps (g : GaugeState) (n : Nat) :
    (g.advance n).seq = g.seq ∧ (g.advance n).tol = g.tol ∧ (g.advance n).disagreeN = g.disagreeN := by
  unfold GaugeState.advance
  split
  · exact ⟨rfl, rfl, rfl⟩
  · split <;> exact ⟨rfl, rfl, rfl⟩

@[simp] theorem Cport.reform_params (p : Cport) (b : Bool) : (p.reform b).params = p.params := by
  cases b <;> rfl

@[simp] theorem SupState.startAuto_flags (p : SupState) (u : Fin 2) (now : BitVec 48) :
    (p.startAuto u now).flags = p.flags := by
  cases p; rfl

@[simp] theorem Engine.take_staged (x : Engine) (classes : BitVec 16) (side : Option HeldSide) :
    (x.take classes side).params.staged = x.params.staged := by
  cases x; rfl

@[simp] theorem Lane.tick_eq (l : Lane) (n : Nat) : (l.tick n).eq = l.eq := by
  unfold Lane.tick
  dsimp only
  (repeat' split) <;> rfl

@[simp] theorem Engine.tick_params (x : Engine) : x.tick.params = x.params := by
  unfold Engine.tick
  dsimp only
  split <;> (unfold Engine.ramps; rfl)

@[simp] theorem Engine.loopBack_params (x : Engine) : x.loopBack.params = x.params := rfl

@[simp] theorem Engine.switchLine_params (x : Engine) (old new : EngineParams) :
    (x.switchLine old new).params = x.params := by
  unfold Engine.switchLine
  split <;> rfl

@[simp] theorem Cport.take_staged (p : Cport) (side : Option (HeldSide × Eng)) :
    (p.take side).params.staged = p.params.staged := rfl

/-- A change of every engine that keeps its parameters keeps the settings. -/
@[simp] theorem settings_engines_map (s : State) (f : Engine → Engine)
    (h : ∀ x, (f x).params.staged = x.params.staged) :
    ({ s with engines := s.engines.map f } : State).settings = s.settings := by
  simp only [State.settings, Vector.map_map]
  congr 2
  funext x
  exact h x

/-- An answer's state, where it has one, has the settings of `s`. -/
def Answer.Keeps (s : State) : Answer → Prop
  | .fail _ _ => True
  | .ok _ _ t => t.settings = s.settings
  | .later t => t.settings = s.settings

theorem Cport.nextRecord_params (p : Cport) : p.nextRecord.1.params = p.params := by
  unfold Cport.nextRecord
  (repeat' split) <;> rfl

theorem Cport.fillTile_params (k : Nat) (d : TileDraft) (p : Cport) : (p.fillTile k d).1.params = p.params := by
  induction k generalizing p d with
  | zero => rfl
  | succ n ih =>
    unfold Cport.fillTile
    (repeat' split) <;> first | rfl | (rw [ih]; exact Cport.nextRecord_params p) | rw [ih]

theorem Cport.fillTiles_params (k : Nat) (p : Cport) : (p.fillTiles k).1.params = p.params := by
  induction k generalizing p with
  | zero => rfl
  | succ n ih => simp only [Cport.fillTiles, ih, Cport.fillTile_params]

@[simp] theorem State.skip_settings (s : State) :
    (State.skip s).settings = s.settings := by
  unfold State.skip; simp

@[simp] theorem State.count_settings (s : State) (k : CounterKind) (inst : Nat) (n : Nat) :
    (State.count s k inst n).settings = s.settings := by
  unfold State.count; simp

@[simp] theorem State.deliver_settings (s : State) (pl : Place) (ev : Event) (p : Hp) :
    (State.deliver s pl ev p).settings = s.settings := by
  unfold State.deliver; simp

@[simp] theorem State.noteFlight_settings (s : State) (code : BitVec 16) :
    (State.noteFlight s code).settings = s.settings := by
  unfold State.noteFlight; simp

@[simp] theorem State.raise_settings (s : State) (code : BitVec 16) (pl : Place) (data : Bytes) :
    (State.raise s code pl data).settings = s.settings := by
  unfold State.raise; simp

@[simp] theorem State.cmdDone_settings (s : State) (d : Deferred) (st : Status) :
    (State.cmdDone s d st).settings = s.settings := by
  unfold State.cmdDone; simp

@[simp] theorem State.expressWork_settings (s : State) (d : Dir) (js : List Job) (blocks : Nat) :
    (State.expressWork s d js blocks).settings = s.settings := by
  unfold State.expressWork; dsimp only; split <;> simp

@[simp] theorem State.cmacWork_settings (s : State) (key : Bytes) (n : Nat) :
    (State.cmacWork s key n).settings = s.settings := by
  unfold State.cmacWork; simp

@[simp] theorem State.authWork_settings (s : State) (a : Option AuthContext) (n : Nat) :
    (State.authWork s a n).settings = s.settings := by
  unfold State.authWork; (repeat' split) <;> simp_all

@[simp] theorem State.journalled_settings (s : State) :
    (State.journalled s).settings = s.settings := by
  unfold State.journalled; simp

@[simp] theorem State.conclude_settings (s : State) (op : BitVec 16) (r : Request) (st : Status) (data : Bytes) :
    (State.conclude s op r st data).settings = s.settings := by
  unfold State.conclude; simp


@[simp] theorem State.takeRequest_settings (s : State) (op : BitVec 16) (r : Request) :
    (State.takeRequest s op r).settings = s.settings := by
  unfold State.takeRequest; simp


@[simp] theorem State.runOn_settings (s : State) (op : BitVec 16) (r : Request) :
    (State.runOn s op r).settings = s.settings := by
  unfold State.runOn; simp

theorem guards_keeps (s : State) (l : List (Bool × Status)) (a : Answer) (h : a.Keeps s) : (guards l a).Keeps s := by
  induction l with
  | nil => exact h
  | cons x xs ih => unfold guards; split <;> first | trivial | exact ih

theorem serve_settings (op : BitVec 16) (b : Bool) (r : Request) (s : State) (body : State → Answer)
    (h : (body (s.takeRequest op r)).Keeps (s.takeRequest op r)) : (serve op b r s body).settings = s.settings := by
  unfold serve
  split
  · rfl
  · have hj : (judge op b r (s.takeRequest op r) body).Keeps (s.takeRequest op r) := guards_keeps _ _ _ h
    dsimp only
    split <;> rename_i heq <;> rw [heq] at hj
    · simp
    · rw [State.conclude_settings, hj, State.takeRequest_settings]
    · rw [State.runOn_settings, hj, State.takeRequest_settings]

@[simp] theorem State.rehold_settings (s : State) (e : Eng) (cause : Byte) :
    (State.rehold s e cause).settings = s.settings := by
  unfold State.rehold; simp

@[simp] theorem State.reholdDark_settings (s : State) (e : Eng) :
    (State.reholdDark s e).settings = s.settings := by
  unfold State.reholdDark; simp

@[simp] theorem State.maskSmall_settings (s : State) (e : Eng) :
    (State.maskSmall s e).settings = s.settings := by
  unfold State.maskSmall; simp

@[simp] theorem State.lofRaise_settings (s : State) (e : Eng) :
    (State.lofRaise s e).settings = s.settings := by
  unfold State.lofRaise; simp

@[simp] theorem State.lofClear_settings (s : State) (e : Eng) (data : Bytes) :
    (State.lofClear s e data).settings = s.settings := by
  unfold State.lofClear; simp

@[simp] theorem State.deframerOff_settings (s : State) (e : Eng) :
    (State.deframerOff s e).settings = s.settings := by
  unfold State.deframerOff; simp

@[simp] theorem State.setLos_settings (s : State) (e : Eng) (on : Bool) :
    (State.setLos s e on).settings = s.settings := by
  unfold State.setLos; simp

@[simp] theorem State.fecReset_settings (s : State) (e : Eng) :
    (State.fecReset s e).settings = s.settings := by
  unfold State.fecReset; simp

@[simp] theorem State.rxOff_settings (s : State) (e : Eng) :
    (State.rxOff s e).settings = s.settings := by
  unfold State.rxOff; simp

@[simp] theorem State.rxWait_settings (s : State) (e : Eng) :
    (State.rxWait s e).settings = s.settings := by
  unfold State.rxWait; simp

@[simp] theorem State.relock_settings (s : State) (e : Eng) (cause : Byte) (left : Byte) :
    (State.relock s e cause left).settings = s.settings := by
  unfold State.relock; simp

@[simp] theorem State.rxFreq_settings (s : State) (e : Eng) (fast : Bool) :
    (State.rxFreq s e fast).settings = s.settings := by
  unfold State.rxFreq; simp

@[simp] theorem State.twinFollow_settings (s : State) :
    (State.twinFollow s).settings = s.settings := by
  unfold State.twinFollow; simp

@[simp] theorem State.txStart_settings (s : State) (e : Eng) (lead : BitVec 32) :
    (State.txStart s e lead).settings = s.settings := by
  unfold State.txStart; simp

@[simp] theorem State.txEnable_settings (s : State) (e : Eng) (newFn : Bool) (lead : BitVec 32) :
    (State.txEnable s e newFn lead).settings = s.settings := by
  unfold State.txEnable; simp

@[simp] theorem State.txStop_settings (s : State) (e : Eng) :
    (State.txStop s e).settings = s.settings := by
  unfold State.txStop; simp

@[simp] theorem State.fastQuench_settings (s : State) (e : Eng) (reason : Byte) (ended : Bool) :
    (State.fastQuench s e reason ended).settings = s.settings := by
  unfold State.fastQuench; simp

@[simp] theorem State.quench_settings (s : State) (e : Eng) (reason : Byte) :
    (State.quench s e reason).settings = s.settings := by
  unfold State.quench; dsimp only; split <;> simp

@[simp] theorem State.txPrepare_settings (s : State) (e : Eng) (old : EngineParams) (new : EngineParams) :
    (State.txPrepare s e old new).settings = s.settings := by
  unfold State.txPrepare; simp

@[simp] theorem State.txLeave_settings (s : State) (e : Eng) (old : EngineParams) :
    (State.txLeave s e old).settings = s.settings := by
  unfold State.txLeave; dsimp only; split <;> simp

@[simp] theorem State.txEnter_settings (s : State) (e : Eng) :
    (State.txEnter s e).settings = s.settings := by
  unfold State.txEnter; dsimp only; split <;> simp

@[simp] theorem State.txSwitch_settings (s : State) (e : Eng) (old : EngineParams) (new : EngineParams) :
    (State.txSwitch s e old new).settings = s.settings := by
  unfold State.txSwitch; simp

@[simp] theorem State.txApply_settings (s : State) (e : Eng) (old : EngineParams) (new : EngineParams) :
    (State.txApply s e old new).settings = s.settings := by
  unfold State.txApply; simp

@[simp] theorem State.fecEffort_settings (s : State) (e : Eng) :
    (State.fecEffort s e).settings = s.settings := by
  unfold State.fecEffort; simp

@[simp] theorem State.idleEffort_settings (s : State) (e : Eng) :
    (State.idleEffort s e).settings = s.settings := by
  unfold State.idleEffort; simp

@[simp] theorem State.linkApply_settings (s : State) (e : Eng) (new : EngineParams) :
    (State.linkApply s e new).settings = s.settings := by
  unfold State.linkApply; simp

@[simp] theorem State.rxPrepare_settings (s : State) (e : Eng) (old : EngineParams) (new : EngineParams) :
    (State.rxPrepare s e old new).settings = s.settings := by
  unfold State.rxPrepare; dsimp only
  rw [State.updEng_settings]
  · exact ite_settings_same _ (State.updEng_settings _ _ _ fun _ => rfl)
  · intro x; rfl

@[simp] theorem State.rxSwitch_settings (s : State) (e : Eng) (old : EngineParams) (new : EngineParams) :
    (State.rxSwitch s e old new).settings = s.settings := by
  unfold State.rxSwitch; dsimp only
  have h : (if old.line != new.line then s.updEng e fun x => x.switchLine old new else s).settings = s.settings :=
    ite_settings_same _ (State.updEng_settings _ _ _ fun x => by rw [Engine.switchLine_params])
  have h2 (y : State) : (y.updEng e Engine.selfLit).settings = y.settings :=
    State.updEng_settings y e Engine.selfLit fun _ => rfl
  simp only [ite_settings, State.rxFreq_settings, h2] at h ⊢
  simp only [h, ite_self]

@[simp] theorem State.rxApply_settings (s : State) (e : Eng) (old : EngineParams) (new : EngineParams) :
    (State.rxApply s e old new).settings = s.settings := by
  unfold State.rxApply; simp

@[simp] theorem State.atBoundary_settings (s : State) (f : State → State)
    (h : ∀ x, (f x).settings = x.settings) :
    (State.atBoundary s f).settings = s.settings := by
  unfold State.atBoundary; exact (h _)

@[simp] theorem State.keepCal_settings (s : State) (e : Eng) (classes : BitVec 16) :
    (State.keepCal s e classes).settings = s.settings := by
  unfold State.keepCal; simp

@[simp] theorem State.setAdc_settings (s : State) (e : Eng) (conv : Fin 4) (a : Adc) :
    (State.setAdc s e conv a).settings = s.settings := by
  unfold State.setAdc; simp

@[simp] theorem State.calVerdict_settings (s : State) (e : Eng) (conv : Fin 4) (a : Adc) (t : Fin 256) :
    (State.calVerdict s e conv a t).settings = s.settings := by
  unfold State.calVerdict; (repeat' split) <;> simp_all

@[simp] theorem State.adcApply_settings (s : State) (e : Eng) (conv : Fin 4) :
    (State.adcApply s e conv).settings = s.settings := by
  unfold State.adcApply; dsimp only; (repeat' split) <;> simp

@[simp] theorem State.dacApply_settings (s : State) (e : Eng) (d : Fin 4) :
    (State.dacApply s e d).settings = s.settings := by
  unfold State.dacApply; dsimp only; split <;> simp

@[simp] theorem State.calHold_settings (s : State) (e : Eng) (on : Bool) :
    (State.calHold s e on).settings = s.settings := by
  unfold State.calHold; simp

@[simp] theorem State.updChannel_settings (s : State) (c : Fin 8) (f : Channel → Channel) :
    (State.updChannel s c f).settings = s.settings := by
  unfold State.updChannel; simp

@[simp] theorem State.putWord_settings (s : State) (wa : Nat) (w : MemWord) :
    (State.putWord s wa w).settings = s.settings := by
  unfold State.putWord; simp

@[simp] theorem State.memWrite_settings (s : State) (wa : Nat) (d : BitVec 128) :
    (State.memWrite s wa d).settings = s.settings := by
  unfold State.memWrite; simp

@[simp] theorem State.updLine_settings (s : State) (n : Nat) (f : CacheLine → CacheLine) :
    (State.updLine s n f).settings = s.settings := by
  unfold State.updLine; simp

@[simp] theorem State.mergeWrite_settings (s : State) (wa : Nat) (d : BitVec 128) (mask : BitVec 16) :
    (State.mergeWrite s wa d mask).settings = s.settings := by
  unfold State.mergeWrite; dsimp only; split <;> simp

@[simp] theorem State.markInvalid_settings (s : State) (n : Nat) :
    (State.markInvalid s n).settings = s.settings := by
  unfold State.markInvalid; dsimp only; split <;> simp

@[simp] theorem State.lostWord_settings (s : State) (wa : Nat) (stored : BitVec 128) :
    (State.lostWord s wa stored).1.settings = s.settings := by
  unfold State.lostWord; dsimp only; (repeat' split) <;> simp

@[simp] theorem State.logError_settings (s : State) (x : MemLogEntry) :
    (State.logError s x).settings = s.settings := by
  unfold State.logError; simp

@[simp] theorem State.wordCorrected_settings (s : State) (wa : Nat) (d : BitVec 128) :
    (State.wordCorrected s wa d).settings = s.settings := by
  unfold State.wordCorrected; simp

@[simp] theorem State.memRead_settings (s : State) (wa : Nat) (reader : Byte) :
    (State.memRead s wa reader).1.settings = s.settings := by
  unfold State.memRead; dsimp only; (repeat' split) <;> simp

@[simp] theorem State.retire_settings (s : State) (m : MergeEntry) :
    (State.retire s m).settings = s.settings := by
  unfold State.retire; simp

@[simp] theorem State.sweepDone_settings (s : State) (time : Bytes) :
    (State.sweepDone s time).settings = s.settings := by
  unfold State.sweepDone; simp

@[simp] theorem State.eddyAdvance_settings (s : State) :
    (State.eddyAdvance s).settings = s.settings := by
  unfold State.eddyAdvance; simp

@[simp] theorem State.setSlot_settings (s : State) (n : Nat) (k : KeySlot) :
    (State.setSlot s n k).settings = s.settings := by
  unfold State.setSlot; simp

@[simp] theorem State.deriveWork_settings (s : State) (label : Bytes) :
    (State.deriveWork s label).settings = s.settings := by
  unfold State.deriveWork; simp

@[simp] theorem State.unwrap_settings (s : State) (p : Hp) (kind : Byte) (slot : Nat) (gen : BitVec 16) (blob : Bytes) :
    (State.unwrap s p kind slot gen blob).1.settings = s.settings := by
  unfold State.unwrap; dsimp only; (repeat' split) <;> simp

@[simp] theorem State.loadKeys_settings (s : State) (vs : List (Nat × KeyValue)) :
    (State.loadKeys s vs).settings = s.settings := by
  unfold State.loadKeys; simp

@[simp] theorem State.keysUsable_settings (s : State) (p : Hp) (slots : List Nat) :
    (State.keysUsable s p slots).settings = s.settings := by
  unfold State.keysUsable; dsimp only; split <;> simp

@[simp] theorem State.restartCipher_settings (s : State) (n : Nat) (tx : Bool) :
    (State.restartCipher s n tx).settings = s.settings := by
  unfold State.restartCipher; simp

@[simp] theorem State.rewriteTx_settings (s : State) (n : Nat) :
    (State.rewriteTx s n).settings = s.settings := by
  unfold State.rewriteTx; dsimp only; split <;> simp

@[simp] theorem State.rewriteRx_settings (s : State) (n : Nat) :
    (State.rewriteRx s n).settings = s.settings := by
  unfold State.rewriteRx; simp

@[simp] theorem State.noteRewrite_settings (s : State) (tok : BitVec 32) (slots : List Nat) :
    (State.noteRewrite s tok slots).settings = s.settings := by
  unfold State.noteRewrite; simp

@[simp] theorem State.retireToken_settings (s : State) (tok : BitVec 32) :
    (State.retireToken s tok).settings = s.settings := by
  unfold State.retireToken; simp

@[simp] theorem State.keysTx_settings (s : State) (tok : BitVec 32) :
    (State.keysTx s tok).settings = s.settings := by
  unfold State.keysTx; simp

@[simp] theorem State.stampRewrites_settings (s : State) (p : Rewrite → Bool) :
    (State.stampRewrites s p).settings = s.settings := by
  unfold State.stampRewrites; simp

@[simp] theorem State.keysRx_settings (s : State) (tok : BitVec 32) :
    (State.keysRx s tok).settings = s.settings := by
  unfold State.keysRx; simp

@[simp] theorem State.keysBoth_settings (s : State) (slots : List Nat) :
    (State.keysBoth s slots).settings = s.settings := by
  unfold State.keysBoth; simp

@[simp] theorem State.endRewrite_settings (s : State) (w : Rewrite) :
    (State.endRewrite s w).settings = s.settings := by
  unfold State.endRewrite; dsimp only; split <;> simp

@[simp] theorem State.erasePoint_settings (s : State) (j : EraseJob) :
    (State.erasePoint s j).settings = s.settings := by
  unfold State.erasePoint; exact foldl_settings _ _ (fun _ _ => by simp) s

@[simp] theorem State.erasePoints_settings (s : State) :
    (State.erasePoints s).settings = s.settings := by
  unfold State.erasePoints; simp

@[simp] theorem State.eraseDone_settings (s : State) (j : EraseJob) :
    (State.eraseDone s j).settings = s.settings := by
  unfold State.eraseDone; simp only [State.cmdDone_settings, State.raise_settings]; exact foldl_settings _ _ (fun _ _ => by simp) s

@[simp] theorem State.takePortKey_settings (s : State) (p : Hp) (kind : Byte) (key : Bytes) :
    (State.takePortKey s p kind key).settings = s.settings := by
  unfold State.takePortKey; dsimp only; split <;> simp

@[simp] theorem State.erasePortKeys_settings (s : State) (p : Hp) (kek : Bool) (cak : Bool) :
    (State.erasePortKeys s p kek cak).settings = s.settings := by
  unfold State.erasePortKeys; simp

@[simp] theorem State.updDir_settings (s : State) (d : Dir) (f : FlowDir → FlowDir) :
    (State.updDir s d f).settings = s.settings := by
  unfold State.updDir; dsimp only; split <;> simp

@[simp] theorem State.readWord_settings (s : State) (wa : Nat) (reader : Byte) :
    (State.readWord s wa reader).1.settings = s.settings := by
  unfold State.readWord; dsimp only; split <;> simp

@[simp] theorem State.findKey_settings (s : State) (k : Bytes) (reader : Byte) (l : List Nat) :
    (s.findKey k reader l).1.settings = s.settings := by
  induction l generalizing s with
  | nil => rfl
  | cons wa rest ih =>
    unfold State.findKey; split
    · dsimp only; split
      · split
        · simp
        · rw [ih]; simp
      · rw [ih]; simp
    · rw [ih]

@[simp] theorem State.fetchHot_settings (s : State) (n : Nat) :
    (State.fetchHot s n).1.settings = s.settings := by
  unfold State.fetchHot; dsimp only; split <;> simp

@[simp] theorem State.foldDrop_settings (s : State) (n : Nat) (w : Nat) (o : Nat) (delta : Nat) (ovfBit : Nat) :
    (State.foldDrop s n w o delta ovfBit).1.settings = s.settings := by
  unfold State.foldDrop; dsimp only; split <;> simp

@[simp] theorem State.writeBack_settings (s : State) (l : CacheLine) :
    (State.writeBack s l).settings = s.settings := by
  unfold State.writeBack; simp

@[simp] theorem State.evict_settings (s : State) (d : Dir) :
    (State.evict s d).settings = s.settings := by
  unfold State.evict; (repeat' split) <;> simp_all

@[simp] theorem State.uncache_settings (s : State) (n : Nat) :
    (State.uncache s n).settings = s.settings := by
  unfold State.uncache; (repeat' split) <;> simp_all

@[simp] theorem State.install_settings (s : State) (d : Dir) (n : Nat) :
    (State.install s d n).settings = s.settings := by
  unfold State.install; dsimp only; split <;> simp

@[simp] theorem State.useHot_settings (s : State) (n : Nat) :
    (State.useHot s n).1.settings = s.settings := by
  unfold State.useHot; (repeat' split) <;> simp_all

@[simp] theorem State.touch_settings (s : State) (n : Nat) :
    (State.touch s n).settings = s.settings := by
  unfold State.touch; simp

@[simp] theorem State.setHot_settings (s : State) (n : Nat) (h : Hot) :
    (State.setHot s n h).settings = s.settings := by
  unfold State.setHot; (repeat' split) <;> simp_all

@[simp] theorem State.addEntry_settings (s : State) (e : Bytes) :
    (State.addEntry s e).settings = s.settings := by
  unfold State.addEntry; split
  · rfl
  · exact State.memWrite_settings _ _ _

@[simp] theorem State.dropEntry_settings (s : State) (e : Bytes) :
    (State.dropEntry s e).settings = s.settings := by
  unfold State.dropEntry; dsimp only; split
  · simp
  · exact (State.memWrite_settings _ _ _).trans (State.findKey_settings _ _ _ _)

@[simp] theorem State.clearCold_settings (s : State) (n : Nat) :
    (State.clearCold s n).settings = s.settings := by
  unfold State.clearCold; simp

@[simp] theorem State.setFlags_settings (s : State) (n : Nat) (flags : Byte) :
    (State.setFlags s n flags).settings = s.settings := by
  unfold State.setFlags; dsimp only; split <;> simp

@[simp] theorem State.loadCtx_settings (s : State) (n : Nat) (h : Hot) (flags : Byte) (reload : Bool) :
    (State.loadCtx s n h flags reload).settings = s.settings := by
  unfold State.loadCtx; simp

@[simp] theorem State.rekeyCtx_settings (s : State) (e : Bytes) :
    (State.rekeyCtx s e).settings = s.settings := by
  unfold State.rekeyCtx; dsimp only; split <;> simp

@[simp] theorem State.flowOp_settings (s : State) (op : FlowOp) :
    (State.flowOp s op).settings = s.settings := by
  unfold State.flowOp; (repeat' split) <;> simp_all

@[simp] theorem State.flowsCommit_settings (s : State) (tok : BitVec 32) (egress : Bool) :
    (State.flowsCommit s tok egress).settings = s.settings := by
  unfold State.flowsCommit; simp

@[simp] theorem State.seekAll_settings (s : State) (es : List Bytes) :
    (State.seekAll s es).settings = s.settings := by
  unfold State.seekAll; simp

@[simp] theorem State.touchAll_settings (s : State) (es : List Bytes) :
    (State.touchAll s es).settings = s.settings := by
  unfold State.touchAll; simp

@[simp] theorem State.fillDone_settings (s : State) (j : FillJob) :
    (State.fillDone s j).settings = s.settings := by
  unfold State.fillDone; dsimp only
  have h (f : Hot) (l : List Nat) (a : State × Bool) :
      (l.foldl (fun a i => fillStep f j.flags a (j.first + i)) a).1.settings = a.1.settings := by
    induction l generalizing a with
    | nil => rfl
    | cons x xs ih => rw [List.foldl_cons, ih]; unfold fillStep; dsimp only; split <;> simp
  simp [h]

@[simp] theorem State.ctxReadWord_settings (s : State) (n : Nat) (w : Nat) :
    (State.ctxReadWord s n w).1.settings = s.settings := by
  unfold State.ctxReadWord; dsimp only; (repeat' split) <;> simp

@[simp] theorem State.countTiles_settings (s : State) (e : Eng) (d : Dir) (cls : Nat) (n : Nat) :
    (State.countTiles s e d cls n).settings = s.settings := by
  unfold State.countTiles; simp

@[simp] theorem State.settleTiles_settings (s : State) (c : Cp) (keep : Option Nat) :
    (State.settleTiles s c keep).settings = s.settings := by
  unfold State.settleTiles; simp

@[simp] theorem State.fateTiles_settings (s : State) (c : Cp) (ids : List Nat) (cls : Nat) (keep : Option Nat) :
    (State.fateTiles s c ids cls keep).settings = s.settings := by
  unfold State.fateTiles; simp

@[simp] theorem State.selectTag_settings (s : State) (c : Cp) (d : Dir) (len : Nat) (t1 : BitVec 48) :
    (State.selectTag s c d len t1).1.settings = s.settings := by
  unfold State.selectTag; dsimp only; (repeat' split) <;> (try simp) <;> (try simp only [State.settings])

@[simp] theorem State.logTag_settings (s : State) (x : TagEntry) :
    (State.logTag s x).settings = s.settings := by
  unfold State.logTag; simp

@[simp] theorem State.finishTag_settings (s : State) (mark : Option TagMark) (c : Cp) (d : Dir) (native : Bool) (drop : Nat) :
    (State.finishTag s mark c d native drop).settings = s.settings := by
  unfold State.finishTag; dsimp only; split <;> simp

@[simp] theorem State.updDomain_settings (s : State) (d : Fin 2) (f : Domain → Domain) :
    (State.updDomain s d f).settings = s.settings := by
  unfold State.updDomain; simp

@[simp] theorem State.updTpo_settings (s : State) (n : Fin 4) (f : Tpo → Tpo) :
    (State.updTpo s n f).settings = s.settings := by
  unfold State.updTpo; simp

@[simp] theorem State.tpoForward_settings (s : State) (n : Fin 4) (now : Nat) :
    (State.tpoForward s n now).settings = s.settings := by
  unfold State.tpoForward; simp

@[simp] theorem State.tpoStep_settings (s : State) (d : Fin 2) (amount : Int) :
    (State.tpoStep s d amount).settings = s.settings := by
  unfold State.tpoStep; apply foldl_settings; intro s n; dsimp only; (repeat' split) <;> simp

@[simp] theorem State.lateCommits_settings (s : State) (old : Nat) (new : Nat) :
    (State.lateCommits s old new).settings = s.settings := by
  unfold State.lateCommits; simp

@[simp] theorem State.stepDomain_settings (s : State) (d : Fin 2) (amount : Int) (cause : Byte) :
    (State.stepDomain s d amount cause).settings = s.settings := by
  unfold State.stepDomain; simp

@[simp] theorem State.advanceTime_settings (s : State) :
    (State.advanceTime s).settings = s.settings := by
  unfold State.advanceTime; simp

@[simp] theorem State.servoSteps_settings (s : State) :
    (State.servoSteps s).settings = s.settings := by
  unfold State.servoSteps; apply foldl_settings; intro s d; split <;> simp

@[simp] theorem State.servoOffset_settings (s : State) (d : Fin 2) (off : Int) :
    (State.servoOffset s d off).settings = s.settings := by
  unfold State.servoOffset; dsimp only; split <;> simp

@[simp] theorem State.servoSync_settings (s : State) (d : Fin 2) (x : SyncStamp) :
    (State.servoSync s d x).settings = s.settings := by
  unfold State.servoSync; dsimp only; split <;> simp

@[simp] theorem State.servoDelay_settings (s : State) (d : Fin 2) (seq : BitVec 16) (t4 : Int) (correction : Int) :
    (State.servoDelay s d seq t4 correction).settings = s.settings := by
  unfold State.servoDelay; dsimp only; split <;> simp

@[simp] theorem State.modeCommit_settings (s : State) (d : Fin 2) (old : TdBlock) :
    (State.modeCommit s d old).settings = s.settings := by
  unfold State.modeCommit; dsimp only; (repeat' split) <;> simp

@[simp] theorem State.stopOutputTpos_settings (s : State) :
    (State.stopOutputTpos s).settings = s.settings := by
  unfold State.stopOutputTpos; simp

@[simp] theorem State.outSrcCommit_settings (s : State) (before : Option Nat) (new : TdConfig) :
    (State.outSrcCommit s before new).settings = s.settings := by
  unfold State.outSrcCommit; simp

@[simp] theorem State.timeCommit_settings (s : State) :
    (State.timeCommit s).settings = s.settings := by
  unfold State.timeCommit; simp

@[simp] theorem State.logPtp_settings (s : State) (x : TsEntry) :
    (State.logPtp s x).settings = s.settings := by
  unfold State.logPtp; dsimp only; split <;> simp

@[simp] theorem State.unmeasured_settings (s : State) (c : Cp) :
    (State.unmeasured s c).settings = s.settings := by
  unfold State.unmeasured; simp; simp only [State.settings]

@[simp] theorem State.stampLog_settings (s : State) (d : Dir) (c : Cp) (f : Bytes) (o : Nat) (i : Instants) :
    (State.stampLog s d c f o i).settings = s.settings := by
  unfold State.stampLog; dsimp only; split <;> simp

@[simp] theorem State.rewritePtp_settings (s : State) (d : Dir) (c : Cp) (f : Bytes) (o : Nat) (i : Instants) :
    (State.rewritePtp s d c f o i).1.settings = s.settings := by
  unfold State.rewritePtp; dsimp only; (repeat' split) <;> simp

@[simp] theorem State.servoMessage_settings (s : State) (td : Fin 2) (d : Dir) (c : Cp) (f : Bytes) (o : Nat) (i : Instants) :
    (State.servoMessage s td d c f o i).settings = s.settings := by
  unfold State.servoMessage; dsimp only; (repeat' split) <;> simp

@[simp] theorem State.ptp_settings (s : State) (d : Dir) (c : Cp) (f : Bytes) (i : Instants) :
    (State.ptp s d c f i).1.settings = s.settings := by
  unfold State.ptp; dsimp only; (repeat' split) <;> simp

@[simp] theorem State.setOvf_settings (s : State) (n : Nat) (bits : Byte) :
    (State.setOvf s n bits).settings = s.settings := by
  unfold State.setOvf; simp

@[simp] theorem State.countDrop_settings (s : State) (n : Nat) (w : FlowDrop) :
    (State.countDrop s n w).settings = s.settings := by
  unfold State.countDrop; dsimp only; (repeat' split) <;> simp

@[simp] theorem State.countBin_settings (s : State) (n : Nat) (len : Nat) :
    (State.countBin s n len).settings = s.settings := by
  unfold State.countBin; simp

@[simp] theorem State.countForward_settings (s : State) (d : Dir) (n : Nat) (frames : Nat) (octets : Nat) :
    (State.countForward s d n frames octets).settings = s.settings := by
  unfold State.countForward; simp

@[simp] theorem State.countFrame_settings (s : State) (d : Dir) (n : Nat) (len : Nat) :
    (State.countFrame s d n len).settings = s.settings := by
  unfold State.countFrame; dsimp only; split <;> simp

@[simp] theorem State.dropFrame_settings (s : State) (d : Dir) (f : FlowFrame) (w : FlowDrop) (stage : Nat) :
    (State.dropFrame s d f w stage).settings = s.settings := by
  unfold State.dropFrame; simp

@[simp] theorem State.raiseShed_settings (s : State) (c : Cp) (k : Fin 5) :
    (State.raiseShed s c k).settings = s.settings := by
  unfold State.raiseShed; simp

@[simp] theorem State.noteShed_settings (s : State) (c : Cp) (k : Fin 5) (cls : Nat) :
    (State.noteShed s c k cls).settings = s.settings := by
  unfold State.noteShed; simp

@[simp] theorem State.longSheds_settings (s : State) :
    (State.longSheds s).settings = s.settings := by
  unfold State.longSheds; simp

@[simp] theorem State.shedFrame_settings (s : State) (f : FlowFrame) (cls : Nat) :
    (State.shedFrame s f cls).settings = s.settings := by
  unfold State.shedFrame; simp

@[simp] theorem State.forwardIngress_settings (s : State) (f : FlowFrame) (cls : Nat) (clientLen : Nat) (out : Bytes) (sealed_ : Bool) :
    (State.forwardIngress s f cls clientLen out sealed_).settings = s.settings := by
  unfold State.forwardIngress; simp

@[simp] theorem State.driveFrame_settings (s : State) (c : Cp) (frame : Bytes) (raw : Bool) :
    (State.driveFrame s c frame raw).settings = s.settings := by
  unfold State.driveFrame; simp

@[simp] theorem State.sendClient_settings (s : State) (c : Cp) (frame : Bytes) (tiles : List Nat) (tag : Option TagMark) :
    (State.sendClient s c frame tiles tag).settings = s.settings := by
  unfold State.sendClient; simp

@[simp] theorem State.forwardEgress_settings (s : State) (f : FlowFrame) (out : Bytes) :
    (State.forwardEgress s f out).settings = s.settings := by
  unfold State.forwardEgress; dsimp only; simp

@[simp] theorem State.suspend_settings (s : State) (n : Nat) (h : Hot) :
    (State.suspend s n h).settings = s.settings := by
  unfold State.suspend; dsimp only; split <;> simp

@[simp] theorem State.keyAbsent_settings (s : State) (d : Dir) (f : FlowFrame) :
    (State.keyAbsent s d f).settings = s.settings := by
  unfold State.keyAbsent; simp

@[simp] theorem State.advancePn_settings (s : State) (n : Nat) (h : Hot) :
    (State.advancePn s n h).settings = s.settings := by
  unfold State.advancePn; dsimp only; split <;> split <;> simp

@[simp] theorem State.enqueue_settings (s : State) (d : Dir) (f : FlowFrame) :
    (State.enqueue s d f).settings = s.settings := by
  unfold State.enqueue; simp

@[simp] theorem State.sealIngress_settings (s : State) (f : FlowFrame) (h : Hot) :
    (State.sealIngress s f h).settings = s.settings := by
  unfold State.sealIngress; simp

@[simp] theorem State.storePn_settings (s : State) (n : Nat) (h : Hot) (g : Option Grace) (pn : BitVec 64) :
    (State.storePn s n h g pn).settings = s.settings := by
  unfold State.storePn; dsimp only; split <;> simp

@[simp] theorem State.verifyEgress_settings (s : State) (f : FlowFrame) (h : Hot) :
    (State.verifyEgress s f h).settings = s.settings := by
  unfold State.verifyEgress; dsimp only; (repeat' split) <;> simp

@[simp] theorem State.stall_settings (s : State) (d : Dir) (express : Bool) :
    (State.stall s d express).settings = s.settings := by
  unfold State.stall; simp

@[simp] theorem State.admitFrame_settings (s : State) (d : Dir) (f : FlowFrame) :
    (State.admitFrame s d f).settings = s.settings := by
  unfold State.admitFrame; dsimp only; (repeat' split) <;> simp

@[simp] theorem State.admitNext_settings (s : State) (d : Dir) :
    (State.admitNext s d).settings = s.settings := by
  unfold State.admitNext; dsimp only; (repeat' split) <;> simp

@[simp] theorem State.queueFrame_settings (s : State) (d : Dir) (f : FlowFrame) (cls : Nat) :
    (State.queueFrame s d f cls).settings = s.settings := by
  unfold State.queueFrame; dsimp only; split <;> simp

@[simp] theorem State.bindFrame_settings (s : State) (d : Dir) (f : FlowFrame) :
    (State.bindFrame s d f).settings = s.settings := by
  unfold State.bindFrame; dsimp only; (repeat' split) <;> simp

@[simp] theorem State.missFrame_settings (s : State) (d : Dir) (f : FlowFrame) :
    (State.missFrame s d f).settings = s.settings := by
  unfold State.missFrame; simp

@[simp] theorem State.offerFrame_settings (s : State) (d : Dir) (c : Cp) (frame : Bytes) (tag : Option TagMark) (tiles : List Nat) (instants : Option (BitVec 48 × Int × Int)) :
    (State.offerFrame s d c frame tag tiles instants).settings = s.settings := by
  unfold State.offerFrame; dsimp only; split
  · simp
  · split <;> simp

@[simp] theorem State.fetchNext_settings (s : State) (d : Dir) :
    (State.fetchNext s d).settings = s.settings := by
  unfold State.fetchNext; dsimp only; split <;> simp

@[simp] theorem State.clientFrame_settings (s : State) (c : Cp) (frame : Bytes) (pcsError : Bool) (i : Option Instants) :
    (State.clientFrame s c frame pcsError i).settings = s.settings := by
  unfold State.clientFrame; dsimp only; split
  · simp
  · split
    · rfl
    · split
      · simp
      · rw [State.offerFrame_settings, State.ptp_settings, settings_fresh]; simp

@[simp] theorem State.lineFrame_settings (s : State) (c : Cp) (frame : Bytes) (tiles : List Nat) (since : BitVec 48) (entered : BitVec 48) (i : Option Instants) :
    (State.lineFrame s c frame tiles since entered i).settings = s.settings := by
  unfold State.lineFrame; simp

@[simp] theorem State.refreshPort_settings (s : State) (c : Cp) :
    (State.refreshPort s c).settings = s.settings := by
  unfold State.refreshPort; simp

@[simp] theorem State.refreshPorts_settings (s : State) :
    (State.refreshPorts s).settings = s.settings := by
  unfold State.refreshPorts; simp

@[simp] theorem State.detectFail_settings (s : State) (c : Cp) (signalLost : BitVec 16) (clockLost : BitVec 16) (pcsLost : Bool) :
    (State.detectFail s c signalLost clockLost pcsLost).settings = s.settings := by
  unfold State.detectFail; simp

@[simp] theorem State.dropRecord_settings (s : State) (c : Cp) (on : Bool) :
    (State.dropRecord s c on).settings = s.settings := by
  unfold State.dropRecord; simp

@[simp] theorem State.shedWaiting_settings (s : State) (c : Cp) :
    (State.shedWaiting s c).settings = s.settings := by
  unfold State.shedWaiting; simp

@[simp] theorem State.emptyPort_settings (s : State) (c : Cp) :
    (State.emptyPort s c).settings = s.settings := by
  unfold State.emptyPort; simp

@[simp] theorem State.formed_settings (s : State) (c : Cp) (old : CportConfig) :
    (State.formed s c old).settings = s.settings := by
  unfold State.formed; dsimp only; split
  · rfl
  · have h (l : List LaneNo) (s : State) : (l.foldl (fun (s : State) l => s.updLane l fun x => { x with
        inFrame := false, good := 0, bad := 0, streams := [], out := [] }) s).settings = s.settings :=
      foldl_settings _ _ (fun _ _ => by simp) s
    split
    · split <;> simp [h]
    · simp [h]

theorem Lane.tuned_staged (l : Lane) : l.tuned.eq.staged = l.eq.staged := rfl

theorem Lane.takeEq_staged (l : Lane) (side : Option HeldSide) : (l.takeEq side).eq.staged = l.eq.staged := rfl

@[simp] theorem State.prbsErrors_settings (s : State) (l : LaneNo) (n : Nat) :
    (State.prbsErrors s l n).settings = s.settings := by
  unfold State.prbsErrors; simp

@[simp] theorem State.hostHold_settings (s : State) (e : Eng) (hold : BitVec 6) :
    (State.hostHold s e hold).settings = s.settings := by
  unfold State.hostHold; simp

@[simp] theorem State.putResult_settings (s : State) (r : GbResult) :
    (State.putResult s r).settings = s.settings := by
  unfold State.putResult; dsimp only; (repeat' split) <;> simp

@[simp] theorem State.resetCics_settings (s : State) (mask : BitVec 16) :
    (State.resetCics s mask).settings = s.settings := by
  unfold State.resetCics; simp

@[simp] theorem State.entryResult_settings (s : State) (n : Fin 16) (e : GaugeEntry) (raw : BitVec 12) :
    (State.entryResult s n e raw).settings = s.settings := by
  unfold State.entryResult; dsimp only; (repeat' split) <;> (try simp) <;> (try simp only [State.settings])

@[simp] theorem State.holdEngines_settings (s : State) (on : Bool) :
    (State.holdEngines s on).settings = s.settings := by
  unfold State.holdEngines; simp

@[simp] theorem State.checkHold_settings (s : State) (on : Bool) (data : Bytes) :
    (State.checkHold s on data).settings = s.settings := by
  unfold State.checkHold; simp

@[simp] theorem State.judgeCheck_settings (s : State) (ga : BitVec 12) (gb : BitVec 12) :
    (State.judgeCheck s ga gb).settings = s.settings := by
  unfold State.judgeCheck; dsimp only; (repeat' split) <;> (try simp) <;> (try simp only [State.settings])

@[simp] theorem State.compareCheck_settings (s : State) (ga : BitVec 12) (raw : BitVec 12) :
    (State.compareCheck s ga raw).settings = s.settings := by
  unfold State.compareCheck; simp; simp only [State.settings]

@[simp] theorem State.makeCheck_settings (s : State) :
    (State.makeCheck s).settings = s.settings := by
  unfold State.makeCheck; dsimp only; split <;> simp

@[simp] theorem State.gbNext_settings (s : State) :
    (State.gbNext s).settings = s.settings := by
  unfold State.gbNext; split
  · simp
  · dsimp only; split
    · simp
    · split <;> simp

@[simp] theorem State.gbEnd_settings (s : State) (raw : BitVec 12) :
    (State.gbEnd s raw).settings = s.settings := by
  unfold State.gbEnd; split
  · rfl
  · rfl
  · dsimp only; rw [State.gbNext_settings, State.conclude_settings, State.putResult_settings]; simp only [State.skip, State.settings]
  · dsimp only; split
    · simp
    · rw [State.gbNext_settings, settings_gauge _ _ (by simp) (by simp) (by simp)]; simp

@[simp] theorem State.gbDrop_settings (s : State) :
    (State.gbDrop s).settings = s.settings := by
  unfold State.gbDrop; dsimp only; split <;> simp

@[simp] theorem State.passTick_settings (s : State) :
    (State.passTick s).settings = s.settings := by
  unfold State.passTick; simp

@[simp] theorem State.gaCycle_settings (s : State) (codes : List (BitVec 12)) (check : BitVec 12) :
    (State.gaCycle s codes check).settings = s.settings := by
  unfold State.gaCycle; dsimp only; (repeat' split) <;> (try simp) <;> (try simp only [State.settings])

@[simp] theorem State.gaugeCommit_settings (s : State) :
    (State.gaugeCommit s).settings = s.settings := by
  unfold State.gaugeCommit; dsimp only; split <;> simp

@[simp] theorem State.calibrated_settings (s : State) (offsets : List Int) (gain : Int) :
    (State.calibrated s offsets gain).settings = s.settings := by
  unfold State.calibrated; dsimp only; split <;> simp

@[simp] theorem State.updInput_settings (s : State) (i : Fin 14) (f : HwInput → HwInput) :
    (State.updInput s i f).settings = s.settings := by
  unfold State.updInput; simp

@[simp] theorem State.hwEvaluate_settings (s : State) (commit : Bool) :
    (State.hwEvaluate s commit).settings = s.settings := by
  unfold State.hwEvaluate; dsimp only; (repeat' split) <;> simp

@[simp] theorem State.abandon_settings (s : State) :
    (State.abandon s).settings = s.settings := by
  unfold State.abandon; simp

@[simp] theorem State.enterHoldover_settings (s : State) (lost : Byte) :
    (State.enterHoldover s lost).settings = s.settings := by
  unfold State.enterHoldover; simp; simp only [State.settings]

@[simp] theorem State.toHoldover_settings (s : State) (lost : Byte) (lostBy : Byte) :
    (State.toHoldover s lost lostBy).settings = s.settings := by
  unfold State.toHoldover; exact State.enterHoldover_settings _ _

@[simp] theorem State.holdoverTick_settings (s : State) :
    (State.holdoverTick s).settings = s.settings := by
  unfold State.holdoverTick; simp

@[simp] theorem State.forceOut_settings (s : State) (lost : Byte) :
    (State.forceOut s lost).settings = s.settings := by
  unfold State.forceOut; simp

@[simp] theorem State.disqualify_settings (s : State) (i : Fin 14) (cause : BitVec 4) :
    (State.disqualify s i cause).settings = s.settings := by
  unfold State.disqualify; dsimp only; split
  · split
    · simp
    · split <;> simp
  · split <;> simp

@[simp] theorem State.windowEnd_settings (s : State) (phase : Int) :
    (State.windowEnd s phase).settings = s.settings := by
  unfold State.windowEnd; simp; simp only [State.settings]

@[simp] theorem State.hwTick_settings (s : State) :
    (State.hwTick s).settings = s.settings := by
  unfold State.hwTick; simp only [State.settings]

@[simp] theorem State.timebaseTick_settings (s : State) :
    (State.timebaseTick s).settings = s.settings := by
  unfold State.timebaseTick; simp

@[simp] theorem State.phaseStep_settings (s : State) (amount : Int) (when_ : Byte) :
    (State.phaseStep s amount when_).settings = s.settings := by
  unfold State.phaseStep; simp

@[simp] theorem State.applyPending_settings (s : State) :
    (State.applyPending s).settings = s.settings := by
  unfold State.applyPending; dsimp only; split <;> simp

@[simp] theorem State.ppsEdge_settings (s : State) (n : Fin 2) :
    (State.ppsEdge s n).settings = s.settings := by
  unfold State.ppsEdge; simp

@[simp] theorem State.synceCommit_settings (s : State) (old : Vector (Byte × Byte) 4) :
    (State.synceCommit s old).settings = s.settings := by
  unfold State.synceCommit; simp

@[simp] theorem State.reselect_settings (s : State) :
    (State.reselect s).settings = s.settings := by
  unfold State.reselect; simp

@[simp] theorem State.selectionCommit_settings (s : State) :
    (State.selectionCommit s).settings = s.settings := by
  unfold State.selectionCommit; simp

@[simp] theorem State.evaluateAfter_settings (s : State) :
    (State.evaluateAfter s).settings = s.settings := by
  unfold State.evaluateAfter; simp

@[simp] theorem State.hwCommit_settings (s : State) :
    (State.hwCommit s).settings = s.settings := by
  unfold State.hwCommit; dsimp only; (repeat' split) <;> (try simp) <;> (try simp only [State.settings])

@[simp] theorem State.applyTdSet_settings (s : State) (d : Fin 2) :
    (State.applyTdSet s d).settings = s.settings := by
  unfold State.applyTdSet; dsimp only; split <;> simp

@[simp] theorem State.emitEdge_settings (s : State) (n : Fin 4) :
    (State.emitEdge s n).settings = s.settings := by
  unfold State.emitEdge; simp

@[simp] theorem State.updCapture_settings (s : State) (i : Fin 3) (f : CaptureQueue → CaptureQueue) :
    (State.updCapture s i f).settings = s.settings := by
  unfold State.updCapture; simp

@[simp] theorem State.setCommit_settings (s : State) (k : Commit) :
    (State.setCommit s k).settings = s.settings := by
  unfold State.setCommit; simp

@[simp] theorem State.endCommit_settings (s : State) (k : Commit) (executed : Bool) :
    (State.endCommit s k executed).settings = s.settings := by
  unfold State.endCommit; simp only [State.settings]

@[simp] theorem State.takeEngine_settings (s : State) (e : Eng) (classes : BitVec 16) (side : Option HeldSide) :
    (State.takeEngine s e classes side).settings = s.settings := by
  unfold State.takeEngine; simp

@[simp] theorem State.clientCommit_settings (s : State) (engines : BitVec 4) (side : Option (HeldSide × Eng)) :
    (State.clientCommit s engines side).settings = s.settings := by
  unfold State.clientCommit; dsimp only
  have h (l : List Cp) (x : State) : (l.foldl (fun s c => s.updCport c fun p => p.take side) x).settings = x.settings :=
    foldl_settings _ _ (fun y c => State.updCport_settings y c (fun p => p.take side) fun _ => rfl) x
  have h2 (l : List LaneNo) (x : State) : (l.foldl (fun s l => if engines.getLsbD (l.val / 16) then
      s.updLane l fun x => x.takeEq (side.map (·.1)) else s) x).settings = x.settings :=
    foldl_settings _ _ (fun y l => ite_settings_same _ (State.updLane_settings y l _ fun _ => Lane.takeEq_staged _ _)) x
  rw [foldl_settings _ _ (fun s o => by simp), h2, h, foldl_settings _ _ (fun s o => by simp)]

@[simp] theorem State.shedGroup_settings (s : State) (e : Eng) :
    (State.shedGroup s e).settings = s.settings := by
  unfold State.shedGroup; simp

@[simp] theorem State.txSide_settings (s : State) (e : Eng) (old : EngineParams) :
    (State.txSide s e old).settings = s.settings := by
  unfold State.txSide; simp

@[simp] theorem State.twinEnd_settings (s : State) (e : Eng) :
    (State.twinEnd s e).settings = s.settings := by
  unfold State.twinEnd; simp

@[simp] theorem State.rxSide_settings (s : State) (e : Eng) (old : EngineParams) :
    (State.rxSide s e old).settings = s.settings := by
  unfold State.rxSide; simp

@[simp] theorem State.twinStep_settings (s : State) (old : Vector EngineParams 4) :
    (State.twinStep s old).settings = s.settings := by
  unfold State.twinStep; simp

@[simp] theorem State.txSides_settings (s : State) (es : List Eng) (old : Vector EngineParams 4) :
    (State.txSides s es old).settings = s.settings := by
  unfold State.txSides; simp

@[simp] theorem State.tokenTx_settings (s : State) (k : Commit) :
    (State.tokenTx s k).settings = s.settings := by
  unfold State.tokenTx; simp

@[simp] theorem State.tokenRx_settings (s : State) (k : Commit) :
    (State.tokenRx s k).settings = s.settings := by
  unfold State.tokenRx; simp

@[simp] theorem State.applyLocal_settings (s : State) (k : Commit) :
    (State.applyLocal s k).settings = s.settings := by
  unfold State.applyLocal; dsimp only
  (repeat' split) <;> simp

@[simp] theorem State.runCommit_settings (s : State) (k : Commit) :
    (State.runCommit s k).settings = s.settings := by
  unfold State.runCommit; dsimp only; split <;> simp

@[simp] theorem State.settleCommit_settings (s : State) (id : Nat) :
    (State.settleCommit s id).settings = s.settings := by
  unfold State.settleCommit; dsimp only; split <;> simp

@[simp] theorem State.takeSide_settings (s : State) (k : Commit) (e : Eng) (side : HeldSide) (first : Bool) :
    (State.takeSide s k e side first).settings = s.settings := by
  unfold State.takeSide; dsimp only
  split
  · split
    · rw [State.clientCommit_settings, State.takeEngine_settings]
    · exact State.takeEngine_settings _ _ _ _
  · split
    · exact State.updEng_settings _ _ _ fun _ => rfl
    · refine (foldl_settings _ _ (fun _ _ => State.updCport_settings _ _ _ fun p => ?_) _).trans
        ((foldl_settings _ _ (fun y l => ite_settings_same _
          (State.updLane_settings y l Lane.settle fun x => Lane.tuned_staged _)) _).trans
          (State.updEng_settings _ _ _ fun _ => rfl))
      split <;> split <;> rfl

@[simp] theorem State.pairTx_settings (s : State) (k : Commit) :
    (State.pairTx s k).settings = s.settings := by
  unfold State.pairTx; simp

@[simp] theorem State.pairRx_settings (s : State) (k : Commit) (e : Eng) :
    (State.pairRx s k e).settings = s.settings := by
  unfold State.pairRx; simp

@[simp] theorem State.sendCann_settings (s : State) (k : Commit) (phase : BitVec 2) :
    (State.sendCann s k phase).settings = s.settings := by
  unfold State.sendCann; simp

@[simp] theorem State.sendCack_settings (s : State) (e : Eng) (token : BitVec 32) (target : BitVec 32) (response : BitVec 4) :
    (State.sendCack s e token target response).settings = s.settings := by
  unfold State.sendCack; simp

@[simp] theorem State.sendAbort_settings (s : State) (k : Commit) :
    (State.sendAbort s k).settings = s.settings := by
  unfold State.sendAbort; simp

@[simp] theorem State.disarm_settings (s : State) (k : Commit) (token : BitVec 32) :
    (State.disarm s k token).settings = s.settings := by
  unfold State.disarm; simp

@[simp] theorem State.abstain_settings (s : State) (k : Commit) (mismatch : Bool) (b : Byte) :
    (State.abstain s k mismatch b).settings = s.settings := by
  unfold State.abstain; simp

@[simp] theorem State.confirm_settings (s : State) (k : Commit) :
    (State.confirm s k).settings = s.settings := by
  unfold State.confirm; simp

@[simp] theorem State.splitCommit_settings (s : State) (k : Commit) :
    (State.splitCommit s k).settings = s.settings := by
  unfold State.splitCommit; simp

@[simp] theorem State.startPair_settings (s : State) (k : Commit) :
    (State.startPair s k).settings = s.settings := by
  unfold State.startPair; simp

@[simp] theorem State.acknowledge_settings (s : State) (k : Commit) (e : Eng) (fnr : BitVec 32) (target : BitVec 32) :
    (State.acknowledge s k e fnr target).settings = s.settings := by
  unfold State.acknowledge; simp

@[simp] theorem State.onAnnounce_settings (s : State) (e : Eng) (fnr : BitVec 32) (c : Cann) :
    (State.onAnnounce s e fnr c).settings = s.settings := by
  unfold State.onAnnounce; dsimp only; split
  · split
    · split <;> simp
    · simp
  · simp
  · split
    · rfl
    · split <;> simp

@[simp] theorem State.onConfirm_settings (s : State) (e : Eng) (fnr : BitVec 32) (c : Cann) :
    (State.onConfirm s e fnr c).settings = s.settings := by
  unfold State.onConfirm; (repeat' split) <;> simp_all

@[simp] theorem State.onAbort_settings (s : State) (e : Eng) (c : Cann) :
    (State.onAbort s e c).settings = s.settings := by
  unfold State.onAbort; dsimp only; split <;> simp

@[simp] theorem State.onCann_settings (s : State) (e : Eng) (fnr : BitVec 32) (c : Cann) :
    (State.onCann s e fnr c).settings = s.settings := by
  unfold State.onCann; dsimp only; split <;> simp

@[simp] theorem State.onAck_settings (s : State) (e : Eng) (k : Commit) (target : BitVec 32) :
    (State.onAck s e k target).settings = s.settings := by
  unfold State.onAck; simp

@[simp] theorem State.onLateAbort_settings (s : State) (e : Eng) (c : Cack) :
    (State.onLateAbort s e c).settings = s.settings := by
  unfold State.onLateAbort; split
  · rfl
  · split
    · dsimp only; rw [State.raise_settings]; apply foldl_settings; intro s x; apply State.updEng_settings; intro y; split <;> rfl
    · rfl

@[simp] theorem State.onCack_settings (s : State) (e : Eng) (c : Cack) :
    (State.onCack s e c).settings = s.settings := by
  unfold State.onCack; (repeat' split) <;> simp_all

@[simp] theorem State.ackDeadline_settings (s : State) (k : Commit) :
    (State.ackDeadline s k).settings = s.settings := by
  unfold State.ackDeadline; simp

@[simp] theorem State.dropCommits_settings (s : State) :
    (State.dropCommits s).settings = s.settings := by
  unfold State.dropCommits; simp

@[simp] theorem State.absorb_settings (s : State) (e : Eng) (noise : Quad) :
    (State.absorb s e noise).settings = s.settings := by
  unfold State.absorb; simp

@[simp] theorem State.advance_settings (s : State) (e : Eng) (w : WindowPosition) (o : Outcome) :
    (State.advance s e w o).settings = s.settings := by
  unfold State.advance; dsimp only
  split <;> simp only [State.raise_settings, State.count_settings]
  all_goals (refine (settings_fresh _ _).trans ?_; apply State.updEng_settings; intro x; rfl)

@[simp] theorem State.countNative_settings (s : State) (c : Cp) (d : Dir) (octets : Nat) (shed : Bool) :
    (State.countNative s c d octets shed).settings = s.settings := by
  unfold State.countNative; (repeat' split) <;> simp_all

@[simp] theorem State.tagBlocks_settings (s : State) (c : Cp) (d : Dir) (n : Nat) (shed : Bool) (t1 : BitVec 48) :
    (State.tagBlocks s c d n shed t1).settings = s.settings := by
  unfold State.tagBlocks; simp

@[simp] theorem State.laneSlip_settings (s : State) (l : LaneNo) (slip : Slip) (lfc : BitVec 16) :
    (State.laneSlip s l slip lfc).settings = s.settings := by
  unfold State.laneSlip; simp

@[simp] theorem State.laneFrameRx_settings (s : State) (l : LaneNo) (c : Cp) (symbols : List (Fin 4)) (slip : Option Slip) :
    (State.laneFrameRx s l c symbols slip).settings = s.settings := by
  unfold State.laneFrameRx; dsimp only; (repeat' split) <;> simp

@[simp] theorem State.nativeOut_settings (s : State) (c : Cp) (streams : List Bytes) (carried : Bool) (t1 : BitVec 48) :
    (State.nativeOut s c streams carried t1).settings = s.settings := by
  unfold State.nativeOut; simp

@[simp] theorem State.atCommitBoundary_settings (s : State) (id : Nat) :
    (State.atCommitBoundary s id).settings = s.settings := by
  unfold State.atCommitBoundary; apply State.atBoundary_settings; intro x; split
  · split <;> simp
  · rfl

@[simp] theorem State.atPairTx_settings (s : State) (id : Nat) :
    (State.atPairTx s id).settings = s.settings := by
  unfold State.atPairTx; apply State.atBoundary_settings; intro x; split
  · split <;> simp
  · rfl

@[simp] theorem State.pairRxDue_settings (s : State) (id : Nat) :
    (State.pairRxDue s id).settings = s.settings := by
  unfold State.pairRxDue; apply foldl_settings; intro s e; split
  · split <;> simp
  · rfl

@[simp] theorem State.countSent_settings (s : State) (e : Eng) (ts : List Bytes) :
    (State.countSent s e ts).settings = s.settings := by
  unfold State.countSent; simp

@[simp] theorem State.portTiles_settings (s : State) (e : Eng) (c : Cp) (slots : Nat) :
    (State.portTiles s e c slots).1.settings = s.settings := by
  unfold State.portTiles; dsimp only; split
  · simp
  · split
    · simp
    · split
      · simp
      · rw [foldl_settings _ _ (fun s m => by simp)]; simp [State.updCport_settings_at, Cport.fillTiles_params]


@[simp] theorem State.payload_settings (s : State) (e : Eng) :
    (State.payload s e).1.settings = s.settings := by
  unfold State.payload; dsimp only
  have h (f : Cp → List Nat) (l : List Cp) (a : State × List (List Nat × List Bytes)) :
      (l.foldl (fun a c => addPort e (f c) a c) a).1.settings = a.1.settings := by
    induction l generalizing a with
    | nil => rfl
    | cons x xs ih => rw [List.foldl_cons, ih]; simp [addPort]
  split
  · simp
  · simp [h]

@[simp] theorem State.scTake_settings (s : State) (e : Eng) :
    (State.scTake s e).1.settings = s.settings := by
  unfold State.scTake; simp

@[simp] theorem State.scBlock_settings (s : State) (d : Dir) (key : Bytes) :
    (State.scBlock s d key).settings = s.settings := by
  unfold State.scBlock; simp

@[simp] theorem State.scAbsent_settings (s : State) (e : Eng) (key : BitVec 32) :
    (State.scAbsent s e key).settings = s.settings := by
  unfold State.scAbsent; simp

@[simp] theorem State.scSend_settings (s : State) (e : Eng) (fn : BitVec 32) :
    (State.scSend s e fn).1.settings = s.settings := by
  unfold State.scSend; dsimp only; (repeat' split) <;> simp

@[simp] theorem State.beginFrame_settings (s : State) (e : Eng) (tiles : List Bytes) :
    (State.beginFrame s e tiles).settings = s.settings := by
  unfold State.beginFrame; simp

@[simp] theorem State.beginFrames_settings (s : State) (e : Eng) :
    (State.beginFrames s e).settings = s.settings := by
  unfold State.beginFrames; dsimp only; (repeat' split) <;> simp

@[simp] theorem State.drain_settings (s : State) :
    (State.drain s).settings = s.settings := by
  unfold State.drain
  have h : (Vector.ofFn fun l => (s.lane l).tick (s.laneSymbols l)).map (fun (x : Lane) => x.eq.staged)
      = s.lanes.map fun (x : Lane) => x.eq.staged := by
    apply Vector.ext
    intro i hi
    simp [State.lane]
  simp only [State.settings, Vector.map_map, h]
  congr 1 <;> (congr 1; funext x; simp)

@[simp] theorem State.touchTile_settings (s : State) (c : Cp) (id : Nat) :
    (State.touchTile s c id).settings = s.settings := by
  unfold State.touchTile; simp

@[simp] theorem State.recordHead_settings (s : State) (c : Cp) (v : Nat) :
    (State.recordHead s c v).settings = s.settings := by
  unfold State.recordHead; simp

@[simp] theorem State.recordByte_settings (s : State) (c : Cp) (id : Nat) (t1 : BitVec 48) (b : Byte) :
    (State.recordByte s c id t1 b).settings = s.settings := by
  unfold State.recordByte; dsimp only; (repeat' split) <;> simp

@[simp] theorem State.atPointer_settings (s : State) (c : Cp) :
    (State.atPointer s c).settings = s.settings := by
  unfold State.atPointer; simp

@[simp] theorem State.portTile_settings (s : State) (c : Cp) (e : Eng) (t1 : BitVec 48) (t : Bytes) :
    (State.portTile s c e t1 t).settings = s.settings := by
  unfold State.portTile; simp

@[simp] theorem State.deliverPort_settings (s : State) (e : Eng) (c : Cp) (sl : List Nat) (tiles : List Bytes) (slots : Nat) (replaced : Bool) (t1 : BitVec 48) :
    (State.deliverPort s e c sl tiles slots replaced t1).settings = s.settings := by
  unfold State.deliverPort; simp

@[simp] theorem State.idlePorts_settings (s : State) (e : Eng) :
    (State.idlePorts s e).settings = s.settings := by
  unfold State.idlePorts; simp

@[simp] theorem State.deliverBy_settings (s : State) (e : Eng) (p : EngineParams) (tiles : List Bytes) (replaced : Bool) (t1 : BitVec 48) :
    (State.deliverBy s e p tiles replaced t1).settings = s.settings := by
  unfold State.deliverBy; simp

@[simp] theorem State.deliverTiles_settings (s : State) (e : Eng) (tiles : List Bytes) (replaced : Bool) :
    (State.deliverTiles s e tiles replaced).settings = s.settings := by
  unfold State.deliverTiles; simp

@[simp] theorem State.twinSkew_settings (s : State) (low : Eng) :
    (State.twinSkew s low).settings = s.settings := by
  unfold State.twinSkew; dsimp only; split <;> simp

@[simp] theorem State.twinDefect_settings (s : State) (low : Eng) (lower : Bool) (higher : Bool) :
    (State.twinDefect s low lower higher).settings = s.settings := by
  unfold State.twinDefect; simp

@[simp] theorem State.noteDelivered_settings (s : State) (low : Eng) (fn : BitVec 32) :
    (State.noteDelivered s low fn).settings = s.settings := by
  unfold State.noteDelivered; simp

@[simp] theorem State.twinDeliver_settings (s : State) (low : Eng) (a : Option TwinCopy) (b : Option TwinCopy) :
    (State.twinDeliver s low a b).settings = s.settings := by
  unfold State.twinDeliver; dsimp only; (repeat' split) <;> simp

theorem twinDrain_settings (low : Eng) (n : Nat) (s : State) : (State.twinDrain low n s).settings = s.settings := by
  induction n generalizing s with
  | zero => rfl
  | succ n ih =>
    unfold State.twinDrain; dsimp only; split
    · rfl
    · split
      · rw [ih]; simp
      · split <;> (rw [ih]; simp)
    · split
      · rw [ih]; simp
      · rfl
    · split
      · split
        · rfl
        · rw [ih]; simp
      · split
        · rw [ih]; simp
        · rfl

@[simp] theorem State.apsEvent_settings (s : State) (e : Eng) (cause : Byte) (was : Bool) (now : Bool) :
    (State.apsEvent s e cause was now).settings = s.settings := by
  unfold State.apsEvent; simp

@[simp] theorem State.checkAps_settings (s : State) (e : Eng) :
    (State.checkAps s e).settings = s.settings := by
  unfold State.checkAps; simp

@[simp] theorem State.twinCopy_settings (s : State) (e : Eng) (fn : BitVec 32) (good : Bool) (f : RxFrame) (tiles : List Bytes) :
    (State.twinCopy s e fn good f tiles).settings = s.settings := by
  unfold State.twinCopy; dsimp only; split
  · rfl
  · rw [twinDrain_settings, State.updEng_settings]
    intro y; rfl

@[simp] theorem State.scReceive_settings (s : State) (e : Eng) (fn : BitVec 32) (linkid : Byte) (o : Overhead) :
    (State.scReceive s e fn linkid o).settings = s.settings := by
  unfold State.scReceive; dsimp only; (repeat' split) <;> simp

@[simp] theorem State.depReceive_settings (s : State) (e : Eng) (o : Overhead) :
    (State.depReceive s e o).settings = s.settings := by
  unfold State.depReceive; simp

@[simp] theorem State.smallDefects_settings (s : State) (e : Eng) (h : BitVec 64) (o : Overhead) :
    (State.smallDefects s e h o).settings = s.settings := by
  unfold State.smallDefects; simp

@[simp] theorem State.measureLine_settings (s : State) (e : Eng) (o : Overhead) (arrival : Nat) :
    (State.measureLine s e o arrival).settings = s.settings := by
  unfold State.measureLine; dsimp only; (repeat' split) <;> simp

@[simp] theorem State.acceptFrame_settings (s : State) (e : Eng) (f : RxFrame) (o : Overhead) :
    (State.acceptFrame s e f o).settings = s.settings := by
  unfold State.acceptFrame; simp

@[simp] theorem State.rxTrack_settings (s : State) (e : Eng) (code : Nat) :
    (State.rxTrack s e code).settings = s.settings := by
  unfold State.rxTrack; simp

@[simp] theorem State.enterSync_settings (s : State) (e : Eng) (k : Candidate) (code : Nat) :
    (State.enterSync s e k code).settings = s.settings := by
  unfold State.enterSync; simp

@[simp] theorem State.huntFrame_settings (s : State) (e : Eng) (f : RxFrame) :
    (State.huntFrame s e f).settings = s.settings := by
  unfold State.huntFrame; dsimp only; split <;> simp

@[simp] theorem State.leaveSync_settings (s : State) (e : Eng) :
    (State.leaveSync s e).settings = s.settings := by
  unfold State.leaveSync; simp

@[simp] theorem State.deliverFrame_settings (s : State) (e : Eng) (fn : BitVec 32) (good : Bool) (accepted : Bool) (f : RxFrame) (damaged : Bool) (tiles : List Bytes) :
    (State.deliverFrame s e fn good accepted f damaged tiles).settings = s.settings := by
  unfold State.deliverFrame; dsimp only
  split
  · exact State.twinCopy_settings _ _ _ _ _ _
  · rw [State.deliverTiles_settings]
    refine ite_settings_same _ ?_
    rw [State.noteDelivered_settings, twinDrain_settings]

@[simp] theorem State.takeFrame_settings (s : State) (e : Eng) (f : RxFrame) :
    (State.takeFrame s e f).settings = s.settings := by
  unfold State.takeFrame; simp

@[simp] theorem State.rxSwitches_settings (s : State) (e : Eng) :
    (State.rxSwitches s e).settings = s.settings := by
  unfold State.rxSwitches; simp

@[simp] theorem State.syncFrame_settings (s : State) (e : Eng) (f : RxFrame) :
    (State.syncFrame s e f).settings = s.settings := by
  unfold State.syncFrame; simp

@[simp] theorem State.frameRx_settings (s : State) (e : Eng) (f : RxFrame) :
    (State.frameRx s e f).settings = s.settings := by
  unfold State.frameRx; (repeat' split) <;> simp_all

@[simp] theorem State.scSlot_settings (s : State) (e : Eng) (b : Byte) (valid : Bool) :
    (State.scSlot s e b valid).settings = s.settings := by
  unfold State.scSlot; simp

@[simp] theorem State.failTile_settings (s : State) (e : Eng) :
    (State.failTile s e).settings = s.settings := by
  unfold State.failTile; simp

@[simp] theorem State.receive_settings (s : State) (e : Eng) (samples : List Quad) :
    (State.receive s e samples).settings = s.settings := by
  unfold State.receive
  refine State.updEng_settings _ _ _ fun x => ?_
  split <;> rfl

@[simp] theorem State.silentFrame_settings (s : State) (e : Eng) :
    (State.silentFrame s e).settings = s.settings := by
  unfold State.silentFrame; simp

/-- What the transmitters emit, and what loops back, keeps the settings. -/
theorem settings_engines_emit (s : State) :
    ({ s with engines := Vector.ofFn fun e => ((s.engines[e]).emit e.val).loopBack } : State).settings = s.settings := by
  have h : (Vector.ofFn fun (e : Fin 4) => ((s.engines[e]).emit e.val).loopBack).map (fun (x : Engine) => x.params.staged) =
      s.engines.map fun (x : Engine) => x.params.staged := by
    apply Vector.ext
    intro k hk
    simp [Engine.loopBack, Engine.emit]
  simp only [State.settings, h]

@[simp] theorem State.tickWith_settings (s : State) (at_ : State → State)
    (h : ∀ x, (at_ x).settings = x.settings) :
    (State.tickWith s at_).settings = s.settings := by
  unfold State.tickWith; dsimp only
  refine (State.drain_settings _).trans ((settings_engines_emit _).trans ?_)
  rw [foldl_settings _ _ (fun s e => by simp), foldl_settings _ _ (fun s e => by simp)]
  refine (settings_engines_map _ Engine.tick fun x => by simp).trans ?_
  rw [foldl_settings _ _ (fun s p => (ite_settings _ _ _).trans (by rw [twinDrain_settings, ite_self])), h]
  simp

@[simp] theorem State.sensorEvent_settings (s : State) (i : Nat) (old : Sensor) (new : Sensor) (near : List Int) :
    (State.sensorEvent s i old new near).settings = s.settings := by
  unfold State.sensorEvent; simp

@[simp] theorem State.readSensors_settings (s : State) (temps : List (BitVec 16)) :
    (State.readSensors s temps).settings = s.settings := by
  unfold State.readSensors; simp

@[simp] theorem State.readZone_settings (s : State) (temps : List (Option Int)) (z : Fin 9) :
    (State.readZone s temps z).settings = s.settings := by
  unfold State.readZone; dsimp only; (repeat' split) <;> (try simp) <;> (try simp only [State.settings])

@[simp] theorem State.readZones_settings (s : State) :
    (State.readZones s).settings = s.settings := by
  unfold State.readZones; simp

@[simp] theorem State.throttle_settings (s : State) (e : Eng) :
    (State.throttle s e).settings = s.settings := by
  unfold State.throttle; dsimp only; split <;> simp

@[simp] theorem State.holdDark_settings (s : State) (e : Eng) (reason : Byte) :
    (State.holdDark s e reason).settings = s.settings := by
  unfold State.holdDark; simp

@[simp] theorem State.shutdown_settings (s : State) (z : Fin 9) (t : Int) :
    (State.shutdown s z t).settings = s.settings := by
  unfold State.shutdown; simp

@[simp] theorem State.noteRise_settings (s : State) :
    (State.noteRise s).settings = s.settings := by
  unfold State.noteRise; simp only [State.settings]

@[simp] theorem State.shutdownDue_settings (s : State) :
    (State.shutdownDue s).settings = s.settings := by
  unfold State.shutdownDue; simp

@[simp] theorem State.weirReading_settings (s : State) (temps : List (BitVec 16)) :
    (State.weirReading s temps).settings = s.settings := by
  unfold State.weirReading; simp

@[simp] theorem State.unhold_settings (s : State) (e : Eng) :
    (State.unhold s e).settings = s.settings := by
  unfold State.unhold; simp

@[simp] theorem State.updSup_settings (s : State) (f : SupState → SupState)
    (h : ∀ x, (f x).flags = x.flags) :
    (State.updSup s f).settings = s.settings := by
  simp only [State.settings, State.updSup, h]

@[simp] theorem State.resumeAuto_settings (s : State) :
    (State.resumeAuto s).settings = s.settings := by
  unfold State.resumeAuto; apply foldl_settings; intro s u; split
  · rfl
  · split <;> simp

@[simp] theorem State.dropRunning_settings (s : State) :
    (State.dropRunning s).settings = s.settings := by
  unfold State.dropRunning; simp

@[simp] theorem State.recall_settings (s : State) :
    (State.recall s).settings = s.settings := by
  unfold State.recall; simp

@[simp] theorem State.answerRunning_settings (s : State) :
    (State.answerRunning s).settings = s.settings := by
  unfold State.answerRunning; simp

@[simp] theorem State.notDone_settings (s : State) (d : Option Deferred) :
    (State.notDone s d).settings = s.settings := by
  unfold State.notDone; (repeat' split) <;> simp_all

@[simp] theorem State.goHeadless_settings (s : State) (u : Fin 2) (cause : Byte) :
    (State.goHeadless s u cause).settings = s.settings := by
  unfold State.goHeadless; dsimp only; simp

@[simp] theorem State.declare_settings (s : State) (cause : Byte) :
    (State.declare s cause).settings = s.settings := by
  unfold State.declare; dsimp only; split <;> simp [SupState.fail]

@[simp] theorem State.noteVote_settings (s : State) (votes : Vector Bool 3) :
    (State.noteVote s votes).settings = s.settings := by
  unfold State.noteVote; (repeat' split) <;> simp_all

@[simp] theorem State.takeOver_settings (s : State) (u : Fin 2) (cause : Byte) (duration : BitVec 16) :
    (State.takeOver s u cause duration).settings = s.settings := by
  unfold State.takeOver; simp

@[simp] theorem State.takeoverComplete_settings (s : State) (duration : BitVec 16) :
    (State.takeoverComplete s duration).settings = s.settings := by
  unfold State.takeoverComplete; dsimp only; split <;> simp

@[simp] theorem State.restored_settings (s : State) (x : Restore) (passes : Bool) (tenths : BitVec 16) :
    (State.restored s x passes tenths).settings = s.settings := by
  unfold State.restored; dsimp only; split <;> simp

@[simp] theorem State.setViews_settings (s : State) (p : Hp) (v : List (Nat × CounterView)) :
    (State.setViews s p v).settings = s.settings := by
  unfold State.setViews; simp

@[simp] theorem State.snapshot_settings (s : State) (p : Hp) (mask : BitVec 32) :
    (State.snapshot s p mask).settings = s.settings := by
  unfold State.snapshot; simp

@[simp] theorem State.noteSnapTime_settings (s : State) (p : Hp) (mask : BitVec 32) :
    (State.noteSnapTime s p mask).settings = s.settings := by
  unfold State.noteSnapTime; simp

@[simp] theorem State.takeSnapshots_settings (s : State) :
    (State.takeSnapshots s).settings = s.settings := by
  unfold State.takeSnapshots; rw [settings_collector]; apply foldl_settings; intro s p; dsimp only; split <;> simp

@[simp] theorem State.restartViews_settings (s : State) (p : Hp) (named : CounterScope → Nat → Bool) :
    (State.restartViews s p named).settings = s.settings := by
  unfold State.restartViews; simp

@[simp] theorem State.clearViews_settings (s : State) (p : Hp) (named : Nat → Nat → Bool) :
    (State.clearViews s p named).settings = s.settings := by
  unfold State.clearViews; simp

@[simp] theorem State.collectorNext_settings (s : State) :
    (State.collectorNext s).settings = s.settings := by
  unfold State.collectorNext; simp

@[simp] theorem State.onBus_settings (s : State) (p : Hp) (a : BusAnswer) :
    (State.onBus s p a).settings = s.settings := by
  unfold State.onBus; simp

@[simp] theorem State.directed_settings (s : State) (p : Hp) (addr : BitVec 7) (f : State → State)
    (h : ∀ x, (f x).settings = x.settings) :
    (State.directed s p addr f).settings = s.settings := by
  unfold State.directed; split
  · simp
  · split <;> simp [h]

@[simp] theorem State.broadcast_settings (s : State) (p : Hp) (f : State → State)
    (h : ∀ x, (f x).settings = x.settings) :
    (State.broadcast s p f).settings = s.settings := by
  unfold State.broadcast; split <;> simp [h]

@[simp] theorem State.ccc_settings (s : State) (p : Hp) (to_ : Option (BitVec 7)) (f : State → State)
    (h : ∀ x, (f x).settings = x.settings) :
    (State.ccc s p to_ f).settings = s.settings := by
  unfold State.ccc; split <;> simp [h]

@[simp] theorem State.framed_settings (s : State) (p : Hp) (x : Xfer) (code : Byte) (f : State → State)
    (h : ∀ x, (f x).settings = x.settings) :
    (State.framed s p x code f).settings = s.settings := by
  unfold State.framed; split
  · rw [h]; simp
  · split
    · simp
    · split <;> simp [h]

@[simp] theorem State.portReply_settings (s : State) (p : Hp) (h : Header) (auth : Option AuthContext) (st : Status) (data : Bytes) :
    (State.portReply s p h auth st data).settings = s.settings := by
  unfold State.portReply; simp

@[simp] theorem State.authFail_settings (s : State) (p : Hp) (h : Header) :
    (State.authFail s p h).settings = s.settings := by
  unfold State.authFail; simp

@[simp] theorem State.accept_settings (s : State) (p : Hp) (h : Header) (auth : Option AuthContext) (b : Bytes) :
    (State.accept s p h auth b).settings = s.settings := by
  unfold State.accept; simp

@[simp] theorem State.retransmit_settings (s : State) (p : Hp) (seq : BitVec 16) :
    (State.retransmit s p seq).settings = s.settings := by
  unfold State.retransmit; (repeat' split) <;> simp_all

@[simp] theorem State.sequence_settings (s : State) (p : Hp) (h : Header) (auth : Option AuthContext) (b : Bytes) :
    (State.sequence s p h auth b).settings = s.settings := by
  unfold State.sequence; simp

@[simp] theorem State.trailer_settings (s : State) (p : Hp) (h : Header) (b : Bytes) :
    (State.trailer s p h b).settings = s.settings := by
  unfold State.trailer; dsimp only; (repeat' split) <;> simp

@[simp] theorem State.packet_settings (s : State) (p : Hp) (b : Bytes) :
    (State.packet s p b).settings = s.settings := by
  unfold State.packet; simp

@[simp] theorem State.write_settings (s : State) (p : Hp) (b : Bytes) :
    (State.write s p b).settings = s.settings := by
  unfold State.write; simp

@[simp] theorem State.read_settings (s : State) (p : Hp) :
    (State.read s p).settings = s.settings := by
  unfold State.read; split
  · simp
  · dsimp only; rw [settings_power]; simp

@[simp] theorem State.ibiIfTraffic_settings (s : State) (p : Hp) :
    (State.ibiIfTraffic s p).settings = s.settings := by
  unfold State.ibiIfTraffic; apply State.updPort_settings; intro q; split <;> simp

@[simp] theorem State.takeAddr_settings (s : State) (p : Hp) (addr : BitVec 7) :
    (State.takeAddr s p addr).settings = s.settings := by
  unfold State.takeAddr; simp

@[simp] theorem State.overflow_settings (s : State) (p : Hp) :
    (State.overflow s p).settings = s.settings := by
  unfold State.overflow; simp

@[simp] theorem State.takeEvents_settings (s : State) (p : Hp) (k : Nat) :
    (State.takeEvents s p k).settings = s.settings := by
  unfold State.takeEvents; simp

@[simp] theorem State.sopEvent_settings (s : State) (e : Eng) (old : Engine) (rate : BitVec 32) :
    (State.sopEvent s e old rate).settings = s.settings := by
  unfold State.sopEvent; simp

@[simp] theorem State.switchCheck_settings (s : State) (e : Eng) (old : Engine) :
    (State.switchCheck s e old).settings = s.settings := by
  unfold State.switchCheck; simp

@[simp] theorem State.shortEngine_settings (s : State) (l : List ShortMeasure) (e : Eng) :
    (State.shortEngine s l e).settings = s.settings := by
  unfold State.shortEngine; split
  · rfl
  · split
    · simp [Engine.shortEnd]
    · rfl

@[simp] theorem State.twinSwitch_settings (s : State) (e : Eng) :
    (State.twinSwitch s e).settings = s.settings := by
  unfold State.twinSwitch; simp

@[simp] theorem State.decimEvent_settings (s : State) :
    (State.decimEvent s).settings = s.settings := by
  unfold State.decimEvent; simp

@[simp] theorem State.shortClients_settings (s : State) :
    (State.shortClients s).settings = s.settings := by
  unfold State.shortClients; simp only [State.settings, Vector.map_map]; rfl

@[simp] theorem State.rsFec_settings (s : State) (ports : List (Nat × Nat)) (c : Cp) :
    (State.rsFec s ports c).settings = s.settings := by
  unfold State.rsFec; dsimp only; split <;> simp

@[simp] theorem State.marginEvent_settings (s : State) (e : Eng) :
    (State.marginEvent s e).settings = s.settings := by
  unfold State.marginEvent; (repeat' split) <;> simp_all

@[simp] theorem State.longEngine_settings (s : State) (l : List LongMeasure) (e : Eng) :
    (State.longEngine s l e).settings = s.settings := by
  unfold State.longEngine; dsimp only; split <;> simp

@[simp] theorem State.longReports_settings (s : State) (e : Eng) :
    (State.longReports s e).settings = s.settings := by
  unfold State.longReports; simp

@[simp] theorem State.stallEvent_settings (s : State) (dir : Byte) (n : Nat) :
    (State.stallEvent s dir n).settings = s.settings := by
  unfold State.stallEvent; simp

@[simp] theorem State.longBanks_settings (s : State) :
    (State.longBanks s).settings = s.settings := by
  unfold State.longBanks; simp

@[simp] theorem State.longTime_settings (s : State) :
    (State.longTime s).settings = s.settings := by
  unfold State.longTime; simp

@[simp] theorem State.longGauge_settings (s : State) :
    (State.longGauge s).settings = s.settings := by
  unfold State.longGauge; simp

@[simp] theorem State.longCounters_settings (s : State) :
    (State.longCounters s).settings = s.settings := by
  unfold State.longCounters; dsimp only; split <;> simp

@[simp] theorem State.hwWarm_settings (s : State) :
    (State.hwWarm s).settings = s.settings := by
  unfold State.hwWarm; (repeat' split) <;> simp_all

@[simp] theorem State.ovenWaited_settings (s : State) :
    (State.ovenWaited s).settings = s.settings := by
  unfold State.ovenWaited; simp only [State.settings]

@[simp] theorem State.strapFault_settings (s : State) (strap : Byte) (code : Option (BitVec 12)) :
    (State.strapFault s strap code).settings = s.settings := by
  unfold State.strapFault; (repeat' split) <;> simp_all

@[simp] theorem State.readStraps_settings (s : State) (rep : ReadyReport) :
    (State.readStraps s rep).settings = s.settings := by
  unfold State.readStraps; simp; simp only [State.settings]

@[simp] theorem State.fuseEffect_settings (s : State) (f : FuseRow) :
    (State.fuseEffect s f).settings = s.settings := by
  unfold State.fuseEffect; dsimp only; split
  · split
    · apply State.updEng_settings; intro x; rfl
    · rfl
  · split <;> simp
  · simp only [State.settings, Vector.map_map]; rfl
  · rfl
  · rfl

@[simp] theorem State.fuseFault_settings (s : State) (f : FuseRow) :
    (State.fuseFault s f).settings = s.settings := by
  unfold State.fuseFault; simp

@[simp] theorem State.readFuse_settings (s : State) (f : FuseRow) :
    (State.readFuse s f).settings = s.settings := by
  unfold State.readFuse; (repeat' split) <;> simp_all

@[simp] theorem State.readFuses_settings (s : State) (rep : ReadyReport) :
    (State.readFuses s rep).settings = s.settings := by
  unfold State.readFuses; dsimp only
  refine (settings_engines_map _ (fun (x : Engine) => { x with cal := { x.cal with dacPhase := x.cal.firstPhase } })
    fun _ => rfl).trans ?_
  rw [foldl_settings _ _ (fun s f => by simp)]
  simp only [State.settings]

@[simp] theorem State.recordFault_settings (s : State) (f : FactoryRecord) :
    (State.recordFault s f).settings = s.settings := by
  unfold State.recordFault; split
  · exact State.raise_settings _ _ _ _
  · rfl

@[simp] theorem State.calibrateGauge_settings (s : State) :
    (State.calibrateGauge s).settings = s.settings := by
  unfold State.calibrateGauge; simp only [State.settings]

@[simp] theorem State.recordTrip_settings (s : State) :
    (State.recordTrip s).settings = s.settings := by
  unfold State.recordTrip; simp

@[simp] theorem State.openPorts_settings (s : State) :
    (State.openPorts s).settings = s.settings := by
  unfold State.openPorts; simp only [State.settings, Vector.map_map]; rfl

@[simp] theorem State.announceReady_settings (s : State) (time : BitVec 32) :
    (State.announceReady s time).settings = s.settings := by
  unfold State.announceReady; simp

/-- The records found at ready change the factory region alone (R181, R183). -/
theorem State.readRecords_settings (s : State) (rep : ReadyReport) :
    (s.readRecords rep).settings = { s.settings with factory := (s.readRecords rep).settings.factory } := by
  unfold State.readRecords
  dsimp only
  rw [foldl_settings _ _ (fun s f => by simp)]
  simp only [State.settings]

/-- Reading the owner fuses changes, of the settings, the owner key alone (R334). -/
theorem State.readOwner_settings (s : State) :
    s.readOwner.settings = { s.settings with ownerKey := s.readOwner.settings.ownerKey } := by
  simp only [State.settings, State.readOwner]

/-- Becoming ready changes, of the settings, the factory region and the owner key alone (R334, R508). -/
theorem State.becomeReady_settings (s : State) (rep : ReadyReport) :
    (s.becomeReady rep).settings =
      { s.settings with
        factory := (s.becomeReady rep).settings.factory, ownerKey := (s.becomeReady rep).settings.ownerKey } := by
  unfold State.becomeReady
  simp only [State.announceReady_settings, State.recordTrip_settings]
  rw [State.readRecords_settings]
  simp only [State.calibrateGauge_settings, State.readStraps_settings]
  rw [State.readOwner_settings]
  simp

@[simp] theorem State.immediateEffect_settings (s : State) (x : Immediate) :
    (State.immediateEffect s x).settings = s.settings := by
  unfold State.immediateEffect; (repeat' split) <;> simp_all

@[simp] theorem State.immediateEffects_settings (s : State) :
    (State.immediateEffects s).settings = s.settings := by
  unfold State.immediateEffects; simp

@[simp] theorem State.depEndDue_settings (s : State) (e : Eng) :
    (State.depEndDue s e).settings = s.settings := by
  unfold State.depEndDue; split
  · unfold execDepEnd eventIf event; dsimp only; (repeat' split) <;> simp
  · rfl

@[simp] theorem State.beforeTick_settings (s : State) :
    (State.beforeTick s).settings = s.settings := by
  unfold State.beforeTick; simp

@[simp] theorem State.tdSetsDue_settings (s : State) :
    (State.tdSetsDue s).settings = s.settings := by
  unfold State.tdSetsDue; apply foldl_settings; intro s d; split
  · split <;> simp
  · rfl

@[simp] theorem State.deadlines_settings (s : State) (id : Nat) :
    (State.deadlines s id).settings = s.settings := by
  unfold State.deadlines; dsimp only; (repeat' split) <;> simp

@[simp] theorem repeated_settings (n : Nat) (f : State → State) (s : State)
    (h : ∀ x, (f x).settings = x.settings) :
    (repeated n f s).settings = s.settings := by
  unfold repeated; exact foldl_settings _ _ (fun s _ => h s) s

@[simp] theorem State.serveFlows_settings (s : State) (d : Dir) :
    (State.serveFlows s d).settings = s.settings := by
  unfold State.serveFlows; simp

@[simp] theorem State.withinPeriod_settings (s : State) :
    (State.withinPeriod s).settings = s.settings := by
  unfold State.withinPeriod; simp

@[simp] theorem State.afterTick_settings (s : State) :
    (State.afterTick s).settings = s.settings := by
  unfold State.afterTick; simp

@[simp] theorem State.unknownOpcode_settings (s : State) (op : BitVec 16) (r : Request) :
    (State.unknownOpcode s op r).settings = s.settings := by
  exact serve_settings _ _ _ _ _ trivial

@[simp] theorem State.turnTo_settings (s : State) (p : Hp) :
    (State.turnTo s p).settings = s.settings := by
  unfold State.turnTo; simp

@[simp] theorem State.withFetchWord_settings (s : State) (nbits : Nat) (w : Nat) :
    (State.withFetchWord s nbits w).settings = s.settings := by
  unfold State.withFetchWord; (repeat' split) <;> simp_all

/-! ## Commands -/

/-- An outcome is a next state with the settings of `s`. -/
def KeepsSettings (o : Host.Outcome State Fault Refusal) (s : State) : Prop := ∃ t, o = .next t ∧ t.settings = s.settings

theorem keepsSettings_next {s t : State} (h : t.settings = s.settings) : KeepsSettings (.next t) s := ⟨t, rfl, h⟩

theorem event_keeps (s : State) (f : State → State) (h : ∀ x, (f x).settings = x.settings) :
    KeepsSettings (event s f) s := by
  unfold event
  apply keepsSettings_next
  split
  · exact h s
  · rfl

theorem eventIf_keeps (s : State) (c : Bool) (f : State → State) (h : ∀ x, (f x).settings = x.settings) :
    KeepsSettings (eventIf s c f) s := by
  unfold eventIf
  apply event_keeps
  intro x
  split
  · exact h x
  · rfl

/-- A request keeps the settings if every answer of its body does. -/
theorem opcode_keeps (op : BitVec 16) (b : Bool) (r : Request) (s : State) (body : State → Answer)
    (h : ∀ x, (body x).Keeps x) : KeepsSettings (opcode op b r s body) s :=
  keepsSettings_next (serve_settings _ _ _ _ _ (h _))

end Sys2Proof.Machine
end

