-- ==== Sys2Proof/Machine/Contacts.lean ====
section
/-! DEFINITION. The contacts of the connector: their assignment, the state of each output, boundary scan's cover, the
receptacles, and the power budget (spec/21_connector_pins.md; R537 of spec/22_characteristics.md). -/

namespace Sys2Proof.Machine

/-! ## Contacts (R519 to R522) -/

/-- A contact by its function; `p` is true at a _P contact. -/
inductive Contact where
  | gnd | p12v | aux | vio
  | ci (lane : LaneNo) (p : Bool) | co (lane : LaneNo) (p : Bool)
  | scl (port : Hp) | sda (port : Hp)
  | resetN | faultN | thermN | presentN
  | strap (n : Fin 2)
  | tck | tms | tdi | tdo
  | syncIn | ppsIn (n : Fin 2) | ppsOut (n : Fin 2) | tpo (n : Fin 4)
  | refIn (n : Fin 2) (p : Bool) | refOut (p : Bool)
  | scClk (e : Eng) | scFs (e : Eng) | scTxd (e : Eng) | scRxd (e : Eng)
  | rsv (n : Fin 8)
  deriving DecidableEq, Repr

/-- Columns 26 to 30 of rows A to U, from the top (R521). -/
def controlField : List (List Contact) :=
  [[.scl 0, .sda 0, .gnd, .scl 1, .sda 1],
   [.scl 2, .sda 2, .gnd, .scl 3, .sda 3],
   [.resetN, .faultN, .thermN, .presentN, .gnd],
   [.strap 0, .strap 1, .gnd, .tck, .tms],
   [.tdi, .tdo, .gnd, .syncIn, .gnd],
   [.ppsIn 0, .gnd, .ppsIn 1, .gnd, .ppsOut 0],
   [.gnd, .ppsOut 1, .gnd, .tpo 0, .tpo 1],
   [.tpo 2, .tpo 3, .gnd, .gnd, .gnd]]
  ++ [[.refIn 0 true, .refIn 0 false, .gnd, .refIn 1 true, .refIn 1 false],
   [.refOut true, .refOut false, .gnd, .gnd, .gnd],
   [.scClk 0, .scFs 0, .scTxd 0, .scRxd 0, .gnd],
   [.scClk 1, .scFs 1, .scTxd 1, .scRxd 1, .gnd],
   [.scClk 2, .scFs 2, .scTxd 2, .scRxd 2, .gnd],
   [.scClk 3, .scFs 3, .scTxd 3, .scRxd 3, .gnd],
   [.rsv 0, .rsv 1, .rsv 2, .rsv 3, .gnd],
   [.rsv 4, .rsv 5, .rsv 6, .rsv 7, .gnd]]

/-- The contact at row index `r` and column `c`, both from 1 to 30 (R519 to R522). -/
def contactAt (r c : Nat) : Contact :=
  if r ≤ 16 then
    if c ≤ 24 then
      let j := (c - 1) / 3
      let k := fun (first : Nat) => (Fin.ofNat 64 (8 * (r - first) + j) : LaneNo)
      if (c - 1) % 3 == 2 then .gnd
      else if r ≤ 8 then .ci (k 1) ((c - 1) % 3 == 0) else .co (k 9) ((c - 1) % 3 == 0)
    else if c == 25 then .gnd
    else (controlField.getD (r - 1) []).getD (c - 26) .gnd
  else if r == 18 && (c == 29 || c == 30) then .vio
  else if r == 24 && c ≤ 4 then .aux
  else if 25 ≤ r && c ≤ 12 then .p12v
  else .gnd

/-- The 900 contacts, row by row. -/
def allContacts : List Contact :=
  (List.range 30).flatMap fun r => (List.range 30).map fun c => contactAt (r + 1) (c + 1)

/-- The boundary-scan register covers the contact: the control and timing contacts but the reserved ones (R531). -/
def Contact.scanned : Contact → Bool
  | .gnd | .p12v | .aux | .vio | .ci _ _ | .co _ _ | .rsv _ => false
  | _ => true

/-- The contact is referred to VIO (R523, R524). -/
def Contact.vioReferred : Contact → Bool
  | .scl _ | .sda _ | .resetN | .syncIn | .ppsIn _ | .ppsOut _ | .tpo _ | .scClk _ | .scFs _ | .scTxd _ | .scRxd _
  | .tck | .tms | .tdi | .tdo => true
  | _ => false

/-- Electrical type of a contact (R523). -/
inductive Pad where
  | supply | ground | auiReceiver | auiTransmitter | i3cClock | i3cData | hysteresisIn | openDrain | strap | cmosIn
  | cmosOut | sourceOut | refReceiver | refDriver | unconnected
  deriving DecidableEq, Repr

/-- The electrical type of each contact (R523, R524). -/
def Contact.pad : Contact → Pad
  | .p12v | .aux | .vio => .supply
  | .gnd | .presentN => .ground
  | .ci _ _ => .auiReceiver
  | .co _ _ => .auiTransmitter
  | .scl _ => .i3cClock
  | .sda _ => .i3cData
  | .resetN => .hysteresisIn
  | .faultN | .thermN => .openDrain
  | .strap _ => .strap
  | .syncIn | .ppsIn _ | .scTxd _ | .tck | .tms | .tdi => .cmosIn
  | .ppsOut _ | .tpo _ => .sourceOut
  | .scClk _ | .scFs _ | .scRxd _ | .tdo => .cmosOut
  | .refIn _ _ => .refReceiver
  | .refOut _ => .refDriver
  | .rsv _ => .unconnected

/-- A pull or termination inside the module: ohms to GND, to VIO, to the 1.200 V reference, or across a pair (R523). -/
inductive Pull where
  | none | toGnd (ohms : Nat) | toVio (ohms : Nat) | toReference (ohms : Nat) | across (ohms : Nat)
  deriving DecidableEq, Repr

/-- The internal pull or termination of each contact (R523). -/
def Contact.pull : Contact → Pull
  | .ci _ _ | .co _ _ | .refIn _ _ => .across 100
  | .strap _ => .toReference 10000
  | .syncIn | .ppsIn _ | .scTxd _ | .tck => .toGnd 50000
  | .tms | .tdi => .toVio 50000
  | _ => .none

/-! ## Output states (R526 to R528) -/

/-- What the module does with a contact: `signal` carries the output's own function, `idle` is electrical idle,
`grounded` a resistor to GND inside the module, and `none` a contact that is no output or a supply. -/
inductive Drive where
  | released | low | high | floating | idle | signal | grounded | none
  deriving DecidableEq, Repr

/-- The variant has a lane or an engine behind the contact (R528). -/
def State.wired (s : State) : Contact → Bool
  | .ci l _ | .co l _ => s.hasLane l.val
  | .scClk e | .scFs e | .scTxd e | .scRxd e => s.hasEngine e.val
  | _ => true

/-- The state of an output after ready (R244, R271, R389, R390, R423, R475, R457, R527).  Shift-DR and Shift-IR pass
within a row of the test access port, so TDO is seen outside them. -/
def State.readyDrive (s : State) : Contact → Drive
  | .sda _ => .released
  | .faultN => if s.faultLow then .low else .released
  | .ppsOut n => if s.ppsHigh n then .high else .low
  | .tpo n => if (s.time.tpo[n]).flags.getLsbD 0 then (if s.tpoHigh n then .high else .low) else .floating
  | .refOut p => if s.refoutHz.isSome then .signal else if p then .low else .high
  | .scClk _ | .scFs _ | .scRxd _ => .signal
  | .tdo => .floating
  | .co l _ => if (s.lane l).power == .active then .signal else .idle
  | _ => .none

/-- The state of an output before ready, or while RESET_N is held low (R526, R527). -/
def Contact.resetDrive : Contact → Drive
  | .sda _ | .faultN => .released
  | .ppsOut _ | .tpo _ | .refOut _ | .scClk _ | .scFs _ | .scRxd _ | .tdo | .co _ _ => .floating
  | _ => .none

/-- The state of a contact.  PRESENT_N is wired to GND and THERM_N works without VIO (R524, R527); a VIO-referred output
floats without VIO (R504, R526), and the contacts of boundary scan follow it (R531). -/
def State.drive (s : State) (c : Contact) : Drive :=
  if !s.wired c then .grounded
  else match c with
  | .presentN => .low
  | .thermN => if s.thermLow then .low else .released
  | _ =>
    let d := if s.ready then s.readyDrive c else c.resetDrive
    if d == .none then .none
    else if c.vioReferred && !s.power.vio then .floating
    else if c.scanned && s.jtag.floating then .floating
    else if c.scanned && s.jtag.driving then .signal
    else d

/-! ## Receptacles (R532) -/

/-- Receptacle `n` belongs to WEn; an absent one has no engine. -/
def State.receptacle (s : State) (n : Fin 4) : Option Eng := if s.hasEngine n.val then some n else none

/-! ## The power budget (R537) -/

/-- Typical and maximum power of an engine in mW, by LINE code. -/
def profilePower : Nat → Nat × Nat
  | 1 => (51750, 61000) | 2 => (47000, 55500) | 3 => (41500, 49000) | 4 => (35000, 41500) | 5 => (27500, 32500)
  | 6 => (23000, 27250) | _ => (0, 0)

/-- Typical and maximum module power in mW: the base and every engine whose active LINE is not 0x0, Oxbow as the profile
that LINE names and each Twin member in full. -/
def State.modulePower (s : State) : Nat × Nat :=
  let base := if s.engineCount = 4 then (48000, 56000) else (43000, 50000)
  (List.finRange 4).foldl (fun (a : Nat × Nat) e =>
    let x := profilePower (if s.hasEngine e.val then (s.eng e).params.active.line else 0)
    (a.1 + x.1, a.2 + x.2)) base

end Sys2Proof.Machine
end

