-- ==== Sys2Proof/WellFormed.lean ====
section
/-! DEFINITION. Well-formed commands: operands within what the command can carry at all, whatever the module answers.
Every value a packet can carry is well-formed; the module's own checks answer the rest. -/

namespace Sys2Proof

/-- The parameters of an accepted request fit a packet (R43, R44). -/
def Request.wf (r : Request) : Bool := r.params.length ≤ 4080

/-- Straps are read up to nine times (R440). -/
def ReadyReport.wf (r : ReadyReport) : Bool :=
  0 < r.strap0.length && r.strap0.length ≤ 9 && 0 < r.strap1.length && r.strap1.length ≤ 9

/-- A COMMIT_ID (R88). -/
def commitIdOk (id : Nat) : Bool := 1 ≤ id && id ≤ 16

/-- A well-formed command. -/
def Instr.wellFormed : Instr → Bool
  | .requestPacket _ _ _ bytes => bytes.length ≤ 4096
  | .cccEntdaa _ _ addr => addr.toNat != 0
  | .cccSetdasa _ _ addr => addr.toNat != 0
  | .cccSetnewda _ _ addr => addr.toNat != 0
  | .commitBoundary id => commitIdOk id
  | .ackDeadline id => commitIdOk id
  | .responderTarget id => commitIdOk id
  | .pairedTxSwitch id => commitIdOk id
  | .pairedRxSwitch id => commitIdOk id
  | .timingLock v => v.value.length == 16
  | .timingLockLost v => v.value.length == 16
  | .calMeasureDone _ _ pairs => 0 < pairs.length && pairs.length ≤ 15
  | .dacCalStepDone _ pairs => 0 < pairs.length && pairs.length ≤ 15
  | .laneFrameRx _ symbols _ => symbols.length ≤ 17408
  | .lineEgressFrame _ frame => frame.length ≤ 16383
  | .ptpEventMessage _ m => m.frame.length ≤ 16383
  | .captureEdge _ quarters => quarters < 656
  | .gaugeCalDone offsets _ => offsets.length == 4
  | .gaCycleStart codes _ => codes.length == 64
  | .weirReading temps => temps.length == 104
  | .prbsCheckerRelock v => v.errors ≥ 32
  | .shortIntervalEnd m => m.engines.length == 4 && m.lanes.length ≤ 64 && m.ports.length ≤ 64
  | .longIntervalEnd engines => engines.length == 4
  | .moduleReady report => report.wf
  | .portInfo r | .portConfig r | .portReset r | .portEcho r | .eventRead r | .tenancySet r | .tenancyGet r
  | .wsInfo r | .wsRead r | .wsFind r | .sluiceCommit r | .sluiceCancel r | .sluiceDiscard r | .sluiceStatus r
  | .txConfigWrite r | .txConfigRead r | .txStatus r | .txBiasHold r | .rxConfigWrite r | .rxConfigRead r
  | .rxStatus r | .rxMonitor r | .rxReacquire r | .rxFreeze r | .rxCapture r | .rxCaptureRead r | .calConfigWrite r
  | .calConfigRead r | .calStatus r | .calSliceRead r | .calRecords r | .fecConfigWrite r | .fecConfigRead r
  | .fecStatus r | .profileWrite r | .profileRead r | .frameConfigWrite r | .frameConfigRead r | .slotmapWrite r
  | .slotmapRead r | .frameStatus r | .cportWrite r | .cportRead r | .laneEqWrite r | .laneEqRead r | .lanePower r
  | .clientLoopback r | .prbsControl r | .synceWrite r | .synceRead r | .laneStatus r | .portStatus r
  | .flowPortWrite r | .flowPortRead r | .etypeWrite r | .etypeRead r | .flowAdd r | .flowDelete r | .flowLookup r
  | .ctxLoad r | .ctxFill r | .ctxRead r | .ctxRekey r | .ctxReload r | .sealConfigWrite r | .sealConfigRead r
  | .keyLoad r | .keyRewrite r | .keyErase r | .keyStatus r | .portkeyLoad r | .portkeyErase r | .portkeyStatus r
  | .millraceStatus r | .ownerProvision r | .ownerStatus r | .idChallenge r | .memConfigWrite r | .memConfigRead r
  | .memStatus r | .memLogRead r | .memWordRead r | .memInject r | .hwConfigWrite r | .hwConfigRead r
  | .hwPhaseStep r | .hwStatus r | .hwInputStatus r | .tdConfigWrite r | .tdConfigRead r | .tdSet r | .tdStatus r
  | .ptpPortWrite r | .ptpPortRead r | .tpoWrite r | .tpoRead r | .captureRead r | .tslogRead r | .gaugeSeqWrite r
  | .gaugeSeqRead r | .gaugeInject r | .gaugeCalibrate r | .gaugeCheckWrite r | .gaugeStatus r | .gaugeResultRead r
  | .weirPolicyWrite r | .weirPolicyRead r | .weirStatus r | .weirSensorRead r | .supStatus r | .supSwap r
  | .supRestore r | .supConfigWrite r | .supConfigRead r | .ctrConfigWrite r | .ctrConfigRead r | .ctrSnapshot r
  | .ctrRead r | .ctrClear r | .frRead r | .tagConfigWrite r | .tagLogRead r | .moduleReset r | .resetInfo r
  | .nvRead r | .nvWrite r => r.wf
  | .replyRead _ _ _ | .ibiRepeat _ | .cccRstdaa _ | .cccEnec _ _ | .cccDisec _ _ | .cccGetpid _ _ | .cccGetbcr _ _
  | .cccGetdcr _ _ | .cccGetstatus _ _ | .cccGetmwl _ _ | .cccGetmrl _ _ | .cccSetmwl _ _ _ | .cccSetmrl _ _ _
  | .cccEnthdr0 _
  | .cccOther _ _ _ | .frameTransmit | .lockerLocked _ | .biasAcquired _ | .txReady _ _ _ | .depEnd _
  | .txQuenched _ | .laserFault _ _ | .txPowerFault _ _ _ | .losTimer _ | .lightTimer _
  | .freqEstimated _ | .rxCaptureDone _ _ | .tapUpdate _ _ _ | .frameReceive _ _
  | .cdSearchPassEnd _ _ | .cmaConverged _ | .rxStateTimeout _ | .calApply _ _ | .calIntervalEnd _ _
  | .decoderAdvance _ _ | .groupHuntDone _ _ | .scSlot _ _ _ | .pilotFound _ | .carrierLockLost _
  | .clientOrderedSetRx _ _ | .portFailDetect _ _ _ _ | .portFailClearTimer _ | .laneAdaptDone _ _
  | .clientFrameRx _ _ _ | .ctxFillDone
  | .contextFetchDone _ | .millraceAdmit _ | .graceExpiry | .keyRewriteGraceEnd | .keyErasePoint | .keyEraseDone
  | .ownerProvisionDone _ | .channelTrainingDone _ | .channelTrainingFail _ | .memSweepDone _ | .eddyRead
  | .mergeRetire _ | .inputQualifyTimer _ _ | .inputLoss _ _ | .buildOutWindowEnd _ | .hwLockDeclared
  | .wtrExpiry _ | .holdoverSecond | .phaseStepApply | .phaseSlewEnd | .refoutRestart | .ovenStable
  | .syncLossTimeout _ | .tpoEdge _ | .decimatorReset | .gbConversionEnd _ | .gbPassTick | .weirReleaseTimer
  | .hardwiredTrip | .swapWindowEnd | .restoreComplete _ _ | .autoRestoreTimer _ | .refereeWindow _
  | .supParityFault | .supIllegalState | .journalRecordFail | .voterDisagree _ | .takeoverComplete _
  | .ctrSnapshotTick | .moduleResetBegin | .nvWriteDone | .powerOnTrigger | .supplyLoss _ | .tripLatchRelease
  | .resetNAssert | .resetNDeassert _ | .vioLoss | .tapReset | .jtagBypass | .jtagIdcode | .jtagSamplePreload _ _
  | .jtagExtest | .jtagClamp | .jtagHighz | .tileLinkFail _ | .vioRestored | .p3v3AuxApplied | .prbsCheckerLock _
  | .ppsOutEdge _ | .outputTimeSlewEnd | .tdSetApply _ | .immediateEffectBoundary => true

end Sys2Proof
end

