-- ==== Sys2Proof/Tests/Slice0.lean ====
section
/-! SUPPORT. The model's own tests. -/

namespace Sys2Proof.Tests

open Sys2Proof Sys2Proof.Machine

-- The tests are checked one after the other: each is small, and together they keep within one thread.
set_option Elab.async false

/-- The module, ready, with context memory swept. -/
def up : State := { State.reset with
  power := { phase := .ready }
  mem := { swept := true, channels := Vector.replicate 8 { mode := .ready } } }

/-- A request of HP0. -/
def rq (params : Bytes) : Request :=
  { port := 0, tag := 7, seq := 0, auth := none, chain := false, prio := false, flag0 := false, params := params }

/-- A request of a port. -/
def rqOn (p : Hp) (params : Bytes) : Request := { rq params with port := p }

/-- A request waits at a port. -/
def queued (p : Hp) (op : BitVec 16) (r : Request) : State := up.updPort p fun q => { q with queue := [(op, r)] }

/-- The module in headless running. -/
def headless : State := { up with sup := { up.sup with headless := true, units := Vector.replicate 2 .failed } }

/-- A reply waits at a port that holds a dynamic address and repeats its IBIs. -/
def withTraffic (p : Hp) : State := up.updPort p fun q =>
  { q with dynAddr := some 0x30, holdoff := 1, replies := [{ seq := 0, opcode := 0x0104, bytes := [1] }] }

/-- A request with PRIO, and with CHAIN or bit 0 as well. -/
def prioRq (p : Hp) (chain flag0 : Bool) : Request := { rqOn p [] with prio := true, chain := chain, flag0 := flag0 }

/-- HP0's event queue holds `n` records, and `lost` were lost. -/
def withEvents (n : Nat) (lost : BitVec 32) : State := up.updPort 0 fun q =>
  { q with events := List.replicate n { time := 1, code := 0x0501, inst := 0, data := [] }, lost := lost }

/-- A commit of class PROFILE on the four engines, due at the next tick. -/
def someCommit : Commit :=
  { id := 1, port := 0, trigger := 1, engines := 15, ref := 0, classes := 1, token := 0, state := 1
    targets := Vector.replicate 4 0, targetTime := (0, 0), dueTick := some 1, late := none
    far := Vector.replicate 4 0, acks := 0, confirms := 0, mismatch := false, aborted := false
    txDone := false, rxDone := 0, split := false }

/-- A paired commit of an initiator that waits for acknowledgements, at its deadline. -/
def waiting (acks : BitVec 4) : Commit :=
  { someCommit with trigger := 4, state := 2, acks := acks, targets := Vector.replicate 4 1024 }

/-- A responder's commit without CONFIRM, at its target. -/
def responding : Commit := { someCommit with trigger := 5, state := 2, engines := 1, acks := 1 }

/-- A confirmed commit of engine 0, at its target. -/
def confirmed (txDone : Bool) : Commit :=
  { someCommit with
    trigger := 4, state := 3, engines := 1, acks := 1, txDone := txDone, targets := Vector.replicate 4 1 }

/-- One commit is pending. -/
def withCommit (k : Commit) : State := { up with commits := [k] }

/-- One commit of other classes is pending. -/
def holding (classes : BitVec 16) : State := withCommit { someCommit with classes := classes }

/-- Sixteen commits of class SLOTMAP are pending. -/
def sixteen : State := { up with commits := List.replicate 16 { someCommit with classes := 2 } }

/-- A chained request of HP1 has failed. -/
def chained : State := up.updPort 1 fun q => { q with chainFailed := true }

/-- HP0's reply slots are taken. -/
def replied : State := up.updPort 0 fun q => { q with replies := List.replicate 16 { seq := 0, opcode := 0, bytes := [] } }

/-- A command waits. -/
def commanded : State := { up with pending := [.jtagBypass] }

/-- Engine 3 as a function makes it. -/
def engined (f : Engine → Engine) : State := up.updEng 3 f

/-- Engine 3 transmits in a mode, at a step of its sequence. -/
def txIn (mode : TxMode) (step : Nat) : State := engined fun x =>
  { x with tx := { x.tx with mode := mode, step := step, depLeft := some 0, running := true } }

/-- Engine 3 receives line code 1 in a mode, its decoder aligned or not. -/
def rxIn (mode : RxMode) (aligned : Bool) : State := engined fun x =>
  { x with
    params := ⟨{ profile := 1 }, { profile := 1 }⟩
    rx := { x.rx with mode := mode }
    fec := { x.fec with aligned := aligned } }

/-- Engine 3's ADC converter 3 calibrates in a phase, slice 0 under test. -/
def adcIn (phase : CalPhase) : State := (rxIn .track true).updEng 3 fun x =>
  { x with cal := { x.cal with adc := Vector.replicate 4 { phase := phase, test := some 0 } } }

/-- Engine 3's lasers give light, its DACs calibrate and one waits to be applied. -/
def dacIn : State := (rxIn .track true).updEng 3 fun x =>
  { x with tx := { x.tx with mode := .lit }, cal := { x.cal with dac := Vector.replicate 4 { due := some (0, 0) } } }

/-- Engine 3 at the end of its enable sequence. -/
def settled : State := engined fun x =>
  { x with tx := { x.tx with mode := .enabling, step := 4, setpoint := x.txParams.launch } }

/-- A CD search about 0 ps/nm. -/
def search : CdSearch := { mode := 0, coarse := [0], fine := 10, range := 1000 }

/-- Engine 3 searches its dispersion. -/
def searching : State := (rxIn .cd true).updEng 3 fun x => { x with rx := { x.rx with search := some search } }

/-- A pilot bit as a sample: 0 is positive. -/
def pilotSign (b : Bool) : Rat := if b then -1 else 1

/-- 64 pilots from the seed of the sequence on, with 63 symbols after each. -/
def pilotSymbols : List Quad :=
  let b := (pilotBits 256 0x2D2D).1
  (List.range 64).flatMap fun k =>
    { xi := pilotSign (b.getD (4 * k) false), xq := pilotSign (b.getD (4 * k + 1) false),
      yi := pilotSign (b.getD (4 * k + 2) false), yq := pilotSign (b.getD (4 * k + 3) false) : Quad } ::
        List.replicate 63 {}

/-- Engine 3 receives line code 1 in a mode, and its receive chain holds symbols that a function puts there. -/
def pipeIn (mode : RxMode) (f : RxPipe → RxPipe) : State := (rxIn mode true).updEng 3 fun x =>
  { x with rx := { x.rx with pipe := f x.rx.pipe } }

/-- One position in the decoder's window. -/
def position : WindowPosition :=
  { llr := List.replicate 8192 1, pinned := List.replicate 8192 false, known := 0, line := 1, chain := 0, index := none, data := false, last := false
    block := 0, chainStart := none }

/-- Engine 3 decodes, with the last position of a chain in its window. -/
def decoding : State := (rxIn .track true).updEng 3 fun x => { x with fec := { x.fec with window := [position] } }

/-- An advance without noise. -/
def noAdvance : Advance := { noise := {} }

/-- A state after the symbols of an advance have come in. -/
def advancing (s : State) : State := (s.fecEffort 3).absorb 3 noAdvance.noise

/-- A capture of engine 3 runs. -/
def capturing : State := (rxIn .track true).updEng 3 fun x =>
  { x with rx := { x.rx with
      capture := List.replicate 64 0, capturing := some { request := rq [], point := 1, count := 2, start := 0 } } }

/-- Engine 3 in Oxbow. -/
def inOxbow : State := engined fun x => { x with params := ⟨{ profile := 0x20 }, { profile := 0x20 }⟩ }

/-- A header with profile code 1, and an overhead of zeros. -/
def headerBits : List Bool :=
  ((List.range 64).map fun i => (0x0000000000011E31 : BitVec 64).getMsbD i) ++ List.replicate 1984 false

/-- Engine 3 hunts, its tile failed or not. -/
def hunting (failed : Bool) : State := engined fun x =>
  { x with
    tileFailed := failed, deframer := { x.deframer with mode := .hunt }
    fec := { x.fec with aligned := true, streams := x.fec.streams.set 0 { bits := headerBits } } }

/-- A frame at bit 0 of stream 0. -/
def someArrival : FrameArrival := { stream := 0, position := 0, arrival := 0 }

/-- A frame whose header has profile code 1 and no error. -/
def someFrame : RxFrame :=
  { stream := 0, position := 0, header := 0x0000000000011E31, overhead := 0, rest := [], hurt := [], arrival := 0 }

/-- Line profile 1. -/
def lineOne : Profile := (profileOf 1).get rfl

/-- A pair of estimates that agree, and the slice that they make. -/
def agreeing : List (Estimate × Estimate) := [(⟨0, 0, 0⟩, ⟨0, 0, 0⟩)]

/-- The fuse slice, which agreeing estimates of zero leave as it is. -/
def agreed : Slice := {}

/-- A full capture of engine 3 is held. -/
def captured : State := engined fun x => { x with rx := { x.rx with capture := [1, 2] } }

/-- Engine 3's side channel is on. -/
def sideChannel : State := engined fun x => { x with params := ⟨{}, { frame := { scFlags := 1 } }⟩ }

/-- Client port 0 is formed of lane 0 in a mode, failed or not, with a loopback. -/
def formed (mode : Byte) (failed : Bool) (loopback : Byte) : State :=
  (up.updCport 0 fun p => { p with
    params := ⟨{}, { form := { width := 1, mode := mode } }⟩, failed := failed, loopback := loopback }).updLane 0 fun x =>
      { x with
        power := .active, adapting := some .idle, chk := if mode = 2 then 1 else 0, locked := true, inFrame := true }

/-- A client frame of 64 bytes with a right FCS. -/
def goodFrame : Bytes := zeros 60 ++ fcsBytes (zeros 60)

/-- A Sync that comes from the line. -/
def sync : PtpMessage :=
  { dir := .egress, client := 0, line := 0
    frame := zeros 12 ++ [0x88, 0xF7, 0, 2] ++ zeros 48 ++ fcsBytes (zeros 12 ++ [0x88, 0xF7, 0, 2] ++ zeros 48) }

/-- Slot 9 holds a key. -/
def keyed : State := up.setSlot 9 { state := .loaded, cur := { key := zeros 16, usage := 7 }, gen := 1 }

/-- Context 5 holds a hot word, and slot 9 a key. -/
def context (state : BitVec 3) : State :=
  { keyed with mem := { keyed.mem with
    words := [(ctxWord 5 0, { kind := .data, data := state.setWidth 128 <<< 125 })] } }

/-- A batch of one entry without a token. -/
def batch (entry : Bytes) : Request := rq ([0, 0, 0, 0, 0, 1, 0, 0] ++ entry)

/-- The key of VLAN 0 on port 0, and its entry. -/
def flowKey : Bytes := 1 :: zeros 15

/-- A key-encryption key at HP0, and slot 5 in a state. -/
def withKek (state : SlotState) : State :=
  ((up.setSlot 5 { state := state, cur := if state = .empty then {} else { key := zeros 16 } }).updPort 0 fun q =>
    { q with kek := { key := some (zeros 16), gen := 1 } })

/-- The bytes 01 10 07 00, 0005 0000 and 48 zeros, wrapped under a key of 16 zeros. -/
def wrapped : Bytes := [217, 246, 86, 94, 191, 247, 14, 113, 48, 65, 43, 126, 138, 63, 31, 62,
  113, 160, 98, 99, 250, 164, 116, 226, 226, 102, 160, 119, 89, 170, 233, 77,
  56, 1, 35, 10, 172, 119, 163, 198, 129, 121, 100, 122, 152, 171, 32, 77,
  227, 4, 148, 120, 18, 98, 32, 234, 169, 230, 254, 86, 167, 172, 72, 201]

/-- The bytes 03 10 and 54 zeros, wrapped under a key of 16 zeros. -/
def wrappedCak : Bytes := [214, 12, 173, 235, 76, 23, 194, 17, 80, 102, 84, 112, 41, 67, 111, 87,
  170, 131, 229, 110, 242, 186, 141, 173, 19, 57, 228, 105, 107, 75, 238, 229,
  200, 192, 78, 113, 57, 251, 117, 26, 59, 23, 205, 109, 34, 30, 22, 24,
  184, 164, 83, 129, 162, 70, 210, 241, 178, 126, 172, 102, 255, 167, 185, 185]

/-- The bytes 02 10 and 54 zeros, wrapped under the key that an owner key of 32 zeros gives. -/
def wrappedKek : Bytes := [80, 50, 108, 253, 52, 15, 99, 19, 36, 240, 39, 186, 64, 123, 204, 93, 73, 129, 239, 16, 177, 211,
  59, 155, 187, 64, 126, 217, 163, 125, 144, 92, 205, 199, 23, 115, 231, 216, 217, 156, 204, 10, 119, 139,
  62, 37, 131, 112, 173, 177, 233, 172, 51, 135, 49, 208, 253, 214, 85, 217, 18, 20, 117, 56]

/-- The module with an owner key. -/
def owned : State := { up with keys := { up.keys with owner := .provisioned, ownerKey := zeros 32 } }

/-- A frame on its way through context 5. -/
def passing : FlowFrame := { port := 0, ctx := 5, frame := zeros 64 }

/-- A frame waits for context 5, or at admission. -/
def flowing (missed : Bool) : State := { context 1 with flows := { up.flows with
  egress := if missed then { misses := [passing] } else { admitQ := [passing] } } }

/-- What a deferred command notes of its issuer. -/
def issuer : Deferred := issuerOf 0 (rq [])

/-- A fill of context 5 runs. -/
def filling : State := { up with flows := { up.flows with
  fill := some { first := 5, count := 1, flags := 0, template := 0, issuer := issuer } } }

/-- An erase of slots 5 to 9. -/
def erasing (pointed : Bool) : EraseJob := { first := 5, count := 5, issuer := issuer, pointed := pointed, zeroised := 0 }

/-- Headwater as a function makes it. -/
def hwIs (f : HwState → HwState) : State := { up with hw := f up.hw }

/-- Headwater with input 2 qualified. -/
def qualified (f : HwState → HwState) : State :=
  hwIs fun x => f { x with inputs := x.inputs.set 2 { qualified := true } }

/-- Headwater holds over. -/
def holdover (x : HwState) : HwState := { x with mode := .holdover }

/-- A trial of a holdover second. -/
def holdingOver : State := hwIs holdover

/-- Domain 0 in a mode. -/
def domainIs (f : Domain → Domain) : State := up.updDomain 0 f

/-- A schedule of one edge, on domain 0, at a second. -/
def oneEdge (sec : Byte) : Bytes := [3, 1, 1, 0] ++ [0, 0, 0, 0, 0, sec] ++ zeros 22

/-- Output 3 has an edge due. -/
def edgeNow : State := (domainIs fun x => { x with mode := .free }).updTpo 3 fun x =>
  { x with mode := 1, scale := 1, state := .armed }

/-- PPS_IN0 is stamped by domain 0, with captures waiting. -/
def stamping (n : Nat) : State := { up with time := { up.time with
  config := ⟨{}, { capDomain := 1 }⟩
  captures := up.time.captures.set 0 { entries := List.replicate n { mtime := 0, domain := 1, quarters := 0 } } } }

/-- GB at work, with a sequence of one entry. -/
def working (work : GbWork) (g : GaugeState → GaugeState) : State := { up with gauge := g { up.gauge with
  work := work, seq := ⟨{}, { count := 1, pace := 1 }⟩ } }

/-- Weir holds the lasers dark in a zone without a reading. -/
def held : State := { up with weir := { up.weir with hold := true } }

/-- The supervisor pair as a function makes it. -/
def pairIs (f : SupState → SupState) : State := { up with sup := f up.sup }

/-- The drill has run and the unit does not return. -/
def drilled : Swap := { yielded := 0, taken := true, returning := false, issuer := issuer }

/-- The supply as a function makes it. -/
def powerIs (f : PowerState → PowerState) : State := { up with power := f up.power }

/-- A write of 64 bytes to the store. -/
def nvJob : NvJob := { offset := 64, data := zeros 64, issuer := issuer }

/-! ## The ciphers, on vectors of the standards (log 6) -/

/-- FIPS 197, appendix C.1. -/
theorem test_aes128 : aesEncrypt (be 16 (0x000102030405060708090A0B0C0D0E0F : BitVec 128))
    (be 16 (0x00112233445566778899AABBCCDDEEFF : BitVec 128)) = be 16 (0x69C4E0D86A7B0430D8CDB78070B4C55A : BitVec 128) := by
  decide +kernel

/-- FIPS 197, appendix C.3. -/
theorem test_aes256 :
    aesEncrypt (be 32 (0x000102030405060708090A0B0C0D0E0F101112131415161718191A1B1C1D1E1F : BitVec 256))
      (be 16 (0x00112233445566778899AABBCCDDEEFF : BitVec 128)) = be 16 (0x8EA2B7CA516745BFEAFC49904B496089 : BitVec 128) := by
  decide +kernel

/-- RFC 3394, section 4.1. -/
theorem test_unwrap : keyUnwrap (be 16 (0x000102030405060708090A0B0C0D0E0F : BitVec 128))
    (be 24 (0x1FA68B0A8112B447AEF34BD8FB5A7B829D3E862371D2CFE5 : BitVec 192)) =
      some (be 16 (0x00112233445566778899AABBCCDDEEFF : BitVec 128)) := by
  decide +kernel

/-- RFC 4493, example 1: the empty message. -/
theorem test_cmac : cmac (be 16 (0x2B7E151628AED2A6ABF7158809CF4F3C : BitVec 128)) [] =
    be 16 (0xBB1D6929E95937287FA37D129B756746 : BitVec 128) := by
  decide +kernel

/-- The GCM specification, test case 1: nothing but the tag. -/
theorem test_gcm : gcmTag (zeros 16) (zeros 12) [] [] = be 16 (0x58E2FCCEFA7E3061367F1D57A4E7455A : BitVec 128) := by
  decide +kernel

/-- The GCM specification, test case 2: one block of zeros. -/
theorem test_gcmCtr : gcmCtr (zeros 16) (zeros 12) (zeros 16) = be 16 (0x0388DACE60B6A392F328C2B971B2FE78 : BitVec 128) := by
  decide +kernel

/-- SP 800-38A, F.3.7: the first byte. -/
theorem test_cfb8 : (cfb8Encrypt (be 16 (0x2B7E151628AED2A6ABF7158809CF4F3C : BitVec 128))
    (be 16 (0x000102030405060708090A0B0C0D0E0F : BitVec 128)) 0x6B).1 = 0x3B := by
  decide +kernel

/-! ## What the witnesses of flow keys and of wrapped keys rest on -/

theorem flow_may_add : firstFault State.addFault State.addEntry
    ((up.takeRequest 0x0A05 (batch flowKey)).seekAll (batchEntries (batch flowKey) 16))
    (batchEntries (batch flowKey) 16) 0 = none := by
  have h : batchEntries (batch flowKey) 16 = [flowKey] := by decide
  have hs : (up.takeRequest 0x0A05 (batch flowKey)).seekAll [flowKey] = up.takeRequest 0x0A05 (batch flowKey) := by
    simp only [State.seekAll, List.foldl]
    rw [keyUnready_false _ _ (by decide), findKey_none _ _ _ _ rfl]
    rfl
  rw [h, hs, firstFault, addFault_none _ _ (by decide) rfl rfl (by decide)]
  rfl

/-- The first entry of the key of VLAN 0 on port 0. -/
def flowEntry : Nat := 4 * (Config.flowHashA (beValue (flowKey.take 12)) % 524288) + 0

/-- That key names context 5. -/
def flowHeld : State :=
  { up with
    flows := { up.flows with tags := [(flowEntry, some (tagOf (flowKey.take 12)))] }
    mem := { up.mem with words := [(flowEntry,
      { kind := .data, data := BitVec.ofNat 128 (beValue (flowKey.take 12 ++ [0, 0, 0, 5])) })] } }

/-- Where context memory and the flow table are as there, the key is found. -/
theorem flow_found (s : State) (hm : s.mem = flowHeld.mem) (hf : s.flows = flowHeld.flows) :
    s.keyUnready flowKey = false ∧ s.findKey (flowKey.take 12) 4 (bucketWords (flowKey.take 12)) =
      (s.count .memReads (channelOf flowEntry).val 1, some (flowEntry, 5)) := by
  have h1 : ∀ c : Fin 8, (s.mem.channels[c]).mode = .ready := by rw [hm]; decide +kernel
  have h3 := keyUnready_false s flowKey h1
  have hw : bucketWords (flowKey.take 12) = flowEntry :: (bucketWords (flowKey.take 12)).tail := rfl
  have hc : s.mergeOf flowEntry = none := by
    have : ∀ c : Fin 8, (s.mem.channels[c]).merge = [] := by rw [hm]; decide +kernel
    rw [State.mergeOf, this]; rfl
  have hr : s.wordReady flowEntry = true := by
    have h5 := h3
    rw [State.keyUnready, List.any_eq_false] at h5
    simpa using h5 flowEntry (by rw [hw]; exact List.mem_cons_self)
  have hd : s.word flowEntry =
      { kind := .data, data := BitVec.ofNat 128 (beValue (flowKey.take 12 ++ [0, 0, 0, 5])) } := by
    unfold State.word; rw [hm]; show readAt _ [(_, _)] _ = _; simp [readAt]
  have ht : readAt none s.flows.tags flowEntry = some (tagOf (flowKey.take 12)) := by
    rw [hf]; show readAt none [(_, _)] _ = _; simp [readAt]
  refine ⟨h3, ?_⟩
  rw [hw, findKey_some s (flowKey.take 12) 4 flowEntry (bucketWords (flowKey.take 12)).tail _ ht hr ⟨hd, hc⟩
    (by decide +kernel)]
  rfl

theorem flow_may_delete : firstFault State.deleteFault State.dropEntry
    ((flowHeld.takeRequest 0x0A06 (batch flowKey)).seekAll (batchEntries (batch flowKey) 16))
    (batchEntries (batch flowKey) 16) 0 = none := by
  have h : batchEntries (batch flowKey) 16 = [flowKey] := by decide
  obtain ⟨h1, h2⟩ := flow_found (flowHeld.takeRequest 0x0A06 (batch flowKey)) rfl rfl
  have hs : (flowHeld.takeRequest 0x0A06 (batch flowKey)).seekAll [flowKey] =
      (flowHeld.takeRequest 0x0A06 (batch flowKey)).count .memReads (channelOf flowEntry).val 1 := by
    simp only [State.seekAll, List.foldl]
    rw [h1, h2]
    rfl
  obtain ⟨h3, h4⟩ := flow_found ((flowHeld.takeRequest 0x0A06 (batch flowKey)).count .memReads
    (channelOf flowEntry).val 1) (by rw [State.count_mem]; rfl) (by rw [State.count_flows]; rfl)
  have h7 := keyHeld_false ((flowHeld.takeRequest 0x0A06 (batch flowKey)).count .memReads (channelOf flowEntry).val 1)
    (flowKey.take 12) (by rw [State.count_flows]; rfl)
  rw [h, hs, firstFault, State.deleteFault, h3, h7, h4]
  rfl

theorem wrapped_opens : keyUnwrap (zeros 16) wrapped = some ([1, 16, 7, 0, 0, 5, 0, 0] ++ zeros 48) := by
  decide +kernel

theorem wrappedCak_opens : keyUnwrap (zeros 16) wrappedCak = some ([3, 16, 0, 0, 0, 0, 0, 0] ++ zeros 48) := by
  decide +kernel

theorem wrappedKek_opens : keyUnwrap (deriveKey (zeros 32) labelWrap) wrappedKek = some ([2, 16, 0, 0, 0, 0, 0, 0] ++ zeros 48) := by
  decide +kernel

/-- Without the failures that the port has counted. -/
def cleared (s : State) : State := s.updPort 0 fun q => { q with unwrapFails := 0 }

/-- What the two blobs hold. -/
def openedKey : KeyValue := { key := zeros 16, salt := zeros 12, usage := 7 }
/-- The same without its use. -/
def openedCak : KeyValue := { key := zeros 16, salt := zeros 12 }

/-- A batch of the wrapped key for slot 5. -/
def keyed5 : Request := batch ([0, 5, 0, 0] ++ wrapped)

theorem key_opens (op : BitVec 16) (st : SlotState) (gate : KeySlot → Option Status)
    (h : gate (((withKek st).takeRequest op keyed5).slot 5) = none)
    (h3 : plainKey ([1, 16, 7, 0, 0, 5, 0, 0] ++ zeros 48) 0 1 5
      (nextGen (((withKek st).takeRequest op keyed5).slot 5).gen) = some openedKey) :
    ((withKek st).takeRequest op keyed5).unwrapAll 0 gate (batchEntries keyed5 68) 0 =
      (cleared ((withKek st).takeRequest op keyed5), .ok [(5, openedKey)]) := by
  have e : batchEntries keyed5 68 = [[0, 5, 0, 0] ++ wrapped] := by decide
  have e5 : entrySlot ([0, 5, 0, 0] ++ wrapped) = 5 := by decide
  rw [e]
  exact (unwrapAll_one _ 0 gate ([0, 5, 0, 0] ++ wrapped) (zeros 16) _ openedKey (by rw [e5]; exact h)
    (by cases st <;> rfl) (by rw [show slice ([0, 5, 0, 0] ++ wrapped) 4 64 = wrapped by decide]; exact wrapped_opens)
    (by rw [e5]; exact h3)).trans (by rw [e5]; rfl)

theorem cak_opens : ((withKek .empty).takeRequest 0x0B05 (rq ([3, 0, 0, 0] ++ wrappedCak))).unwrap 0 3 0
    (nextGen ((withKek .empty).port 0).cak.gen) (slice (rq ([3, 0, 0, 0] ++ wrappedCak)).params 4 64) =
      (cleared ((withKek .empty).takeRequest 0x0B05 (rq ([3, 0, 0, 0] ++ wrappedCak))), .ok openedCak) :=
  unwrap_ok _ _ _ _ _ _ (zeros 16) _ _ rfl wrappedCak_opens (by decide +kernel)

theorem kek_opens : (owned.takeRequest 0x0B05 (rq ([2, 0, 0, 0] ++ wrappedKek))).unwrap 0 2 0
    (nextGen (owned.port 0).kek.gen) (slice (rq ([2, 0, 0, 0] ++ wrappedKek)).params 4 64) =
      (cleared ((owned.takeRequest 0x0B05 (rq ([2, 0, 0, 0] ++ wrappedKek))).deriveWork labelWrap), .ok openedCak) :=
  unwrap_ok _ _ _ _ _ _ (deriveKey (zeros 32) labelWrap) _ _ rfl wrappedKek_opens (by decide +kernel)

/-- No slot of the state has a staged key. -/
theorem slots_unstaged (first count : Nat) : ∀ x : Nat × KeySlot, x ∈ keyed.slotsIn first count →
    ∀ (t : BitVec 32) (v : KeyValue), x.2.staged = some (t, v) → keyed.holdsToken 9 t = false := by
  intro x h t v e
  have hx : ∀ x ∈ keyed.keys.slots, x.2.staged = none := by decide
  rw [hx x (List.mem_filter.1 h).1] at e
  cases e

theorem zeros_u48 : ∀ i, i < 16 → u48 (rq (zeros 144)).params (16 + 8 * i) = 0 := by decide

/-- A grace entry that has run out. -/
def graceOut : State := { up with
  moduleTime := 1024
  flows := { up.flows with grace := [{ ctx := 5, an := 0, ks := 9, kgen := 1, pn := 1, since := 0 }] } }

/-- A merge entry of word 8. -/
def merge8 : MergeEntry := { wa := 8, data := 7, mask := 1, time := 0 }

/-- It is old enough to retire. -/
def merging : State := { up with
  moduleTime := 2
  mem := { up.mem with
    words := [(8, { kind := .data, data := 1 })]
    channels := up.mem.channels.set 1 { mode := .ready, merge := [merge8] } } }

/-- What lets a slot take a load. -/
def loadGate (k : KeySlot) : Option Status :=
  match k.state with | .empty => none | .erasing => some .busy | _ => some .inconsistent

/-- What lets a slot take a rewrite without a token. -/
def rewriteGate (k : KeySlot) : Option Status :=
  match k.state with
  | .empty => some .keyAbsent
  | .rewriting | .erasing => some .busy
  | .loaded => match k.staged with | some _ => some .busy | none => none

/-- The restore of the second unit. -/
def restoring : Restore := { target := 1, issuer := some issuer }

/-- The time configuration of zeros is well formed. -/
theorem zeros_timeFormed : TimeFormed (rq (zeros 96)).params up := by
  have h : parseTime (rq (zeros 96)).params = {} := by decide +kernel
  have ha : ∀ v ∈ ({} : TdConfig).asym.toList, within v.toInt 10000000 = true := by
    intro v hv
    rw [show v = 0 by simpa using hv]
    rfl
  unfold TimeFormed
  rw [h]
  exact ⟨by decide, by decide, by decide, by decide, by decide, by decide, by decide, by decide, by decide, by decide,
    by decide, ha, by decide +kernel⟩

/-- A group of the profiles of every engine passes the cross-checks. -/
theorem up_validates : up.validate 1 15 0 = none := by decide +kernel

theorem validates_of {c : BitVec 16} {e : BitVec 4} {t : BitVec 32} (h1 : c = 1) (h2 : e = 15) (h3 : t = 0) :
    up.validate c e t = none := by
  rw [h1, h2, h3, up_validates]

theorem up_wsTable : 0 < up.wsTable.length :=
  List.length_pos_iff.2 fun h => by
    have hw : up.wsTable.isEmpty = false := by decide +kernel
    rw [h] at hw
    cases hw

/-! ## Witnesses: for each statement and clause, a state and operands that meet its hypotheses together -/

/-! ### StepTakesFrontCommand -/

theorem meets_StepTakesFrontCommand :
    ∃ (c : Instr) (rest : List Instr) (s : State),
    s.pending = c :: rest :=
  ⟨.jtagBypass, [], commanded, rfl⟩

/-! ### StepServesQueuedRequest -/

theorem meets_StepServes_row :
    ∃ (s : State) (op : BitVec 16) (r : Request) (i : Instr),
    s.pending = [] ∧ s.nextRequest = some (op, r) ∧ instrOf op r = some i :=
  ⟨queued 1 0x0104 (rqOn 1 []), 0x0104, rqOn 1 [], .portEcho (rqOn 1 []), rfl, rfl, rfl⟩

theorem meets_StepServes_unknown :
    ∃ (s : State) (op : BitVec 16) (r : Request),
    s.pending = [] ∧ s.nextRequest = some (op, r) ∧ instrOf op r = none ∧ Executes true r s :=
  ⟨queued 1 0xFFFF (rqOn 1 []), 0xFFFF, rqOn 1 [], rfl, rfl, rfl, ⟨rfl, rfl, rfl, rfl⟩⟩

theorem meets_StepServes_idle :
    ∃ (s : State),
    s.pending = [] ∧ s.nextRequest = none :=
  ⟨up, rfl, rfl⟩

theorem meets_StepServes_urgent :
    ∃ (s : State) (op : BitVec 16) (r : Request) (p : Hp),
    s.serving = true ∧ (List.find? (fun x => urgent x.snd) (s.port p).queue = some (op, r)) ∧
    (∀ (q : Hp), q - s.turn - 1 < p - s.turn - 1 → ∀ (x : BitVec 16 × Request), x ∈ (s.port q).queue → urgent x.snd
      = false) :=
  ⟨queued 2 0x0104 (prioRq 2 false false), 0x0104, prioRq 2 false false, 2, rfl, rfl, by decide⟩

theorem meets_StepServes_rotation :
    ∃ (s : State) (op : BitVec 16) (r : Request) (p : Hp),
    s.serving = true ∧ (∀ (q : Hp) (x : BitVec 16 × Request), x ∈ (s.port q).queue → urgent x.snd = false) ∧
    (s.port p).queue.head? = some (op, r) ∧ (s.port p).chainOpen = false ∧
    (∀ (q : Hp), q - s.turn - 1 < p - s.turn - 1 → (s.port q).queue = [] ∨ (s.port q).chainOpen = true) :=
  ⟨queued 3 0x0104 (rqOn 3 []), 0x0104, rqOn 3 [], 3, rfl, by decide, rfl, rfl, by decide⟩

theorem meets_StepServes_none :
    ∃ (s : State),
    s.serving = false ∨ ∀ (q : Hp), (∀ (x : BitVec 16 × Request), x ∈ (s.port q).queue → urgent x.snd = false) ∧
      ((s.port q).queue = [] ∨ (s.port q).chainOpen = true) :=
  ⟨up, by decide⟩

/-! ### ChecksBeforeExecution -/

theorem meets_Checks_skipped :
    ∃ (op : BitVec 16) (r : Request) (i : Instr) (s : State),
    instrOf op r = some i ∧ op ≠ 259 ∧ s.serves r = true ∧ r.prio = false ∧ (s.port r.port).chainFailed = true ∧
    (op, r) ∉ (s.port r.port).offChain :=
  ⟨0x0104, rqOn 1 [], .portEcho (rqOn 1 []), chained, rfl, by decide, rfl, rfl, rfl, by decide⟩

theorem meets_Checks_prioChain :
    ∃ (op : BitVec 16) (r : Request) (i : Instr) (s : State),
    instrOf op r = some i ∧ s.serves r = true ∧ r.prio = true ∧ r.chain = true :=
  ⟨0x0104, prioRq 0 true false, .portEcho (prioRq 0 true false), up, rfl, rfl, rfl, rfl⟩

theorem meets_Checks_principal :
    ∃ (op : BitVec 16) (r : Request) (i : Instr) (s : State),
    instrOf op r = some i ∧ op ∈ principalOpcodes ∧ r.port ≠ 0 ∧ Executes false r s :=
  ⟨0x1104, rqOn 1 [0, 0, 0, 0], .supConfigWrite (rqOn 1 [0, 0, 0, 0]), up, rfl, by decide, by decide,
    ⟨rfl, rfl, rfl, rfl⟩⟩

theorem meets_Checks_flag0 :
    ∃ (op : BitVec 16) (r : Request) (i : Instr) (s : State),
    instrOf op r = some i ∧ r.port = 0 ∧ r.flag0 = true ∧ Executes false r s :=
  ⟨0x0104, prioRq 0 false true, .portEcho (prioRq 0 false true), up, rfl, rfl, rfl, ⟨rfl, rfl, rfl, rfl⟩⟩

theorem meets_Checks_headless :
    ∃ (op : BitVec 16) (r : Request) (i : Instr) (s : State),
    instrOf op r = some i ∧ ¬op ∈ headlessOpcodes ∧ s.serves r = true ∧ s.sup.headless = true ∧
    (r.prio && r.chain) = false ∧ ((s.port r.port).chainFailed && !urgent r) = false :=
  ⟨0x0104, rq [], .portEcho (rq []), headless, rfl, by decide, rfl, rfl, rfl, rfl⟩

theorem meets_Checks_unserved :
    ∃ (op : BitVec 16) (r : Request) (i : Instr) (s : State),
    instrOf op r = some i ∧ s.serves r = false :=
  ⟨0x0104, rq [], .portEcho (rq []), State.reset, rfl, rfl⟩

/-! ### FailedRequestChangesNothing -/

theorem meets_FailedRequest :
    ∃ (op : BitVec 16) (r : Request) (i : Instr) (s : State),
    instrOf op r = some i ∧ s.serves r = true ∧ ¬op ∈ [2568, 2570, 2571, 2572, 3077, 3078, 2817, 2818, 2821] :=
  ⟨0x0104, rq [], .portEcho (rq []), up, rfl, rfl, by decide⟩

/-! ### PortIdentifiersAndStaticAddress -/

theorem meets_PortIdentifiers :
    ∃ (p : Hp) (addr : BitVec 7) (s : State),
    AddressedTo p addr s :=
  ⟨3, 0x13, up, ⟨rfl, rfl, rfl⟩⟩

/-! ### CccsAndForeignTransfers -/

theorem meets_Ccc_enec :
    ∃ (p : Hp) (to_ : Option (BitVec 7)) (s : State),
    CccReaches p to_ s :=
  ⟨1, (some 0x11), up, ⟨rfl, rfl, fun a h => by cases h; rfl⟩⟩

theorem meets_Ccc_enec_ibi :
    ∃ (p : Hp) (to_ : Option (BitVec 7)) (s : State),
    CccReaches p to_ s :=
  ⟨1, none, withTraffic 1, ⟨rfl, rfl, fun a h => by cases h⟩⟩

theorem meets_Ccc_disec :
    ∃ (p : Hp) (to_ : Option (BitVec 7)) (s : State),
    CccReaches p to_ s :=
  ⟨1, none, up, ⟨rfl, rfl, fun a h => by cases h⟩⟩

theorem meets_Ccc_lengths :
    ∃ (p : Hp) (to_ : Option (BitVec 7)) (value : BitVec 16) (s : State),
    CccReaches p to_ s ∧ value = 4096 :=
  ⟨1, none, 4096, up, ⟨rfl, rfl, fun a h => by cases h⟩, rfl⟩

theorem meets_Ccc_directed :
    ∃ (p : Hp) (to_ : Option (BitVec 7)) (s : State),
    CccReaches p to_ s ∧ to_ ≠ none :=
  ⟨1, some 0x11, up, ⟨rfl, rfl, fun a h => by cases h; rfl⟩, by decide⟩

theorem meets_Ccc_broadcast :
    ∃ (p : Hp) (to_ : Option (BitVec 7)) (s : State),
    CccReaches p to_ s ∧ to_ = none :=
  ⟨1, none, up, ⟨rfl, rfl, fun a h => by cases h⟩, rfl⟩

theorem meets_Ccc_entdaa :
    ∃ (p : Hp) (s : State),
    CccReaches p none s ∧ (s.port p).dynAddr = none :=
  ⟨1, up, ⟨rfl, rfl, fun a h => by cases h⟩, rfl⟩

theorem meets_Ccc_rstdaa :
    ∃ (p : Hp) (s : State),
    CccReaches p none s :=
  ⟨1, up, ⟨rfl, rfl, fun a h => by cases h⟩⟩

theorem meets_Ccc_enthdr0 :
    ∃ (p : Hp) (s : State),
    CccReaches p none s :=
  ⟨1, up, ⟨rfl, rfl, fun a h => by cases h⟩⟩

theorem meets_Ccc_setdasa :
    ∃ (p : Hp) (addr : BitVec 7) (s : State),
    AddressedTo p addr s ∧ (s.port p).dynAddr = none :=
  ⟨1, 0x11, up, ⟨rfl, rfl, rfl⟩, rfl⟩

theorem meets_Ccc_setnewda :
    ∃ (p : Hp) (addr : BitVec 7) (s : State),
    AddressedTo p addr s ∧ (s.port p).dynAddr ≠ none :=
  ⟨1, 0x30, withTraffic 1, ⟨rfl, rfl, rfl⟩, by decide⟩

theorem meets_Ccc_getters :
    ∃ (p : Hp) (addr : BitVec 7) (s : State),
    AddressedTo p addr s :=
  ⟨1, 0x11, up, ⟨rfl, rfl, rfl⟩⟩

theorem meets_Ccc_foreign :
    ∃ (p : Hp) (addr : BitVec 7) (s : State),
    s.drives = true ∧ (s.ready = false ∨ ∃ d, (s.port p).dynAddr = some d ∧ addr ≠ d) :=
  ⟨1, 0x31, withTraffic 1, rfl, by decide⟩

theorem meets_Ccc_getstatus :
    ∃ (p : Hp) (addr : BitVec 7) (s : State),
    AddressedTo p addr s :=
  ⟨1, 0x11, up, ⟨rfl, rfl, rfl⟩⟩

/-! ### RequestsFollowTheSequence -/

theorem meets_Sequence_next :
    ∃ (p : Hp) (addr : BitVec 7) (params : Bytes) (s : State),
    AddressedTo p addr s ∧ (s.port p).slotsUsed < 16 ∧ List.length params ≤ 4080 ∧ (s.port p).authReq = false :=
  ⟨0, 0x10, [1, 2], up, ⟨rfl, rfl, rfl⟩, by decide, by decide, rfl⟩

/-! ### RejectedPacketsAreNotAccepted -/

theorem meets_Rejected_full :
    ∃ (p : Hp) (addr : BitVec 7) (s : State),
    AddressedTo p addr s ∧ (s.port p).slotsUsed ≥ 16 :=
  ⟨0, 0x10, replied, ⟨rfl, rfl, rfl⟩, by decide⟩

theorem meets_Rejected_short :
    ∃ (p : Hp) (addr : BitVec 7) (b : Bytes) (s : State),
    AddressedTo p addr s ∧ (s.port p).slotsUsed < 16 ∧ List.length b < 8 :=
  ⟨0, 0x10, [0, 0, 0, 0, 0, 0, 0], up, ⟨rfl, rfl, rfl⟩, by decide, by decide⟩

theorem meets_Rejected_version :
    ∃ (p : Hp) (addr : BitVec 7) (b : Bytes) (s : State) (st : Status),
    AddressedTo p addr s ∧ (s.port p).slotsUsed < 16 ∧ 8 ≤ List.length b ∧
    (st = Status.version ∧ (u8 b 0).toNat / 16 ≠ 1 ∨ st = Status.length ∧ (u8 b 0).toNat / 16 = 1 ∧ (field b 4 2 >
      4080 ∨ List.length b ≠ 8 + field b 4 2 + if (u8 b 0).getLsbD 3 = true then 8 else 4) ∨ st = Status.crcError ∧
      (u8 b 0).toNat / 16 = 1 ∧ (u8 b 0).getLsbD 3 = false ∧ field b 4 2 ≤ 4080 ∧ List.length b = 12 + field b 4 2 ∧
      be 4 (crc32 (List.take (8 + field b 4 2) b)) ≠ List.drop (8 + field b 4 2) b ∨ st = Status.keyAbsent ∧ (u8 b
      0).toNat / 16 = 1 ∧ (u8 b 0).getLsbD 3 = true ∧ field b 4 2 ≤ 4080 ∧ List.length b = 16 + field b 4 2 ∧ (s.port
      p).cak.key = none) :=
  ⟨0, 0x10, [0x20, 0, 0, 0, 0, 0, 0, 0], up, .version, ⟨rfl, rfl, rfl⟩, by decide, by decide, by decide⟩

theorem meets_Rejected_length :
    ∃ (p : Hp) (addr : BitVec 7) (b : Bytes) (s : State) (st : Status),
    AddressedTo p addr s ∧ (s.port p).slotsUsed < 16 ∧ 8 ≤ List.length b ∧
    (st = Status.version ∧ (u8 b 0).toNat / 16 ≠ 1 ∨ st = Status.length ∧ (u8 b 0).toNat / 16 = 1 ∧ (field b 4 2 >
      4080 ∨ List.length b ≠ 8 + field b 4 2 + if (u8 b 0).getLsbD 3 = true then 8 else 4) ∨ st = Status.crcError ∧
      (u8 b 0).toNat / 16 = 1 ∧ (u8 b 0).getLsbD 3 = false ∧ field b 4 2 ≤ 4080 ∧ List.length b = 12 + field b 4 2 ∧
      be 4 (crc32 (List.take (8 + field b 4 2) b)) ≠ List.drop (8 + field b 4 2) b ∨ st = Status.keyAbsent ∧ (u8 b
      0).toNat / 16 = 1 ∧ (u8 b 0).getLsbD 3 = true ∧ field b 4 2 ≤ 4080 ∧ List.length b = 16 + field b 4 2 ∧ (s.port
      p).cak.key = none) :=
  ⟨0, 0x10, [0x10, 0, 0, 0, 0, 0, 0, 0], up, .length, ⟨rfl, rfl, rfl⟩, by decide, by decide, by decide⟩

theorem meets_Rejected_crc :
    ∃ (p : Hp) (addr : BitVec 7) (b : Bytes) (s : State) (st : Status),
    AddressedTo p addr s ∧ (s.port p).slotsUsed < 16 ∧ 8 ≤ List.length b ∧
    (st = Status.version ∧ (u8 b 0).toNat / 16 ≠ 1 ∨ st = Status.length ∧ (u8 b 0).toNat / 16 = 1 ∧ (field b 4 2 >
      4080 ∨ List.length b ≠ 8 + field b 4 2 + if (u8 b 0).getLsbD 3 = true then 8 else 4) ∨ st = Status.crcError ∧
      (u8 b 0).toNat / 16 = 1 ∧ (u8 b 0).getLsbD 3 = false ∧ field b 4 2 ≤ 4080 ∧ List.length b = 12 + field b 4 2 ∧
      be 4 (crc32 (List.take (8 + field b 4 2) b)) ≠ List.drop (8 + field b 4 2) b ∨ st = Status.keyAbsent ∧ (u8 b
      0).toNat / 16 = 1 ∧ (u8 b 0).getLsbD 3 = true ∧ field b 4 2 ≤ 4080 ∧ List.length b = 16 + field b 4 2 ∧ (s.port
      p).cak.key = none) :=
  ⟨0, 0x10, [0x10, 0, 0, 0, 0, 0, 0, 0, 0, 0, 0, 0], up, .crcError, ⟨rfl, rfl, rfl⟩, by decide, by decide,
    by decide +kernel⟩

theorem meets_Rejected_keyAbsent :
    ∃ (p : Hp) (addr : BitVec 7) (b : Bytes) (s : State) (st : Status),
    AddressedTo p addr s ∧ (s.port p).slotsUsed < 16 ∧ 8 ≤ List.length b ∧
    (st = Status.version ∧ (u8 b 0).toNat / 16 ≠ 1 ∨ st = Status.length ∧ (u8 b 0).toNat / 16 = 1 ∧ (field b 4 2 >
      4080 ∨ List.length b ≠ 8 + field b 4 2 + if (u8 b 0).getLsbD 3 = true then 8 else 4) ∨ st = Status.crcError ∧
      (u8 b 0).toNat / 16 = 1 ∧ (u8 b 0).getLsbD 3 = false ∧ field b 4 2 ≤ 4080 ∧ List.length b = 12 + field b 4 2 ∧
      be 4 (crc32 (List.take (8 + field b 4 2) b)) ≠ List.drop (8 + field b 4 2) b ∨ st = Status.keyAbsent ∧ (u8 b
      0).toNat / 16 = 1 ∧ (u8 b 0).getLsbD 3 = true ∧ field b 4 2 ≤ 4080 ∧ List.length b = 16 + field b 4 2 ∧ (s.port
      p).cak.key = none) :=
  ⟨0, 0x10, [0x18, 0, 0, 0, 0, 0, 0, 0, 0, 0, 0, 0, 0, 0, 0, 0], up, .keyAbsent, ⟨rfl, rfl, rfl⟩, by decide,
    by decide, by decide⟩

/-! ### RepliesAndTheirPackets -/

theorem meets_Replies_read :
    ∃ (p : Hp) (addr : BitVec 7) (s : State) (c : Reply) (rest : List Reply),
    AddressedTo p addr s ∧ (s.port p).replies = c :: rest :=
  ⟨1, 0x30, withTraffic 1, { seq := 0, opcode := 0x0104, bytes := [1] }, [], ⟨rfl, rfl, rfl⟩, rfl⟩

theorem meets_Replies_none :
    ∃ (p : Hp) (addr : BitVec 7) (s : State),
    AddressedTo p addr s ∧ (s.port p).replies = [] :=
  ⟨1, 0x11, up, ⟨rfl, rfl, rfl⟩, rfl⟩

theorem meets_Replies_repeat :
    ∃ (p : Hp) (s : State),
    s.ready = true ∧ (s.port p).holdoff ≠ 0 ∧ (s.port p).ibiOn = true ∧ (s.port p).dynAddr ≠ none ∧
    (s.port p).hasTraffic = true :=
  ⟨1, withTraffic 1, rfl, by decide, rfl, by decide, rfl⟩

theorem meets_Replies_plain :
    ∃ (auth : Option AuthContext),
    auth = none :=
  ⟨none, rfl⟩

theorem meets_Replies_sealed :
    ∃ (auth : Option AuthContext) (a : AuthContext),
    auth = some a :=
  ⟨some { key := [], sessionStart := 0, wrap := 0 }, { key := [], sessionStart := 0, wrap := 0 }, rfl⟩

/-! ### PortOpcodes -/

theorem meets_Opcodes_echo :
    ∃ (r : Request) (s : State),
    r.flag0 = false ∧ Executes false r s :=
  ⟨rq [1], up, rfl, ⟨rfl, rfl, rfl, rfl⟩⟩

theorem meets_Opcodes_info :
    ∃ (r : Request) (s : State),
    r.flag0 = false ∧ Executes true r s ∧ r.params = [] :=
  ⟨rq [], up, rfl, ⟨rfl, rfl, rfl, rfl⟩, rfl⟩

theorem meets_Opcodes_tenancyGet :
    ∃ (r : Request) (s : State) (n : Hp) (w : Tenancy),
    r.flag0 = false ∧ Executes false r s ∧ r.params = [byte ↑n] ∧ (r.port = 0 ∨ r.port = n) ∧
    w = if n = 0 then s.everything else (s.port n).tenancy :=
  ⟨rqOn 3 [3], up, 3, {}, rfl, ⟨rfl, rfl, rfl, rfl⟩, rfl, by decide, rfl⟩

theorem meets_Opcodes_wsInfo :
    ∃ (r : Request) (s : State),
    r.flag0 = false ∧ Executes true r s ∧ r.params = [] :=
  ⟨rq [], up, rfl, ⟨rfl, rfl, rfl, rfl⟩, rfl⟩

theorem meets_Opcodes_wsRead :
    ∃ (r : Request) (s : State) (o : BitVec 32) (n : BitVec 16),
    r.flag0 = false ∧ Executes true r s ∧ r.params = be 4 o ++ be 2 n ∧ n ≠ 0 ∧ n.toNat ≤ 4080 ∧
    o.toNat < List.length s.wsTable :=
  ⟨rq (be 4 (0 : BitVec 32) ++ be 2 (4080 : BitVec 16)), up, 0, 4080, rfl, ⟨rfl, rfl, rfl, rfl⟩, rfl, by decide,
    by decide, up_wsTable⟩

theorem meets_Opcodes_wsFind :
    ∃ (r : Request) (s : State) (k : BitVec 16) (n : BitVec 16) (at_ : Nat) (len : Nat),
    r.flag0 = false ∧ Executes true r s ∧ r.params = be 2 k ++ be 2 n ∧
    findRecord k.toNat s.wsRecords 16 n.toNat = some (at_, len) :=
  ⟨rq (be 2 (1 : BitVec 16) ++ be 2 (0 : BitVec 16)), up, 1, 0, 16, 32, rfl, ⟨rfl, rfl, rfl, rfl⟩, rfl, rfl⟩

theorem meets_Opcodes_portConfig :
    ∃ (r : Request) (s : State) (n : Hp) (on : Bool) (holdoff : BitVec 16) (mask : BitVec 32),
    Executes false r s ∧ r.flag0 = false ∧ r.params = [byte ↑n, byte on.toNat] ++ be 2 holdoff ++ be 4 mask ∧
    groupMaskOk mask = true ∧ (r.port = 0 ∨ r.port = n) ∧ (on = true → (s.port n).cak.key ≠ none) ∧
    (on = false → (s.port n).authReq = true → r.auth ≠ none) :=
  ⟨rq ([1, 0] ++ be 2 (5 : BitVec 16) ++ be 4 (0x000FFFFE : BitVec 32)), up, 1, false, 5, 0x000FFFFE,
    ⟨rfl, rfl, rfl, rfl⟩, rfl, rfl, rfl, by decide, by decide, by decide⟩

theorem meets_Opcodes_tenancySet :
    ∃ (r : Request) (s : State) (n : Hp),
    Executes false r s ∧ Formed r 80 ∧ n ≠ 0 ∧ r.port = 0 ∧ field r.params 0 1 = ↑n ∧ badTenancy r.params = false ∧
    s.tenancyExists (parseTenancy r.params) = true ∧ s.tenancyConflict n (parseTenancy r.params) = false :=
  ⟨rq (3 :: 8 :: zeros 78), up, 3, ⟨rfl, rfl, rfl, rfl⟩, ⟨rfl, rfl⟩, by decide, rfl, rfl, rfl, rfl, rfl⟩

/-! ### PortResetLeavesItsReply -/

theorem meets_PortReset :
    ∃ (r : Request) (s : State),
    s.serves r = true ∧ (r.prio && r.chain) = false ∧ Formed r 0 :=
  ⟨rqOn 2 [], up, rfl, rfl, ⟨rfl, rfl⟩⟩

/-! ### EventsReadAndLost -/

theorem meets_Events_zero :
    ∃ (r : Request) (s : State) (max : Byte),
    Executes true r s ∧ r.flag0 = false ∧ r.params = [max] ∧ max = 0 :=
  ⟨rq [0], up, 0, ⟨rfl, rfl, rfl, rfl⟩, rfl, rfl, rfl⟩

theorem meets_Events_read :
    ∃ (r : Request) (s : State) (max : Byte),
    Executes true r s ∧ r.flag0 = false ∧ r.params = [max] ∧ max ≠ 0 :=
  ⟨rq [255], withEvents 2 0, 255, ⟨rfl, rfl, rfl, rfl⟩, rfl, rfl, by decide⟩

theorem meets_Events_overflow :
    ∃ (r : Request) (s : State) (max : Byte),
    Executes true r s ∧ r.flag0 = false ∧ r.params = [max] ∧ max ≠ 0 ∧ (s.port r.port).lost ≠ 0 ∧
    ((s.port r.port).events.drop max.toNat).length < 256 ∧
    (∀ (e : Event), e ∈ (s.port r.port).events → e.time ≠ (s.port r.port).firstLost ∧
      ((s.port r.port).firstLost - e.time).toNat < 2 ^ 47) :=
  ⟨rq [1], (withEvents 256 5).updPort 0 fun q => { q with firstLost := 2 }, 1, ⟨rfl, rfl, rfl, rfl⟩, rfl, rfl,
    by decide, by decide, by decide +kernel, by decide +kernel⟩

theorem meets_Events_length :
    ∃ (r : Request) (s : State),
    Executes true r s ∧ List.length r.params ≠ 1 :=
  ⟨rq [1, 2], up, ⟨rfl, rfl, rfl, rfl⟩, by decide⟩

theorem meets_Events_full :
    ∃ (q : Port),
    q.events.length ≥ 256 :=
  ⟨(withEvents 256 0).port 0, by decide +kernel⟩

theorem meets_Events_first :
    ∃ (q : Port),
    q.events.length ≥ 256 ∧ q.lost = 0 :=
  ⟨(withEvents 256 0).port 0, by decide +kernel, rfl⟩

theorem meets_Events_later :
    ∃ (q : Port),
    q.events.length ≥ 256 ∧ q.lost ≠ 0 :=
  ⟨(withEvents 256 5).port 0, by decide +kernel, by decide⟩

/-! ### EngineConfigWritesComplete -/

theorem meets_Stage_tx :
    ∃ (r : Request) (s : State) (e : Eng),
    Executes false r s ∧ NamesEngine r s e 32 ∧ zeroAt r.params 1 3 = true ∧
    txRangeOk s.ident.variant (parseTx r.params) = true ∧ s.holdsScope 4 ↑e = false :=
  ⟨rq (3 :: zeros 31), up, 3, ⟨rfl, rfl, rfl, rfl⟩, ⟨⟨rfl, rfl⟩, rfl, rfl, rfl⟩, rfl, rfl, rfl⟩

theorem meets_Stage_rx :
    ∃ (r : Request) (s : State) (e : Eng),
    Executes false r s ∧ NamesEngine r s e 32 ∧ zeroAt r.params 18 2 = true ∧ zeroAt r.params 28 4 = true ∧
    BitVec.toNat (parseRx r.params).cdMode ≤ 2 ∧ BitVec.toNat (parseRx r.params).flags ≤ 3 ∧
    ((parseRx r.params).mimoTaps = 0 ∨ BitVec.toNat (parseRx r.params).mimoTaps % 2 = 1) ∧
    rxRangeOk (parseRx r.params) = true ∧ s.holdsScope 5 ↑e = false :=
  ⟨rq (3 :: zeros 31), up, 3, ⟨rfl, rfl, rfl, rfl⟩, ⟨⟨rfl, rfl⟩, rfl, rfl, rfl⟩, rfl, rfl, by decide, by decide,
    by decide, rfl, rfl⟩

theorem meets_Stage_cal :
    ∃ (r : Request) (s : State) (e : Eng),
    Executes false r s ∧ NamesEngine r s e 16 ∧ zeroAt r.params 3 1 = true ∧ zeroAt r.params 13 3 = true ∧
    BitVec.toNat (parseCal r.params).adcMode ≤ 3 ∧ BitVec.toNat (parseCal r.params).dacMode ≤ 1 ∧
    (parseCal r.params).attempts ≠ 0 ∧ calRangeOk (parseCal r.params) = true ∧ s.holdsScope 6 ↑e = false :=
  ⟨rq (3 :: zeros 11 ++ [1, 0, 0, 0]), up, 3, ⟨rfl, rfl, rfl, rfl⟩, ⟨⟨rfl, rfl⟩, rfl, rfl, rfl⟩, rfl, rfl, by decide,
    by decide, by decide, rfl, rfl⟩

theorem meets_Stage_fec :
    ∃ (r : Request) (s : State) (e : Eng) (w : Byte) (i : Byte) (flags : Byte),
    Executes false r s ∧ r.params = [byte ↑e, w, i, flags, 0, 0, 0, 0] ∧ NamesEngine r s e 8 ∧
    (w = 0 ∨ 4 ≤ BitVec.toNat w ∧ BitVec.toNat w ≤ 16) ∧ BitVec.toNat i ≤ 4 ∧ BitVec.toNat flags ≤ 1 ∧
    s.holdsScope 3 ↑e = false :=
  ⟨rq [3, 16, 4, 1, 0, 0, 0, 0], up, 3, 16, 4, 1, ⟨rfl, rfl, rfl, rfl⟩, rfl, ⟨⟨rfl, rfl⟩, rfl, rfl, rfl⟩, by decide,
    by decide, by decide, rfl⟩

theorem meets_Stage_profile :
    ∃ (r : Request) (s : State) (e : Eng),
    Executes false r s ∧ NamesEngine r s e 8 ∧ zeroAt r.params 1 3 = true ∧ badProfile (field r.params 4 4) = false ∧
    s.holdsScope 0 ↑e = false ∧ (field r.params 4 4 % 16 = 0 ∨ s.calInvalid e = false) :=
  ⟨rq [3, 0, 0, 0, 0, 0, 0, 6], up, 3, ⟨rfl, rfl, rfl, rfl⟩, ⟨⟨rfl, rfl⟩, rfl, rfl, rfl⟩, rfl, rfl, rfl, by decide⟩

theorem meets_Stage_frame :
    ∃ (r : Request) (s : State) (e : Eng),
    Executes false r s ∧ NamesEngine r s e 24 ∧ zeroAt r.params 7 1 = true ∧ zeroAt r.params 14 2 = true ∧
    BitVec.toNat (parseFrame r.params).scFlags ≤ 3 ∧ BitVec.toNat (parseFrame r.params).selMode ≤ 2 ∧
    thresholdOk (parseFrame r.params).confirmN = true ∧ thresholdOk (parseFrame r.params).lofN = true ∧
    (parseFrame r.params).scKey.toNat ≤ 65536 ∧
    ((parseFrame r.params).scKey ≠ 0 → s.holdsKs r.port ((parseFrame r.params).scKey.toNat - 1) 1 = true) ∧
    s.holdsScope 2 ↑e = false :=
  ⟨rq (3 :: zeros 23), up, 3, ⟨rfl, rfl, rfl, rfl⟩, ⟨⟨rfl, rfl⟩, rfl, rfl, rfl⟩, rfl, rfl, by decide, by decide, rfl,
    rfl, by decide, by decide, rfl⟩

theorem meets_Stage_map :
    ∃ (r : Request) (s : State) (e : Eng),
    Executes false r s ∧ NamesEngine r s e 132 ∧ zeroAt r.params 2 2 = true ∧
    (∀ (b : BitVec 8), b ∈ slice r.params 4 128 → b.toNat ≤ s.laneCount) ∧ BitVec.toNat (parseMap r.params).mapgen ≤ 15 ∧
    s.holdsScope 1 ↑e = false :=
  ⟨rq (3 :: 15 :: zeros 2 ++ List.replicate 128 64), up, 3, ⟨rfl, rfl, rfl, rfl⟩, ⟨⟨rfl, rfl⟩, rfl, rfl, rfl⟩, rfl,
    by decide, by decide, rfl⟩

/-! ### EngineConfigReads -/

theorem meets_ConfigReads :
    ∃ (r : Request) (s : State) (e : Eng) (c : Bool),
    Executes false r s ∧ ReadsCopy r s e c :=
  ⟨rq [3, 1, 0, 0], up, 3, true, ⟨rfl, rfl, rfl, rfl⟩, ⟨rfl, rfl, rfl, rfl⟩⟩

theorem meets_ConfigReads_active :
    ∃ (r : Request) (s : State) (e : Eng) (c : Bool),
    Executes false r s ∧ ReadsCopy r s e c :=
  ⟨rq [0, 0, 0, 0], up, 0, false, ⟨rfl, rfl, rfl, rfl⟩, ⟨rfl, rfl, rfl, rfl⟩⟩

theorem meets_ConfigReads_bad :
    ∃ (r : Request) (s : State) (e : Eng) (c : Byte),
    Executes false r s ∧ NamesEngine r s e 4 ∧ r.params = [byte ↑e, c, 0, 0] ∧ 1 < BitVec.toNat c :=
  ⟨rq [3, 2, 0, 0], up, 3, 2, ⟨rfl, rfl, rfl, rfl⟩, ⟨⟨rfl, rfl⟩, rfl, rfl, rfl⟩, rfl, by decide⟩

/-! ### ConfigurationReadsBack -/

theorem meets_ReadsBack_tx :
    ∃ (b : Bytes) (e : Byte),
    u8 b 0 = e ∧ List.length b = 32 ∧ zeroAt b 1 3 = true :=
  ⟨3 :: zeros 31, 3, rfl, rfl, rfl⟩

theorem meets_ReadsBack_rx :
    ∃ (b : Bytes) (e : Byte),
    u8 b 0 = e ∧ List.length b = 32 ∧ zeroAt b 18 2 = true ∧ zeroAt b 28 4 = true :=
  ⟨3 :: zeros 31, 3, rfl, rfl, rfl, rfl⟩

theorem meets_ReadsBack_cal :
    ∃ (b : Bytes) (e : Byte),
    u8 b 0 = e ∧ List.length b = 16 ∧ zeroAt b 3 1 = true ∧ zeroAt b 13 3 = true :=
  ⟨3 :: zeros 15, 3, rfl, rfl, rfl, rfl⟩

theorem meets_ReadsBack_frame :
    ∃ (b : Bytes) (e : Byte),
    u8 b 0 = e ∧ List.length b = 24 ∧ zeroAt b 7 1 = true ∧ zeroAt b 14 2 = true :=
  ⟨3 :: zeros 23, 3, rfl, rfl, rfl, rfl⟩

theorem meets_ReadsBack_map :
    ∃ (b : Bytes) (e : Byte),
    u8 b 0 = e ∧ List.length b = 132 ∧ zeroAt b 2 2 = true :=
  ⟨3 :: zeros 131, 3, rfl, rfl, rfl⟩

theorem meets_ReadsBack_cport :
    ∃ (b : Bytes) (n : Byte),
    u8 b 0 = n ∧ List.length b = 8 ∧ zeroAt b 5 1 = true :=
  ⟨63 :: zeros 7, 63, rfl, rfl, rfl⟩

theorem meets_ReadsBack_laneEq :
    ∃ (b : Bytes) (n : Byte),
    u8 b 0 = n ∧ List.length b = 12 ∧ zeroAt b 8 4 = true :=
  ⟨63 :: zeros 11, 63, rfl, rfl, rfl⟩

/-! ### AtMostSixteenCommitsPending -/

theorem meets_Sixteen_full :
    ∃ (r : Request) (s : State),
    Executes false r s ∧ CommitFormed r s ∧ Unopposed (parseCommit r.params) s ∧ (parseCommit r.params).trigger ≠ 0 ∧
    s.commits.length = 16 :=
  ⟨rq ([1, 15, 0, 0, 0, 1] ++ zeros 22), sixteen, ⟨rfl, rfl, rfl, rfl⟩, by unfold CommitFormed; decide,
    by unfold Unopposed; decide, by decide, rfl⟩

theorem meets_Sixteen :
    ∃ (s : State) (t : State),
    s.commits.length ≤ 16 ∧ step s = Host.Outcome.next t :=
  ⟨up, up.idle, by decide, rfl⟩

/-! ### SluiceRequests -/

theorem meets_Sluice_validate :
    ∃ (r : Request) (s : State),
    Executes false r s ∧ CommitFormed r s ∧ Unopposed (parseCommit r.params) s ∧ s.commits.length < 16 ∧
    ((parseCommit r.params).trigger = 3 → (s.domain 0).everLocked = true) ∧
    s.validate (parseCommit r.params).classes (parseCommit r.params).engines (parseCommit r.params).token = none ∧
    s.leadFault r.params (parseCommit r.params) = false ∧ (parseCommit r.params).trigger = 0 :=
  ⟨rq ([0, 15, 0, 0, 0, 1] ++ zeros 22), up, ⟨rfl, rfl, rfl, rfl⟩, by unfold CommitFormed; decide,
    by unfold Unopposed; decide, by decide, by decide, validates_of (by decide) (by decide) (by decide), rfl, rfl⟩

theorem meets_Sluice_accept :
    ∃ (r : Request) (s : State),
    Executes false r s ∧ CommitFormed r s ∧ Unopposed (parseCommit r.params) s ∧ s.commits.length < 16 ∧
    ((parseCommit r.params).trigger = 3 → (s.domain 0).everLocked = true) ∧
    s.validate (parseCommit r.params).classes (parseCommit r.params).engines (parseCommit r.params).token = none ∧
    s.leadFault r.params (parseCommit r.params) = false ∧ (parseCommit r.params).trigger ≠ 0 :=
  ⟨rq ([1, 15, 0, 0, 0, 1] ++ zeros 22), up, ⟨rfl, rfl, rfl, rfl⟩, by unfold CommitFormed; decide,
    by unfold Unopposed; decide, by decide, by decide, validates_of (by decide) (by decide) (by decide), rfl,
    by decide⟩

theorem meets_Busy_tx :
    ∃ (r : Request) (s : State) (e : Eng),
    Executes false r s ∧ NamesEngine r s e 32 ∧ zeroAt r.params 1 3 = true ∧
    txRangeOk s.ident.variant (parseTx r.params) = true ∧ s.holdsScope 4 ↑e = true :=
  ⟨rq (3 :: zeros 31), holding 0x10, 3, ⟨rfl, rfl, rfl, rfl⟩, ⟨⟨rfl, rfl⟩, rfl, rfl, rfl⟩, rfl, rfl, rfl⟩

theorem meets_Busy_profile :
    ∃ (r : Request) (s : State) (e : Eng),
    Executes false r s ∧ NamesEngine r s e 8 ∧ zeroAt r.params 1 3 = true ∧ badProfile (field r.params 4 4) = false ∧
    s.holdsScope 0 ↑e = true :=
  ⟨rq [3, 0, 0, 0, 0, 0, 0, 6], holding 1, 3, ⟨rfl, rfl, rfl, rfl⟩, ⟨⟨rfl, rfl⟩, rfl, rfl, rfl⟩, rfl, rfl, rfl⟩

theorem meets_Busy_map :
    ∃ (r : Request) (s : State) (e : Eng),
    Executes false r s ∧ NamesEngine r s e 132 ∧ zeroAt r.params 2 2 = true ∧
    (∀ (b : BitVec 8), b ∈ slice r.params 4 128 → b.toNat ≤ s.laneCount) ∧ BitVec.toNat (parseMap r.params).mapgen ≤ 15 ∧
    s.holdsScope 1 ↑e = true :=
  ⟨rq (3 :: 15 :: zeros 130), holding 2, 3, ⟨rfl, rfl, rfl, rfl⟩, ⟨⟨rfl, rfl⟩, rfl, rfl, rfl⟩, rfl, by decide,
    by decide, rfl⟩

theorem meets_Busy_commit :
    ∃ (r : Request) (s : State),
    Executes false r s ∧ CommitFormed r s ∧ (parseCommit r.params).trigger ≠ 0 ∧
    (∃ k, k ∈ s.commits ∧ (parseCommit r.params).overlaps k = true) :=
  ⟨rq ([1, 15, 0, 0, 0, 2] ++ zeros 22), holding 2, ⟨rfl, rfl, rfl, rfl⟩, by unfold CommitFormed; decide, by decide,
    by decide⟩

theorem meets_Sluice_cancel :
    ∃ (r : Request) (s : State) (k : Commit),
    Executes false r s ∧ r.flag0 = false ∧ r.params = [byte k.id] ∧ k.id < 256 ∧ s.commitOf k.id = some k ∧
    (r.port = 0 ∨ r.port = k.port) ∧ (k.paired = true → s.pastPoint k = false) :=
  ⟨rq [1], withCommit someCommit, someCommit, ⟨rfl, rfl, rfl, rfl⟩, rfl, rfl, by decide, rfl, by decide, by decide⟩

theorem meets_Sluice_cancelLate :
    ∃ (r : Request) (s : State) (k : Commit),
    Executes false r s ∧ r.flag0 = false ∧ r.params = [byte k.id] ∧ k.id < 256 ∧ s.commitOf k.id = some k ∧
    (r.port = 0 ∨ r.port = k.port) ∧ k.paired = true ∧ s.pastPoint k = true :=
  ⟨rq [1], withCommit (confirmed true), confirmed true, ⟨rfl, rfl, rfl, rfl⟩, rfl, rfl, by decide, rfl, by decide,
    rfl, rfl⟩

theorem meets_Sluice_discard :
    ∃ (r : Request) (s : State),
    Executes false r s ∧ Formed r 12 ∧ badCommitHead r.params = false ∧ (parseCommit r.params).trigger = 0 ∧
    (parseCommit r.params).ref = 0 ∧ ((parseCommit r.params).engines ≠ 0 ↔ (parseCommit r.params).scoped = true) ∧
    ((parseCommit r.params).token ≠ 0 ↔ (parseCommit r.params).tokened = true) ∧
    ((parseCommit r.params).principalOnly = true → r.port = 0) ∧ s.strangers (parseCommit r.params) = false ∧
    s.scopeOutside r.port (parseCommit r.params) = false ∧
    (∀ (k : Commit), k ∈ s.commits → (parseCommit r.params).overlaps k = false) :=
  ⟨rq [0, 15, 0, 0, 0, 0xFF, 0, 0, 0, 0, 0, 0], up, ⟨rfl, rfl, rfl, rfl⟩, ⟨rfl, rfl⟩, rfl, rfl, rfl, by decide,
    by decide, by decide, rfl, rfl, by decide⟩

theorem meets_Sluice_status :
    ∃ (r : Request) (s : State),
    Executes false r s ∧ Formed r 0 :=
  ⟨rq [], withCommit someCommit, ⟨rfl, rfl, rfl, rfl⟩, ⟨rfl, rfl⟩⟩

/-! ### CommitInstants -/

theorem meets_Instants_local :
    ∃ (s : State) (k : Commit),
    s.ready = true ∧ s.commitOf k.id = some k ∧
    ({ s with moduleTime := s.moduleTime + 1 } : State).boundaryDue k = true :=
  ⟨withCommit someCommit, someCommit, rfl, rfl, rfl⟩

theorem meets_Instants_confirm :
    ∃ (s : State) (k : Commit),
    s.ready = true ∧ s.commitOf k.id = some k ∧ s.deadlineDue k = true ∧ s.allIn k k.acks = true :=
  ⟨withCommit (waiting 15), waiting 15, rfl, rfl, rfl, rfl⟩

theorem meets_Instants_abstain :
    ∃ (s : State) (k : Commit),
    s.ready = true ∧ s.commitOf k.id = some k ∧ s.deadlineDue k = true ∧ s.allIn k k.acks = false :=
  ⟨withCommit (waiting 0), waiting 0, rfl, rfl, rfl, rfl⟩

theorem meets_Instants_responder :
    ∃ (s : State) (k : Commit),
    s.ready = true ∧ s.commitOf k.id = some k ∧ s.responderDue k = true :=
  ⟨withCommit responding, responding, rfl, rfl, rfl⟩

theorem meets_Instants_tx :
    ∃ (s : State) (k : Commit),
    s.ready = true ∧ s.commitOf k.id = some k ∧
    ({ s with moduleTime := s.moduleTime + 1 } : State).txSwitchDue k = true ∧
    k.rxDone = 0 :=
  ⟨withCommit (confirmed false), confirmed false, rfl, rfl, rfl, rfl⟩

theorem meets_Instants_rx :
    ∃ (s : State) (k : Commit) (e : Eng),
    s.ready = true ∧ s.commitOf k.id = some k ∧ s.rxSwitchDue k e = true ∧ k.txDone = true ∧
    (∀ (d : Eng), d ≠ e → s.rxSwitchDue k d = false) :=
  ⟨withCommit (confirmed true), confirmed true, 0, rfl, rfl, rfl, rfl, by decide⟩

/-! ### EngineStatusReads -/

theorem meets_Status_reads :
    ∃ (r : Request) (s : State) (e : Eng),
    Executes false r s ∧ AsksEngine r s e :=
  ⟨rq [3, 0, 0, 0], up, 3, ⟨rfl, rfl, rfl, rfl⟩, ⟨rfl, rfl, rfl, rfl⟩⟩

theorem meets_Status_slices :
    ∃ (r : Request) (s : State) (e : Eng) (k : Fin 8),
    Executes false r s ∧ r.flag0 = false ∧ r.params = [byte ↑e, byte ↑k, 0, 0] ∧ s.hasEngine ↑e = true ∧
    s.holdsEngine r.port ↑e = true :=
  ⟨rq [3, 7, 0, 0], up, 3, 7, ⟨rfl, rfl, rfl, rfl⟩, rfl, rfl, rfl, rfl⟩

theorem meets_Status_records :
    ∃ (r : Request) (s : State),
    Executes false r s ∧ Formed r 0 :=
  ⟨rq [], up, ⟨rfl, rfl, rfl, rfl⟩, ⟨rfl, rfl⟩⟩

theorem meets_Status_capture :
    ∃ (r : Request) (s : State) (e : Eng) (o : BitVec 32) (n : BitVec 16),
    Executes false r s ∧ r.flag0 = false ∧ r.params = [byte ↑e, 0] ++ be 4 o ++ be 2 n ∧ n ≠ 0 ∧ n.toNat ≤ 4080 ∧
    o.toNat < List.length (s.eng e).rx.capture ∧ s.hasEngine ↑e = true ∧ s.holdsEngine r.port ↑e = true :=
  ⟨rq ([3, 0] ++ be 4 (0 : BitVec 32) ++ be 2 (4080 : BitVec 16)), captured, 3, 0, 4080, ⟨rfl, rfl, rfl, rfl⟩, rfl,
    rfl, by decide, by decide, by decide, rfl, rfl⟩

theorem meets_Status_monitor :
    ∃ (r : Request) (s : State) (e : Eng) (m : RxMonitor),
    Executes false r s ∧ AsksEngine r s e ∧ m = (s.eng e).rx.monitor :=
  ⟨rq [3, 0, 0, 0], up, 3, {}, ⟨rfl, rfl, rfl, rfl⟩, ⟨rfl, rfl, rfl, rfl⟩, rfl⟩

theorem meets_Status_frame :
    ∃ (r : Request) (s : State) (e : Eng) (d : Deframer),
    Executes false r s ∧ AsksEngine r s e ∧ d = (s.eng e).deframer :=
  ⟨rq [3, 0, 0, 0], up, 3, {}, ⟨rfl, rfl, rfl, rfl⟩, ⟨rfl, rfl, rfl, rfl⟩, rfl⟩

/-! ### TransmitterSequence -/

theorem meets_Tx_locker :
    ∃ (s : State) (e : Eng),
    s.ready = true ∧ (s.eng e).tx.mode = TxMode.enabling ∧ (s.eng e).tx.step = 1 :=
  ⟨txIn .enabling 1, 3, rfl, rfl, rfl⟩

theorem meets_Tx_bias :
    ∃ (s : State) (e : Eng),
    s.ready = true ∧ (s.eng e).tx.mode = TxMode.enabling ∧ (s.eng e).tx.step = 3 ∧ s.gauge.hold = false :=
  ⟨txIn .enabling 3, 3, rfl, rfl, rfl, rfl⟩

theorem meets_Tx_ready :
    ∃ (s : State) (e : Eng) (pOut : BitVec 16),
    s.ready = true ∧ (s.eng e).tx.mode = TxMode.enabling ∧ (s.eng e).tx.step = 4 ∧
    (s.eng e).tx.setpoint = (s.eng e).txParams.launch ∧
    (s.eng e).txParams.powerOk pOut (s.eng e).txParams.launch 50000000 = true :=
  ⟨settled, 3, 200, rfl, rfl, rfl, rfl, rfl⟩

theorem meets_Tx_depEnd :
    ∃ (s : State) (e : Eng),
    s.ready = true ∧ (s.eng e).tx.mode = TxMode.departing ∧ (s.eng e).tx.depLeft = some 0 :=
  ⟨txIn .departing 0, 3, rfl, rfl, rfl⟩

theorem meets_Tx_quenched :
    ∃ (s : State) (e : Eng),
    s.ready = true ∧ (s.eng e).tx.mode = TxMode.quenching ∧ (s.eng e).tx.enableNext = false ∧
    (s.eng e).tx.newFn = false :=
  ⟨txIn .quenching 0, 3, rfl, rfl, rfl, rfl⟩

theorem meets_Tx_fault :
    ∃ (s : State) (e : Eng),
    s.ready = true ∧ (s.eng e).tx.mode = TxMode.lit ∧ s.gauge.hold = false ∧ s.hasEngine ↑e = true ∧
    (s.eng e).tx.fault = false ∧ s.calInvalid e = false :=
  ⟨txIn .lit 0, 3, rfl, rfl, rfl, rfl, rfl, rfl⟩

theorem meets_Tx_power :
    ∃ (s : State) (e : Eng) (pOut : BitVec 16) (nearest : BitVec 16),
    s.ready = true ∧ (s.eng e).tx.mode = TxMode.lit ∧
    (s.eng e).txParams.powerOk pOut (s.eng e).tx.setpoint 150000000 = false ∧
    (s.eng e).txParams.powerOk nearest (s.eng e).tx.setpoint 150000000 = false :=
  ⟨txIn .lit 0, 3, 5, 9, rfl, rfl, rfl, rfl⟩

/-! ### SignalPathRequests -/

theorem meets_Signal_hold :
    ∃ (r : Request) (s : State) (e : Eng) (hold : BitVec 6),
    Executes false r s ∧ r.flag0 = false ∧ s.hasEngine ↑e = true ∧ s.holdsEngine r.port ↑e = true ∧
    r.params = [byte ↑e, BitVec.setWidth 8 hold] :=
  ⟨rq [3, 63], up, 3, 63, ⟨rfl, rfl, rfl, rfl⟩, rfl, rfl, rfl, rfl⟩

theorem meets_Signal_reacquire :
    ∃ (r : Request) (s : State) (e : Eng) (short : Bool),
    Executes false r s ∧ r.flag0 = false ∧ s.hasEngine ↑e = true ∧ s.holdsEngine r.port ↑e = true ∧
    r.params = [byte ↑e, byte short.toNat, 0, 0] ∧ acquiring (s.eng e).rx.mode = true :=
  ⟨rq [3, 1, 0, 0], rxIn .track true, 3, true, ⟨rfl, rfl, rfl, rfl⟩, rfl, rfl, rfl, rfl, rfl⟩

theorem meets_Signal_freeze :
    ∃ (r : Request) (s : State) (e : Eng) (mask : BitVec 4),
    Executes false r s ∧ r.flag0 = false ∧ s.hasEngine ↑e = true ∧ s.holdsEngine r.port ↑e = true ∧
    r.params = [byte ↑e, BitVec.setWidth 8 mask, 0, 0] ∧ (s.eng e).params.active.oxbow = true :=
  ⟨rq [3, 15, 0, 0], inOxbow, 3, 15, ⟨rfl, rfl, rfl, rfl⟩, rfl, rfl, rfl, rfl, rfl⟩

theorem meets_Signal_capture :
    ∃ (r : Request) (s : State) (e : Eng) (point : Byte) (count : BitVec 16),
    Executes false r s ∧ r.flag0 = false ∧ s.hasEngine ↑e = true ∧ s.holdsEngine r.port ↑e = true ∧
    r.params = [byte ↑e, point] ++ be 2 count ∧ point ≠ 0 ∧ BitVec.toNat point ≤ 6 ∧ count ≠ 0 ∧
    count.toNat ≤ (capturePoint (BitVec.toNat point)).snd ∧ (s.eng e).rx.capturing = none ∧
    (s.eng e).rx.mode ≠ RxMode.off :=
  ⟨rq ([3, 6] ++ be 2 (1 : BitVec 16)), rxIn .track true, 3, 6, 1, ⟨rfl, rfl, rfl, rfl⟩, rfl, rfl, rfl, rfl,
    by decide, by decide, by decide, by decide, rfl, by decide⟩

/-! ### ReceiverStates -/

theorem meets_Rx_los :
    ∃ (s : State) (e : Eng) (p : BitVec 16),
    s.ready = true ∧ acquiring (s.eng e).rx.mode = true ∧ p.toInt < (s.eng e).rxParams.losThreshold :=
  ⟨rxIn .track true, 3, -3000, rfl, rfl, by decide⟩

theorem meets_Rx_light :
    ∃ (s : State) (e : Eng) (p : BitVec 16),
    s.ready = true ∧ (s.eng e).rx.mode = RxMode.waitLight ∧ (s.eng e).rxParams.losThreshold + 100 < p.toInt :=
  ⟨rxIn .waitLight true, 3, 0, rfl, rfl, by decide⟩

theorem meets_Rx_freq :
    ∃ (s : State) (e : Eng) (offset : Int),
    s.ready = true ∧ (s.eng e).rx.mode = RxMode.freq ∧ offsetOk offset = true ∧
    (s.eng e).rxParams.unmodulated = false :=
  ⟨rxIn .freq true, 3, -3500000000, rfl, rfl, rfl, rfl⟩

theorem meets_Rx_cd :
    ∃ (s : State) (e : Eng) (c : CdSearch) (i : Nat) (j : Nat) (v : Int),
    s.ready = true ∧ (s.eng e).rx.mode = RxMode.cd ∧ (s.eng e).rx.search = some c ∧ c.value i j = some v :=
  ⟨searching, 3, search, 0, 40, 200, rfl, rfl, rfl, rfl⟩

theorem meets_Rx_cdNone :
    ∃ (s : State) (e : Eng) (c : CdSearch),
    s.ready = true ∧ (s.eng e).rx.mode = RxMode.cd ∧ (s.eng e).rx.search = some c :=
  ⟨searching, 3, search, rfl, rfl, rfl⟩

theorem meets_Rx_clock :
    ∃ (s : State) (e : Eng) (l : List Rat),
    s.ready = true ∧ (s.eng e).rx.mode = RxMode.clock ∧ l.length = 16 ∧ (∀ (v : Rat), v ∈ l → v < 1 / 32) :=
  ⟨rxIn .clock true, 3, List.replicate 16 0, rfl, rfl, rfl, by decide +kernel⟩

theorem meets_Rx_premix :
    ∃ (s : State) (e : Eng),
    s.ready = true ∧ (s.eng e).rx.mode = RxMode.premix :=
  ⟨rxIn .premix true, 3, rfl, rfl⟩

theorem meets_Rx_pilot :
    ∃ (s : State) (e : Eng) (l : List Quad),
    s.ready = true ∧ (s.eng e).rx.mode = RxMode.pilot ∧ ∃ g : PilotGrid, ((s.receive e l).eng e).rx.pipe.found = some g :=
  ⟨pipeIn .pilot fun k => { k with recent := pilotSymbols }, 3, [], rfl, rfl,
    Option.isSome_iff_exists.mp (by decide +kernel)⟩

theorem meets_Rx_timingLost :
    ∃ (s : State) (e : Eng) (l : List Rat),
    s.ready = true ∧
    ((s.eng e).rx.mode = RxMode.premix ∨ (s.eng e).rx.mode = RxMode.pilot ∨ (s.eng e).rx.mode = RxMode.decode ∨
      (s.eng e).rx.mode = RxMode.track) ∧
    l.length = 16 ∧ (∀ (v : Rat), v ∈ l → 1 / 8 < v) :=
  ⟨rxIn .track true, 3, List.replicate 16 1, rfl, by decide, rfl, by decide +kernel⟩

theorem meets_Rx_carrierLost :
    ∃ (s : State) (e : Eng) (l : List Quad),
    s.ready = true ∧ (s.eng e).rx.mode = RxMode.track ∧ 256 < ((s.receive e l).eng e).rx.pipe.flags.count true :=
  ⟨pipeIn .track fun k => { k with flags := List.replicate 1024 true }, 3, [], rfl, rfl, by decide +kernel⟩

theorem meets_Rx_timeout :
    ∃ (s : State) (e : Eng),
    s.ready = true ∧
    ((s.eng e).rx.mode = RxMode.clock ∨ (s.eng e).rx.mode = RxMode.premix ∨ (s.eng e).rx.mode = RxMode.pilot ∨
      (s.eng e).rx.mode = RxMode.decode) :=
  ⟨rxIn .decode true, 3, rfl, by decide⟩

theorem meets_Rx_taps :
    ∃ (s : State) (e : Eng),
    s.ready = true ∧ (s.eng e).rxParams.line ≠ 0 :=
  ⟨rxIn .track true, 3, rfl, by decide⟩

theorem meets_Rx_captured :
    ∃ (s : State) (e : Eng) (c : CaptureInput) (j : CaptureJob) (full : Bytes),
    s.ready = true ∧ (s.eng e).rx.capturing = some j ∧ (s.moduleTime - j.start).toNat < 2 ^ 47 ∧
    full = (if j.point == 6 then
        tapBytes (maskTaps ((s.receive e c.samples).eng e).rx.taps ((s.receive e c.samples).eng e).rx.eq)
      else ((s.receive e c.samples).eng e).rx.capture) ∧
    (j.size ≤ full.length ∨ (s.eng e).rxParams.line = 0) :=
  ⟨capturing, 3, { samples := [] }, { request := rq [], point := 1, count := 2, start := 0 },
    ((capturing.receive 3 []).eng 3).rx.capture, rfl, rfl, by decide, rfl, .inl (by decide +kernel)⟩

/-! ### CalibrationAndDecoder -/

theorem meets_Cal_measured :
    ∃ (s : State) (e : Eng) (k : Fin 4) (pairs : List (Estimate × Estimate)) (x : Fin 256) (v : Slice) (w : Bool ×
      Bool),
    s.ready = true ∧ s.adcClock e = true ∧ (s.eng e).cal.held = false ∧
    (s.eng e).cal.adc[k].phase = CalPhase.measuring ∧ ((s.eng e).adcSettings k).adcMode ≠ 0 ∧
    (s.eng e).cal.adc[k].test = some x ∧
    measured ((s.eng e).adcSettings k) (s.eng e).cal.adc[k].shadow[x] pairs = some (v, w) :=
  ⟨adcIn .measuring, 3, 3, agreeing, 0, { pos := 0, placed := 1 }, (true, false), rfl, rfl, rfl, rfl, by decide, rfl,
    by decide +kernel⟩

theorem meets_Cal_interval :
    ∃ (s : State) (e : Eng) (k : Fin 4),
    s.ready = true ∧ s.adcClock e = true ∧ (s.eng e).cal.held = false ∧
    (s.eng e).cal.adc[k].phase = CalPhase.waiting :=
  ⟨adcIn .waiting, 3, 3, rfl, rfl, rfl, rfl⟩

theorem meets_Cal_apply :
    ∃ (s : State) (e : Eng) (k : Fin 4),
    s.ready = true ∧ s.adcClock e = true ∧ (s.eng e).cal.held = false ∧
    (s.eng e).cal.adc[k].phase = CalPhase.closing :=
  ⟨adcIn .closing, 3, 3, rfl, rfl, rfl, rfl⟩

theorem meets_Cal_dacApply :
    ∃ (s : State) (e : Eng) (k : Fin 4),
    s.ready = true ∧ s.dacClock e = true ∧ (s.eng e).cal.held = false ∧ (s.eng e).cal.dac[k].due ≠ none :=
  ⟨dacIn, 3, 3, rfl, rfl, rfl, by decide⟩

theorem meets_Cal_dacStep :
    ∃ (s : State) (e : Eng) (pairs : List (Estimate × Estimate)) (v : Slice) (w : Bool × Bool),
    s.ready = true ∧ s.dacRuns e = true ∧
    measured (s.eng e).dacSettings (s.eng e).cal.dac[Fin.ofNat 4 (↑(s.eng e).cal.dacPhase / 4)].shadow[Fin.ofNat 4
      ↑(s.eng e).cal.dacPhase] pairs = some (v, w) :=
  ⟨dacIn, 3, agreeing, agreed, (true, false), rfl, rfl, rfl⟩

theorem meets_Fec_advance :
    ∃ (s : State) (e : Eng) (a : Advance) (u : State) (w : WindowPosition),
    s.ready = true ∧ ((s.eng e).rx.mode = RxMode.decode ∨ (s.eng e).rx.mode = RxMode.track) ∧
    (s.eng e).fec.aligned = true ∧ u = (s.fecEffort e).absorb e a.noise ∧ (u.eng e).fec.window.head? = some w ∧
    (u.eng e).fec.ready (((u.eng e).paramsFor w.line).window.getD 0) = true :=
  ⟨decoding, 3, noAdvance, advancing decoding, position, rfl, by decide, rfl, rfl, rfl, rfl⟩

/-- Counts of at least one offset have a least one. -/
theorem smallest_some (c : Nat) (cs : List Nat) : ∃ x, smallest (c :: cs) = some x := by
  unfold smallest
  split
  · exact ⟨_, rfl⟩
  · split <;> exact ⟨_, rfl⟩

theorem meets_Fec_hunt :
    ∃ (s : State) (e : Eng) (noise : Quad) (off : Nat) (c : Nat) (p : Profile),
    s.ready = true ∧ ((s.eng e).rx.mode = RxMode.decode ∨ (s.eng e).rx.mode = RxMode.track) ∧
    (s.eng e).fec.aligned = false ∧ (s.eng e).rxProfile = some p ∧ huntLength p ≤ (s.eng e).rx.pipe.out.length ∧
    smallest (huntCounts p noise (s.eng e).rx.pipe.out) = some (off, c) := by
  have h : ∃ x, smallest (huntCounts lineOne {} (List.replicate (huntLength lineOne) {})) = some x := by
    cases l : huntCounts lineOne {} (List.replicate (huntLength lineOne) {}) with
    | nil => exact absurd (congrArg List.length l) (by simp [huntCounts, groupSymbols, lineOne]; decide)
    | cons a as => exact smallest_some a as
  obtain ⟨⟨off, c⟩, h⟩ := h
  exact ⟨(rxIn .decode false).updEng 3 fun x => { x with
    rx := { x.rx with pipe := { x.rx.pipe with out := List.replicate (huntLength lineOne) {} } } }, 3, {}, off, c,
    lineOne, rfl, .inl rfl, rfl, rfl, by simp [State.updEng, State.eng], h⟩

theorem meets_Fec_smallest :
    ∃ (counts : List Nat) (i : Nat) (c : Nat),
    smallest counts = some (i, c) :=
  ⟨[9, 0, 0], 1, 0, rfl⟩

theorem meets_Fec_absorb :
    ∃ (s : State) (e : Eng) (a : Advance) (u : State),
    s.ready = true ∧ ((s.eng e).rx.mode = RxMode.decode ∨ (s.eng e).rx.mode = RxMode.track) ∧
    (s.eng e).fec.aligned = true ∧ u = (s.fecEffort e).absorb e a.noise ∧
    (∀ (w : WindowPosition), (u.eng e).fec.window.head? = some w → (u.eng e).fec.ready (((u.eng e).paramsFor
      w.line).window.getD 0) = false) :=
  ⟨rxIn .track true, 3, noAdvance, advancing (rxIn .track true), rfl, by decide, rfl, rfl, by decide⟩

theorem meets_Fec_smallestOf :
    ∃ (counts : List Nat) (i : Nat) (c : Nat) (j : Nat) (d : Nat),
    smallest counts = some (i, c) ∧ counts[j]? = some d :=
  ⟨[9, 0, 0], 1, 0, 2, 0, rfl, rfl⟩

theorem meets_Fec_smallestFirst :
    ∃ (counts : List Nat) (i : Nat) (c : Nat) (j : Nat) (d : Nat),
    smallest counts = some (i, c) ∧ counts[j]? = some d ∧ j < i :=
  ⟨[9, 0, 0], 1, 0, 0, 9, rfl, rfl, by decide⟩

/-! ### TicksFramesAndTiles -/

theorem meets_Tick_unready :
    ∃ (s : State),
    s.railsOn = true ∧ s.ready = false ∧ s.secondHere = false :=
  ⟨{ up with power := { up.power with phase := .starting }, hw := { up.hw with toSecond := 163840000000 } }, rfl, rfl,
    by decide⟩

theorem meets_Tick_second :
    ∃ (s : State),
    s.railsOn = true ∧ s.ready = false ∧ s.secondHere = true :=
  ⟨{ up with power := { up.power with phase := .starting }, hw := { up.hw with toSecond := 163839999999 } }, rfl, rfl,
    by decide⟩

theorem meets_Tick :
    ∃ (s : State),
    s.ready = true :=
  ⟨txIn .lit 0, rfl⟩

theorem meets_Frame_hunt :
    ∃ (s : State) (e : Eng) (a : FrameArrival) (f : RxFrame),
    s.ready = true ∧ (s.eng e).tileFailed = false ∧ (s.eng e).deframer.mode = DeframerMode.hunt ∧
    (s.eng e).fec.frameAt a.stream a.position a.arrival = some f ∧ headerOk f.header = true ∧
    startsCandidate (headerProfile f.header) = true ∧
    (∀ (c : Candidate), c ∈ (s.eng e).deframer.cands → c.stream = f.stream → c.next ≠ f.position) :=
  ⟨hunting false, 3, someArrival, someFrame, rfl, rfl, rfl, by decide +kernel, by decide +kernel, rfl, by decide⟩

theorem meets_Frame_failed :
    ∃ (s : State) (e : Eng),
    s.ready = true ∧ (s.eng e).tileFailed = true :=
  ⟨hunting true, 3, rfl, rfl⟩

theorem meets_Frame_side :
    ∃ (s : State) (e : Eng),
    s.ready = true ∧ s.hasEngine ↑e = true ∧ BitVec.getLsbD (s.eng e).txParams.frame.scFlags 0 = true :=
  ⟨sideChannel, 3, rfl, rfl, rfl⟩

theorem meets_Frame_tileFail :
    ∃ (s : State) (e : Eng),
    s.ready = true ∧ s.hasEngine ↑e = true ∧ (s.eng e).tileFailed = false ∧ (s.eng e).tx.mode = TxMode.lit ∧
    s.commits = [] :=
  ⟨txIn .lit 0, 3, rfl, rfl, rfl, rfl, rfl⟩

/-! ### ClientRequests -/

theorem meets_Client_cport :
    ∃ (r : Request) (s : State) (c : Cp),
    Executes false r s ∧ Formed r 8 ∧ field r.params 0 1 = ↑c ∧ s.hasLane ↑c = true ∧
    BitVec.toNat (parseCport r.params).mode ≤ 2 ∧ BitVec.toNat (parseCport r.params).rate ≤ 2 ∧
    zeroAt r.params 5 1 = true ∧ BitVec.toNat (parseCport r.params).first ≤ 63 ∧
    s.hasLane (BitVec.toNat (parseCport r.params).first) = true ∧ BitVec.toNat (parseCport r.params).width ≤ 16 ∧
    ((parseCport r.params).frameMax = 0 ∨ 64 ≤ (parseCport r.params).frameMax.toNat ∧ (parseCport
      r.params).frameMax.toNat ≤ 16350) ∧
    s.holdsPort r.port c = true ∧
    (∀ (e : Nat), e ∈ s.enginesAfter c (parseCport r.params) → s.holdsEngine r.port e = true ∧ s.holdsScope 7 e =
      false) :=
  ⟨rq (63 :: zeros 7), up, 63, ⟨rfl, rfl, rfl, rfl⟩, ⟨rfl, rfl⟩, rfl, rfl, by decide, by decide, rfl, by decide, rfl,
    by decide, by decide, rfl, by decide⟩

theorem meets_Client_laneEq :
    ∃ (r : Request) (s : State) (l : LaneNo),
    Executes false r s ∧ Formed r 12 ∧ field r.params 0 1 = ↑l ∧ s.hasLane ↑l = true ∧
    BitVec.toNat (parseLaneEq r.params).rxFlags ≤ 7 ∧ BitVec.toNat (parseLaneEq r.params).polarity ≤ 3 ∧
    zeroAt r.params 8 4 = true ∧ laneEqRangeOk (parseLaneEq r.params) = true ∧ s.holdsEngine r.port (↑l / 16) = true ∧
    s.holdsScope 7 (↑l / 16) = false :=
  ⟨rq (63 :: zeros 11), up, 63, ⟨rfl, rfl, rfl, rfl⟩, ⟨rfl, rfl⟩, rfl, rfl, by decide, by decide, rfl, rfl, rfl, rfl⟩

theorem meets_Client_power :
    ∃ (r : Request) (s : State) (mask : BitVec 64) (state : Fin 3),
    Executes false r s ∧ r.flag0 = false ∧ r.params = be 8 mask ++ [byte ↑state, 0, 0, 0] ∧
    (∀ (l : LaneNo), mask.getLsbD ↑l = true → s.hasLane ↑l = true ∧ s.holdsEngine r.port (↑l / 16) = true) :=
  ⟨rq (be 8 (0x8000000000000001 : BitVec 64) ++ [2, 0, 0, 0]), up, 0x8000000000000001, 2, ⟨rfl, rfl, rfl, rfl⟩, rfl,
    rfl, by decide⟩

theorem meets_Client_loopback :
    ∃ (r : Request) (s : State) (c : Cp) (mode : Fin 4),
    Executes false r s ∧ r.flag0 = false ∧ r.params = [byte ↑c, byte ↑mode, 0, 0] ∧ s.hasLane ↑c = true ∧
    s.holdsPort r.port c = true ∧ (s.form c).formed = true :=
  ⟨rq [0, 3, 0, 0], formed 2 false 0, 0, 3, ⟨rfl, rfl, rfl, rfl⟩, rfl, rfl, rfl, rfl, rfl⟩

theorem meets_Client_prbs :
    ∃ (r : Request) (s : State) (mask : BitVec 64) (gen : Fin 3) (chk : Fin 3),
    Executes false r s ∧ r.flag0 = false ∧ r.params = be 8 mask ++ [byte ↑gen, byte ↑chk, 0, 0] ∧
    (∀ (l : LaneNo), mask.getLsbD ↑l = true → s.hasLane ↑l = true ∧ s.holdsEngine r.port (↑l / 16) = true ∧ (s.lane
      l).power = LanePower.active) :=
  ⟨rq (be 8 (0x1 : BitVec 64) ++ [2, 1, 0, 0]), formed 2 false 0, 1, 2, 1, ⟨rfl, rfl, rfl, rfl⟩, rfl, rfl, by decide⟩

theorem meets_Client_synce :
    ∃ (r : Request) (s : State),
    Executes false r s ∧ Formed r 8 ∧ r.port = 0 ∧ s.holdsModule 11 = false ∧
    (∀ (i : Fin 4), (synceEntry r.params ↑i).fst = 0 ∨ BitVec.toNat (synceEntry r.params ↑i).fst ≤ 64 ∧ s.hasLane
      (BitVec.toNat (synceEntry r.params ↑i).fst - 1) = true) :=
  ⟨rq [64, 0, 0, 0, 0, 0, 0, 0], up, ⟨rfl, rfl, rfl, rfl⟩, ⟨rfl, rfl⟩, rfl, rfl, by decide⟩

theorem meets_Client_cportRead :
    ∃ (r : Request) (s : State) (cp : Bool) (c : Cp),
    Executes false r s ∧ r.flag0 = false ∧ r.params = [byte ↑c, byte cp.toNat, 0, 0] ∧ s.hasLane ↑c = true ∧
    s.holdsPort r.port c = true :=
  ⟨rq [63, 1, 0, 0], up, true, 63, ⟨rfl, rfl, rfl, rfl⟩, rfl, rfl, rfl, rfl⟩

theorem meets_Client_laneEqRead :
    ∃ (r : Request) (s : State) (cp : Bool) (l : LaneNo),
    Executes false r s ∧ r.flag0 = false ∧ r.params = [byte ↑l, byte cp.toNat, 0, 0] ∧ s.hasLane ↑l = true ∧
    s.holdsEngine r.port (↑l / 16) = true :=
  ⟨rq [63, 0, 0, 0], up, false, 63, ⟨rfl, rfl, rfl, rfl⟩, rfl, rfl, rfl, rfl⟩

theorem meets_Client_synceRead :
    ∃ (r : Request) (s : State) (cp : Bool),
    Executes false r s ∧ r.flag0 = false ∧ r.params = [byte cp.toNat, 0, 0, 0] :=
  ⟨rq [1, 0, 0, 0], up, true, ⟨rfl, rfl, rfl, rfl⟩, rfl, rfl⟩

theorem meets_Client_laneStatus :
    ∃ (r : Request) (s : State) (l : LaneNo),
    Executes false r s ∧ r.flag0 = false ∧ r.params = [byte ↑l, 0, 0, 0] ∧ s.hasLane ↑l = true ∧
    s.holdsEngine r.port (↑l / 16) = true :=
  ⟨rq [63, 0, 0, 0], up, 63, ⟨rfl, rfl, rfl, rfl⟩, rfl, rfl, rfl, rfl⟩

theorem meets_Client_portStatus :
    ∃ (r : Request) (s : State) (c : Cp),
    Executes false r s ∧ r.flag0 = false ∧ r.params = [byte ↑c, 0, 0, 0] ∧ s.hasLane ↑c = true ∧
    s.holdsPort r.port c = true :=
  ⟨rq [63, 0, 0, 0], up, 63, ⟨rfl, rfl, rfl, rfl⟩, rfl, rfl, rfl, rfl⟩

/-! ### ClientEvents -/

theorem meets_Events_fail :
    ∃ (s : State) (c : Cp),
    s.ready = true ∧ (s.form c).ethernet = true :=
  ⟨formed 1 false 0, 0, rfl, rfl⟩

theorem meets_Events_clear :
    ∃ (s : State) (c : Cp),
    s.ready = true ∧ (s.form c).formed = true ∧ (s.cport c).failed = true ∧ s.stateCause c = 0 :=
  ⟨formed 1 true 0, 0, rfl, rfl, rfl, rfl⟩

theorem meets_Events_orderedSet :
    ∃ (s : State) (c : Cp),
    s.ready = true ∧ (s.form c).ethernet = true :=
  ⟨formed 1 false 0, 0, rfl, rfl⟩

theorem meets_Events_adapted :
    ∃ (s : State) (l : LaneNo),
    s.ready = true ∧ (s.lane l).power = LanePower.active :=
  ⟨formed 2 false 0, 0, rfl, rfl⟩

theorem meets_Events_lock :
    ∃ (s : State) (l : LaneNo),
    s.ready = true ∧ (s.lane l).chk ≠ 0 ∧ (s.lane l).power = LanePower.active :=
  ⟨formed 2 false 0, 0, rfl, by decide, rfl⟩

theorem meets_Events_relock :
    ∃ (s : State) (l : LaneNo),
    s.ready = true ∧ (s.lane l).locked = true ∧ (s.lane l).power = LanePower.active :=
  ⟨formed 2 false 0, 0, rfl, rfl, rfl⟩

theorem meets_Events_lane :
    ∃ (s : State) (c : Cp) (l : LaneNo) (symbols : List (Fin 4)),
    s.ready = true ∧ s.portOfLane l = some c ∧ (s.form c).native = true ∧ (s.lane l).power = LanePower.active ∧
    (s.lane l).inFrame = true ∧
    markerOk (invert (((s.lane l).eqOf .transmit).polarity.getLsbD 0) symbols) = true :=
  ⟨formed 2 false 0, 0, 0, markerSymbols, rfl, rfl, rfl, rfl, rfl, rfl⟩

/-! ### ClientFramesThroughThePort -/

theorem meets_ClientFrames_loop :
    ∃ (s : State) (c : Cp),
    s.ready = true ∧ (s.cport c).params.active.form.ethernet = true ∧
    ((s.cport c).loopback = 1 ∨ (s.cport c).loopback = 2) ∧
    (∀ (l : LaneNo), l ∈ (s.form c).lanes → (s.lane l).power = LanePower.active ∧ (s.lane l).gen = 0) :=
  ⟨formed 1 false 1, 0, rfl, rfl, by decide, by decide⟩

theorem meets_ClientFrames_failed :
    ∃ (s : State) (c : Cp),
    s.ready = true ∧ (s.cport c).params.active.form.ethernet = true ∧
    ((s.cport c).loopback ≠ 1 ∧ (s.cport c).loopback ≠ 2) ∧ (s.cport c).failed = true :=
  ⟨formed 1 true 0, 0, rfl, rfl, by decide, rfl⟩

theorem meets_ClientFrames_bad :
    ∃ (s : State) (c : Cp) (frame : Bytes) (pcs : Bool) (k : CounterKind) (x : Bytes × Bool)
      (u : State × Option TagMark),
    s.ready = true ∧ (s.cport c).params.active.form.ethernet = true ∧ x = s.ethernetRead c frame pcs ∧
    ((s.cport c).loopback ≠ 1 ∧ (s.cport c).loopback ≠ 2) ∧
    u = s.selectTag c .ingress x.1.length s.moduleTime ∧ (s.cport c).failed = false ∧
    badClientFrame (s.cport c).params.active.form x.1 x.2 = some k :=
  ⟨formed 1 false 0, 0, [1], true, .clientDropPcs, ([1], true), (formed 1 false 0).selectTag 0 .ingress 1 0, rfl, rfl,
    rfl, by decide, rfl, rfl, rfl⟩

theorem meets_ClientFrames_good :
    ∃ (s : State) (c : Cp) (frame : Bytes) (pcs : Bool) (x : Bytes × Bool) (u : State × Option TagMark) (n : State)
      (v : State × Bytes),
    s.ready = true ∧ (s.cport c).params.active.form.ethernet = true ∧ x = s.ethernetRead c frame pcs ∧
    ((s.cport c).loopback ≠ 1 ∧ (s.cport c).loopback ≠ 2) ∧ u = s.selectTag c .ingress x.1.length s.moduleTime ∧
    n = (u.1.count .clientFramesIn c.val 1).count .clientBytesIn c.val x.1.length ∧ (s.cport c).failed = false ∧
    badClientFrame (s.cport c).params.active.form x.1 x.2 = none ∧
    v = ({ n with fresh := n.fresh + 4 } : State).ptp .ingress c x.1 n.freeInstants :=
  ⟨formed 1 false 0, 0, goodFrame, false, (goodFrame, false), _, _, _, rfl, rfl, rfl, by decide, rfl, rfl, rfl,
    by decide +kernel, rfl⟩

theorem meets_ClientFrames_ptpIn :
    ∃ (s : State) (c : Cp) (frame : Bytes) (pcs : Bool) (m : PtpMessage) (x : Bytes × Bool)
      (u : State × Option TagMark) (n : State) (v : State × Bytes),
    s.ready = true ∧ (s.cport c).params.active.form.ethernet = true ∧ x = s.ethernetRead c frame pcs ∧
    ((s.cport c).loopback ≠ 1 ∧ (s.cport c).loopback ≠ 2) ∧ u = s.selectTag c .ingress x.1.length s.moduleTime ∧
    n = (u.1.count .clientFramesIn c.val 1).count .clientBytesIn c.val x.1.length ∧ (s.cport c).failed = false ∧
    badClientFrame (s.cport c).params.active.form x.1 x.2 = none ∧ isPtpEvent m.frame = true ∧ m.dir = .ingress ∧
    m.frame = frame ∧ pcs = false ∧
    v = ({ n with fresh := n.fresh + 4 } : State).ptp .ingress c x.1 { client := m.client, line := m.line } :=
  ⟨formed 1 false 0, 0, sync.frame, false, { sync with dir := .ingress }, (sync.frame, false), _, _, _, rfl, rfl, rfl,
    by decide, rfl, rfl, rfl, by decide +kernel, rfl, rfl, rfl, rfl, rfl⟩

theorem meets_ClientFrames_line :
    ∃ (s : State) (c : Cp) (frame : Bytes) (u : State × Option TagMark) (v : Option TagMark),
    s.ready = true ∧ (s.cport c).params.active.form.ethernet = true ∧
    ((s.cport c).loopback ≠ 1 ∧ (s.cport c).loopback ≠ 2) ∧ u = s.selectTag c .egress frame.length s.moduleTime ∧
    v = u.2.map (fun t => t.enter 6 s.moduleTime) ∧ fcsOk frame = true :=
  ⟨formed 1 false 0, 0, goodFrame, _, _, rfl, rfl, by decide, rfl, rfl, by decide +kernel⟩

theorem meets_ClientFrames_ptp :
    ∃ (s : State) (c : Cp) (frame : Bytes) (m : PtpMessage) (u : State × Option TagMark) (v : Option TagMark),
    s.ready = true ∧ (s.cport c).params.active.form.ethernet = true ∧
    ((s.cport c).loopback ≠ 1 ∧ (s.cport c).loopback ≠ 2) ∧ u = s.selectTag c .egress frame.length s.moduleTime ∧
    v = u.2.map (fun t => t.enter 6 s.moduleTime) ∧ isPtpEvent m.frame = true ∧ m.dir = .egress ∧ m.frame = frame ∧
    fcsOk frame = true :=
  ⟨formed 1 false 0, 0, sync.frame, sync, _, _, rfl, rfl, by decide, rfl, rfl, rfl, rfl, rfl, by decide +kernel⟩

theorem meets_ClientFrames_loopLine :
    ∃ (s : State) (c : Cp) (frame : Bytes) (u : State × Option TagMark) (v : Option TagMark),
    s.ready = true ∧ (s.cport c).params.active.form.ethernet = true ∧
    ((s.cport c).loopback = 1 ∨ (s.cport c).loopback = 2) ∧ u = s.selectTag c .egress frame.length s.moduleTime ∧
    v = u.2.map (fun t => t.enter 6 s.moduleTime) :=
  ⟨formed 1 false 1, 0, [1], _, _, rfl, rfl, by decide, rfl, rfl⟩

theorem meets_ClientFrames_lineBad :
    ∃ (s : State) (c : Cp) (frame : Bytes) (u : State × Option TagMark) (v : Option TagMark),
    s.ready = true ∧ (s.cport c).params.active.form.ethernet = true ∧
    ((s.cport c).loopback ≠ 1 ∧ (s.cport c).loopback ≠ 2) ∧ u = s.selectTag c .egress frame.length s.moduleTime ∧
    v = u.2.map (fun t => t.enter 6 s.moduleTime) ∧ fcsOk frame = false :=
  ⟨formed 1 false 0, 0, [1], _, _, rfl, rfl, by decide, rfl, rfl, rfl⟩

/-! ### FlowConfigurationAndLookups -/

theorem meets_Flow_port :
    ∃ (r : Request) (s : State) (c : Cp) (mask : BitVec 4) (dIn : BitVec 32) (dOut : BitVec 32),
    Executes false r s ∧ r.flag0 = false ∧
    r.params = [byte ↑c, BitVec.setWidth 8 mask, 0, 0] ++ be 4 dIn ++ be 4 dOut ++ [0, 0, 0, 0] ∧
    s.hasLane ↑c = true ∧ dIn.toNat ≤ 1048576 ∧ dOut.toNat ≤ 1048576 ∧ s.holdsPort r.port c = true ∧
    (dIn ≠ 0 → s.holdsCtx r.port (dIn.toNat - 1) 1 = true) ∧
    (dOut ≠ 0 → s.holdsCtx r.port (dOut.toNat - 1) 1 = true) ∧ s.portBusy c = false :=
  ⟨rq ([63, 15, 0, 0] ++ be 4 (1048576 : BitVec 32) ++ be 4 (0 : BitVec 32) ++ [0, 0, 0, 0]), up, 63, 15, 1048576, 0,
    ⟨rfl, rfl, rfl, rfl⟩, rfl, rfl, rfl, by decide, by decide, rfl, by decide, by decide, rfl⟩

theorem meets_Flow_portRead :
    ∃ (r : Request) (s : State) (c : Cp) (cp : Bool),
    Executes false r s ∧ r.flag0 = false ∧ r.params = [byte ↑c, byte cp.toNat, 0, 0] ∧ s.hasLane ↑c = true ∧
    s.holdsPort r.port c = true :=
  ⟨rq [63, 1, 0, 0], up, 63, true, ⟨rfl, rfl, rfl, rfl⟩, rfl, rfl, rfl, rfl⟩

theorem meets_Flow_etype :
    ∃ (r : Request) (s : State) (e : Eng),
    Executes false r s ∧ r.flag0 = false ∧ NamesEngine r s e 64 ∧ zeroAt r.params 1 3 = true ∧
    (∀ (i : Nat), i < 15 → badEtype (slice r.params (4 + 4 * i) 4) = false) ∧ s.holdsScope 7 ↑e = false :=
  ⟨rq (3 :: zeros 63), up, 3, ⟨rfl, rfl, rfl, rfl⟩, rfl, ⟨⟨rfl, rfl⟩, rfl, rfl, rfl⟩, rfl, by decide, rfl⟩

theorem meets_Flow_etypeRead :
    ∃ (r : Request) (s : State) (e : Eng) (cp : Bool),
    Executes false r s ∧ r.flag0 = false ∧ ReadsCopy r s e cp :=
  ⟨rq [3, 1, 0, 0], up, 3, true, ⟨rfl, rfl, rfl, rfl⟩, rfl, ⟨rfl, rfl, rfl, rfl⟩⟩

theorem meets_Flow_seal :
    ∃ (r : Request) (s : State),
    Executes false r s ∧ r.flag0 = false ∧ Formed r 144 ∧ r.port = 0 ∧ zeroAt r.params 4 4 = true ∧
    (∀ (i : Nat), i < 16 → zeroAt r.params (22 + 8 * i) 2 = true) ∧
    (∀ (i j : Nat), i < j → j < 16 → u48 r.params (16 + 8 * i) ≠ 0 → u48 r.params (16 + 8 * i) ≠ u48 r.params (16 +
      8 * j)) ∧
    (∀ (i : Nat), i < 16 → u48 r.params (16 + 8 * i) ≠ s.sciMac (65536 * i) → s.blockSeals i = false) :=
  ⟨rq (zeros 144), up, ⟨rfl, rfl, rfl, rfl⟩, rfl, ⟨rfl, rfl⟩, rfl, rfl, by decide,
    fun i j hij hj h => absurd (zeros_u48 i (by omega)) h, by decide⟩

theorem meets_Flow_sealRead :
    ∃ (r : Request) (s : State),
    Executes false r s ∧ r.flag0 = false ∧ r.params = [] :=
  ⟨rq [], up, ⟨rfl, rfl, rfl, rfl⟩, rfl, rfl⟩

theorem meets_Flow_lookup :
    ∃ (r : Request) (s : State),
    Executes false r s ∧ Formed r 16 ∧ badFlowEntry false r.params = false ∧ s.hasLane (entryPort r.params) = true ∧
    s.holdsPort r.port (cpOf (entryPort r.params)) = true ∧ s.keyUnready r.params = false :=
  ⟨rq flowKey, up, ⟨rfl, rfl, rfl, rfl⟩, ⟨rfl, rfl⟩, rfl, rfl, rfl, keyUnready_false _ _ (by decide)⟩

theorem meets_Flow_ctxRead :
    ∃ (r : Request) (s : State) (n : Nat) (copy : Bool) (ds : List (BitVec 128)) (f : Bool),
    Executes false r s ∧ r.flag0 = false ∧ n < 1048576 ∧ r.params = beBytes 4 n ++ [2, byte copy.toNat, 0, 0] ∧
    s.holdsCtx r.port n 1 = true ∧ s.ctxReady n = true ∧
    ((s.takeRequest 2570 r).ctxReadWords n [1, 2, 3]).snd = some (ds, f) :=
  ⟨rq (beBytes 4 5 ++ [2, 1, 0, 0]), up, 5, true, [0, 0, 0], true, ⟨rfl, rfl, rfl, rfl⟩, rfl, by decide, rfl, rfl,
    rfl, rfl⟩

theorem meets_Flow_fill :
    ∃ (r : Request) (s : State) (first : BitVec 32) (count : BitVec 32) (flags : Byte) (hot : BitVec 128),
    Executes false r s ∧ r.flag0 = false ∧ r.params = be 4 first ++ be 4 count ++ [flags, 0, 0, 0] ++ be 16 hot ∧
    count ≠ 0 ∧ BitVec.toNat flags ≤ 7 ∧ badHot hot = false ∧ first.toNat + count.toNat ≤ 1048576 ∧
    s.holdsCtx r.port first.toNat count.toNat = true ∧ s.holdsEntryKey r.port (Hot.ofBits hot) = true ∧
    (∀ (i : Nat), i < count.toNat → s.loadReady (first.toNat + i) (flags ≥ 4) = true) ∧ s.flows.fill = none ∧
    (flags &&& 1 = 1 → tooManyPins (s.pinned (dirOf (Hot.ofBits hot).dir) ++ s.pinsDue (dirOf (Hot.ofBits hot).dir) ++
      s.fillPins (dirOf (Hot.ofBits hot).dir) flags (Hot.ofBits hot) first.toNat count.toNat) = false) ∧
    (s.takeRequest 2569 r).bindingFault (Hot.ofBits hot) first.toNat (first.toNat + count.toNat - 1) = none :=
  ⟨rq (be 4 (1048575 : BitVec 32) ++ be 4 (1 : BitVec 32) ++ [7, 0, 0, 0] ++ be 16 (0 : BitVec 128)), up, 1048575, 1,
    7, 0, ⟨rfl, rfl, rfl, rfl⟩, rfl, rfl, by decide, by decide, rfl, by decide, rfl, rfl, by decide, rfl,
    fun _ => rfl, rfl⟩

/-! ### FlowBatchesTakeEffectAsAWhole -/

theorem meets_Batch_add :
    ∃ (r : Request) (s u : State),
    Executes false r s ∧ s.holdsToken 8 (batchToken r) = false ∧ badBatch r 16 254 = false ∧
    u = (s.takeRequest 0x0A05 r).seekAll (batchEntries r 16) ∧
    (∀ (e : Bytes), e ∈ batchEntries r 16 → badFlowEntry true e = false ∧ s.hasLane (entryPort e) = true ∧
      field e 12 4 < 1048576 ∧ s.holdsPort r.port (cpOf (entryPort e)) = true ∧
      s.holdsCtx r.port (field e 12 4) 1 = true) ∧
    firstFault State.addFault State.addEntry u (batchEntries r 16) 0 = none ∧ RoomFor r u (batchEntries r 16).length :=
  ⟨batch flowKey, up, _, ⟨rfl, rfl, rfl, rfl⟩, rfl, rfl, rfl, by decide, flow_may_add, by unfold RoomFor; decide⟩

theorem meets_Batch_delete :
    ∃ (r : Request) (s u : State),
    Executes false r s ∧ s.holdsToken 8 (batchToken r) = false ∧ badBatch r 16 254 = false ∧
    u = (s.takeRequest 0x0A06 r).seekAll (batchEntries r 16) ∧
    (∀ (e : Bytes), e ∈ batchEntries r 16 → badFlowEntry false e = false ∧ s.hasLane (entryPort e) = true ∧
      field e 12 4 < 1048576 ∧ s.holdsPort r.port (cpOf (entryPort e)) = true) ∧
    firstFault State.deleteFault State.dropEntry u (batchEntries r 16) 0 = none ∧
    RoomFor r u (batchEntries r 16).length :=
  ⟨batch flowKey, flowHeld, _, ⟨rfl, rfl, rfl, rfl⟩, rfl, rfl, rfl, by decide, flow_may_delete,
    by unfold RoomFor; decide⟩

theorem meets_Batch_load :
    ∃ (r : Request) (s u : State),
    Executes false r s ∧ s.holdsToken 8 (batchToken r) = false ∧ badBatch r 24 169 = false ∧
    (∀ (e : Bytes), e ∈ batchEntries r 24 → badLoadEntry e = false ∧ entryCtx e < 1048576 ∧
      s.holdsCtx r.port (entryCtx e) 1 = true ∧ s.holdsEntryKey r.port (Hot.ofBits (entryHot e)) = true) ∧
    pinFault u.pinsDue u.pinned (batchEntries r 24) 0 = none ∧
    u = (s.takeRequest 0x0A08 r).touchAll (batchEntries r 24) ∧
    (firstFault (fun s e => s.loadFault e false) (fun s e => s.flowOp (.load e)) u (batchEntries r 24) 0 = none) ∧
    RoomFor r u (batchEntries r 24).length :=
  ⟨batch (beBytes 4 5 ++ zeros 20), up, _, ⟨rfl, rfl, rfl, rfl⟩, rfl, rfl, by decide, rfl, rfl, rfl,
    by unfold RoomFor; decide⟩

theorem meets_Batch_reload :
    ∃ (r : Request) (s u : State),
    Executes false r s ∧ s.holdsToken 8 (batchToken r) = false ∧ badBatch r 24 169 = false ∧
    (∀ (e : Bytes), e ∈ batchEntries r 24 → badLoadEntry e = false ∧ entryCtx e < 1048576 ∧
      s.holdsCtx r.port (entryCtx e) 1 = true ∧ s.holdsEntryKey r.port (Hot.ofBits (entryHot e)) = true) ∧
    pinFault u.pinsDue u.pinned (batchEntries r 24) 0 = none ∧ batchToken r = 0 ∧
    u = (s.takeRequest 0x0A0C r).touchAll (batchEntries r 24) ∧
    (firstFault (fun s e => s.loadFault e true) (fun s e => s.flowOp (.reload e)) u (batchEntries r 24) 0 = none) :=
  ⟨batch (beBytes 4 5 ++ zeros 4 ++ [0x20] ++ zeros 15), context 3, _, ⟨rfl, rfl, rfl, rfl⟩, rfl, rfl, by decide, rfl, rfl, rfl, rfl⟩

theorem meets_Batch_rekey :
    ∃ (r : Request) (s u : State),
    Executes false r s ∧ s.holdsToken 8 (batchToken r) = false ∧ badBatch r 16 254 = false ∧
    (∀ (e : Bytes), e ∈ batchEntries r 16 → field e 6 1 ≤ 3 ∧ zeroAt e 7 1 = true ∧ entryCtx e < 1048576 ∧
      s.holdsCtx r.port (entryCtx e) 1 = true ∧ s.holdsKs r.port (field e 4 2) 1 = true) ∧
    u = (s.takeRequest 0x0A0B r).touchAll (batchEntries r 16) ∧
    (firstFault State.rekeyFault (fun s e => s.flowOp (.rekey e)) u (batchEntries r 16) 0 = none) ∧
    (batchToken r = 0 → graceFault u (batchEntries r 16) 0 u.graceFree = none) ∧
    RoomFor r u (batchEntries r 16).length :=
  ⟨batch (beBytes 4 5 ++ [0, 9, 1, 0] ++ beBytes 8 1), context 1, _, ⟨rfl, rfl, rfl, rfl⟩, rfl, rfl, by decide, rfl,
    rfl, by decide, by unfold RoomFor; decide⟩

/-! ### FlowInstants -/

theorem meets_Instants_fill :
    ∃ (s : State) (j : FillJob),
    s.ready = true ∧ s.flows.fill = some j :=
  ⟨filling, { first := 5, count := 1, flags := 0, template := 0, issuer := issuer }, rfl, rfl⟩

theorem meets_Instants_fetch :
    ∃ (s : State) (d : Dir) (m : FlowFrame),
    s.ready = true ∧ s.nextMiss d = some m :=
  ⟨flowing true, .egress, passing, rfl, rfl⟩

theorem meets_Instants_bulk :
    ∃ (s : State) (d : Dir) (f : FlowFrame),
    s.ready = true ∧ (List.find? (fun f => s.express d f) (s.flowDir d).admitQ = none) ∧
    (s.flowDir d).admitQ.head? = some f ∧ s.fits d f = true :=
  ⟨flowing false, .egress, passing, rfl, rfl, rfl, rfl⟩

theorem meets_Instants_grace :
    ∃ (s : State),
    s.ready = true :=
  ⟨graceOut, rfl⟩

theorem meets_Instants_express :
    ∃ (s : State) (d : Dir) (f : FlowFrame),
    s.ready = true ∧ (List.find? (fun f => s.express d f) (s.flowDir d).admitQ = some f) ∧ s.fits d f = true :=
  ⟨{ flowing false with mem := { (flowing false).mem with words := [(ctxWord 5 0, { kind := .data, data := (0xE :
      BitVec 128) <<< (120 : Nat) })] } }, .egress, passing, rfl, rfl, rfl⟩

/-! ### KeyLoadsAndRewrites -/

theorem meets_Keys_load :
    ∃ (r : Request) (s : State) (u : State) (vs : List (Nat × KeyValue)) (gate : KeySlot → Option Status),
    Executes false r s ∧ badBatch r 68 59 = false ∧
    (∀ (e : Bytes), e ∈ batchEntries r 68 → zeroAt e 2 2 = true ∧ s.holdsKs r.port (entrySlot e) 1 = true) ∧
    repeats entrySlot (batchEntries r 68) [] 0 = none ∧ batchToken r = 0 ∧
    (gate = fun k =>
      match k.state with
      | SlotState.empty => none
      | SlotState.erasing => some Status.busy
      | _ => some Status.inconsistent) ∧
    (s.takeRequest 2817 r).unwrapAll r.port gate (batchEntries r 68) 0 = (u, Except.ok vs) :=
  ⟨keyed5, withKek .empty, cleared ((withKek .empty).takeRequest 0x0B01 keyed5), [(5, openedKey)], loadGate,
    ⟨rfl, rfl, rfl, rfl⟩, rfl, by decide, rfl, rfl, rfl, key_opens _ .empty _ rfl (by decide +kernel)⟩

theorem meets_Keys_rewrite :
    ∃ (r : Request) (s : State) (u : State) (vs : List (Nat × KeyValue)) (gate : KeySlot → Option Status),
    Executes false r s ∧ badBatch r 68 59 = false ∧
    (∀ (e : Bytes), e ∈ batchEntries r 68 → zeroAt e 2 2 = true ∧ s.holdsKs r.port (entrySlot e) 1 = true) ∧
    repeats entrySlot (batchEntries r 68) [] 0 = none ∧ batchToken r = 0 ∧
    (gate = fun k =>
      match k.state with
      | SlotState.empty => some Status.keyAbsent
      | SlotState.rewriting => some Status.busy
      | SlotState.erasing => some Status.busy
      | SlotState.loaded =>
        match k.staged with
        | some _ => some Status.busy
        | none => none) ∧
    (s.takeRequest 2818 r).unwrapAll r.port gate (batchEntries r 68) 0 = (u, Except.ok vs) ∧
    s.heldKeys + vs.length ≤ 4096 :=
  ⟨keyed5, withKek .loaded, cleared ((withKek .loaded).takeRequest 0x0B02 keyed5), [(5, openedKey)], rewriteGate,
    ⟨rfl, rfl, rfl, rfl⟩, rfl, by decide, rfl, rfl, rfl, key_opens _ .loaded _ rfl (by decide +kernel), by decide⟩

/-! ### SlotGenerations -/

theorem meets_SlotGenerations :
    ∃ (s : State),
    canon { } s.keys.slots = true :=
  ⟨keyed, rfl⟩

theorem meets_SlotGenerations_tx :
    ∃ (s : State) (n : Nat) (tok : BitVec 32) (w : KeyValue),
    canon { } s.keys.slots = true ∧ (s.slot n).staged = some (tok, w) :=
  ⟨up.setSlot 9 { state := .loaded, staged := some (7, {}) }, 9, 7, {}, rfl, rfl⟩

/-! ### KeyErasesAndStatus -/

theorem meets_Erase_zero :
    ∃ (r : Request) (s : State) (first : BitVec 16) (count : BitVec 32),
    Executes false r s ∧ r.flag0 = false ∧ r.params = be 2 first ++ [0, 0] ++ be 4 count ∧ count = 0 :=
  ⟨rq (zeros 8), keyed, 0, 0, ⟨rfl, rfl, rfl, rfl⟩, rfl, rfl, rfl⟩

theorem meets_Erase_range :
    ∃ (r : Request) (s : State) (first : BitVec 16) (count : BitVec 32),
    Executes false r s ∧ r.flag0 = false ∧ r.params = be 2 first ++ [0, 0] ++ be 4 count ∧ count ≠ 0 ∧
    first.toNat + count.toNat > 65536 :=
  ⟨rq ([255, 255, 0, 0, 0, 0, 0, 2]), keyed, 65535, 2, ⟨rfl, rfl, rfl, rfl⟩, rfl, rfl, by decide, by decide⟩

theorem meets_Erase_empty :
    ∃ (r : Request) (s : State) (first : BitVec 16) (count : BitVec 32),
    Executes false r s ∧ r.flag0 = false ∧ r.params = be 2 first ++ [0, 0] ++ be 4 count ∧ count ≠ 0 ∧
    first.toNat + count.toNat ≤ 65536 ∧ s.holdsKs r.port first.toNat count.toNat = true ∧
    (∀ (x : Nat × KeySlot), x ∈ s.slotsIn first.toNat count.toNat → ∀ (t : BitVec 32) (v : KeyValue), x.snd.staged =
      some (t, v) → s.holdsToken 9 t = false) ∧
    (∀ w ∈ s.keys.rewrites, s.rewriteHeld w first.toNat count.toNat = false) ∧
    (∀ (x : Nat × KeySlot), x ∈ s.slotsIn first.toNat count.toNat → x.snd.state = SlotState.empty) :=
  ⟨rq ([0, 10, 0, 0, 0, 0, 0, 2]), keyed, 10, 2, ⟨rfl, rfl, rfl, rfl⟩, rfl, rfl, by decide, by decide, rfl,
    slots_unstaged _ _, by decide, by decide⟩

theorem meets_Erase :
    ∃ (r : Request) (s : State) (first : BitVec 16) (count : BitVec 32),
    Executes false r s ∧ r.flag0 = false ∧ r.params = be 2 first ++ [0, 0] ++ be 4 count ∧ count ≠ 0 ∧
    first.toNat + count.toNat ≤ 65536 ∧ s.holdsKs r.port first.toNat count.toNat = true ∧
    (∀ (x : Nat × KeySlot), x ∈ s.slotsIn first.toNat count.toNat → ∀ (t : BitVec 32) (v : KeyValue), x.snd.staged =
      some (t, v) → s.holdsToken 9 t = false) ∧
    (∀ w ∈ s.keys.rewrites, s.rewriteHeld w first.toNat count.toNat = false) ∧
    (∃ x, x ∈ s.slotsIn first.toNat count.toNat ∧ x.snd.state ≠ SlotState.empty) :=
  ⟨rq ([0, 9, 0, 0, 0, 0, 0, 2]), keyed, 9, 2, ⟨rfl, rfl, rfl, rfl⟩, rfl, rfl, by decide, by decide, rfl,
    slots_unstaged _ _, by decide, by decide⟩

theorem meets_Erase_staged :
    ∃ (r : Request) (s : State) (first : BitVec 16) (count : BitVec 32),
    Executes false r s ∧ r.flag0 = false ∧ r.params = be 2 first ++ [0, 0] ++ be 4 count ∧ count ≠ 0 ∧
    first.toNat + count.toNat ≤ 65536 ∧ s.holdsKs r.port first.toNat count.toNat = true ∧
    (∃ x ∈ s.slotsIn first.toNat count.toNat, ∃ t v, x.2.staged = some (t, v) ∧ s.holdsToken 9 t = true) :=
  ⟨rq ([0, 9, 0, 0, 0, 0, 0, 2]),
    { up with commits := [{ someCommit with classes := 512, token := 7 }],
              keys := { up.keys with slots := [(9, { state := .loaded, staged := some (7, {}) })] } },
    9, 2, ⟨rfl, rfl, rfl, rfl⟩, rfl, rfl, by decide, by decide, rfl,
    ⟨(9, { state := .loaded, staged := some (7, {}) }), List.mem_singleton.mpr rfl, 7, {}, rfl, rfl⟩⟩

theorem meets_Erase_rewriteHeld :
    ∃ (r : Request) (s : State) (first : BitVec 16) (count : BitVec 32),
    Executes false r s ∧ r.flag0 = false ∧ r.params = be 2 first ++ [0, 0] ++ be 4 count ∧ count ≠ 0 ∧
    first.toNat + count.toNat ≤ 65536 ∧ s.holdsKs r.port first.toNat count.toNat = true ∧
    (∃ w ∈ s.keys.rewrites, s.rewriteHeld w first.toNat count.toNat = true) :=
  ⟨rq ([0, 9, 0, 0, 0, 0, 0, 2]),
    { up with commits := [{ someCommit with classes := 512, token := 7 }],
              keys := { up.keys with rewrites := [{ token := 7, slots := [9], since := none }] } },
    9, 2, ⟨rfl, rfl, rfl, rfl⟩, rfl, rfl, by decide, by decide, rfl,
    ⟨{ token := 7, slots := [9], since := none }, List.mem_singleton.mpr rfl, rfl⟩⟩

theorem meets_KeyStatus_zero :
    ∃ (r : Request) (s : State) (first : BitVec 16) (count : BitVec 16),
    Executes false r s ∧ r.flag0 = false ∧ r.params = be 2 first ++ be 2 count ∧ count = 0 :=
  ⟨rq [0, 9, 0, 0], keyed, 9, 0, ⟨rfl, rfl, rfl, rfl⟩, rfl, rfl, rfl⟩

theorem meets_KeyStatus_range :
    ∃ (r : Request) (s : State) (first : BitVec 16) (count : BitVec 16),
    Executes false r s ∧ r.flag0 = false ∧ r.params = be 2 first ++ be 2 count ∧ count ≠ 0 ∧
    (count.toNat > 509 ∨ first.toNat + count.toNat > 65536) :=
  ⟨rq [0, 9, 1, 254], keyed, 9, 510, ⟨rfl, rfl, rfl, rfl⟩, rfl, rfl, by decide, by decide⟩

theorem meets_KeyStatus_last :
    ∃ (r : Request) (s : State) (first : BitVec 16) (count : BitVec 16),
    Executes false r s ∧ r.flag0 = false ∧ r.params = be 2 first ++ be 2 count ∧ count ≠ 0 ∧
    (count.toNat > 509 ∨ first.toNat + count.toNat > 65536) :=
  ⟨rq [255, 255, 0, 2], keyed, 65535, 2, ⟨rfl, rfl, rfl, rfl⟩, rfl, rfl, by decide, by decide⟩

theorem meets_KeyStatus :
    ∃ (r : Request) (s : State) (first : BitVec 16) (count : BitVec 16),
    Executes false r s ∧ r.flag0 = false ∧ r.params = be 2 first ++ be 2 count ∧ count ≠ 0 ∧ count.toNat ≤ 509 ∧
    first.toNat + count.toNat ≤ 65536 ∧ s.holdsKs r.port first.toNat count.toNat = true :=
  ⟨rq [0, 9, 1, 253], keyed, 9, 509, ⟨rfl, rfl, rfl, rfl⟩, rfl, rfl, by decide, by decide, by decide, rfl⟩

theorem meets_KeyForm_erase :
    ∃ (r : Request) (s : State),
    Executes false r s ∧ (List.length r.params ≠ 8 ∨ zeroAt r.params 2 2 = false) :=
  ⟨rq [0, 9, 1, 0, 0, 0, 0, 1], up, ⟨rfl, rfl, rfl, rfl⟩, by decide⟩

theorem meets_KeyForm_status :
    ∃ (r : Request) (s : State),
    Executes false r s ∧ List.length r.params ≠ 4 :=
  ⟨rq [0], up, ⟨rfl, rfl, rfl, rfl⟩, by decide⟩

theorem meets_Descriptor :
    ∃ (state : Nat) (port : Nat) (usage : Nat),
    state < 4 ∧ port < 4 ∧ usage < 8 :=
  ⟨3, 3, 7, by decide, by decide, by decide⟩

/-! ### PortOwnerAndIdentityKeys -/

theorem meets_PortKey_load :
    ∃ (r : Request) (s : State) (u : State) (v : KeyValue),
    r.flag0 = false ∧ Executes false r s ∧ Formed r 68 ∧ zeroAt r.params 1 3 = true ∧ u8 r.params 0 = 3 ∧
    (s.takeRequest 2821 r).unwrap r.port 3 0 (nextGen (s.port r.port).cak.gen) (slice r.params 4 64) = (u, Except.ok
      v) :=
  ⟨rq ([3, 0, 0, 0] ++ wrappedCak), withKek .empty,
    cleared ((withKek .empty).takeRequest 0x0B05 (rq ([3, 0, 0, 0] ++ wrappedCak))), openedCak, rfl,
    ⟨rfl, rfl, rfl, rfl⟩, ⟨rfl, rfl⟩, rfl, rfl, cak_opens⟩

theorem meets_PortKey_erase :
    ∃ (r : Request) (s : State) (mask : Fin 4),
    r.flag0 = false ∧ Executes false r s ∧ r.params = [byte ↑mask, 0, 0, 0] :=
  ⟨rq [3, 0, 0, 0], withKek .empty, 3, rfl, ⟨rfl, rfl, rfl, rfl⟩, rfl⟩

theorem meets_PortKey_status :
    ∃ (r : Request) (s : State) (p : Hp),
    r.flag0 = false ∧ Executes false r s ∧ (r.port = 0 ∨ r.port = p) ∧ r.params = [byte ↑p, 0, 0, 0] :=
  ⟨rq [3, 0, 0, 0], withKek .empty, 3, rfl, ⟨rfl, rfl, rfl, rfl⟩, by decide, rfl⟩

theorem meets_MillraceStatus :
    ∃ (r : Request) (s : State) (a : Bank) (b : Bank),
    r.flag0 = false ∧ Executes false r s ∧ r.params = [] ∧ a = s.flows.ingress.bank ∧ b = s.flows.egress.bank :=
  ⟨rq [], up, {}, {}, rfl, ⟨rfl, rfl, rfl, rfl⟩, rfl, rfl, rfl⟩

theorem meets_Owner_provision :
    ∃ (r : Request) (s : State),
    r.flag0 = false ∧ Executes false r s ∧ r.port = 0 ∧ List.length r.params = 32 ∧
    s.keys.owner = OwnerMode.unprovisioned :=
  ⟨rq (zeros 32), up, rfl, ⟨rfl, rfl, rfl, rfl⟩, rfl, rfl, rfl⟩

theorem meets_Owner_status :
    ∃ (r : Request) (s : State),
    r.flag0 = false ∧ Executes true r s ∧ r.params = [] :=
  ⟨rq [], up, rfl, ⟨rfl, rfl, rfl, rfl⟩, rfl⟩

theorem meets_IdChallenge :
    ∃ (r : Request) (s : State),
    Executes true r s ∧ Formed r 16 ∧ List.length s.ident.serial = 16 ∧ s.keys.owner ≠ OwnerMode.provisioned :=
  ⟨rq (zeros 16), up, ⟨rfl, rfl, rfl, rfl⟩, ⟨rfl, rfl⟩, rfl, by decide⟩

theorem meets_IdChallenge_tag :
    ∃ (r : Request) (s : State),
    Executes true r s ∧ Formed r 16 ∧ List.length s.ident.serial = 16 ∧ s.keys.owner = OwnerMode.provisioned :=
  ⟨rq (zeros 16), { up with keys := { up.keys with owner := .provisioned, ownerKey := zeros 32 } },
    ⟨rfl, rfl, rfl, rfl⟩, ⟨rfl, rfl⟩, rfl, rfl⟩

theorem meets_PortKey_loadKek :
    ∃ (r : Request) (s : State) (u : State) (v : KeyValue),
    r.flag0 = false ∧ Executes false r s ∧ Formed r 68 ∧ zeroAt r.params 1 3 = true ∧ u8 r.params 0 = 2 ∧
    (s.takeRequest 2821 r).unwrap r.port 2 0 (nextGen (s.port r.port).kek.gen) (slice r.params 4 64) = (u, Except.ok
      v) :=
  ⟨rq ([2, 0, 0, 0] ++ wrappedKek), owned, _, openedCak, rfl, ⟨rfl, rfl, rfl, rfl⟩, ⟨rfl, rfl⟩, rfl, rfl, kek_opens⟩

/-! ### KeyInstants -/

theorem meets_KeyInstants_grace :
    ∃ (s : State) (w : Rewrite),
    s.ready = true ∧ canon { } s.keys.slots = true ∧ List.find? s.graceOver s.keys.rewrites = some w :=
  ⟨{ up.setSlot 9 { state := .rewriting, old := some ({}, 1) } with moduleTime := 1024, keys := { (up.setSlot 9 {
      state := .rewriting, old := some ({}, 1) }).keys with rewrites := [{ token := 1, slots := [9], since := some 0
      }] } }, { token := 1, slots := [9], since := some 0 }, rfl, rfl, rfl⟩

theorem meets_KeyInstants_point :
    ∃ (s : State) (j : EraseJob),
    s.ready = true ∧ canon { } s.keys.slots = true ∧ s.keys.erases = [j] ∧ j.pointed = false :=
  ⟨{ keyed with keys := { keyed.keys with erases := [erasing false] } }, erasing false, rfl, rfl, rfl, rfl⟩

theorem meets_KeyInstants_erased :
    ∃ (s : State) (j : EraseJob),
    s.ready = true ∧ canon { } s.keys.slots = true ∧ (List.find? (fun x => x.pointed) s.keys.erases = some j) :=
  ⟨{ up.setSlot 9 { state := .erasing } with keys := { (up.setSlot 9 { state := .erasing }).keys with erases :=
      [erasing true] } }, erasing true, rfl, rfl, rfl⟩

theorem meets_KeyInstants_owner :
    ∃ (s : State) (d : Deferred),
    s.ready = true ∧ canon { } s.keys.slots = true ∧ s.keys.provision = some d :=
  ⟨{ up with keys := { up.keys with owner := .provisioning, provision := some issuer } }, issuer, rfl, rfl, rfl⟩

/-! ### MemoryRequests -/

theorem meets_Mem_config :
    ∃ (r : Request) (s : State) (rate : BitVec 16) (thr : BitVec 16),
    Executes false r s ∧ r.flag0 = false ∧ r.port = 0 ∧ r.params = be 2 rate ++ be 2 thr ++ [0, 0, 0, 0] ∧
    rate.toNat ≤ 4096 :=
  ⟨rq [16, 0, 255, 255, 0, 0, 0, 0], up, 4096, 65535, ⟨rfl, rfl, rfl, rfl⟩, rfl, rfl, rfl, by decide⟩

theorem meets_Mem_configRead :
    ∃ (r : Request) (s : State),
    Executes false r s ∧ r.flag0 = false ∧ r.params = [] :=
  ⟨rq [], up, ⟨rfl, rfl, rfl, rfl⟩, rfl, rfl⟩

theorem meets_Mem_status :
    ∃ (r : Request) (s : State),
    Executes false r s ∧ r.flag0 = false ∧ r.params = [] :=
  ⟨rq [], up, ⟨rfl, rfl, rfl, rfl⟩, rfl, rfl⟩

theorem meets_Mem_log :
    ∃ (r : Request) (s : State) (clear : Bool),
    Executes false r s ∧ r.flag0 = false ∧ r.port = 0 ∧ r.params = [byte clear.toNat, 0, 0, 0] :=
  ⟨rq [1, 0, 0, 0], up, true, ⟨rfl, rfl, rfl, rfl⟩, rfl, rfl, rfl⟩

theorem meets_Mem_word :
    ∃ (r : Request) (s : State) (wa : BitVec 32) (d : BitVec 128),
    Executes false r s ∧ r.flag0 = false ∧ r.port = 0 ∧ r.params = be 4 wa ∧ wa.toNat < 8388608 ∧
    s.wordReady wa.toNat = true ∧ s.holdsClean wa.toNat d :=
  ⟨rq (be 4 (0x200014 : BitVec 32)), context 1, 0x200014, 1 <<< 125, ⟨rfl, rfl, rfl, rfl⟩, rfl, rfl, rfl, by decide,
    rfl, by unfold State.holdsClean; decide⟩

theorem meets_Mem_fresh :
    ∃ (r : Request) (s : State) (wa : BitVec 32),
    Executes false r s ∧ r.flag0 = false ∧ r.port = 0 ∧ r.params = be 4 wa ∧ wa.toNat < 8388608 ∧
    s.wordReady wa.toNat = true ∧ s.word wa.toNat = { } ∧ s.mergeOf wa.toNat = none :=
  ⟨rq (be 4 (0x7FFFFF : BitVec 32)), up, 0x7FFFFF, ⟨rfl, rfl, rfl, rfl⟩, rfl, rfl, rfl, by decide, rfl, rfl, rfl⟩

theorem meets_Mem_corrected :
    ∃ (r : Request) (s : State) (wa : BitVec 32) (d : BitVec 128) (flips : BitVec 144),
    Executes false r s ∧ r.flag0 = false ∧ r.port = 0 ∧ r.params = be 4 wa ∧ wa.toNat < 8388608 ∧
    s.wordReady wa.toNat = true ∧ s.word wa.toNat = { kind := WordKind.data, data := d, flips := flips } ∧
    popcount flips = 1 ∧ s.mergeOf wa.toNat = none :=
  ⟨rq (be 4 (3 : BitVec 32)),
    { up with mem := { up.mem with words := [(3, { kind := .data, data := 9, flips := 1 <<< 143 })] } }, 3, 9,
    1 <<< 143, ⟨rfl, rfl, rfl, rfl⟩, rfl, rfl, rfl, by decide, rfl, rfl, rfl, rfl⟩

theorem meets_Mem_poisoned :
    ∃ (r : Request) (s : State) (wa : BitVec 32) (d : BitVec 128) (flips : BitVec 144),
    Executes false r s ∧ r.flag0 = false ∧ r.port = 0 ∧ r.params = be 4 wa ∧ wa.toNat < 8388608 ∧
    s.wordReady wa.toNat = true ∧ s.word wa.toNat = { kind := WordKind.data, data := d, flips := flips } ∧
    popcount flips = 2 ∧ wa.toNat < 2097152 :=
  ⟨rq (be 4 (3 : BitVec 32)),
    { up with mem := { up.mem with words := [(3, { kind := .data, data := 9, flips := 3 })] } }, 3, 9, 3,
    ⟨rfl, rfl, rfl, rfl⟩, rfl, rfl, rfl, by decide, rfl, rfl, rfl, by decide⟩

theorem meets_Mem_inject :
    ∃ (r : Request) (s : State) (wa : BitVec 32) (other : BitVec 32) (flips : BitVec 144) (d : BitVec 128),
    Executes false r s ∧ r.flag0 = false ∧ r.port = 0 ∧ r.params = be 4 wa ++ be 4 other ++ be 18 flips ++ [0, 0] ∧
    wa.toNat < 8388608 ∧ other.toNat < 8388608 ∧ s.wordReady wa.toNat = true ∧ s.holdsClean wa.toNat d :=
  ⟨rq (be 4 (3 : BitVec 32) ++ be 4 (2 : BitVec 32) ++ be 18 (1 : BitVec 144) ++ [0, 0]),
    { up with mem := { up.mem with words := [(3, { kind := .data, data := 9 })] } }, 3, 2, 1, 9, ⟨rfl, rfl, rfl, rfl⟩,
    rfl, rfl, rfl, by decide, by decide, rfl, by unfold State.holdsClean; decide⟩

/-! ### MemoryInstants -/

theorem meets_MemI_train :
    ∃ (s : State) (c : Fin 8),
    s.railsOn = true ∧ s.power.resetLow = false ∧ s.mem.channels[c].mode = ChannelMode.training :=
  ⟨{ up with mem := { up.mem with channels := up.mem.channels.set 7 { mode := .training } } }, 7, rfl, rfl, rfl⟩

theorem meets_MemI_sweep :
    ∃ (s : State),
    s.railsOn = true ∧ s.power.resetLow = false ∧ s.mem.swept = false ∧ s.allFailed = false ∧
    (∀ (d : Fin 8), s.mem.channels[d].mode ≠ ChannelMode.training) :=
  ⟨{ up with mem := { up.mem with swept := false, channels := Vector.replicate 8 { mode := .sweeping } } }, rfl, rfl,
    rfl, rfl, by decide⟩

theorem meets_MemI_eddy :
    ∃ (s : State) (d : BitVec 128),
    s.ready = true ∧ s.eddyRuns = true ∧ s.holdsClean s.mem.eddy.toNat d :=
  ⟨{ up with mem := { up.mem with eddy := 0x7FFFFF, words := [(0x7FFFFF, { kind := .data, data := 1 })] } }, 1, rfl,
    rfl, by unfold State.holdsClean; decide⟩

theorem meets_MemI_eddyFix :
    ∃ (s : State) (d : BitVec 128) (flips : BitVec 144),
    s.ready = true ∧ s.eddyRuns = true ∧
    s.word s.mem.eddy.toNat = { kind := WordKind.data, data := d, flips := flips } ∧ popcount flips = 1 ∧
    s.wordReady s.mem.eddy.toNat = true ∧ s.mergeOf s.mem.eddy.toNat = none :=
  ⟨{ up with mem := { up.mem with eddy := 3, words := [(3, { kind := .data, data := 1, flips := 2 })] } }, 1, 2, rfl,
    rfl, rfl, rfl, rfl, rfl⟩

theorem meets_MemI_merge :
    ∃ (s : State) (c : Fin 8) (m : MergeEntry) (rest : List MergeEntry) (d : BitVec 128),
    s.ready = true ∧ s.mem.channels[c].merge = m :: rest ∧ channelOf m.wa = c ∧
    ((s.moduleTime - m.time).toNat ≥ 2 ∨ s.mem.channels[c].merge.length > 192) ∧
    s.word m.wa = { kind := WordKind.data, data := d } :=
  ⟨merging, 1, merge8, [], 1, rfl, rfl, rfl, by decide, rfl⟩

/-! ### HeadwaterRequests -/

theorem meets_Hw_write :
    ∃ (r : Request) (s : State),
    Executes false r s ∧ Formed r 56 ∧ r.port = 0 ∧ HwFormed r.params s ∧ s.holdsModule 11 = false :=
  ⟨rq (zeros 56), up, ⟨rfl, rfl, rfl, rfl⟩, ⟨rfl, rfl⟩, rfl, by unfold HwFormed; decide, rfl⟩

theorem meets_Hw_read :
    ∃ (r : Request) (s : State) (copy : Bool),
    Executes false r s ∧ r.flag0 = false ∧ r.params = [byte copy.toNat, 0, 0, 0] :=
  ⟨rq [1, 0, 0, 0], up, true, ⟨rfl, rfl, rfl, rfl⟩, rfl, rfl⟩

theorem meets_Hw_stepBusy :
    ∃ (r : Request) (s : State) (amount : BitVec 32) (commit : Bool),
    Executes false r s ∧ r.port = 0 ∧ r.flag0 = false ∧ r.params = be 4 amount ++ [byte (1 + commit.toNat), 0, 0, 0] ∧
    -500000 ≤ amount.toInt ∧ amount.toInt ≤ 500000 ∧ (commit = true → s.holdsModule 11 = false) ∧ amount ≠ 0 ∧
    s.hw.stepping = true :=
  ⟨rq (be 4 (500000 : BitVec 32) ++ [1, 0, 0, 0]), hwIs (fun x => { x with slew := some (1, 0) }), 500000, false,
    ⟨rfl, rfl, rfl, rfl⟩, rfl, rfl, rfl, by decide, by decide, by decide, by decide, rfl⟩

theorem meets_Hw_step :
    ∃ (r : Request) (s : State) (amount : BitVec 32) (commit : Bool),
    Executes false r s ∧ r.port = 0 ∧ r.flag0 = false ∧ r.params = be 4 amount ++ [byte (1 + commit.toNat), 0, 0, 0] ∧
    -500000 ≤ amount.toInt ∧ amount.toInt ≤ 500000 ∧ (commit = true → s.holdsModule 11 = false) ∧ amount ≠ 0 ∧
    s.hw.stepping = false :=
  ⟨rq (be 4 (-500000 : BitVec 32) ++ [2, 0, 0, 0]), up, -500000, true, ⟨rfl, rfl, rfl, rfl⟩, rfl, rfl, rfl, by decide,
    by decide, by decide, by decide, rfl⟩

theorem meets_Hw_status :
    ∃ (r : Request) (s : State),
    Executes false r s ∧ Formed r 0 :=
  ⟨rq [], up, ⟨rfl, rfl, rfl, rfl⟩, ⟨rfl, rfl⟩⟩

theorem meets_Hw_inputs :
    ∃ (r : Request) (s : State),
    Executes false r s ∧ Formed r 0 :=
  ⟨rq [], up, ⟨rfl, rfl, rfl, rfl⟩, ⟨rfl, rfl⟩⟩

/-! ### HeadwaterInstants -/

theorem meets_HwI_qualify :
    ∃ (s : State) (i : Fin 14) (freq : BitVec 32),
    s.ready = true ∧ s.hw.inputs[i].qualified = false ∧ s.inputOffered i = true ∧ nearNominal i freq = true :=
  ⟨hwIs id, 2, 0, rfl, rfl, rfl, rfl⟩

theorem meets_HwI_loss :
    ∃ (s : State) (i : Fin 14) (cause : BitVec 4),
    s.ready = true ∧ s.hw.inputs[i].qualified = true ∧ s.lossFits i cause = true ∧ s.hw.mode ≠ HwMode.buildOut ∧
    s.hw.selected ≠ inputCode i :=
  ⟨qualified id, 2, 1, rfl, rfl, rfl, by decide, by decide⟩

theorem meets_HwI_lossSelected :
    ∃ (s : State) (i : Fin 14) (cause : BitVec 4),
    s.ready = true ∧ s.hw.inputs[i].qualified = true ∧ s.lossFits i cause = true ∧ s.hw.mode ≠ HwMode.buildOut ∧
    s.hw.selected = inputCode i ∧ (∀ (j : Fin 14), j ≠ i → s.hw.inputs[j].qualified = false) :=
  ⟨qualified (fun x => { x with mode := .locked, selected := 3 }), 2, 5, rfl, rfl, rfl, by decide, rfl, by decide⟩

theorem meets_HwI_window :
    ∃ (s : State),
    s.ready = true ∧ s.hw.mode = HwMode.buildOut :=
  ⟨qualified (fun x => { x with mode := .buildOut, candidate := 3 }), rfl, rfl⟩

theorem meets_HwI_lock :
    ∃ (s : State),
    s.ready = true ∧ s.hw.mode = HwMode.acquiring ∧ s.hw.phaseErr.natAbs ≤ lockWindow s.hw.selected ∧
    lockTicks s.hw.config.active s.hw.selected ≤ s.hw.within :=
  ⟨qualified (fun x => { x with mode := .acquiring, selected := 3, phaseErr := -50000, within := 61035156250 }), rfl,
    rfl, by decide, by decide⟩

theorem meets_HwI_wtr :
    ∃ (s : State) (i : Fin 14),
    s.ready = true ∧ s.hw.inputs[i].qualified = true ∧ s.hw.config.active.revertive = true :=
  ⟨qualified (fun x => { x with mode := .locked, selected := 3, config := ⟨{}, { flags := 1 }⟩ }), 2, rfl, rfl, rfl⟩

theorem meets_HwI_step :
    ∃ (s : State) (a : Int),
    s.ready = true ∧ s.hw.pending = some a ∧ s.secondHere = true :=
  ⟨qualified (fun x => { x with pending := some (-5), toSecond := 163839999999 }), -5, rfl, rfl, by decide⟩

theorem meets_HwI_slew :
    ∃ (s : State),
    s.ready = true ∧ s.hw.slew ≠ none :=
  ⟨qualified (fun x => { x with slew := some (5, 0) }), rfl, by decide⟩

theorem meets_HwI_refout :
    ∃ (s : State),
    s.ready = true ∧ s.hw.refoutStopped = true :=
  ⟨qualified (fun x => { x with refoutStopped := true }), rfl, rfl⟩

theorem meets_HwI_pps :
    ∃ (s : State) (n : Fin 2),
    s.ready = true ∧ s.ppsDue n = true ∧ s.hw.ppsRise[n] ≠ some s.moduleTime :=
  ⟨qualified (fun x => { x with toSecond := 0, config := ⟨{}, { ppsOut := Vector.replicate 2 { src := 1 } }⟩ }), 1, rfl,
    by decide, by decide⟩

theorem meets_HwI_second :
    ∃ (s : State),
    s.ready = true ∧ s.hw.holding = true :=
  ⟨holdingOver, rfl, rfl⟩

theorem meets_HwI_oven :
    ∃ (s : State),
    s.power.aux = true :=
  ⟨up, rfl⟩

/-! ### TimeRequests -/

theorem meets_Time_write :
    ∃ (r : Request) (s : State),
    Executes false r s ∧ Formed r 96 ∧ r.port = 0 ∧ TimeFormed r.params s ∧ s.holdsModule 10 = false :=
  ⟨rq (zeros 96), up, ⟨rfl, rfl, rfl, rfl⟩, ⟨rfl, rfl⟩, rfl, zeros_timeFormed, rfl⟩

theorem meets_Time_read :
    ∃ (r : Request) (s : State) (copy : Bool),
    Executes false r s ∧ r.flag0 = false ∧ r.params = [byte copy.toNat, 0, 0, 0] :=
  ⟨rq [1, 0, 0, 0], up, true, ⟨rfl, rfl, rfl, rfl⟩, rfl, rfl⟩

theorem meets_Time_set :
    ∃ (r : Request) (s : State) (d : Fin 2) (relative : Bool) (second : Bool) (sec : BitVec 48) (ns : BitVec 32)
      (frac : BitVec 16),
    Executes false r s ∧ r.port = 0 ∧ r.flag0 = false ∧
    r.params = [byte (1 + ↑d), byte (1 + relative.toNat), byte (1 + second.toNat), 0] ++ be 6 sec ++ [0, 0] ++ be 4
      ns ++ be 2 frac ++ [0, 0] ∧
    (if relative = true then ns.toInt.natAbs else ns.toNat) ≤ 999999999 ∧ (s.tdBlock d).mode ≠ 1 :=
  ⟨rq ([2, 1, 2, 0] ++ be 6 (5 : BitVec 48) ++ [0, 0] ++ be 4 (999999999 : BitVec 32) ++ [0, 0, 0, 0]), up, 1, false,
    true, 5, 999999999, 0, ⟨rfl, rfl, rfl, rfl⟩, rfl, rfl, rfl, by decide, by decide⟩

theorem meets_Time_status :
    ∃ (r : Request) (s : State),
    Executes false r s ∧ Formed r 0 :=
  ⟨rq [], up, ⟨rfl, rfl, rfl, rfl⟩, ⟨rfl, rfl⟩⟩

theorem meets_Time_ptpPort :
    ∃ (r : Request) (s : State) (c : Cp) (flags : BitVec 5) (ts : Fin 3),
    Executes false r s ∧ r.flag0 = false ∧ r.params = [byte ↑c, BitVec.setWidth 8 flags, byte ↑ts, 0, 0, 0, 0, 0] ∧
    s.hasLane ↑c = true ∧ s.holdsPort r.port c = true ∧ s.portBusy c = false :=
  ⟨rq [63, 31, 2, 0, 0, 0, 0, 0], up, 63, 31, 2, ⟨rfl, rfl, rfl, rfl⟩, rfl, rfl, rfl, rfl, rfl⟩

theorem meets_Time_ptpRead :
    ∃ (r : Request) (s : State) (copy : Bool) (c : Cp),
    Executes false r s ∧ r.flag0 = false ∧ r.params = [byte ↑c, byte copy.toNat, 0, 0] ∧ s.hasLane ↑c = true ∧
    s.holdsPort r.port c = true :=
  ⟨rq [63, 1, 0, 0], up, true, 63, ⟨rfl, rfl, rfl, rfl⟩, rfl, rfl, rfl, rfl⟩

theorem meets_Time_tpoOff :
    ∃ (r : Request) (s : State) (n : Fin 4),
    Executes false r s ∧ Formed r 32 ∧ u8 r.params 0 = byte ↑n ∧ badTpo (parseTpo r.params) = false ∧
    zeroAt r.params 10 2 = true ∧ tpoRangeOk (parseTpo r.params) = true ∧ s.holdsTpo r.port ↑n = true ∧
    ((parseTpo r.params).period ≠ 0 → (parseTpo r.params).width.toNat < (parseTpo r.params).period.toNat) ∧
    (parseTpo r.params).mode = 0 :=
  ⟨rq (3 :: zeros 31), up, 3, ⟨rfl, rfl, rfl, rfl⟩, ⟨rfl, rfl⟩, rfl, rfl, rfl, rfl, rfl, by decide, rfl⟩

theorem meets_Time_tpoPast :
    ∃ (r : Request) (s : State) (n : Fin 4) (now : Nat),
    Executes false r s ∧ Formed r 32 ∧ u8 r.params 0 = byte ↑n ∧ badTpo (parseTpo r.params) = false ∧
    zeroAt r.params 10 2 = true ∧ tpoRangeOk (parseTpo r.params) = true ∧ s.holdsTpo r.port ↑n = true ∧
    (parseTpo r.params).mode ≠ 0 ∧
    ((parseTpo r.params).period ≠ 0 → (parseTpo r.params).width.toNat < (parseTpo r.params).period.toNat) ∧
    s.scaleSet (parseTpo r.params).scale = true ∧ s.scaleTime (parseTpo r.params).scale = some now ∧
    (parseTpo r.params).edge 0 < now + 10000 * unitsPerNs :=
  ⟨rq (oneEdge 0), (domainIs (fun x => { x with mode := .free })), 3, 0, ⟨rfl, rfl, rfl, rfl⟩, ⟨rfl, rfl⟩, rfl, rfl,
    rfl, rfl, rfl, by decide, by decide, rfl, rfl, by decide⟩

theorem meets_Time_tpo :
    ∃ (r : Request) (s : State) (n : Fin 4) (now : Nat),
    Executes false r s ∧ Formed r 32 ∧ u8 r.params 0 = byte ↑n ∧ badTpo (parseTpo r.params) = false ∧
    zeroAt r.params 10 2 = true ∧ tpoRangeOk (parseTpo r.params) = true ∧ s.holdsTpo r.port ↑n = true ∧
    (parseTpo r.params).mode ≠ 0 ∧
    ((parseTpo r.params).period ≠ 0 → (parseTpo r.params).width.toNat < (parseTpo r.params).period.toNat) ∧
    s.scaleSet (parseTpo r.params).scale = true ∧ s.scaleTime (parseTpo r.params).scale = some now ∧
    now + 10000 * unitsPerNs ≤ (parseTpo r.params).edge 0 :=
  ⟨rq (oneEdge 1), (domainIs (fun x => { x with mode := .free })), 3, 0, ⟨rfl, rfl, rfl, rfl⟩, ⟨rfl, rfl⟩, rfl, rfl,
    rfl, rfl, rfl, by decide, by decide, rfl, rfl, by decide⟩

theorem meets_Time_tpoRead :
    ∃ (r : Request) (s : State) (n : Fin 4),
    Executes false r s ∧ r.flag0 = false ∧ r.params = [byte ↑n, 0, 0, 0] ∧ s.holdsTpo r.port ↑n = true :=
  ⟨rq [3, 0, 0, 0], up, 3, ⟨rfl, rfl, rfl, rfl⟩, rfl, rfl, rfl⟩

theorem meets_Time_capture :
    ∃ (r : Request) (s : State) (i : Fin 3) (max : Byte),
    Executes false r s ∧ r.port = 0 ∧ r.flag0 = false ∧ r.params = [byte ↑i, max, 0, 0] ∧ max ≠ 0 ∧
    BitVec.toNat max ≤ 16 :=
  ⟨rq [0, 16, 0, 0], stamping 16, 0, 16, ⟨rfl, rfl, rfl, rfl⟩, rfl, rfl, rfl, by decide, by decide⟩

theorem meets_Time_log :
    ∃ (r : Request) (s : State) (max : Byte),
    Executes false r s ∧ r.flag0 = false ∧ r.params = [max, 0, 0, 0] ∧ max ≠ 0 ∧ BitVec.toNat max ≤ 169 ∧
    (∀ (x : TsEntry), x ∈ s.time.log → s.holdsCport r.port ↑x.port = true) ∧ s.time.log.length ≤ BitVec.toNat max :=
  ⟨rq [169, 0, 0, 0],
    { up with time := { up.time with log := [{ port := 63, type := 0, seq := 1, number := 0, domain := 1, time :=
      5 }] } }, 169, ⟨rfl, rfl, rfl, rfl⟩, rfl, rfl, by decide, by decide, by decide, by decide⟩

/-! ### TimeInstants -/

theorem meets_TimeI_set :
    ∃ (s : State) (d : Fin 2) (x : TdSet),
    s.ready = true ∧ (s.domain d).setDue = some x ∧ (x.second = true → s.secondHere = true) :=
  ⟨{ domainIs (fun x => { x with setDue := some { relative := false, second := true, amount := 5 } }) with
      hw := { up.hw with toSecond := 0 } }, 0, { relative := false, second := true, amount := 5 }, rfl, rfl, by decide⟩

theorem meets_TimeI_slew :
    ∃ (s : State),
    s.ready = true ∧ s.time.slewing = true :=
  ⟨{ up with time := { up.time with slewing := true, outOffset := 5 } }, rfl, rfl⟩

theorem meets_TimeI_edge :
    ∃ (s : State) (n : Fin 4),
    s.ready = true ∧ s.edgeDue s.time.tpo[n] = true :=
  ⟨edgeNow, 3, rfl, by decide⟩

theorem meets_TimeI_lost :
    ∃ (s : State) (i : Fin 3) (e : Fin 2),
    s.ready = true ∧ s.captureDomain i = some e ∧ s.time.captures[i].entries.length ≥ 16 :=
  ⟨stamping 16, 0, 0, rfl, rfl, by decide⟩

theorem meets_TimeI_captured :
    ∃ (s : State) (i : Fin 3) (e : Fin 2),
    s.ready = true ∧ s.captureDomain i = some e ∧ s.time.captures[i].entries.length < 16 :=
  ⟨stamping 15, 0, 0, rfl, rfl, by decide⟩

theorem meets_TimeI_holdover :
    ∃ (s : State) (d : Fin 2),
    s.ready = true ∧ (s.domain d).mode = TdMode.locked :=
  ⟨domainIs (fun x => { x with mode := .locked }), 0, rfl, rfl⟩

/-! ### GaugeRequests -/

theorem meets_Gauge_write :
    ∃ (r : Request) (s : State),
    Executes false r s ∧ Formed r 136 ∧ r.port = 0 ∧ zeroAt r.params 1 1 = true ∧ zeroAt r.params 4 4 = true ∧
    BitVec.toNat (parseSeq r.params).count ≤ 16 ∧
    (∀ (i : Nat), i < 16 → badEntry r.params (BitVec.toNat (parseSeq r.params).count) i = false) ∧
    (∀ (e : GaugeEntry), e ∈ (parseSeq r.params).used → s.entryOk e = true) ∧ s.holdsModule 12 = false :=
  ⟨rq (zeros 136), up, ⟨rfl, rfl, rfl, rfl⟩, ⟨rfl, rfl⟩, rfl, rfl, rfl, by decide, by decide, by decide, rfl⟩

theorem meets_Gauge_read :
    ∃ (r : Request) (s : State) (copy : Bool),
    Executes false r s ∧ r.flag0 = false ∧ r.params = [byte copy.toNat, 0, 0, 0] :=
  ⟨rq [1, 0, 0, 0], up, true, ⟨rfl, rfl, rfl, rfl⟩, rfl, rfl⟩

theorem meets_Gauge_injectQueued :
    ∃ (r : Request) (s : State) (ch : Byte) (set : Byte) (gain : Byte) (j : Request),
    Executes false r s ∧ r.port = 0 ∧ r.flag0 = false ∧ r.params = [ch, set, gain, 0] ∧ badGain gain = false ∧
    s.hasChannel (BitVec.toNat ch) = true ∧ BitVec.toNat set ≤ 64 ∧ s.gauge.work = GbWork.injection j :=
  ⟨rq [0, 64, 8, 0], working (.injection (rq [])) id, 0, 64, 8, rq [], ⟨rfl, rfl, rfl, rfl⟩, rfl, rfl, rfl, rfl, rfl,
    by decide, rfl⟩

theorem meets_Gauge_inject :
    ∃ (r : Request) (s : State) (ch : Byte) (set : Byte) (gain : Byte),
    Executes false r s ∧ r.port = 0 ∧ r.flag0 = false ∧ r.params = [ch, set, gain, 0] ∧ badGain gain = false ∧
    s.hasChannel (BitVec.toNat ch) = true ∧ BitVec.toNat set ≤ 64 ∧
    (∀ (j : Request), s.gauge.work ≠ GbWork.injection j) ∧ s.gauge.restart = none :=
  ⟨rq [0, 64, 8, 0], up, 0, 64, 8, ⟨rfl, rfl, rfl, rfl⟩, rfl, rfl, rfl, rfl, rfl, by decide, (fun _ h => by cases h),
    rfl⟩

theorem meets_Gauge_calibrate :
    ∃ (r : Request) (s u : State),
    Executes false r s ∧ r.port = 0 ∧ r.flag0 = false ∧ r.params = [0, 0, 0, 0] ∧
    u = { s.takeRequest 0x0F04 r with gauge := { s.gauge with calibrations := s.gauge.calibrations ++ [r] } } ∧
    s.gauge.work ≠ .idle :=
  ⟨rq [0, 0, 0, 0], working (.injection (rq [])) id, _, ⟨rfl, rfl, rfl, rfl⟩, rfl, rfl, rfl, rfl, by decide⟩

theorem meets_Gauge_calibrateIdle :
    ∃ (r : Request) (s u : State),
    Executes false r s ∧ r.port = 0 ∧ r.flag0 = false ∧ r.params = [0, 0, 0, 0] ∧
    u = { s.takeRequest 0x0F04 r with gauge := { s.gauge with calibrations := s.gauge.calibrations ++ [r] } } ∧
    s.gauge.work = .idle :=
  ⟨rq [0, 0, 0, 0], up, _, ⟨rfl, rfl, rfl, rfl⟩, rfl, rfl, rfl, rfl, rfl⟩

theorem meets_Gauge_check :
    ∃ (r : Request) (s : State) (tol : Byte) (n : Byte),
    Executes false r s ∧ r.port = 0 ∧ r.flag0 = false ∧ r.params = [tol, n, 0, 0] ∧ BitVec.toNat tol ≤ 64 ∧ n ≠ 0 :=
  ⟨rq [64, 255, 0, 0], up, 64, 255, ⟨rfl, rfl, rfl, rfl⟩, rfl, rfl, rfl, by decide, by decide⟩

theorem meets_Gauge_status :
    ∃ (r : Request) (s : State),
    Executes false r s ∧ Formed r 0 :=
  ⟨rq [], up, ⟨rfl, rfl, rfl, rfl⟩, ⟨rfl, rfl⟩⟩

theorem meets_Gauge_results :
    ∃ (r : Request) (s : State) (max : Byte),
    Executes false r s ∧ r.flag0 = false ∧ r.params = [max, 0, 0, 0] ∧ max ≠ 0 ∧ s.gauge.buffer.length ≤ 4096 :=
  ⟨rq [255, 0, 0, 0],
    { up with gauge := { up.gauge with buffer := [{ tag := 0, flags := 0, value := 1, time := 1 }] } }, 255,
    ⟨rfl, rfl, rfl, rfl⟩, rfl, rfl, by decide, by decide⟩

theorem meets_Gauge_injectRestart :
    ∃ (r : Request) (s : State) (ch : Byte) (set : Byte) (gain : Byte) (mask : BitVec 16),
    Executes false r s ∧ r.port = 0 ∧ r.flag0 = false ∧ r.params = [ch, set, gain, 0] ∧ badGain gain = false ∧
    s.hasChannel (BitVec.toNat ch) = true ∧ BitVec.toNat set ≤ 64 ∧
    (∀ (j : Request), s.gauge.work ≠ GbWork.injection j) ∧ s.gauge.restart = some mask :=
  ⟨rq [0, 64, 8, 0], working (.entry 0 {}) (fun g => { g with restart := some 0xFFFF }), 0, 64, 8, 0xFFFF,
    ⟨rfl, rfl, rfl, rfl⟩, rfl, rfl, rfl, rfl, rfl, by decide, (fun _ h => by cases h), rfl⟩

/-! ### GaugeInstants -/

theorem meets_GaugeI_injected :
    ∃ (s : State) (r : Request),
    s.ready = true ∧ s.gauge.work = GbWork.injection r :=
  ⟨working (.injection (rq [0, 64, 8, 0])) id, rq [0, 64, 8, 0], rfl, rfl⟩

theorem meets_GaugeI_entry :
    ∃ (s : State) (n : Fin 16) (e : GaugeEntry),
    s.ready = true ∧ s.gauge.work = GbWork.entry n e ∧ s.gauge.restart = none ∧ e.ratio.toNat ≤ 1 ∧
    s.gauge.buffer.length < 4096 :=
  ⟨working (.entry 15 { ratio := 1 }) id, 15, { ratio := 1 }, rfl, rfl, rfl, by decide, by decide⟩

theorem meets_GaugeI_cal :
    ∃ (s : State) (r : Request),
    s.ready = true ∧ s.gauge.work = GbWork.calibration r :=
  ⟨working (.calibration (rq [0, 0, 0, 0])) id, rq [0, 0, 0, 0], rfl, rfl⟩

theorem meets_GaugeI_late :
    ∃ (s : State),
    s.ready = true ∧ s.gauge.seq.active.count ≠ 0 ∧ s.gauge.seq.active.pace ≠ 0 ∧
    s.gauge.passAt ≠ some s.moduleTime ∧ s.moduleTime.toNat % s.gauge.seq.active.pace.toNat = 0 ∧
    s.gauge.pass = true ∧ s.gauge.late = false :=
  ⟨working (.entry 0 {}) (fun g => { g with pass := true }), rfl, by decide, by decide, by decide, by decide, rfl, rfl⟩

theorem meets_GaugeI_pass :
    ∃ (s : State),
    s.ready = true ∧ s.gauge.seq.active.count ≠ 0 ∧ s.gauge.seq.active.pace ≠ 0 ∧
    s.gauge.passAt ≠ some s.moduleTime ∧ s.moduleTime.toNat % s.gauge.seq.active.pace.toNat = 0 ∧
    s.gauge.pass = false ∧ s.gauge.work ≠ GbWork.idle :=
  ⟨working (.injection (rq [])) id, rfl, by decide, by decide, by decide, by decide, rfl, by decide⟩

theorem meets_GaugeI_agrees :
    ∃ (s t : State) (codes : List (BitVec 12)) (check : BitVec 12),
    s.ready = true ∧ s.moduleTime.toNat % 6250 = 0 ∧ s.gauge.cycleAt ≠ some s.moduleTime ∧
    (∃ n e, s.gauge.work = GbWork.entry n e) ∧ exec (.gaCycleStart codes check) s = .next t ∧
    (((t.gauge.gaLast[(0 : Fin 64)]).toNat : Int) - t.gauge.gbCheck.toNat).natAbs ≤ s.gauge.tolerance :=
  ⟨working (.entry 0 {}) id, _, [9], 9, rfl, by decide, by decide, ⟨0, {}, rfl⟩, rfl, by decide +kernel⟩

theorem meets_GaugeI_hold :
    ∃ (s t : State) (codes : List (BitVec 12)) (check : BitVec 12),
    s.ready = true ∧ s.moduleTime.toNat % 6250 = 0 ∧ s.gauge.cycleAt ≠ some s.moduleTime ∧
    (∃ n e, s.gauge.work = GbWork.entry n e) ∧ exec (.gaCycleStart codes check) s = .next t ∧
    s.gauge.tolerance < (((t.gauge.gaLast[(0 : Fin 64)]).toNat : Int) - t.gauge.gbCheck.toNat).natAbs ∧
    s.gauge.hold = false ∧ s.gauge.bad + 1 ≥ s.gauge.disagreeN.toNat :=
  ⟨working (.entry 0 {}) (fun g => { g with bad := 3 }), _, [0], 9, rfl, by decide, by decide, ⟨0, {}, rfl⟩, rfl,
    by decide +kernel, rfl, by decide⟩

theorem meets_GaugeI_reset :
    ∃ (s : State),
    s.ready = true ∧ s.time.config.active.decSync ≠ 0 :=
  ⟨{ up with time := { up.time with config := ⟨{}, { decSync := 1 }⟩ } }, rfl, by decide⟩

/-! ### WeirRequests -/

theorem meets_Weir_range :
    ∃ (r : Request) (s : State),
    Executes false r s ∧ Formed r 16 ∧ r.port = 0 ∧ zeroAt r.params 10 6 = true ∧
    BitVec.toNat (parsePolicy r.params).flags ≤ 3 ∧
    ((parsePolicy r.params).tapFloor = 0 ∨ BitVec.toNat (parsePolicy r.params).tapFloor % 2 = 1) ∧
    policyRangeOk (parsePolicy r.params) = false :=
  ⟨rq (84 :: zeros 15), up, ⟨rfl, rfl, rfl, rfl⟩, ⟨rfl, rfl⟩, rfl, rfl, by decide, by decide, rfl⟩

theorem meets_Weir_inconsistent :
    ∃ (r : Request) (s : State),
    Executes false r s ∧ Formed r 16 ∧ r.port = 0 ∧ zeroAt r.params 10 6 = true ∧
    BitVec.toNat (parsePolicy r.params).flags ≤ 3 ∧
    ((parsePolicy r.params).tapFloor = 0 ∨ BitVec.toNat (parsePolicy r.params).tapFloor % 2 = 1) ∧
    policyRangeOk (parsePolicy r.params) = true ∧ policyConsistent (parsePolicy r.params) = false :=
  ⟨rq ([105, 87] ++ zeros 14), up, ⟨rfl, rfl, rfl, rfl⟩, ⟨rfl, rfl⟩, rfl, rfl, by decide, by decide, rfl, rfl⟩

theorem meets_Weir_write :
    ∃ (r : Request) (s : State),
    Executes false r s ∧ Formed r 16 ∧ r.port = 0 ∧ zeroAt r.params 10 6 = true ∧
    BitVec.toNat (parsePolicy r.params).flags ≤ 3 ∧
    ((parsePolicy r.params).tapFloor = 0 ∨ BitVec.toNat (parsePolicy r.params).tapFloor % 2 = 1) ∧
    policyRangeOk (parsePolicy r.params) = true ∧ policyConsistent (parsePolicy r.params) = true :=
  ⟨rq ([85, 87, 100, 95] ++ zeros 12), up, ⟨rfl, rfl, rfl, rfl⟩, ⟨rfl, rfl⟩, rfl, rfl, by decide, by decide, rfl, rfl⟩

theorem meets_Weir_reads :
    ∃ (r : Request) (s : State),
    Executes false r s ∧ Formed r 0 :=
  ⟨rq [], up, ⟨rfl, rfl, rfl, rfl⟩, ⟨rfl, rfl⟩⟩

/-! ### WeirInstants -/

theorem meets_WeirI_hot :
    ∃ (s : State),
    s.ready = true ∧ s.weir.hold = false :=
  ⟨up, rfl, rfl⟩

theorem meets_WeirI_release :
    ∃ (s : State),
    s.ready = true ∧ s.mayRelease = true :=
  ⟨held, rfl, rfl⟩

theorem meets_WeirI_trip :
    ∃ (s : State),
    s.power.aux = true :=
  ⟨up, rfl⟩

/-! ### SupervisorRequests -/

theorem meets_Sup_status :
    ∃ (r : Request) (s : State),
    Executes false r s ∧ r.flag0 = false ∧ r.params = [] :=
  ⟨rq [], up, ⟨rfl, rfl, rfl, rfl⟩, rfl, rfl⟩

theorem meets_Sup_swapBusy :
    ∃ (r : Request) (s : State),
    Executes false r s ∧ r.flag0 = false ∧ r.port = 0 ∧ r.params = [0, 0, 0, 0] ∧
    (s.sup.busy = true ∨ s.sup.units[s.sup.other] ≠ SupUnit.standby) :=
  ⟨rq [0, 0, 0, 0], pairIs (fun x => { x with restore := some { target := 1, issuer := none } }),
    ⟨rfl, rfl, rfl, rfl⟩, rfl, rfl, rfl, by decide⟩

theorem meets_Sup_swap :
    ∃ (r : Request) (s : State),
    Executes false r s ∧ r.flag0 = false ∧ r.port = 0 ∧ r.params = [0, 0, 0, 0] ∧ s.sup.busy = false ∧
    s.sup.units[s.sup.other] = SupUnit.standby :=
  ⟨rq [0, 0, 0, 0], up, ⟨rfl, rfl, rfl, rfl⟩, rfl, rfl, rfl, rfl, rfl⟩

theorem meets_Sup_restoreBusy :
    ∃ (r : Request) (s : State) (u : Fin 2),
    Executes false r s ∧ r.flag0 = false ∧ r.port = 0 ∧ r.params = [byte ↑u, 0, 0, 0] ∧ s.sup.busy = true :=
  ⟨rq [1, 0, 0, 0], pairIs (fun x => { x with restore := some { target := 1, issuer := none } }), 1,
    ⟨rfl, rfl, rfl, rfl⟩, rfl, rfl, rfl, rfl⟩

theorem meets_Sup_restoreNot :
    ∃ (r : Request) (s : State) (u : Fin 2),
    Executes false r s ∧ r.flag0 = false ∧ r.port = 0 ∧ r.params = [byte ↑u, 0, 0, 0] ∧ s.sup.busy = false ∧
    s.sup.units[u] ≠ SupUnit.failed :=
  ⟨rq [1, 0, 0, 0], up, 1, ⟨rfl, rfl, rfl, rfl⟩, rfl, rfl, rfl, rfl, by decide⟩

theorem meets_Sup_restore :
    ∃ (r : Request) (s : State) (u : Fin 2),
    Executes false r s ∧ r.flag0 = false ∧ r.port = 0 ∧ r.params = [byte ↑u, 0, 0, 0] ∧ s.sup.busy = false ∧
    s.sup.units[u] = SupUnit.failed :=
  ⟨rq [1, 0, 0, 0], pairIs (fun x => { x with units := #v[.active, .failed] }), 1, ⟨rfl, rfl, rfl, rfl⟩, rfl, rfl,
    rfl, rfl, rfl⟩

theorem meets_Sup_config :
    ∃ (r : Request) (s : State) (flags : BitVec 2),
    Executes false r s ∧ r.flag0 = false ∧ r.port = 0 ∧ r.params = [BitVec.setWidth 8 flags, 0, 0, 0] :=
  ⟨rq [3, 0, 0, 0], up, 3, ⟨rfl, rfl, rfl, rfl⟩, rfl, rfl, rfl⟩

theorem meets_Sup_configRead :
    ∃ (r : Request) (s : State),
    Executes false r s ∧ r.flag0 = false ∧ r.params = [] :=
  ⟨rq [], up, ⟨rfl, rfl, rfl, rfl⟩, rfl, rfl⟩

/-! ### SupervisorInstants -/

/-- No voter has seen a heartbeat. -/
def noBeats : Vector (Option Heartbeat) 3 := Vector.replicate 3 none

theorem meets_SupI_fail :
    ∃ (s : State) (beats : Vector (Option Heartbeat) 3) (c : Instr × Byte),
    s.ready = true ∧ s.sup.headless = false ∧ s.sup.takeover = none ∧ s.sup.swap = none ∧
    s.sup.units[s.sup.other] = SupUnit.standby ∧
    c ∈ [(Instr.supParityFault, 2), (Instr.supIllegalState, 3), (Instr.refereeWindow beats, 1)] ∧
    (c.snd = 1 → 2 ≤ s.sup.missed ∧ majority (Vector.ofFn fun v => validBeat s.sup.lastBeat[v] beats[v]) = false) :=
  ⟨pairIs (fun x => { x with missed := 2 }), noBeats, (.refereeWindow noBeats, 1), rfl, rfl, rfl, rfl, rfl, by decide,
    by decide⟩

theorem meets_SupI_headless :
    ∃ (s : State),
    s.ready = true ∧ s.sup.headless = false ∧ s.sup.takeover = none ∧ s.sup.swap = none ∧
    s.sup.units[s.sup.other] ≠ SupUnit.standby :=
  ⟨pairIs (fun x => { x with units := #v[.active, .failed] }), rfl, rfl, rfl, rfl, by decide⟩

theorem meets_SupI_missed :
    ∃ (s : State) (votes : Vector Bool 3) (beats : Vector (Option Heartbeat) 3),
    s.ready = true ∧ s.sup.headless = false ∧ s.inTakeover = false ∧
    votes = (Vector.ofFn fun v => validBeat s.sup.lastBeat[v] beats[v]) ∧
    (majority votes = true ∨ s.sup.missed < 2) :=
  ⟨pairIs (fun x => { x with missed := 1 }), _, noBeats, rfl, rfl, rfl, rfl, .inr (by decide)⟩

theorem meets_SupI_beat :
    ∃ (s : State) (votes : Vector Bool 3) (beats : Vector (Option Heartbeat) 3) (v : Fin 3) (b : Heartbeat),
    s.ready = true ∧ s.sup.headless = false ∧ s.inTakeover = false ∧
    votes = (Vector.ofFn fun v => validBeat s.sup.lastBeat[v] beats[v]) ∧ majority votes = true ∧ beats[v] = some b :=
  ⟨pairIs (fun x => { x with missed := 2 }), #v[true, false, true],
    #v[some { parity := true, journal := 0 }, none, some { parity := true, journal := 0 }], 2,
    { parity := true, journal := 0 }, rfl, rfl, rfl, by decide, by decide, rfl⟩

theorem meets_SupI_takeover :
    ∃ (s : State) (x : Takeover),
    s.ready = true ∧ s.sup.headless = false ∧ s.sup.takeover = some x :=
  ⟨pairIs (fun x => { x with units := #v[.failed, .standby], takeover := some { failed := 0, cause := 1 } }),
    { failed := 0, cause := 1 }, rfl, rfl, rfl⟩

theorem meets_SupI_swap :
    ∃ (s : State) (w : Swap),
    s.ready = true ∧ s.sup.headless = false ∧ s.sup.takeover = none ∧ s.sup.swap = some w ∧ w.taken = true ∧
    w.returning = false :=
  ⟨pairIs (fun x => { x with units := #v[.standby, .active], active := 1, swap := some drilled }), drilled, rfl, rfl,
    rfl, rfl, rfl, rfl⟩

theorem meets_SupI_restore :
    ∃ (s : State) (x : Restore),
    s.ready = true ∧ s.sup.headless = false ∧ s.sup.restore = some x ∧ (∀ (k : Fin 2), s.sup.autoDue[k] = false) :=
  ⟨pairIs (fun x => { x with units := #v[.active, .restoring], restore := some restoring }), restoring, rfl, rfl, rfl,
    by decide⟩

theorem meets_SupI_auto :
    ∃ (s : State) (u : Fin 2),
    s.ready = true ∧ s.sup.headless = false ∧ s.sup.flags.getLsbD 0 = true ∧ s.sup.units[u] = SupUnit.failed ∧
    s.autoAllowed u = true ∧ s.sup.busy = false :=
  ⟨pairIs (fun x => { x with units := #v[.active, .failed], flags := 1 }), 1, rfl, rfl, rfl, rfl, rfl, rfl⟩

theorem meets_SupI_autoBusy :
    ∃ (s : State) (u : Fin 2),
    s.ready = true ∧ s.sup.headless = false ∧ s.sup.flags.getLsbD 0 = true ∧ s.sup.units[u] = SupUnit.failed ∧
    s.autoAllowed u = true ∧ s.sup.busy = true :=
  ⟨pairIs (fun x => { x with units := #v[.active, .failed], flags := 1, swap := some drilled }), 1, rfl, rfl, rfl,
    rfl, rfl, rfl⟩

theorem meets_SupI_journal :
    ∃ (s : State),
    s.ready = true ∧ s.sup.headless = false ∧ s.inTakeover = false ∧ s.sup.units[s.sup.other] = SupUnit.standby ∧
    2 ≤ s.sup.journalFails :=
  ⟨pairIs (fun x => { x with journalFails := 2 }), rfl, rfl, rfl, rfl, by decide⟩

theorem meets_SupI_voter :
    ∃ (s : State) (v : Fin 3) (votes : Vector Bool 3),
    s.ready = true ∧ s.sup.headless = false ∧ (∀ (w : Fin 3), w ≠ v → votes[w] ≠ votes[v]) ∧
    s.sup.referee.getLsbD ↑v = false :=
  ⟨up, 2, #v[true, true, false], rfl, rfl, by decide, rfl⟩

theorem meets_SupI_agree :
    ∃ (s : State) (v : Fin 3) (votes : Vector Bool 3),
    s.ready = true ∧ s.sup.headless = false ∧ (∀ (w : Fin 3), votes[w] = votes[v]) :=
  ⟨up, 0, Vector.replicate 3 true, rfl, rfl, by decide⟩

/-! ### CounterRequests -/

theorem meets_Ctr_config :
    ∃ (r : Request) (s : State) (mask : BitVec 32),
    Executes false r s ∧ r.flag0 = false ∧ r.port = 0 ∧ r.params = be 4 mask ++ [0, 0, 0, 0] ∧
    mask &&& 4293918721 = 0 :=
  ⟨rq (be 4 (0xFFFFE : BitVec 32) ++ [0, 0, 0, 0]), up, 0xFFFFE, ⟨rfl, rfl, rfl, rfl⟩, rfl, rfl, rfl, rfl⟩

theorem meets_Ctr_configRead :
    ∃ (r : Request) (s : State),
    Executes false r s ∧ r.flag0 = false ∧ r.params = [] :=
  ⟨rq [], up, ⟨rfl, rfl, rfl, rfl⟩, rfl, rfl⟩

theorem meets_Ctr_snapshot :
    ∃ (r : Request) (s : State) (mask : BitVec 32),
    Executes false r s ∧ r.flag0 = false ∧ r.params = be 4 mask ∧ mask &&& 4293918721 = 0 :=
  ⟨rq (be 4 (0xFFFFE : BitVec 32)), up, 0xFFFFE, ⟨rfl, rfl, rfl, rfl⟩, rfl, rfl, rfl⟩

theorem meets_Ctr_read :
    ∃ (r : Request) (s : State) (k : CounterKind) (first : BitVec 32) (count : BitVec 16),
    Executes false r s ∧ r.flag0 = false ∧
    r.params = be 2 (s.kindNumber k) ++ [0, 0] ++ be 4 first ++ be 2 count ++ [0, 0] ∧
    s.kindOf (s.kindNumber k) = some k ∧ count ≠ 0 ∧ count.toNat ≤ 451 ∧
    first.toNat + count.toNat ≤ s.instances (kindInfo k).snd.snd.fst ∧
    s.holdsRun r.port (kindInfo k).snd.snd.fst first.toNat count.toNat = true :=
  ⟨rq (be 2 (up.kindNumber .clientBytesIn) ++ [0, 0] ++ be 4 (63 : BitVec 32) ++ be 2 (1 : BitVec 16) ++ [0, 0]), up,
    .clientBytesIn, 63, 1, ⟨rfl, rfl, rfl, rfl⟩, rfl, rfl, rfl, by decide, by decide, by decide, rfl⟩

theorem meets_Ctr_clear :
    ∃ (r : Request) (s : State),
    Executes false r s ∧ r.flag0 = false ∧ r.params = [255, 255, 0, 0, 0, 0, 0, 0, 0, 0, 0, 0] ∧
    canon { } s.collector.views[r.port] = true :=
  ⟨rq [0xFF, 0xFF, 0, 0, 0, 0, 0, 0, 0, 0, 0, 0], up, ⟨rfl, rfl, rfl, rfl⟩, rfl, rfl, rfl⟩

theorem meets_Ctr_flight :
    ∃ (r : Request) (s : State) (first : Byte) (count : Byte),
    Executes false r s ∧ r.flag0 = false ∧ r.params = [first, count, 0, 0] ∧ count ≠ 0 ∧
    BitVec.toNat first + BitVec.toNat count ≤ 256 :=
  ⟨rq [255, 1, 0, 0], up, 255, 1, ⟨rfl, rfl, rfl, rfl⟩, rfl, rfl, by decide, by decide⟩

theorem meets_Ctr_tag :
    ∃ (r : Request) (s : State) (a : Byte) (b : Byte) (binw : Byte) (stop : Bool),
    Executes false r s ∧ r.flag0 = false ∧ r.port = 0 ∧ r.params = [a, b, binw, byte stop.toNat, 0, 0, 0, 0] ∧
    BitVec.toNat a ≤ 20 ∧ BitVec.toNat b ≤ 20 :=
  ⟨rq [20, 20, 255, 1, 0, 0, 0, 0], up, 20, 20, 255, true, ⟨rfl, rfl, rfl, rfl⟩, rfl, rfl, rfl, by decide, by decide⟩

theorem meets_Ctr_tagLog :
    ∃ (r : Request) (s : State) (max : Byte),
    Executes false r s ∧ r.flag0 = false ∧ r.params = [max, 0, 0, 0] ∧ max ≠ 0 ∧ BitVec.toNat max ≤ 84 ∧
    (∀ (x : TagEntry), x ∈ s.collector.log → s.holdsCport r.port ↑x.port = true) ∧
    BitVec.toNat max ≤ s.collector.log.length :=
  ⟨rq [1, 0, 0, 0], { up with collector := { up.collector with log := [{ port := 63, bytes := zeros 48 }] } }, 1,
    ⟨rfl, rfl, rfl, rfl⟩, rfl, rfl, by decide, by decide, by decide, by decide⟩

/-! ### IntervalsAndSnapshots -/

theorem meets_Intervals :
    ∃ (s : State),
    s.ready = true :=
  ⟨up, rfl⟩

/-! ### ResetAndStoreRequests -/

theorem meets_Reset_module :
    ∃ (r : Request) (s : State),
    r.flag0 = false ∧ Executes true r s ∧ r.port = 0 ∧ r.params = [82, 83, 0, 0] :=
  ⟨rq [0x52, 0x53, 0, 0], up, rfl, ⟨rfl, rfl, rfl, rfl⟩, rfl, rfl⟩

theorem meets_Reset_info :
    ∃ (r : Request) (s : State),
    r.flag0 = false ∧ Executes true r s ∧ r.params = [] :=
  ⟨rq [], up, rfl, ⟨rfl, rfl, rfl, rfl⟩, rfl⟩

theorem meets_Nv_readRange :
    ∃ (r : Request) (s : State) (integrator : Bool) (o : BitVec 32) (n : BitVec 16),
    r.flag0 = false ∧ Executes false r s ∧ r.params = [byte integrator.toNat, 0, 0, 0] ++ be 4 o ++ be 2 n ++ [0, 0] ∧
    n ≠ 0 ∧ n.toNat ≤ 4080 ∧ o.toNat + n.toNat > (if integrator = true then 65536 else 262144) :=
  ⟨rq ([1, 0, 0, 0] ++ be 4 (65535 : BitVec 32) ++ be 2 (2 : BitVec 16) ++ [0, 0]), up, true, 65535, 2, rfl,
    ⟨rfl, rfl, rfl, rfl⟩, rfl, by decide, by decide, by decide⟩

theorem meets_Nv_read :
    ∃ (r : Request) (s : State) (integrator : Bool) (o : BitVec 32) (n : BitVec 16),
    r.flag0 = false ∧ Executes false r s ∧ r.params = [byte integrator.toNat, 0, 0, 0] ++ be 4 o ++ be 2 n ++ [0, 0] ∧
    n ≠ 0 ∧ n.toNat ≤ 4080 ∧ o.toNat + n.toNat ≤ (if integrator = true then 65536 else 262144) ∧ s.nv.job = none :=
  ⟨rq ([1, 0, 0, 0] ++ be 4 (61456 : BitVec 32) ++ be 2 (4080 : BitVec 16) ++ [0, 0]), up, true, 61456, 4080, rfl,
    ⟨rfl, rfl, rfl, rfl⟩, rfl, by decide, by decide, by decide, rfl⟩

theorem meets_Nv_busy :
    ∃ (r : Request) (s : State) (o : BitVec 32) (n : BitVec 16) (data : Bytes),
    r.flag0 = false ∧ Executes false r s ∧ r.port = 0 ∧
    r.params = [1, 0, 0, 0] ++ be 4 o ++ be 2 n ++ [0, 0] ++ data ∧ List.length data = n.toNat ∧ 64 ≤ n.toNat ∧
    n.toNat ≤ 4032 ∧ n.toNat % 64 = 0 ∧ o.toNat % 64 = 0 ∧ o.toNat + n.toNat ≤ 65536 ∧ s.nv.job ≠ none :=
  ⟨rq ([1, 0, 0, 0] ++ be 4 (64 : BitVec 32) ++ be 2 (64 : BitVec 16) ++ [0, 0] ++ zeros 64),
    { up with nv := { up.nv with job := some nvJob } }, 64, 64, zeros 64, rfl, ⟨rfl, rfl, rfl, rfl⟩, rfl, rfl, rfl,
    by decide, by decide, rfl, rfl, by decide, by decide⟩

theorem meets_Nv_write :
    ∃ (r : Request) (s : State) (o : BitVec 32) (n : BitVec 16) (data : Bytes),
    r.flag0 = false ∧ Executes false r s ∧ r.port = 0 ∧
    r.params = [1, 0, 0, 0] ++ be 4 o ++ be 2 n ++ [0, 0] ++ data ∧ List.length data = n.toNat ∧ 64 ≤ n.toNat ∧
    n.toNat ≤ 4032 ∧ n.toNat % 64 = 0 ∧ o.toNat % 64 = 0 ∧ o.toNat + n.toNat ≤ 65536 ∧ s.nv.job = none :=
  ⟨rq ([1, 0, 0, 0] ++ be 4 (61504 : BitVec 32) ++ be 2 (4032 : BitVec 16) ++ [0, 0] ++ zeros 4032), up, 61504, 4032,
    zeros 4032, rfl, ⟨rfl, rfl, rfl, rfl⟩, rfl, rfl, by decide +kernel, by decide, by decide, rfl, rfl, by decide,
    rfl⟩

/-! ### PowerAndResets -/

theorem meets_Power_on :
    ∃ (s : State),
    s.railsOn = false ∧ s.power.tripLatch = false :=
  ⟨powerIs (fun x => { x with phase := .unpowered, p12v := true }), rfl, rfl⟩

theorem meets_Power_loss :
    ∃ (s : State),
    s.power.p12v = true :=
  ⟨up, rfl⟩

theorem meets_Power_aux :
    ∃ (s : State),
    s.power.aux = true :=
  ⟨up, rfl⟩

theorem meets_Power_auxBack :
    ∃ (s : State),
    s.power.aux = false :=
  ⟨powerIs (fun x => { x with phase := .unpowered, aux := false }), rfl⟩

theorem meets_Power_command :
    ∃ (s : State),
    s.ready = true ∧ s.power.resetDue = true :=
  ⟨powerIs (fun x => { x with resetDue := true }), rfl, rfl⟩

theorem meets_Power_latch :
    ∃ (s : State),
    s.power.tripLatch = true ∧ s.power.resetLow = true ∧ s.power.p12v = true ∧ s.power.aux = true ∧
    s.railsOn = false :=
  ⟨powerIs (fun x => { x with phase := .unpowered, tripLatch := true, resetLow := true, tripOff := true }), rfl, rfl,
    rfl, rfl, rfl⟩

theorem meets_Power_ready :
    ∃ (s : State),
    s.power.phase = PowerPhase.starting ∧ s.power.resetLow = false :=
  ⟨State.reset, rfl, rfl⟩

theorem meets_Power_nv :
    ∃ (s : State) (j : NvJob),
    s.ready = true ∧ s.nv.job = some j :=
  ⟨{ up with nv := { up.nv with job := some nvJob } }, nvJob, rfl, rfl⟩

/-! ### BoundaryScan -/

theorem meets_Jtag_off :
    ∃ (s : State) (preload : Option (List Bool)) (pins : List Bool) (c : Instr) (j : TapInstr),
    (c, j) ∈ [(Instr.tapReset, TapInstr.testLogicReset), (Instr.jtagBypass, TapInstr.bypass), (Instr.jtagIdcode,
      TapInstr.idcode), (Instr.jtagSamplePreload preload pins, TapInstr.samplePreload), (Instr.jtagExtest,
      TapInstr.extest), (Instr.jtagClamp, TapInstr.clamp), (Instr.jtagHighz, TapInstr.highz)] ∧
    s.railsOn = false :=
  ⟨powerIs (fun x => { x with phase := .unpowered }), none, [], .jtagBypass, .bypass, by decide, rfl⟩

theorem meets_Jtag :
    ∃ (s : State) (preload : Option (List Bool)) (pins : List Bool) (c : Instr) (j : TapInstr),
    (c, j) ∈ [(Instr.tapReset, TapInstr.testLogicReset), (Instr.jtagBypass, TapInstr.bypass), (Instr.jtagIdcode,
      TapInstr.idcode), (Instr.jtagSamplePreload preload pins, TapInstr.samplePreload), (Instr.jtagExtest,
      TapInstr.extest), (Instr.jtagClamp, TapInstr.clamp), (Instr.jtagHighz, TapInstr.highz)] ∧
    s.railsOn = true :=
  ⟨powerIs (fun x => { x with resetLow := true }), none, [true], .jtagExtest, .extest, by decide, rfl⟩

/-! ### Invariants and the step -/

theorem meets_SettingsChange : ∃ (c : Instr) (s t : State), exec c s = .next t := ⟨.jtagBypass, up, _, rfl⟩

theorem meets_Tenancies : ∃ s t : State, s.tenancyOk ∧ step s = .next t :=
  ⟨State.reset, _, by unfold State.tenancyOk; decide, rfl⟩

theorem meets_Pair : ∃ s t : State, s.pairOk ∧ step s = .next t :=
  ⟨State.reset, _, fun _ => ⟨fun x h => (by cases h), rfl⟩, rfl⟩

theorem meets_Policy : ∃ s t : State, s.policyOk ∧ step s = .next t := ⟨State.reset, _, ⟨rfl, rfl⟩, rfl⟩

theorem meets_Stores : ∃ s t : State, s.storesOk ∧ step s = .next t := ⟨State.reset, _, ⟨rfl, rfl⟩, rfl⟩

theorem meets_Queues : ∃ s t : State, s.eventsOk ∧ step s = .next t :=
  ⟨State.reset, _, by unfold State.eventsOk; decide, rfl⟩

/-! ## Numbers that the spec works out -/

/-- The example of R156: BER_PRE 1,030,792,151 / 2^36 reads Q 673. -/
theorem test_quality : qualityOf 1030792151 (2 ^ 36) = some 673 := by decide +kernel

/-- The example of R209: Meander at I = 1 in place of 2 reads MARGIN_USED 36. -/
theorem test_margin : ({ profile := 4 } : EngineParams).margin 1 2 = 36 := by decide +kernel

/-- The example of 17: a design limit of 1.60 × 10⁻² in place of 2.00 × 10⁻² reads MARGIN_USED 38. -/
theorem test_marginWeir : ({ profile := 1 } : EngineParams).margin 1 2 = 38 := by decide +kernel

/-- The example of R147: a Cascade value of −4.6 at noise variance 0.5 gives the label LLRs +3 and −14, and a strongly
positive sign LLR. -/
theorem test_llr : ((profileOf 2).map fun p => demapQuadrant p (1 / 2) (-46 / 10)) = some ([3, -14], 31) := by
  decide +kernel

/-- The region from new holds exactly the records that R182 requires. -/
theorem test_factory : findRecords factoryCells 4 = requiredRecords 4 := by decide +kernel

/-- The example of R537: a Twin pair in Cascade, WE2 in Torrent and WE3 in Still. -/
theorem test_power : (([2, 2, 1, 6] : List (BitVec 32)).zipIdx.foldl (fun (s : State) p =>
    s.updEng (Fin.ofNat 4 p.2) fun x => { x with params := ⟨x.params.staged, { profile := p.1 }⟩ }) up).modulePower =
      (216750, 255250) := by
  decide +kernel

/-! ## Contacts (R518 to R522) -/

/-- The example of R520: CI37_P stands at row 5, column 16. -/
theorem test_contact : contactAt 5 16 = .ci 37 true := by decide

/-- The totals of R518. -/
theorem test_contacts : [allContacts.countP fun c => (match c with | .ci _ _ => true | _ => false),
    allContacts.countP fun c => (match c with | .co _ _ => true | _ => false),
    allContacts.count .p12v, allContacts.count .aux, allContacts.count .vio, allContacts.count .gnd] =
      [128, 128, 72, 4, 2, 509] := by decide +kernel

/-! ## Well-formed commands: an ill-formed term for each check -/

/-- A report of straps that were not read. -/
def noStraps : ReadyReport := { strap0 := [], strap1 := [0], fuses := [], factory := [], readyTime := 0 }

theorem test_illFormed_addresses : ∀ c ∈ [Instr.cccEntdaa 0 [] 0, .cccSetdasa 0 0 0, .cccSetnewda 0 0 0],
    c.wellFormed = false := by decide

theorem test_illFormed_commits : ∀ c ∈ [Instr.commitBoundary 0, .ackDeadline 17, .responderTarget 0, .pairedTxSwitch 17,
    .pairedRxSwitch 0], c.wellFormed = false := by decide

theorem test_illFormed_request : (Instr.requestPacket 0 0 .sdr (zeros 4097)).wellFormed = false := by
  have h : ∀ b : Bytes, 4096 < b.length → (Instr.requestPacket 0 0 .sdr b).wellFormed = false := by
    intro b hb
    simp only [Instr.wellFormed, decide_eq_false_iff_not]
    omega
  exact h _ (by rw [zeros, List.length_replicate]; omega)

theorem test_illFormed_parameters : (Instr.portEcho (rq (zeros 4081))).wellFormed = false := by
  rw [Instr.wellFormed, Request.wf, rq, zeros, List.length_replicate]
  rfl

theorem test_illFormed_receive : ∀ c ∈ [Instr.timingLock ⟨0, []⟩, .timingLockLost ⟨0, []⟩, .calMeasureDone 0 0 [],
    .dacCalStepDone 0 [], .prbsCheckerRelock ⟨0, 31⟩], c.wellFormed = false := by decide

theorem test_illFormed_laneFrame : (Instr.laneFrameRx 0 (List.replicate 17409 0) none).wellFormed = false := by
  rw [Instr.wellFormed, List.length_replicate]
  rfl

theorem test_illFormed_lineFrame : (Instr.lineEgressFrame 0 (zeros 16384)).wellFormed = false := by
  rw [Instr.wellFormed, zeros, List.length_replicate]
  rfl

theorem test_illFormed_ptp : (Instr.ptpEventMessage 0 { sync with frame := zeros 16384 }).wellFormed = false := by
  rw [Instr.wellFormed, zeros, List.length_replicate]
  rfl

theorem test_illFormed_measures : ∀ c ∈ [Instr.captureEdge 0 656, .gaugeCalDone [] 0, .gaCycleStart [] 0,
    .weirReading [], .shortIntervalEnd { engines := [], lanes := [], ports := [] }, .longIntervalEnd [],
    .moduleReady noStraps], c.wellFormed = false := by decide

/-- No word of the table spells a command. -/
theorem test_noWord (nbits w : Nat) : decodeTableWord nbits w = none := rfl

end Sys2Proof.Tests
end

section
/-! SUPPORT. Client traffic: what the flow engine, the frames of client ports, context memory, time stamps and events
can reach.  Every operation on a frame's way from a slot to a client lane leaves the rest of the state alone. -/

namespace Sys2Proof.Machine

/-- A state without what client traffic moves: ports, lanes, client ports, flows, context memory, time and the
collector.  Two states that agree on it hold the same engines, commits, keys, Weir state and module time. -/
def State.offTraffic (s : State) : State :=
  { s with
    fresh := 0, ports := Vector.replicate 4 {}, lanes := Vector.replicate 64 {}, cports := Vector.replicate 64 {},
    flows := {}, mem := {}, time := {}, collector := {} }

/-- A walk whose every step keeps a view of the state keeps it. -/
theorem foldl_keeps {σ α β : Type} (g : σ → β) {f : σ → α → σ} (h : ∀ s x, g (f s x) = g s) (l : List α) (s : σ) :
    g (l.foldl f s) = g s := by
  induction l generalizing s with
  | nil => rfl
  | cons x xs ih => rw [List.foldl_cons, ih, h]

@[simp] theorem foldl_offTraffic {α : Type} (l : List α) (f : State → α → State)
    (h : ∀ s x, (f s x).offTraffic = s.offTraffic) (s : State) : (l.foldl f s).offTraffic = s.offTraffic :=
  foldl_keeps State.offTraffic h l s

@[simp] theorem ite_offTraffic (c : Prop) [Decidable c] (s t : State) :
    (if c then s else t).offTraffic = if c then s.offTraffic else t.offTraffic := apply_ite _ _ _ _

@[simp] theorem offTraffic_moved (s : State) (n : Nat) (p : Vector Port 4) (l : Vector Lane 64) (c : Vector Cport 64)
    (f : FlowState) (m : MemState) (t : TimeState) (k : Collector) :
    ({ s with fresh := n, ports := p, lanes := l, cports := c, flows := f, mem := m, time := t, collector := k } :
      State).offTraffic = s.offTraffic := rfl

@[simp] theorem State.updPort_offTraffic (s : State) (p : Hp) (f : Port → Port) :
    (s.updPort p f).offTraffic = s.offTraffic := rfl
@[simp] theorem State.updLane_offTraffic (s : State) (l : LaneNo) (f : Lane → Lane) :
    (s.updLane l f).offTraffic = s.offTraffic := rfl
@[simp] theorem State.updCport_offTraffic (s : State) (c : Cp) (f : Cport → Cport) :
    (s.updCport c f).offTraffic = s.offTraffic := rfl

/-! ## Free values, counts and events -/

@[simp] theorem State.skip_offTraffic (s : State) : s.skip.offTraffic = s.offTraffic := by simp [State.skip]

@[simp] theorem State.count_offTraffic (s : State) (k : CounterKind) (inst n : Nat) :
    (s.count k inst n).offTraffic = s.offTraffic := by
  simp [State.count]

@[simp] theorem State.deliver_offTraffic (s : State) (pl : Place) (ev : Event) (p : Hp) :
    (s.deliver pl ev p).offTraffic = s.offTraffic := by
  simp [State.deliver]

@[simp] theorem State.noteFlight_offTraffic (s : State) (code : BitVec 16) :
    (s.noteFlight code).offTraffic = s.offTraffic := by
  simp [State.noteFlight]

@[simp] theorem State.raise_offTraffic (s : State) (code : BitVec 16) (pl : Place) (data : Bytes) :
    (s.raise code pl data).offTraffic = s.offTraffic := by
  simp [State.raise]

@[simp] theorem State.expressWork_offTraffic (s : State) (d : Dir) (js : List Job) (blocks : Nat) :
    (s.expressWork d js blocks).offTraffic = s.offTraffic := by
  cases d <;> simp [State.expressWork]

/-! ## Context memory -/

@[simp] theorem State.updChannel_offTraffic (s : State) (c : Fin 8) (f : Channel → Channel) :
    (s.updChannel c f).offTraffic = s.offTraffic := by
  simp [State.updChannel]

@[simp] theorem State.putWord_offTraffic (s : State) (wa : Nat) (w : MemWord) :
    (s.putWord wa w).offTraffic = s.offTraffic := by
  simp [State.putWord]

@[simp] theorem State.memWrite_offTraffic (s : State) (wa : Nat) (d : BitVec 128) :
    (s.memWrite wa d).offTraffic = s.offTraffic := by
  simp [State.memWrite]

@[simp] theorem State.updLine_offTraffic (s : State) (n : Nat) (f : CacheLine → CacheLine) :
    (s.updLine n f).offTraffic = s.offTraffic := by
  simp [State.updLine]

@[simp] theorem State.mergeWrite_offTraffic (s : State) (wa : Nat) (d : BitVec 128) (mask : BitVec 16) :
    (s.mergeWrite wa d mask).offTraffic = s.offTraffic := by
  unfold State.mergeWrite
  dsimp only
  split <;> simp

@[simp] theorem State.markInvalid_offTraffic (s : State) (n : Nat) : (s.markInvalid n).offTraffic = s.offTraffic := by
  unfold State.markInvalid
  dsimp only
  split <;> simp

@[simp] theorem State.lostWord_offTraffic (s : State) (wa : Nat) (stored : BitVec 128) :
    (s.lostWord wa stored).1.offTraffic = s.offTraffic := by
  unfold State.lostWord
  dsimp only
  (repeat' split) <;> simp

@[simp] theorem State.logError_offTraffic (s : State) (x : MemLogEntry) : (s.logError x).offTraffic = s.offTraffic := by
  simp [State.logError]

@[simp] theorem State.wordCorrected_offTraffic (s : State) (wa : Nat) (d : BitVec 128) :
    (s.wordCorrected wa d).offTraffic = s.offTraffic := by
  simp [State.wordCorrected]

@[simp] theorem State.memRead_offTraffic (s : State) (wa : Nat) (reader : Byte) :
    (s.memRead wa reader).1.offTraffic = s.offTraffic := by
  unfold State.memRead
  dsimp only
  (repeat' split) <;> simp

/-! ## Flow contexts and their cache -/

@[simp] theorem State.updDir_offTraffic (s : State) (d : Dir) (f : FlowDir → FlowDir) :
    (s.updDir d f).offTraffic = s.offTraffic := by
  cases d <;> rfl

@[simp] theorem State.readWord_offTraffic (s : State) (wa : Nat) (reader : Byte) :
    (s.readWord wa reader).1.offTraffic = s.offTraffic := by
  unfold State.readWord
  dsimp only
  split <;> simp

@[simp] theorem State.findKey_offTraffic (s : State) (k : Bytes) (reader : Byte) (l : List Nat) :
    (s.findKey k reader l).1.offTraffic = s.offTraffic := by
  induction l generalizing s with
  | nil => rfl
  | cons wa rest ih =>
    unfold State.findKey
    dsimp only
    (repeat' split) <;> simp [ih]

@[simp] theorem State.fetchHot_offTraffic (s : State) (n : Nat) : (s.fetchHot n).1.offTraffic = s.offTraffic := by
  unfold State.fetchHot
  dsimp only
  split <;> simp

@[simp] theorem State.foldDrop_offTraffic (s : State) (n w o delta ovfBit : Nat) :
    (s.foldDrop n w o delta ovfBit).1.offTraffic = s.offTraffic := by
  unfold State.foldDrop
  dsimp only
  split <;> simp

@[simp] theorem State.writeBack_offTraffic (s : State) (l : CacheLine) : (s.writeBack l).offTraffic = s.offTraffic := by
  simp [State.writeBack]

@[simp] theorem State.evict_offTraffic (s : State) (d : Dir) : (s.evict d).offTraffic = s.offTraffic := by
  unfold State.evict
  (repeat' split) <;> simp

@[simp] theorem State.install_offTraffic (s : State) (d : Dir) (n : Nat) :
    (s.install d n).offTraffic = s.offTraffic := by
  unfold State.install
  dsimp only
  split <;> simp

/-! ## Slot accounts and tags -/

@[simp] theorem State.countTiles_offTraffic (s : State) (e : Eng) (d : Dir) (cls n : Nat) :
    (s.countTiles e d cls n).offTraffic = s.offTraffic := by
  simp [State.countTiles]

@[simp] theorem State.settleTiles_offTraffic (s : State) (c : Cp) (keep : Option Nat) :
    (s.settleTiles c keep).offTraffic = s.offTraffic := by
  simp [State.settleTiles]

@[simp] theorem State.fateTiles_offTraffic (s : State) (c : Cp) (ids : List Nat) (cls : Nat) (keep : Option Nat) :
    (s.fateTiles c ids cls keep).offTraffic = s.offTraffic := by
  simp [State.fateTiles]

@[simp] theorem State.selectTag_offTraffic (s : State) (c : Cp) (d : Dir) (len : Nat) (t1 : BitVec 48) :
    (s.selectTag c d len t1).1.offTraffic = s.offTraffic := by
  unfold State.selectTag
  dsimp only
  (repeat' split) <;> simp

@[simp] theorem State.logTag_offTraffic (s : State) (x : TagEntry) : (s.logTag x).offTraffic = s.offTraffic := by
  simp [State.logTag]

@[simp] theorem State.finishTag_offTraffic (s : State) (mark : Option TagMark) (c : Cp) (d : Dir) (native : Bool)
    (drop : Nat) :
    (s.finishTag mark c d native drop).offTraffic = s.offTraffic := by
  unfold State.finishTag
  dsimp only
  split <;> simp

/-! ## Time domains, timed outputs and PTP -/

@[simp] theorem State.updDomain_offTraffic (s : State) (d : Fin 2) (f : Domain → Domain) :
    (s.updDomain d f).offTraffic = s.offTraffic := by
  simp [State.updDomain]

@[simp] theorem State.updTpo_offTraffic (s : State) (n : Fin 4) (f : Tpo → Tpo) :
    (s.updTpo n f).offTraffic = s.offTraffic := by
  simp [State.updTpo]

@[simp] theorem State.tpoForward_offTraffic (s : State) (n : Fin 4) (now : Nat) :
    (s.tpoForward n now).offTraffic = s.offTraffic := by
  simp [State.tpoForward]

@[simp] theorem State.tpoStep_offTraffic (s : State) (d : Fin 2) (amount : Int) :
    (s.tpoStep d amount).offTraffic = s.offTraffic := by
  refine foldl_offTraffic _ _ (fun s n => ?_) s
  dsimp only
  (repeat' split) <;> simp

@[simp] theorem State.servoOffset_offTraffic (s : State) (d : Fin 2) (off : Int) :
    (s.servoOffset d off).offTraffic = s.offTraffic := by
  unfold State.servoOffset
  dsimp only
  (repeat' split) <;> simp

@[simp] theorem State.servoSync_offTraffic (s : State) (d : Fin 2) (x : SyncStamp) :
    (s.servoSync d x).offTraffic = s.offTraffic := by
  unfold State.servoSync
  dsimp only
  split <;> simp

@[simp] theorem State.servoDelay_offTraffic (s : State) (d : Fin 2) (seq : BitVec 16) (t4 correction : Int) :
    (s.servoDelay d seq t4 correction).offTraffic = s.offTraffic := by
  unfold State.servoDelay
  dsimp only
  split <;> simp

@[simp] theorem State.logPtp_offTraffic (s : State) (x : TsEntry) : (s.logPtp x).offTraffic = s.offTraffic := by
  simp [State.logPtp]

@[simp] theorem State.unmeasured_offTraffic (s : State) (c : Cp) : (s.unmeasured c).offTraffic = s.offTraffic :=
  s.count_offTraffic .timeTcUnmeasured c.val 1

@[simp] theorem State.stampLog_offTraffic (s : State) (d : Dir) (c : Cp) (f : Bytes) (o : Nat) (i : Instants) :
    (s.stampLog d c f o i).offTraffic = s.offTraffic := by
  unfold State.stampLog
  dsimp only
  split <;> simp

@[simp] theorem State.rewritePtp_offTraffic (s : State) (d : Dir) (c : Cp) (f : Bytes) (o : Nat) (i : Instants) :
    (s.rewritePtp d c f o i).1.offTraffic = s.offTraffic := by
  unfold State.rewritePtp
  dsimp only
  (repeat' split) <;> simp

@[simp] theorem State.servoMessage_offTraffic (s : State) (td : Fin 2) (d : Dir) (c : Cp) (f : Bytes) (o : Nat)
    (i : Instants) :
    (s.servoMessage td d c f o i).offTraffic = s.offTraffic := by
  unfold State.servoMessage
  dsimp only
  (repeat' split) <;> simp

@[simp] theorem State.ptp_offTraffic (s : State) (d : Dir) (c : Cp) (f : Bytes) (i : Instants) :
    (s.ptp d c f i).1.offTraffic = s.offTraffic := by
  unfold State.ptp
  dsimp only
  (repeat' split) <;> simp

/-! ## Frames on their way -/

@[simp] theorem State.setOvf_offTraffic (s : State) (n : Nat) (bits : Byte) :
    (s.setOvf n bits).offTraffic = s.offTraffic := by
  simp [State.setOvf]

@[simp] theorem State.countDrop_offTraffic (s : State) (n : Nat) (w : FlowDrop) :
    (s.countDrop n w).offTraffic = s.offTraffic := by
  unfold State.countDrop
  dsimp only
  (repeat' split) <;> simp

@[simp] theorem State.countBin_offTraffic (s : State) (n len : Nat) : (s.countBin n len).offTraffic = s.offTraffic := by
  simp [State.countBin]

@[simp] theorem State.countForward_offTraffic (s : State) (d : Dir) (n frames octets : Nat) :
    (s.countForward d n frames octets).offTraffic = s.offTraffic := by
  simp [State.countForward]

@[simp] theorem State.countFrame_offTraffic (s : State) (d : Dir) (n len : Nat) :
    (s.countFrame d n len).offTraffic = s.offTraffic := by
  unfold State.countFrame
  dsimp only
  split <;> simp

@[simp] theorem State.dropFrame_offTraffic (s : State) (d : Dir) (f : FlowFrame) (w : FlowDrop) (stage : Nat) :
    (s.dropFrame d f w stage).offTraffic = s.offTraffic := by
  simp [State.dropFrame]

@[simp] theorem State.raiseShed_offTraffic (s : State) (c : Cp) (k : Fin 5) :
    (s.raiseShed c k).offTraffic = s.offTraffic := by
  simp [State.raiseShed]

@[simp] theorem State.noteShed_offTraffic (s : State) (c : Cp) (k : Fin 5) (cls : Nat) :
    (s.noteShed c k cls).offTraffic = s.offTraffic := by
  simp [State.noteShed]

@[simp] theorem State.shedFrame_offTraffic (s : State) (f : FlowFrame) (cls : Nat) :
    (s.shedFrame f cls).offTraffic = s.offTraffic := by
  simp [State.shedFrame]

@[simp] theorem State.forwardIngress_offTraffic (s : State) (f : FlowFrame) (cls clientLen : Nat) (out : Bytes)
    (sealed_ : Bool) :
    (s.forwardIngress f cls clientLen out sealed_).offTraffic = s.offTraffic := by
  simp [State.forwardIngress]

@[simp] theorem State.driveFrame_offTraffic (s : State) (c : Cp) (frame : Bytes) (raw : Bool) :
    (s.driveFrame c frame raw).offTraffic = s.offTraffic :=
  foldl_offTraffic _ _ (by intros; rfl) _

@[simp] theorem State.sendClient_offTraffic (s : State) (c : Cp) (frame : Bytes) (tiles : List Nat)
    (tag : Option TagMark) :
    (s.sendClient c frame tiles tag).offTraffic = s.offTraffic := by
  simp [State.sendClient]

@[simp] theorem State.forwardEgress_offTraffic (s : State) (f : FlowFrame) (out : Bytes) :
    (s.forwardEgress f out).offTraffic = s.offTraffic := by
  simp [State.forwardEgress]

@[simp] theorem State.stall_offTraffic (s : State) (d : Dir) (express : Bool) :
    (s.stall d express).offTraffic = s.offTraffic := by
  simp [State.stall]

@[simp] theorem State.queueFrame_offTraffic (s : State) (d : Dir) (f : FlowFrame) (cls : Nat) :
    (s.queueFrame d f cls).offTraffic = s.offTraffic := by
  unfold State.queueFrame
  dsimp only
  split <;> simp

@[simp] theorem State.bindFrame_offTraffic (s : State) (d : Dir) (f : FlowFrame) :
    (s.bindFrame d f).offTraffic = s.offTraffic := by
  unfold State.bindFrame
  dsimp only
  (repeat' split) <;> simp

@[simp] theorem State.missFrame_offTraffic (s : State) (d : Dir) (f : FlowFrame) :
    (s.missFrame d f).offTraffic = s.offTraffic := by
  simp [State.missFrame]

@[simp] theorem State.offerFrame_offTraffic (s : State) (d : Dir) (c : Cp) (frame : Bytes) (tag : Option TagMark)
    (tiles : List Nat) (instants : Option (BitVec 48 × Int × Int)) :
    (s.offerFrame d c frame tag tiles instants).offTraffic = s.offTraffic := by
  unfold State.offerFrame
  dsimp only
  (repeat' split) <;> simp

@[simp] theorem State.lineFrame_offTraffic (s : State) (c : Cp) (frame : Bytes) (tiles : List Nat)
    (since entered : BitVec 48) (i : Option Instants) :
    (s.lineFrame c frame tiles since entered i).offTraffic = s.offTraffic := by
  simp [State.lineFrame]

@[simp] theorem State.dropRecord_offTraffic (s : State) (c : Cp) (on : Bool) :
    (s.dropRecord c on).offTraffic = s.offTraffic := by
  simp [State.dropRecord]

/-! ## Native ports -/

@[simp] theorem State.countNative_offTraffic (s : State) (c : Cp) (d : Dir) (octets : Nat) (shed : Bool) :
    (s.countNative c d octets shed).offTraffic = s.offTraffic := by
  unfold State.countNative
  (repeat' split) <;> simp

@[simp] theorem State.tagBlocks_offTraffic (s : State) (c : Cp) (d : Dir) (n : Nat) (shed : Bool) (t1 : BitVec 48) :
    (s.tagBlocks c d n shed t1).offTraffic = s.offTraffic := by
  simp [State.tagBlocks]

@[simp] theorem State.nativeOut_offTraffic (s : State) (c : Cp) (streams : List Bytes) (carried : Bool)
    (t1 : BitVec 48) :
    (s.nativeOut c streams carried t1).offTraffic = s.offTraffic := by
  simp [State.nativeOut]

/-! ## Tiles and records -/

@[simp] theorem State.countSent_offTraffic (s : State) (e : Eng) (ts : List Bytes) :
    (s.countSent e ts).offTraffic = s.offTraffic := by
  simp [State.countSent]

@[simp] theorem State.portTiles_offTraffic (s : State) (e : Eng) (c : Cp) (slots : Nat) :
    (s.portTiles e c slots).1.offTraffic = s.offTraffic := by
  unfold State.portTiles
  dsimp only
  (repeat' split) <;> simp

@[simp] theorem State.touchTile_offTraffic (s : State) (c : Cp) (id : Nat) :
    (s.touchTile c id).offTraffic = s.offTraffic := by
  simp [State.touchTile]

@[simp] theorem State.recordHead_offTraffic (s : State) (c : Cp) (v : Nat) :
    (s.recordHead c v).offTraffic = s.offTraffic := by
  simp [State.recordHead]

@[simp] theorem State.recordByte_offTraffic (s : State) (c : Cp) (id : Nat) (t1 : BitVec 48) (b : Byte) :
    (s.recordByte c id t1 b).offTraffic = s.offTraffic := by
  unfold State.recordByte
  dsimp only
  (repeat' split) <;> simp

@[simp] theorem State.atPointer_offTraffic (s : State) (c : Cp) : (s.atPointer c).offTraffic = s.offTraffic := by
  simp [State.atPointer]

@[simp] theorem State.portTile_offTraffic (s : State) (c : Cp) (e : Eng) (t1 : BitVec 48) (t : Bytes) :
    (s.portTile c e t1 t).offTraffic = s.offTraffic := by
  simp [State.portTile]

@[simp] theorem State.deliverPort_offTraffic (s : State) (e : Eng) (c : Cp) (sl : List Nat) (tiles : List Bytes)
    (slots : Nat) (replaced : Bool) (t1 : BitVec 48) :
    (s.deliverPort e c sl tiles slots replaced t1).offTraffic = s.offTraffic := by
  simp [State.deliverPort]

@[simp] theorem State.idlePorts_offTraffic (s : State) (e : Eng) : (s.idlePorts e).offTraffic = s.offTraffic := by
  simp [State.idlePorts]

theorem State.drain_offTraffic (s : State) : s.drain.offTraffic = s.offTraffic := by simp [State.drain]

end Sys2Proof.Machine
end

section
/-! The MFC tick (R15 to R17, R216 to R219, R238, R550).  Up to the frames that begin, it moves no transmitter's
parameters, FN or frame; then every running transmitter begins exactly one frame, at the turn of the engine that leads
its payload. -/

namespace Sys2Proof.Machine

/-- A state without what traffic and the engines' signal paths move, and without the commits. -/
def State.offLine (s : State) : State :=
  { s.offTraffic with engines := Vector.replicate 4 {}, commits := [] }

/-- What of an engine's transmitter moves only where a frame begins. -/
structure SendView where
  params : Staged EngineParams
  frameParams : EngineParams
  running : Bool
  fn : BitVec 32
  frame : Option TxFrame

/-- The transmitter of an engine as frames see it. -/
def Engine.sendView (x : Engine) : SendView :=
  { params := x.params, frameParams := x.frameParams, running := x.tx.running, fn := x.tx.fn, frame := x.tx.frame }

/-- What a tick leaves to the frames that begin. -/
def State.tickView (s : State) : State × (Eng → SendView) := (s.offLine, fun e => (s.eng e).sendView)

/-- Client traffic leaves the tick's view alone. -/
theorem tickView_of_offTraffic {s t : State} (h : t.offTraffic = s.offTraffic) : t.tickView = s.tickView := by
  have view (u : State) : u.offTraffic.tickView = u.tickView := rfl
  rw [← view t, h, view]

/-- So does a change of an engine behind its transmitter's parameters, FN and frame. -/
theorem State.updEng_tickView (s : State) (e : Eng) (f : Engine → Engine)
    (h : (f (s.eng e)).sendView = (s.eng e).sendView) : (s.updEng e f).tickView = s.tickView := by
  refine Prod.ext rfl (funext fun d => ?_)
  simp only [State.tickView, State.eng_updEng]
  split
  case isTrue hd => rw [hd, h]
  case isFalse => rfl

@[simp] theorem ite_tickView (c : Prop) [Decidable c] (s t : State) :
    (if c then s else t).tickView = if c then s.tickView else t.tickView := apply_ite _ _ _ _

@[simp] theorem foldl_tickView {α : Type} (l : List α) (f : State → α → State)
    (h : ∀ s x, (f s x).tickView = s.tickView) (s : State) : (l.foldl f s).tickView = s.tickView :=
  foldl_keeps State.tickView h l s

@[simp] theorem State.raise_tickView (s : State) (c : BitVec 16) (pl : Place) (d : Bytes) :
    (s.raise c pl d).tickView = s.tickView := tickView_of_offTraffic (s.raise_offTraffic c pl d)

@[simp] theorem State.countTiles_tickView (s : State) (e : Eng) (d : Dir) (cls n : Nat) :
    (s.countTiles e d cls n).tickView = s.tickView := tickView_of_offTraffic (s.countTiles_offTraffic e d cls n)

@[simp] theorem State.deliverPort_tickView (s : State) (e : Eng) (c : Cp) (sl : List Nat) (tiles : List Bytes)
    (slots : Nat) (replaced : Bool) (t1 : BitVec 48) :
    (s.deliverPort e c sl tiles slots replaced t1).tickView = s.tickView :=
  tickView_of_offTraffic (s.deliverPort_offTraffic e c sl tiles slots replaced t1)

@[simp] theorem State.idlePorts_tickView (s : State) (e : Eng) : (s.idlePorts e).tickView = s.tickView :=
  tickView_of_offTraffic (s.idlePorts_offTraffic e)

@[simp] theorem State.portTiles_tickView (s : State) (e : Eng) (c : Cp) (slots : Nat) :
    (s.portTiles e c slots).1.tickView = s.tickView := tickView_of_offTraffic (s.portTiles_offTraffic e c slots)

@[simp] theorem State.scBlock_tickView (s : State) (d : Dir) (key : Bytes) : (s.scBlock d key).tickView = s.tickView :=
  tickView_of_offTraffic (s.expressWork_offTraffic d _ 1)

/-! ## The time domains -/

@[simp] theorem State.stepDomain_tickView (s : State) (d : Fin 2) (amount : Int) (cause : Byte) :
    (s.stepDomain d amount cause).tickView = s.tickView := by
  unfold State.stepDomain
  refine (tickView_of_offTraffic (State.tpoStep_offTraffic _ _ _)).trans ((State.raise_tickView _ _ _ _).trans ?_)
  rw [ite_tickView]
  exact ite_self _

theorem State.advanceTime_tickView (s : State) : s.advanceTime.tickView = s.tickView := rfl

theorem State.servoSteps_tickView (s : State) : s.servoSteps.tickView = s.tickView := by
  refine foldl_tickView _ _ (fun s d => ?_) s
  split
  · rfl
  · exact State.stepDomain_tickView _ _ _ _

/-! ## Delivery -/

@[simp] theorem State.deliverBy_tickView (s : State) (e : Eng) (p : EngineParams) (tiles : List Bytes) (replaced : Bool)
    (t1 : BitVec 48) : (s.deliverBy e p tiles replaced t1).tickView = s.tickView := by
  unfold State.deliverBy
  dsimp only
  split
  · rw [foldl_tickView _ _ fun _ _ => State.deliverPort_tickView ..]
    exact State.updEng_tickView _ _ _ rfl
  · rw [State.idlePorts_tickView, State.countTiles_tickView,
      foldl_tickView _ _ fun _ _ => State.deliverPort_tickView ..]
    exact State.updEng_tickView _ _ _ rfl

theorem State.twinDefect_tickView (s : State) (low : Eng) (lower higher : Bool) :
    (s.twinDefect low lower higher).tickView = s.tickView := by
  unfold State.twinDefect
  dsimp only
  generalize hu : s.updEng low _ = u
  have h : u.tickView = s.tickView := hu ▸ State.updEng_tickView _ _ _ rfl
  simp [h]

theorem State.noteDelivered_tickView (s : State) (low : Eng) (fn : BitVec 32) :
    (s.noteDelivered low fn).tickView = s.tickView := State.updEng_tickView _ _ _ rfl

theorem State.twinDeliver_tickView (s : State) (low : Eng) (a b : Option TwinCopy) :
    (s.twinDeliver low a b).tickView = s.tickView := by
  unfold State.twinDeliver
  dsimp only
  generalize hu : (if (!(s.eng low).rxParams.isTwin) = true then s else _) = u
  have h : u.tickView = s.tickView := by
    rw [← hu, ite_tickView, State.twinDefect_tickView, State.updEng_tickView _ _ _ rfl, ite_self]
  cases a.or b with
  | none => dsimp only; split <;> exact (State.deliverBy_tickView ..).trans h
  | some x =>
    dsimp only
    split <;> exact (State.deliverBy_tickView ..).trans ((State.noteDelivered_tickView _ _ _).trans h)

theorem State.twinDrain_tickView (low : Eng) (n : Nat) (s : State) :
    (State.twinDrain low n s).tickView = s.tickView := by
  have pop (s : State) (f : TwinState → TwinState) :
      (s.updEng low fun x => { x with twin := f x.twin }).tickView = s.tickView := State.updEng_tickView _ _ _ rfl
  have popA (s : State) := pop s fun t => { t with lower := t.lower.drop 1 }
  have popB (s : State) := pop s fun t => { t with higher := t.higher.drop 1 }
  induction n generalizing s with
  | zero => rfl
  | succ n ih =>
    unfold State.twinDrain
    dsimp only
    repeat' split
    all_goals simp only [ih, State.twinDeliver_tickView, popA, popB]

theorem State.silentFrame_tickView (s : State) (e : Eng) : (s.silentFrame e).tickView = s.tickView := by
  have none_left (s : State) :
      (s.updEng e fun x => { x with twin := { x.twin with lower := [], higher := [] } }).tickView = s.tickView :=
    State.updEng_tickView _ _ _ rfl
  unfold State.silentFrame
  dsimp only
  repeat' split
  · exact State.idlePorts_tickView _ _
  · rfl
  · exact State.deliverBy_tickView ..
  · rfl
  · rw [State.twinDeliver_tickView, none_left]

/-! ## Frames that begin -/

theorem addPort_tickView (e : Eng) (slots : List Nat) (a : State × List (List Nat × List Bytes)) (c : Cp) :
    (addPort e slots a c).1.tickView = a.1.tickView := State.portTiles_tickView _ _ _ _

theorem State.payload_tickView (s : State) (e : Eng) : (s.payload e).1.tickView = s.tickView := by
  unfold State.payload
  dsimp only
  split
  · exact State.updEng_tickView _ _ _ rfl
  · rw [State.countTiles_tickView]
    exact foldl_keeps (fun a : State × List (List Nat × List Bytes) => a.1.tickView)
      (fun a c => addPort_tickView e _ a c) _ _

theorem State.scTake_tickView (s : State) (e : Eng) : (s.scTake e).1.tickView = s.tickView :=
  State.updEng_tickView _ _ _ rfl

theorem State.updSc_tickView (s : State) (e : Eng) (f : SideChannel → SideChannel) :
    (s.updEng e fun x => { x with sc := f x.sc }).tickView = s.tickView := State.updEng_tickView _ _ _ rfl

theorem State.scAbsent_tickView (s : State) (e : Eng) (key : BitVec 32) :
    (s.scAbsent e key).tickView = s.tickView := by
  unfold State.scAbsent
  dsimp only
  split
  · exact s.updSc_tickView e fun x => { x with keyAbsent := true, txShift := none }
  · exact (State.raise_tickView ..).trans (s.updSc_tickView e fun x => { x with keyAbsent := true, txShift := none })

theorem State.scSend_tickView (s : State) (e : Eng) (fn : BitVec 32) : (s.scSend e fn).1.tickView = s.tickView := by
  have shift (t : State) (o : Option Bytes) :
      (t.updEng e fun x => { x with sc := { x.sc with keyAbsent := false, txShift := o } }).tickView = t.tickView :=
    t.updSc_tickView e fun x => { x with keyAbsent := false, txShift := o }
  unfold State.scSend
  dsimp only
  repeat' split
  all_goals simp only [shift, State.scBlock_tickView, State.scAbsent_tickView, State.scTake_tickView]

/-- A frame has begun on a transmitter that was `x`: FN goes on by one, and, unless an Oxbow pattern stands in their
place, the frame carries the new FN and the fields of the parameters on which frames are built (R16, R216, R218). -/
def SendView.Began (x y : SendView) : Prop :=
  (y.params = x.params ∧ y.frameParams = x.frameParams ∧ y.running = x.running ∧ y.fn = x.fn + 1) ∧
    (x.frameParams.patterned = false → ∃ f, y.frame = some f ∧ f.fn = x.fn + 1 ∧
      f.mapgen = x.frameParams.slotmap.mapgen.setWidth 4 ∧ f.linkid = x.frameParams.frame.txLinkid ∧
      f.profile = BitVec.ofNat 4 x.frameParams.code)

/-- What a tick makes of a transmitter: a running one begins a frame, another one stands. -/
def SendView.Ticked (x y : SendView) : Prop := if x.running then x.Began y else y = x

theorem SendView.Ticked.began {x y : SendView} (h : x.Ticked y) (hr : x.running = true) : x.Began y := by
  rwa [SendView.Ticked, if_pos hr] at h

theorem SendView.Ticked.stands {x y : SendView} (h : x.Ticked y) (hr : x.running = false) : y = x := by
  rwa [SendView.Ticked, if_neg (by rw [hr]; decide)] at h

/-- A tick keeps an engine's parameters, and those on which its frames are built. -/
theorem SendView.Ticked.keeps {x y : SendView} (h : x.Ticked y) :
    y.params = x.params ∧ y.frameParams = x.frameParams := by
  cases hr : x.running with
  | true =>
    obtain ⟨⟨hp, hf, -, -⟩, -⟩ := h.began hr
    exact ⟨hp, hf⟩
  | false => rw [h.stands hr]; exact ⟨rfl, rfl⟩

theorem State.sendView_of_tickView {s t : State} (h : t.tickView = s.tickView) (d : Eng) :
    (t.eng d).sendView = (s.eng d).sendView := congrFun (congrArg Prod.snd h) d

/-- Beginning a frame moves nothing but traffic and its own engine. -/
theorem State.beginFrame_offLine (s : State) (e : Eng) (tiles : List Bytes) :
    (s.beginFrame e tiles).offLine = s.offLine := by
  have upd (t : State) (f : Engine → Engine) : (t.updEng e f).offLine = t.offLine := rfl
  have sc (t : State) (fn : BitVec 32) : (t.scSend e fn).1.offLine = t.offLine :=
    congrArg Prod.fst (t.scSend_tickView e fn)
  unfold State.beginFrame
  dsimp only
  split
  · simp only [upd]
  · simp only [upd, sc]

theorem State.beginFrame_other (s : State) {d e : Eng} (h : d ≠ e) (tiles : List Bytes) :
    ((s.beginFrame e tiles).eng d).sendView = (s.eng d).sendView := by
  have upd (t : State) (f : Engine → Engine) : (t.updEng e f).eng d = t.eng d := by rw [State.eng_updEng, if_neg h]
  have sc (t : State) (fn : BitVec 32) : ((t.scSend e fn).1.eng d).sendView = (t.eng d).sendView :=
    State.sendView_of_tickView (t.scSend_tickView e fn) d
  unfold State.beginFrame
  dsimp only
  split
  · simp only [upd]
  · simp only [upd, sc]

/-- The frame that begins carries the new FN and the fields of the frame parameters (R216, R218). -/
theorem State.beginFrame_same (s : State) (e : Eng) (tiles : List Bytes) :
    (s.eng e).sendView.Began ((s.beginFrame e tiles).eng e).sendView := by
  unfold State.beginFrame
  dsimp only
  generalize hu : s.updEng e _ = u
  have hp : (u.eng e).frameParams = (s.eng e).frameParams := by rw [← hu, State.eng_updEng_same]; rfl
  rw [hp]
  split
  case isTrue hpat =>
    refine ⟨?_, fun h => ?_⟩
    · rw [State.eng_updEng_same, ← hu, State.eng_updEng_same]
      exact ⟨rfl, rfl, rfl, rfl⟩
    · rw [show (s.eng e).sendView.frameParams = (s.eng e).frameParams from rfl, hpat] at h
      cases h
  case isFalse hpat =>
    have hv : ((u.scSend e ((s.eng e).tx.fn + 1)).1.eng e).sendView = (u.eng e).sendView :=
      State.sendView_of_tickView (u.scSend_tickView e _) e
    have hu' : (u.eng e).sendView = { (s.eng e).sendView with fn := (s.eng e).tx.fn + 1 } := by
      rw [← hu, State.eng_updEng_same]; rfl
    have hv := hv.trans hu'
    have hparams := congrArg SendView.params hv
    have hframe := congrArg SendView.frameParams hv
    have hrunning := congrArg SendView.running hv
    have hfn := congrArg SendView.fn hv
    rw [State.eng_updEng_same]
    exact ⟨⟨hparams, hframe, hrunning, hfn⟩, fun _ => ⟨_, rfl, rfl, rfl, rfl, rfl⟩⟩

/-! ## Each engine once -/

/-- In a walk over engines without repetition, a view on which one engine alone acts is moved once, or not at all. -/
theorem foldl_once {σ β : Type} {f : σ → Eng → σ} {view : σ → β} {who : σ → Eng} {R : β → β → Prop}
    (hwho : ∀ s e, who (f s e) = who s) (hrest : ∀ s e, e ≠ who s → view (f s e) = view s)
    (hmove : ∀ s, R (view s) (view (f s (who s)))) {l : List Eng} (hl : l.Nodup) (s : σ) :
    if who s ∈ l then R (view s) (view (l.foldl f s)) else view (l.foldl f s) = view s := by
  induction l generalizing s with
  | nil => rw [if_neg (List.not_mem_nil)]; rfl
  | cons e es ih =>
    obtain ⟨he, hes⟩ := List.nodup_cons.mp hl
    have h := ih hes (f s e)
    rw [hwho] at h
    rw [List.foldl_cons]
    by_cases heq : e = who s
    · subst heq
      rw [if_neg he] at h
      rw [if_pos (List.mem_cons_self), h]
      exact hmove s
    · rw [hrest s e heq] at h
      have hmem : who s ∈ e :: es ↔ who s ∈ es := by simp [Ne.symm heq]
      simpa only [hmem] using h

/-- The engine at whose turn in the tick the frames of engine `d` begin: the lower member's for a Twin pair (R29). -/
def State.turnOf (s : State) (d : Eng) : Eng :=
  if (s.eng (lowerOf d)).frameParams.isTwin && (s.eng (higherOf d)).frameParams.isTwin then lowerOf d else d

/-- Every engine sends at exactly one turn, whichever pairs run Twin: checked over all of them. -/
theorem mem_sendersBy (twin : Eng → Bool) (d e : Eng) :
    d ∈ (if twin (lowerOf e) && twin (higherOf e)
        then (if e.val % 2 == 0 then [e, engOf (e.val + 1)] else []) else [e]) ↔
      e = if twin (lowerOf d) && twin (higherOf d) then lowerOf d else d := by
  revert twin d e
  decide

theorem State.mem_senders (s : State) (d e : Eng) : d ∈ s.senders e ↔ e = s.turnOf d :=
  mem_sendersBy (fun x => (s.eng x).frameParams.isTwin) d e

theorem State.senders_nodup (s : State) (e : Eng) : (s.senders e).Nodup := by
  have pair : ∀ e : Eng, [e, engOf (e.val + 1)].Nodup := by decide
  unfold State.senders
  repeat' split
  · exact pair e
  · exact List.nodup_nil
  · exact List.nodup_singleton e

/-- Of the senders of one payload those that run begin a frame each; no other transmitter moves (R29, R219). -/
theorem State.beginFrames_began (s : State) (d e : Eng) :
    if d ∈ (s.senders e).filter (fun x => (s.eng x).tx.running)
    then (s.eng d).sendView.Began ((s.beginFrames e).eng d).sendView
    else ((s.beginFrames e).eng d).sendView = (s.eng d).sendView := by
  have hnd : ((s.senders e).filter fun x => (s.eng x).tx.running).Nodup := (s.senders_nodup e).filter _
  unfold State.beginFrames
  generalize (s.senders e).filter (fun x => (s.eng x).tx.running) = es at hnd ⊢
  cases es with
  | nil => rw [if_neg List.not_mem_nil]
  | cons x xs =>
    dsimp only
    generalize hr : (if (s.eng e).frameParams.patterned = true then (s, []) else s.payload e) = r
    have hr' : (r.1.eng d).sendView = (s.eng d).sendView := by
      rw [← hr]
      split
      · rfl
      · exact State.sendView_of_tickView (s.payload_tickView e) d
    rw [← hr']
    exact foldl_once (view := fun s => (s.eng d).sendView) (who := fun _ => d) (fun _ _ => rfl)
      (fun s e h => s.beginFrame_other (Ne.symm h) _) (fun s => s.beginFrame_same d _) hnd r.1

/-- An engine's transmitter moves at its turn, and at no other. -/
theorem State.beginFrames_sendView (s : State) (d e : Eng) :
    if e = s.turnOf d then (s.eng d).sendView.Ticked ((s.beginFrames e).eng d).sendView
    else ((s.beginFrames e).eng d).sendView = (s.eng d).sendView := by
  have key := s.beginFrames_began d e
  simp only [List.mem_filter, State.mem_senders] at key
  by_cases hturn : e = s.turnOf d
  · rw [if_pos hturn]
    simp only [hturn, true_and] at key ⊢
    exact key
  · rw [if_neg hturn]
    simpa only [hturn, false_and, if_false] using key

theorem State.beginFrames_offLine (s : State) (e : Eng) : (s.beginFrames e).offLine = s.offLine := by
  unfold State.beginFrames
  split
  · rfl
  · dsimp only
    rw [foldl_keeps State.offLine fun s x => s.beginFrame_offLine x _]
    split
    · rfl
    · exact congrArg Prod.fst (s.payload_tickView e)

theorem State.beginFrames_frameParams (s : State) (d e : Eng) :
    ((s.beginFrames e).eng d).frameParams = (s.eng d).frameParams := by
  have h := s.beginFrames_sendView d e
  split at h
  · exact h.keeps.2
  · exact congrArg SendView.frameParams h

theorem State.turnOf_beginFrames (s : State) (d e : Eng) : (s.beginFrames e).turnOf d = s.turnOf d := by
  simp only [State.turnOf, State.beginFrames_frameParams]

/-- The turns of a tick: every running transmitter begins one frame (R16, R219). -/
theorem State.turns_ticked (s : State) (d : Eng) :
    (s.eng d).sendView.Ticked ((((List.finRange 4).foldl (fun s e => s.beginFrames e) s).eng d).sendView) := by
  have h := foldl_once (f := fun s e => State.beginFrames s e) (view := fun s => (s.eng d).sendView)
    (who := fun s => s.turnOf d) (R := SendView.Ticked) (fun s e => s.turnOf_beginFrames d e)
    (fun s e h => by simpa only [h, if_false] using s.beginFrames_sendView d e)
    (fun s => by simpa only [if_true] using s.beginFrames_sendView d (s.turnOf d)) (List.nodup_finRange 4) s
  rwa [if_pos (List.mem_finRange _)] at h

/-! ## The tick -/

theorem Engine.tick_sendView (x : Engine) : x.tick.sendView = x.sendView := by
  unfold Engine.tick
  dsimp only
  split <;> rfl

theorem State.tickEngines_tickView (s : State) :
    ({ s with engines := s.engines.map Engine.tick } : State).tickView = s.tickView := by
  refine Prod.ext rfl (funext fun d => ?_)
  have h : ({ s with engines := s.engines.map Engine.tick } : State).eng d = (s.eng d).tick := Vector.getElem_map ..
  exact (congrArg Engine.sendView h).trans (Engine.tick_sendView _)

theorem State.emitEngines_tickView (s : State) :
    ({ s with engines := Vector.ofFn fun e => ((s.engines[e]).emit e.val).loopBack } : State).tickView =
      s.tickView := by
  refine Prod.ext rfl (funext fun d => ?_)
  have h : ({ s with engines := Vector.ofFn fun e => ((s.engines[e]).emit e.val).loopBack } : State).eng d =
      ((s.eng d).emit d.val).loopBack := Vector.getElem_ofFn ..
  exact (congrArg Engine.sendView h).trans rfl

/-- Up to the frames that begin, a tick is the timebase's. -/
theorem State.tickWith_split (s : State) : ∃ u : State, u.tickView = s.timebaseTick.tickView ∧
    (s.tickWith id).tickView = ((List.finRange 4).foldl (fun s e => s.beginFrames e) u).tickView := by
  unfold State.tickWith
  dsimp only [id]
  refine ⟨_, ?_, (tickView_of_offTraffic (State.drain_offTraffic _)).trans (State.emitEngines_tickView _)⟩
  rw [foldl_tickView _ _ fun s e => s.silentFrame_tickView e, State.tickEngines_tickView, foldl_tickView,
    State.servoSteps_tickView, State.advanceTime_tickView]
  intro s p
  rw [ite_tickView, State.twinDrain_tickView, ite_self]

theorem State.tickWith_offLine (s : State) : (s.tickWith id).offLine = s.timebaseTick.offLine := by
  obtain ⟨u, hu, ht⟩ := s.tickWith_split
  refine (congrArg Prod.fst ht).trans ((foldl_keeps State.offLine ?_ _ u).trans (congrArg Prod.fst hu))
  exact fun s e => s.beginFrames_offLine e

theorem State.tickWith_ticked (s : State) (e : Eng) :
    (s.eng e).sendView.Ticked ((s.tickWith id).eng e).sendView := by
  obtain ⟨u, hu, ht⟩ := s.tickWith_split
  have hs : (u.eng e).sendView = (s.eng e).sendView := State.sendView_of_tickView hu e
  rw [State.sendView_of_tickView ht e, ← hs]
  exact u.turns_ticked e

/-- A tick before ready, or the timebase's part of a later one: module time and Headwater alone move (R15, R549). -/
theorem State.timebaseTick_eq (s : State) :
    s.timebaseTick =
      { s with moduleTime := s.moduleTime + 1, fresh := s.timebaseTick.fresh, hw := s.timebaseTick.hw } := rfl

/-- One second is 10^18 of the units of the Headwater phase. -/
theorem timebaseTick_toSecond (s : State) :
    s.timebaseTick.hw.toSecond = if s.secondHere then s.hw.toSecond - s.periodNow + 10 ^ 18 + s.hw.stepNext
      else s.hw.toSecond - s.periodNow := by
  rw [show s.timebaseTick.hw.toSecond = s.nextSecond.1 from rfl, State.nextSecond]
  split <;> rfl

theorem exec_frameTransmit (s : State) : exec .frameTransmit s = execFrameTransmit s := rfl

theorem execFrameTransmit_unready {s : State} (hr : s.railsOn = true) (h : s.ready = false) :
    exec .frameTransmit s = .next s.timebaseTick := by
  rw [exec_frameTransmit, execFrameTransmit, h, hr]
  rfl

theorem execFrameTransmit_ready {s : State} (h : s.ready = true) :
    exec .frameTransmit s = .next (s.tickWith id) := by
  rw [exec_frameTransmit, execFrameTransmit, h]
  rfl

end Sys2Proof.Machine
end

section
/-! Frames, side-channel bytes and tile failures that reach one engine (R6, R121, R235, R236, R243, R244). -/

namespace Sys2Proof.Machine

/-! ## Frames that arrive -/

/-- The candidate that a header starts in HUNT (R235). -/
def RxFrame.candidate (f : RxFrame) : Candidate :=
  let omitted := ohField (descramble (headerFn f.header) f.overhead [] 0).1 64 3
  { stream := f.stream, next := f.position + frameLength (headerProfile f.header) omitted, fn := headerFn f.header,
    count := 0, omitOk := decide (omitted ≤ 4) }

/-- A header that passes HCRC with a starting profile, where no candidate expects one, starts a candidate (R235,
R236). -/
theorem State.huntFrame_starts {s : State} {e : Eng} {f : RxFrame} (hok : headerOk f.header = true)
    (hcode : startsCandidate (headerProfile f.header) = true)
    (hc : ∀ c ∈ (s.eng e).deframer.cands, c.stream = f.stream → c.next ≠ f.position) :
    s.huntFrame e f = s.updEng e fun x => { x with deframer :=
      { x.deframer with cands := (s.eng e).deframer.cands ++ [f.candidate] } } := by
  have hhere : ∀ c ∈ (s.eng e).deframer.cands, (c.stream == f.stream && c.next == f.position) = false := by
    intro c hmem
    by_cases h : c.stream = f.stream
    · simp [hc c hmem h]
    · simp [h]
  have hrest : ((s.eng e).deframer.cands.filter fun c => !(c.stream == f.stream && c.next == f.position)) =
      (s.eng e).deframer.cands := List.filter_eq_self.mpr fun c hmem => by rw [hhere c hmem]; rfl
  unfold State.huntFrame
  dsimp only
  generalize hg : List.filter (fun c : Candidate =>
    c.stream == f.stream && c.next == f.position && _ && _ && _ && _) _ = grown
  have hgrown : grown = [] := by
    rw [← hg, List.filter_eq_nil_iff]
    intro c hmem
    simp [hhere c hmem]
  rw [hgrown, hrest, hok, hcode]
  simp [RxFrame.candidate]

theorem exec_frameReceive (e : Eng) (a : FrameArrival) (s : State) :
    exec (.frameReceive e a) s = execFrameReceive e a s := rfl

theorem exec_scSlot (e : Eng) (b : Byte) (valid : Bool) (s : State) :
    exec (.scSlot e b valid) s = execScSlot e b valid s := rfl

theorem exec_tileLinkFail (e : Eng) (s : State) : exec (.tileLinkFail e) s = execTileLinkFail e s := rfl

theorem execFrameReceive_hunt {s : State} {e : Eng} {a : FrameArrival} {f : RxFrame} (hr : s.ready = true)
    (ht : (s.eng e).tileFailed = false) (hm : (s.eng e).deframer.mode = .hunt)
    (hf : (s.eng e).fec.frameAt a.stream a.position a.arrival = some f) :
    exec (.frameReceive e a) s = .next (s.huntFrame e f) := by
  have hrx : s.frameRx e f = s.huntFrame e f := by simp [State.frameRx, ht, hm]
  rw [← hrx, exec_frameReceive, execFrameReceive, event_ready hr, hf]

/-- A failed tile receives nothing (R6). -/
theorem execFrameReceive_failed {s : State} {e : Eng} (a : FrameArrival) (hr : s.ready = true)
    (ht : (s.eng e).tileFailed = true) : exec (.frameReceive e a) s = .next s := by
  rw [exec_frameReceive, execFrameReceive, event_ready hr]
  split
  · rfl
  · simp [State.frameRx, ht]

/-- A valid byte is sampled and the oldest received one goes out (R243, R244). -/
theorem execScSlot_enabled {s : State} {e : Eng} (b : Byte) (hr : s.ready = true) (he : s.hasEngine e.val = true)
    (hen : (s.eng e).txParams.frame.scFlags.getLsbD 0 = true) :
    exec (.scSlot e b true) s = .next (s.updEng e fun x => { x with sc := { x.sc with
      ingress := x.sc.ingress ++ [(s.moduleTime, b)], rxd := x.sc.egress.head?, egress := x.sc.egress.drop 1 } }) := by
  rw [exec_scSlot, execScSlot, eventIf_true hr he, State.scSlot]
  simp only [hen, if_true]

/-! ## A tile that fails -/

/-- What of an engine a fast quench has set once it has left the transmitter to the receiver's moves (R121). -/
def State.quenchView (s : State) (e : Eng) : TxMode × Byte × Bool :=
  ((s.eng e).tx.mode, (s.eng e).tx.reason, (s.eng e).tileFailed)

@[simp] theorem ite_quenchView (c : Prop) [Decidable c] (s t : State) (e : Eng) :
    (if c then s else t).quenchView e = if c then s.quenchView e else t.quenchView e :=
  apply_ite (fun u : State => u.quenchView e) _ _ _

@[simp] theorem State.raise_quenchView (s : State) (c : BitVec 16) (pl : Place) (d : Bytes) (e : Eng) :
    (s.raise c pl d).quenchView e = s.quenchView e := by
  simp only [State.quenchView, State.raise_eng]

@[simp] theorem State.skip_quenchView (s : State) (e : Eng) : s.skip.quenchView e = s.quenchView e := rfl

theorem State.updEng_quenchView (s : State) (e : Eng) (f : Engine → Engine)
    (h : (f (s.eng e)).tx.mode = (s.eng e).tx.mode)
    (h1 : (f (s.eng e)).tx.reason = (s.eng e).tx.reason) (h2 : (f (s.eng e)).tileFailed = (s.eng e).tileFailed) :
    (s.updEng e f).quenchView e = s.quenchView e := by
  simp only [State.quenchView, State.eng_updEng_same, h, h1, h2]

theorem State.rehold_quenchView (s : State) (e : Eng) (c : Byte) : (s.rehold e c).quenchView e = s.quenchView e := by
  unfold State.rehold
  simp only [ite_quenchView, State.raise_quenchView, ite_self]
  exact State.updEng_quenchView _ _ _ rfl rfl rfl

theorem State.maskSmall_quenchView (s : State) (e : Eng) : (s.maskSmall e).quenchView e = s.quenchView e := by
  unfold State.maskSmall
  simp only [ite_quenchView, State.raise_quenchView, ite_self]
  exact State.updEng_quenchView _ _ _ rfl rfl rfl

theorem State.lofClear_quenchView (s : State) (e : Eng) (d : Bytes) :
    (s.lofClear e d).quenchView e = s.quenchView e := by
  unfold State.lofClear
  split
  · exact (State.raise_quenchView ..).trans (State.updEng_quenchView _ _ _ rfl rfl rfl)
  · rfl

theorem State.setLos_quenchView (s : State) (e : Eng) (on : Bool) : (s.setLos e on).quenchView e = s.quenchView e := by
  unfold State.setLos
  simp only [ite_quenchView, State.maskSmall_quenchView, State.lofClear_quenchView, State.skip_quenchView,
    State.raise_quenchView, ite_self]
  rw [State.updEng_quenchView _ _ _ rfl rfl rfl, ite_self]

theorem State.rxOff_quenchView (s : State) (e : Eng) : (s.rxOff e).quenchView e = s.quenchView e := by
  unfold State.rxOff
  split
  · rfl
  · refine (State.updEng_quenchView _ _ _ rfl rfl rfl).trans ((State.setLos_quenchView _ _ _).trans ?_)
    exact (State.updEng_quenchView _ _ _ rfl rfl rfl).trans (State.updEng_quenchView _ _ _ rfl rfl rfl)

/-- A fast quench leaves the transmitter QUENCHING for its reason, and the tile as it was (R121). -/
theorem State.fastQuench_quenchView (s : State) (e : Eng) (r : Byte) (b : Bool) :
    (s.fastQuench e r b).quenchView e = (.quenching, r, (s.eng e).tileFailed) := by
  have stop (t : State) : (t.txStop e).quenchView e = t.quenchView e := State.updEng_quenchView _ _ _ rfl rfl rfl
  unfold State.fastQuench State.reholdDark
  simp only [State.rxOff_quenchView, State.rehold_quenchView, State.skip_quenchView, ite_quenchView, stop, ite_self]
  simp only [State.quenchView, State.eng_updEng_same]

/-- A reason without DEP quenches a lit laser at once (R121). -/
theorem State.quench_lit {s : State} {e : Eng} {r : Byte} (hl : (s.eng e).tx.mode = .lit) (hr : orderly r = false) :
    s.quench e r = s.fastQuench e r false := by
  simp [State.quench, hl, hr]

/-- With no commit pending, a failing tile moves its own engine alone; a lit laser is quenched with reason 6, and the
transmitter stops (R6, R121). -/
theorem State.failTile_lit {s : State} {e : Eng} (hl : (s.eng e).tx.mode = .lit) (hc : s.commits = []) :
    EngineOnly e s (s.failTile e) ∧ (s.failTile e).quenchView e = (.quenching, 6, true) ∧
      ((s.failTile e).eng e).tx.running = false := by
  unfold State.failTile
  dsimp only
  generalize hu : State.skip (State.raise _ _ _ _) = u
  have hone : EngineOnly e s u := by
    rw [← hu]
    exact (((engineOnly_updEng e s rfl).trans (engineOnly_skip e _)).trans (engineOnly_raise e _ _ _ _)).trans
      (engineOnly_skip e _)
  have hview : u.quenchView e = (.lit, (s.eng e).tx.reason, true) := by
    rw [← hu, State.skip_quenchView, State.raise_quenchView, State.skip_quenchView]
    simp only [State.quenchView, State.eng_updEng_same, hl]
  have hlit : (u.eng e).tx.mode = .lit := congrArg Prod.fst hview
  have htile : (u.eng e).tileFailed = true := congrArg (fun v => v.2.2) hview
  rw [State.quench_lit hlit rfl]
  generalize hv : ((u.fastQuench e 6 false).txStop e).updEng e _ = v
  have hv1 : EngineOnly e s v := by
    rw [← hv]
    exact ((hone.trans (engineOnly_fastQuench e u 6 false)).trans (engineOnly_txStop e _)).trans
      (engineOnly_updEng e _ rfl)
  have hcv : v.commits = [] := (congrArg State.commits hv1.1).trans hc
  rw [hcv, List.foldl_nil]
  refine ⟨hv1, ?_, ?_⟩
  · rw [← hv, State.updEng_quenchView _ _ _ rfl rfl rfl]
    exact (State.updEng_quenchView _ _ _ rfl rfl rfl).trans ((State.fastQuench_quenchView ..).trans (by rw [htile]))
  · rw [← hv, State.eng_updEng_same, State.txStop, State.eng_updEng_same]

theorem execTileLinkFail_working {s : State} {e : Eng} (hr : s.ready = true) (he : s.hasEngine e.val = true)
    (ht : (s.eng e).tileFailed = false) : exec (.tileLinkFail e) s = .next (s.failTile e) := by
  rw [exec_tileLinkFail, execTileLinkFail,
    eventIf_true hr (by rw [he, ht]; rfl)]

/-! ## The statement -/

/-- A ready module's tick (R15 to R17, R216 to R219, R550). -/
theorem tick_ready {s : State} (hr : s.ready = true) :
    ∃ t, exec .frameTransmit s = .next t ∧ t.moduleTime = s.moduleTime + 1 ∧
      (∀ e, (t.eng e).params = (s.eng e).params) ∧ t.weir = s.weir ∧ t.keys.slots = s.keys.slots ∧
      (∀ e, (s.eng e).tx.running = true → (t.eng e).tx.fn = (s.eng e).tx.fn + 1 ∧
        ((s.eng e).frameParams.patterned = false → ∃ f, (t.eng e).tx.frame = some f ∧ f.fn = (s.eng e).tx.fn + 1 ∧
          f.mapgen = (s.eng e).frameParams.slotmap.mapgen.setWidth 4 ∧
          f.linkid = (s.eng e).frameParams.frame.txLinkid ∧
          f.profile = BitVec.ofNat 4 (s.eng e).frameParams.code)) ∧
      (∀ e, (s.eng e).tx.running = false → (t.eng e).tx.fn = (s.eng e).tx.fn) := by
  have hrest := s.tickWith_offLine
  have htime := congrArg State.moduleTime hrest
  have hweir := congrArg State.weir hrest
  have hslots := congrArg (fun t : State => t.keys.slots) hrest
  refine ⟨s.tickWith id, execFrameTransmit_ready hr, htime, fun e => ?_, hweir, hslots, fun e hrun => ?_,
    fun e hrun => ?_⟩
  · exact (s.tickWith_ticked e).keeps.1
  · obtain ⟨⟨-, -, -, hfn⟩, hframe⟩ := (s.tickWith_ticked e).began hrun
    exact ⟨hfn, hframe⟩
  · exact congrArg SendView.fn ((s.tickWith_ticked e).stands hrun)

/-- Settles O25: the timebase's tick field by field before ready, and after it the one frame that every running
transmitter begins; in HUNT the one candidate that a header starts; and a failing tile as a chain of moves of one
engine. -/
theorem ticksFramesAndTiles : Obligations.TicksFramesAndTiles := by
  unfold Obligations.TicksFramesAndTiles
  refine ⟨fun s => ⟨fun hrails hr => ?_, tick_ready⟩, fun s e a f b hr => ⟨?_, ?_, ?_, ?_⟩⟩
  · refine ⟨_, execFrameTransmit_unready hrails hr, s.timebaseTick_eq, fun h => ?_, fun h => ?_⟩
    · rw [timebaseTick_toSecond, h]; rfl
    · rw [timebaseTick_toSecond, h]; rfl
  · intro ht hm hf hok hcode hc
    refine ⟨_, execFrameReceive_hunt hr ht hm hf, ?_⟩
    rw [State.huntFrame_starts hok hcode hc]
    refine ⟨engineOnly_updEng e s rfl, ?_⟩
    dsimp only
    rw [State.eng_updEng_same]
    exact ⟨hm, f.candidate, rfl, rfl, rfl, rfl⟩
  · exact execFrameReceive_failed a hr
  · exact execScSlot_enabled b hr
  · intro he ht hl hc
    obtain ⟨hone, hview, hrun⟩ := State.failTile_lit hl hc
    exact ⟨_, execTileLinkFail_working hr he ht, hone, congrArg (fun v => v.2.2) hview, congrArg Prod.fst hview,
      congrArg (fun v => v.2.1) hview, hrun⟩

end Sys2Proof.Machine
end

section
/-! Writes of an engine's configuration (R74, R126, R163, R186, R213, R22, R250, R251).  Once the request names a
populated engine of the port and its values pass, only the hold of a pending commit stands before the staging (R79). -/

namespace Sys2Proof.Machine

/-! ## Requests that name an engine -/

@[simp] theorem engOf_val (e : Eng) : engOf e.val = e := Fin.ofNat_val_eq_self e

@[simp] theorem takeRequest_calInvalid (s : State) (op : BitVec 16) (r : Request) (e : Eng) :
    (s.takeRequest op r).calInvalid e = s.calInvalid e := rfl

theorem NamesEngine.takeRequest {r : Request} {s : State} {e : Eng} {len : Nat} (h : NamesEngine r s e len)
    (op : BitVec 16) (q : Request) : NamesEngine r (s.takeRequest op q) e len := by
  simpa [NamesEngine] using h

/-- What the checks read of a request that names an engine: its form, its number, and that the engine is there and the
port's (R53 steps 11 to 13). -/
theorem NamesEngine.checks {r : Request} {s : State} {e : Eng} {len : Nat} (h : NamesEngine r s e len) :
    badForm r len = false ∧ field r.params 0 1 = e.val ∧ s.hasEngine e.val = true ∧
      s.holdsEngine r.port e.val = true := by
  obtain ⟨⟨hflag, hlen⟩, hnamed⟩ := h
  exact ⟨by simp [badForm, hflag, hlen], hnamed⟩

/-- Form, range and tenancy pass; the checks behind them decide (R53 steps 11 to 13). -/
theorem guards_pastTenancy {bad out stranger : Bool} (hbad : bad = false) (hout : out = false)
    (hstranger : stranger = false) (l : List (Bool × Status)) (a : Answer) :
    guards ((bad, .badParam) :: (out, .range) :: (stranger, .notTenant) :: l) a = guards l a := by
  rw [hbad, hout, hstranger, guards_false, guards_false, guards_false]

/-- A request that executes, whose remaining checks pass, stages and answers OK without data. -/
theorem opcode_stages {op : BitVec 16} {r : Request} {s : State} {e : Eng} {f : EngineParams → EngineParams}
    {body : State → Answer} {l : List (Bool × Status)} (hx : Executes false r s)
    (hb : body (s.takeRequest op r) = guards l (.ok .ok [] ((s.takeRequest op r).stage e f)))
    (hl : ∀ x ∈ l, x.1 = false) :
    opcode op false r s body = .next (((s.takeRequest op r).stage e f).conclude op r .ok []) :=
  opcode_ok hx (hb.trans (guards_pass l _ hl))

/-! ## Entries of a slot map -/

/-- A byte of the parameters, read as a field. -/
theorem u8_eq_getElem {b : Bytes} {o : Nat} (h : o < b.length) : u8 b o = b[o] := by
  simp [u8, field, List.take_one_drop_eq_of_lt_length h, beValue]

/-- The entries of a map are the bytes behind its header (R251). -/
theorem parseMap_entries {b : Bytes} (h : b.length = 132) : (parseMap b).entries.toList = slice b 4 128 := by
  refine List.ext_getElem (by simp [h]) fun i hi _ => ?_
  have hi : i < 128 := by simpa using hi
  simp [parseMap, slice, u8_eq_getElem (show 4 + i < b.length by omega)]

theorem State.laneCount_le (s : State) : s.laneCount ≤ 64 := by
  unfold State.laneCount
  split <;> omega

/-- An entry up to the number of lanes is 0 or names a populated client port (R2, R251, R548). -/
theorem State.hasLane_pred {s : State} {b : Byte} (hb : b ≠ 0) (h : b.toNat ≤ s.laneCount) :
    s.hasLane (b.toNat - 1) = true := by
  have hpos : b.toNat ≠ 0 := fun h0 => hb (BitVec.eq_of_toNat_eq h0)
  simp only [State.hasLane, decide_eq_true_eq]
  omega

/-! ## What each write does once its checks of form, range and tenancy pass -/

section
variable {r : Request} {s : State} {e : Eng}

theorem txConfigWriteBody_formed (hn : NamesEngine r s e 32) (hz : zeroAt r.params 1 3 = true)
    (hr : txRangeOk s.ident.variant (parseTx r.params) = true) :
    txConfigWriteBody r s = guards [(s.holdsScope 4 e.val, .busy)]
      (.ok .ok [] (s.stage e fun p => { p with tx := parseTx r.params })) := by
  obtain ⟨hform, hfield, hhas, hholds⟩ := hn.checks
  rw [txConfigWriteBody, hfield, engOf_val]
  refine guards_pastTenancy ?_ ?_ ?_ _ _
  · simp [hform, hz]
  · simp [hhas, hr]
  · simp [hholds]

theorem rxConfigWriteBody_formed (hn : NamesEngine r s e 32) (hz1 : zeroAt r.params 18 2 = true)
    (hz2 : zeroAt r.params 28 4 = true) (hcd : (parseRx r.params).cdMode.toNat ≤ 2)
    (hflags : (parseRx r.params).flags.toNat ≤ 3)
    (htaps : (parseRx r.params).mimoTaps = 0 ∨ (parseRx r.params).mimoTaps.toNat % 2 = 1)
    (hr : rxRangeOk (parseRx r.params) = true) :
    rxConfigWriteBody r s = guards [(s.holdsScope 5 e.val, .busy)]
      (.ok .ok [] (s.stage e fun p => { p with rx := parseRx r.params })) := by
  obtain ⟨hform, hfield, hhas, hholds⟩ := hn.checks
  rw [rxConfigWriteBody, hfield, engOf_val]
  refine guards_pastTenancy ?_ ?_ ?_ _ _
  · simpa [hform, hz1, hz2, hcd, hflags] using or_iff_not_imp_left.mp htaps
  · simp [hhas, hr]
  · simp [hholds]

theorem calConfigWriteBody_formed (hn : NamesEngine r s e 16) (hz1 : zeroAt r.params 3 1 = true)
    (hz2 : zeroAt r.params 13 3 = true) (hadc : (parseCal r.params).adcMode.toNat ≤ 3)
    (hdac : (parseCal r.params).dacMode.toNat ≤ 1) (hatt : (parseCal r.params).attempts ≠ 0)
    (hr : calRangeOk (parseCal r.params) = true) :
    calConfigWriteBody r s = guards [(s.holdsScope 6 e.val, .busy)]
      (.ok .ok [] (s.stage e fun p => { p with cal := parseCal r.params })) := by
  obtain ⟨hform, hfield, hhas, hholds⟩ := hn.checks
  rw [calConfigWriteBody, hfield, engOf_val]
  refine guards_pastTenancy ?_ ?_ ?_ _ _
  · simpa [hform, hz1, hz2, hadc, hdac] using hatt
  · simp [hhas, hr]
  · simp [hholds]

theorem fecConfigWriteBody_formed {w i flags : Byte} (hp : r.params = [byte e.val, w, i, flags, 0, 0, 0, 0])
    (hn : NamesEngine r s e 8) (hw : w = 0 ∨ 4 ≤ w.toNat ∧ w.toNat ≤ 16) (hi : i.toNat ≤ 4)
    (hflags : flags.toNat ≤ 1) :
    fecConfigWriteBody r s = guards [(s.holdsScope 3 e.val, .busy)]
      (.ok .ok [] (s.stage e fun p => { p with fec := ⟨w, i, flags⟩ })) := by
  obtain ⟨hform, hfield, hhas, hholds⟩ := hn.checks
  have h1 : u8 r.params 1 = w := by simp [hp, u8]
  have h2 : u8 r.params 2 = i := by simp [hp, u8]
  have h3 : u8 r.params 3 = flags := by simp [hp, u8]
  rw [fecConfigWriteBody, hfield, engOf_val, h1, h2, h3]
  refine guards_pastTenancy ?_ ?_ ?_ _ _
  · simp [hform, hp, hflags]
  · simpa [hhas, hi] using or_iff_not_imp_left.mp hw
  · simp [hholds]

theorem profileWriteBody_formed (hn : NamesEngine r s e 8) (hz : zeroAt r.params 1 3 = true)
    (hb : badProfile (field r.params 4 4) = false) :
    profileWriteBody r s =
      guards [(s.holdsScope 0 e.val, .busy), (field r.params 4 4 % 16 != 0 && s.calInvalid e, .calInvalid)]
        (.ok .ok [] (s.stage e fun p => { p with profile := u32 r.params 4 })) := by
  obtain ⟨hform, hfield, hhas, hholds⟩ := hn.checks
  rw [profileWriteBody, hfield, engOf_val]
  refine guards_pastTenancy ?_ ?_ ?_ _ _
  · simp [hform, hz, hb]
  · simp [hhas]
  · simp [hholds]

theorem frameConfigWriteBody_formed (hn : NamesEngine r s e 24) (hz1 : zeroAt r.params 7 1 = true)
    (hz2 : zeroAt r.params 14 2 = true) (hflags : (parseFrame r.params).scFlags.toNat ≤ 3)
    (hsel : (parseFrame r.params).selMode.toNat ≤ 2) (hcn : thresholdOk (parseFrame r.params).confirmN = true)
    (hln : thresholdOk (parseFrame r.params).lofN = true) (hkey : (parseFrame r.params).scKey.toNat ≤ 65536)
    (hks : (parseFrame r.params).scKey ≠ 0 → s.holdsKs r.port ((parseFrame r.params).scKey.toNat - 1) 1 = true) :
    frameConfigWriteBody r s = guards [(s.holdsScope 2 e.val, .busy)]
      (.ok .ok [] (s.stage e fun p => { p with frame := parseFrame r.params })) := by
  obtain ⟨hform, hfield, hhas, hholds⟩ := hn.checks
  rw [frameConfigWriteBody, hfield, engOf_val]
  refine guards_pastTenancy ?_ ?_ ?_ _ _
  · simp [hform, hz1, hz2, hflags, hsel]
  · simp [hhas, hcn, hln, hkey]
  · simpa [hholds] using hks

theorem slotmapWriteBody_formed (hn : NamesEngine r s e 132) (hz : zeroAt r.params 2 2 = true)
    (hlanes : ∀ b ∈ slice r.params 4 128, b.toNat ≤ s.laneCount) (hgen : (parseMap r.params).mapgen.toNat ≤ 15) :
    slotmapWriteBody r s = guards [(s.holdsScope 1 e.val, .busy)]
      (.ok .ok [] (s.stage e fun p => { p with slotmap := parseMap r.params })) := by
  obtain ⟨hform, hfield, hhas, hholds⟩ := hn.checks
  obtain ⟨⟨-, hlen⟩, -⟩ := hn
  have hsmall : ∀ b ∈ slice r.params 4 128, b.toNat ≤ 64 := fun b hb => (hlanes b hb).trans s.laneCount_le
  have hnamed : ∀ b ∈ slice r.params 4 128, b ≠ 0 → s.hasLane (b.toNat - 1) = true :=
    fun b hb h0 => State.hasLane_pred h0 (hlanes b hb)
  rw [slotmapWriteBody, hfield, engOf_val, parseMap_entries hlen]
  refine guards_pastTenancy ?_ ?_ ?_ _ _
  · simpa [hform, hz] using hsmall
  · simpa [hhas, hgen] using hnamed
  · simp [hholds]

end

/-- Settles O14: each write's checks pass down to the scope's hold, which is free, so what is left is its staging. -/
theorem engineConfigWritesComplete : Obligations.EngineConfigWritesComplete := by
  unfold Obligations.EngineConfigWritesComplete
  refine fun r s e hx => ⟨?tx, ?rx, ?cal, ?fec, ?profile, ?frame, ?map⟩
  case tx =>
    intro hn hz hr hfree
    exact opcode_stages hx (txConfigWriteBody_formed (hn.takeRequest _ r) hz hr) (by simpa using hfree)
  case rx =>
    intro hn hz1 hz2 hcd hflags htaps hr hfree
    exact opcode_stages hx (rxConfigWriteBody_formed (hn.takeRequest _ r) hz1 hz2 hcd hflags htaps hr)
      (by simpa using hfree)
  case cal =>
    intro hn hz1 hz2 hadc hdac hatt hr hfree
    exact opcode_stages hx (calConfigWriteBody_formed (hn.takeRequest _ r) hz1 hz2 hadc hdac hatt hr)
      (by simpa using hfree)
  case fec =>
    intro w i flags hp hn hw hi hflags hfree
    exact opcode_stages hx (fecConfigWriteBody_formed hp (hn.takeRequest _ r) hw hi hflags) (by simpa using hfree)
  case profile =>
    intro hn hz hb hfree hcal
    exact opcode_stages hx (profileWriteBody_formed (hn.takeRequest _ r) hz hb)
      (by rcases hcal with h | h <;> simp [hfree, h])
  case frame =>
    intro hn hz1 hz2 hflags hsel hcn hln hkey hks hfree
    exact opcode_stages hx (frameConfigWriteBody_formed (hn.takeRequest _ r) hz1 hz2 hflags hsel hcn hln hkey
      (by simpa using hks)) (by simpa using hfree)
  case map =>
    intro hn hz hlanes hgen hfree
    exact opcode_stages hx (slotmapWriteBody_formed (hn.takeRequest _ r) hz hlanes hgen) (by simpa using hfree)

end Sys2Proof.Machine
end

section
/-! SUPPORT. Which event queues are crowded: no operation but taking records off a queue, and no reset, moves a queue across
its bound of 256 records (R56, R57). -/

namespace Sys2Proof.Machine

/-! ## What executing a request does to a view of the state -/

section
variable {β : Type} {g : State → β} {Q : β → β → Prop} {op : BitVec 16} {v : Bool} {r : Request} {s : State}

/-- A view of the state in which neither taking a request off its queue, nor its reply, nor its running on shows. -/
structure IgnoresServing (g : State → β) : Prop where
  take : ∀ s op r, g (s.takeRequest op r) = g s
  conclude : ∀ s op r st data, g (s.conclude op r st data) = g s
  runOn : ∀ s op r, g (s.runOn op r) = g s

/-- An answer's state, where it has one, stands to `s` in a relation of their views. -/
def Answer.Leads (g : State → β) (Q : β → β → Prop) (s : State) : Answer → Prop
  | .fail _ _ => True
  | .ok _ _ t => Q (g s) (g t)
  | .later t => Q (g s) (g t)

/-- An answer behind checks: where they refuse, there is no state. -/
theorem guards_leads_of_pass {a : Answer} (l : List (Bool × Status))
    (h : (∀ x ∈ l, x.1 = false) → a.Leads g Q s) : (guards l a).Leads g Q s := by
  induction l with
  | nil => exact h (by simp)
  | cons x xs ih =>
    obtain ⟨b, st⟩ := x
    cases b with
    | true => trivial
    | false => exact ih fun hx => h (by simpa using hx)

theorem guards_leads {a : Answer} (l : List (Bool × Status)) (h : a.Leads g Q s) : (guards l a).Leads g Q s :=
  guards_leads_of_pass l fun _ => h

/-- What a request's effect does to the view, its execution does. -/
theorem opcode_leads (hg : IgnoresServing g) (hrefl : Q (g s) (g s)) {body : State → Answer}
    (hb : ∀ s, (body s).Leads g Q s) : ∃ t, opcode op v r s body = .next t ∧ Q (g s) (g t) := by
  have hb := hb (s.takeRequest op r)
  rcases opcode_cases op v r s body with ⟨-, h⟩ | ⟨st, data, h⟩ | ⟨st, data, t, h1, h⟩ | ⟨t, h1, h⟩
  · exact ⟨s, h, hrefl⟩
  · exact ⟨_, h, by rwa [hg.conclude, hg.take]⟩
  · exact ⟨_, h, by rwa [h1, Answer.Leads, hg.take, ← hg.conclude t op r st data] at hb⟩
  · exact ⟨_, h, by rwa [h1, Answer.Leads, hg.take, ← hg.runOn t op r] at hb⟩

end

/-! ## Crowded event queues -/

/-- Which ports' event queues hold more than their 256 records (R56). -/
def crowded (ports : Vector Port 4) : Vector Bool 4 := ports.map fun p => decide (256 < p.events.length)

theorem State.eventsOk_iff (s : State) : s.eventsOk ↔ crowded s.ports = Vector.replicate 4 false := by
  rw [Vector.ext_iff]
  simp only [State.eventsOk, State.port, crowded, Vector.getElem_map, Vector.getElem_replicate,
    decide_eq_false_iff_not, not_lt]
  exact ⟨fun h i hi => h ⟨i, hi⟩, fun h p => h p.val p.isLt⟩

/-- A change of one port that leaves its queue crowded or not, as it was. -/
@[simp] theorem State.updPort_crowded (s : State) (p : Hp) (f : Port → Port)
    (h : ∀ q, 256 < (f q).events.length ↔ 256 < q.events.length) :
    crowded (s.updPort p f).ports = crowded s.ports :=
  vector_map_set s.ports p (f s.ports[p]) (fun q => decide (256 < q.events.length)) (by simp [h])

/-- A change of every port that leaves its queue crowded or not, as it was. -/
@[simp] theorem crowded_map (ports : Vector Port 4) (f : Port → Port)
    (h : ∀ q, 256 < (f q).events.length ↔ 256 < q.events.length) : crowded (ports.map f) = crowded ports := by
  simp [crowded, h]

theorem insertEvent_length (e : Event) (l : List Event) : (insertEvent e l).length = l.length + 1 := by
  induction l with
  | nil => rfl
  | cons x xs ih => unfold insertEvent; split <;> simp [ih]

/-- A record joins a queue only where there is room for it (R57). -/
@[simp] theorem Port.pushEvent_crowded (p : Port) (e : Event) :
    256 < (p.pushEvent e).events.length ↔ 256 < p.events.length := by
  unfold Port.pushEvent
  split
  · rfl
  · dsimp only
    split <;> simp only [Port.requestIbi_events, insertEvent_length] <;> omega

@[simp] theorem foldl_crowded {α : Type} (l : List α) (f : State → α → State)
    (h : ∀ s x, crowded (f s x).ports = crowded s.ports) (s : State) :
    crowded (l.foldl f s).ports = crowded s.ports :=
  foldl_keeps (fun s => crowded s.ports) h l s

@[simp] theorem ite_crowded (c : Prop) [Decidable c] (s t : State) :
    crowded (if c then s else t).ports = if c then crowded s.ports else crowded t.ports :=
  apply_ite (fun s : State => crowded s.ports) c s t

@[simp] theorem foldl_updEng_crowded {α : Type} (l : List α) (e : α → Eng) (f : State → α → Engine → Engine)
    (s : State) : crowded (l.foldl (fun s a => s.updEng (e a) (f s a)) s).ports = crowded s.ports :=
  foldl_crowded l _ (by intros; rfl) s

@[simp] theorem foldl_updLane_crowded {α : Type} (l : List α) (n : α → LaneNo) (f : State → α → Lane → Lane)
    (s : State) : crowded (l.foldl (fun s a => s.updLane (n a) (f s a)) s).ports = crowded s.ports :=
  foldl_crowded l _ (by intros; rfl) s

@[simp] theorem foldl_updCport_crowded {α : Type} (l : List α) (c : α → Cp) (f : State → α → Cport → Cport)
    (s : State) : crowded (l.foldl (fun s a => s.updCport (c a) (f s a)) s).ports = crowded s.ports :=
  foldl_crowded l _ (by intros; rfl) s

@[simp] theorem foldl_setSlot_crowded {α : Type} (l : List α) (n : α → Nat) (k : State → α → KeySlot)
    (s : State) : crowded (l.foldl (fun s a => s.setSlot (n a) (k s a)) s).ports = crowded s.ports :=
  foldl_crowded l _ (by intros; rfl) s

@[simp] theorem State.skip_crowded (s : State) : crowded s.skip.ports = crowded s.ports := by simp [State.skip]

@[simp] theorem State.count_crowded (s : State) (k : CounterKind) (inst n : Nat) :
    crowded (s.count k inst n).ports = crowded s.ports := by simp [State.count]

@[simp] theorem State.deliver_crowded (s : State) (pl : Place) (ev : Event) (p : Hp) :
    crowded (s.deliver pl ev p).ports = crowded s.ports := by simp [State.deliver]

@[simp] theorem State.noteFlight_crowded (s : State) (code : BitVec 16) :
    crowded (s.noteFlight code).ports = crowded s.ports := by simp [State.noteFlight]

@[simp] theorem State.raise_crowded (s : State) (code : BitVec 16) (pl : Place) (data : Bytes) :
    crowded (s.raise code pl data).ports = crowded s.ports := by simp [State.raise]

@[simp] theorem State.cmdDone_crowded (s : State) (d : Deferred) (st : Status) :
    crowded (s.cmdDone d st).ports = crowded s.ports := by simp [State.cmdDone]

@[simp] theorem State.expressWork_crowded (s : State) (d : Dir) (js : List Job) (blocks : Nat) :
    crowded (s.expressWork d js blocks).ports = crowded s.ports := by
  unfold State.expressWork
  dsimp only
  split <;> simp

@[simp] theorem State.cmacWork_crowded (s : State) (key : Bytes) (n : Nat) :
    crowded (s.cmacWork key n).ports = crowded s.ports := by simp [State.cmacWork]

@[simp] theorem State.authWork_crowded (s : State) (a : Option AuthContext) (n : Nat) :
    crowded (s.authWork a n).ports = crowded s.ports := by
  unfold State.authWork
  (repeat' split) <;> simp

@[simp] theorem State.journalled_crowded (s : State) : crowded s.journalled.ports = crowded s.ports := by
  simp [State.journalled]

@[simp] theorem State.conclude_crowded (s : State) (op : BitVec 16) (r : Request) (st : Status) (data : Bytes) :
    crowded (s.conclude op r st data).ports = crowded s.ports := by simp [State.conclude]

@[simp] theorem State.takeRequest_crowded (s : State) (op : BitVec 16) (r : Request) :
    crowded (s.takeRequest op r).ports = crowded s.ports := by simp [State.takeRequest]

@[simp] theorem State.runOn_crowded (s : State) (op : BitVec 16) (r : Request) :
    crowded (s.runOn op r).ports = crowded s.ports := by simp [State.runOn]

@[simp] theorem State.rehold_crowded (s : State) (e : Eng) (cause : Byte) :
    crowded (s.rehold e cause).ports = crowded s.ports := by simp [State.rehold]

@[simp] theorem State.reholdDark_crowded (s : State) (e : Eng) : crowded
    (s.reholdDark e).ports = crowded s.ports := by
  simp [State.reholdDark]

@[simp] theorem State.maskSmall_crowded (s : State) (e : Eng) : crowded (s.maskSmall e).ports = crowded s.ports := by
  simp [State.maskSmall]

@[simp] theorem State.lofRaise_crowded (s : State) (e : Eng) : crowded (s.lofRaise e).ports = crowded s.ports := by
  simp [State.lofRaise]

@[simp] theorem State.lofClear_crowded (s : State) (e : Eng) (data : Bytes) :
    crowded (s.lofClear e data).ports = crowded s.ports := by simp [State.lofClear]

@[simp] theorem State.deframerOff_crowded (s : State) (e : Eng) : crowded
    (s.deframerOff e).ports = crowded s.ports := by
  simp [State.deframerOff]

@[simp] theorem State.setLos_crowded (s : State) (e : Eng) (on : Bool) :
    crowded (s.setLos e on).ports = crowded s.ports := by simp [State.setLos]

@[simp] theorem State.fecReset_crowded (s : State) (e : Eng) : crowded (s.fecReset e).ports = crowded s.ports := by
  simp [State.fecReset]

@[simp] theorem State.rxOff_crowded (s : State) (e : Eng) : crowded (s.rxOff e).ports = crowded s.ports := by
  simp [State.rxOff]

@[simp] theorem State.rxWait_crowded (s : State) (e : Eng) : crowded (s.rxWait e).ports = crowded s.ports := by
  simp [State.rxWait]

@[simp] theorem State.relock_crowded (s : State) (e : Eng) (cause left : Byte) :
    crowded (s.relock e cause left).ports = crowded s.ports := by simp [State.relock]

@[simp] theorem State.rxFreq_crowded (s : State) (e : Eng) (fast : Bool) :
    crowded (s.rxFreq e fast).ports = crowded s.ports := by simp [State.rxFreq]

@[simp] theorem State.twinFollow_crowded (s : State) : crowded s.twinFollow.ports = crowded s.ports := by
  simp [State.twinFollow]

@[simp] theorem State.txStart_crowded (s : State) (e : Eng) (lead : BitVec 32) :
    crowded (s.txStart e lead).ports = crowded s.ports := by simp [State.txStart]

@[simp] theorem State.txEnable_crowded (s : State) (e : Eng) (newFn : Bool) (lead : BitVec 32) :
    crowded (s.txEnable e newFn lead).ports = crowded s.ports := by simp [State.txEnable]

@[simp] theorem State.txStop_crowded (s : State) (e : Eng) : crowded (s.txStop e).ports = crowded s.ports := by
  simp [State.txStop]

@[simp] theorem State.fastQuench_crowded (s : State) (e : Eng) (reason : Byte) (ended : Bool) :
    crowded (s.fastQuench e reason ended).ports = crowded s.ports := by simp [State.fastQuench]

@[simp] theorem State.quench_crowded (s : State) (e : Eng) (reason : Byte) :
    crowded (s.quench e reason).ports = crowded s.ports := by
  unfold State.quench
  dsimp only
  split <;> simp

@[simp] theorem State.txPrepare_crowded (s : State) (e : Eng) (old new : EngineParams) :
    crowded (s.txPrepare e old new).ports = crowded s.ports := by simp [State.txPrepare]

@[simp] theorem State.txLeave_crowded (s : State) (e : Eng) (old : EngineParams) :
    crowded (s.txLeave e old).ports = crowded s.ports := by
  unfold State.txLeave
  dsimp only
  split <;> simp

@[simp] theorem State.txEnter_crowded (s : State) (e : Eng) : crowded (s.txEnter e).ports = crowded s.ports := by
  unfold State.txEnter
  dsimp only
  split <;> simp

@[simp] theorem State.txSwitch_crowded (s : State) (e : Eng) (old new : EngineParams) :
    crowded (s.txSwitch e old new).ports = crowded s.ports := by simp [State.txSwitch]

@[simp] theorem State.txApply_crowded (s : State) (e : Eng) (old new : EngineParams) :
    crowded (s.txApply e old new).ports = crowded s.ports := by simp [State.txApply]

@[simp] theorem State.fecEffort_crowded (s : State) (e : Eng) : crowded (s.fecEffort e).ports = crowded s.ports := by
  simp [State.fecEffort]

@[simp] theorem State.idleEffort_crowded (s : State) (e : Eng) : crowded
    (s.idleEffort e).ports = crowded s.ports := by
  simp [State.idleEffort]

@[simp] theorem State.linkApply_crowded (s : State) (e : Eng) (new : EngineParams) :
    crowded (s.linkApply e new).ports = crowded s.ports := by simp [State.linkApply]

@[simp] theorem State.rxPrepare_crowded (s : State) (e : Eng) (old new : EngineParams) :
    crowded (s.rxPrepare e old new).ports = crowded s.ports := by simp [State.rxPrepare]

@[simp] theorem State.rxSwitch_crowded (s : State) (e : Eng) (old new : EngineParams) :
    crowded (s.rxSwitch e old new).ports = crowded s.ports := by simp [State.rxSwitch]

@[simp] theorem State.rxApply_crowded (s : State) (e : Eng) (old new : EngineParams) :
    crowded (s.rxApply e old new).ports = crowded s.ports := by simp [State.rxApply]

@[simp] theorem State.atBoundary_crowded (s : State) (f : State → State) (h : ∀ x, crowded
    (f x).ports = crowded x.ports) :
    crowded (s.atBoundary f).ports = crowded s.ports := by
  unfold State.atBoundary; exact (h _)

@[simp] theorem State.keepCal_crowded (s : State) (e : Eng) (classes : BitVec 16) :
    crowded (s.keepCal e classes).ports = crowded s.ports := by simp [State.keepCal]

@[simp] theorem State.setAdc_crowded (s : State) (e : Eng) (conv : Fin 4) (a : Adc) :
    crowded (s.setAdc e conv a).ports = crowded s.ports := by simp [State.setAdc]

@[simp] theorem State.calVerdict_crowded (s : State) (e : Eng) (conv : Fin 4) (a : Adc) (t : Fin 256) :
    crowded (s.calVerdict e conv a t).ports = crowded s.ports := by
  unfold State.calVerdict
  (repeat' split) <;> simp

@[simp] theorem State.adcApply_crowded (s : State) (e : Eng) (conv : Fin 4) :
    crowded (s.adcApply e conv).ports = crowded s.ports := by
  unfold State.adcApply
  dsimp only
  (repeat' split) <;> simp

@[simp] theorem State.dacApply_crowded (s : State) (e : Eng) (d : Fin 4) :
    crowded (s.dacApply e d).ports = crowded s.ports := by
  unfold State.dacApply
  dsimp only
  split <;> simp

@[simp] theorem State.calHold_crowded (s : State) (e : Eng) (on : Bool) :
    crowded (s.calHold e on).ports = crowded s.ports := by simp [State.calHold]

@[simp] theorem State.updChannel_crowded (s : State) (c : Fin 8) (f : Channel → Channel) :
    crowded (s.updChannel c f).ports = crowded s.ports := by simp [State.updChannel]

@[simp] theorem State.putWord_crowded (s : State) (wa : Nat) (w : MemWord) :
    crowded (s.putWord wa w).ports = crowded s.ports := by simp [State.putWord]

@[simp] theorem State.memWrite_crowded (s : State) (wa : Nat) (d : BitVec 128) :
    crowded (s.memWrite wa d).ports = crowded s.ports := by simp [State.memWrite]

@[simp] theorem State.updLine_crowded (s : State) (n : Nat) (f : CacheLine → CacheLine) :
    crowded (s.updLine n f).ports = crowded s.ports := by simp [State.updLine]

@[simp] theorem State.mergeWrite_crowded (s : State) (wa : Nat) (d : BitVec 128) (mask : BitVec 16) :
    crowded (s.mergeWrite wa d mask).ports = crowded s.ports := by
  unfold State.mergeWrite
  dsimp only
  split <;> simp

@[simp] theorem State.markInvalid_crowded (s : State) (n : Nat) : crowded
    (s.markInvalid n).ports = crowded s.ports := by
  unfold State.markInvalid
  dsimp only
  split <;> simp

@[simp] theorem State.lostWord_crowded (s : State) (wa : Nat) (stored : BitVec 128) :
    crowded (s.lostWord wa stored).1.ports = crowded s.ports := by
  unfold State.lostWord
  dsimp only
  (repeat' split) <;> simp

@[simp] theorem State.logError_crowded (s : State) (x : MemLogEntry) :
    crowded (s.logError x).ports = crowded s.ports := by simp [State.logError]

@[simp] theorem State.wordCorrected_crowded (s : State) (wa : Nat) (d : BitVec 128) :
    crowded (s.wordCorrected wa d).ports = crowded s.ports := by simp [State.wordCorrected]

@[simp] theorem State.memRead_crowded (s : State) (wa : Nat) (reader : Byte) :
    crowded (s.memRead wa reader).1.ports = crowded s.ports := by
  unfold State.memRead
  dsimp only
  (repeat' split) <;> simp

@[simp] theorem State.retire_crowded (s : State) (m : MergeEntry) : crowded (s.retire m).ports = crowded s.ports := by
  simp [State.retire]

@[simp] theorem State.sweepDone_crowded (s : State) (time : Bytes) :
    crowded (s.sweepDone time).ports = crowded s.ports := by simp [State.sweepDone]

@[simp] theorem State.eddyAdvance_crowded (s : State) : crowded s.eddyAdvance.ports = crowded s.ports := by
  simp [State.eddyAdvance]

@[simp] theorem State.setSlot_crowded (s : State) (n : Nat) (k : KeySlot) :
    crowded (s.setSlot n k).ports = crowded s.ports := by simp [State.setSlot]

@[simp] theorem State.deriveWork_crowded (s : State) (label : Bytes) :
    crowded (s.deriveWork label).ports = crowded s.ports := by simp [State.deriveWork]

@[simp] theorem State.unwrap_crowded (s : State) (p : Hp) (kind : Byte) (slot : Nat) (gen : BitVec 16)
    (blob : Bytes) :
    crowded (s.unwrap p kind slot gen blob).1.ports = crowded s.ports := by
  unfold State.unwrap
  dsimp only
  (repeat' split) <;> simp

@[simp] theorem State.loadKeys_crowded (s : State) (vs : List (Nat × KeyValue)) :
    crowded (s.loadKeys vs).ports = crowded s.ports := by simp [State.loadKeys]

@[simp] theorem State.keysUsable_crowded (s : State) (p : Hp) (slots : List Nat) :
    crowded (s.keysUsable p slots).ports = crowded s.ports := by
  unfold State.keysUsable
  dsimp only
  split <;> simp

@[simp] theorem State.restartCipher_crowded (s : State) (n : Nat) (tx : Bool) :
    crowded (s.restartCipher n tx).ports = crowded s.ports := by simp [State.restartCipher]

@[simp] theorem State.rewriteTx_crowded (s : State) (n : Nat) : crowded (s.rewriteTx n).ports = crowded s.ports := by
  unfold State.rewriteTx
  dsimp only
  split <;> simp

@[simp] theorem State.rewriteRx_crowded (s : State) (n : Nat) : crowded (s.rewriteRx n).ports = crowded s.ports := by
  simp [State.rewriteRx]

@[simp] theorem State.noteRewrite_crowded (s : State) (tok : BitVec 32) (slots : List Nat) :
    crowded (s.noteRewrite tok slots).ports = crowded s.ports := by simp [State.noteRewrite]

@[simp] theorem State.retireToken_crowded (s : State) (tok : BitVec 32) :
    crowded (s.retireToken tok).ports = crowded s.ports := by simp [State.retireToken]

@[simp] theorem State.keysTx_crowded (s : State) (tok : BitVec 32) : crowded
    (s.keysTx tok).ports = crowded s.ports := by
  simp [State.keysTx]

@[simp] theorem State.stampRewrites_crowded (s : State) (p : Rewrite → Bool) :
    crowded (s.stampRewrites p).ports = crowded s.ports := by simp [State.stampRewrites]

@[simp] theorem State.keysRx_crowded (s : State) (tok : BitVec 32) : crowded
    (s.keysRx tok).ports = crowded s.ports := by
  simp [State.keysRx]

@[simp] theorem State.keysBoth_crowded (s : State) (slots : List Nat) :
    crowded (s.keysBoth slots).ports = crowded s.ports := by simp [State.keysBoth]

@[simp] theorem State.endRewrite_crowded (s : State) (w : Rewrite) :
    crowded (s.endRewrite w).ports = crowded s.ports := by
  unfold State.endRewrite
  dsimp only
  split <;> simp

@[simp] theorem State.erasePoint_crowded (s : State) (j : EraseJob) :
    crowded (s.erasePoint j).ports = crowded s.ports := by
  unfold State.erasePoint; exact foldl_crowded _ _ (fun _ _ => by simp) s

@[simp] theorem State.erasePoints_crowded (s : State) : crowded s.erasePoints.ports = crowded s.ports := by
  simp [State.erasePoints]

@[simp] theorem State.eraseDone_crowded (s : State) (j : EraseJob) :
    crowded (s.eraseDone j).ports = crowded s.ports := by
  unfold State.eraseDone; simp only [State.cmdDone_crowded, State.raise_crowded]; exact foldl_crowded _ _
    (fun _ _ => by simp) s

@[simp] theorem State.takePortKey_crowded (s : State) (p : Hp) (kind : Byte) (key : Bytes) :
    crowded (s.takePortKey p kind key).ports = crowded s.ports := by
  unfold State.takePortKey
  dsimp only
  split <;> simp

@[simp] theorem State.erasePortKeys_crowded (s : State) (p : Hp) (kek cak : Bool) :
    crowded (s.erasePortKeys p kek cak).ports = crowded s.ports := by simp [State.erasePortKeys]

@[simp] theorem State.updDir_crowded (s : State) (d : Dir) (f : FlowDir → FlowDir) :
    crowded (s.updDir d f).ports = crowded s.ports := by
  unfold State.updDir
  dsimp only
  split <;> simp

@[simp] theorem State.readWord_crowded (s : State) (wa : Nat) (reader : Byte) :
    crowded (s.readWord wa reader).1.ports = crowded s.ports := by
  unfold State.readWord
  dsimp only
  split <;> simp

@[simp] theorem State.findKey_crowded (s : State) (k : Bytes) (reader : Byte) (l : List Nat) :
    crowded (s.findKey k reader l).1.ports = crowded s.ports := by
  induction l generalizing s with
  | nil => rfl
  | cons wa rest ih =>
    unfold State.findKey; split
    · dsimp only; split
      · split
        · simp
        · rw [ih]; simp
      · rw [ih]; simp
    · rw [ih]

@[simp] theorem State.fetchHot_crowded (s : State) (n : Nat) : crowded (s.fetchHot n).1.ports = crowded s.ports := by
  unfold State.fetchHot
  dsimp only
  split <;> simp

@[simp] theorem State.foldDrop_crowded (s : State) (n w : Nat) (o delta ovfBit : Nat) :
    crowded (s.foldDrop n w o delta ovfBit).1.ports = crowded s.ports := by
  unfold State.foldDrop
  dsimp only
  split <;> simp

@[simp] theorem State.writeBack_crowded (s : State) (l : CacheLine) :
    crowded (s.writeBack l).ports = crowded s.ports := by simp [State.writeBack]

@[simp] theorem State.evict_crowded (s : State) (d : Dir) : crowded (s.evict d).ports = crowded s.ports := by
  unfold State.evict
  (repeat' split) <;> simp

@[simp] theorem State.uncache_crowded (s : State) (n : Nat) : crowded (s.uncache n).ports = crowded s.ports := by
  unfold State.uncache
  (repeat' split) <;> simp

@[simp] theorem State.install_crowded (s : State) (d : Dir) (n : Nat) :
    crowded (s.install d n).ports = crowded s.ports := by
  unfold State.install
  dsimp only
  split <;> simp

@[simp] theorem State.useHot_crowded (s : State) (n : Nat) : crowded (s.useHot n).1.ports = crowded s.ports := by
  unfold State.useHot
  (repeat' split) <;> simp

@[simp] theorem State.touch_crowded (s : State) (n : Nat) : crowded (s.touch n).ports = crowded s.ports := by
  simp [State.touch]

@[simp] theorem State.setHot_crowded (s : State) (n : Nat) (h : Hot) :
    crowded (s.setHot n h).ports = crowded s.ports := by
  unfold State.setHot
  (repeat' split) <;> simp

@[simp] theorem State.addEntry_crowded (s : State) (e : Bytes) : crowded (s.addEntry e).ports = crowded s.ports := by
  unfold State.addEntry
  dsimp only
  split <;> simp

@[simp] theorem State.dropEntry_crowded (s : State) (e : Bytes) : crowded
    (s.dropEntry e).ports = crowded s.ports := by
  unfold State.dropEntry
  dsimp only
  split <;> simp

@[simp] theorem State.clearCold_crowded (s : State) (n : Nat) : crowded (s.clearCold n).ports = crowded s.ports := by
  simp [State.clearCold]

@[simp] theorem State.setFlags_crowded (s : State) (n : Nat) (flags : Byte) :
    crowded (s.setFlags n flags).ports = crowded s.ports := by
  unfold State.setFlags
  dsimp only
  split <;> simp

@[simp] theorem State.loadCtx_crowded (s : State) (n : Nat) (h : Hot) (flags : Byte) (reload : Bool) :
    crowded (s.loadCtx n h flags reload).ports = crowded s.ports := by simp [State.loadCtx]

@[simp] theorem State.rekeyCtx_crowded (s : State) (e : Bytes) : crowded (s.rekeyCtx e).ports = crowded s.ports := by
  simp [State.rekeyCtx]

@[simp] theorem State.flowOp_crowded (s : State) (op : FlowOp) : crowded (s.flowOp op).ports = crowded s.ports := by
  unfold State.flowOp
  (repeat' split) <;> simp

@[simp] theorem State.flowsCommit_crowded (s : State) (tok : BitVec 32) (egress : Bool) :
    crowded (s.flowsCommit tok egress).ports = crowded s.ports := by simp [State.flowsCommit]

@[simp] theorem State.seekAll_crowded (s : State) (es : List Bytes) :
    crowded (s.seekAll es).ports = crowded s.ports := by simp [State.seekAll]

@[simp] theorem State.touchAll_crowded (s : State) (es : List Bytes) :
    crowded (s.touchAll es).ports = crowded s.ports := by simp [State.touchAll]

@[simp] theorem State.fillDone_crowded (s : State) (j : FillJob) : crowded
    (s.fillDone j).ports = crowded s.ports := by
  have h (f : Hot) (l : List Nat) (a : State × Bool) :
      crowded (l.foldl (fun a i => fillStep f j.flags a (j.first + i)) a).1.ports = crowded a.1.ports :=
    foldl_keeps (fun a : State × Bool => crowded a.1.ports)
    (fun a i => by unfold fillStep; dsimp only; split <;> simp) l a
  simp [State.fillDone, h]

@[simp] theorem State.ctxReadWord_crowded (s : State) (n w : Nat) :
    crowded (s.ctxReadWord n w).1.ports = crowded s.ports := by
  unfold State.ctxReadWord
  dsimp only
  (repeat' split) <;> simp

@[simp] theorem State.countTiles_crowded (s : State) (e : Eng) (d : Dir) (cls n : Nat) :
    crowded (s.countTiles e d cls n).ports = crowded s.ports := by simp [State.countTiles]

@[simp] theorem State.settleTiles_crowded (s : State) (c : Cp) (keep : Option Nat) :
    crowded (s.settleTiles c keep).ports = crowded s.ports := by simp [State.settleTiles]

@[simp] theorem State.fateTiles_crowded (s : State) (c : Cp) (ids : List Nat) (cls : Nat) (keep : Option Nat) :
    crowded (s.fateTiles c ids cls keep).ports = crowded s.ports := by simp [State.fateTiles]

@[simp] theorem State.selectTag_crowded (s : State) (c : Cp) (d : Dir) (len : Nat) (t1 : BitVec 48) :
    crowded (s.selectTag c d len t1).1.ports = crowded s.ports := by
  unfold State.selectTag
  dsimp only
  (repeat' split) <;> simp

@[simp] theorem State.logTag_crowded (s : State) (x : TagEntry) : crowded (s.logTag x).ports = crowded s.ports := by
  simp [State.logTag]

@[simp] theorem State.finishTag_crowded (s : State) (mark : Option TagMark) (c : Cp) (d : Dir) (native : Bool)
    (drop : Nat) :
    crowded (s.finishTag mark c d native drop).ports = crowded s.ports := by
  unfold State.finishTag
  dsimp only
  split <;> simp

@[simp] theorem State.updDomain_crowded (s : State) (d : Fin 2) (f : Domain → Domain) :
    crowded (s.updDomain d f).ports = crowded s.ports := by simp [State.updDomain]

@[simp] theorem State.updTpo_crowded (s : State) (n : Fin 4) (f : Tpo → Tpo) :
    crowded (s.updTpo n f).ports = crowded s.ports := by simp [State.updTpo]

@[simp] theorem State.tpoForward_crowded (s : State) (n : Fin 4) (now : Nat) :
    crowded (s.tpoForward n now).ports = crowded s.ports := by simp [State.tpoForward]

@[simp] theorem State.tpoStep_crowded (s : State) (d : Fin 2) (amount : Int) :
    crowded (s.tpoStep d amount).ports = crowded s.ports := by
  unfold State.tpoStep; apply foldl_crowded; intro s n; dsimp only; (repeat' split) <;> simp

@[simp] theorem State.lateCommits_crowded (s : State) (old new : Nat) :
    crowded (s.lateCommits old new).ports = crowded s.ports := by simp [State.lateCommits]

@[simp] theorem State.stepDomain_crowded (s : State) (d : Fin 2) (amount : Int) (cause : Byte) :
    crowded (s.stepDomain d amount cause).ports = crowded s.ports := by simp [State.stepDomain]

@[simp] theorem State.advanceTime_crowded (s : State) : crowded s.advanceTime.ports = crowded s.ports := by
  simp [State.advanceTime]

@[simp] theorem State.servoSteps_crowded (s : State) : crowded s.servoSteps.ports = crowded s.ports := by
  unfold State.servoSteps; apply foldl_crowded; intro s d; split <;> simp

@[simp] theorem State.servoOffset_crowded (s : State) (d : Fin 2) (off : Int) :
    crowded (s.servoOffset d off).ports = crowded s.ports := by
  unfold State.servoOffset
  dsimp only
  split <;> simp

@[simp] theorem State.servoSync_crowded (s : State) (d : Fin 2) (x : SyncStamp) :
    crowded (s.servoSync d x).ports = crowded s.ports := by
  unfold State.servoSync
  dsimp only
  split <;> simp

@[simp] theorem State.servoDelay_crowded (s : State) (d : Fin 2) (seq : BitVec 16) (t4 correction : Int) :
    crowded (s.servoDelay d seq t4 correction).ports = crowded s.ports := by
  unfold State.servoDelay
  dsimp only
  split <;> simp

@[simp] theorem State.modeCommit_crowded (s : State) (d : Fin 2) (old : TdBlock) :
    crowded (s.modeCommit d old).ports = crowded s.ports := by
  unfold State.modeCommit
  dsimp only
  (repeat' split) <;> simp

@[simp] theorem State.stopOutputTpos_crowded (s : State) : crowded s.stopOutputTpos.ports = crowded s.ports := by
  simp [State.stopOutputTpos]

@[simp] theorem State.outSrcCommit_crowded (s : State) (before : Option Nat) (new : TdConfig) :
    crowded (s.outSrcCommit before new).ports = crowded s.ports := by simp [State.outSrcCommit]

@[simp] theorem State.timeCommit_crowded (s : State) : crowded s.timeCommit.ports = crowded s.ports := by
  simp [State.timeCommit]

@[simp] theorem State.logPtp_crowded (s : State) (x : TsEntry) : crowded (s.logPtp x).ports = crowded s.ports := by
  simp [State.logPtp]

@[simp] theorem State.unmeasured_crowded (s : State) (c : Cp) : crowded (s.unmeasured c).ports = crowded s.ports := by
  simp [State.unmeasured]

@[simp] theorem State.stampLog_crowded (s : State) (d : Dir) (c : Cp) (f : Bytes) (o : Nat) (i : Instants) :
    crowded (s.stampLog d c f o i).ports = crowded s.ports := by
  unfold State.stampLog
  dsimp only
  split <;> simp

@[simp] theorem State.rewritePtp_crowded (s : State) (d : Dir) (c : Cp) (f : Bytes) (o : Nat) (i : Instants) :
    crowded (s.rewritePtp d c f o i).1.ports = crowded s.ports := by
  unfold State.rewritePtp
  dsimp only
  (repeat' split) <;> simp

@[simp] theorem State.servoMessage_crowded (s : State) (td : Fin 2) (d : Dir) (c : Cp) (f : Bytes) (o : Nat)
    (i : Instants) :
    crowded (s.servoMessage td d c f o i).ports = crowded s.ports := by
  unfold State.servoMessage
  dsimp only
  (repeat' split) <;> simp

@[simp] theorem State.ptp_crowded (s : State) (d : Dir) (c : Cp) (f : Bytes) (i : Instants) :
    crowded (s.ptp d c f i).1.ports = crowded s.ports := by
  unfold State.ptp
  dsimp only
  (repeat' split) <;> simp

@[simp] theorem State.setOvf_crowded (s : State) (n : Nat) (bits : Byte) :
    crowded (s.setOvf n bits).ports = crowded s.ports := by simp [State.setOvf]

@[simp] theorem State.countDrop_crowded (s : State) (n : Nat) (w : FlowDrop) :
    crowded (s.countDrop n w).ports = crowded s.ports := by
  unfold State.countDrop
  dsimp only
  (repeat' split) <;> simp

@[simp] theorem State.countBin_crowded (s : State) (n len : Nat) :
    crowded (s.countBin n len).ports = crowded s.ports := by simp [State.countBin]

@[simp] theorem State.countForward_crowded (s : State) (d : Dir) (n frames octets : Nat) :
    crowded (s.countForward d n frames octets).ports = crowded s.ports := by simp [State.countForward]

@[simp] theorem State.countFrame_crowded (s : State) (d : Dir) (n len : Nat) :
    crowded (s.countFrame d n len).ports = crowded s.ports := by
  unfold State.countFrame
  dsimp only
  split <;> simp

@[simp] theorem State.dropFrame_crowded (s : State) (d : Dir) (f : FlowFrame) (w : FlowDrop) (stage : Nat) :
    crowded (s.dropFrame d f w stage).ports = crowded s.ports := by simp [State.dropFrame]

@[simp] theorem State.raiseShed_crowded (s : State) (c : Cp) (k : Fin 5) :
    crowded (s.raiseShed c k).ports = crowded s.ports := by simp [State.raiseShed]

@[simp] theorem State.noteShed_crowded (s : State) (c : Cp) (k : Fin 5) (cls : Nat) :
    crowded (s.noteShed c k cls).ports = crowded s.ports := by simp [State.noteShed]

@[simp] theorem State.longSheds_crowded (s : State) : crowded s.longSheds.ports = crowded s.ports := by
  simp [State.longSheds]

@[simp] theorem State.shedFrame_crowded (s : State) (f : FlowFrame) (cls : Nat) :
    crowded (s.shedFrame f cls).ports = crowded s.ports := by simp [State.shedFrame]

@[simp] theorem State.forwardIngress_crowded (s : State) (f : FlowFrame) (cls clientLen : Nat) (out : Bytes)
    (sealed_ : Bool) :
    crowded (s.forwardIngress f cls clientLen out sealed_).ports = crowded s.ports := by simp [State.forwardIngress]

@[simp] theorem State.driveFrame_crowded (s : State) (c : Cp) (frame : Bytes) (raw : Bool) :
    crowded (s.driveFrame c frame raw).ports = crowded s.ports := by simp [State.driveFrame]

@[simp] theorem State.sendClient_crowded (s : State) (c : Cp) (frame : Bytes) (tiles : List Nat)
    (tag : Option TagMark) :
    crowded (s.sendClient c frame tiles tag).ports = crowded s.ports := by simp [State.sendClient]

@[simp] theorem State.forwardEgress_crowded (s : State) (f : FlowFrame) (out : Bytes) :
    crowded (s.forwardEgress f out).ports = crowded s.ports := by simp [State.forwardEgress]

@[simp] theorem State.suspend_crowded (s : State) (n : Nat) (h : Hot) :
    crowded (s.suspend n h).ports = crowded s.ports := by simp [State.suspend]

@[simp] theorem State.keyAbsent_crowded (s : State) (d : Dir) (f : FlowFrame) :
    crowded (s.keyAbsent d f).ports = crowded s.ports := by simp [State.keyAbsent]

@[simp] theorem State.advancePn_crowded (s : State) (n : Nat) (h : Hot) :
    crowded (s.advancePn n h).ports = crowded s.ports := by simp [State.advancePn]

@[simp] theorem State.enqueue_crowded (s : State) (d : Dir) (f : FlowFrame) :
    crowded (s.enqueue d f).ports = crowded s.ports := by simp [State.enqueue]

@[simp] theorem State.sealIngress_crowded (s : State) (f : FlowFrame) (h : Hot) :
    crowded (s.sealIngress f h).ports = crowded s.ports := by simp [State.sealIngress]

@[simp] theorem State.storePn_crowded (s : State) (n : Nat) (h : Hot) (g : Option Grace) (pn : BitVec 64) :
    crowded (s.storePn n h g pn).ports = crowded s.ports := by
  unfold State.storePn
  dsimp only
  split <;> simp

@[simp] theorem State.verifyEgress_crowded (s : State) (f : FlowFrame) (h : Hot) :
    crowded (s.verifyEgress f h).ports = crowded s.ports := by
  unfold State.verifyEgress
  dsimp only
  (repeat' split) <;> simp

@[simp] theorem State.stall_crowded (s : State) (d : Dir) (express : Bool) :
    crowded (s.stall d express).ports = crowded s.ports := by simp [State.stall]

@[simp] theorem State.admitFrame_crowded (s : State) (d : Dir) (f : FlowFrame) :
    crowded (s.admitFrame d f).ports = crowded s.ports := by
  unfold State.admitFrame
  dsimp only
  (repeat' split) <;> simp

@[simp] theorem State.admitNext_crowded (s : State) (d : Dir) : crowded (s.admitNext d).ports = crowded s.ports := by
  unfold State.admitNext
  dsimp only
  (repeat' split) <;> simp

@[simp] theorem State.queueFrame_crowded (s : State) (d : Dir) (f : FlowFrame) (cls : Nat) :
    crowded (s.queueFrame d f cls).ports = crowded s.ports := by
  unfold State.queueFrame
  dsimp only
  split <;> simp

@[simp] theorem State.bindFrame_crowded (s : State) (d : Dir) (f : FlowFrame) :
    crowded (s.bindFrame d f).ports = crowded s.ports := by
  unfold State.bindFrame
  dsimp only
  (repeat' split) <;> simp

@[simp] theorem State.missFrame_crowded (s : State) (d : Dir) (f : FlowFrame) :
    crowded (s.missFrame d f).ports = crowded s.ports := by simp [State.missFrame]

@[simp] theorem State.offerFrame_crowded (s : State) (d : Dir) (c : Cp) (frame : Bytes) (tag : Option TagMark)
    (tiles : List Nat) (instants : Option (BitVec 48 × Int × Int)) :
    crowded (s.offerFrame d c frame tag tiles instants).ports = crowded s.ports := by
  unfold State.offerFrame
  dsimp only
  (repeat' split) <;> simp

@[simp] theorem State.fetchNext_crowded (s : State) (d : Dir) : crowded (s.fetchNext d).ports = crowded s.ports := by
  unfold State.fetchNext
  dsimp only
  split <;> simp

@[simp] theorem State.clientFrame_crowded (s : State) (c : Cp) (frame : Bytes) (pcsError : Bool)
    (i : Option Instants) :
    crowded (s.clientFrame c frame pcsError i).ports = crowded s.ports := by
  unfold State.clientFrame
  dsimp only
  (repeat' split) <;> simp

@[simp] theorem State.lineFrame_crowded (s : State) (c : Cp) (frame : Bytes) (tiles : List Nat)
    (since : BitVec 48) (entered : BitVec 48) (i : Option Instants) :
    crowded (s.lineFrame c frame tiles since entered i).ports = crowded s.ports := by simp [State.lineFrame]

@[simp] theorem State.refreshPort_crowded (s : State) (c : Cp) : crowded
    (s.refreshPort c).ports = crowded s.ports := by
  simp [State.refreshPort]

@[simp] theorem State.refreshPorts_crowded (s : State) : crowded s.refreshPorts.ports = crowded s.ports := by
  simp [State.refreshPorts]

@[simp] theorem State.detectFail_crowded (s : State) (c : Cp) (signalLost : BitVec 16) (clockLost : BitVec 16)
    (pcsLost : Bool) :
    crowded (s.detectFail c signalLost clockLost pcsLost).ports = crowded s.ports := by simp [State.detectFail]

@[simp] theorem State.dropRecord_crowded (s : State) (c : Cp) (on : Bool) :
    crowded (s.dropRecord c on).ports = crowded s.ports := by simp [State.dropRecord]

@[simp] theorem State.shedWaiting_crowded (s : State) (c : Cp) : crowded
    (s.shedWaiting c).ports = crowded s.ports := by
  simp [State.shedWaiting]

@[simp] theorem State.emptyPort_crowded (s : State) (c : Cp) : crowded (s.emptyPort c).ports = crowded s.ports := by
  simp [State.emptyPort]

@[simp] theorem State.formed_crowded (s : State) (c : Cp) (old : CportConfig) :
    crowded (s.formed c old).ports = crowded s.ports := by
  unfold State.formed
  dsimp only
  (repeat' split) <;> simp

@[simp] theorem State.prbsErrors_crowded (s : State) (l : LaneNo) (n : Nat) :
    crowded (s.prbsErrors l n).ports = crowded s.ports := by simp [State.prbsErrors]

@[simp] theorem State.hostHold_crowded (s : State) (e : Eng) (hold : BitVec 6) :
    crowded (s.hostHold e hold).ports = crowded s.ports := by simp [State.hostHold]

@[simp] theorem State.putResult_crowded (s : State) (r : GbResult) :
    crowded (s.putResult r).ports = crowded s.ports := by
  unfold State.putResult
  dsimp only
  (repeat' split) <;> simp

@[simp] theorem State.resetCics_crowded (s : State) (mask : BitVec 16) :
    crowded (s.resetCics mask).ports = crowded s.ports := by simp [State.resetCics]

@[simp] theorem State.entryResult_crowded (s : State) (n : Fin 16) (e : GaugeEntry) (raw : BitVec 12) :
    crowded (s.entryResult n e raw).ports = crowded s.ports := by
  unfold State.entryResult
  dsimp only
  (repeat' split) <;> simp

@[simp] theorem State.holdEngines_crowded (s : State) (on : Bool) :
    crowded (s.holdEngines on).ports = crowded s.ports := by simp [State.holdEngines]

@[simp] theorem State.checkHold_crowded (s : State) (on : Bool) (data : Bytes) :
    crowded (s.checkHold on data).ports = crowded s.ports := by simp [State.checkHold]

@[simp] theorem State.judgeCheck_crowded (s : State) (ga : BitVec 12) (gb : BitVec 12) :
    crowded (s.judgeCheck ga gb).ports = crowded s.ports := by simp [State.judgeCheck]

@[simp] theorem State.compareCheck_crowded (s : State) (ga : BitVec 12) (raw : BitVec 12) :
    crowded (s.compareCheck ga raw).ports = crowded s.ports := by simp [State.compareCheck]

@[simp] theorem State.makeCheck_crowded (s : State) : crowded s.makeCheck.ports = crowded s.ports := by
  unfold State.makeCheck
  dsimp only
  split <;> simp

@[simp] theorem State.gbNext_crowded (s : State) : crowded s.gbNext.ports = crowded s.ports := by
  unfold State.gbNext
  dsimp only
  (repeat' split) <;> simp

@[simp] theorem State.gbEnd_crowded (s : State) (raw : BitVec 12) : crowded
    (s.gbEnd raw).ports = crowded s.ports := by
  unfold State.gbEnd
  dsimp only
  (repeat' split) <;> simp

@[simp] theorem State.gbDrop_crowded (s : State) : crowded s.gbDrop.ports = crowded s.ports := by
  unfold State.gbDrop
  dsimp only
  split <;> simp

@[simp] theorem State.passTick_crowded (s : State) : crowded s.passTick.ports = crowded s.ports := by
  simp [State.passTick]

@[simp] theorem State.gaCycle_crowded (s : State) (codes : List (BitVec 12)) (check : BitVec 12) :
    crowded (s.gaCycle codes check).ports = crowded s.ports := by
  unfold State.gaCycle
  dsimp only
  (repeat' split) <;> simp

@[simp] theorem State.gaugeCommit_crowded (s : State) : crowded s.gaugeCommit.ports = crowded s.ports := by
  unfold State.gaugeCommit
  dsimp only
  split <;> simp

@[simp] theorem State.calibrated_crowded (s : State) (offsets : List Int) (gain : Int) :
    crowded (s.calibrated offsets gain).ports = crowded s.ports := by
  unfold State.calibrated
  dsimp only
  split <;> simp

@[simp] theorem State.updInput_crowded (s : State) (i : Fin 14) (f : HwInput → HwInput) :
    crowded (s.updInput i f).ports = crowded s.ports := by simp [State.updInput]

@[simp] theorem State.hwEvaluate_crowded (s : State) (commit : Bool) :
    crowded (s.hwEvaluate commit).ports = crowded s.ports := by
  unfold State.hwEvaluate
  dsimp only
  (repeat' split) <;> simp

@[simp] theorem State.abandon_crowded (s : State) : crowded s.abandon.ports = crowded s.ports := by
  simp [State.abandon]

@[simp] theorem State.enterHoldover_crowded (s : State) (lost : Byte) :
    crowded (s.enterHoldover lost).ports = crowded s.ports := by simp [State.enterHoldover]

@[simp] theorem State.toHoldover_crowded (s : State) (lost lostBy : Byte) :
    crowded (s.toHoldover lost lostBy).ports = crowded s.ports := by simp [State.toHoldover]

@[simp] theorem State.holdoverTick_crowded (s : State) : crowded s.holdoverTick.ports = crowded s.ports := by
  simp [State.holdoverTick]

@[simp] theorem State.forceOut_crowded (s : State) (lost : Byte) :
    crowded (s.forceOut lost).ports = crowded s.ports := by simp [State.forceOut]

@[simp] theorem State.disqualify_crowded (s : State) (i : Fin 14) (cause : BitVec 4) :
    crowded (s.disqualify i cause).ports = crowded s.ports := by simp [State.disqualify]

@[simp] theorem State.windowEnd_crowded (s : State) (phase : Int) :
    crowded (s.windowEnd phase).ports = crowded s.ports := by simp [State.windowEnd]

@[simp] theorem State.hwTick_crowded (s : State) : crowded s.hwTick.ports = crowded s.ports := by simp [State.hwTick]

@[simp] theorem State.timebaseTick_crowded (s : State) : crowded s.timebaseTick.ports = crowded s.ports := by
  simp [State.timebaseTick]

@[simp] theorem State.phaseStep_crowded (s : State) (amount : Int) (when_ : Byte) :
    crowded (s.phaseStep amount when_).ports = crowded s.ports := by simp [State.phaseStep]

@[simp] theorem State.applyPending_crowded (s : State) : crowded s.applyPending.ports = crowded s.ports := by
  unfold State.applyPending
  dsimp only
  split <;> simp

@[simp] theorem State.ppsEdge_crowded (s : State) (n : Fin 2) : crowded (s.ppsEdge n).ports = crowded s.ports := by
  simp [State.ppsEdge]

@[simp] theorem State.synceCommit_crowded (s : State) (old : Vector (Byte × Byte) 4) :
    crowded (s.synceCommit old).ports = crowded s.ports := by simp [State.synceCommit]

@[simp] theorem State.reselect_crowded (s : State) : crowded s.reselect.ports = crowded s.ports := by
  simp [State.reselect]

@[simp] theorem State.selectionCommit_crowded (s : State) : crowded s.selectionCommit.ports = crowded s.ports := by
  simp [State.selectionCommit]

@[simp] theorem State.evaluateAfter_crowded (s : State) : crowded s.evaluateAfter.ports = crowded s.ports := by
  simp [State.evaluateAfter]

@[simp] theorem State.hwCommit_crowded (s : State) : crowded s.hwCommit.ports = crowded s.ports := by
  unfold State.hwCommit
  dsimp only
  split <;> simp

@[simp] theorem State.applyTdSet_crowded (s : State) (d : Fin 2) : crowded
    (s.applyTdSet d).ports = crowded s.ports := by
  unfold State.applyTdSet
  dsimp only
  split <;> simp

@[simp] theorem State.emitEdge_crowded (s : State) (n : Fin 4) : crowded (s.emitEdge n).ports = crowded s.ports := by
  simp [State.emitEdge]

@[simp] theorem State.updCapture_crowded (s : State) (i : Fin 3) (f : CaptureQueue → CaptureQueue) :
    crowded (s.updCapture i f).ports = crowded s.ports := by simp [State.updCapture]

@[simp] theorem State.setCommit_crowded (s : State) (k : Commit) : crowded
    (s.setCommit k).ports = crowded s.ports := by
  simp [State.setCommit]

@[simp] theorem State.endCommit_crowded (s : State) (k : Commit) (executed : Bool) :
    crowded (s.endCommit k executed).ports = crowded s.ports := by simp [State.endCommit]

@[simp] theorem State.takeEngine_crowded (s : State) (e : Eng) (classes : BitVec 16) (side : Option HeldSide) :
    crowded (s.takeEngine e classes side).ports = crowded s.ports := by simp [State.takeEngine]

@[simp] theorem State.clientCommit_crowded (s : State) (engines : BitVec 4) (side : Option (HeldSide × Eng)) :
    crowded (s.clientCommit engines side).ports = crowded s.ports := by simp [State.clientCommit]

@[simp] theorem State.shedGroup_crowded (s : State) (e : Eng) : crowded (s.shedGroup e).ports = crowded s.ports := by
  simp [State.shedGroup]

@[simp] theorem State.txSide_crowded (s : State) (e : Eng) (old : EngineParams) :
    crowded (s.txSide e old).ports = crowded s.ports := by simp [State.txSide]

@[simp] theorem State.twinEnd_crowded (s : State) (e : Eng) : crowded (s.twinEnd e).ports = crowded s.ports := by
  simp [State.twinEnd]

@[simp] theorem State.rxSide_crowded (s : State) (e : Eng) (old : EngineParams) :
    crowded (s.rxSide e old).ports = crowded s.ports := by simp [State.rxSide]

@[simp] theorem State.twinStep_crowded (s : State) (old : Vector EngineParams 4) :
    crowded (s.twinStep old).ports = crowded s.ports := by simp [State.twinStep]

@[simp] theorem State.txSides_crowded (s : State) (es : List Eng) (old : Vector EngineParams 4) :
    crowded (s.txSides es old).ports = crowded s.ports := by simp [State.txSides]

@[simp] theorem State.tokenTx_crowded (s : State) (k : Commit) : crowded (s.tokenTx k).ports = crowded s.ports := by
  simp [State.tokenTx]

@[simp] theorem State.tokenRx_crowded (s : State) (k : Commit) : crowded (s.tokenRx k).ports = crowded s.ports := by
  simp [State.tokenRx]

@[simp] theorem State.applyLocal_crowded (s : State) (k : Commit) :
    crowded (s.applyLocal k).ports = crowded s.ports := by simp [State.applyLocal]

@[simp] theorem State.runCommit_crowded (s : State) (k : Commit) : crowded
    (s.runCommit k).ports = crowded s.ports := by
  unfold State.runCommit
  dsimp only
  split <;> simp

@[simp] theorem State.settleCommit_crowded (s : State) (id : Nat) :
    crowded (s.settleCommit id).ports = crowded s.ports := by
  unfold State.settleCommit
  dsimp only
  (repeat' split) <;> simp

@[simp] theorem State.takeSide_crowded (s : State) (k : Commit) (e : Eng) (side : HeldSide) (first : Bool) :
    crowded (s.takeSide k e side first).ports = crowded s.ports := by
  unfold State.takeSide
  dsimp only
  (repeat' split) <;> simp

@[simp] theorem State.pairTx_crowded (s : State) (k : Commit) : crowded (s.pairTx k).ports = crowded s.ports := by
  simp [State.pairTx]

@[simp] theorem State.pairRx_crowded (s : State) (k : Commit) (e : Eng) :
    crowded (s.pairRx k e).ports = crowded s.ports := by simp [State.pairRx]

@[simp] theorem State.sendCann_crowded (s : State) (k : Commit) (phase : BitVec 2) :
    crowded (s.sendCann k phase).ports = crowded s.ports := by simp [State.sendCann]

@[simp] theorem State.sendCack_crowded (s : State) (e : Eng) (token : BitVec 32) (target : BitVec 32)
    (response : BitVec 4) :
    crowded (s.sendCack e token target response).ports = crowded s.ports := by simp [State.sendCack]

@[simp] theorem State.sendAbort_crowded (s : State) (k : Commit) : crowded
    (s.sendAbort k).ports = crowded s.ports := by
  simp [State.sendAbort]

@[simp] theorem State.disarm_crowded (s : State) (k : Commit) (token : BitVec 32) :
    crowded (s.disarm k token).ports = crowded s.ports := by
  unfold State.disarm
  split <;> simp

@[simp] theorem State.abstain_crowded (s : State) (k : Commit) (mismatch : Bool) (b : Byte) :
    crowded (s.abstain k mismatch b).ports = crowded s.ports := by simp [State.abstain]

@[simp] theorem State.confirm_crowded (s : State) (k : Commit) : crowded (s.confirm k).ports = crowded s.ports := by
  simp [State.confirm]

@[simp] theorem State.splitCommit_crowded (s : State) (k : Commit) :
    crowded (s.splitCommit k).ports = crowded s.ports := by simp [State.splitCommit]

@[simp] theorem State.startPair_crowded (s : State) (k : Commit) : crowded
    (s.startPair k).ports = crowded s.ports := by
  unfold State.startPair
  dsimp only
  split <;> simp

@[simp] theorem State.acknowledge_crowded (s : State) (k : Commit) (e : Eng) (fnr : BitVec 32) (target : BitVec 32) :
    crowded (s.acknowledge k e fnr target).ports = crowded s.ports := by simp [State.acknowledge]

@[simp] theorem State.onAnnounce_crowded (s : State) (e : Eng) (fnr : BitVec 32) (c : Cann) :
    crowded (s.onAnnounce e fnr c).ports = crowded s.ports := by
  unfold State.onAnnounce
  dsimp only
  split <;> simp

@[simp] theorem State.onConfirm_crowded (s : State) (e : Eng) (fnr : BitVec 32) (c : Cann) :
    crowded (s.onConfirm e fnr c).ports = crowded s.ports := by
  unfold State.onConfirm
  (repeat' split) <;> simp

@[simp] theorem State.onAbort_crowded (s : State) (e : Eng) (c : Cann) :
    crowded (s.onAbort e c).ports = crowded s.ports := by
  unfold State.onAbort
  dsimp only
  split <;> simp

@[simp] theorem State.onCann_crowded (s : State) (e : Eng) (fnr : BitVec 32) (c : Cann) :
    crowded (s.onCann e fnr c).ports = crowded s.ports := by
  unfold State.onCann
  dsimp only
  split <;> simp

@[simp] theorem State.onAck_crowded (s : State) (e : Eng) (k : Commit) (target : BitVec 32) :
    crowded (s.onAck e k target).ports = crowded s.ports := by simp [State.onAck]

@[simp] theorem State.onLateAbort_crowded (s : State) (e : Eng) (c : Cack) :
    crowded (s.onLateAbort e c).ports = crowded s.ports := by
  unfold State.onLateAbort
  dsimp only
  (repeat' split) <;> simp

@[simp] theorem State.onCack_crowded (s : State) (e : Eng) (c : Cack) :
    crowded (s.onCack e c).ports = crowded s.ports := by
  unfold State.onCack
  (repeat' split) <;> simp

@[simp] theorem State.ackDeadline_crowded (s : State) (k : Commit) :
    crowded (s.ackDeadline k).ports = crowded s.ports := by simp [State.ackDeadline]

@[simp] theorem State.dropCommits_crowded (s : State) : crowded s.dropCommits.ports = crowded s.ports := by
  simp [State.dropCommits]

@[simp] theorem State.absorb_crowded (s : State) (e : Eng) (noise : Quad) :
    crowded (s.absorb e noise).ports = crowded s.ports := by simp [State.absorb]

@[simp] theorem State.advance_crowded (s : State) (e : Eng) (w : WindowPosition) (o : Outcome) :
    crowded (s.advance e w o).ports = crowded s.ports := by
  unfold State.advance
  dsimp only
  split <;> simp

@[simp] theorem State.countNative_crowded (s : State) (c : Cp) (d : Dir) (octets : Nat) (shed : Bool) :
    crowded (s.countNative c d octets shed).ports = crowded s.ports := by
  unfold State.countNative
  (repeat' split) <;> simp

@[simp] theorem State.tagBlocks_crowded (s : State) (c : Cp) (d : Dir) (n : Nat) (shed : Bool) (t1 : BitVec 48) :
    crowded (s.tagBlocks c d n shed t1).ports = crowded s.ports := by simp [State.tagBlocks]

@[simp] theorem State.laneSlip_crowded (s : State) (l : LaneNo) (slip : Slip) (lfc : BitVec 16) :
    crowded (s.laneSlip l slip lfc).ports = crowded s.ports := by simp [State.laneSlip]

@[simp] theorem State.laneFrameRx_crowded (s : State) (l : LaneNo) (c : Cp) (symbols : List (Fin 4))
    (slip : Option Slip) :
    crowded (s.laneFrameRx l c symbols slip).ports = crowded s.ports := by
  unfold State.laneFrameRx
  dsimp only
  (repeat' split) <;> simp

@[simp] theorem State.nativeOut_crowded (s : State) (c : Cp) (streams : List Bytes) (carried : Bool)
    (t1 : BitVec 48) :
    crowded (s.nativeOut c streams carried t1).ports = crowded s.ports := by simp [State.nativeOut]

@[simp] theorem State.atCommitBoundary_crowded (s : State) (id : Nat) :
    crowded (s.atCommitBoundary id).ports = crowded s.ports := by
  unfold State.atCommitBoundary; apply State.atBoundary_crowded; intro x; split
  · split <;> simp
  · rfl

@[simp] theorem State.atPairTx_crowded (s : State) (id : Nat) : crowded (s.atPairTx id).ports = crowded s.ports := by
  unfold State.atPairTx; apply State.atBoundary_crowded; intro x; split
  · split <;> simp
  · rfl

@[simp] theorem State.pairRxDue_crowded (s : State) (id : Nat) : crowded
    (s.pairRxDue id).ports = crowded s.ports := by
  unfold State.pairRxDue; apply foldl_crowded; intro s e; split
  · split <;> simp
  · rfl

@[simp] theorem State.countSent_crowded (s : State) (e : Eng) (ts : List Bytes) :
    crowded (s.countSent e ts).ports = crowded s.ports := by simp [State.countSent]

@[simp] theorem State.portTiles_crowded (s : State) (e : Eng) (c : Cp) (slots : Nat) :
    crowded (s.portTiles e c slots).1.ports = crowded s.ports := by
  unfold State.portTiles
  dsimp only
  (repeat' split) <;> simp

@[simp] theorem State.payload_crowded (s : State) (e : Eng) : crowded (s.payload e).1.ports = crowded s.ports := by
  have h (f : Cp → List Nat) (l : List Cp) (a : State × List (List Nat × List Bytes)) :
      crowded (l.foldl (fun a c => addPort e (f c) a c) a).1.ports = crowded a.1.ports :=
    foldl_keeps (fun a : State × List (List Nat × List Bytes) => crowded a.1.ports) (fun a c => by simp [addPort]) l a
  unfold State.payload
  dsimp only
  split <;> simp [h]

@[simp] theorem State.scTake_crowded (s : State) (e : Eng) : crowded (s.scTake e).1.ports = crowded s.ports := by
  simp [State.scTake]

@[simp] theorem State.scBlock_crowded (s : State) (d : Dir) (key : Bytes) :
    crowded (s.scBlock d key).ports = crowded s.ports := by simp [State.scBlock]

@[simp] theorem State.scAbsent_crowded (s : State) (e : Eng) (key : BitVec 32) :
    crowded (s.scAbsent e key).ports = crowded s.ports := by simp [State.scAbsent]

@[simp] theorem State.scSend_crowded (s : State) (e : Eng) (fn : BitVec 32) :
    crowded (s.scSend e fn).1.ports = crowded s.ports := by
  unfold State.scSend
  dsimp only
  (repeat' split) <;> simp

@[simp] theorem State.beginFrame_crowded (s : State) (e : Eng) (tiles : List Bytes) :
    crowded (s.beginFrame e tiles).ports = crowded s.ports := by simp [State.beginFrame]

@[simp] theorem State.beginFrames_crowded (s : State) (e : Eng) : crowded
    (s.beginFrames e).ports = crowded s.ports := by
  unfold State.beginFrames
  dsimp only
  (repeat' split) <;> simp

@[simp] theorem State.drain_crowded (s : State) : crowded s.drain.ports = crowded s.ports := by simp [State.drain]

@[simp] theorem State.touchTile_crowded (s : State) (c : Cp) (id : Nat) :
    crowded (s.touchTile c id).ports = crowded s.ports := by simp [State.touchTile]

@[simp] theorem State.recordHead_crowded (s : State) (c : Cp) (v : Nat) :
    crowded (s.recordHead c v).ports = crowded s.ports := by simp [State.recordHead]

@[simp] theorem State.recordByte_crowded (s : State) (c : Cp) (id : Nat) (t1 : BitVec 48) (b : Byte) :
    crowded (s.recordByte c id t1 b).ports = crowded s.ports := by
  unfold State.recordByte
  dsimp only
  (repeat' split) <;> simp

@[simp] theorem State.atPointer_crowded (s : State) (c : Cp) : crowded (s.atPointer c).ports = crowded s.ports := by
  simp [State.atPointer]

@[simp] theorem State.portTile_crowded (s : State) (c : Cp) (e : Eng) (t1 : BitVec 48) (t : Bytes) :
    crowded (s.portTile c e t1 t).ports = crowded s.ports := by simp [State.portTile]

@[simp] theorem State.deliverPort_crowded (s : State) (e : Eng) (c : Cp) (sl : List Nat) (tiles : List Bytes)
    (slots : Nat) (replaced : Bool) (t1 : BitVec 48) :
    crowded (s.deliverPort e c sl tiles slots replaced t1).ports = crowded s.ports := by simp [State.deliverPort]

@[simp] theorem State.idlePorts_crowded (s : State) (e : Eng) : crowded (s.idlePorts e).ports = crowded s.ports := by
  simp [State.idlePorts]

@[simp] theorem State.deliverBy_crowded (s : State) (e : Eng) (p : EngineParams) (tiles : List Bytes)
    (replaced : Bool) (t1 : BitVec 48) :
    crowded (s.deliverBy e p tiles replaced t1).ports = crowded s.ports := by simp [State.deliverBy]

@[simp] theorem State.deliverTiles_crowded (s : State) (e : Eng) (tiles : List Bytes) (replaced : Bool) :
    crowded (s.deliverTiles e tiles replaced).ports = crowded s.ports := by simp [State.deliverTiles]

@[simp] theorem State.twinSkew_crowded (s : State) (low : Eng) : crowded
    (s.twinSkew low).ports = crowded s.ports := by
  unfold State.twinSkew
  dsimp only
  split <;> simp

@[simp] theorem State.twinDefect_crowded (s : State) (low : Eng) (lower higher : Bool) :
    crowded (s.twinDefect low lower higher).ports = crowded s.ports := by simp [State.twinDefect]

@[simp] theorem State.noteDelivered_crowded (s : State) (low : Eng) (fn : BitVec 32) :
    crowded (s.noteDelivered low fn).ports = crowded s.ports := by simp [State.noteDelivered]

@[simp] theorem State.twinDeliver_crowded (s : State) (low : Eng) (a : Option TwinCopy) (b : Option TwinCopy) :
    crowded (s.twinDeliver low a b).ports = crowded s.ports := by
  unfold State.twinDeliver
  dsimp only
  (repeat' split) <;> simp

theorem twinDrain_crowded (low : Eng) (n : Nat) (s : State) :
    crowded (State.twinDrain low n s).ports = crowded s.ports := by
  induction n generalizing s with
  | zero => rfl
  | succ n ih =>
    unfold State.twinDrain; dsimp only; split
    · rfl
    · split
      · rw [ih]; simp
      · split <;> (rw [ih]; simp)
    · split
      · rw [ih]; simp
      · rfl
    · split
      · split
        · rfl
        · rw [ih]; simp
      · split
        · rw [ih]; simp
        · rfl

@[simp] theorem State.apsEvent_crowded (s : State) (e : Eng) (cause : Byte) (was now : Bool) :
    crowded (s.apsEvent e cause was now).ports = crowded s.ports := by simp [State.apsEvent]

@[simp] theorem State.checkAps_crowded (s : State) (e : Eng) : crowded (s.checkAps e).ports = crowded s.ports := by
  simp [State.checkAps]

@[simp] theorem State.twinCopy_crowded (s : State) (e : Eng) (fn : BitVec 32) (good : Bool) (f : RxFrame)
    (tiles : List Bytes) :
    crowded (s.twinCopy e fn good f tiles).ports = crowded s.ports := by
  unfold State.twinCopy
  dsimp only
  split
  · rfl
  · exact twinDrain_crowded _ _ _

@[simp] theorem State.scReceive_crowded (s : State) (e : Eng) (fn : BitVec 32) (linkid : Byte) (o : Overhead) :
    crowded (s.scReceive e fn linkid o).ports = crowded s.ports := by
  unfold State.scReceive
  dsimp only
  (repeat' split) <;> simp

@[simp] theorem State.depReceive_crowded (s : State) (e : Eng) (o : Overhead) :
    crowded (s.depReceive e o).ports = crowded s.ports := by simp [State.depReceive]

@[simp] theorem State.smallDefects_crowded (s : State) (e : Eng) (h : BitVec 64) (o : Overhead) :
    crowded (s.smallDefects e h o).ports = crowded s.ports := by simp [State.smallDefects]

@[simp] theorem State.measureLine_crowded (s : State) (e : Eng) (o : Overhead) (arrival : Nat) :
    crowded (s.measureLine e o arrival).ports = crowded s.ports := by
  unfold State.measureLine
  dsimp only
  (repeat' split) <;> simp

@[simp] theorem State.acceptFrame_crowded (s : State) (e : Eng) (f : RxFrame) (o : Overhead) :
    crowded (s.acceptFrame e f o).ports = crowded s.ports := by simp [State.acceptFrame]

@[simp] theorem State.rxTrack_crowded (s : State) (e : Eng) (code : Nat) :
    crowded (s.rxTrack e code).ports = crowded s.ports := by simp [State.rxTrack]

@[simp] theorem State.enterSync_crowded (s : State) (e : Eng) (k : Candidate) (code : Nat) :
    crowded (s.enterSync e k code).ports = crowded s.ports := by simp [State.enterSync]

@[simp] theorem State.huntFrame_crowded (s : State) (e : Eng) (f : RxFrame) :
    crowded (s.huntFrame e f).ports = crowded s.ports := by
  unfold State.huntFrame
  dsimp only
  split <;> simp

@[simp] theorem State.leaveSync_crowded (s : State) (e : Eng) : crowded (s.leaveSync e).ports = crowded s.ports := by
  simp [State.leaveSync]

@[simp] theorem State.deliverFrame_crowded (s : State) (e : Eng) (fn : BitVec 32) (good accepted : Bool)
    (f : RxFrame) (damaged : Bool) (tiles : List Bytes) :
    crowded (s.deliverFrame e fn good accepted f damaged tiles).ports = crowded s.ports := by
  unfold State.deliverFrame
  dsimp only
  (repeat' split) <;> simp [twinDrain_crowded]

@[simp] theorem State.takeFrame_crowded (s : State) (e : Eng) (f : RxFrame) :
    crowded (s.takeFrame e f).ports = crowded s.ports := by simp [State.takeFrame]

@[simp] theorem State.rxSwitches_crowded (s : State) (e : Eng) : crowded
    (s.rxSwitches e).ports = crowded s.ports := by
  simp [State.rxSwitches]

@[simp] theorem State.syncFrame_crowded (s : State) (e : Eng) (f : RxFrame) :
    crowded (s.syncFrame e f).ports = crowded s.ports := by simp [State.syncFrame]

@[simp] theorem State.frameRx_crowded (s : State) (e : Eng) (f : RxFrame) :
    crowded (s.frameRx e f).ports = crowded s.ports := by
  unfold State.frameRx
  (repeat' split) <;> simp

@[simp] theorem State.scSlot_crowded (s : State) (e : Eng) (b : Byte) (valid : Bool) :
    crowded (s.scSlot e b valid).ports = crowded s.ports := by simp [State.scSlot]

@[simp] theorem State.failTile_crowded (s : State) (e : Eng) : crowded (s.failTile e).ports = crowded s.ports := by
  simp [State.failTile]

@[simp] theorem State.receive_crowded (s : State) (e : Eng) (samples : List Quad) :
    crowded (s.receive e samples).ports = crowded s.ports := by simp [State.receive]

@[simp] theorem State.silentFrame_crowded (s : State) (e : Eng) : crowded
    (s.silentFrame e).ports = crowded s.ports := by
  simp [State.silentFrame]

@[simp] theorem State.tickWith_crowded (s : State) (at_ : State → State) (h : ∀ x, crowded
    (at_ x).ports = crowded x.ports) :
    crowded (s.tickWith at_).ports = crowded s.ports := by
  have hdrain (s : State) : crowded (twinPairs.foldl (fun s p =>
      if (s.eng p.1).rxParams.isTwin then s else State.twinDrain p.1 4096 s) s).ports = crowded s.ports :=
    foldl_crowded _ _ (fun s p => by simp [twinDrain_crowded]) s
  simp [State.tickWith, h, hdrain]

@[simp] theorem State.sensorEvent_crowded (s : State) (i : Nat) (old new : Sensor) (near : List Int) :
    crowded (s.sensorEvent i old new near).ports = crowded s.ports := by simp [State.sensorEvent]

@[simp] theorem State.readSensors_crowded (s : State) (temps : List (BitVec 16)) :
    crowded (s.readSensors temps).ports = crowded s.ports := by simp [State.readSensors]

@[simp] theorem State.readZone_crowded (s : State) (temps : List (Option Int)) (z : Fin 9) :
    crowded (s.readZone temps z).ports = crowded s.ports := by simp [State.readZone]

@[simp] theorem State.readZones_crowded (s : State) : crowded s.readZones.ports = crowded s.ports := by
  simp [State.readZones]

@[simp] theorem State.throttle_crowded (s : State) (e : Eng) : crowded (s.throttle e).ports = crowded s.ports := by
  unfold State.throttle
  dsimp only
  split <;> simp

@[simp] theorem State.holdDark_crowded (s : State) (e : Eng) (reason : Byte) :
    crowded (s.holdDark e reason).ports = crowded s.ports := by simp [State.holdDark]

@[simp] theorem State.shutdown_crowded (s : State) (z : Fin 9) (t : Int) :
    crowded (s.shutdown z t).ports = crowded s.ports := by simp [State.shutdown]

@[simp] theorem State.noteRise_crowded (s : State) : crowded s.noteRise.ports = crowded s.ports := by
  simp [State.noteRise]

@[simp] theorem State.shutdownDue_crowded (s : State) : crowded s.shutdownDue.ports = crowded s.ports := by
  simp [State.shutdownDue]

@[simp] theorem State.weirReading_crowded (s : State) (temps : List (BitVec 16)) :
    crowded (s.weirReading temps).ports = crowded s.ports := by simp [State.weirReading]

@[simp] theorem State.unhold_crowded (s : State) (e : Eng) : crowded (s.unhold e).ports = crowded s.ports := by
  simp [State.unhold]

@[simp] theorem State.resumeAuto_crowded (s : State) : crowded s.resumeAuto.ports = crowded s.ports := by
  simp [State.resumeAuto]

@[simp] theorem State.dropRunning_crowded (s : State) : crowded s.dropRunning.ports = crowded s.ports := by
  simp [State.dropRunning]

@[simp] theorem State.recall_crowded (s : State) : crowded s.recall.ports = crowded s.ports := by simp [State.recall]

@[simp] theorem State.answerRunning_crowded (s : State) : crowded s.answerRunning.ports = crowded s.ports := by
  simp [State.answerRunning]

@[simp] theorem State.notDone_crowded (s : State) (d : Option Deferred) :
    crowded (s.notDone d).ports = crowded s.ports := by
  unfold State.notDone
  (repeat' split) <;> simp

@[simp] theorem State.goHeadless_crowded (s : State) (u : Fin 2) (cause : Byte) :
    crowded (s.goHeadless u cause).ports = crowded s.ports := by simp [State.goHeadless]

@[simp] theorem State.declare_crowded (s : State) (cause : Byte) :
    crowded (s.declare cause).ports = crowded s.ports := by simp [State.declare]

@[simp] theorem State.noteVote_crowded (s : State) (votes : Vector Bool 3) :
    crowded (s.noteVote votes).ports = crowded s.ports := by
  unfold State.noteVote
  (repeat' split) <;> simp

@[simp] theorem State.takeOver_crowded (s : State) (u : Fin 2) (cause : Byte) (duration : BitVec 16) :
    crowded (s.takeOver u cause duration).ports = crowded s.ports := by simp [State.takeOver]

@[simp] theorem State.takeoverComplete_crowded (s : State) (duration : BitVec 16) :
    crowded (s.takeoverComplete duration).ports = crowded s.ports := by
  unfold State.takeoverComplete
  dsimp only
  split <;> simp

@[simp] theorem State.restored_crowded (s : State) (x : Restore) (passes : Bool) (tenths : BitVec 16) :
    crowded (s.restored x passes tenths).ports = crowded s.ports := by
  unfold State.restored
  dsimp only
  split <;> simp

@[simp] theorem State.setViews_crowded (s : State) (p : Hp) (v : List (Nat × CounterView)) :
    crowded (s.setViews p v).ports = crowded s.ports := by simp [State.setViews]

@[simp] theorem State.snapshot_crowded (s : State) (p : Hp) (mask : BitVec 32) :
    crowded (s.snapshot p mask).ports = crowded s.ports := by simp [State.snapshot]

@[simp] theorem State.noteSnapTime_crowded (s : State) (p : Hp) (mask : BitVec 32) :
    crowded (s.noteSnapTime p mask).ports = crowded s.ports := by simp [State.noteSnapTime]

@[simp] theorem State.takeSnapshots_crowded (s : State) : crowded s.takeSnapshots.ports = crowded s.ports := by
  simp [State.takeSnapshots]

@[simp] theorem State.restartViews_crowded (s : State) (p : Hp) (named : CounterScope → Nat → Bool) :
    crowded (s.restartViews p named).ports = crowded s.ports := by simp [State.restartViews]

@[simp] theorem State.clearViews_crowded (s : State) (p : Hp) (named : Nat → Nat → Bool) :
    crowded (s.clearViews p named).ports = crowded s.ports := by simp [State.clearViews]

@[simp] theorem State.collectorNext_crowded (s : State) : crowded s.collectorNext.ports = crowded s.ports := by
  simp [State.collectorNext]

@[simp] theorem State.onBus_crowded (s : State) (p : Hp) (a : BusAnswer) :
    crowded (s.onBus p a).ports = crowded s.ports := by simp [State.onBus]

@[simp] theorem State.directed_crowded (s : State) (p : Hp) (addr : BitVec 7) (f : State → State)
    (h : ∀ x, crowded (f x).ports = crowded x.ports) :
    crowded (s.directed p addr f).ports = crowded s.ports := by
  unfold State.directed; split
  · simp
  · split <;> simp [h]

@[simp] theorem State.broadcast_crowded (s : State) (p : Hp) (f : State → State) (h : ∀ x, crowded
    (f x).ports = crowded x.ports) :
    crowded (s.broadcast p f).ports = crowded s.ports := by
  unfold State.broadcast; split <;> simp [h]

@[simp] theorem State.ccc_crowded (s : State) (p : Hp) (to_ : Option (BitVec 7)) (f : State → State)
    (h : ∀ x, crowded (f x).ports = crowded x.ports) :
    crowded (s.ccc p to_ f).ports = crowded s.ports := by
  unfold State.ccc; split <;> simp [h]

@[simp] theorem State.framed_crowded (s : State) (p : Hp) (x : Xfer) (code : Byte) (f : State → State)
    (h : ∀ x, crowded (f x).ports = crowded x.ports) :
    crowded (s.framed p x code f).ports = crowded s.ports := by
  unfold State.framed; split
  · rw [h]; simp
  · split
    · simp
    · split <;> simp [h]

@[simp] theorem State.portReply_crowded (s : State) (p : Hp) (h : Header) (auth : Option AuthContext)
    (st : Status) (data : Bytes) :
    crowded (s.portReply p h auth st data).ports = crowded s.ports := by simp [State.portReply]

@[simp] theorem State.authFail_crowded (s : State) (p : Hp) (h : Header) :
    crowded (s.authFail p h).ports = crowded s.ports := by simp [State.authFail]

@[simp] theorem State.accept_crowded (s : State) (p : Hp) (h : Header) (auth : Option AuthContext) (b : Bytes) :
    crowded (s.accept p h auth b).ports = crowded s.ports := by simp [State.accept]

@[simp] theorem State.retransmit_crowded (s : State) (p : Hp) (seq : BitVec 16) :
    crowded (s.retransmit p seq).ports = crowded s.ports := by
  unfold State.retransmit
  (repeat' split) <;> simp

@[simp] theorem State.sequence_crowded (s : State) (p : Hp) (h : Header) (auth : Option AuthContext) (b : Bytes) :
    crowded (s.sequence p h auth b).ports = crowded s.ports := by simp [State.sequence]

@[simp] theorem State.trailer_crowded (s : State) (p : Hp) (h : Header) (b : Bytes) :
    crowded (s.trailer p h b).ports = crowded s.ports := by
  unfold State.trailer
  dsimp only
  (repeat' split) <;> simp

@[simp] theorem State.packet_crowded (s : State) (p : Hp) (b : Bytes) :
    crowded (s.packet p b).ports = crowded s.ports := by simp [State.packet]

@[simp] theorem State.write_crowded (s : State) (p : Hp) (b : Bytes) :
    crowded (s.write p b).ports = crowded s.ports := by simp [State.write]

@[simp] theorem State.read_crowded (s : State) (p : Hp) : crowded (s.read p).ports = crowded s.ports := by
  unfold State.read
  dsimp only
  split <;> simp

@[simp] theorem State.ibiIfTraffic_crowded (s : State) (p : Hp) :
    crowded (s.ibiIfTraffic p).ports = crowded s.ports := by
  unfold State.ibiIfTraffic; apply State.updPort_crowded; intro q; split <;> simp

@[simp] theorem State.takeAddr_crowded (s : State) (p : Hp) (addr : BitVec 7) :
    crowded (s.takeAddr p addr).ports = crowded s.ports := by simp [State.takeAddr]

@[simp] theorem State.overflow_crowded (s : State) (p : Hp) : crowded (s.overflow p).ports = crowded s.ports := by
  simp [State.overflow]

@[simp] theorem State.sopEvent_crowded (s : State) (e : Eng) (old : Engine) (rate : BitVec 32) :
    crowded (s.sopEvent e old rate).ports = crowded s.ports := by simp [State.sopEvent]

@[simp] theorem State.switchCheck_crowded (s : State) (e : Eng) (old : Engine) :
    crowded (s.switchCheck e old).ports = crowded s.ports := by simp [State.switchCheck]

@[simp] theorem State.shortEngine_crowded (s : State) (l : List ShortMeasure) (e : Eng) :
    crowded (s.shortEngine l e).ports = crowded s.ports := by
  unfold State.shortEngine
  dsimp only
  split <;> simp

@[simp] theorem State.twinSwitch_crowded (s : State) (e : Eng) : crowded
    (s.twinSwitch e).ports = crowded s.ports := by
  simp [State.twinSwitch]

@[simp] theorem State.decimEvent_crowded (s : State) : crowded s.decimEvent.ports = crowded s.ports := by
  simp [State.decimEvent]

@[simp] theorem State.shortClients_crowded (s : State) : crowded s.shortClients.ports = crowded s.ports := by
  simp [State.shortClients]

@[simp] theorem State.rsFec_crowded (s : State) (ports : List (Nat × Nat)) (c : Cp) :
    crowded (s.rsFec ports c).ports = crowded s.ports := by
  unfold State.rsFec
  dsimp only
  split <;> simp

@[simp] theorem State.marginEvent_crowded (s : State) (e : Eng) : crowded
    (s.marginEvent e).ports = crowded s.ports := by
  unfold State.marginEvent
  (repeat' split) <;> simp

@[simp] theorem State.longEngine_crowded (s : State) (l : List LongMeasure) (e : Eng) :
    crowded (s.longEngine l e).ports = crowded s.ports := by
  unfold State.longEngine
  dsimp only
  split <;> simp

@[simp] theorem State.longReports_crowded (s : State) (e : Eng) : crowded
    (s.longReports e).ports = crowded s.ports := by
  simp [State.longReports]

@[simp] theorem State.stallEvent_crowded (s : State) (dir : Byte) (n : Nat) :
    crowded (s.stallEvent dir n).ports = crowded s.ports := by simp [State.stallEvent]

@[simp] theorem State.longBanks_crowded (s : State) : crowded s.longBanks.ports = crowded s.ports := by
  simp [State.longBanks]

@[simp] theorem State.longTime_crowded (s : State) : crowded s.longTime.ports = crowded s.ports := by
  simp [State.longTime]

@[simp] theorem State.longGauge_crowded (s : State) : crowded s.longGauge.ports = crowded s.ports := by
  simp [State.longGauge]

@[simp] theorem State.longCounters_crowded (s : State) : crowded s.longCounters.ports = crowded s.ports := by
  unfold State.longCounters
  dsimp only
  split <;> simp

@[simp] theorem State.hwWarm_crowded (s : State) : crowded s.hwWarm.ports = crowded s.ports := by
  unfold State.hwWarm
  (repeat' split) <;> simp

@[simp] theorem State.ovenWaited_crowded (s : State) : crowded s.ovenWaited.ports = crowded s.ports := by
  simp [State.ovenWaited]

@[simp] theorem State.strapFault_crowded (s : State) (strap : Byte) (code : Option (BitVec 12)) :
    crowded (s.strapFault strap code).ports = crowded s.ports := by
  unfold State.strapFault
  (repeat' split) <;> simp

@[simp] theorem State.readStraps_crowded (s : State) (rep : ReadyReport) :
    crowded (s.readStraps rep).ports = crowded s.ports := by simp [State.readStraps]

@[simp] theorem State.fuseEffect_crowded (s : State) (f : FuseRow) :
    crowded (s.fuseEffect f).ports = crowded s.ports := by
  unfold State.fuseEffect
  dsimp only
  split <;> simp

@[simp] theorem State.fuseFault_crowded (s : State) (f : FuseRow) : crowded
    (s.fuseFault f).ports = crowded s.ports := by
  simp [State.fuseFault]

@[simp] theorem State.readFuse_crowded (s : State) (f : FuseRow) : crowded
    (s.readFuse f).ports = crowded s.ports := by
  unfold State.readFuse
  (repeat' split) <;> simp

@[simp] theorem State.readFuses_crowded (s : State) (rep : ReadyReport) :
    crowded (s.readFuses rep).ports = crowded s.ports := by simp [State.readFuses]

@[simp] theorem State.recordFault_crowded (s : State) (f : FactoryRecord) :
    crowded (s.recordFault f).ports = crowded s.ports := by simp [State.recordFault]

@[simp] theorem State.calibrateGauge_crowded (s : State) : crowded s.calibrateGauge.ports = crowded s.ports := by
  simp [State.calibrateGauge]

@[simp] theorem State.recordTrip_crowded (s : State) : crowded s.recordTrip.ports = crowded s.ports := by
  simp [State.recordTrip]

theorem Port.retime_length (p : Port) (now : BitVec 48) : (p.retime now).events.length = p.events.length := by
  have h := List.length_eq_length_filter_add (l := p.events) fun x => x.code != 0x0C03
  simp only [bne, Bool.not_not] at h
  simp only [Port.retime, List.length_append, List.length_map, bne, h]

@[simp] theorem State.openPorts_crowded (s : State) : crowded s.openPorts.ports = crowded s.ports :=
  crowded_map _ _ fun q => by simp [Port.retime_length]

@[simp] theorem State.announceReady_crowded (s : State) (time : BitVec 32) :
    crowded (s.announceReady time).ports = crowded s.ports := by simp [State.announceReady]

@[simp] theorem State.immediateEffect_crowded (s : State) (x : Immediate) :
    crowded (s.immediateEffect x).ports = crowded s.ports := by
  unfold State.immediateEffect
  (repeat' split) <;> simp

@[simp] theorem State.immediateEffects_crowded (s : State) : crowded s.immediateEffects.ports = crowded s.ports := by
  simp [State.immediateEffects]

@[simp] theorem State.depEndDue_crowded (s : State) (e : Eng) : crowded (s.depEndDue e).ports = crowded s.ports := by
  unfold State.depEndDue; split
  · unfold execDepEnd eventIf event; dsimp only; (repeat' split) <;> simp
  · rfl

@[simp] theorem State.beforeTick_crowded (s : State) : crowded s.beforeTick.ports = crowded s.ports := by
  simp [State.beforeTick]

@[simp] theorem State.tdSetsDue_crowded (s : State) : crowded s.tdSetsDue.ports = crowded s.ports := by
  unfold State.tdSetsDue; apply foldl_crowded; intro s d; split
  · split <;> simp
  · rfl

@[simp] theorem State.deadlines_crowded (s : State) (id : Nat) : crowded
    (s.deadlines id).ports = crowded s.ports := by
  unfold State.deadlines
  dsimp only
  (repeat' split) <;> simp

@[simp] theorem repeated_crowded (n : Nat) (f : State → State) (s : State) (h : ∀ x, crowded
    (f x).ports = crowded x.ports) :
    crowded (repeated n f s).ports = crowded s.ports := by
  unfold repeated; exact foldl_crowded _ _ (fun s _ => h s) s

@[simp] theorem State.serveFlows_crowded (s : State) (d : Dir) : crowded
    (s.serveFlows d).ports = crowded s.ports := by
  simp [State.serveFlows]

@[simp] theorem State.withinPeriod_crowded (s : State) : crowded s.withinPeriod.ports = crowded s.ports := by
  simp [State.withinPeriod]

@[simp] theorem State.afterTick_crowded (s : State) : crowded s.afterTick.ports = crowded s.ports := by
  simp [State.afterTick]

@[simp] theorem State.turnTo_crowded (s : State) (p : Hp) : crowded (s.turnTo p).ports = crowded s.ports := by
  simp [State.turnTo]

@[simp] theorem State.withFetchWord_crowded (s : State) (nbits w : Nat) :
    crowded (s.withFetchWord nbits w).ports = crowded s.ports := by
  unfold State.withFetchWord
  (repeat' split) <;> simp

end Sys2Proof.Machine
end

section
/-! SUPPORT. What stands whatever is executed: of all commands, only those that write a setting, a reset and EVENT_READ move
a setting or the bound of an event queue. -/

namespace Sys2Proof.Machine

/-! ## What stands whatever happens -/

/-- What only its own commands and resets change: the settings, and which ports' event queues are crowded. -/
def State.standing (s : State) : Settings × Vector Bool 4 := (s.settings, crowded s.ports)

/-- An answer's state, where it has one, stands as `s` does. -/
abbrev Answer.Stands (s : State) (a : Answer) : Prop := a.Leads State.standing (fun x y => y = x) s

/-- A command answers a next state that stands as the state before. -/
def Stands (o : Host.Outcome State Fault Refusal) (s : State) : Prop := ∃ t, o = .next t ∧ t.standing = s.standing

theorem ignoresServing_standing : IgnoresServing State.standing where
  take s op r := by simp [State.standing]
  conclude s op r st data := by simp [State.standing]
  runOn s op r := by simp [State.standing]

theorem opcode_stands {op : BitVec 16} {v : Bool} {r : Request} {s : State} {body : State → Answer}
    (h : ∀ s, (body s).Stands s) : Stands (opcode op v r s body) s :=
  opcode_leads (Q := fun x y => y = x) ignoresServing_standing rfl h

theorem next_stands {s t : State} (h : t.standing = s.standing) : Stands (.next t) s := ⟨t, rfl, h⟩

theorem event_stands {s : State} {f : State → State} (h : ∀ s, (f s).standing = s.standing) : Stands (event s f) s := by
  unfold event
  split
  · exact next_stands (h s)
  · exact next_stands rfl

theorem eventIf_stands {s : State} {c : Bool} {f : State → State} (h : ∀ s, (f s).standing = s.standing) :
    Stands (eventIf s c f) s := by
  refine event_stands fun s => ?_
  split
  · exact h s
  · rfl

/-! ## Batches (R309, R325) -/

section
variable {β : Type} {g : State → β} {Q : β → β → Prop} {s : State}

theorem checkEach_leads {a : Answer} (es : List Bytes) (bad : Bytes → Bool) (st : Status) (h : a.Leads g Q s) :
    (checkEach es bad st a).Leads g Q s := by
  unfold checkEach
  split
  · trivial
  · exact h

end

theorem unwrapAll_standing (p : Hp) (gate : KeySlot → Option Status) (es : List Bytes) (i : Nat) (s : State) :
    (s.unwrapAll p gate es i).1.standing = s.standing := by
  induction es generalizing s i with
  | nil => rfl
  | cons e es ih =>
    have h (kind : Byte) (n : Nat) (gen : BitVec 16) (b : Bytes) : (s.unwrap p kind n gen b).1.standing = s.standing := by
      simp [State.standing]
    unfold State.unwrapAll
    dsimp only
    (repeat' split) <;> simp [ih, h]

theorem ctxReadWords_standing (n : Nat) (ws : List Nat) (s : State) :
    (s.ctxReadWords n ws).1.standing = s.standing := by
  induction ws generalizing s with
  | nil => rfl
  | cons w ws ih =>
    have h : (s.ctxReadWord n w).1.standing = s.standing := by simp [State.standing]
    unfold State.ctxReadWords
    dsimp only
    split <;> simp [ih, h]

theorem enact_stands (r : Request) (ops : List FlowOp) {s t : State} (h : t.standing = s.standing) :
    (enact r t ops).Stands s := by
  unfold enact
  dsimp only
  (repeat' split) <;> simpa [Answer.Leads, State.standing] using h

theorem enactLoads_stands (r : Request) (op : Bytes → FlowOp) (es : List Bytes) {s t : State}
    (h : t.standing = s.standing) : (enactLoads r op t es).Stands s := by
  unfold enactLoads
  split
  · exact h
  · exact enact_stands r _ h

theorem flowBatch_stands (r : Request) (s : State) (named : Bool) (check : State → Bytes → Option Status)
    (apply : State → Bytes → State) (op : Bytes → FlowOp) : (flowBatch r s named check apply op).Stands s := by
  have h (es : List Bytes) : (s.seekAll es).standing = s.standing := by simp [State.standing]
  refine guards_leads _ (checkEach_leads _ _ _ (checkEach_leads _ _ _ (checkEach_leads _ _ _ (guards_leads _ ?_))))
  dsimp only
  split
  · exact h _
  · exact enact_stands r _ (h _)

theorem ctxBatch_stands {r : Request} {s : State} {size most : Nat} {bad tenant : Bytes → Bool}
    {check : State → Bytes → Option Status} {op : Bytes → FlowOp} {k : State → List Bytes → Answer}
    (hk : ∀ t es, t.standing = s.standing → (k t es).Stands s) :
    (ctxBatch r s size most bad tenant check op k).Stands s := by
  have h (es : List Bytes) : (s.touchAll es).standing = s.standing := by simp [State.standing]
  refine guards_leads _ (checkEach_leads _ _ _ (checkEach_leads _ _ _ (checkEach_leads _ _ _ (guards_leads _ ?_))))
  dsimp only
  split
  · exact h _
  · exact hk _ _ (h _)

theorem keyBatch_stands {r : Request} {s : State} {early late : List (Bool × Status)} {gate : KeySlot → Option Status}
    {k : State → List (Nat × KeyValue) → Answer} (hk : ∀ t vs, t.standing = s.standing → (k t vs).Stands s) :
    (keyBatch r s early late gate k).Stands s := by
  refine guards_leads _ (checkEach_leads _ _ _ (checkEach_leads _ _ _ (guards_leads _ ?_)))
  dsimp only
  split
  · trivial
  · have h := unwrapAll_standing r.port gate (batchEntries r 68) 0 s
    split
    · exact h
    · exact hk _ _ h

/-! ## What single operations keep -/

@[simp] theorem Engine.beginSearch_params (x : Engine) : x.beginSearch.params = x.params := by
  unfold Engine.beginSearch
  (repeat' split) <;> rfl

@[simp] theorem Engine.align_params (x : Engine) (off : Nat) : (x.align off).params = x.params := rfl
@[simp] theorem Lane.adapt_eq (l : Lane) (ctle : Byte) (dfe : Vector Int 12) : (l.adapt ctle dfe).eq = l.eq := rfl
@[simp] theorem SupState.fail_flags (p : SupState) (u : Fin 2) (cause : Byte) (now : BitVec 48) :
    (p.fail u cause now).flags = p.flags := rfl
@[simp] theorem NvState.burnOwner_factory (n : NvState) (rows : List FuseRow) :
    (n.burnOwner rows).factory = n.factory := rfl
@[simp] theorem NvState.burnOwner_integrator (n : NvState) (rows : List FuseRow) :
    (n.burnOwner rows).integrator = n.integrator := rfl

theorem Lane.setPower_eq (l : Lane) (p : LanePower) : (l.setPower p).eq = l.eq := by
  unfold Lane.setPower
  dsimp only
  (repeat' split) <;> rfl

theorem GaugeState.takeResults_keeps (g : GaugeState) (k : Nat) :
    (g.takeResults k).seq = g.seq ∧ (g.takeResults k).tol = g.tol ∧ (g.takeResults k).disagreeN = g.disagreeN := by
  unfold GaugeState.takeResults
  dsimp only
  (repeat' split) <;> exact ⟨rfl, rfl, rfl⟩

theorem acceptCommit_stands (s : State) (r : Request) (f : CommitForm) : (s.acceptCommit r f).Stands s := by
  unfold State.acceptCommit
  dsimp only
  split
  · rfl
  · have h (k : Commit) : ({ s with
        commits := s.commits ++ [k], spent := s.spent.filter fun x => x.1 != k.id } : State).standing = s.standing := rfl
    (repeat' split) <;> simpa [Answer.Leads, State.standing] using h _

theorem commitEvent_stands {s : State} {id : Nat} {due : State → Commit → Bool} {act : State → Commit → State}
    (h : ∀ s k, (act s k).standing = s.standing) : Stands (commitEvent id s due act) s := by
  refine event_stands fun s => ?_
  split
  · split
    · exact h s _
    · rfl
  · rfl

theorem updEng_standing (s : State) (e : Eng) (f : Engine → Engine)
    (h : ∀ x, (f x).params.staged = x.params.staged) : (s.updEng e f).standing = s.standing := by
  simp [State.standing, h]

/-! ## Every other command leaves what stands -/

/-- The commands that can move a setting, reset the module, or take records off an event queue. -/
def movesStanding : Instr → Bool
  | .txConfigWrite _ | .rxConfigWrite _ | .calConfigWrite _ | .fecConfigWrite _ | .profileWrite _ |
    .frameConfigWrite _ | .slotmapWrite _ | .etypeWrite _ | .cportWrite _ | .flowPortWrite _ | .ptpPortWrite _ |
    .laneEqWrite _ | .synceWrite _ | .sealConfigWrite _ | .hwConfigWrite _ | .tdConfigWrite _ | .gaugeSeqWrite _
    | .gaugeCheckWrite _ | .memConfigWrite _ | .weirPolicyWrite _ | .supConfigWrite _ | .tenancySet _ |
    .ownerProvision _ | .nvWriteDone | .moduleReady _ | .sluiceDiscard _ | .powerOnTrigger | .supplyLoss _ |
    .hardwiredTrip | .tripLatchRelease | .resetNDeassert _ | .moduleResetBegin | .eventRead _ => true
  | _ => false

theorem exec_stands (c : Instr) (hc : movesStanding c = false) (s : State) : Stands (exec c s) s := by
  cases c with
  | portInfo | portEcho | tenancyGet | wsInfo | wsRead | sluiceStatus | txConfigRead | txStatus | rxConfigRead |
    rxStatus | rxMonitor | rxCaptureRead | calConfigRead | calStatus | calSliceRead | calRecords | fecConfigRead |
    fecStatus | profileRead | frameConfigRead | slotmapRead | frameStatus | cportRead | laneEqRead | synceRead |
    laneStatus | portStatus | flowPortRead | etypeRead | sealConfigRead | keyStatus | portkeyStatus |
    millraceStatus | ownerStatus | memConfigRead | memStatus | hwConfigRead | hwPhaseStep | hwStatus |
    hwInputStatus | tdConfigRead | tdSet | tdStatus | ptpPortRead | tpoWrite | tpoRead | captureRead | tslogRead |
    gaugeSeqRead | gaugeStatus | weirPolicyRead | weirStatus | weirSensorRead | supStatus | supRestore |
    supConfigRead | ctrConfigWrite | ctrConfigRead | ctrSnapshot | frRead | tagConfigWrite | tagLogRead |
    moduleReset | resetInfo | nvRead | nvWrite =>
    unfold exec
    exact opcode_stands fun s => guards_leads _ rfl
  | portConfig | portReset | txBiasHold | rxCapture | portkeyErase | gaugeCalibrate | supSwap | flowLookup |
    idChallenge | memLogRead | lanePower =>
    unfold exec
    exact opcode_stands fun s => guards_leads _ (by simp [answer, Answer.Leads, State.standing, Lane.setPower_eq])
  | rxReacquire | clientLoopback | prbsControl | rxFreeze =>
    unfold exec
    refine opcode_stands fun s => guards_leads _ (guards_leads _ ?_)
    (repeat' split) <;> simp [Answer.Leads, State.standing]
  | ctxFill | keyErase | portkeyLoad | memWordRead | memInject =>
    unfold exec
    refine opcode_stands fun s => guards_leads _ ?_
    dsimp only
    (repeat' split) <;> simp [Answer.Leads, State.standing]
  | wsFind =>
    unfold exec
    refine opcode_stands fun s => guards_leads _ ?_
    split <;> first | rfl | trivial
  | sluiceCommit =>
    unfold exec
    refine opcode_stands fun s => guards_leads _ ?_
    split
    · trivial
    · exact guards_leads _ (acceptCommit_stands _ _ _)
  | sluiceCancel =>
    unfold exec
    refine opcode_stands fun s => guards_leads _ ?_
    split
    · refine guards_leads _ ?_
      simp [Answer.Leads, State.standing]
    · split
      · exact guards_leads _ trivial
      · trivial
  | flowAdd | flowDelete =>
    unfold exec
    exact opcode_stands fun s => flowBatch_stands _ s _ _ _ _
  | ctxLoad =>
    unfold exec
    exact opcode_stands fun s => ctxBatch_stands fun t es => enactLoads_stands _ _ _
  | ctxReload =>
    unfold exec
    exact opcode_stands fun s => guards_leads _ (ctxBatch_stands fun t es => enactLoads_stands _ _ _)
  | ctxRekey =>
    unfold exec
    refine opcode_stands fun s => ctxBatch_stands fun t es h => ?_
    split
    · exact h
    · exact enact_stands _ _ h
  | keyLoad =>
    unfold exec
    refine opcode_stands fun s => keyBatch_stands fun t vs h => ?_
    simpa [Answer.Leads, State.standing] using h
  | keyRewrite =>
    unfold exec
    refine opcode_stands fun s => ?_
    unfold keyRewriteBody
    refine keyBatch_stands fun t vs h => guards_leads _ ?_
    simpa [Answer.Leads, State.standing] using h
  | ctxRead =>
    unfold exec
    refine opcode_stands fun s => guards_leads _ ?_
    dsimp only
    split <;> exact ctxReadWords_standing _ _ _
  | requestPacket | replyRead | cccEntdaa | cccSetdasa | cccSetnewda | cccRstdaa | cccEnec | cccDisec | cccGetpid
    | cccGetbcr | cccGetdcr | cccGetstatus | cccGetmwl | cccGetmrl | cccSetmwl | cccSetmrl | cccEnthdr0 | cccOther
    | frameTransmit | channelTrainingDone | channelTrainingFail | memSweepDone | ovenStable =>
    unfold exec
    exact next_stands (by simp [State.standing])
  | commitBoundary | pairedTxSwitch | pairedRxSwitch | calApply | contextFetchDone | millraceAdmit | graceExpiry |
    keyErasePoint | gaugeCalDone | gbConversionEnd | weirReading | voterDisagree | ctrSnapshotTick |
    shortIntervalEnd | longIntervalEnd | immediateEffectBoundary =>
    unfold exec
    exact event_stands fun s => by simp [State.standing]
  | ibiRepeat | lockerLocked | biasAcquired | txReady | depEnd | txQuenched | laserFault | txPowerFault | losTimer
    | lightTimer | freqEstimated | timingLock | timingLockLost | cmaConverged | carrierLockLost | rxStateTimeout |
    tapUpdate | calIntervalEnd | scSlot | clientFrameRx | portFailDetect | portFailClearTimer | lineEgressFrame |
    inputQualifyTimer | inputLoss | buildOutWindowEnd | hwLockDeclared | wtrExpiry | phaseStepApply | phaseSlewEnd
    | refoutRestart | syncLossTimeout | tpoEdge | decimatorReset | gaCycleStart | gbPassTick | weirReleaseTimer |
    autoRestoreTimer | refereeWindow | supParityFault | supIllegalState | journalRecordFail | takeoverComplete |
    tileLinkFail | prbsCheckerLock | prbsCheckerRelock | ppsOutEdge | outputTimeSlewEnd | tdSetApply =>
    unfold exec
    exact eventIf_stands fun s => by simp [State.standing]
  | rxCaptureDone | frameReceive | laneFrameRx | ctxFillDone | keyRewriteGraceEnd | keyEraseDone =>
    unfold exec
    refine event_stands fun s => ?_
    split <;> simp [State.standing]
  | clientOrderedSetRx | laneAdaptDone | ptpEventMessage =>
    unfold exec
    refine eventIf_stands fun s => ?_
    split <;> simp [State.standing]
  | pilotFound | calMeasureDone | dacCalStepDone | decoderAdvance | eddyRead =>
    unfold exec
    refine eventIf_stands fun s => ?_
    dsimp only
    (repeat' split) <;> simp [State.standing]
  | ackDeadline | responderTarget =>
    unfold exec
    exact commitEvent_stands fun s k => by simp [State.standing]
  | txConfigWrite | rxConfigWrite | calConfigWrite | fecConfigWrite | profileWrite | frameConfigWrite |
    slotmapWrite | etypeWrite | cportWrite | flowPortWrite | ptpPortWrite | laneEqWrite | synceWrite |
    sealConfigWrite | hwConfigWrite | tdConfigWrite | gaugeSeqWrite | gaugeCheckWrite | memConfigWrite |
    weirPolicyWrite | supConfigWrite | tenancySet | ownerProvision | nvWriteDone | moduleReady | sluiceDiscard |
    powerOnTrigger | supplyLoss | hardwiredTrip | tripLatchRelease | resetNDeassert | moduleResetBegin | eventRead
    =>
    exact Bool.noConfusion hc
  | cdSearchPassEnd =>
    unfold exec
    refine eventIf_stands fun s => ?_
    (repeat' split)
    · rfl
    · exact updEng_standing _ _ _ fun x => by split <;> rfl
    · rfl
    · simp [State.standing]
  | groupHuntDone =>
    unfold exec
    refine eventIf_stands fun s => ?_
    have h (off : Nat) (e : Eng) : (s.updEng e fun x => x.align off).settings = s.settings :=
      State.updEng_settings _ _ _ fun _ => rfl
    (repeat' split) <;> simp [State.standing, h]
  | ownerProvisionDone =>
    unfold exec
    refine event_stands fun s => ?_
    dsimp only
    split
    · rfl
    · simp only [State.standing, State.cmdDone_settings, State.cmdDone_crowded]
      rfl
  | mergeRetire =>
    unfold exec execMergeRetire
    refine event_stands fun s => ?_
    (repeat' split) <;> simp [State.standing]
  | holdoverSecond =>
    show Stands (execHoldoverSecond s) s
    unfold execHoldoverSecond
    split
    · exact next_stands rfl
    · exact eventIf_stands fun s => by simp [State.standing]
  | captureEdge | swapWindowEnd | restoreComplete =>
    unfold exec
    refine event_stands fun s => ?_
    (repeat' split) <;> simp [State.standing]
  | gaugeInject =>
    unfold exec
    refine opcode_stands fun s => guards_leads _ ?_
    (repeat' split) <;> simp [Answer.Leads, State.standing]
  | gaugeResultRead =>
    unfold exec
    refine opcode_stands fun s => guards_leads _ ?_
    simp [answer, Answer.Leads, State.standing, State.settings, GaugeState.takeResults_keeps]
  | ctrRead =>
    unfold exec
    refine opcode_stands fun s => guards_leads _ ?_
    split
    · trivial
    · exact guards_leads _ rfl
  | ctrClear r =>
    unfold exec
    refine opcode_stands fun s => guards_leads _ ?_
    have h (mine : Nat → Nat → Bool) : (s.clearViews r.port mine).standing = s.standing :=
      by simp [State.standing]
    (repeat' split)
    · exact h _
    · trivial
    · exact guards_leads _ (h _)
  | resetNAssert | vioLoss | vioRestored =>
    exact next_stands rfl
  | tapReset | jtagBypass | jtagIdcode | jtagSamplePreload | jtagExtest | jtagClamp | jtagHighz | p3v3AuxApplied
    =>
    exact next_stands (by split <;> rfl)

end Sys2Proof.Machine
end

section
/-! Settings, tenancies and event queues over one command and one step, and at reset (R54, R56 to R60, R74 to R76, R90, R460,
R513). -/

namespace Sys2Proof.Machine

/-! ## What a setting's own command makes of it (O55) -/

/-- Settings that have not changed are in every command's frame. -/
theorem settingsFrame_refl (c : Instr) (a : Settings) : SettingsFrame c a a := by
  cases c with
  | powerOnTrigger | supplyLoss | hardwiredTrip | tripLatchRelease | resetNDeassert | moduleResetBegin => exact .inl rfl
  | _ => rfl

theorem ignoresServing_settings : IgnoresServing State.settings where
  take := by simp
  conclude := by simp
  runOn := by simp

/-- A request whose effect stays in a command's frame is in it. -/
theorem opcode_inFrame {c : Instr} {op : BitVec 16} {v : Bool} {r : Request} {s : State} {body : State → Answer}
    (h : ∀ s, (body s).Leads State.settings (SettingsFrame c) s) :
    ∃ t, opcode op v r s body = .next t ∧ SettingsFrame c s.settings t.settings :=
  opcode_leads ignoresServing_settings (settingsFrame_refl c _) h

/-- An event whose effect stays in a command's frame is in it. -/
theorem event_inFrame {c : Instr} {s : State} {f : State → State}
    (h : ∀ s, SettingsFrame c s.settings (f s).settings) :
    ∃ t, event s f = .next t ∧ SettingsFrame c s.settings t.settings := by
  unfold event
  split
  · exact ⟨_, rfl, h s⟩
  · exact ⟨_, rfl, settingsFrame_refl c _⟩

/-- The settings without the staged copies that SLUICE_DISCARD takes back, which stand at their defaults. -/
def Settings.unstaged (a : Settings) : Settings :=
  { a with
    engines := State.reset.settings.engines, lanes := State.reset.settings.lanes,
    cports := State.reset.settings.cports, synce := State.reset.settings.synce, hw := State.reset.settings.hw,
    time := State.reset.settings.time, gauge := State.reset.settings.gauge }

theorem Settings.eq_of_unstaged {a b : Settings} (h : b.unstaged = a.unstaged) :
    b = { a with
      engines := b.engines, lanes := b.lanes, cports := b.cports, synce := b.synce, hw := b.hw, time := b.time,
      gauge := b.gauge } := by
  cases a
  cases b
  simpa [Settings.unstaged] using h

/-- SLUICE_DISCARD moves staged copies alone (R90). -/
theorem State.discard_keeps (s : State) (f : CommitForm) :
    ((s.discard f).settings.unstaged, (s.discard f).ports) = (s.settings.unstaged, s.ports) := by
  let g : State → Settings × Vector Port 4 := fun s => (s.settings.unstaged, s.ports)
  have hengines (l : List Eng) (s : State) : g (l.foldl (fun s e => if f.engines.getLsbD e.val then
      s.stage e fun p => p.taking (s.eng e).params.active f.classes else s) s) = g s :=
    foldl_keeps g (fun s e => by split <;> rfl) l s
  have hcports (l : List Cp) (s : State) : g (l.foldl (fun s c => s.updCport c fun p =>
      { p with params := { p.params with staged := p.params.active } }) s) = g s :=
    foldl_keeps g (by intros; rfl) l s
  have hlanes (l : List LaneNo) (s : State) : g (l.foldl (fun s l => if f.engines.getLsbD (l.val / 16) then
      s.updLane l fun x => { x with eq := { x.eq with staged := x.eq.active } } else s) s) = g s :=
    foldl_keeps g (fun s l => by split <;> rfl) l s
  have hslots (l : List Nat) (s : State) : g (l.foldl (fun s n => s.setSlot n { s.slot n with staged := none }) s) = g s :=
    foldl_keeps g (by intros; rfl) l s
  have hc (c : Bool) (s t : State) (h : g t = g s) : g (if c then t else s) = g s := by
    split
    · exact h
    · rfl
  unfold State.discard
  extract_lets s1 _ s2 s3 _ s4 s5 _ _ s6 _ _ _ s7
  calc _ = g s7 := hc _ _ _ (by rfl)
    _ = g s6 := hc _ _ _ (by rfl)
    _ = g s5 := hc _ _ _ (by rfl)
    _ = g s4 := hc _ _ _ (hslots _ _)
    _ = g s3 := hc _ _ _ (by rfl)
    _ = g s2 := hc _ _ _ (hlanes _ _)
    _ = g s1 := hcports _ _
    _ = g s := hengines _ _

/-! ## Resets (R507, R513) -/

/-- The settings of a module that a reset has begun from `s`: defaults, but identity, the factory region and what the
non-volatile stores hold. -/
def Defaulted (a b : Settings) : Prop :=
  b = { State.reset.settings with
    ident := a.ident, factory := a.factory, integrator := b.integrator, ownerKey := b.ownerKey }

theorem NvState.cut_factory (n : NvState) (free : Nat) : (n.cut free).factory = n.factory := by
  unfold NvState.cut
  split <;> rfl

theorem State.cutFuses_factory (s : State) : s.cutFuses.factory = s.nv.factory := by
  unfold State.cutFuses
  dsimp only
  split <;> simp [NvState.cut_factory]

theorem State.blank_defaulted (s : State) : Defaulted s.settings s.blank.settings := by
  unfold Defaulted
  rw [show s.settings.factory = s.blank.settings.factory from s.cutFuses_factory.symm]
  rfl

theorem State.warmReset_defaulted (s : State) (cause : Byte) : Defaulted s.settings (s.warmReset cause).settings := by
  have h := s.hwWarm.blank_defaulted
  rwa [State.hwWarm_settings] at h

theorem State.coldReset_defaulted (s : State) (phase : PowerPhase) (cause : Byte) :
    Defaulted s.settings (s.coldReset phase cause).settings := s.blank_defaulted

theorem State.powerUp_defaulted (s : State) (cause : Byte) : Defaulted s.settings (s.powerUp cause).settings := by
  have h := s.ovenWaited.coldReset_defaulted .starting cause
  rwa [State.ovenWaited_settings] at h

theorem State.railsOff_settings (s : State) :
    s.railsOff.settings = s.settings ∨ Defaulted s.settings s.railsOff.settings := by
  unfold State.railsOff
  split
  · exact .inr s.blank_defaulted
  · exact .inl rfl

/-- Every command that may move a setting keeps to its frame. -/
theorem exec_inFrame (c : Instr) (hc : movesStanding c = true) (s : State) :
    ∃ t, exec c s = .next t ∧ SettingsFrame c s.settings t.settings := by
  cases c with
  | txConfigWrite | rxConfigWrite | calConfigWrite | fecConfigWrite | profileWrite | frameConfigWrite | slotmapWrite |
    etypeWrite | cportWrite | flowPortWrite | ptpPortWrite | laneEqWrite | synceWrite | sealConfigWrite |
    hwConfigWrite | tdConfigWrite | gaugeSeqWrite | gaugeCheckWrite | memConfigWrite | weirPolicyWrite |
    supConfigWrite | ownerProvision =>
    exact opcode_inFrame fun s => guards_leads _ rfl
  | tenancySet =>
    refine opcode_inFrame fun s => guards_leads _ ?_
    simp only [Answer.Leads, State.setTenancy, State.raise_settings, State.restartViews_settings]
    rfl
  | sluiceDiscard =>
    exact opcode_inFrame fun s => guards_leads _ (Settings.eq_of_unstaged (congrArg Prod.fst (s.discard_keeps _)))
  | eventRead => 
    refine opcode_inFrame fun s => guards_leads _ ?_
    simp [Answer.Leads, SettingsFrame]
  | nvWriteDone =>
    unfold exec
    refine event_inFrame fun s => ?_
    split
    · simp only [State.nvDone, State.cmdDone_settings]
      rfl
    · rfl
  | moduleReady =>
    refine ⟨_, rfl, ?_⟩
    split
    · exact State.becomeReady_settings _ _
    · rfl
  | powerOnTrigger =>
    refine ⟨_, rfl, ?_⟩
    split
    · exact .inr (State.powerUp_defaulted _ _)
    · exact .inl rfl
  | supplyLoss aux =>
    refine ⟨_, rfl, ?_⟩
    have h := s.railsOff_settings
    have haux : s.losesAux.settings = s.railsOff.settings := by simp [State.losesAux, State.settings, State.skip]
    (repeat' split)
    · rwa [← haux] at h
    · exact .inl rfl
    · exact h
    · exact .inl rfl
  | hardwiredTrip =>
    refine ⟨_, rfl, ?_⟩
    split
    · exact s.railsOff_settings
    · exact .inl rfl
  | tripLatchRelease =>
    refine ⟨_, rfl, ?_⟩
    dsimp only
    (repeat' split)
    · exact .inr (State.powerUp_defaulted _ _)
    · exact .inl rfl
    · exact .inl rfl
  | resetNDeassert =>
    refine ⟨_, rfl, ?_⟩
    dsimp only
    (repeat' split)
    · exact .inr (State.warmReset_defaulted _ _)
    · exact .inl rfl
    · exact .inl rfl
  | moduleResetBegin =>
    unfold exec execModuleResetBegin eventIf
    refine event_inFrame fun s => ?_
    dsimp only
    split
    · exact .inr (State.warmReset_defaulted _ 3)
    · exact .inl rfl
  | _ => exact Bool.noConfusion hc

/-- Settles O55: a command outside `movesStanding` leaves every setting, and each of the others keeps to its frame. -/
theorem settingsChangeOnlyByTheirCommands : Obligations.SettingsChangeOnlyByTheirCommands := by
  intro c s t h
  cases hc : movesStanding c with
  | true =>
    obtain ⟨u, hu, hf⟩ := exec_inFrame c hc s
    cases h.symm.trans hu
    exact hf
  | false =>
    obtain ⟨u, hu, hf⟩ := exec_stands c hc s
    cases h.symm.trans hu
    have hs : t.settings = s.settings := congrArg Prod.fst hf
    rw [hs]
    exact settingsFrame_refl c _

/-! ## Event queues and tenancies (O56, O60) -/

/-- A step executes one command on a state that stands as `s` does, leaves what stands, or begins the command reset whose
reply has been read. -/
theorem step_cases {s t : State} (h : step s = .next t) :
    (∃ c u, u.standing = s.standing ∧ exec c u = .next t) ∨ t.standing = s.standing ∨ t = s.warmReset 3 := by
  unfold step at h
  split at h
  next i rest _ => exact .inl ⟨i, { s with pending := rest }, rfl, h⟩
  · unfold stepIdle at h
    split at h
    next op r _ =>
      unfold stepRequest at h
      have hturn : (s.turnTo r.port).standing = s.standing := by simp [State.standing]
      split at h
      next i _ => exact .inl ⟨i, _, hturn, h⟩
      · obtain ⟨u, hu, hs⟩ :
            Stands (opcode op true r (s.turnTo r.port) fun _ => .fail .unknownOpcode []) (s.turnTo r.port) :=
          opcode_stands fun _ => trivial
        cases h.symm.trans hu
        exact .inr (.inl (hs.trans hturn))
    · cases h
      unfold State.idle State.readyTick
      split
      · split
        · exact .inr (.inr rfl)
        · exact .inr (.inl (by simp [State.standing]))
      · split
        · exact .inr (.inl (by simp [State.standing]))
        · exact .inr (.inl rfl)

/-- Where no queue was crowded, none is. -/
def Uncrowding (x y : Vector Bool 4) : Prop := x = Vector.replicate 4 false → y = Vector.replicate 4 false

theorem ignoresServing_crowded : IgnoresServing fun s => crowded s.ports where
  take := by simp
  conclude := by simp
  runOn := by simp

theorem opcode_uncrowding {op : BitVec 16} {v : Bool} {r : Request} {s : State} {body : State → Answer}
    (h : ∀ s, (body s).Leads (fun s => crowded s.ports) Uncrowding s) :
    ∃ t, opcode op v r s body = .next t ∧ Uncrowding (crowded s.ports) (crowded t.ports) :=
  opcode_leads ignoresServing_crowded id h

theorem event_uncrowding {s : State} {f : State → State}
    (h : ∀ s, Uncrowding (crowded s.ports) (crowded (f s).ports)) :
    ∃ t, event s f = .next t ∧ Uncrowding (crowded s.ports) (crowded t.ports) := by
  unfold event
  split
  · exact ⟨_, rfl, h s⟩
  · exact ⟨_, rfl, id⟩

theorem uncrowding_of_eq {x y : Vector Bool 4} (h : y = x) : Uncrowding x y := fun hx => h.trans hx

@[simp] theorem reset_port (p : Hp) : State.reset.port p = {} := by simp [State.port, State.reset]

/-- A reset empties every queue. -/
theorem reset_eventsOk : State.reset.eventsOk := fun p => by simp

theorem reset_uncrowded : crowded State.reset.ports = Vector.replicate 4 false :=
  State.reset.eventsOk_iff.mp reset_eventsOk

/-- Taking the oldest records crowds no queue (R69). -/
theorem State.takeEvents_uncrowding (s : State) (p : Hp) (k : Nat) :
    Uncrowding (crowded s.ports) (crowded (s.takeEvents p k).ports) := by
  intro h
  have hdrop : crowded (s.updPort p fun q => { q with events := q.events.drop k }).ports = Vector.replicate 4 false := by
    rw [← State.eventsOk_iff] at h ⊢
    intro q
    have hq := h q
    rw [State.port_updPort]
    split
    · simp only [List.length_drop]
      omega
    · exact hq
  unfold State.takeEvents
  dsimp only
  split
  · rw [State.overflow_crowded]
    exact hdrop
  · exact hdrop

/-- Every command that may move what stands leaves no queue crowded that was not. -/
theorem exec_uncrowding (c : Instr) (hc : movesStanding c = true) (s : State) :
    ∃ t, exec c s = .next t ∧ Uncrowding (crowded s.ports) (crowded t.ports) := by
  have hreset : Uncrowding (crowded s.ports) (crowded State.reset.ports) := fun _ => reset_uncrowded
  have hoff : Uncrowding (crowded s.ports) (crowded s.railsOff.ports) := by
    unfold State.railsOff
    split
    · exact hreset
    · exact id
  cases c with
  | txConfigWrite | rxConfigWrite | calConfigWrite | fecConfigWrite | profileWrite | frameConfigWrite | slotmapWrite |
    etypeWrite | cportWrite | flowPortWrite | ptpPortWrite | laneEqWrite | synceWrite | sealConfigWrite |
    hwConfigWrite | tdConfigWrite | gaugeSeqWrite | gaugeCheckWrite | memConfigWrite | weirPolicyWrite |
    supConfigWrite | ownerProvision =>
    exact opcode_uncrowding fun s => guards_leads _ id
  | tenancySet =>
    exact opcode_uncrowding fun s => guards_leads _ (uncrowding_of_eq (by simp [State.setTenancy]))
  | sluiceDiscard =>
    exact opcode_uncrowding fun s => guards_leads _
      (uncrowding_of_eq (congrArg crowded (congrArg Prod.snd (s.discard_keeps _))))
  | eventRead =>
    exact opcode_uncrowding fun s => guards_leads _ (s.takeEvents_uncrowding _ _)
  | nvWriteDone =>
    unfold exec
    refine event_uncrowding fun s => ?_
    split
    · exact uncrowding_of_eq (by simp [State.nvDone])
    · exact id
  | moduleReady =>
    refine ⟨_, rfl, ?_⟩
    split
    · exact uncrowding_of_eq (by simp [State.becomeReady, State.readRecords, State.readOwner])
    · exact id
  | powerOnTrigger =>
    refine ⟨_, rfl, ?_⟩
    split
    · exact hreset
    · exact id
  | supplyLoss aux =>
    refine ⟨_, rfl, ?_⟩
    (repeat' split)
    · exact hoff
    · exact id
    · exact hoff
    · exact id
  | hardwiredTrip =>
    refine ⟨_, rfl, ?_⟩
    split
    · exact hoff
    · exact id
  | tripLatchRelease | resetNDeassert =>
    refine ⟨_, rfl, ?_⟩
    dsimp only
    (repeat' split)
    · exact hreset
    · exact id
    · exact id
  | moduleResetBegin =>
    unfold exec execModuleResetBegin eventIf
    refine event_uncrowding fun s => ?_
    dsimp only
    split
    · exact fun _ => reset_uncrowded
    · exact id
  | _ => exact Bool.noConfusion hc

theorem exec_keeps_eventsOk {c : Instr} {s t : State} (hs : s.eventsOk) (h : exec c s = .next t) : t.eventsOk := by
  rw [State.eventsOk_iff] at hs ⊢
  cases hc : movesStanding c with
  | true =>
    obtain ⟨u, hu, hf⟩ := exec_uncrowding c hc s
    cases h.symm.trans hu
    exact hf hs
  | false =>
    obtain ⟨u, hu, hf⟩ := exec_stands c hc s
    cases h.symm.trans hu
    exact (congrArg Prod.snd hf).trans hs

theorem eventsOk_of_standing {s t : State} (h : t.standing = s.standing) (hs : s.eventsOk) : t.eventsOk := by
  rw [State.eventsOk_iff] at hs ⊢
  exact (congrArg Prod.snd h).trans hs

/-- Settles O60: a record joins a queue only where there is room, and no command but a reset or EVENT_READ moves a queue's
bound. -/
theorem eventQueuesStayBounded : Obligations.EventQueuesStayBounded := by
  intro s t hs h
  rcases step_cases h with ⟨c, u, hu, hexec⟩ | ht | rfl
  · exact exec_keeps_eventsOk (eventsOk_of_standing hu hs) hexec
  · exact eventsOk_of_standing ht hs
  · exact (State.eventsOk_iff _).mpr reset_uncrowded

/-- No resource lies in two of a list of tenancies, that of HP0 left out (R58). -/
def TenanciesDisjoint (v : Vector Tenancy 4) : Prop :=
  ∀ p q : Hp, p ≠ 0 → q ≠ 0 → p ≠ q → v[p].meets v[q] = false

theorem State.tenancyOk_iff (s : State) : s.tenancyOk ↔ TenanciesDisjoint s.settings.tenancies := by
  simp [State.tenancyOk, TenanciesDisjoint, State.settings, State.port]

theorem reset_tenancyOk : State.reset.tenancyOk := fun p q _ _ _ => by
  rw [reset_port, reset_port]
  rfl

theorem reset_tenanciesDisjoint : TenanciesDisjoint State.reset.settings.tenancies :=
  State.reset.tenancyOk_iff.mp reset_tenancyOk

theorem overlap_comm (x y : TenancyRange) : overlap x y = overlap y x := by
  unfold overlap
  rw [Bool.and_comm]

theorem any_overlap_comm (l m : List TenancyRange) :
    (l.any fun x => m.any (overlap x)) = m.any fun x => l.any (overlap x) := by
  rw [Bool.eq_iff_iff]
  simp only [List.any_eq_true]
  constructor
  · rintro ⟨x, hx, y, hy, h⟩
    exact ⟨y, hy, x, hx, (overlap_comm y x).trans h⟩
  · rintro ⟨x, hx, y, hy, h⟩
    exact ⟨y, hy, x, hx, (overlap_comm y x).trans h⟩

theorem Tenancy.meets_comm (a b : Tenancy) : a.meets b = b.meets a := by
  unfold Tenancy.meets
  rw [BitVec.and_comm a.engines, BitVec.and_comm a.tpo, BitVec.and_comm a.sc, BitVec.and_comm a.cports,
    any_overlap_comm a.ctx, any_overlap_comm a.ks]

/-- A tenancy that conflicts with no other port's takes its place among disjoint ones (R58, R59). -/
theorem setTenancy_disjoint {s : State} {p : Hp} {t : Tenancy} (hfree : s.tenancyConflict p t = false)
    (h : TenanciesDisjoint s.settings.tenancies) : TenanciesDisjoint (s.setTenancy p t).settings.tenancies := by
  rw [← State.tenancyOk_iff] at h
  have hset : (s.setTenancy p t).settings = (s.updPort p fun q => { q with tenancy := t }).settings := by
    simp [State.setTenancy]
  have hother (q : Hp) (hq : q ≠ 0) (hqp : q ≠ p) : t.meets (s.port q).tenancy = false := by
    simp only [State.tenancyConflict, Bool.or_eq_false_iff, List.any_eq_false, Bool.and_eq_true, bne_iff_ne] at hfree
    have hmem (q : Hp) : q ≠ 0 → q ∈ ([1, 2, 3] : List Hp) := by
      revert q
      decide
    simpa [hqp] using hfree.2 q (hmem q hq)
  rw [hset, ← State.tenancyOk_iff]
  intro a b ha hb hab
  simp only [State.port_updPort]
  by_cases hap : a = p <;> by_cases hbp : b = p
  · exact absurd (hap.trans hbp.symm) hab
  · simp [hap, hbp, hother b hb hbp]
  · simp [hap, hbp, Tenancy.meets_comm _ t, hother a ha hap]
  · simp [hap, hbp, h a b ha hb hab]

/-- What every command but TENANCY_SET leaves of the tenancies: themselves, or a reset's. -/
theorem SettingsFrame.tenancies {c : Instr} {a b : Settings} (h : SettingsFrame c a b)
    (hc : ∀ r, c ≠ .tenancySet r) :
    b.tenancies = a.tenancies ∨ b.tenancies = State.reset.settings.tenancies := by
  cases c with
  | tenancySet r => exact absurd rfl (hc r)
  | powerOnTrigger | supplyLoss | hardwiredTrip | tripLatchRelease | resetNDeassert | moduleResetBegin =>
    rcases h with h | h
    · exact .inl (congrArg Settings.tenancies h)
    · exact .inr (by rw [h])
  | _ => exact .inl (by rw [show b = _ from h])

/-- TENANCY_SET leaves disjoint tenancies disjoint. -/
theorem exec_tenancySet_disjoint (r : Request) (s : State) :
    ∃ t, exec (.tenancySet r) s = .next t ∧
      (TenanciesDisjoint s.settings.tenancies → TenanciesDisjoint t.settings.tenancies) := by
  have hview : IgnoresServing fun s => s.settings.tenancies := ⟨by simp, by simp, by simp⟩
  refine opcode_leads (Q := fun x y => TenanciesDisjoint x → TenanciesDisjoint y) hview id fun s => ?_
  exact guards_leads_of_pass _ fun hpass => setTenancy_disjoint (hpass _ (.tail _ (.tail _ (.tail _ (.head _)))))

theorem exec_keeps_tenancyOk {c : Instr} {s t : State} (hs : s.tenancyOk) (h : exec c s = .next t) : t.tenancyOk := by
  rw [State.tenancyOk_iff] at hs ⊢
  by_cases hc : ∃ r, c = .tenancySet r
  · obtain ⟨r, rfl⟩ := hc
    obtain ⟨u, hu, hf⟩ := exec_tenancySet_disjoint r s
    cases h.symm.trans hu
    exact hf hs
  · have hframe := settingsChangeOnlyByTheirCommands c s t h
    rcases hframe.tenancies fun r hr => hc ⟨r, hr⟩ with h | h <;> rw [h]
    · exact hs
    · exact reset_tenanciesDisjoint

theorem tenancyOk_of_standing {s t : State} (h : t.standing = s.standing) (hs : s.tenancyOk) : t.tenancyOk := by
  rw [State.tenancyOk_iff] at hs ⊢
  have hset : t.settings = s.settings := congrArg Prod.fst h
  rwa [hset]

/-- Settles O56: TENANCY_SET refuses a tenancy that meets another port's, and only it and a reset write one. -/
theorem tenanciesStayDisjoint : Obligations.TenanciesStayDisjoint := by
  intro s t hs h
  rcases step_cases h with ⟨c, u, hu, hexec⟩ | ht | rfl
  · exact exec_keeps_tenancyOk (tenancyOk_of_standing hu hs) hexec
  · exact tenancyOk_of_standing ht hs
  · rw [State.tenancyOk_iff, s.warmReset_defaulted 3]
    exact reset_tenanciesDisjoint

/-- Settles O54: the reset state is plain data, and its ports, engines, words and slots are all at their defaults. -/
theorem resetStateIsSound : Obligations.ResetStateIsSound := by
  have heng (e : Eng) : State.reset.eng e = {} := by simp [State.eng, State.reset]
  refine ⟨rfl, rfl, rfl, rfl, fun p => ?ports, fun e => ?engines, fun wa => rfl, fun n => ⟨rfl, rfl⟩, rfl, rfl, rfl, rfl,
    rfl, rfl, ⟨reset_memory_wf, rfl⟩, reset_eventsOk, reset_tenancyOk, fun _ => ⟨fun x h => (nomatch h), rfl⟩, ⟨rfl, rfl⟩⟩
  case ports =>
    rw [reset_port]
    exact ⟨rfl, rfl, rfl, rfl, rfl⟩
  case engines =>
    rw [heng]
    exact ⟨rfl, rfl, rfl, rfl⟩

end Sys2Proof.Machine
end

section
/-! Serving a request: which is next, the checks before it executes, and what a failed one changes (R50 to R54, R58, R62,
R63). -/

namespace Sys2Proof.Machine

/-! ## The order of execution (R50) -/

theorem nextRequest_of_serving {s : State} (h : s.serving = true) : s.nextRequest = s.nextUrgent.or s.nextOrdinary := by
  simp [State.nextRequest, h]

theorem step_of_nextRequest {s : State} {op : BitVec 16} {r : Request} (hq : s.pending = [])
    (hn : s.nextRequest = some (op, r)) : step s = stepRequest s op r := by
  simp only [step, hq, stepIdle, hn]

theorem rotation_eq (turn : Hp) : rotation turn = [turn + 1 + 0, turn + 1 + 1, turn + 1 + 2, turn + 1 + 3] := by
  revert turn
  decide

/-- A search in rotation finds what the first port has that has anything. -/
theorem rotation_findSome {α : Type} {f : Hp → Option α} {turn p : Hp} {x : α} (hp : f p = some x)
    (hbefore : ∀ q, q - turn - 1 < p - turn - 1 → f q = none) : (rotation turn).findSome? f = some x := by
  obtain ⟨k, rfl⟩ : ∃ k, p = turn + 1 + k := ⟨p - turn - 1, by abel⟩
  have hplace (j : Hp) : turn + 1 + j - turn - 1 = j := by abel
  have hnone (j : Hp) (hj : j < k) : f (turn + 1 + j) = none := hbefore _ (by rwa [hplace, hplace])
  rw [rotation_eq]
  match k with
  | 0 => simp only [List.findSome?_cons, hp]
  | 1 => simp only [List.findSome?_cons, hp, hnone 0 (by decide)]
  | 2 => simp only [List.findSome?_cons, hp, hnone 0 (by decide), hnone 1 (by decide)]
  | 3 => simp only [List.findSome?_cons, hp, hnone 0 (by decide), hnone 1 (by decide), hnone 2 (by decide)]

theorem find?_urgent_eq_none {s : State} {q : Hp} (h : ∀ x ∈ (s.port q).queue, urgent x.2 = false) :
    ((s.port q).queue.find? fun x => urgent x.2) = none :=
  List.find?_eq_none.mpr fun x hx => by simp [h x hx]

theorem nextUrgent_eq_none {s : State} (h : ∀ q : Hp, ∀ x ∈ (s.port q).queue, urgent x.2 = false) :
    s.nextUrgent = none :=
  List.findSome?_eq_none_iff.mpr fun q _ => find?_urgent_eq_none (h q)

/-- Settles O2. -/
theorem stepServesQueuedRequest : Obligations.StepServesQueuedRequest := by
  refine ⟨?known, ?unknown, ?idle, ?urgent, ?ordinary, ?none⟩
  case known =>
    intro s op r i hq hn hi
    rw [step_of_nextRequest hq hn, stepRequest, hi]
    rfl
  case unknown =>
    intro s op r hq hn hi hx
    have hstep : step s = opcode op true r (s.turnTo r.port) fun _ => .fail .unknownOpcode [] := by
      rw [step_of_nextRequest hq hn, stepRequest, hi]
      rfl
    have hx' : Executes true r (s.turnTo r.port) := hx
    exact hstep.trans (opcode_fail hx' rfl)
  case idle =>
    intro s hq hn
    simp only [step, hq, stepIdle, hn]
  case urgent =>
    intro s op r p hserve hp hbefore
    have h : s.nextUrgent = some (op, r) := rotation_findSome hp fun q hq => find?_urgent_eq_none (hbefore q hq)
    rw [nextRequest_of_serving hserve, h, Option.some_or]
  case ordinary =>
    intro s op r p hserve hnone hp hopen hbefore
    have h : s.nextOrdinary = some (op, r) := by
      refine rotation_findSome (p := p) (by simp [hopen, hp]) fun q hq => ?_
      rcases hbefore q hq with h | h <;> simp [h]
    rw [nextRequest_of_serving hserve, nextUrgent_eq_none hnone, h, Option.none_or]
  case none =>
    intro s h
    rcases h with h | h
    · simp [State.nextRequest, h]
    · have hord : s.nextOrdinary = none := List.findSome?_eq_none_iff.mpr fun q _ => by
        rcases (h q).2 with h | h <;> simp [h]
      simp [State.nextRequest, nextUrgent_eq_none fun q => (h q).1, hord]

/-! ## The checks before execution (R50 to R53, R58, R62) -/

/-- A request that is served, but that a step before execution or a check of its opcode refuses. -/
theorem opcode_refused {op : BitVec 16} {v : Bool} {r : Request} {s : State} {st : Status} {data : Bytes}
    {body : State → Answer} (hs : s.serves r = true) (h : judge op v r (s.takeRequest op r) body = .fail st data) :
    opcode op v r s body = answered op r st data (s.takeRequest op r) := by
  simp [opcode, serve, hs, h, answered]

theorem opcode_unserved {op : BitVec 16} {v : Bool} {r : Request} {s : State} {body : State → Answer}
    (hs : s.serves r = false) : opcode op v r s body = .next s := by
  simp [opcode, serve, hs]

/-- A request that executes while a supervisor serves executes whether or not headless running serves its opcode. -/
theorem Executes.weaken {r : Request} {s : State} (h : Executes false r s) (v : Bool) : Executes v r s := by
  obtain ⟨hserve, hflags, hchain, hheadless⟩ := h
  refine ⟨hserve, hflags, hchain, ?_⟩
  simp only [Bool.not_false, Bool.and_true] at hheadless
  simp [hheadless]

theorem guards_first {b : Bool} {st : Status} {l : List (Bool × Status)} {a : Answer} (h : b = true) :
    guards ((b, st) :: l) a = .fail st [] := by
  rw [h, guards_true]

theorem guards_second {b c : Bool} {st su : Status} {l : List (Bool × Status)} {a : Answer} (hb : b = false)
    (h : c = true) : guards ((b, su) :: (c, st) :: l) a = .fail st [] := by
  rw [hb, guards_false, guards_first h]

/-! ### Rows of the opcode tables (R63) -/

/-- What every row of the opcode tables has, the row of a request's command has. -/
theorem instrOf_row {P : Nat × (Request → Instr) → Prop} (hport : ∀ x ∈ portOpcodes, P x)
    (hline : ∀ x ∈ lineOpcodes, P x) (hclient : ∀ x ∈ clientOpcodes, P x) (hkey : ∀ x ∈ keyOpcodes, P x)
    (hclock : ∀ x ∈ clockOpcodes, P x) (hhub : ∀ x ∈ hubOpcodes, P x) {op : BitVec 16} {r : Request} {i : Instr}
    (h : instrOf op r = some i) : ∃ x, P x ∧ BitVec.ofNat 16 x.1 = op ∧ x.2 r = i := by
  simp only [instrOf, Option.map_eq_some_iff] at h
  obtain ⟨x, hx, hi⟩ := h
  have hop : x.1 = op.toNat := by simpa using List.find?_some hx
  have hall := List.forall_mem_append.mpr ⟨List.forall_mem_append.mpr ⟨List.forall_mem_append.mpr
    ⟨List.forall_mem_append.mpr ⟨List.forall_mem_append.mpr ⟨hport, hline⟩, hclient⟩, hkey⟩, hclock⟩, hhub⟩
  exact ⟨x, hall x (List.mem_of_find?_eq_some hx), by simp [hop], hi⟩

/-! ### VER_FLAGS bit 0 on HP0 (R43, R53 step 11) -/

section
variable {r : Request} (hf : r.flag0 = true)
include hf

theorem badForm_of_flag0 (n : Nat) : badForm r n = true := by simp [badForm, hf]

theorem badEngine3_of_flag0 : badEngine3 r = true := by simp [badEngine3, badForm_of_flag0 hf]

theorem badEngineCopy_of_flag0 : badEngineCopy r = true := by simp [badEngineCopy, badForm_of_flag0 hf]

theorem badCommit_of_flag0 : badCommit r = true := by simp [badCommit, badForm_of_flag0 hf]

theorem badBatch_of_flag0 (size most : Nat) : badBatch r size most = true := by simp [badBatch, hf]

end

/-- An opcode's row serves its requests under the opcode, and refuses VER_FLAGS bit 0 on HP0. -/
def ChecksFlag0 (x : Nat × (Request → Instr)) : Prop :=
  ∃ (v : Bool) (body : Request → State → Answer), (∀ r s, exec (x.2 r) s = opcode (BitVec.ofNat 16 x.1) v r s (body r)) ∧
    ∀ r s, r.port = 0 → r.flag0 = true → body r s = .fail .badParam []

theorem portOpcodes_checkFlag0 : ∀ x ∈ portOpcodes, ChecksFlag0 x := by
  simp only [portOpcodes, List.forall_mem_cons, List.not_mem_nil, false_implies, implies_true, and_true]
  repeat' apply And.intro
  all_goals first
    | exact ⟨_, _, fun _ _ => rfl, fun r s hp hf => guards_first (by
        simp [hf, badForm_of_flag0, badCommit_of_flag0])⟩
    | exact ⟨_, _, fun _ _ => rfl, fun r s hp hf => guards_second (by simp [notPrincipal, namesOther, hp]) (by
        simp [hf, badForm_of_flag0])⟩

theorem lineOpcodes_checkFlag0 : ∀ x ∈ lineOpcodes, ChecksFlag0 x := by
  simp only [lineOpcodes, List.forall_mem_cons, List.not_mem_nil, false_implies, implies_true, and_true]
  repeat' apply And.intro
  all_goals
    exact ⟨_, _, fun _ _ => rfl, fun r s hp hf => guards_first (by
      simp [hf, badForm_of_flag0, badEngine3_of_flag0, badEngineCopy_of_flag0])⟩

/-- CTX_RELOAD refuses a token before the form, with the same status (R317). -/
theorem ctxReload_checksFlag0 : ChecksFlag0 (0x0A0C, .ctxReload) := by
  refine ⟨_, _, fun _ _ => rfl, fun r s _ hf => ?_⟩
  have hbatch : ∀ bad tenant check op k, ctxBatch r s 24 169 bad tenant check op k = .fail .badParam [] :=
    fun _ _ _ _ _ => guards_first (badBatch_of_flag0 hf 24 169)
  rw [ctxReloadBody, hbatch]
  cases batchToken r != 0 <;> rfl

theorem clientOpcodes_checkFlag0 : ∀ x ∈ clientOpcodes, ChecksFlag0 x := by
  simp only [clientOpcodes, List.forall_mem_cons, List.not_mem_nil, false_implies, implies_true, and_true]
  repeat' apply And.intro
  all_goals first
    | exact ctxReload_checksFlag0
    | exact ⟨_, _, fun _ _ => rfl, fun r s hp hf => guards_first (by
        simp [hf, badForm_of_flag0, badEngine3_of_flag0, badEngineCopy_of_flag0, badBatch_of_flag0])⟩
    | exact ⟨_, _, fun _ _ => rfl, fun r s hp hf => guards_second (by simp [notPrincipal, hp]) (by
        simp [hf, badForm_of_flag0])⟩

theorem keyOpcodes_checkFlag0 : ∀ x ∈ keyOpcodes, ChecksFlag0 x := by
  simp only [keyOpcodes, List.forall_mem_cons, List.not_mem_nil, false_implies, implies_true, and_true]
  repeat' apply And.intro
  all_goals first
    | exact ⟨_, _, fun _ _ => rfl, fun r s hp hf => guards_first (by
        simp [hf, badForm_of_flag0, badBatch_of_flag0])⟩
    | exact ⟨_, _, fun _ _ => rfl, fun r s hp hf => guards_second (by simp [notPrincipal, hp]) (by
        simp [hf, badForm_of_flag0])⟩

theorem clockOpcodes_checkFlag0 : ∀ x ∈ clockOpcodes, ChecksFlag0 x := by
  simp only [clockOpcodes, List.forall_mem_cons, List.not_mem_nil, false_implies, implies_true, and_true]
  repeat' apply And.intro
  all_goals first
    | exact ⟨_, _, fun _ _ => rfl, fun r s hp hf => guards_first (by
        simp [hf, badForm_of_flag0, badEngine3_of_flag0, badEngineCopy_of_flag0])⟩
    | exact ⟨_, _, fun _ _ => rfl, fun r s hp hf => guards_second (by simp [notPrincipal, hp]) (by
        simp [hf, badForm_of_flag0])⟩

theorem hubOpcodes_checkFlag0 : ∀ x ∈ hubOpcodes, ChecksFlag0 x := by
  simp only [hubOpcodes, List.forall_mem_cons, List.not_mem_nil, false_implies, implies_true, and_true]
  repeat' apply And.intro
  all_goals first
    | exact ⟨_, _, fun _ _ => rfl, fun r s hp hf => guards_first (by simp [hf, badForm_of_flag0])⟩
    | exact ⟨_, _, fun _ _ => rfl, fun r s hp hf => guards_second (by simp [notPrincipal, hp]) (by
        simp [hf, badForm_of_flag0])⟩

theorem checkFlag0_of_instrOf {op : BitVec 16} {r : Request} {i : Instr} (h : instrOf op r = some i) :
    ∃ (v : Bool) (body : State → Answer), (∀ s, exec i s = opcode op v r s body) ∧
      ∀ s, r.port = 0 → r.flag0 = true → body s = .fail .badParam [] := by
  obtain ⟨x, ⟨v, body, hx, hb⟩, rfl, rfl⟩ := instrOf_row portOpcodes_checkFlag0 lineOpcodes_checkFlag0
    clientOpcodes_checkFlag0 keyOpcodes_checkFlag0 clockOpcodes_checkFlag0 hubOpcodes_checkFlag0 h
  exact ⟨v, body r, hx r, hb r⟩

/-! ### Opcodes of the principal alone (R53 step 10, R58) -/

/-- An opcode's command refuses requests of HP1 to HP3. -/
def RefusesTenants (op : BitVec 16) : Prop :=
  ∃ (c : Request → Instr) (v : Bool) (body : Request → State → Answer), (∀ r, instrOf op r = some (c r)) ∧
    (∀ r s, exec (c r) s = opcode op v r s (body r)) ∧ ∀ r s, r.port ≠ 0 → body r s = .fail .notPrincipal []

theorem principalOpcodes_refuseTenants : ∀ op ∈ principalOpcodes, RefusesTenants op := by
  simp only [principalOpcodes, List.forall_mem_cons, List.not_mem_nil, false_implies, implies_true, and_true]
  repeat' apply And.intro
  all_goals exact ⟨_, _, _, fun _ => rfl, fun _ _ => rfl, fun r _ h => guards_first (by simp [notPrincipal, h])⟩

/-- Settles O4: steps 6, 7 and 9 of R53 are the same for every row of the opcode tables, and every row's own checks begin
with the port and the form. -/
theorem checksBeforeExecution : Obligations.ChecksBeforeExecution := by
  refine ⟨?skipped, ?prioChain, ?principal, ?flag0, ?headless, ?waits⟩
  case skipped =>
    intro op r i s hi hop hs hprio hfailed hon
    obtain ⟨v, body, hx, -⟩ := instrOf_serves hi
    rw [hx s]
    refine opcode_refused hs (guards_second (by simp [hprio]) ?_)
    have hop' : (op != opPortReset) = true := by simpa [opPortReset] using hop
    simp [Port.skips, hfailed, urgent, hprio, hon, hop']
  case prioChain =>
    intro op r i s hi hs hprio hchain
    obtain ⟨v, body, hx, -⟩ := instrOf_serves hi
    rw [hx s]
    exact opcode_refused hs (guards_first (by simp [hprio, hchain]))
  case principal =>
    intro op r i s hi hop hp hexec
    obtain ⟨c, v, body, hc, hx, hb⟩ := principalOpcodes_refuseTenants op hop
    cases hi.symm.trans (hc r)
    rw [hx r s]
    exact opcode_fail (hexec.weaken v) (hb r _ hp)
  case flag0 =>
    intro op r i s hi hp hf hexec
    obtain ⟨v, body, hx, hb⟩ := checkFlag0_of_instrOf hi
    rw [hx s]
    exact opcode_fail (hexec.weaken v) (hb _ hp hf)
  case headless =>
    intro op r i s hi hop hs hheadless hflags hchain
    obtain ⟨v, body, hx, hv⟩ := instrOf_serves hi
    rw [hx s, hv, decide_eq_false hop]
    refine opcode_refused hs ?_
    have hskip : (((s.takeRequest op r).port r.port).skips op r && op != opPortReset) = false := by
      simp only [Port.skips, takeRequest_chainFailed, hchain, Bool.false_and]
    rw [judge, hflags, guards_false, hskip, guards_false]
    exact guards_first (by simp [hheadless])
  case waits =>
    intro op r i s hi hs
    obtain ⟨v, body, hx, -⟩ := instrOf_serves hi
    rw [hx s]
    exact opcode_unserved hs

/-! ## What the gauge's checks leave as it is -/

/-- A view of the state in which no event, no count, no free value, nothing of the gauge and, of the engines, no more
than their parameters shows. -/
structure IgnoresGauge {β : Type} (g : State → β) : Prop where
  raise : ∀ s code pl data, g (s.raise code pl data) = g s
  count : ∀ s k inst n, g (s.count k inst n) = g s
  updEng : ∀ s e f, (∀ x : Engine, (f x).params = x.params) → g (s.updEng e f) = g s
  gauge : ∀ (s : State) x, g { s with gauge := x } = g s
  skip : ∀ (s : State) n, g { s with fresh := n } = g s

namespace IgnoresGauge

variable {β : Type} {g : State → β} (hg : IgnoresGauge g) (s : State)
include hg

theorem rehold (e : Eng) (cause : Byte) : g (s.rehold e cause) = g s := by
  simp [State.rehold, apply_ite g, hg.raise, hg.updEng]

theorem hostHold (e : Eng) (hold : BitVec 6) : g (s.hostHold e hold) = g s := by
  simp [State.hostHold, apply_ite g, hg.rehold, hg.updEng]

theorem calHold (e : Eng) (on : Bool) : g (s.calHold e on) = g s := by
  simp [State.calHold, apply_ite g, hg.raise, hg.updEng]

theorem holdEngines (on : Bool) : g (s.holdEngines on) = g s :=
  foldl_keeps g (fun s e => by simp [apply_ite g, hg.rehold, hg.hostHold, hg.calHold]) _ s

theorem judgeCheck (ga gb : BitVec 12) : g (s.judgeCheck ga gb) = g s := by
  simp [State.judgeCheck, State.checkHold, apply_ite g, hg.holdEngines, hg.raise, hg.count, hg.gauge]

theorem putResult (r : GbResult) : g (s.putResult r) = g s := by
  unfold State.putResult
  dsimp only
  (repeat' split) <;> simp [hg.count, hg.gauge]

/-- A check that the gauge makes may raise an event and hold the engines: no such view sees it (R438). -/
theorem makeCheck : g s.makeCheck = g s := by
  unfold State.makeCheck
  split
  · rfl
  · rw [State.compareCheck, hg.judgeCheck, hg.putResult, hg.gauge, State.skip, hg.skip, hg.gauge]

theorem gbNext : g s.gbNext = g s := by
  unfold State.gbNext
  dsimp only
  (repeat' split) <;> simp [hg.gauge, hg.makeCheck]

/-- The gauge gives up its injections and calibrations (R61). -/
theorem gbDrop : g s.gbDrop = g s := by
  unfold State.gbDrop
  dsimp only
  split <;> simp [hg.gauge, hg.gbNext]

end IgnoresGauge

/-! ## A failed request changes nothing (R54) -/

/-- An answer that leaves a new state only with success, or later where `late` holds of that state. -/
def Answer.Clean (late : State → Prop) : Answer → Prop
  | .fail _ _ => True
  | .ok st _ _ => statusOk st = true
  | .later t => late t

theorem guards_clean {late : State → Prop} {a : Answer} (l : List (Bool × Status)) (h : a.Clean late) :
    (guards l a).Clean late := by
  rcases guards_cases l a with h1 | ⟨x, -, -, h1⟩ <;> rw [h1]
  · exact h
  · trivial

/-- The opcodes whose checks read words of context memory, or count failed unwraps, before they fail (R330, R359, R369). -/
def readingOpcodes : List (BitVec 16) :=
  [0x0A05, 0x0A06, 0x0A08, 0x0A0A, 0x0A0B, 0x0A0C, 0x0C05, 0x0C06, 0x0B01, 0x0B02, 0x0B05]

/-- The opcodes whose requests are answered later: RX_CAPTURE, GAUGE_INJECT, GAUGE_CALIBRATE. -/
def laterOpcodes : List (BitVec 16) := [0x0507, 0x0F03, 0x0F04]

/-- A request answered later leaves the replies of its port as they are. -/
def Later (op : BitVec 16) (r : Request) (s t : State) : Prop :=
  op ∈ laterOpcodes ∧ (t.port r.port).replies = (s.port r.port).replies

/-- A row whose failing requests change nothing. -/
def FailsClean (x : Nat × (Request → Instr)) : Prop :=
  ∃ (v : Bool) (body : Request → State → Answer), (∀ r s, exec (x.2 r) s = opcode (BitVec.ofNat 16 x.1) v r s (body r)) ∧
    ∀ r s, (body r s).Clean (Later (BitVec.ofNat 16 x.1) r s)

/-! ### Rows whose answer is no single outcome behind checks -/

theorem wsFind_failsClean : FailsClean (0x0203, .wsFind) := by
  refine ⟨_, _, fun _ _ => rfl, fun r s => guards_clean _ ?_⟩
  split
  · trivial
  · rfl

theorem sluiceCommit_failsClean : FailsClean (0x0301, .sluiceCommit) := by
  refine ⟨_, _, fun _ _ => rfl, fun r s => guards_clean _ ?_⟩
  split
  · trivial
  · refine guards_clean _ ?_
    unfold State.acceptCommit
    split <;> rfl

theorem sluiceCancel_failsClean : FailsClean (0x0302, .sluiceCancel) := by
  refine ⟨_, _, fun _ _ => rfl, fun r s => guards_clean _ ?_⟩
  split
  · exact guards_clean _ rfl
  · split
    · exact guards_clean _ trivial
    · trivial

theorem rxReacquire_failsClean : FailsClean (0x0505, .rxReacquire) :=
  ⟨_, _, fun _ _ => rfl, fun _ _ => guards_clean _ (guards_clean _ rfl)⟩

theorem rxFreeze_failsClean : FailsClean (0x0506, .rxFreeze) :=
  ⟨_, _, fun _ _ => rfl, fun _ _ => guards_clean _ (guards_clean _ rfl)⟩

theorem rxCapture_failsClean : FailsClean (0x0507, .rxCapture) :=
  ⟨_, _, fun _ _ => rfl, fun _ _ => guards_clean _ ⟨by simp [laterOpcodes], rfl⟩⟩

theorem clientLoopback_failsClean : FailsClean (0x0906, .clientLoopback) :=
  ⟨_, _, fun _ _ => rfl, fun _ _ => guards_clean _ (guards_clean _ rfl)⟩

theorem prbsControl_failsClean : FailsClean (0x0907, .prbsControl) :=
  ⟨_, _, fun _ _ => rfl, fun _ _ => guards_clean _ (guards_clean _ rfl)⟩

theorem ctxFill_failsClean : FailsClean (0x0A09, .ctxFill) := by
  refine ⟨_, _, fun _ _ => rfl, fun r s => guards_clean _ ?_⟩
  split
  · trivial
  · rfl

theorem keyErase_failsClean : FailsClean (0x0B03, .keyErase) := by
  refine ⟨_, _, fun _ _ => rfl, fun r s => guards_clean _ ?_⟩
  split <;> rfl

theorem gaugeInject_failsClean : FailsClean (0x0F03, .gaugeInject) := by
  refine ⟨_, _, fun _ _ => rfl, fun r s => guards_clean _ ⟨by simp [laterOpcodes], ?_⟩⟩
  (repeat' split) <;> rfl

/-- The replies queued on each port. -/
def State.replies (s : State) (p : Hp) : List Reply := (s.port p).replies

theorem State.replies_ignoresGauge : IgnoresGauge State.replies where
  raise _ _ _ _ := funext fun p => by simp [State.replies]
  count _ _ _ _ := funext fun p => by simp [State.replies]
  updEng _ _ _ _ := rfl
  gauge _ _ := rfl
  skip _ _ := rfl

theorem gaugeCalibrate_failsClean : FailsClean (0x0F04, .gaugeCalibrate) := by
  refine ⟨_, _, fun _ _ => rfl, fun r s => guards_clean _ ⟨by simp [laterOpcodes], ?_⟩⟩
  split
  · exact congrFun (State.replies_ignoresGauge.gbNext _) r.port
  · rfl

theorem ctrRead_failsClean : FailsClean (0x1204, .ctrRead) := by
  refine ⟨_, _, fun _ _ => rfl, fun r s => guards_clean _ ?_⟩
  split
  · trivial
  · exact guards_clean _ rfl

theorem ctrClear_failsClean : FailsClean (0x1205, .ctrClear) := by
  refine ⟨_, _, fun _ _ => rfl, fun r s => guards_clean _ ?_⟩
  (repeat' split)
  · rfl
  · trivial
  · exact guards_clean _ rfl

/-! ### The opcode tables -/

theorem portOpcodes_failClean : ∀ x ∈ portOpcodes, BitVec.ofNat 16 x.1 ∈ readingOpcodes ∨ FailsClean x := by
  simp only [portOpcodes, List.forall_mem_cons, List.not_mem_nil, false_implies, implies_true, and_true]
  repeat' apply And.intro
  all_goals first
    | exact .inr ⟨_, _, fun _ _ => rfl, fun _ _ => guards_clean _ rfl⟩
    | simp [wsFind_failsClean, sluiceCommit_failsClean, sluiceCancel_failsClean]

theorem lineOpcodes_failClean : ∀ x ∈ lineOpcodes, BitVec.ofNat 16 x.1 ∈ readingOpcodes ∨ FailsClean x := by
  simp only [lineOpcodes, List.forall_mem_cons, List.not_mem_nil, false_implies, implies_true, and_true]
  repeat' apply And.intro
  all_goals first
    | exact .inr ⟨_, _, fun _ _ => rfl, fun _ _ => guards_clean _ rfl⟩
    | simp [rxReacquire_failsClean, rxFreeze_failsClean, rxCapture_failsClean]

theorem clientOpcodes_failClean : ∀ x ∈ clientOpcodes, BitVec.ofNat 16 x.1 ∈ readingOpcodes ∨ FailsClean x := by
  simp only [clientOpcodes, List.forall_mem_cons, List.not_mem_nil, false_implies, implies_true, and_true]
  repeat' apply And.intro
  all_goals first
    | exact .inr ⟨_, _, fun _ _ => rfl, fun _ _ => guards_clean _ rfl⟩
    | simp [readingOpcodes, clientLoopback_failsClean, prbsControl_failsClean, ctxFill_failsClean]

theorem keyOpcodes_failClean : ∀ x ∈ keyOpcodes, BitVec.ofNat 16 x.1 ∈ readingOpcodes ∨ FailsClean x := by
  simp only [keyOpcodes, List.forall_mem_cons, List.not_mem_nil, false_implies, implies_true, and_true]
  repeat' apply And.intro
  all_goals first
    | exact .inr ⟨_, _, fun _ _ => rfl, fun _ _ => guards_clean _ rfl⟩
    | simp [readingOpcodes, keyErase_failsClean]

theorem clockOpcodes_failClean : ∀ x ∈ clockOpcodes, BitVec.ofNat 16 x.1 ∈ readingOpcodes ∨ FailsClean x := by
  simp only [clockOpcodes, List.forall_mem_cons, List.not_mem_nil, false_implies, implies_true, and_true]
  repeat' apply And.intro
  all_goals first
    | exact .inr ⟨_, _, fun _ _ => rfl, fun _ _ => guards_clean _ rfl⟩
    | simp [gaugeInject_failsClean, gaugeCalibrate_failsClean]

theorem hubOpcodes_failClean : ∀ x ∈ hubOpcodes, BitVec.ofNat 16 x.1 ∈ readingOpcodes ∨ FailsClean x := by
  simp only [hubOpcodes, List.forall_mem_cons, List.not_mem_nil, false_implies, implies_true, and_true]
  repeat' apply And.intro
  all_goals first
    | exact .inr ⟨_, _, fun _ _ => rfl, fun _ _ => guards_clean _ rfl⟩
    | simp [ctrRead_failsClean, ctrClear_failsClean]

/-- Settles O5: every row's answer is a failure, a success with its effect, or one of the three that are answered later. -/
theorem failedRequestChangesNothing : Obligations.FailedRequestChangesNothing := by
  intro op r i s hi hs hop
  obtain ⟨x, hx, rfl, rfl⟩ := instrOf_row portOpcodes_failClean lineOpcodes_failClean clientOpcodes_failClean
    keyOpcodes_failClean clockOpcodes_failClean hubOpcodes_failClean hi
  obtain ⟨v, body, hexec, hclean⟩ := hx.resolve_left hop
  rw [hexec r s]
  have hb := hclean r (s.takeRequest (BitVec.ofNat 16 x.1) r)
  rcases opcode_cases (BitVec.ofNat 16 x.1) v r s (body r) with ⟨h, -⟩ | ⟨st, data, h⟩ | ⟨st, data, t, h, h'⟩ | ⟨t, h, h'⟩
  · rw [hs] at h
    cases h
  · exact .inl ⟨st, data, _, h, fun _ => rfl⟩
  · rw [h] at hb
    exact .inl ⟨st, data, t, h', fun hfail => absurd (show statusOk st = true from hb) (by simp [hfail])⟩
  · rw [h] at hb
    obtain ⟨hlater, hreplies⟩ := hb
    refine .inr ⟨by simpa [laterOpcodes] using hlater, _, h', ?_⟩
    rw [takeRequest_replies] at hreplies
    rw [← hreplies]
    simp [State.runOn]

end Sys2Proof.Machine
end

section
/-! The port buses: identifiers, CCCs, request packets, replies (R38 to R49, R53). -/

namespace Sys2Proof.Machine

/-! ## Fields at their offsets -/

/-- Byte strings laid end to end from an offset on, each with its place. -/
def placed : Nat → List Bytes → List (Nat × Bytes)
  | _, [] => []
  | o, b :: bs => (o, b) :: placed (o + b.length) bs

/-- Every string of a row lies at its place, behind `pre` and before `post`. -/
theorem slice_placed {pre post : Bytes} {parts : List Bytes} {o : Nat} (h : pre.length = o) :
    ∀ x ∈ placed o parts, slice (pre ++ (parts.flatten ++ post)) x.1 x.2.length = x.2 := by
  induction parts generalizing pre o with
  | nil => simp [placed]
  | cons b bs ih =>
    simp only [placed, List.forall_mem_cons]
    constructor
    · rw [List.flatten_cons, List.append_assoc, slice_append_right (by omega), slice_append_left (by omega), h,
        Nat.sub_self, slice_all rfl]
    · have hb := ih (pre := pre ++ b) (o := o + b.length) (by simp [h])
      simpa using hb

/-- Data that are a row of byte strings lay out each at its place. -/
theorem lays_placed {data : Bytes} {parts : List Bytes} {n : Nat} {fields : List (Nat × Bytes)}
    (hdata : data = parts.flatten) (hlen : data.length = n) (hfields : fields = placed 0 parts) :
    Lays data n fields := by
  refine ⟨hlen, ?_⟩
  subst hfields hdata
  simpa using slice_placed (pre := []) (post := []) (parts := parts) rfl

/-! ## Transfers and CCCs that reach a port (R38 to R42) -/

theorem State.directed_addressed {p : Hp} {addr : BitVec 7} {s : State} (h : AddressedTo p addr s) (f : State → State) :
    s.directed p addr f = f s := by
  obtain ⟨hdrive, hserve, haddr⟩ := h
  simp [State.directed, hdrive, hserve, haddr]

theorem State.broadcast_reached {p : Hp} {s : State} (h : CccReaches p none s) (f : State → State) :
    s.broadcast p f = f s := by
  obtain ⟨hdrive, hserve, -⟩ := h
  simp [State.broadcast, hdrive, hserve]

theorem State.ccc_reached {p : Hp} {to_ : Option (BitVec 7)} {s : State} (h : CccReaches p to_ s) (f : State → State) :
    s.ccc p to_ f = f s := by
  cases to_ with
  | none => exact s.broadcast_reached h f
  | some a =>
    obtain ⟨hdrive, hserve, haddr⟩ := h
    exact State.directed_addressed ⟨hdrive, hserve, haddr a rfl⟩ f

/-- The number of two words written one behind the other. -/
theorem toNat_append_eq_add {m n : Nat} (x : BitVec m) (y : BitVec n) :
    (x ++ y).toNat = x.toNat * 2 ^ n + y.toNat := by
  rw [BitVec.toNat_append, ← Nat.shiftLeft_add_eq_or_of_lt y.isLt, Nat.shiftLeft_eq]

/-- The fields of the provisional ID, as the number that they make (R39). -/
theorem State.provisionalId_toNat (s : State) (p : Hp) :
    (s.provisionalId p).toNat = 0x0E57 * 2 ^ 33 + 0x1280 * 2 ^ 16 + p.val * 2 ^ 12 + s.power.strap0.toNat * 2 ^ 9
      + (crc32 (fit 16 s.ident.serial)).toNat % 2 ^ 9 := by
  have hp : p.val < 4 := p.isLt
  have hl : s.power.strap0.toNat < 2 ^ 3 := s.power.strap0.isLt
  simp only [State.provisionalId, toNat_append_eq_add, BitVec.ofNat_eq_ofNat, BitVec.toNat_ofNat,
    BitVec.toNat_setWidth]
  omega

/-- Settles O6. -/
theorem portIdentifiersAndStaticAddress : Obligations.PortIdentifiersAndStaticAddress := by
  constructor
  · intro p addr s h
    refine ⟨?_, ?_, s.provisionalId p, ?_, ?_⟩
    · exact congrArg _ (s.directed_addressed h _)
    · exact congrArg _ (s.directed_addressed h _)
    · exact congrArg _ (s.directed_addressed h _)
    · have hid := s.provisionalId_toNat p
      have hp : p.val < 4 := p.isLt
      have hl : s.power.strap0.toNat < 2 ^ 3 := s.power.strap0.isLt
      rw [← BitVec.testBit_toNat, Nat.testBit_eq_decide_div_mod_eq, decide_eq_false_iff_not]
      omega
  · intro p s
    have hp : p.val < 4 := p.isLt
    have hl : s.power.strap0.toNat < 2 ^ 3 := s.power.strap0.isLt
    have : (s.staticAddr p).toNat = 0x10 + 4 * s.power.strap0.toNat + p.val := by
      rw [State.staticAddr, BitVec.toNat_ofNat]
      omega
    omega

/-! ## CCCs and foreign transfers (R38, R40, R42; log 10, log 33) -/

theorem State.onBus_port (s : State) (p : Hp) (a : BusAnswer) : (s.onBus p a).port p = { s.port p with bus := a } :=
  State.port_updPort_same _ _ _

theorem Port.requestIbi_ibis {q : Port} (hon : q.ibiOn = true) (haddr : q.dynAddr ≠ none) :
    q.requestIbi.ibis = q.ibis + 1 := by
  rw [Port.requestIbi, if_pos (by simp [hon, Option.isSome_iff_ne_none, haddr])]

/-- Where the port has traffic, IBIs are enabled and an address is held, one IBI is requested (R42). -/
theorem State.ibiIfTraffic_ibis {s : State} {p : Hp} (htraffic : (s.port p).hasTraffic = true)
    (hon : (s.port p).ibiOn = true) (haddr : (s.port p).dynAddr ≠ none) :
    ((s.ibiIfTraffic p).port p).ibis = (s.port p).ibis + 1 := by
  rw [State.ibiIfTraffic, State.port_updPort_same, if_pos htraffic, Port.requestIbi_ibis hon haddr]

@[simp] theorem State.ibiIfTraffic_ibiOn (s : State) (p : Hp) : ((s.ibiIfTraffic p).port p).ibiOn = (s.port p).ibiOn := by
  rw [State.ibiIfTraffic, State.port_updPort_same]
  split <;> simp

@[simp] theorem State.ibiIfTraffic_dynAddr (s : State) (p : Hp) :
    ((s.ibiIfTraffic p).port p).dynAddr = (s.port p).dynAddr := by
  rw [State.ibiIfTraffic, State.port_updPort_same]
  split <;> simp

/-- An address taken is held, and traffic that waits requests an IBI (R42). -/
theorem State.takeAddr_dynAddr (s : State) (p : Hp) (addr : BitVec 7) :
    ((s.takeAddr p addr).port p).dynAddr = some addr := by
  simp [State.takeAddr]

theorem State.takeAddr_ibis {s : State} {p : Hp} (addr : BitVec 7) (hon : (s.port p).ibiOn = true)
    (htraffic : (s.port p).hasTraffic = true) : ((s.takeAddr p addr).port p).ibis = (s.port p).ibis + 1 := by
  rw [State.takeAddr, State.ibiIfTraffic_ibis] <;> rw [State.port_updPort_same]
  · exact htraffic
  · exact hon
  · simp

/-- What a CCC answers that reaches the port in either form. -/
theorem ccc_next {p : Hp} {to_ : Option (BitVec 7)} {s : State} (h : CccReaches p to_ s) (f : State → State) :
    (Host.Outcome.next (s.ccc p to_ f) : Host.Outcome State Fault Refusal) = .next (f s) :=
  congrArg _ (s.ccc_reached h f)

theorem broadcast_next {p : Hp} {s : State} (h : CccReaches p none s) (f : State → State) :
    (Host.Outcome.next (s.broadcast p f) : Host.Outcome State Fault Refusal) = .next (f s) :=
  congrArg _ (s.broadcast_reached h f)

theorem directed_next {p : Hp} {addr : BitVec 7} {s : State} (h : AddressedTo p addr s) (f : State → State) :
    (Host.Outcome.next (s.directed p addr f) : Host.Outcome State Fault Refusal) = .next (f s) :=
  congrArg _ (s.directed_addressed h f)

/-- A port that drives its contacts does not acknowledge what is not its own, nor anything before ready (R38, R40). -/
theorem State.directed_foreign {p : Hp} {addr : BitVec 7} {s : State} (hdrive : s.drives = true)
    (h : s.ready = false ∨ ∃ d, (s.port p).dynAddr = some d ∧ addr ≠ d) (f : State → State) :
    s.directed p addr f = s.onBus p .nack := by
  have hno : (s.portServes p && s.addressed p addr) = false := by
    rcases h with h | ⟨d, hd, hne⟩
    · simp [State.portServes, h]
    · simp [State.addressed, hd, hne]
  simp [State.directed, hdrive, hno]

/-- ENEC enables IBIs, acknowledges, and requests one for traffic that waits. -/
theorem exec_cccEnec {p : Hp} {to_ : Option (BitVec 7)} {s : State} (h : CccReaches p to_ s) :
    ∃ t, exec (.cccEnec p to_) s = .next t ∧ (t.port p).ibiOn = true ∧ (t.port p).bus = .ack ∧
      ((s.port p).dynAddr ≠ none → (s.port p).hasTraffic = true → (t.port p).ibis = (s.port p).ibis + 1) := by
  refine ⟨_, ccc_next h _, ?_⟩
  rw [State.onBus_port]
  refine ⟨by simp, rfl, fun haddr htraffic => ?_⟩
  have hport := State.port_updPort_same s p fun q => { q with ibiOn := true }
  have hibis := State.ibiIfTraffic_ibis (s := s.updPort p fun q => { q with ibiOn := true }) (p := p)
    (by rw [hport]; exact htraffic) (by rw [hport]) (by rw [hport]; exact haddr)
  rw [hport] at hibis
  exact hibis

/-- Settles O7. -/
theorem cccsAndForeignTransfers : Obligations.CccsAndForeignTransfers := by
  refine ⟨fun p addr a to_ value code s => ⟨fun h => ?either, fun h => ?broadcast, fun h => ?directed⟩,
    fun p addr x b s hdrive h =>
      ⟨congrArg _ (State.directed_foreign hdrive h _), congrArg _ (State.directed_foreign hdrive h _)⟩⟩
  case either =>
    refine ⟨exec_cccEnec h, ccc_next h _, fun hv => ⟨?_, ?_⟩, fun hto => ?_, fun hto => ?_⟩
    · exact (ccc_next h _).trans (by simp [hv])
    · exact (ccc_next h _).trans (by simp [hv])
    · exact (ccc_next h _).trans (by simp [Option.isSome_iff_ne_none, hto])
    · exact (ccc_next h _).trans (by simp [hto])
  case broadcast =>
    refine ⟨broadcast_next h _, broadcast_next h _, fun hnone => ?_⟩
    refine ⟨(s.takeAddr p a).onBus p (.data (be 8 (s.daaId p))), (broadcast_next h _).trans (by simp [hnone]), ?_, ?_⟩
    · rw [State.onBus_port]
      exact State.takeAddr_dynAddr s p a
    · intro hon htraffic
      rw [State.onBus_port]
      exact State.takeAddr_ibis a hon htraffic
  case directed =>
    refine ⟨fun hnone => ?_, fun hsome => ?_, directed_next h _, directed_next h _, directed_next h _⟩
    · refine ⟨(s.takeAddr p a).onBus p .ack, (directed_next h _).trans (by simp [hnone]), ?_, ?_⟩ <;> rw [State.onBus_port]
      exact State.takeAddr_dynAddr s p a
    · exact (directed_next h _).trans (by simp [Option.isNone_iff_eq_none, hsome])

/-! ## Request packets (R41, R43 to R49, R53) -/

/-- A port that has acknowledged a write in SDR framing. -/
def State.acked (s : State) (p : Hp) : State := (s.updPort p fun q => { q with hdr := false }).onBus p .ack

@[simp] theorem State.acked_port (s : State) (p : Hp) :
    (s.acked p).port p = { s.port p with hdr := false, bus := .ack } := by
  rw [State.acked, State.onBus_port, State.port_updPort_same]

/-- A write of a whole header that a port takes is parsed as a packet. -/
theorem exec_requestPacket {p : Hp} {addr : BitVec 7} {b : Bytes} {s : State} (h : AddressedTo p addr s)
    (hslots : (s.port p).slotsUsed < 16) (hlen : 8 ≤ b.length) :
    exec (.requestPacket p addr .sdr b) s = .next ((s.acked p).packet p b) := by
  refine (directed_next h _).trans (congrArg _ ?_)
  have hfree : ¬ ((s.updPort p fun q => { q with hdr := false }).port p).slotsUsed ≥ 16 := by
    rw [State.port_updPort_same]
    exact Nat.not_le.mpr hslots
  exact (if_neg hfree).trans (if_neg (Nat.not_lt.mpr hlen))

/-- The port's own reply joins its queue (R53). -/
theorem State.portReply_port (s : State) (p : Hp) (h : Header) (auth : Option AuthContext) (st : Status) (data : Bytes) :
    (s.portReply p h auth st data).port p = (s.port p).pushReply
      { seq := h.seq, opcode := h.opcode, bytes := replyPacket auth h.chain h.prio h.tag h.seq st data } := by
  rw [State.portReply, State.port_updPort_same, State.authWork_port]

/-- Engines, context memory and power are as they were. -/
def KeepsBlocks (s t : State) : Prop :=
  t.engines = s.engines ∧ t.mem = s.mem ∧ t.power = s.power

theorem State.portReply_keepsBlocks (s : State) (p : Hp) (h : Header) (auth : Option AuthContext) (st : Status)
    (data : Bytes) : KeepsBlocks s (s.portReply p h auth st data) := by
  simp [KeepsBlocks, State.portReply]

/-- Step 5 of R53, with a right CRC-32 and no authentication required. -/
theorem State.sequence_keepsBlocks (s : State) (p : Hp) (h : Header) (b : Bytes) :
    KeepsBlocks s (s.sequence p h none b) := by
  unfold State.sequence State.retransmit
  dsimp only
  (repeat' split) <;> first
    | exact State.portReply_keepsBlocks _ _ _ _ _ _
    | exact ⟨rfl, rfl, rfl⟩

/-- A retransmission queues the copy, or nothing (R49). -/
theorem State.retransmit_retained {s : State} {p : Hp} {seq : BitVec 16} {c : Reply}
    (hc : (s.port p).retained = some c) (hseq : c.seq = seq) :
    s.retransmit p seq = s.updPort p fun q => q.pushReply c := by
  simp [State.retransmit, hc, hseq]

theorem State.retransmit_lost {s : State} {p : Hp} {seq : BitVec 16}
    (h : ∀ c, (s.port p).retained = some c → c.seq ≠ seq) : s.retransmit p seq = s := by
  unfold State.retransmit
  split
  · next c hc => exact if_neg (by simpa using h c hc)
  · rfl

/-- A retransmission adds to the replies alone. -/
theorem State.retransmit_port (s : State) (p : Hp) (seq : BitVec 16) :
    ((s.retransmit p seq).port p).bus = (s.port p).bus ∧ ((s.retransmit p seq).port p).nextSeq = (s.port p).nextSeq ∧
      ((s.retransmit p seq).port p).queue = (s.port p).queue := by
  unfold State.retransmit
  (repeat' split) <;> simp

/-- The sequence check leaves the bus answer, and with any SEQ but NEXT_SEQ the sequence and the queue (R48). -/
theorem State.sequence_bus (s : State) (p : Hp) (h : Header) (b : Bytes) :
    ((s.sequence p h none b).port p).bus = (s.port p).bus := by
  unfold State.sequence
  dsimp only
  (repeat' split) <;> simp [State.portReply_port, State.accept, s.retransmit_port p h.seq]

theorem State.sequence_stays {s : State} {p : Hp} {h : Header} (b : Bytes) (hseq : h.seq ≠ (s.port p).nextSeq) :
    ((s.sequence p h none b).port p).nextSeq = (s.port p).nextSeq ∧
      ((s.sequence p h none b).port p).queue = (s.port p).queue := by
  have hagain := (s.retransmit_port p h.seq).2
  have hne : ¬ (h.seq == (s.port p).nextSeq) = true := by simpa using hseq
  unfold State.sequence
  dsimp only
  rw [if_neg hne]
  (repeat' split)
  · simp [State.portReply_port]
  · exact hagain
  · simp [State.portReply_port]

section
variable {s : State} {p : Hp} {h : Header} {b : Bytes} (hauth : (s.port p).authReq = false)
include hauth

theorem State.sequence_next (hseq : h.seq = (s.port p).nextSeq) : s.sequence p h none b = s.accept p h none b := by
  simp [State.sequence, hauth, hseq]

theorem State.sequence_previous (hseq : h.seq = (s.port p).nextSeq - 1) :
    s.sequence p h none b = s.retransmit p h.seq := by
  simp [State.sequence, hauth, hseq]

theorem State.sequence_other (hnext : h.seq ≠ (s.port p).nextSeq) (hprev : h.seq ≠ (s.port p).nextSeq - 1) :
    s.sequence p h none b = s.portReply p h none .sequence (be 2 (s.port p).nextSeq) := by
  rw [State.sequence, if_neg (by simp [hauth]), if_neg (by simpa using hnext), if_neg (by simpa using hprev)]

end

/-! ### A packet with a CRC-32 trailer -/

/-- VER_FLAGS of version 1 (R43). -/
def verFlags (chain prio flag0 : Bool) : Byte := byte (0x10 + bit chain 2 + bit prio 1 + bit flag0 0)

theorem verFlags_fields : ∀ chain prio flag0 : Bool, (verFlags chain prio flag0).toNat / 16 = 1 ∧
    (verFlags chain prio flag0).getLsbD 3 = false ∧ (verFlags chain prio flag0).getLsbD 2 = chain ∧
    (verFlags chain prio flag0).getLsbD 1 = prio ∧ (verFlags chain prio flag0).getLsbD 0 = flag0 := by decide

section
variable (flags tag : Byte) (op seq : BitVec 16) (params : Bytes)

/-- What a packet's CRC-32 covers. -/
def packetHead : Bytes := [flags, tag] ++ be 2 op ++ beBytes 2 params.length ++ be 2 seq ++ params

@[simp] theorem packetHead_length : (packetHead flags tag op seq params).length = 8 + params.length := by
  simp [packetHead]
  omega

theorem crcPacket_eq : crcPacket flags tag op seq params =
    packetHead flags tag op seq params ++ be 4 (crc32 (packetHead flags tag op seq params)) := rfl

@[simp] theorem crcPacket_length : (crcPacket flags tag op seq params).length = 12 + params.length := by
  rw [crcPacket_eq, List.length_append, packetHead_length, be_length]
  omega

theorem crcPacket_params : slice (crcPacket flags tag op seq params) 8 params.length = params := by
  rw [crcPacket_eq, slice_append_left (by simp), packetHead, slice_append_right (by simp)]
  exact slice_all rfl

theorem parseHeader_crcPacket (hlen : params.length ≤ 4080) : parseHeader (crcPacket flags tag op seq params) =
    { version := flags.toNat / 16, auth := flags.getLsbD 3, chain := flags.getLsbD 2, prio := flags.getLsbD 1,
      flag0 := flags.getLsbD 0, tag := tag, opcode := op, len := params.length, seq := seq } := by
  have hl : beBytes 2 params.length = be 2 (BitVec.ofNat 16 params.length) := by
    rw [be, BitVec.toNat_ofNat, Nat.mod_eq_of_lt (by omega)]
  simp only [parseHeader, crcPacket_eq, packetHead, hl, u8, u16, List.append_assoc, List.cons_append, List.nil_append]
  simp [Nat.mod_eq_of_lt (show params.length < 65536 by omega)]

theorem crcRight_crcPacket : crcRight (crcPacket flags tag op seq params) params.length = true := by
  have hhead : (packetHead flags tag op seq params).length = 8 + params.length := packetHead_length ..
  rw [crcRight, crcPacket_eq, List.take_left' hhead, List.drop_left' hhead]
  exact beq_self_eq_true _

end

/-- The header that such a packet carries. -/
def crcHeader (tag : Byte) (op seq : BitVec 16) (chain prio flag0 : Bool) (len : Nat) : Header :=
  { version := 1, auth := false, chain := chain, prio := prio, flag0 := flag0, tag := tag, opcode := op, len := len,
    seq := seq }

/-- A well-formed packet with a CRC-32 trailer passes steps 1 to 3 of R53. -/
theorem State.packet_crcPacket (s : State) (p : Hp) (tag : Byte) (op seq : BitVec 16) (chain prio flag0 : Bool)
    (params : Bytes) (hlen : params.length ≤ 4080) :
    s.packet p (crcPacket (verFlags chain prio flag0) tag op seq params) =
      s.sequence p (crcHeader tag op seq chain prio flag0 params.length) none
        (crcPacket (verFlags chain prio flag0) tag op seq params) := by
  obtain ⟨hv, hauth, hchain, hprio, hflag0⟩ := verFlags_fields chain prio flag0
  have hlength : (crcHeader tag op seq chain prio flag0 params.length).badLength
      (crcPacket (verFlags chain prio flag0) tag op seq params) = false := by
    simp [Header.badLength, crcHeader, crcPacket_length]
    omega
  have hhead : parseHeader (crcPacket (verFlags chain prio flag0) tag op seq params) =
      crcHeader tag op seq chain prio flag0 params.length := by
    rw [parseHeader_crcPacket _ _ _ _ _ hlen, hv, hauth, hchain, hprio, hflag0]
    rfl
  have hcrc := crcRight_crcPacket (verFlags chain prio flag0) tag op seq params
  simp only [State.packet, hhead, hlength, State.trailer]
  simp [crcHeader, hcrc]

/-- Settles O8: such a packet is judged at the sequence check alone. -/
theorem requestsFollowTheSequence : Obligations.RequestsFollowTheSequence := by
  intro p addr tag op seq chain prio flag0 params s h hslots hlen hauth
  let b := crcPacket (verFlags chain prio flag0) tag op seq params
  let hd := crcHeader tag op seq chain prio flag0 params.length
  let u := s.acked p
  have hport : u.port p = { s.port p with hdr := false, bus := .ack } := s.acked_port p
  have hauth' : (u.port p).authReq = false := by rw [hport]; exact hauth
  have hnextSeq : (u.port p).nextSeq = (s.port p).nextSeq := by rw [hport]
  have hexec : exec (.requestPacket p addr .sdr b) s = .next (u.sequence p hd none b) := by
    rw [exec_requestPacket h hslots (by simp [b]; omega), State.packet_crcPacket _ _ _ _ _ _ _ _ _ hlen]
  have hkeeps : KeepsBlocks u (u.sequence p hd none b) := u.sequence_keepsBlocks p hd b
  obtain ⟨hengines, hmem, hpower⟩ := hkeeps
  refine ⟨_, hexec, ?bus, hengines, hmem, hpower, fun hs => ?accepted, fun hs => ?stays, fun hn hp => ?refused,
    fun hp c hc hcs => ?again, fun hp hnone => ?silent⟩
  case bus => rw [u.sequence_bus, hport]
  case accepted =>
    have haccept : u.sequence p hd none b = u.accept p hd none b := State.sequence_next hauth' (hs.trans hnextSeq.symm)
    rw [haccept, State.accept, State.port_updPort_same, hport]
    refine ⟨by simp [hs], rfl, by simp [hs], ?_⟩
    rw [show hd.len = params.length from rfl, crcPacket_params]
    rfl
  case stays =>
    have hstays := u.sequence_stays (p := p) (h := hd) b (by rw [hnextSeq]; exact hs)
    rw [hport] at hstays
    exact hstays
  case refused =>
    rw [State.sequence_other hauth' (by rw [hnextSeq]; exact hn) (by rw [hnextSeq]; exact hp), State.portReply_port,
      Port.pushReply_replies, hport]
    rfl
  case again =>
    rw [State.sequence_previous hauth' (hp.trans (by rw [hnextSeq])),
      State.retransmit_retained (seq := hd.seq) (c := c) (by rw [hport]; exact hc) hcs, State.port_updPort_same,
      Port.pushReply_replies, hport]
  case silent =>
    rw [State.sequence_previous hauth' (hp.trans (by rw [hnextSeq])),
      State.retransmit_lost (seq := hd.seq) (by rw [hport]; exact hnone), hport]

/-! ## Rejected packets (R41, R44, R45, R47, R53) -/

/-- A write that a port does not take: with 16 reply slots used it is NACKed (R41). -/
theorem exec_requestPacket_full {p : Hp} {addr : BitVec 7} {b : Bytes} {s : State} (h : AddressedTo p addr s)
    (hslots : (s.port p).slotsUsed ≥ 16) :
    exec (.requestPacket p addr .sdr b) s = .next ((s.updPort p fun q => { q with hdr := false }).onBus p .nack) := by
  refine (directed_next h _).trans (congrArg _ (if_pos ?_))
  rw [State.port_updPort_same]
  exact hslots

/-- A write shorter than a header is acknowledged, discarded and counted (R41; log 33). -/
theorem exec_requestPacket_short {p : Hp} {addr : BitVec 7} {b : Bytes} {s : State} (h : AddressedTo p addr s)
    (hslots : (s.port p).slotsUsed < 16) (hlen : b.length < 8) :
    exec (.requestPacket p addr .sdr b) s =
      .next ((s.acked p).updPort p fun q => { q with shortWrites := q.shortWrites + 1 }) := by
  refine (directed_next h _).trans (congrArg _ ?_)
  have hfree : ¬ ((s.updPort p fun q => { q with hdr := false }).port p).slotsUsed ≥ 16 := by
    rw [State.port_updPort_same]
    exact Nat.not_le.mpr hslots
  exact (if_neg hfree).trans (if_pos hlen)

section
variable (s : State) (p : Hp) {b : Bytes}

/-- Step 1 of R53. -/
theorem State.packet_version (hv : (u8 b 0).toNat / 16 ≠ 1) :
    s.packet p b = s.portReply p (parseHeader b) none .version [] := by
  simp [State.packet, parseHeader, hv]

/-- Step 2 of R53. -/
theorem State.packet_length (hv : (u8 b 0).toNat / 16 = 1) (hl : (parseHeader b).badLength b = true) :
    s.packet p b = s.portReply p (parseHeader b) none .length [] := by
  have hv' : ((parseHeader b).version != 1) = false := by simp [parseHeader, hv]
  simp [State.packet, hv', hl]

theorem State.packet_trailer (hv : (u8 b 0).toNat / 16 = 1) (hl : (parseHeader b).badLength b = false) :
    s.packet p b = s.trailer p (parseHeader b) b := by
  have hv' : ((parseHeader b).version != 1) = false := by simp [parseHeader, hv]
  simp [State.packet, hv', hl]

/-- Step 3 of R53 with a CRC-32 trailer. -/
theorem State.trailer_crcError (hauth : (u8 b 0).getLsbD 3 = false) (hcrc : crcRight b (field b 4 2) = false) :
    s.trailer p (parseHeader b) b = s.portReply p (parseHeader b) none .crcError [] := by
  have hauth' : (parseHeader b).auth = false := hauth
  have hcrc' : crcRight b (parseHeader b).len = false := hcrc
  simp [State.trailer, hauth', hcrc']

/-- Step 3 of R53 with a CMAC trailer, on a port without its key. -/
theorem State.trailer_keyAbsent (hauth : (u8 b 0).getLsbD 3 = true) (hkey : (s.port p).cak.key = none) :
    s.trailer p (parseHeader b) b = s.portReply p (parseHeader b) none .keyAbsent [] := by
  have hauth' : (parseHeader b).auth = true := hauth
  simp [State.trailer, hauth', hkey]

end

theorem badLength_iff (b : Bytes) : (parseHeader b).badLength b = true ↔
    (field b 4 2 > 4080 ∨ b.length ≠ 8 + field b 4 2 + (if (u8 b 0).getLsbD 3 then 8 else 4)) := by
  simp [Header.badLength, parseHeader]

/-- Settles O9: each of the early steps answers by itself, and the packet goes no further. -/
theorem rejectedPacketsAreNotAccepted : Obligations.RejectedPacketsAreNotAccepted := by
  intro p addr b s h
  refine ⟨fun hslots => ?full, fun hslots hlen => ?short, fun hslots hlen st hst => ?rejected⟩
  case full =>
    refine ⟨_, exec_requestPacket_full h hslots, ?_⟩
    rw [State.onBus_port, State.port_updPort_same]
    exact ⟨rfl, rfl, rfl⟩
  case short =>
    refine ⟨_, exec_requestPacket_short h hslots hlen, ?_⟩
    rw [State.port_updPort_same, State.acked_port]
    exact ⟨rfl, rfl, rfl⟩
  case rejected =>
    have hreply : (s.acked p).packet p b = (s.acked p).portReply p (parseHeader b) none st [] := by
      have hkey : ((s.acked p).port p).cak.key = (s.port p).cak.key := by rw [State.acked_port]
      rcases hst with ⟨rfl, hv⟩ | ⟨rfl, hv, hl⟩ | ⟨rfl, hv, ha, hl, hb, hc⟩ | ⟨rfl, hv, ha, hl, hb, hk⟩
      · exact State.packet_version _ p hv
      · exact State.packet_length _ p hv ((badLength_iff b).mpr hl)
      · have hok : (parseHeader b).badLength b = false := by
          rw [← Bool.not_eq_true, badLength_iff, ha, if_neg Bool.false_ne_true]
          omega
        rw [State.packet_trailer _ p hv hok, State.trailer_crcError _ p ha (by simpa [crcRight] using hc)]
      · have hok : (parseHeader b).badLength b = false := by
          rw [← Bool.not_eq_true, badLength_iff, ha, if_pos rfl]
          omega
        rw [State.packet_trailer _ p hv hok, State.trailer_keyAbsent _ p ha (hkey.trans hk)]
    refine ⟨_, exec_requestPacket h hslots hlen, ?_⟩
    rw [hreply, State.portReply_port, Port.pushReply_replies, Port.pushReply_nextSeq, Port.pushReply_queue,
      State.acked_port]
    exact ⟨rfl, rfl, rfl⟩

/-! ## Replies (R41 to R46, R49) -/

/-- A read of a port that has replies returns the oldest, which becomes the copy (R41, R49). -/
theorem exec_replyRead_some {p : Hp} {addr : BitVec 7} {s : State} {c : Reply} {rest : List Reply}
    (h : AddressedTo p addr s) (hc : (s.port p).replies = c :: rest) :
    ∃ t, exec (.replyRead p addr .sdr) s = .next t ∧ t.engines = s.engines ∧
      t.port p = { s.port p with hdr := false, replies := rest, retained := some c, bus := .data c.bytes } := by
  have hread (u : State) (hu : (u.port p).replies = c :: rest) : (u.read p).engines = u.engines ∧
      (u.read p).port p = { u.port p with replies := rest, retained := some c, bus := .data c.bytes } := by
    rw [State.read, hu]
    refine ⟨rfl, ?_⟩
    exact (State.onBus_port _ _ _).trans (by rw [State.port_updPort_same])
  have hport := State.port_updPort_same s p fun q => { q with hdr := false }
  obtain ⟨hengines, hp⟩ := hread (s.updPort p fun q => { q with hdr := false }) (by rw [hport]; exact hc)
  exact ⟨_, directed_next h _, hengines, by rw [State.framed, hp, hport]⟩

/-- With no reply queued a read is NACKed (R41). -/
theorem exec_replyRead_none {p : Hp} {addr : BitVec 7} {s : State} (h : AddressedTo p addr s)
    (hc : (s.port p).replies = []) :
    exec (.replyRead p addr .sdr) s = .next ((s.updPort p fun q => { q with hdr := false }).onBus p .nack) := by
  refine (directed_next h _).trans (congrArg _ ?_)
  have hport := State.port_updPort_same s p fun q => { q with hdr := false }
  rw [State.framed, State.read, hport, hc]

section
variable (auth : Option AuthContext) (chain prio : Bool) (tag : Byte) (seq : BitVec 16) (st : Status) (data : Bytes)

/-- Header and data of a reply packet (R43). -/
def replyHead : Bytes :=
  [byte (0x10 + bit auth.isSome 3 + bit chain 2 + bit prio 1), tag] ++ be 2 (statusCode st) ++ beBytes 2 data.length
    ++ be 2 seq ++ data

/-- The trailer behind them (R45, R46). -/
def replyTrailer : Bytes :=
  match auth with
  | none => be 4 (crc32 (replyHead auth chain prio tag seq st data))
  | some a => (cmac a.key (authPrefix 1 a ++ replyHead auth chain prio tag seq st data)).take 8

theorem replyPacket_eq : replyPacket auth chain prio tag seq st data =
    replyHead auth chain prio tag seq st data ++ replyTrailer auth chain prio tag seq st data := by
  cases auth <;> rfl

theorem replyHead_length : (replyHead auth chain prio tag seq st data).length = 8 + data.length := by
  simp [replyHead]
  omega

theorem replyPacket_take : (replyPacket auth chain prio tag seq st data).take (8 + data.length) =
    replyHead auth chain prio tag seq st data := by
  rw [replyPacket_eq, List.take_left' (replyHead_length ..)]

theorem replyPacket_drop : (replyPacket auth chain prio tag seq st data).drop (8 + data.length) =
    replyTrailer auth chain prio tag seq st data := by
  rw [replyPacket_eq, List.drop_left' (replyHead_length ..)]

/-- The fields of a reply's header, and its data, at their offsets. -/
theorem replyPacket_fields :
    ∀ x ∈ [(0, [byte (0x10 + bit auth.isSome 3 + bit chain 2 + bit prio 1), tag]), (2, be 2 (statusCode st)),
        (4, beBytes 2 data.length), (6, be 2 seq), (8, data)],
      slice (replyPacket auth chain prio tag seq st data) x.1 x.2.length = x.2 := by
  have h := slice_placed (pre := []) (parts := [[byte (0x10 + bit auth.isSome 3 + bit chain 2 + bit prio 1), tag],
    be 2 (statusCode st), beBytes 2 data.length, be 2 seq, data]) (post := replyTrailer auth chain prio tag seq st data)
    rfl
  simpa [placed, replyPacket_eq, replyHead] using h

end

/-- A change of a port is what it makes of that port as it stands. -/
theorem State.updPort_congr {s : State} {p : Hp} {f g : Port → Port} (h : f (s.port p) = g (s.port p)) :
    s.updPort p f = s.updPort p g :=
  congrArg (fun q => ({ s with ports := s.ports.set p q } : State)) h

/-- Settles O10. -/
theorem repliesAndTheirPackets : Obligations.RepliesAndTheirPackets := by
  refine ⟨fun p addr s => ⟨fun h => ⟨fun c rest hc => ?oldest, fun hnone => ?none⟩, fun hready hhold hon haddr ht => ?again⟩,
    fun auth chain prio tag seq st data => ⟨replyPacket_fields auth chain prio tag seq st data, fun hauth => ?crc,
      fun a hauth => ?cmac⟩⟩
  case oldest =>
    obtain ⟨t, ht, hengines, hport⟩ := exec_replyRead_some h hc
    exact ⟨t, ht, by rw [hport], by rw [hport], by rw [hport], by rw [hport], hengines⟩
  case none =>
    refine ⟨_, exec_replyRead_none h hnone, ?_⟩
    rw [State.onBus_port, State.port_updPort_same]
    exact ⟨rfl, rfl⟩
  case again =>
    have hon' : ((s.port p).ibiOn && (s.port p).dynAddr.isSome) = true := by
      simp [hon, Option.isSome_iff_ne_none, haddr]
    have hcond : ((s.port p).holdoff != 0) = true := by simpa using hhold
    have hexec : exec (.ibiRepeat p) s = .next (s.ibiIfTraffic p) :=
      eventIf_true hready hcond fun s => s.ibiIfTraffic p
    rw [hexec, State.ibiIfTraffic]
    exact congrArg _ (State.updPort_congr (by rw [if_pos ht, Port.requestIbi, if_pos hon']))
  case crc =>
    rw [replyPacket_take, replyPacket_drop]
    subst hauth
    refine ⟨?_, rfl⟩
    rw [replyPacket_eq, List.length_append, replyHead_length]
    simp [replyTrailer]
    omega
  case cmac =>
    rw [replyPacket_take, replyPacket_drop]
    subst hauth
    rfl

end Sys2Proof.Machine
end

section
/-! The opcodes of the port and of the Watershed table (R57 to R60, R65 to R70, R73). -/

namespace Sys2Proof.Machine

/-! ## PORT_RESET and EVENT_READ (R57, R67, R69) -/

/-- PORT_RESET executes after a failed chain and in headless running: no step before its own checks refuses it
(R51, R62). -/
theorem judge_portReset {r : Request} {s : State} (h : (r.prio && r.chain) = false) (body : State → Answer) :
    judge opPortReset true r s body = body s := by
  rw [judge, h, guards_false]
  simp

theorem formed_badForm {r : Request} {n : Nat} (h : Formed r n) : badForm r n = false := by
  obtain ⟨hf, hl⟩ := h
  simp [badForm, hf, hl]

/-- The port of a request that has been answered (R41, R51). -/
theorem State.conclude_port_same (s : State) (op : BitVec 16) (r : Request) (st : Status) (data : Bytes) :
    (s.conclude op r st data).port r.port =
      { (s.port r.port).pushReply { seq := r.seq, opcode := op, bytes := replyTo r st data } with
        running := (s.port r.port).running.erase (op, r), chainFailed := (s.port r.port).chainNow op r st,
        offChain := (s.port r.port).offChain.erase (op, r) } := by
  rw [State.conclude, State.port_updPort_same]
  simp

/-- Settles O12: the effect sets and discards, and the answer that follows is the only reply. -/
theorem portResetLeavesItsReply : Obligations.PortResetLeavesItsReply := by
  intro r s hs hflags hform
  let u := (s.takeRequest opPortReset r).updPort r.port fun q => { q with
      nextSeq := 0, wrap := 0, sessionStart := s.moduleTime, queue := [], replies := [], retained := none,
      chainFailed := false, offChain := q.running }
  have hbody : portResetBody r (s.takeRequest opPortReset r) = .ok .ok [] u := by
    rw [portResetBody, formed_badForm hform, guards_false, guards_nil]
    rfl
  have hexec : exec (.portReset r) s = .next (u.conclude opPortReset r .ok []) := by
    show opcode opPortReset true r s (portResetBody r) = _
    simp [opcode, serve, hs, judge_portReset hflags, hbody]
  have hchain : (u.port r.port).chainNow opPortReset r .ok = false := by
    simp [u, Port.chainNow, chainAfter, statusOk, statusCode]
  refine ⟨_, hexec, by simp [u], by simp [u], by simp [u], by simp [u], by simp [u], by simp [u, opPortReset], ?failed,
    ?closed, by simp [u], by simp [u], by simp [u], by simp [u], by simp [u], by simp [u], by simp [u], ?other, by simp [u],
    by simp [u], by simp [u]⟩
  case failed => rw [State.conclude_port_same, hchain]
  case closed =>
    rw [State.conclude_port_same]
    simp only [Port.chainOpen, u, State.port_updPort_same, List.any_eq_false, Bool.and_eq_true, not_and,
      Bool.not_eq_true, Bool.not_eq_false', List.contains_iff_mem]
    exact fun x hx _ => by simpa using hx
  case other =>
    intro q hq
    rw [State.conclude_port_other _ _ _ _ _ hq]
    simp [u, State.takeRequest, State.port_updPort, hq]

/-- A record is its 16 bytes (R55). -/
@[simp] theorem eventBytes_length (e : Event) : (eventBytes e).length = 16 := by simp [eventBytes]

/-- Pieces of one length, laid end to end, lie at its multiples. -/
theorem slice_flatten {l : List Bytes} {n i : Nat} {b : Bytes} (hl : ∀ x ∈ l, x.length = n) (hi : l[i]? = some b) :
    slice l.flatten (n * i) n = b := by
  induction l generalizing i with
  | nil => simp at hi
  | cons x xs ih =>
    have hx : x.length = n := hl x (by simp)
    cases i with
    | zero =>
      obtain rfl : x = b := by simpa using hi
      rw [List.flatten_cons, Nat.mul_zero, slice_append_left (by omega), slice_all hx]
    | succ i =>
      have hle : x.length ≤ n * (i + 1) := by rw [hx]; exact Nat.le_mul_of_pos_right n (by omega)
      rw [List.flatten_cons, slice_append_right hle, hx, Nat.mul_succ, Nat.add_sub_cancel]
      exact ih (fun y hy => hl y (by simp [hy])) (by simpa using hi)

theorem flatten_length_of_uniform {l : List Bytes} {n : Nat} (hl : ∀ x ∈ l, x.length = n) :
    l.flatten.length = n * l.length := by
  rw [List.length_flatten, List.map_congr_left hl]
  simp [Nat.mul_comm]

/-- A record no older than any of a queue joins at its end (R56). -/
theorem insertEvent_last {e : Event} {l : List Event} (h : ∀ x ∈ l, e.before x = false) : insertEvent e l = l ++ [e] := by
  induction l with
  | nil => rfl
  | cons x xs ih =>
    rw [insertEvent, h x (by simp), ih fun y hy => h y (by simp [hy])]
    simp

/-- A record that is later than another, within half the range of module time, is not before it. -/
theorem before_eq_false {e x : Event} (hne : x.time ≠ e.time) (h : (e.time - x.time).toNat < 2 ^ 47) :
    e.before x = false := by
  have hne' : (e.time == x.time) = false := by simpa using fun heq : e.time = x.time => hne heq.symm
  rw [Event.before, hne']
  simp only [Bool.false_eq_true, if_false, decide_eq_false_iff_not, not_lt]
  bv_omega

/-- A saturating count of 32 bits. -/
theorem bump_toNat (v : BitVec 32) : (bump v).toNat = min (v.toNat + 1) 0xFFFFFFFF := by
  unfold bump
  split
  · next h =>
    rw [eq_of_beq h]
    rfl
  · next h =>
    have hne : v.toNat ≠ 0xFFFFFFFF := fun h' => h (beq_iff_eq.mpr (BitVec.eq_of_toNat_eq h'))
    bv_omega

/-- A queue with room takes a record. -/
theorem Port.pushEvent_events {p : Port} {e : Event} (h : p.events.length < 256) :
    (p.pushEvent e).events = insertEvent e p.events := by
  rw [Port.pushEvent, if_neg (by omega)]
  dsimp only
  split <;> simp

theorem Port.pushEvent_lost {p : Port} {e : Event} (h : p.events.length < 256) : (p.pushEvent e).lost = p.lost := by
  rw [Port.pushEvent, if_neg (by omega)]
  dsimp only
  split <;> simp

section
variable {s : State} {p : Hp} {k : Nat}

/-- EVENT_READ touches its own port alone (R69). -/
theorem State.takeEvents_other {q : Hp} (h : q ≠ p) : (s.takeEvents p k).port q = s.port q := by
  have hdrop : (s.updPort p fun q => { q with events := q.events.drop k }).port q = s.port q := by
    rw [State.port_updPort, if_neg h]
  unfold State.takeEvents
  dsimp only
  split
  · unfold State.overflow
    dsimp only
    split
    · exact hdrop
    · rw [State.port_updPort, if_neg h]
      exact hdrop
  · exact hdrop

/-- Without losses the oldest records leave, and no other joins. -/
theorem State.takeEvents_events (h : (s.port p).lost = 0) :
    ((s.takeEvents p k).port p).events = (s.port p).events.drop k := by
  unfold State.takeEvents
  dsimp only
  split
  · simp [State.overflow, h]
  · simp

/-- Space that becomes free after losses takes event.overflow (R57). -/
theorem State.takeEvents_overflow (hlost : (s.port p).lost ≠ 0) (hroom : ((s.port p).events.drop k).length < 256) :
    (s.takeEvents p k).port p = ({ s.port p with events := (s.port p).events.drop k, lost := 0 } : Port).pushEvent
      { time := (s.port p).firstLost, code := 0x0101, inst := BitVec.ofNat 16 p.val,
        data := fit 6 (be 4 (s.port p).lost) } := by
  unfold State.takeEvents State.overflow
  dsimp only
  rw [if_pos (by simpa using hroom), if_neg (by simpa using hlost), State.port_updPort_same]
  have hnote (u : State) : (u.noteFlight 0x0101).port p = u.port p := rfl
  rw [hnote, State.port_updPort_same]

end

/-- EVENT_READ with MAX = `k`, in form (R69). -/
theorem eventReadBody_formed {r : Request} (s : State) (hf : Formed r 1) (h0 : field r.params 0 1 ≠ 0) :
    eventReadBody r s = .ok .ok (((s.port r.port).events.take (field r.params 0 1)).map eventBytes).flatten
      (s.takeEvents r.port (field r.params 0 1)) := by
  have hk : (field r.params 0 1 == 0) = false := by simpa using h0
  rw [eventReadBody, formed_badForm hf, hk]
  rfl

/-- Settles O13. -/
theorem eventsReadAndLost : Obligations.EventsReadAndLost := by
  refine ⟨fun r s max hx hf hp => ⟨fun h0 => ?zero, fun h0 => ?some⟩, fun r s hx hl => ?form, fun q e hfull => ?full⟩
  case zero =>
    refine opcode_fail hx (guards_first ?_)
    simp [hp, h0]
  case form =>
    refine opcode_fail hx (guards_first ?_)
    simp [badForm, hl]
  case some =>
    let u := s.takeRequest 0x0105 r
    have hmax : field r.params 0 1 = max.toNat := by rw [hp, field_cons_zero]
    have hevents : (u.port r.port).events = (s.port r.port).events := takeRequest_events _ _ _ _
    have hlost : (u.port r.port).lost = (s.port r.port).lost := takeRequest_lost _ _ _ _
    have hfirst : (u.port r.port).firstLost = (s.port r.port).firstLost := takeRequest_firstLost _ _ _ _
    have hbody := eventReadBody_formed u ⟨hf, by simp [hp]⟩ (by rw [hmax]; exact fun h => h0 (BitVec.eq_of_toNat_eq h))
    rw [hmax, hevents] at hbody
    have hsize : ∀ x ∈ ((s.port r.port).events.take max.toNat).map eventBytes, x.length = 16 := by
      intro x hx
      obtain ⟨e, -, rfl⟩ := List.mem_map.mp hx
      exact eventBytes_length e
    refine ⟨_, u.takeEvents r.port max.toNat, opcode_ok hx hbody, ?length, ?records, ?other, ?nolosses, ?losses⟩
    case length =>
      rw [flatten_length_of_uniform hsize]
      simp
    case records =>
      intro i e he hi
      exact slice_flatten hsize (by simp [hi, he, eventBytes])
    case other =>
      intro q hq
      rw [State.takeEvents_other hq]
      exact (State.port_updPort _ _ _ _).trans (if_neg hq)
    case nolosses =>
      intro h
      rw [State.takeEvents_events (hlost.trans h), hevents]
    case losses =>
      intro h hroom hold
      rw [← hlost] at h
      rw [← hevents] at hroom
      rw [State.takeEvents_overflow h hroom, Port.pushEvent_events hroom, Port.pushEvent_lost hroom, insertEvent_last]
      · exact ⟨_, rfl, by rw [hevents], rfl, hfirst, by rw [hlost]; rfl⟩
      · intro x hx
        obtain ⟨hne, hage⟩ := hold x (hevents ▸ List.mem_of_mem_drop hx)
        exact before_eq_false (by rwa [hfirst]) (by rwa [hfirst])
  case full =>
    have hpush : q.pushEvent e = { q with
        lost := bump q.lost, firstLost := if q.lost == 0 then e.time else q.firstLost } := if_pos hfull
    rw [hpush]
    exact ⟨rfl, bump_toNat q.lost, fun h => if_pos (by simpa using h), fun h => if_neg (by simpa using h)⟩

/-! ## Reads of the port and of the Watershed table (R58, R60, R65, R68, R70, R73) -/

/-- A request that executes, whose body answers OK with data and changes nothing. -/
theorem opcode_reads {op : BitVec 16} {v : Bool} {r : Request} {s : State} {data : Bytes} {body : State → Answer}
    (hx : Executes v r s) (hb : body (s.takeRequest op r) = .ok .ok data (s.takeRequest op r)) :
    opcode op v r s body = answered op r .ok data (s.takeRequest op r) := opcode_ok hx hb

theorem formed_nil {r : Request} (hf : r.flag0 = false) (hp : r.params = []) : badForm r 0 = false :=
  formed_badForm ⟨hf, by rw [hp]; rfl⟩

theorem finOfNat_val (n : Hp) : Fin.ofNat 4 n.val = n := Fin.ext (Nat.mod_eq_of_lt n.isLt)

/-- A port that names itself, or HP0 that names any, passes the check of the port (R58). -/
theorem namesOther_eq_false {r : Request} {n : Hp} (hn : field r.params 0 1 = n.val) (h : r.port = 0 ∨ r.port = n) :
    namesOther r = false := by
  rcases h with h | h <;> simp [namesOther, hn, h]

/-- PORT_INFO lays out its table (R65). -/
theorem portInfo_lays (r : Request) (s : State) : Lays (s.portInfo r) 32
    [(0, [byte r.port.val]), (1, [byte (bit (r.port == 0) 0 + bit (r.port == 0 || (s.port r.port).tenancy != {}) 1)]),
      (2, [(s.staticAddr r.port).setWidth 8]), (3, [((s.port r.port).dynAddr.getD 0).setWidth 8]),
      (4, be 2 (r.seq + 1)), (6, be 2 (s.port r.port).wrap), (8, be 6 (s.port r.port).sessionStart),
      (14, be 6 s.moduleTime), (20, [byte (bit (s.port r.port).cak.key.isSome 0 + bit (s.port r.port).authReq 1)]),
      (21, [s.moduleBits]), (22, [byte (16 - (s.port r.port).queue.length)]),
      (23, [byte (15 - (s.port r.port).slotsUsed)]), (24, beBytes 2 (s.port r.port).events.length), (26, [0, 0]),
      (28, be 4 (s.port r.port).lost)] := by
  refine lays_placed (parts := [[byte r.port.val],
    [byte (bit (r.port == 0) 0 + bit (r.port == 0 || (s.port r.port).tenancy != {}) 1)],
    [(s.staticAddr r.port).setWidth 8], [((s.port r.port).dynAddr.getD 0).setWidth 8], be 2 (r.seq + 1),
    be 2 (s.port r.port).wrap, be 6 (s.port r.port).sessionStart, be 6 s.moduleTime,
    [byte (bit (s.port r.port).cak.key.isSome 0 + bit (s.port r.port).authReq 1)], [s.moduleBits],
    [byte (16 - (s.port r.port).queue.length)], [byte (15 - (s.port r.port).slotsUsed)],
    beBytes 2 (s.port r.port).events.length, [0, 0], be 4 (s.port r.port).lost]) ?_ ?_ ?_
  · simp [State.portInfo, zeros, Tenancy.isEmpty, bne]
  · simp [State.portInfo]
  · simp [placed]

/-- A tenancy in its 80 bytes (R59). -/
theorem renderTenancy_lays (p : Byte) (t : Tenancy) : Lays (renderTenancy p t) 80
    [(0, [p]), (1, [t.engines.setWidth 8]), (2, [t.tpo.setWidth 8]), (3, [t.sc.setWidth 8]), (4, be 8 t.cports),
      (12, [byte t.ctx.length]), (13, [byte t.ks.length]), (14, [0, 0]), (16, rangeBytes t.ctx),
      (48, rangeBytes t.ks)] := by
  refine lays_placed (parts := [[p], [t.engines.setWidth 8], [t.tpo.setWidth 8], [t.sc.setWidth 8], be 8 t.cports,
    [byte t.ctx.length], [byte t.ks.length], [0, 0], rangeBytes t.ctx, rangeBytes t.ks]) ?_ ?_ ?_
  · simp [renderTenancy]
  · simp [renderTenancy, rangeBytes]
  · simp [placed, rangeBytes]

theorem wsHeader_length (body : Bytes) : (wsHeader body).length = 16 := by simp [wsHeader]

theorem wsTable_length (s : State) : s.wsTable.length = 16 + s.wsBody.length := by
  simp [State.wsTable, wsHeader_length]

/-- The header of the Watershed table (R70). -/
theorem wsHeader_lays (s : State) : Lays (wsHeader s.wsBody) 16
    [(0, [0x57, 0x53, 0x48, 0x44]), (4, [0x00, 0x01]), (6, [0, 0]), (8, beBytes 4 s.wsTable.length),
      (12, be 4 (crc32 (s.wsTable.drop 16)))] := by
  have hdrop : s.wsTable.drop 16 = s.wsBody := List.drop_left' (wsHeader_length _)
  rw [hdrop, wsTable_length]
  refine lays_placed (parts := [beBytes 4 0x57534844, beBytes 2 1, zeros 2, beBytes 4 (16 + s.wsBody.length),
    be 4 (crc32 s.wsBody)]) ?_ (wsHeader_length _) ?_
  · simp [wsHeader]
  · simp only [placed, beBytes_length, zeros_length]
    rfl

section
variable {r : Request} {s : State}

theorem exec_portEcho (hx : Executes false r s) (hf : r.flag0 = false) : Reads 0x0104 .portEcho r s fun _ => r.params :=
  opcode_ok hx (by rw [portEchoBody, hf]; rfl)

theorem exec_portInfo (hx : Executes true r s) (hf : r.flag0 = false) (hp : r.params = []) :
    Reads 0x0101 .portInfo r s fun _ => (s.takeRequest 0x0101 r).portInfo r :=
  opcode_ok hx (by rw [portInfoBody, formed_nil hf hp]; rfl)

theorem exec_tenancyGet {n : Hp} (hx : Executes false r s) (hf : r.flag0 = false) (hp : r.params = [byte n.val])
    (hport : r.port = 0 ∨ r.port = n) : Reads 0x0107 .tenancyGet r s fun _ =>
      renderTenancy (byte n.val) (if n = 0 then s.everything else (s.port n).tenancy) := by
  have hn : field r.params 0 1 = n.val := by
    rw [hp, field_cons_zero, byte_toNat_of_lt (by omega)]
  have hzero : (n.val = 0) = (n = 0) := propext ⟨fun h => Fin.ext h, fun h => congrArg Fin.val h⟩
  refine opcode_ok hx ?_
  rw [tenancyGetBody, namesOther_eq_false hn hport, formed_badForm ⟨hf, by rw [hp]; rfl⟩, hn, finOfNat_val]
  have hrange : decide (n.val > 3) = false := by simp; omega
  simp only [hrange, hzero, takeRequest_tenancy]
  rfl

theorem exec_wsInfo (hx : Executes true r s) (hf : r.flag0 = false) (hp : r.params = []) :
    Reads 0x0201 .wsInfo r s fun _ => wsHeader s.wsBody :=
  opcode_ok hx (by rw [wsInfoBody, formed_nil hf hp]; rfl)

theorem exec_wsRead {o : BitVec 32} {n : BitVec 16} (hx : Executes true r s) (hf : r.flag0 = false)
    (hp : r.params = be 4 o ++ be 2 n) (hn : n ≠ 0) (hmost : n.toNat ≤ 4080) (ho : o.toNat < s.wsTable.length) :
    Reads 0x0202 .wsRead r s fun s => slice s.wsTable o.toNat n.toNat := by
  have hoff : field r.params 0 4 = o.toNat := by rw [hp, field_be4]
  have hcount : field r.params 4 2 = n.toNat := by rw [hp, field_be4_succ _ _ 0, field_be2_only]
  have hn' : n.toNat ≠ 0 := fun h => hn (BitVec.eq_of_toNat_eq h)
  have ho' : ¬ o.toNat ≥ (s.takeRequest 0x0202 r).wsTable.length := Nat.not_le.mpr ho
  refine opcode_ok hx ?_
  rw [wsReadBody, hoff, hcount, formed_badForm ⟨hf, by rw [hp]; simp⟩, decide_eq_false ho']
  have hcheck : (n.toNat == 0 || decide (n.toNat > 4080)) = false := by simp [hn', hmost]
  rw [Bool.false_or, hcheck]
  rfl

theorem exec_wsFind {k n : BitVec 16} {at_ len : Nat} (hx : Executes true r s) (hf : r.flag0 = false)
    (hp : r.params = be 2 k ++ be 2 n) (hfind : findRecord k.toNat s.wsRecords 16 n.toNat = some (at_, len)) :
    Reads 0x0203 .wsFind r s fun _ => beBytes 4 at_ ++ beBytes 2 len ++ zeros 2 := by
  have hk : field r.params 0 2 = k.toNat := by rw [hp, field_be2]
  have hn : field r.params 2 2 = n.toNat := by rw [hp, field_be2_succ _ _ 0, field_be2_only]
  have hfind' : findRecord k.toNat (s.takeRequest 0x0203 r).wsRecords 16 n.toNat = some (at_, len) := hfind
  refine opcode_ok hx ?_
  rw [wsFindBody, formed_badForm ⟨hf, by rw [hp]; simp⟩, hk, hn, hfind']
  rfl

end

/-! ## PORT_CONFIG and TENANCY_SET (R59, R60, R66) -/

theorem exec_portConfig {r : Request} {s : State} {n : Hp} {on : Bool} {holdoff : BitVec 16} {mask : BitVec 32}
    (hx : Executes false r s) (hf : r.flag0 = false)
    (hp : r.params = [byte n.val, byte on.toNat] ++ be 2 holdoff ++ be 4 mask) (hmask : groupMaskOk mask = true)
    (hport : r.port = 0 ∨ r.port = n) (hkey : on = true → (s.port n).cak.key ≠ none)
    (hauth : on = false → (s.port n).authReq = true → r.auth ≠ none) :
    Writes 0x0102 .portConfig r s fun s => s.updPort n fun q =>
      { q with authReq := on, holdoff := holdoff, mask := mask } := by
  have hn : field r.params 0 1 = n.val := by
    rw [hp]
    exact (field_cons_zero _ _).trans <| byte_toNat_of_lt (Nat.lt_trans n.isLt (by decide))
  have hon : field r.params 1 1 = on.toNat := by
    rw [hp]
    cases on <;> rfl
  have hhold : u16 r.params 2 = holdoff := by
    simp [u16, hp]
  have hm : u32 r.params 4 = mask := by
    have : field r.params 4 4 = mask.toNat := by
      rw [hp, List.append_assoc, field_append_right (by simp)]
      exact (field_be2_succ _ _ 0 4).trans (field_be4_only mask)
    simp [u32, this]
  have hon1 : (on.toNat == 1) = on := by cases on <;> rfl
  refine opcode_ok hx ?_
  rw [portConfigBody, hn, hon, hhold, hm, hon1, namesOther_eq_false hn hport, finOfNat_val,
    formed_badForm ⟨hf, by rw [hp]; simp⟩]
  have hn3 : decide (n.val > 3) = false := decide_eq_false (by omega)
  have hon2 : decide (on.toNat > 1) = false := by cases on <;> rfl
  have hcak : ((s.takeRequest 0x0102 r).port n).cak.key = (s.port n).cak.key := by rw [takeRequest_cak]
  refine guards_pass _ _ ?_
  simp only [List.forall_mem_cons, List.not_mem_nil, false_implies, implies_true, and_true, hn3, hon2, hmask, hcak,
    takeRequest_authReq]
  refine ⟨trivial, rfl, trivial, ?key, ?auth⟩
  case key =>
    cases on with
    | false => rfl
    | true => simpa [Option.isSome_iff_ne_none] using hkey rfl
  case auth =>
    cases on with
    | true => rfl
    | false => simpa [Option.isSome_iff_ne_none] using hauth rfl

/-- TENANCY_SET of a tenancy that exists and conflicts with none takes effect (R59). -/
theorem exec_tenancySet {r : Request} {s : State} {n : Hp} (hx : Executes false r s) (hform : Formed r 80) (h0 : n ≠ 0)
    (hport : r.port = 0) (hn : field r.params 0 1 = n.val) (hbad : badTenancy r.params = false)
    (hexists : s.tenancyExists (parseTenancy r.params) = true)
    (hfree : s.tenancyConflict n (parseTenancy r.params) = false) :
    exec (.tenancySet r) s =
      answered 0x0106 r .ok [] ((s.takeRequest 0x0106 r).setTenancy n (parseTenancy r.params)) := by
  have hp : notPrincipal r = false := by simp [notPrincipal, hport]
  have hfree' : (s.takeRequest 0x0106 r).tenancyConflict n (parseTenancy r.params) = false := by
    simpa [State.tenancyConflict] using hfree
  have hexists' : (s.takeRequest 0x0106 r).tenancyExists (parseTenancy r.params) = true := hexists
  have hrange : (n.val == 0 || decide (n.val > 3)) = false := by
    have : n.val ≠ 0 := fun h => h0 (Fin.ext h)
    simp
    omega
  refine opcode_ok hx ?_
  rw [tenancySetBody, hn, hp, formed_badForm hform, hbad, finOfNat_val, hrange, hexists', hfree']
  rfl

end Sys2Proof.Machine

namespace Sys2Proof

open Machine in
/-- Settles O11. -/
theorem portOpcodes : Obligations.PortOpcodes := by
  refine ⟨fun r s hf => ⟨fun hx => exec_portEcho hx hf, fun hx hp => ⟨_, exec_portInfo hx hf hp, ?info⟩,
    fun hx n hp hport w hw => ⟨_, exec_tenancyGet hx hf hp hport, ?tenancy⟩,
    fun hx hp => ⟨_, exec_wsInfo hx hf hp, wsHeader_lays s⟩,
    fun hx o n hp hn hmost ho => exec_wsRead hx hf hp hn hmost ho,
    fun hx k n at_ len hp hfind => exec_wsFind hx hf hp hfind⟩, fun s => by rw [State.everything, lowMask, lowMask],
    fun r s n hx => ⟨?config, ?set⟩⟩
  case info =>
    have h := portInfo_lays r (s.takeRequest 0x0101 r)
    simp only [takeRequest_tenancy, takeRequest_dynAddr, takeRequest_wrap, takeRequest_sessionStart, takeRequest_cak,
      takeRequest_authReq, takeRequest_events, takeRequest_lost] at h
    exact h
  case tenancy =>
    subst hw
    exact renderTenancy_lays (byte n.val) _
  case config =>
    intro on holdoff mask hf hp hmask hport hkey hauth
    exact exec_portConfig hx hf hp hmask hport hkey hauth
  case set =>
    intro hform h0 hport hname hbad hexists hfree
    let v := (s.takeRequest 0x0106 r).updPort n fun q => { q with tenancy := parseTenancy r.params }
    have hn : v.port n = { (s.takeRequest 0x0106 r).port n with tenancy := parseTenancy r.params } :=
      State.port_updPort_same _ _ _
    have hother (q : Hp) (hq : q ≠ n) (hr : q ≠ r.port) : v.port q = s.port q := by
      simp [v, State.takeRequest, State.port_updPort, hq, hr]
    refine ⟨v.restartViews n _, exec_tenancySet hx hform h0 hport hname hbad hexists hfree, ?_, ?_, hother, rfl, rfl, rfl⟩
    · exact congrArg Port.tenancy hn
    · exact (congrArg Port.events hn).trans (takeRequest_events _ _ _ _)

end Sys2Proof

namespace Sys2Proof.Machine

end Sys2Proof.Machine
end

section
/-! The supervisor pair: the referee, takeovers, headless running, drills and restores (R61, R465 to R473). -/

namespace Sys2Proof.Machine

/-! ## Units -/

theorem otherUnit_ne (u : Fin 2) : otherUnit u ≠ u := by decide +revert

theorem otherUnit_getElem_set (l : Vector SupUnit 2) (u : Fin 2) (m : SupUnit) :
    (l.set u m)[(otherUnit u).val] = l[(otherUnit u).val] :=
  Vector.getElem_set_ne _ _ fun h => otherUnit_ne u (Fin.ext h.symm)

@[simp] theorem SupState.fail_units (p : SupState) (u : Fin 2) (cause : Byte) (now : BitVec 48) :
    (p.fail u cause now).units = p.units.set u .failed := rfl
@[simp] theorem SupState.fail_causes (p : SupState) (u : Fin 2) (cause : Byte) (now : BitVec 48) :
    (p.fail u cause now).causes = p.causes.set u cause := rfl
@[simp] theorem SupState.fail_takeover (p : SupState) (u : Fin 2) (cause : Byte) (now : BitVec 48) :
    (p.fail u cause now).takeover = p.takeover := rfl
@[simp] theorem SupState.fail_active (p : SupState) (u : Fin 2) (cause : Byte) (now : BitVec 48) :
    (p.fail u cause now).active = p.active := rfl

theorem SupState.watched_of_stable {p : SupState} (ht : p.takeover = none) (hw : p.swap = none) :
    p.watched = p.active := by
  simp [SupState.watched, ht, hw]

/-! ## Requests in execution (R61) -/

/-- What a takeover must not disturb, but for the requests in execution: the pair, the engines' parameters and the
queues of the ports. -/
def State.dutyView (s : State) :
    SupState × (Eng → Staged EngineParams) × (Hp → List (BitVec 16 × Request) × List (BitVec 16 × Request)) :=
  (s.sup, fun e => (s.eng e).params, fun p => ((s.port p).queue, (s.port p).running))

theorem State.updEng_dutyView (s : State) (e : Eng) (f : Engine → Engine) (h : ∀ x, (f x).params = x.params) :
    (s.updEng e f).dutyView = s.dutyView := by
  have hp (d : Eng) : ((s.updEng e f).eng d).params = (s.eng d).params := by
    rw [State.eng_updEng]
    split
    case isTrue hd => rw [h, hd]
    case isFalse => rfl
  exact Prod.ext rfl (Prod.ext (funext hp) rfl)

theorem State.dutyView_ignoresGauge : IgnoresGauge State.dutyView where
  raise _ _ _ _ := by simp [State.dutyView]
  count _ _ _ _ := by simp [State.dutyView]
  updEng := State.updEng_dutyView
  gauge _ _ := rfl
  skip _ _ := rfl

theorem State.dropRunning_dutyView (s : State) : s.dropRunning.dutyView = s.dutyView := by
  rw [State.dropRunning, State.dutyView_ignoresGauge.gbDrop]
  refine foldl_keeps State.dutyView (fun s e => ?_) _ s
  exact s.updEng_dutyView e _ fun _ => rfl

/-- A walk over the four ports that changes each alone. -/
theorem foldl_ports_port (s : State) (f : Port → Port) (p : Hp) :
    (([0, 1, 2, 3] : List Hp).foldl (fun s p => s.updPort p f) s).port p = f (s.port p) := by
  fin_cases p <;> simp [State.port_updPort]

/-- Requests in execution go back to the front of their queues; the pair and the engines' parameters stay (R61). -/
theorem State.recall_dutyView (s : State) :
    s.recall.dutyView =
      (s.sup, fun e => (s.eng e).params, fun p => ((s.port p).running ++ (s.port p).queue, [])) := by
  have h := s.dropRunning_dutyView
  simp only [State.dutyView, Prod.mk.injEq, funext_iff] at h
  obtain ⟨hsup, heng, hport⟩ := h
  unfold State.recall
  split
  case isTrue hall =>
    have hidle (p : Hp) : (s.port p).running = [] := by
      have := List.all_eq_true.mp hall p (by decide +revert)
      simpa using this
    simp [State.dutyView, hidle]
  case isFalse =>
    simp only [State.dutyView, foldl_ports_port, hport]
    refine Prod.ext ?_ (Prod.ext (funext fun e => ?_) rfl)
    · refine (foldl_keeps State.sup (fun s p => ?_) _ _).trans hsup
      rfl
    · refine (foldl_keeps (fun t : State => (t.eng e).params) (fun s p => ?_) _ _).trans (heng e)
      rfl

/-! ## The active unit declared failed (R467, R468) -/

/-- The active unit is failed for `cause`, the standby is called, and requests in execution wait to be executed anew. -/
def CallsStandby (cause : Byte) (s t : State) : Prop :=
  t.sup.units[s.sup.active] = .failed ∧ t.sup.causes[s.sup.active] = cause ∧
    t.sup.takeover = some { failed := s.sup.active, cause := cause } ∧ t.serving = false ∧
    (∀ e, (t.eng e).params = (s.eng e).params) ∧
    ∀ p : Hp, (t.port p).running = [] ∧ (t.port p).queue = (s.port p).running ++ (s.port p).queue

/-- A unit is failed: the pair's state that `State.declare` goes on from. -/
def State.failUnit (s : State) (u : Fin 2) (cause : Byte) : State :=
  s.updSup fun p => { p.fail u cause s.moduleTime with missed := 0 }

@[simp] theorem State.failUnit_sup (s : State) (u : Fin 2) (cause : Byte) :
    (s.failUnit u cause).sup = { s.sup.fail u cause s.moduleTime with missed := 0 } := rfl

theorem State.declare_of_standby {s : State} {u : Fin 2} (cause : Byte) (hu : s.sup.watched = u)
    (ht : s.sup.takeover = none) (hstandby : s.sup.units[otherUnit u] = .standby) :
    s.declare cause = (s.failUnit u cause).recall.updSup fun p => { p with
      takeover := some { failed := u, cause := cause },
      swap := p.swap.map fun w => { w with taken := true, returning := true } } := by
  subst hu
  refine if_neg ?_
  simpa [ht, otherUnit_getElem_set] using hstandby

theorem State.declare_of_alone {s : State} {u : Fin 2} (cause : Byte) (hu : s.sup.watched = u)
    (halone : s.sup.units[otherUnit u] ≠ .standby) :
    s.declare cause = (s.failUnit u cause).goHeadless u cause := by
  subst hu
  refine if_pos ?_
  simpa [otherUnit_getElem_set] using Or.inr halone

theorem State.declare_callsStandby {s : State} (cause : Byte) (ht : s.sup.takeover = none) (hw : s.sup.swap = none)
    (hstandby : s.sup.units[s.sup.other] = .standby) : CallsStandby cause s (s.declare cause) := by
  have h := (s.failUnit s.sup.active cause).recall_dutyView
  simp only [State.dutyView, Prod.mk.injEq, funext_iff] at h
  obtain ⟨hsup, heng, hport⟩ := h
  rw [State.declare_of_standby cause (SupState.watched_of_stable ht hw) ht hstandby]
  refine ⟨by simp [hsup], by simp [hsup], rfl, by simp [State.serving, State.inTakeover], fun e => heng e, fun p => ?_⟩
  exact ⟨(hport p).2, (hport p).1⟩

/-! ## The voters (R467) -/

theorem Raises.sup {s t : State} (h : Raises s t) : t.sup = s.sup := by rw [h.1]

theorem Raises.eng {s t : State} (h : Raises s t) (e : Eng) : t.eng e = s.eng e := by
  have he : t.engines = s.engines := by rw [h.1]
  simp [State.eng, he]

theorem Raises.updSup {s t : State} (h : Raises s t) (f : SupState → SupState) : Raises (s.updSup f) (t.updSup f) := by
  refine ⟨?_, h.2⟩
  conv_lhs => rw [h.1]
  rfl

theorem majority_replicate (b : Bool) : majority (Vector.replicate 3 b) = b := by decide +revert

theorem outvoted_replicate (b : Bool) : outvoted (Vector.replicate 3 b) = none := by decide +revert

theorem outvoted_odd (b : Bool) (v : Fin 3) : outvoted ((Vector.replicate 3 (!b)).set v b) = some v := by
  decide +revert

theorem majority_iff (votes : Vector Bool 3) : majority votes = true ↔ 2 ≤ votes.toList.count true := by
  have hid : (id : Bool → Bool) = (· == true) := funext fun b => by simp
  simp [majority, List.count, hid]

theorem outvoted_of_agree {votes : Vector Bool 3} {v : Fin 3} (h : ∀ w : Fin 3, votes[w] = votes[v]) :
    outvoted votes = none := by
  have hvotes : votes = Vector.replicate 3 votes[v] := by
    ext i hi
    simpa using h ⟨i, hi⟩
  rw [hvotes, outvoted_replicate]

theorem outvoted_of_odd {votes : Vector Bool 3} {v : Fin 3} (h : ∀ w : Fin 3, w ≠ v → votes[w] ≠ votes[v]) :
    outvoted votes = some v := by
  have hvotes : votes = (Vector.replicate 3 (!votes[v])).set v votes[v] := by
    ext i hi
    by_cases hv : v.val = i
    · subst hv
      simp
    · have hw := h ⟨i, hi⟩ fun hw => hv (congrArg Fin.val hw).symm
      rw [Vector.getElem_set_ne _ _ hv, Vector.getElem_replicate]
      exact Bool.eq_not.mpr hw
  rw [hvotes, outvoted_odd]

/-- Judging the voters notes at most one of them, and raises events. -/
theorem State.noteVote_raises (s : State) (votes : Vector Bool 3) :
    Raises (s.updSup fun p => { p with referee := (s.noteVote votes).sup.referee }) (s.noteVote votes) := by
  unfold State.noteVote
  split
  · exact Raises.refl s
  · split
    · exact Raises.refl s
    · rw [State.raise_sup]
      exact raises_raise _ _ _ _

/-! ## The referee's windows (R467) -/

/-- The voters' judgement of a window's heartbeats, before the referee counts it. -/
def State.judged (s : State) (votes : Vector Bool 3) (beats : Vector (Option Heartbeat) 3) : State :=
  (s.updSup fun p => { p with lastBeat := Vector.ofFn fun (v : Fin 3) =>
    if votes[v] then (match beats[v] with | some b => b.journal | none => 0) else s.sup.lastBeat[v] }).noteVote votes

section
variable {s : State} {votes : Vector Bool 3} {beats : Vector (Option Heartbeat) 3}

theorem State.judged_raises : Raises (s.updSup fun p => { p with
    lastBeat := (s.judged votes beats).sup.lastBeat, referee := (s.judged votes beats).sup.referee })
    (s.judged votes beats) := by
  have h := State.noteVote_raises (s.updSup fun p => { p with lastBeat := Vector.ofFn fun (v : Fin 3) =>
    if votes[v] then (match beats[v] with | some b => b.journal | none => 0) else s.sup.lastBeat[v] }) votes
  have hlast := congrArg SupState.lastBeat h.sup
  simp only [State.judged]
  rw [hlast]
  exact h

theorem State.judged_lastBeat {v : Fin 3} {b : Heartbeat} (hb : beats[v] = some b) :
    (s.judged votes beats).sup.lastBeat[v] = if votes[v] then b.journal else s.sup.lastBeat[v] := by
  have h := State.noteVote_raises (s.updSup fun p => { p with lastBeat := Vector.ofFn fun (v : Fin 3) =>
    if votes[v] then (match beats[v] with | some b => b.journal | none => 0) else s.sup.lastBeat[v] }) votes
  have hlast := congrArg SupState.lastBeat h.sup
  rw [State.judged, hlast]
  simp only [Fin.getElem_fin] at hb
  simp [hb]

theorem exec_refereeWindow (hr : s.ready = true) (hh : s.sup.headless = false) (ht : s.inTakeover = false)
    (hv : votes = Vector.ofFn fun v => validBeat s.sup.lastBeat[v] beats[v]) :
    exec (.refereeWindow beats) s = .next (
      if majority votes then (s.judged votes beats).updSup fun p => { p with missed := 0 }
      else if 2 ≤ s.sup.missed then (s.judged votes beats).declare 1
      else (s.judged votes beats).updSup fun p => { p with missed := s.sup.missed + 1 }) := by
  have hm : (s.judged votes beats).sup.missed = s.sup.missed :=
    (congrArg SupState.missed (State.judged_raises (s := s)).sup :)
  subst hv
  have hserved : (!s.sup.headless && !s.inTakeover) = true := by simp [hh, ht]
  rw [← hm, show exec (.refereeWindow beats) s = execRefereeWindow beats s from rfl, execRefereeWindow,
    eventIf_true hr hserved]
  rfl

end

/-! ## Headless running (R61, R473) -/

/-- The engines' parameters, the units, and that the module runs headless. -/
def State.downView (s : State) : (Eng → Staged EngineParams) × Vector SupUnit 2 × Bool :=
  (fun e => (s.eng e).params, s.sup.units, s.sup.headless)

theorem State.updEng_downView (s : State) (e : Eng) (f : Engine → Engine) (h : ∀ x, (f x).params = x.params) :
    (s.updEng e f).downView = s.downView := by
  have h := s.updEng_dutyView e f h
  simp only [State.dutyView, Prod.mk.injEq] at h
  exact Prod.ext h.2.1 rfl

theorem State.raise_downView (s : State) (code : BitVec 16) (pl : Place) (data : Bytes) :
    (s.raise code pl data).downView = s.downView := by simp [State.downView]

theorem State.downView_ignoresGauge : IgnoresGauge State.downView where
  raise := State.raise_downView
  count _ _ _ _ := by simp [State.downView]
  updEng := State.updEng_downView
  gauge _ _ := rfl
  skip _ _ := rfl

theorem State.commits_ignoresGauge : IgnoresGauge State.commits where
  raise _ _ _ _ := by simp
  count _ _ _ _ := by simp
  updEng _ _ _ _ := rfl
  gauge _ _ := rfl
  skip _ _ := rfl

theorem State.notDone_downView (s : State) (d : Option Deferred) : (s.notDone d).downView = s.downView := by
  unfold State.notDone
  split
  · exact s.raise_downView _ _ _
  · rfl

theorem State.journalled_downView (s : State) : s.journalled.downView = s.downView := by
  unfold State.journalled
  split <;> rfl

theorem State.conclude_downView (s : State) (op : BitVec 16) (r : Request) (st : Status) (data : Bytes) :
    (s.conclude op r st data).downView = s.downView := by
  have hsup : (s.conclude op r st data).sup = s.journalled.sup := by simp [State.conclude]
  refine Prod.ext (funext fun e => by simp [State.downView]) ?_
  simp only [State.downView, hsup]
  exact congrArg Prod.snd s.journalled_downView

theorem State.updSup_downView (s : State) (f : SupState → SupState) :
    (s.updSup f).downView = (s.downView.1, (f s.sup).units, (f s.sup).headless) := rfl

/-! ### Dropping the commits -/

section
variable (s : State) (k : Commit)

theorem State.sendAbort_keeps {β : Type} (g : State → β)
    (h : ∀ s e f, (∀ x : Engine, (f x).params = x.params) → g (s.updEng e f) = g s) : g (s.sendAbort k) = g s := by
  unfold State.sendAbort
  split
  · refine foldl_keeps g (fun s e => ?_) _ s
    split
    · rfl
    · exact h _ _ _ fun _ => rfl
  · refine foldl_keeps g (fun s e => ?_) _ s
    exact h _ _ _ fun _ => rfl

theorem State.disarm_keeps {β : Type} (g : State → β) (token : BitVec 32)
    (h : ∀ s e f, (∀ x : Engine, (f x).params = x.params) → g (s.updEng e f) = g s) : g (s.disarm k token) = g s := by
  unfold State.disarm
  split
  · rfl
  · refine foldl_keeps g (fun s e => ?_) _ s
    exact h _ _ _ fun _ => rfl

theorem State.abstain_downView (mismatch : Bool) (b : Byte) : (s.abstain k mismatch b).downView = s.downView := by
  rw [State.abstain, State.raise_downView]
  refine (State.disarm_keeps _ k State.downView k.token State.updEng_downView).trans ?_
  exact State.sendAbort_keeps s k State.downView State.updEng_downView

theorem State.abstain_commits (mismatch : Bool) (b : Byte) :
    (s.abstain k mismatch b).commits = s.commits.filter fun x => x.id != k.id := by
  rw [State.abstain, State.raise_commits]
  refine congrArg (List.filter _) ?_
  exact (State.disarm_keeps _ k State.commits k.token State.commits_ignoresGauge.updEng).trans
    (State.sendAbort_keeps s k State.commits State.commits_ignoresGauge.updEng)

end

theorem State.dropCommits_downView (s : State) : s.dropCommits.downView = s.downView := by
  refine foldl_keeps State.downView (fun s k => ?_) _ s
  split
  · exact s.abstain_downView k _ _
  · exact State.raise_downView _ _ _ _

/-- A walk whose every step takes the commit that it comes to off the list leaves none of those it came to. -/
theorem mem_foldl_commits {f : State → Commit → State}
    (hf : ∀ s k, (f s k).commits = s.commits.filter fun x => x.id != k.id) (l : List Commit) (s : State) {x : Commit}
    (hx : x ∈ (l.foldl f s).commits) : x ∈ s.commits ∧ x ∉ l := by
  induction l generalizing s with
  | nil => exact ⟨hx, List.not_mem_nil⟩
  | cons k ks ih =>
    obtain ⟨hmem, hrest⟩ := ih (f s k) hx
    rw [hf, List.mem_filter] at hmem
    obtain ⟨hmem, hid⟩ := hmem
    have hk : x ≠ k := fun h => by simp [h] at hid
    exact ⟨hmem, by simp [hk, hrest]⟩

theorem State.dropCommits_commits (s : State) : s.dropCommits.commits = [] := by
  refine List.eq_nil_iff_forall_not_mem.mpr fun x hx => ?_
  obtain ⟨hmem, hnot⟩ := mem_foldl_commits (fun s k => by
    split
    · exact s.abstain_commits k _ _
    · exact State.raise_commits _ _ _ _) _ _ hx
  exact hnot hmem

/-! ### Answering the requests in execution -/

/-- The requests in execution on one port are answered HEADLESS. -/
def State.answerPort (s : State) (p : Hp) : State :=
  ((s.port p).running.foldl (fun s x => s.conclude x.1 x.2 .headless []) s).updPort p fun q => { q with running := [] }

theorem State.answerRunning_eq (s : State) : s.answerRunning =
    if ([0, 1, 2, 3] : List Hp).all fun p => (s.port p).running.isEmpty then s
    else ([0, 1, 2, 3] : List Hp).foldl State.answerPort s.dropRunning := rfl

theorem State.dropRunning_keeps {β : Type} {g : State → β} (hg : IgnoresGauge g) (s : State) :
    g s.dropRunning = g s := by
  rw [State.dropRunning, hg.gbDrop]
  refine foldl_keeps g (fun s e => ?_) _ s
  exact hg.updEng s e _ fun _ => rfl

theorem State.answerRunning_keeps {β : Type} {g : State → β} (hg : IgnoresGauge g)
    (hc : ∀ s op r st data, g (s.conclude op r st data) = g s) (hp : ∀ s p f, g (s.updPort p f) = g s) (s : State) :
    g s.answerRunning = g s := by
  rw [State.answerRunning_eq]
  split
  · rfl
  · refine (foldl_keeps g (fun s p => ?_) _ _).trans (State.dropRunning_keeps hg s)
    exact (hp _ _ _).trans (foldl_keeps g (fun s x => hc s _ _ _ _) _ s)

theorem State.conclude_running_nil {s : State} {q : Hp} (op : BitVec 16) (r : Request) (st : Status) (data : Bytes)
    (h : (s.port q).running = []) : ((s.conclude op r st data).port q).running = [] := by
  have hq : ((s.journalled.authWork r.auth (8 + data.length)).port q).running = [] := by
    simpa using h
  rw [State.conclude, State.port_updPort]
  split
  · simp [h]
  · exact hq

theorem State.answerPort_running_same (s : State) (p : Hp) : ((s.answerPort p).port p).running = [] := by
  simp [State.answerPort]

theorem State.answerPort_running_nil {s : State} {q : Hp} (p : Hp) (h : (s.port q).running = []) :
    ((s.answerPort p).port q).running = [] := by
  have hfold (l : List (BitVec 16 × Request)) (t : State) (ht : (t.port q).running = []) :
      ((l.foldl (fun s x => s.conclude x.1 x.2 .headless []) t).port q).running = [] := by
    induction l generalizing t with
    | nil => exact ht
    | cons x xs ih => exact ih _ (State.conclude_running_nil _ _ _ _ ht)
  rw [State.answerPort, State.port_updPort]
  split
  · rfl
  · exact hfold _ s h

theorem foldl_answerPort_running (l : List Hp) (s : State) (q : Hp) (h : q ∈ l ∨ (s.port q).running = []) :
    ((l.foldl State.answerPort s).port q).running = [] := by
  induction l generalizing s with
  | nil => simpa using h
  | cons p ps ih =>
    refine ih (s.answerPort p) ?_
    rcases h with h | h
    · rcases List.mem_cons.mp h with rfl | h
      · exact .inr (s.answerPort_running_same _)
      · exact .inl h
    · exact .inr (State.answerPort_running_nil p h)

theorem State.answerRunning_running (s : State) (q : Hp) : (s.answerRunning.port q).running = [] := by
  have hq : q ∈ ([0, 1, 2, 3] : List Hp) := by decide +revert
  rw [State.answerRunning_eq]
  split
  case isTrue hall => simpa using List.all_eq_true.mp hall q hq
  case isFalse => exact foldl_answerPort_running _ _ q (.inl hq)

/-! ### The module goes headless -/

theorem State.abandon_keeps {β : Type} (g : State → β) (h : ∀ (s : State) hw, g { s with hw := hw } = g s) (s : State) :
    g s.abandon = g s := by
  unfold State.abandon
  split
  · exact h _ _
  · rfl

/-- What the module is once it runs headless: both units failed, no commit pending, no request in execution; the
engines' parameters stay (R61, R473). -/
theorem State.goHeadless_spec (s : State) (u : Fin 2) (cause : Byte) :
    (s.goHeadless u cause).downView = (s.downView.1, Vector.replicate 2 .failed, true) ∧
      (s.goHeadless u cause).commits = [] ∧ ∀ p : Hp, ((s.goHeadless u cause).port p).running = [] := by
  refine ⟨?_, ?_, fun p => ?_⟩ <;> unfold State.goHeadless <;> dsimp only
  · rw [State.raise_downView,
      State.answerRunning_keeps State.downView_ignoresGauge State.conclude_downView (fun _ _ _ => rfl)]
    refine (State.abandon_keeps State.downView (fun _ _ => rfl) _).trans ((State.dropCommits_downView _).trans ?_)
    rw [State.updSup_downView, State.notDone_downView, State.notDone_downView]
  · rw [State.raise_commits,
      State.answerRunning_keeps State.commits_ignoresGauge (fun _ _ _ _ _ => by simp) (fun _ _ _ => rfl)]
    exact (State.abandon_keeps State.commits (fun _ _ => rfl) _).trans (State.dropCommits_commits _)
  · rw [State.raise_port_running, State.answerRunning_running]

/-! ## Postponed automatic restores (R472) -/

/-- One unit's part of `State.resumeAuto`. -/
def State.resumeUnit (s : State) (u : Fin 2) : State :=
  if !s.sup.autoDue[u] || s.sup.busy || s.sup.headless then s
  else if s.sup.units[u] == .failed then s.updSup fun p => p.startAuto u s.moduleTime
  else s.updSup fun p => { p with autoDue := p.autoDue.set u false }

theorem State.resumeAuto_eq (s : State) : s.resumeAuto = (s.resumeUnit 0).resumeUnit 1 := rfl

section
variable (s : State)

/-- Who serves, what drill and takeover run, and the last takeover's count and times. -/
def SupState.rotation (p : SupState) :
    Fin 2 × Option Takeover × Option Swap × BitVec 32 × BitVec 48 × BitVec 16 :=
  (p.active, p.takeover, p.swap, p.takeovers, p.lastTakeover, p.lastDuration)

theorem State.resumeUnit_rotation (u : Fin 2) : (s.resumeUnit u).sup.rotation = s.sup.rotation := by
  unfold State.resumeUnit
  (repeat' split) <;> rfl

theorem State.resumeAuto_rotation : s.resumeAuto.sup.rotation = s.sup.rotation := by
  rw [State.resumeAuto_eq, State.resumeUnit_rotation, State.resumeUnit_rotation]

variable {s}

/-- A unit that is active is not restored. -/
theorem State.resumeUnit_active {k : Fin 2} (u : Fin 2) (h : s.sup.units[k] = .active) :
    (s.resumeUnit u).sup.units[k] = .active := by
  unfold State.resumeUnit
  split
  · exact h
  · split
    case isTrue hfailed =>
      have hne : u.val ≠ k.val := fun huk => by
        rw [Fin.ext huk, h] at hfailed
        simp at hfailed
      simpa [SupState.startAuto, SupState.startRestore, hne] using h
    case isFalse => exact h

theorem State.resumeAuto_active {k : Fin 2} (h : s.sup.units[k] = .active) : s.resumeAuto.sup.units[k] = .active := by
  rw [State.resumeAuto_eq]
  exact State.resumeUnit_active 1 (State.resumeUnit_active 0 h)

theorem State.resumeUnit_of_notDue {u : Fin 2} (h : s.sup.autoDue[u] = false) : s.resumeUnit u = s := by
  rw [State.resumeUnit, h]
  rfl

theorem State.resumeAuto_of_notDue (h : ∀ k : Fin 2, s.sup.autoDue[k] = false) : s.resumeAuto = s := by
  rw [State.resumeAuto_eq, State.resumeUnit_of_notDue (h 0), State.resumeUnit_of_notDue (h 1)]

end

/-! ## Takeovers, drills and restores at their ends -/

theorem State.hwEvaluate_sup (s : State) (commit : Bool) : (s.hwEvaluate commit).sup = s.sup := by
  unfold State.hwEvaluate
  (repeat' split) <;> rfl

theorem State.evaluateAfter_sup (s : State) : s.evaluateAfter.sup = s.sup := by
  unfold State.evaluateAfter State.reselect
  dsimp only
  (repeat' split) <;> simp [State.hwEvaluate_sup, State.abandon_keeps State.sup fun _ _ => rfl]

theorem State.cmdDone_sup (s : State) (d : Deferred) (st : Status) : (s.cmdDone d st).sup = s.sup := s.raise_sup _ _ _

theorem State.notDone_sup (s : State) (d : Option Deferred) : (s.notDone d).sup = s.sup := by
  unfold State.notDone
  split
  · exact s.cmdDone_sup _ _
  · rfl

/-- After a failure the called unit serves, its takeover is counted and timed, and a drill is over (R468, R470). -/
theorem State.takeoverComplete_spec {s : State} {x : Takeover} (n : BitVec 16) (hx : s.sup.takeover = some x) :
    (s.takeoverComplete n).sup.rotation =
        (otherUnit x.failed, none, none, s.sup.takeovers + 1, s.moduleTime, n) ∧
      (s.takeoverComplete n).sup.units[otherUnit x.failed] = .active := by
  have h : s.takeoverComplete n =
      (((((s.takeOver (otherUnit x.failed) x.cause n).raise 0x1102 .module [byte x.failed.val, x.cause]).notDone
        (s.sup.swap.map fun w => w.issuer)).updSup fun p => { p with swap := none }).resumeAuto).evaluateAfter := by
    rw [State.takeoverComplete, hx]
  rw [h, State.evaluateAfter_sup]
  refine ⟨(State.resumeAuto_rotation _).trans ?_, State.resumeAuto_active ?_⟩ <;>
    simp [State.notDone_sup, State.takeOver, SupState.rotation]

theorem exec_restoreComplete {s : State} {x : Restore} (passes : Bool) (n : BitVec 16) (hr : s.ready = true)
    (hx : s.sup.restore = some x) : exec (.restoreComplete passes n) s = .next (s.restored x passes n) := by
  rw [show exec (.restoreComplete passes n) s = execRestoreComplete passes n s from rfl, execRestoreComplete,
    event_ready hr, hx]

/-- A restore that has run leaves its unit standby or failed, where no automatic restore waits (R471, R472). -/
theorem State.restored_spec {s : State} (x : Restore) (passes : Bool) (n : BitVec 16)
    (hdue : ∀ k : Fin 2, s.sup.autoDue[k] = false) : (s.restored x passes n).sup.restore = none ∧
      (s.restored x passes n).sup.units[x.target] = if passes then .standby else .failed := by
  have hset (k : Fin 2) : (s.sup.autoDue.set x.target false)[k] = false := by
    by_cases h : x.target.val = k.val
    · simp [h]
    · simpa [Vector.getElem_set_ne _ _ h] using hdue k
  have hidle (t : State) (ht : t.sup.autoDue =
      if passes && x.issuer.isSome then s.sup.autoDue.set x.target false else s.sup.autoDue) : t.resumeAuto = t := by
    refine State.resumeAuto_of_notDue fun k => ?_
    rw [ht]
    split
    · exact hset k
    · exact hdue k
  unfold State.restored
  dsimp only
  rw [hidle] <;> rcases x.issuer with _ | d <;> cases passes <;> simp [State.cmdDone_sup]

/-! ## The clauses of the obligation -/

/-- What the voters note before a declaration does not bear on it. -/
theorem CallsStandby.of_raises {cause : Byte} {s j t : State} {f : SupState → SupState} (hj : Raises (s.updSup f) j)
    (hf : (f s.sup).active = s.sup.active) (h : CallsStandby cause j t) : CallsStandby cause s t := by
  have hactive : j.sup.active = s.sup.active := (congrArg SupState.active hj.sup).trans hf
  have hport (p : Hp) : (j.port p).running = (s.port p).running ∧ (j.port p).queue = (s.port p).queue := by
    rw [hj.2 p]
    exact ⟨rfl, rfl⟩
  have heng (e : Eng) : (j.eng e).params = (s.eng e).params := by rw [hj.eng]; rfl
  simpa only [CallsStandby, hactive, hport, heng] using h

section
variable {s : State} (hr : s.ready = true) (hh : s.sup.headless = false)
include hr

theorem exec_takeoverComplete (hh : s.sup.headless = false) (n : BitVec 16) :
    exec (.takeoverComplete n) s = .next (s.takeoverComplete n) := by
  rw [show exec (.takeoverComplete n) s = execTakeoverComplete n s from rfl, execTakeoverComplete,
    eventIf_true hr (by simp [hh])]

theorem exec_voterDisagree (votes : Vector Bool 3) : exec (.voterDisagree votes) s = .next (s.noteVote votes) := by
  rw [show exec (.voterDisagree votes) s = execVoterDisagree votes s from rfl, execVoterDisagree, event_ready hr]

theorem voterDisagree_of_agree {votes : Vector Bool 3} {v : Fin 3} (h : ∀ w : Fin 3, votes[w] = votes[v]) :
    exec (.voterDisagree votes) s = .next s := by
  rw [exec_voterDisagree hr, State.noteVote, outvoted_of_agree h]

theorem voterDisagree_of_odd {votes : Vector Bool 3} {v : Fin 3} (h : ∀ w : Fin 3, w ≠ v → votes[w] ≠ votes[v])
    (hnew : s.sup.referee.getLsbD v.val = false) : Yields (.voterDisagree votes) s
      { s with sup := { s.sup with referee := s.sup.referee ||| (1 : BitVec 3) <<< v.val } } := by
  refine ⟨_, exec_voterDisagree hr votes, ?_⟩
  simp only [State.noteVote, outvoted_of_odd h, hnew]
  exact raises_raise _ _ _ _

theorem swapWindowEnd_ends {w : Swap} (hw : s.sup.swap = some w) (htaken : w.taken = true)
    (hreturning : w.returning = false) :
    ∃ t, exec .swapWindowEnd s = .next t ∧ t.sup.swap = none ∧ t.sup.active = s.sup.active := by
  have h : exec .swapWindowEnd s =
      .next (((s.updSup fun p => { p with swap := none }).cmdDone w.issuer .ok).resumeAuto) := by
    rw [show exec .swapWindowEnd s = execSwapWindowEnd s from rfl, execSwapWindowEnd, event_ready hr, hw]
    simp [htaken, hreturning]
  have hrot := State.resumeAuto_rotation ((s.updSup fun p => { p with swap := none }).cmdDone w.issuer .ok)
  rw [State.cmdDone_sup] at hrot
  simp only [SupState.rotation, Prod.mk.injEq] at hrot
  obtain ⟨hactive, -, hswap, -⟩ := hrot
  exact ⟨_, h, hswap, hactive⟩

include hh

theorem exec_autoRestoreTimer {u : Fin 2} (hflag : s.sup.flags.getLsbD 0 = true) (hu : s.sup.units[u] = .failed)
    (hallowed : s.autoAllowed u = true) : exec (.autoRestoreTimer u) s =
      .next (if s.sup.busy then s.updSup fun p => { p with autoDue := p.autoDue.set u true }
        else s.updSup fun p => p.startAuto u s.moduleTime) := by
  have hdue : (s.sup.flags.getLsbD 0 && s.sup.isDown u && !s.sup.headless && s.autoAllowed u) = true := by
    simp only [SupState.isDown, hu]
    simp [hflag, hh, hallowed]
  rw [show exec (.autoRestoreTimer u) s = execAutoRestoreTimer u s from rfl, execAutoRestoreTimer,
    eventIf_true hr hdue]

theorem journalRecordFail_third (ht : s.inTakeover = false) (hstandby : s.sup.units[s.sup.other] = .standby)
    (hfails : 2 ≤ s.sup.journalFails) : ∃ t, exec .journalRecordFail s = .next t ∧
      t.sup.units[s.sup.other] = .failed ∧ t.sup.causes[s.sup.other] = 4 ∧ t.sup.journalFails = 0 := by
  have hjudged : (!s.sup.headless && !s.inTakeover && s.sup.units[s.sup.other] == .standby) = true := by
    rw [hstandby]
    simp [hh, ht]
  rw [show exec .journalRecordFail s = execJournalRecordFail s from rfl, execJournalRecordFail,
    eventIf_true hr hjudged]
  simp only [ge_iff_le, hfails, if_true]
  exact ⟨_, rfl, by simp⟩

/-- A parity fault and an illegal state declare the active unit failed at once (R467). -/
theorem exec_supParityFault : exec .supParityFault s = .next (s.declare 2) := by
  rw [show exec .supParityFault s = execSupParityFault s from rfl, execSupParityFault, eventIf_true hr (by simp [hh])]

theorem exec_supIllegalState : exec .supIllegalState s = .next (s.declare 3) := by
  rw [show exec .supIllegalState s = execSupIllegalState s from rfl, execSupIllegalState,
    eventIf_true hr (by simp [hh])]

/-- The third window missed in succession declares the active unit failed (R467). -/
theorem refereeWindow_callsStandby {beats : Vector (Option Heartbeat) 3} (ht : s.sup.takeover = none)
    (hw : s.sup.swap = none) (hstandby : s.sup.units[s.sup.other] = .standby) (hmissed : 2 ≤ s.sup.missed)
    (hvote : majority (Vector.ofFn fun v => validBeat s.sup.lastBeat[v] beats[v]) = false) :
    ∃ t, exec (.refereeWindow beats) s = .next t ∧ CallsStandby 1 s t := by
  have hin : s.inTakeover = false := by simp [State.inTakeover, ht, hw]
  rw [exec_refereeWindow hr hh hin rfl, hvote, if_neg Bool.false_ne_true, if_pos hmissed]
  refine ⟨_, rfl, ?_⟩
  have hj := State.judged_raises (s := s) (votes := Vector.ofFn fun v => validBeat s.sup.lastBeat[v] beats[v])
    (beats := beats)
  refine CallsStandby.of_raises hj rfl (State.declare_callsStandby 1 ?_ ?_ ?_)
  · rw [hj.sup]; exact ht
  · rw [hj.sup]; exact hw
  · have hunits := congrArg SupState.units hj.sup
    have hother := congrArg SupState.other hj.sup
    simp only [hunits, hother]
    exact hstandby

/-- Another window counts, or clears, the missed ones, and moves nothing else but what the voters note (R467). -/
theorem refereeWindow_counts {beats : Vector (Option Heartbeat) 3} {votes : Vector Bool 3} (ht : s.inTakeover = false)
    (hv : votes = Vector.ofFn fun v => validBeat s.sup.lastBeat[v] beats[v])
    (hstays : majority votes = true ∨ s.sup.missed < 2) (v : Fin 3) : ∃ t, exec (.refereeWindow beats) s = .next t ∧
      t.sup.missed = (if majority votes then 0 else s.sup.missed + 1) ∧
      (∀ b, beats[v] = some b → t.sup.lastBeat[v] = if votes[v] then b.journal else s.sup.lastBeat[v]) ∧
      Raises { s with sup := { s.sup with
        missed := t.sup.missed, lastBeat := t.sup.lastBeat, referee := t.sup.referee } } t := by
  refine ⟨(s.judged votes beats).updSup fun p => { p with
    missed := if majority votes then 0 else s.sup.missed + 1 }, ?_, rfl, fun b hb => State.judged_lastBeat hb, ?_⟩
  · rw [exec_refereeWindow hr hh ht hv]
    cases hm : majority votes with
    | true => rfl
    | false =>
      have hfew : ¬2 ≤ s.sup.missed := by simpa [hm] using hstays
      simp [hfew]
  · exact (State.judged_raises (s := s)).updSup fun p => { p with
      missed := if majority votes then 0 else s.sup.missed + 1 }

theorem supParityFault_headless (ht : s.sup.takeover = none) (hw : s.sup.swap = none)
    (halone : s.sup.units[s.sup.other] ≠ .standby) :
    ∃ t, exec .supParityFault s = .next t ∧ t.sup.headless = true ∧ t.commits = [] ∧
      t.sup.units = Vector.replicate 2 .failed ∧ (∀ p : Hp, (t.port p).running = []) ∧
      (∀ e, (t.eng e).params = (s.eng e).params) := by
  refine ⟨_, exec_supParityFault hr hh, ?_⟩
  rw [State.declare_of_alone 2 (SupState.watched_of_stable ht hw) halone]
  obtain ⟨hview, hcommits, hrunning⟩ := (s.failUnit s.sup.active 2).goHeadless_spec s.sup.active 2
  simp only [State.downView, Prod.mk.injEq, funext_iff] at hview
  obtain ⟨hparams, hunits, hheadless⟩ := hview
  exact ⟨hheadless, hcommits, hunits, hrunning, hparams⟩

end

/-- Settles O48: a declared failure goes through `State.declare`, whose two outcomes are the call of the standby, with
the requests in execution recalled, and headless running; every other clause is one equation of the pair. -/
theorem supervisorInstants : Obligations.SupervisorInstants := by
  intro s u passes n v votes beats hr hh
  refine ⟨fun ht hw hstandby c hc hthird => ?_, fun ht hw halone => supParityFault_headless hr hh ht hw halone,
    fun ht hv hstays => refereeWindow_counts hr hh ht hv hstays v, majority_iff votes, fun x hx => ?_,
    fun w _ hw htaken hreturning => swapWindowEnd_ends hr hw htaken hreturning,
    fun x hx hdue => ⟨_, exec_restoreComplete passes n hr hx, State.restored_spec x passes n hdue⟩,
    fun hflag hu hallowed => ?_, fun ht hstandby hfails => journalRecordFail_third hr hh ht hstandby hfails,
    voterDisagree_of_agree hr, voterDisagree_of_odd hr⟩
  · simp only [List.mem_cons, List.not_mem_nil, or_false] at hc
    rcases hc with rfl | rfl | rfl
    · exact ⟨_, exec_supParityFault hr hh, State.declare_callsStandby 2 ht hw hstandby⟩
    · exact ⟨_, exec_supIllegalState hr hh, State.declare_callsStandby 3 ht hw hstandby⟩
    · obtain ⟨hmissed, hvote⟩ := hthird rfl
      exact refereeWindow_callsStandby hr hh ht hw hstandby hmissed hvote
  · obtain ⟨hrot, hactive⟩ := State.takeoverComplete_spec n hx
    simp only [SupState.rotation, Prod.mk.injEq] at hrot
    obtain ⟨hserves, htakeover, -, hcount, htime, hduration⟩ := hrot
    exact ⟨_, exec_takeoverComplete hr hh n, htakeover, hserves, hactive, hcount, hduration, htime⟩
  · rw [exec_autoRestoreTimer hr hh hflag hu hallowed]
    refine ⟨fun hbusy => ⟨_, by rw [hbusy], ?_⟩, fun hbusy => by rw [hbusy]; rfl⟩
    simp [SupState.startAuto, SupState.startRestore]

end Sys2Proof.Machine
end

section
/-! Reads of an engine's configuration (R76).  Behind its checks each read answers one table of the copy that COPY names;
a COPY above 1 fails the check of form, which comes first. -/

namespace Sys2Proof.Machine

/-- Form, range and tenancy pass for an engine that is there and the port's: the opcode's own answer is left (R53). -/
theorem engineGuards_pass {bad : Bool} {r : Request} {s : State} {e : Eng} (a : Eng → Answer) (hbad : bad = false)
    (hfield : field r.params 0 1 = e.val) (hhas : s.hasEngine e.val = true)
    (hholds : s.holdsEngine r.port e.val = true) : engineGuards bad r s a = a e := by
  rw [engineGuards, hfield, engOf_val]
  exact guards_pastTenancy hbad (by simp [hhas]) (by simp [hholds]) [] _

section
variable {r : Request} {s : State} {e : Eng} {c : Bool} (h : ReadsCopy r s e c)
include h

theorem ReadsCopy.formed : badEngineCopy r = false := by
  obtain ⟨hflag, hparams, -⟩ := h
  cases c <;> simp [badEngineCopy, badForm, hflag, hparams]

theorem ReadsCopy.number : u8 r.params 0 = byte e.val := by
  obtain ⟨-, hparams, -⟩ := h
  simp [hparams, u8]

theorem ReadsCopy.copyOf (p : Staged EngineParams) :
    copyOf (u8 r.params 1) p = if c then p.staged else p.active := by
  obtain ⟨-, hparams, -⟩ := h
  cases c <;> simp [hparams, u8, Machine.copyOf, byte]

/-- A read behind the checks of an engine's read answers its data alone. -/
theorem ReadsCopy.answers {op : BitVec 16} {body : State → Answer} {f : Eng → Answer} {data : Bytes}
    (hx : Executes false r s)
    (hb : body (s.takeRequest op r) = engineGuards (badEngineCopy r) r (s.takeRequest op r) f)
    (hf : f e = answer data (s.takeRequest op r)) :
    opcode op false r s body = answered op r .ok data (s.takeRequest op r) := by
  have hform := h.formed
  obtain ⟨-, hparams, hhas, hholds⟩ := h
  have hfield : field r.params 0 1 = e.val := by
    rw [hparams, field_cons_zero, byte_toNat_of_lt (by omega)]
  exact opcode_ok hx (hb.trans ((engineGuards_pass f hform hfield (by simpa using hhas) (by simpa using hholds)).trans hf))

end

/-- A read whose form is wrong fails before every other check. -/
theorem opcode_badEngineCopy {op : BitVec 16} {r : Request} {s : State} {body : State → Answer} {f : Eng → Answer}
    (hx : Executes false r s) (hbad : badEngineCopy r = true)
    (hb : body (s.takeRequest op r) = engineGuards (badEngineCopy r) r (s.takeRequest op r) f) :
    opcode op false r s body = answered op r .badParam [] (s.takeRequest op r) :=
  opcode_fail hx (hb.trans (by rw [hbad, engineGuards, guards_true]))

/-- Settles O15: each read is one table behind the checks that every read of an engine's configuration makes. -/
theorem engineConfigReads : Obligations.EngineConfigReads := by
  unfold Obligations.EngineConfigReads
  refine ⟨fun r s e c hx h => ?reads, fun r s e c hx hn hparams hc => ?fails⟩
  case reads =>
    have hcopy (t : State) : copyOf (u8 r.params 1) (t.eng e).params = t.copy e c := h.copyOf _
    and_intros
    all_goals exact h.answers hx rfl (by simp only [hcopy, h.number])
  case fails =>
    have hbad : badEngineCopy r = true := by simp [badEngineCopy, hparams, hc]
    and_intros
    all_goals exact opcode_badEngineCopy hx hbad rfl

end Sys2Proof.Machine
end

section
/-! SUPPORT. More operations that move nothing but traffic: the view of the state that leaves traffic out stands under
them. -/

namespace Sys2Proof.Machine

/-! ## Requests, calibration and memory -/

@[simp] theorem foldl_updLane_offTraffic {α : Type} (l : List α) (n : α → LaneNo) (f : State → α → Lane → Lane)
    (s : State) : (l.foldl (fun s a => s.updLane (n a) (f s a)) s).offTraffic = s.offTraffic :=
  foldl_offTraffic l _ (by intros; rfl) s

@[simp] theorem foldl_updCport_offTraffic {α : Type} (l : List α) (c : α → Cp) (f : State → α → Cport → Cport)
    (s : State) : (l.foldl (fun s a => s.updCport (c a) (f s a)) s).offTraffic = s.offTraffic :=
  foldl_offTraffic l _ (by intros; rfl) s

@[simp] theorem State.cmdDone_offTraffic (s : State) (d : Deferred) (st : Status) :
    (s.cmdDone d st).offTraffic = s.offTraffic := by simp [State.cmdDone]

@[simp] theorem State.cmacWork_offTraffic (s : State) (key : Bytes) (n : Nat) :
    (s.cmacWork key n).offTraffic = s.offTraffic := by simp [State.cmacWork]

@[simp] theorem State.authWork_offTraffic (s : State) (a : Option AuthContext) (n : Nat) :
    (s.authWork a n).offTraffic = s.offTraffic := by
  unfold State.authWork
  (repeat' split) <;> simp

@[simp] theorem State.takeRequest_offTraffic (s : State) (op : BitVec 16) (r : Request) :
    (s.takeRequest op r).offTraffic = s.offTraffic := by simp [State.takeRequest]

@[simp] theorem State.runOn_offTraffic (s : State) (op : BitVec 16) (r : Request) :
    (s.runOn op r).offTraffic = s.offTraffic := by simp [State.runOn]

@[simp] theorem State.calVerdict_offTraffic (s : State) (e : Eng) (conv : Fin 4) (a : Adc) (t : Fin 256) :
    (s.calVerdict e conv a t).offTraffic = s.offTraffic := by
  unfold State.calVerdict
  (repeat' split) <;> simp

@[simp] theorem State.retire_offTraffic (s : State) (m : MergeEntry) :
    (s.retire m).offTraffic = s.offTraffic := by simp [State.retire]

@[simp] theorem State.sweepDone_offTraffic (s : State) (time : Bytes) :
    (s.sweepDone time).offTraffic = s.offTraffic := by simp [State.sweepDone]

@[simp] theorem State.eddyAdvance_offTraffic (s : State) :
    s.eddyAdvance.offTraffic = s.offTraffic := by simp [State.eddyAdvance]

@[simp] theorem State.deriveWork_offTraffic (s : State) (label : Bytes) :
    (s.deriveWork label).offTraffic = s.offTraffic := by simp [State.deriveWork]

@[simp] theorem State.unwrap_offTraffic (s : State) (p : Hp) (kind : Byte) (slot : Nat) (gen : BitVec 16) (blob : Bytes)
    : (s.unwrap p kind slot gen blob).1.offTraffic = s.offTraffic := by
  unfold State.unwrap
  dsimp only
  (repeat' split) <;> simp

@[simp] theorem State.takePortKey_offTraffic (s : State) (p : Hp) (kind : Byte) (key : Bytes) :
    (s.takePortKey p kind key).offTraffic = s.offTraffic := by
  unfold State.takePortKey
  dsimp only
  split <;> simp

@[simp] theorem State.erasePortKeys_offTraffic (s : State) (p : Hp) (kek cak : Bool) :
    (s.erasePortKeys p kek cak).offTraffic = s.offTraffic := by simp [State.erasePortKeys]

/-! ## Flows and contexts -/

@[simp] theorem State.uncache_offTraffic (s : State) (n : Nat) : (s.uncache n).offTraffic = s.offTraffic := by
  unfold State.uncache
  (repeat' split) <;> simp

@[simp] theorem State.useHot_offTraffic (s : State) (n : Nat) : (s.useHot n).1.offTraffic = s.offTraffic := by
  unfold State.useHot
  (repeat' split) <;> simp

@[simp] theorem State.touch_offTraffic (s : State) (n : Nat) :
    (s.touch n).offTraffic = s.offTraffic := by simp [State.touch]

@[simp] theorem State.setHot_offTraffic (s : State) (n : Nat) (h : Hot) : (s.setHot n h).offTraffic = s.offTraffic := by
  unfold State.setHot
  (repeat' split) <;> simp

@[simp] theorem State.addEntry_offTraffic (s : State) (e : Bytes) : (s.addEntry e).offTraffic = s.offTraffic := by
  unfold State.addEntry
  dsimp only
  split <;> simp

@[simp] theorem State.dropEntry_offTraffic (s : State) (e : Bytes) : (s.dropEntry e).offTraffic = s.offTraffic := by
  unfold State.dropEntry
  dsimp only
  split <;> simp

@[simp] theorem State.clearCold_offTraffic (s : State) (n : Nat) :
    (s.clearCold n).offTraffic = s.offTraffic := by simp [State.clearCold]

@[simp] theorem State.setFlags_offTraffic (s : State) (n : Nat) (flags : Byte) :
    (s.setFlags n flags).offTraffic = s.offTraffic := by
  unfold State.setFlags
  dsimp only
  split <;> simp

@[simp] theorem State.loadCtx_offTraffic (s : State) (n : Nat) (h : Hot) (flags : Byte) (reload : Bool) :
    (s.loadCtx n h flags reload).offTraffic = s.offTraffic := by simp [State.loadCtx]

@[simp] theorem State.rekeyCtx_offTraffic (s : State) (e : Bytes) :
    (s.rekeyCtx e).offTraffic = s.offTraffic := by simp [State.rekeyCtx]

@[simp] theorem State.flowOp_offTraffic (s : State) (op : FlowOp) : (s.flowOp op).offTraffic = s.offTraffic := by
  unfold State.flowOp
  (repeat' split) <;> simp

@[simp] theorem State.flowsCommit_offTraffic (s : State) (tok : BitVec 32) (egress : Bool) :
    (s.flowsCommit tok egress).offTraffic = s.offTraffic := by simp [State.flowsCommit]

@[simp] theorem State.seekAll_offTraffic (s : State) (es : List Bytes) :
    (s.seekAll es).offTraffic = s.offTraffic := by simp [State.seekAll]

@[simp] theorem State.touchAll_offTraffic (s : State) (es : List Bytes) :
    (s.touchAll es).offTraffic = s.offTraffic := by simp [State.touchAll]

@[simp] theorem fillStep_offTraffic (h : Hot) (flags : Byte) (a : State × Bool) (n : Nat) :
    (fillStep h flags a n).1.offTraffic = a.1.offTraffic := by
  unfold fillStep
  dsimp only
  split <;> simp

@[simp] theorem State.fillDone_offTraffic (s : State) (j : FillJob) : (s.fillDone j).offTraffic = s.offTraffic := by
  have h (f : Hot) (l : List Nat) (a : State × Bool) :
      (l.foldl (fun a i => fillStep f j.flags a (j.first + i)) a).1.offTraffic = a.1.offTraffic :=
    foldl_keeps (fun a : State × Bool => a.1.offTraffic) (fun a i => by simp) l a
  simp [State.fillDone, h]

@[simp] theorem State.ctxReadWord_offTraffic (s : State) (n w : Nat) :
    (s.ctxReadWord n w).1.offTraffic = s.offTraffic := by
  unfold State.ctxReadWord
  dsimp only
  (repeat' split) <;> simp

/-! ## Time -/

@[simp] theorem State.advanceTime_offTraffic (s : State) :
    s.advanceTime.offTraffic = s.offTraffic := by simp [State.advanceTime]

@[simp] theorem State.modeCommit_offTraffic (s : State) (d : Fin 2) (old : TdBlock) :
    (s.modeCommit d old).offTraffic = s.offTraffic := by
  unfold State.modeCommit
  dsimp only
  (repeat' split) <;> simp

@[simp] theorem State.stopOutputTpos_offTraffic (s : State) :
    s.stopOutputTpos.offTraffic = s.offTraffic := by simp [State.stopOutputTpos]

@[simp] theorem State.outSrcCommit_offTraffic (s : State) (before : Option Nat) (new : TdConfig) :
    (s.outSrcCommit before new).offTraffic = s.offTraffic := by simp [State.outSrcCommit]

@[simp] theorem State.timeCommit_offTraffic (s : State) :
    s.timeCommit.offTraffic = s.offTraffic := by simp [State.timeCommit]

@[simp] theorem State.longSheds_offTraffic (s : State) :
    s.longSheds.offTraffic = s.offTraffic := by simp [State.longSheds]

/-! ## Frames through Millrace and the client ports -/

@[simp] theorem State.suspend_offTraffic (s : State) (n : Nat) (h : Hot) :
    (s.suspend n h).offTraffic = s.offTraffic := by simp [State.suspend]

@[simp] theorem State.keyAbsent_offTraffic (s : State) (d : Dir) (f : FlowFrame) :
    (s.keyAbsent d f).offTraffic = s.offTraffic := by simp [State.keyAbsent]

@[simp] theorem State.advancePn_offTraffic (s : State) (n : Nat) (h : Hot) :
    (s.advancePn n h).offTraffic = s.offTraffic := by simp [State.advancePn]

@[simp] theorem State.enqueue_offTraffic (s : State) (d : Dir) (f : FlowFrame) :
    (s.enqueue d f).offTraffic = s.offTraffic := by simp [State.enqueue]

@[simp] theorem State.sealIngress_offTraffic (s : State) (f : FlowFrame) (h : Hot) :
    (s.sealIngress f h).offTraffic = s.offTraffic := by simp [State.sealIngress]

@[simp] theorem State.storePn_offTraffic (s : State) (n : Nat) (h : Hot) (g : Option Grace) (pn : BitVec 64) :
    (s.storePn n h g pn).offTraffic = s.offTraffic := by
  unfold State.storePn
  dsimp only
  split <;> simp

@[simp] theorem State.verifyEgress_offTraffic (s : State) (f : FlowFrame) (h : Hot) :
    (s.verifyEgress f h).offTraffic = s.offTraffic := by
  unfold State.verifyEgress
  dsimp only
  (repeat' split) <;> simp

@[simp] theorem State.admitFrame_offTraffic (s : State) (d : Dir) (f : FlowFrame) :
    (s.admitFrame d f).offTraffic = s.offTraffic := by
  unfold State.admitFrame
  dsimp only
  (repeat' split) <;> simp

@[simp] theorem State.admitNext_offTraffic (s : State) (d : Dir) : (s.admitNext d).offTraffic = s.offTraffic := by
  unfold State.admitNext
  dsimp only
  (repeat' split) <;> simp

@[simp] theorem State.fetchNext_offTraffic (s : State) (d : Dir) : (s.fetchNext d).offTraffic = s.offTraffic := by
  unfold State.fetchNext
  dsimp only
  split <;> simp

@[simp] theorem State.clientFrame_offTraffic (s : State) (c : Cp) (frame : Bytes) (pcsError : Bool)
    (i : Option Instants) : (s.clientFrame c frame pcsError i).offTraffic = s.offTraffic := by
  unfold State.clientFrame
  dsimp only
  (repeat' split) <;> simp

@[simp] theorem State.refreshPort_offTraffic (s : State) (c : Cp) :
    (s.refreshPort c).offTraffic = s.offTraffic := by simp [State.refreshPort]

@[simp] theorem State.refreshPorts_offTraffic (s : State) :
    s.refreshPorts.offTraffic = s.offTraffic := by simp [State.refreshPorts]

@[simp] theorem State.detectFail_offTraffic (s : State) (c : Cp) (signalLost : BitVec 16) (clockLost : BitVec 16)
    (pcsLost : Bool) :
    (s.detectFail c signalLost clockLost pcsLost).offTraffic = s.offTraffic := by simp [State.detectFail]

@[simp] theorem State.shedWaiting_offTraffic (s : State) (c : Cp) :
    (s.shedWaiting c).offTraffic = s.offTraffic := by simp [State.shedWaiting]

@[simp] theorem State.emptyPort_offTraffic (s : State) (c : Cp) :
    (s.emptyPort c).offTraffic = s.offTraffic := by simp [State.emptyPort]

@[simp] theorem State.formed_offTraffic (s : State) (c : Cp) (old : CportConfig) :
    (s.formed c old).offTraffic = s.offTraffic := by
  unfold State.formed
  dsimp only
  (repeat' split) <;> simp

@[simp] theorem State.prbsErrors_offTraffic (s : State) (l : LaneNo) (n : Nat) :
    (s.prbsErrors l n).offTraffic = s.offTraffic := by simp [State.prbsErrors]

@[simp] theorem State.emitEdge_offTraffic (s : State) (n : Fin 4) :
    (s.emitEdge n).offTraffic = s.offTraffic := by simp [State.emitEdge]

@[simp] theorem State.updCapture_offTraffic (s : State) (i : Fin 3) (f : CaptureQueue → CaptureQueue) :
    (s.updCapture i f).offTraffic = s.offTraffic := by simp [State.updCapture]

@[simp] theorem State.clientCommit_offTraffic (s : State) (engines : BitVec 4) (side : Option (HeldSide × Eng)) :
    (s.clientCommit engines side).offTraffic = s.offTraffic := by simp [State.clientCommit]

@[simp] theorem State.shedGroup_offTraffic (s : State) (e : Eng) :
    (s.shedGroup e).offTraffic = s.offTraffic := by simp [State.shedGroup]

@[simp] theorem State.laneSlip_offTraffic (s : State) (l : LaneNo) (slip : Slip) (lfc : BitVec 16) :
    (s.laneSlip l slip lfc).offTraffic = s.offTraffic := by simp [State.laneSlip]

@[simp] theorem State.laneFrameRx_offTraffic (s : State) (l : LaneNo) (c : Cp) (symbols : List (Fin 4))
    (slip : Option Slip) : (s.laneFrameRx l c symbols slip).offTraffic = s.offTraffic := by
  unfold State.laneFrameRx
  dsimp only
  (repeat' split) <;> simp

/-! ## Side channels, sensors and counters -/

@[simp] theorem State.scBlock_offTraffic (s : State) (d : Dir) (key : Bytes) :
    (s.scBlock d key).offTraffic = s.offTraffic := by simp [State.scBlock]

@[simp] theorem State.apsEvent_offTraffic (s : State) (e : Eng) (cause : Byte) (was now : Bool) :
    (s.apsEvent e cause was now).offTraffic = s.offTraffic := by simp [State.apsEvent]

@[simp] theorem State.sensorEvent_offTraffic (s : State) (i : Nat) (old new : Sensor) (near : List Int) :
    (s.sensorEvent i old new near).offTraffic = s.offTraffic := by simp [State.sensorEvent]

@[simp] theorem State.notDone_offTraffic (s : State) (d : Option Deferred) :
    (s.notDone d).offTraffic = s.offTraffic := by
  unfold State.notDone
  (repeat' split) <;> simp

@[simp] theorem State.setViews_offTraffic (s : State) (p : Hp) (v : List (Nat × CounterView)) :
    (s.setViews p v).offTraffic = s.offTraffic := by simp [State.setViews]

@[simp] theorem State.snapshot_offTraffic (s : State) (p : Hp) (mask : BitVec 32) :
    (s.snapshot p mask).offTraffic = s.offTraffic := by simp [State.snapshot]

@[simp] theorem State.noteSnapTime_offTraffic (s : State) (p : Hp) (mask : BitVec 32) :
    (s.noteSnapTime p mask).offTraffic = s.offTraffic := by simp [State.noteSnapTime]

@[simp] theorem State.takeSnapshots_offTraffic (s : State) :
    s.takeSnapshots.offTraffic = s.offTraffic := by simp [State.takeSnapshots]

@[simp] theorem State.restartViews_offTraffic (s : State) (p : Hp) (named : CounterScope → Nat → Bool) :
    (s.restartViews p named).offTraffic = s.offTraffic := by simp [State.restartViews]

@[simp] theorem State.clearViews_offTraffic (s : State) (p : Hp) (named : Nat → Nat → Bool) :
    (s.clearViews p named).offTraffic = s.offTraffic := by simp [State.clearViews]

@[simp] theorem State.collectorNext_offTraffic (s : State) :
    s.collectorNext.offTraffic = s.offTraffic := by simp [State.collectorNext]

/-! ## The bus -/

@[simp] theorem State.onBus_offTraffic (s : State) (p : Hp) (a : BusAnswer) :
    (s.onBus p a).offTraffic = s.offTraffic := by simp [State.onBus]

@[simp] theorem State.directed_offTraffic (s : State) (p : Hp) (addr : BitVec 7) (f : State → State)
    (h : ∀ x, (f x).offTraffic = x.offTraffic) : (s.directed p addr f).offTraffic = s.offTraffic := by
  unfold State.directed
  split
  · simp
  · split <;> simp [h]

@[simp] theorem State.broadcast_offTraffic (s : State) (p : Hp) (f : State → State)
    (h : ∀ x, (f x).offTraffic = x.offTraffic) : (s.broadcast p f).offTraffic = s.offTraffic := by
  unfold State.broadcast
  split <;> simp [h]

@[simp] theorem State.ccc_offTraffic (s : State) (p : Hp) (to_ : Option (BitVec 7)) (f : State → State)
    (h : ∀ x, (f x).offTraffic = x.offTraffic) : (s.ccc p to_ f).offTraffic = s.offTraffic := by
  unfold State.ccc
  split <;> simp [h]

@[simp] theorem State.framed_offTraffic (s : State) (p : Hp) (x : Xfer) (code : Byte) (f : State → State)
    (h : ∀ x, (f x).offTraffic = x.offTraffic) : (s.framed p x code f).offTraffic = s.offTraffic := by
  unfold State.framed
  split
  · rw [h]; simp
  · split
    · simp
    · split <;> simp [h]

@[simp] theorem State.portReply_offTraffic (s : State) (p : Hp) (h : Header) (auth : Option AuthContext) (st : Status)
    (data : Bytes) : (s.portReply p h auth st data).offTraffic = s.offTraffic := by simp [State.portReply]

@[simp] theorem State.authFail_offTraffic (s : State) (p : Hp) (h : Header) :
    (s.authFail p h).offTraffic = s.offTraffic := by simp [State.authFail]

@[simp] theorem State.accept_offTraffic (s : State) (p : Hp) (h : Header) (auth : Option AuthContext) (b : Bytes) :
    (s.accept p h auth b).offTraffic = s.offTraffic := by simp [State.accept]

@[simp] theorem State.retransmit_offTraffic (s : State) (p : Hp) (seq : BitVec 16) :
    (s.retransmit p seq).offTraffic = s.offTraffic := by
  unfold State.retransmit
  (repeat' split) <;> simp

@[simp] theorem State.sequence_offTraffic (s : State) (p : Hp) (h : Header) (auth : Option AuthContext) (b : Bytes) :
    (s.sequence p h auth b).offTraffic = s.offTraffic := by simp [State.sequence]

@[simp] theorem State.trailer_offTraffic (s : State) (p : Hp) (h : Header) (b : Bytes) :
    (s.trailer p h b).offTraffic = s.offTraffic := by
  unfold State.trailer
  dsimp only
  (repeat' split) <;> simp

@[simp] theorem State.packet_offTraffic (s : State) (p : Hp) (b : Bytes) :
    (s.packet p b).offTraffic = s.offTraffic := by simp [State.packet]

@[simp] theorem State.write_offTraffic (s : State) (p : Hp) (b : Bytes) :
    (s.write p b).offTraffic = s.offTraffic := by simp [State.write]

@[simp] theorem State.ibiIfTraffic_offTraffic (s : State) (p : Hp) :
    (s.ibiIfTraffic p).offTraffic = s.offTraffic := s.updPort_offTraffic p _

@[simp] theorem State.takeAddr_offTraffic (s : State) (p : Hp) (addr : BitVec 7) :
    (s.takeAddr p addr).offTraffic = s.offTraffic := by simp [State.takeAddr]

@[simp] theorem State.overflow_offTraffic (s : State) (p : Hp) :
    (s.overflow p).offTraffic = s.offTraffic := by simp [State.overflow]

/-! ## Interval ends and the start -/

@[simp] theorem State.sopEvent_offTraffic (s : State) (e : Eng) (old : Engine) (rate : BitVec 32) :
    (s.sopEvent e old rate).offTraffic = s.offTraffic := by simp [State.sopEvent]

@[simp] theorem State.decimEvent_offTraffic (s : State) :
    s.decimEvent.offTraffic = s.offTraffic := by simp [State.decimEvent]

@[simp] theorem State.rsFec_offTraffic (s : State) (ports : List (Nat × Nat)) (c : Cp) :
    (s.rsFec ports c).offTraffic = s.offTraffic := by
  unfold State.rsFec
  dsimp only
  split <;> simp

@[simp] theorem State.marginEvent_offTraffic (s : State) (e : Eng) : (s.marginEvent e).offTraffic = s.offTraffic := by
  unfold State.marginEvent
  (repeat' split) <;> simp

@[simp] theorem State.stallEvent_offTraffic (s : State) (dir : Byte) (n : Nat) :
    (s.stallEvent dir n).offTraffic = s.offTraffic := by simp [State.stallEvent]

@[simp] theorem State.longBanks_offTraffic (s : State) :
    s.longBanks.offTraffic = s.offTraffic := by simp [State.longBanks]

@[simp] theorem State.longTime_offTraffic (s : State) : s.longTime.offTraffic = s.offTraffic := by simp [State.longTime]

@[simp] theorem State.longCounters_offTraffic (s : State) : s.longCounters.offTraffic = s.offTraffic := by
  unfold State.longCounters
  dsimp only
  split <;> simp

@[simp] theorem State.strapFault_offTraffic (s : State) (strap : Byte) (code : Option (BitVec 12)) :
    (s.strapFault strap code).offTraffic = s.offTraffic := by
  unfold State.strapFault
  (repeat' split) <;> simp

@[simp] theorem State.recordFault_offTraffic (s : State) (f : FactoryRecord) :
    (s.recordFault f).offTraffic = s.offTraffic := by simp [State.recordFault]

@[simp] theorem State.openPorts_offTraffic (s : State) : s.openPorts.offTraffic = s.offTraffic := rfl

@[simp] theorem repeated_offTraffic (n : Nat) (f : State → State) (s : State) (h : ∀ x, (f x).offTraffic = x.offTraffic)
    : (repeated n f s).offTraffic = s.offTraffic := by
  unfold repeated
  exact foldl_offTraffic _ _ (fun s _ => h s) s

@[simp] theorem State.serveFlows_offTraffic (s : State) (d : Dir) :
    (s.serveFlows d).offTraffic = s.offTraffic := by simp [State.serveFlows]

end Sys2Proof.Machine
end

section
/-! SUPPORT. The ground of the state: the commits, module time, Weir's state and each engine's parameters. What stands
under the operations that carry traffic, follow a switch or answer a request. -/

namespace Sys2Proof.Machine

/-! ## The ground -/

/-- What of an engine moves only where a commit or a write moves its parameters, or where its tile fails. -/
structure Sides where
  params : Staged EngineParams
  later : Option (HeldSide × EngineParams)
  tileFailed : Bool

def Engine.sides (x : Engine) : Sides := ⟨x.params, x.later, x.tileFailed⟩

@[simp] theorem Engine.sides_inj (x y : Engine) :
    x.sides = y.sides ↔ x.params = y.params ∧ x.later = y.later ∧ x.tileFailed = y.tileFailed := by simp [Engine.sides]

/-- What neither traffic nor the work that a commit starts moves: the commits, module time, Weir's state, and of each
engine its parameters. -/
structure Ground where
  commits : List Commit
  moduleTime : BitVec 48
  weir : WeirState
  sides : Eng → Sides

def State.ground (s : State) : Ground := ⟨s.commits, s.moduleTime, s.weir, fun e => (s.eng e).sides⟩

@[simp] theorem State.updEng_ground (s : State) (e : Eng) (f : Engine → Engine) (h : ∀ x, (f x).sides = x.sides) :
    (s.updEng e f).offTraffic.ground = s.offTraffic.ground := by
  have hs : (fun d => ((s.updEng e f).eng d).sides) = fun d => (s.eng d).sides := by
    funext d
    rw [State.eng_updEng]
    split <;> simp [h]
  simp only [State.ground]
  exact congrArg (Ground.mk s.commits s.moduleTime s.weir) hs

@[simp] theorem foldl_ground {α : Type} (l : List α) (f : State → α → State)
    (h : ∀ s x, (f s x).offTraffic.ground = s.offTraffic.ground) (s : State) :
    (l.foldl f s).offTraffic.ground = s.offTraffic.ground :=
  foldl_keeps (fun s => s.offTraffic.ground) h l s

@[simp] theorem ite_ground (c : Prop) [Decidable c] (s t : State) :
    (if c then s else t).ground = if c then s.ground else t.ground := apply_ite _ _ _ _

@[simp] theorem ground_moved (s : State) (pending : List Instr) (fresh : Nat) (ident : Identity) (power : PowerState)
    (ports : Vector Port 4) (turn : Hp) (spent : List (Nat × Hp)) (seenTokens : List (BitVec 32))
    (records : List FactoryRecord) (lanes : Vector Lane 64) (cports : Vector Cport 64)
    (synce : Staged (Vector (Byte × Byte) 4)) (flows : FlowState) (keys : KeyState) (mem : MemState)
    (immediate : List Immediate) (hw : HwState) (time : TimeState) (gauge : GaugeState) (sup : SupState)
    (collector : Collector) (nv : NvState) (jtag : JtagState) :
    ({ s with
      pending := pending, fresh := fresh, ident := ident, power := power, ports := ports, turn := turn, spent := spent,
      seenTokens := seenTokens, records := records, lanes := lanes, cports := cports, synce := synce, flows := flows,
      keys := keys, mem := mem, immediate := immediate, hw := hw, time := time, gauge := gauge, sup := sup,
      collector := collector, nv := nv, jtag := jtag } : State).offTraffic.ground = s.offTraffic.ground := rfl

@[simp] theorem foldl_updEng_ground {α : Type} (l : List α) (e : α → Eng) (f : State → α → Engine → Engine)
    (h : ∀ s a x, (f s a x).sides = x.sides) (s : State) :
    (l.foldl (fun s a => s.updEng (e a) (f s a)) s).offTraffic.ground = s.offTraffic.ground :=
  foldl_ground l _ (fun s a => s.updEng_ground _ _ (h s a)) s

@[simp] theorem State.updSup_ground (s : State) (f : SupState → SupState) :
    (s.updSup f).offTraffic.ground = s.offTraffic.ground := rfl

@[simp] theorem Engine.rxFollow_sides (x : Engine) (old new : EngineParams) :
    (x.rxFollow old new).sides = x.sides := by simp [Engine.rxFollow]

@[simp] theorem Engine.selfLit_sides (x : Engine) : x.selfLit.sides = x.sides := by simp [Engine.selfLit]

@[simp] theorem Engine.switchLine_sides (x : Engine) (old new : EngineParams) :
    (x.switchLine old new).sides = x.sides := by
  unfold Engine.switchLine
  split <;> rfl

/-! ## Receivers and transmitters -/

@[simp] theorem State.journalled_ground (s : State) :
    s.journalled.offTraffic.ground = s.offTraffic.ground := by simp [State.journalled]

@[simp] theorem State.conclude_ground (s : State) (op : BitVec 16) (r : Request) (st : Status) (data : Bytes) :
    (s.conclude op r st data).offTraffic.ground = s.offTraffic.ground := by simp [State.conclude]

@[simp] theorem State.rehold_ground (s : State) (e : Eng) (cause : Byte) :
    (s.rehold e cause).offTraffic.ground = s.offTraffic.ground := by simp [State.rehold]

@[simp] theorem State.reholdDark_ground (s : State) (e : Eng) :
    (s.reholdDark e).offTraffic.ground = s.offTraffic.ground := by simp [State.reholdDark]

@[simp] theorem State.maskSmall_ground (s : State) (e : Eng) :
    (s.maskSmall e).offTraffic.ground = s.offTraffic.ground := by simp [State.maskSmall]

@[simp] theorem State.lofRaise_ground (s : State) (e : Eng) :
    (s.lofRaise e).offTraffic.ground = s.offTraffic.ground := by simp [State.lofRaise]

@[simp] theorem State.lofClear_ground (s : State) (e : Eng) (data : Bytes) :
    (s.lofClear e data).offTraffic.ground = s.offTraffic.ground := by simp [State.lofClear]

@[simp] theorem State.deframerOff_ground (s : State) (e : Eng) :
    (s.deframerOff e).offTraffic.ground = s.offTraffic.ground := by simp [State.deframerOff]

@[simp] theorem State.setLos_ground (s : State) (e : Eng) (on : Bool) :
    (s.setLos e on).offTraffic.ground = s.offTraffic.ground := by simp [State.setLos]

@[simp] theorem State.fecReset_ground (s : State) (e : Eng) :
    (s.fecReset e).offTraffic.ground = s.offTraffic.ground := by simp [State.fecReset]

@[simp] theorem State.rxOff_ground (s : State) (e : Eng) :
    (s.rxOff e).offTraffic.ground = s.offTraffic.ground := by simp [State.rxOff]

@[simp] theorem State.rxWait_ground (s : State) (e : Eng) :
    (s.rxWait e).offTraffic.ground = s.offTraffic.ground := by simp [State.rxWait]

@[simp] theorem State.relock_ground (s : State) (e : Eng) (cause left : Byte) :
    (s.relock e cause left).offTraffic.ground = s.offTraffic.ground := by simp [State.relock]

@[simp] theorem State.rxFreq_ground (s : State) (e : Eng) (fast : Bool) :
    (s.rxFreq e fast).offTraffic.ground = s.offTraffic.ground := by simp [State.rxFreq]

@[simp] theorem State.twinFollow_ground (s : State) :
    s.twinFollow.offTraffic.ground = s.offTraffic.ground := by simp [State.twinFollow]

@[simp] theorem State.txStart_ground (s : State) (e : Eng) (lead : BitVec 32) :
    (s.txStart e lead).offTraffic.ground = s.offTraffic.ground := by simp [State.txStart]

@[simp] theorem State.txEnable_ground (s : State) (e : Eng) (newFn : Bool) (lead : BitVec 32) :
    (s.txEnable e newFn lead).offTraffic.ground = s.offTraffic.ground := by simp [State.txEnable]

@[simp] theorem State.txStop_ground (s : State) (e : Eng) :
    (s.txStop e).offTraffic.ground = s.offTraffic.ground := by simp [State.txStop]

@[simp] theorem State.fastQuench_ground (s : State) (e : Eng) (reason : Byte) (ended : Bool) :
    (s.fastQuench e reason ended).offTraffic.ground = s.offTraffic.ground := by simp [State.fastQuench]

@[simp] theorem State.quench_ground (s : State) (e : Eng) (reason : Byte) :
    (s.quench e reason).offTraffic.ground = s.offTraffic.ground := by
  unfold State.quench
  dsimp only
  split <;> simp

@[simp] theorem State.txPrepare_ground (s : State) (e : Eng) (old new : EngineParams) :
    (s.txPrepare e old new).offTraffic.ground = s.offTraffic.ground := by simp [State.txPrepare]

@[simp] theorem State.txLeave_ground (s : State) (e : Eng) (old : EngineParams) :
    (s.txLeave e old).offTraffic.ground = s.offTraffic.ground := by
  unfold State.txLeave
  dsimp only
  split <;> simp

@[simp] theorem State.txEnter_ground (s : State) (e : Eng) : (s.txEnter e).offTraffic.ground = s.offTraffic.ground := by
  unfold State.txEnter
  dsimp only
  split <;> simp

@[simp] theorem State.txSwitch_ground (s : State) (e : Eng) (old new : EngineParams) :
    (s.txSwitch e old new).offTraffic.ground = s.offTraffic.ground := by simp [State.txSwitch]

@[simp] theorem State.txApply_ground (s : State) (e : Eng) (old new : EngineParams) :
    (s.txApply e old new).offTraffic.ground = s.offTraffic.ground := by simp [State.txApply]

@[simp] theorem State.fecEffort_ground (s : State) (e : Eng) :
    (s.fecEffort e).offTraffic.ground = s.offTraffic.ground := by simp [State.fecEffort]

@[simp] theorem State.idleEffort_ground (s : State) (e : Eng) :
    (s.idleEffort e).offTraffic.ground = s.offTraffic.ground := by simp [State.idleEffort]

@[simp] theorem State.linkApply_ground (s : State) (e : Eng) (new : EngineParams) :
    (s.linkApply e new).offTraffic.ground = s.offTraffic.ground := by simp [State.linkApply]

@[simp] theorem State.rxPrepare_ground (s : State) (e : Eng) (old new : EngineParams) :
    (s.rxPrepare e old new).offTraffic.ground = s.offTraffic.ground := by simp [State.rxPrepare]

@[simp] theorem State.rxSwitch_ground (s : State) (e : Eng) (old new : EngineParams) :
    (s.rxSwitch e old new).offTraffic.ground = s.offTraffic.ground := by simp [State.rxSwitch]

@[simp] theorem State.rxApply_ground (s : State) (e : Eng) (old new : EngineParams) :
    (s.rxApply e old new).offTraffic.ground = s.offTraffic.ground := by simp [State.rxApply]

/-- An operation at a boundary leaves the ground if it does so at the module time of the coming tick. -/
theorem State.atBoundary_ground (s : State) (f : State → State) (h : ∀ x, (f x).offTraffic.ground = x.offTraffic.ground)
    : (s.atBoundary f).offTraffic.ground = s.offTraffic.ground := by
  have hf := congrArg (fun g : Ground => { g with moduleTime := g.moduleTime - 1 })
    (h { s with moduleTime := s.moduleTime + 1 })
  refine hf.trans ?_
  exact congrArg (fun t => Ground.mk s.commits t s.weir fun e => (s.eng e).sides) (BitVec.add_sub_cancel ..)

/-! ## Calibration -/

@[simp] theorem State.keepCal_ground (s : State) (e : Eng) (classes : BitVec 16) :
    (s.keepCal e classes).offTraffic.ground = s.offTraffic.ground := by simp [State.keepCal]

@[simp] theorem State.setAdc_ground (s : State) (e : Eng) (conv : Fin 4) (a : Adc) :
    (s.setAdc e conv a).offTraffic.ground = s.offTraffic.ground := by simp [State.setAdc]

@[simp] theorem State.adcApply_ground (s : State) (e : Eng) (conv : Fin 4) :
    (s.adcApply e conv).offTraffic.ground = s.offTraffic.ground := by
  unfold State.adcApply
  dsimp only
  (repeat' split) <;> simp

@[simp] theorem State.dacApply_ground (s : State) (e : Eng) (d : Fin 4) :
    (s.dacApply e d).offTraffic.ground = s.offTraffic.ground := by
  unfold State.dacApply
  dsimp only
  split <;> simp

@[simp] theorem State.calHold_ground (s : State) (e : Eng) (on : Bool) :
    (s.calHold e on).offTraffic.ground = s.offTraffic.ground := by simp [State.calHold]

/-! ## Keys -/

@[simp] theorem State.setSlot_ground (s : State) (n : Nat) (k : KeySlot) :
    (s.setSlot n k).offTraffic.ground = s.offTraffic.ground := by simp [State.setSlot]

@[simp] theorem State.loadKeys_ground (s : State) (vs : List (Nat × KeyValue)) :
    (s.loadKeys vs).offTraffic.ground = s.offTraffic.ground := by simp [State.loadKeys]

@[simp] theorem State.keysUsable_ground (s : State) (p : Hp) (slots : List Nat) :
    (s.keysUsable p slots).offTraffic.ground = s.offTraffic.ground := by
  unfold State.keysUsable
  dsimp only
  split <;> simp

@[simp] theorem State.restartCipher_ground (s : State) (n : Nat) (tx : Bool) :
    (s.restartCipher n tx).offTraffic.ground = s.offTraffic.ground := by simp [State.restartCipher]

@[simp] theorem State.rewriteTx_ground (s : State) (n : Nat) :
    (s.rewriteTx n).offTraffic.ground = s.offTraffic.ground := by
  unfold State.rewriteTx
  dsimp only
  split <;> simp

@[simp] theorem State.rewriteRx_ground (s : State) (n : Nat) :
    (s.rewriteRx n).offTraffic.ground = s.offTraffic.ground := by simp [State.rewriteRx]

@[simp] theorem State.noteRewrite_ground (s : State) (tok : BitVec 32) (slots : List Nat) :
    (s.noteRewrite tok slots).offTraffic.ground = s.offTraffic.ground := by simp [State.noteRewrite]

@[simp] theorem State.retireToken_ground (s : State) (tok : BitVec 32) :
    (s.retireToken tok).offTraffic.ground = s.offTraffic.ground := by simp [State.retireToken]

@[simp] theorem State.keysTx_ground (s : State) (tok : BitVec 32) :
    (s.keysTx tok).offTraffic.ground = s.offTraffic.ground := by simp [State.keysTx]

@[simp] theorem State.stampRewrites_ground (s : State) (p : Rewrite → Bool) :
    (s.stampRewrites p).offTraffic.ground = s.offTraffic.ground := by simp [State.stampRewrites]

@[simp] theorem State.keysRx_ground (s : State) (tok : BitVec 32) :
    (s.keysRx tok).offTraffic.ground = s.offTraffic.ground := by simp [State.keysRx]

@[simp] theorem State.keysBoth_ground (s : State) (slots : List Nat) :
    (s.keysBoth slots).offTraffic.ground = s.offTraffic.ground := by simp [State.keysBoth]

@[simp] theorem State.endRewrite_ground (s : State) (w : Rewrite) :
    (s.endRewrite w).offTraffic.ground = s.offTraffic.ground := by
  unfold State.endRewrite
  dsimp only
  split <;> simp

@[simp] theorem State.erasePoint_ground (s : State) (j : EraseJob) :
    (s.erasePoint j).offTraffic.ground = s.offTraffic.ground := by
  unfold State.erasePoint
  exact foldl_ground _ _ (fun _ _ => by simp) s

@[simp] theorem State.erasePoints_ground (s : State) :
    s.erasePoints.offTraffic.ground = s.offTraffic.ground := by simp [State.erasePoints]

@[simp] theorem State.eraseDone_ground (s : State) (j : EraseJob) :
    (s.eraseDone j).offTraffic.ground = s.offTraffic.ground := by
  unfold State.eraseDone
  simp only [State.cmdDone_offTraffic, State.raise_offTraffic]
  exact foldl_ground _ _ (fun _ _ => by simp) s

/-! ## Gauge -/

@[simp] theorem State.hostHold_ground (s : State) (e : Eng) (hold : BitVec 6) :
    (s.hostHold e hold).offTraffic.ground = s.offTraffic.ground := by simp [State.hostHold]

@[simp] theorem State.putResult_ground (s : State) (r : GbResult) :
    (s.putResult r).offTraffic.ground = s.offTraffic.ground := by
  unfold State.putResult
  dsimp only
  (repeat' split) <;> simp

@[simp] theorem State.resetCics_ground (s : State) (mask : BitVec 16) :
    (s.resetCics mask).offTraffic.ground = s.offTraffic.ground := by simp [State.resetCics]

@[simp] theorem State.entryResult_ground (s : State) (n : Fin 16) (e : GaugeEntry) (raw : BitVec 12) :
    (s.entryResult n e raw).offTraffic.ground = s.offTraffic.ground := by
  unfold State.entryResult
  dsimp only
  (repeat' split) <;> simp

@[simp] theorem State.holdEngines_ground (s : State) (on : Bool) :
    (s.holdEngines on).offTraffic.ground = s.offTraffic.ground := by simp [State.holdEngines]

@[simp] theorem State.checkHold_ground (s : State) (on : Bool) (data : Bytes) :
    (s.checkHold on data).offTraffic.ground = s.offTraffic.ground := by simp [State.checkHold]

@[simp] theorem State.judgeCheck_ground (s : State) (ga : BitVec 12) (gb : BitVec 12) :
    (s.judgeCheck ga gb).offTraffic.ground = s.offTraffic.ground := by simp [State.judgeCheck]

@[simp] theorem State.compareCheck_ground (s : State) (ga : BitVec 12) (raw : BitVec 12) :
    (s.compareCheck ga raw).offTraffic.ground = s.offTraffic.ground := by simp [State.compareCheck]

@[simp] theorem State.makeCheck_ground (s : State) : s.makeCheck.offTraffic.ground = s.offTraffic.ground := by
  unfold State.makeCheck
  dsimp only
  split <;> simp

@[simp] theorem State.gbNext_ground (s : State) : s.gbNext.offTraffic.ground = s.offTraffic.ground := by
  unfold State.gbNext
  dsimp only
  (repeat' split) <;> simp

@[simp] theorem State.gbEnd_ground (s : State) (raw : BitVec 12) :
    (s.gbEnd raw).offTraffic.ground = s.offTraffic.ground := by
  unfold State.gbEnd
  dsimp only
  (repeat' split) <;> simp

@[simp] theorem State.gbDrop_ground (s : State) : s.gbDrop.offTraffic.ground = s.offTraffic.ground := by
  unfold State.gbDrop
  dsimp only
  split <;> simp

@[simp] theorem State.passTick_ground (s : State) :
    s.passTick.offTraffic.ground = s.offTraffic.ground := by simp [State.passTick]

@[simp] theorem State.gaCycle_ground (s : State) (codes : List (BitVec 12)) (check : BitVec 12) :
    (s.gaCycle codes check).offTraffic.ground = s.offTraffic.ground := by
  unfold State.gaCycle
  dsimp only
  (repeat' split) <;> simp

@[simp] theorem State.gaugeCommit_ground (s : State) : s.gaugeCommit.offTraffic.ground = s.offTraffic.ground := by
  unfold State.gaugeCommit
  dsimp only
  split <;> simp

@[simp] theorem State.calibrated_ground (s : State) (offsets : List Int) (gain : Int) :
    (s.calibrated offsets gain).offTraffic.ground = s.offTraffic.ground := by
  unfold State.calibrated
  dsimp only
  split <;> simp

/-! ## Headwater -/

@[simp] theorem State.updInput_ground (s : State) (i : Fin 14) (f : HwInput → HwInput) :
    (s.updInput i f).offTraffic.ground = s.offTraffic.ground := by simp [State.updInput]

@[simp] theorem State.hwEvaluate_ground (s : State) (commit : Bool) :
    (s.hwEvaluate commit).offTraffic.ground = s.offTraffic.ground := by
  unfold State.hwEvaluate
  dsimp only
  (repeat' split) <;> simp

@[simp] theorem State.abandon_ground (s : State) :
    s.abandon.offTraffic.ground = s.offTraffic.ground := by simp [State.abandon]

@[simp] theorem State.enterHoldover_ground (s : State) (lost : Byte) :
    (s.enterHoldover lost).offTraffic.ground = s.offTraffic.ground := by simp [State.enterHoldover]

@[simp] theorem State.toHoldover_ground (s : State) (lost lostBy : Byte) :
    (s.toHoldover lost lostBy).offTraffic.ground = s.offTraffic.ground := by simp [State.toHoldover]

@[simp] theorem State.holdoverTick_ground (s : State) :
    s.holdoverTick.offTraffic.ground = s.offTraffic.ground := by simp [State.holdoverTick]

@[simp] theorem State.forceOut_ground (s : State) (lost : Byte) :
    (s.forceOut lost).offTraffic.ground = s.offTraffic.ground := by simp [State.forceOut]

@[simp] theorem State.disqualify_ground (s : State) (i : Fin 14) (cause : BitVec 4) :
    (s.disqualify i cause).offTraffic.ground = s.offTraffic.ground := by simp [State.disqualify]

@[simp] theorem State.windowEnd_ground (s : State) (phase : Int) :
    (s.windowEnd phase).offTraffic.ground = s.offTraffic.ground := by simp [State.windowEnd]

@[simp] theorem State.hwTick_ground (s : State) :
    s.hwTick.offTraffic.ground = s.offTraffic.ground := by simp [State.hwTick]

@[simp] theorem State.phaseStep_ground (s : State) (amount : Int) (when_ : Byte) :
    (s.phaseStep amount when_).offTraffic.ground = s.offTraffic.ground := by simp [State.phaseStep]

@[simp] theorem State.applyPending_ground (s : State) : s.applyPending.offTraffic.ground = s.offTraffic.ground := by
  unfold State.applyPending
  dsimp only
  split <;> simp

@[simp] theorem State.ppsEdge_ground (s : State) (n : Fin 2) :
    (s.ppsEdge n).offTraffic.ground = s.offTraffic.ground := by simp [State.ppsEdge]

@[simp] theorem State.synceCommit_ground (s : State) (old : Vector (Byte × Byte) 4) :
    (s.synceCommit old).offTraffic.ground = s.offTraffic.ground := by simp [State.synceCommit]

@[simp] theorem State.reselect_ground (s : State) :
    s.reselect.offTraffic.ground = s.offTraffic.ground := by simp [State.reselect]

@[simp] theorem State.selectionCommit_ground (s : State) :
    s.selectionCommit.offTraffic.ground = s.offTraffic.ground := by simp [State.selectionCommit]

@[simp] theorem State.evaluateAfter_ground (s : State) :
    s.evaluateAfter.offTraffic.ground = s.offTraffic.ground := by simp [State.evaluateAfter]

@[simp] theorem State.hwCommit_ground (s : State) : s.hwCommit.offTraffic.ground = s.offTraffic.ground := by
  unfold State.hwCommit
  dsimp only
  split <;> simp

/-! ## Sides of a commit and the handshake -/

@[simp] theorem State.txSide_ground (s : State) (e : Eng) (old : EngineParams) :
    (s.txSide e old).offTraffic.ground = s.offTraffic.ground := by simp [State.txSide]

@[simp] theorem State.twinEnd_ground (s : State) (e : Eng) :
    (s.twinEnd e).offTraffic.ground = s.offTraffic.ground := by simp [State.twinEnd]

@[simp] theorem State.rxSide_ground (s : State) (e : Eng) (old : EngineParams) :
    (s.rxSide e old).offTraffic.ground = s.offTraffic.ground := by simp [State.rxSide]

@[simp] theorem State.twinStep_ground (s : State) (old : Vector EngineParams 4) :
    (s.twinStep old).offTraffic.ground = s.offTraffic.ground := by simp [State.twinStep]

@[simp] theorem State.txSides_ground (s : State) (es : List Eng) (old : Vector EngineParams 4) :
    (s.txSides es old).offTraffic.ground = s.offTraffic.ground := by simp [State.txSides]

@[simp] theorem State.tokenTx_ground (s : State) (k : Commit) :
    (s.tokenTx k).offTraffic.ground = s.offTraffic.ground := by simp [State.tokenTx]

@[simp] theorem State.tokenRx_ground (s : State) (k : Commit) :
    (s.tokenRx k).offTraffic.ground = s.offTraffic.ground := by simp [State.tokenRx]

@[simp] theorem State.sendCann_ground (s : State) (k : Commit) (phase : BitVec 2) :
    (s.sendCann k phase).offTraffic.ground = s.offTraffic.ground := by simp [State.sendCann]

@[simp] theorem State.sendCack_ground (s : State) (e : Eng) (token : BitVec 32) (target : BitVec 32)
    (response : BitVec 4) :
    (s.sendCack e token target response).offTraffic.ground = s.offTraffic.ground := by simp [State.sendCack]

@[simp] theorem State.disarm_ground (s : State) (k : Commit) (token : BitVec 32) :
    (s.disarm k token).offTraffic.ground = s.offTraffic.ground := by
  unfold State.disarm
  split <;> simp

@[simp] theorem State.startPair_ground (s : State) (k : Commit) :
    (s.startPair k).offTraffic.ground = s.offTraffic.ground := by
  unfold State.startPair
  dsimp only
  split <;> simp

@[simp] theorem State.onLateAbort_ground (s : State) (e : Eng) (c : Cack) :
    (s.onLateAbort e c).offTraffic.ground = s.offTraffic.ground := by
  unfold State.onLateAbort
  split
  · rfl
  · split
    · rw [State.raise_offTraffic]
      exact foldl_updEng_ground _ _ _ (fun _ _ x => by split <;> rfl) s
    · rfl

/-! ## Lines and frames -/

@[simp] theorem State.absorb_ground (s : State) (e : Eng) (noise : Quad) :
    (s.absorb e noise).offTraffic.ground = s.offTraffic.ground := by simp [State.absorb]

@[simp] theorem State.advance_ground (s : State) (e : Eng) (w : WindowPosition) (o : Outcome) :
    (s.advance e w o).offTraffic.ground = s.offTraffic.ground := by
  have h (f : Engine → Engine) (n : Nat) (hf : ∀ x, (f x).sides = x.sides) :
      ({ s.updEng e f with fresh := n } : State).offTraffic.ground = s.offTraffic.ground := s.updEng_ground e f hf
  unfold State.advance
  dsimp only
  split
  · simp only [State.count_offTraffic]
    exact h _ _ fun _ => rfl
  · simp only [State.count_offTraffic, State.raise_offTraffic]
    exact h _ _ fun _ => rfl

@[simp] theorem State.payload_ground (s : State) (e : Eng) :
    (s.payload e).1.offTraffic.ground = s.offTraffic.ground := by
  have h (f : Cp → List Nat) (l : List Cp) (a : State × List (List Nat × List Bytes)) :
      (l.foldl (fun a c => addPort e (f c) a c) a).1.offTraffic = a.1.offTraffic :=
    foldl_keeps (fun a : State × List (List Nat × List Bytes) => a.1.offTraffic) (fun a c => by simp [addPort]) l a
  unfold State.payload
  dsimp only
  split <;> simp [h]

@[simp] theorem State.scTake_ground (s : State) (e : Eng) :
    (s.scTake e).1.offTraffic.ground = s.offTraffic.ground := by simp [State.scTake]

@[simp] theorem State.scAbsent_ground (s : State) (e : Eng) (key : BitVec 32) :
    (s.scAbsent e key).offTraffic.ground = s.offTraffic.ground := by simp [State.scAbsent]

@[simp] theorem State.scSend_ground (s : State) (e : Eng) (fn : BitVec 32) :
    (s.scSend e fn).1.offTraffic.ground = s.offTraffic.ground := by
  unfold State.scSend
  dsimp only
  (repeat' split) <;> simp

@[simp] theorem State.beginFrame_ground (s : State) (e : Eng) (tiles : List Bytes) :
    (s.beginFrame e tiles).offTraffic.ground = s.offTraffic.ground := by simp [State.beginFrame]

@[simp] theorem State.beginFrames_ground (s : State) (e : Eng) :
    (s.beginFrames e).offTraffic.ground = s.offTraffic.ground := by
  unfold State.beginFrames
  dsimp only
  (repeat' split) <;> simp

@[simp] theorem State.deliverBy_ground (s : State) (e : Eng) (p : EngineParams) (tiles : List Bytes) (replaced : Bool)
    (t1 : BitVec 48) :
    (s.deliverBy e p tiles replaced t1).offTraffic.ground = s.offTraffic.ground := by simp [State.deliverBy]

@[simp] theorem State.deliverTiles_ground (s : State) (e : Eng) (tiles : List Bytes) (replaced : Bool) :
    (s.deliverTiles e tiles replaced).offTraffic.ground = s.offTraffic.ground := by simp [State.deliverTiles]

@[simp] theorem State.twinSkew_ground (s : State) (low : Eng) :
    (s.twinSkew low).offTraffic.ground = s.offTraffic.ground := by
  unfold State.twinSkew
  dsimp only
  split <;> simp

@[simp] theorem State.twinDefect_ground (s : State) (low : Eng) (lower higher : Bool) :
    (s.twinDefect low lower higher).offTraffic.ground = s.offTraffic.ground := by simp [State.twinDefect]

@[simp] theorem State.noteDelivered_ground (s : State) (low : Eng) (fn : BitVec 32) :
    (s.noteDelivered low fn).offTraffic.ground = s.offTraffic.ground := by simp [State.noteDelivered]

@[simp] theorem State.twinDeliver_ground (s : State) (low : Eng) (a : Option TwinCopy) (b : Option TwinCopy) :
    (s.twinDeliver low a b).offTraffic.ground = s.offTraffic.ground := by
  unfold State.twinDeliver
  dsimp only
  (repeat' split) <;> simp

theorem twinDrain_ground (low : Eng) (n : Nat) (s : State) :
    (State.twinDrain low n s).offTraffic.ground = s.offTraffic.ground := by
  induction n generalizing s with
  | zero => rfl
  | succ n ih =>
    unfold State.twinDrain
    dsimp only
    (repeat' split) <;> simp [ih]

@[simp] theorem State.checkAps_ground (s : State) (e : Eng) :
    (s.checkAps e).offTraffic.ground = s.offTraffic.ground := by simp [State.checkAps]

@[simp] theorem State.twinCopy_ground (s : State) (e : Eng) (fn : BitVec 32) (good : Bool) (f : RxFrame)
    (tiles : List Bytes) : (s.twinCopy e fn good f tiles).offTraffic.ground = s.offTraffic.ground := by
  unfold State.twinCopy
  dsimp only
  split
  · rfl
  · rw [twinDrain_ground, State.updEng_ground]
    intro x
    rfl

@[simp] theorem State.scReceive_ground (s : State) (e : Eng) (fn : BitVec 32) (linkid : Byte) (o : Overhead) :
    (s.scReceive e fn linkid o).offTraffic.ground = s.offTraffic.ground := by
  unfold State.scReceive
  dsimp only
  (repeat' split) <;> simp

@[simp] theorem State.depReceive_ground (s : State) (e : Eng) (o : Overhead) :
    (s.depReceive e o).offTraffic.ground = s.offTraffic.ground := by simp [State.depReceive]

@[simp] theorem State.smallDefects_ground (s : State) (e : Eng) (h : BitVec 64) (o : Overhead) :
    (s.smallDefects e h o).offTraffic.ground = s.offTraffic.ground := by simp [State.smallDefects]

@[simp] theorem State.measureLine_ground (s : State) (e : Eng) (o : Overhead) (arrival : Nat) :
    (s.measureLine e o arrival).offTraffic.ground = s.offTraffic.ground := by
  unfold State.measureLine
  dsimp only
  (repeat' split) <;> simp

@[simp] theorem State.rxTrack_ground (s : State) (e : Eng) (code : Nat) :
    (s.rxTrack e code).offTraffic.ground = s.offTraffic.ground := by simp [State.rxTrack]

@[simp] theorem State.enterSync_ground (s : State) (e : Eng) (k : Candidate) (code : Nat) :
    (s.enterSync e k code).offTraffic.ground = s.offTraffic.ground := by simp [State.enterSync]

@[simp] theorem State.huntFrame_ground (s : State) (e : Eng) (f : RxFrame) :
    (s.huntFrame e f).offTraffic.ground = s.offTraffic.ground := by
  unfold State.huntFrame
  dsimp only
  split <;> simp

@[simp] theorem State.leaveSync_ground (s : State) (e : Eng) :
    (s.leaveSync e).offTraffic.ground = s.offTraffic.ground := by simp [State.leaveSync]

@[simp] theorem State.deliverFrame_ground (s : State) (e : Eng) (fn : BitVec 32) (good accepted : Bool) (f : RxFrame)
    (damaged : Bool) (tiles : List Bytes) :
    (s.deliverFrame e fn good accepted f damaged tiles).offTraffic.ground = s.offTraffic.ground := by
  unfold State.deliverFrame
  dsimp only
  (repeat' split) <;> simp [twinDrain_ground]

@[simp] theorem State.scSlot_ground (s : State) (e : Eng) (b : Byte) (valid : Bool) :
    (s.scSlot e b valid).offTraffic.ground = s.offTraffic.ground := by simp [State.scSlot]

@[simp] theorem State.silentFrame_ground (s : State) (e : Eng) :
    (s.silentFrame e).offTraffic.ground = s.offTraffic.ground := by simp [State.silentFrame]

/-! ## Weir and the supervisor pair -/

@[simp] theorem State.throttle_ground (s : State) (e : Eng) :
    (s.throttle e).offTraffic.ground = s.offTraffic.ground := by
  unfold State.throttle
  dsimp only
  split <;> simp

@[simp] theorem State.holdDark_ground (s : State) (e : Eng) (reason : Byte) :
    (s.holdDark e reason).offTraffic.ground = s.offTraffic.ground := by simp [State.holdDark]

@[simp] theorem State.unhold_ground (s : State) (e : Eng) :
    (s.unhold e).offTraffic.ground = s.offTraffic.ground := by simp [State.unhold]

@[simp] theorem State.resumeAuto_ground (s : State) :
    s.resumeAuto.offTraffic.ground = s.offTraffic.ground := by simp [State.resumeAuto]

@[simp] theorem State.dropRunning_ground (s : State) :
    s.dropRunning.offTraffic.ground = s.offTraffic.ground := by simp [State.dropRunning]

@[simp] theorem State.recall_ground (s : State) :
    s.recall.offTraffic.ground = s.offTraffic.ground := by simp [State.recall]

@[simp] theorem State.noteVote_ground (s : State) (votes : Vector Bool 3) :
    (s.noteVote votes).offTraffic.ground = s.offTraffic.ground := by
  unfold State.noteVote
  (repeat' split) <;> simp

@[simp] theorem State.takeOver_ground (s : State) (u : Fin 2) (cause : Byte) (duration : BitVec 16) :
    (s.takeOver u cause duration).offTraffic.ground = s.offTraffic.ground := by simp [State.takeOver]

@[simp] theorem State.takeoverComplete_ground (s : State) (duration : BitVec 16) :
    (s.takeoverComplete duration).offTraffic.ground = s.offTraffic.ground := by
  unfold State.takeoverComplete
  dsimp only
  split <;> simp

@[simp] theorem State.restored_ground (s : State) (x : Restore) (passes : Bool) (tenths : BitVec 16) :
    (s.restored x passes tenths).offTraffic.ground = s.offTraffic.ground := by
  unfold State.restored
  dsimp only
  split <;> simp

@[simp] theorem State.read_ground (s : State) (p : Hp) : (s.read p).offTraffic.ground = s.offTraffic.ground := by
  unfold State.read
  dsimp only
  split <;> simp

/-! ## Interval ends, the start and immediate effects -/

@[simp] theorem State.switchCheck_ground (s : State) (e : Eng) (old : Engine) :
    (s.switchCheck e old).offTraffic.ground = s.offTraffic.ground := by simp [State.switchCheck]

@[simp] theorem State.twinSwitch_ground (s : State) (e : Eng) :
    (s.twinSwitch e).offTraffic.ground = s.offTraffic.ground := by simp [State.twinSwitch]

@[simp] theorem State.longEngine_ground (s : State) (l : List LongMeasure) (e : Eng) :
    (s.longEngine l e).offTraffic.ground = s.offTraffic.ground := by
  unfold State.longEngine
  dsimp only
  split <;> simp

@[simp] theorem State.longReports_ground (s : State) (e : Eng) :
    (s.longReports e).offTraffic.ground = s.offTraffic.ground := by simp [State.longReports]

@[simp] theorem State.longGauge_ground (s : State) :
    s.longGauge.offTraffic.ground = s.offTraffic.ground := by simp [State.longGauge]

@[simp] theorem State.readStraps_ground (s : State) (rep : ReadyReport) :
    (s.readStraps rep).offTraffic.ground = s.offTraffic.ground := by simp [State.readStraps]

@[simp] theorem State.calibrateGauge_ground (s : State) :
    s.calibrateGauge.offTraffic.ground = s.offTraffic.ground := by simp [State.calibrateGauge]

@[simp] theorem State.recordTrip_ground (s : State) :
    s.recordTrip.offTraffic.ground = s.offTraffic.ground := by simp [State.recordTrip]

@[simp] theorem State.announceReady_ground (s : State) (time : BitVec 32) :
    (s.announceReady time).offTraffic.ground = s.offTraffic.ground := by simp [State.announceReady]

@[simp] theorem State.immediateEffect_ground (s : State) (x : Immediate) :
    (s.immediateEffect x).offTraffic.ground = s.offTraffic.ground := by
  unfold State.immediateEffect
  (repeat' split) <;> simp

@[simp] theorem State.immediateEffects_ground (s : State) :
    s.immediateEffects.offTraffic.ground = s.offTraffic.ground := by simp [State.immediateEffects]

@[simp] theorem State.depEndDue_ground (s : State) (e : Eng) :
    (s.depEndDue e).offTraffic.ground = s.offTraffic.ground := by
  unfold State.depEndDue
  split
  · unfold execDepEnd eventIf event
    dsimp only
    (repeat' split) <;> simp
  · rfl

/-! ## Operations that move the ground but not the commits -/

@[simp] theorem ite_commits (c : Prop) [Decidable c] (x y : Ground) :
    (if c then x else y).commits = if c then x.commits else y.commits := apply_ite _ _ _ _

@[simp] theorem foldl_ground_commits {α : Type} (l : List α) (f : State → α → State)
    (h : ∀ s x, (f s x).offTraffic.ground.commits = s.offTraffic.ground.commits) (s : State) :
    (l.foldl f s).offTraffic.ground.commits = s.offTraffic.ground.commits :=
  foldl_keeps (fun s => s.offTraffic.ground.commits) h l s

@[simp] theorem State.updEng_ground_commits (s : State) (e : Eng) (f : Engine → Engine) :
    (s.updEng e f).offTraffic.ground.commits = s.offTraffic.ground.commits := rfl

@[simp] theorem ground_commits_moved (s : State) (time : BitVec 48) (weir : WeirState) (engines : Vector Engine 4) :
    ({ s with moduleTime := time, weir := weir, engines := engines } : State).offTraffic.ground.commits =
      s.offTraffic.ground.commits := rfl

@[simp] theorem State.timebaseTick_ground_commits (s : State) :
    s.timebaseTick.offTraffic.ground.commits = s.offTraffic.ground.commits := by simp [State.timebaseTick]

@[simp] theorem State.takeEngine_ground_commits (s : State) (e : Eng) (classes : BitVec 16) (side : Option HeldSide) :
    (s.takeEngine e classes side).offTraffic.ground.commits = s.offTraffic.ground.commits := by simp [State.takeEngine]

@[simp] theorem State.applyLocal_ground_commits (s : State) (k : Commit) :
    (s.applyLocal k).offTraffic.ground.commits = s.offTraffic.ground.commits := by simp [State.applyLocal]

@[simp] theorem State.takeSide_ground_commits (s : State) (k : Commit) (e : Eng) (side : HeldSide) (first : Bool) :
    (s.takeSide k e side first).offTraffic.ground.commits = s.offTraffic.ground.commits := by
  unfold State.takeSide
  dsimp only
  (repeat' split) <;> simp

@[simp] theorem State.receive_ground_commits (s : State) (e : Eng) (samples : List Quad) :
    (s.receive e samples).offTraffic.ground.commits = s.offTraffic.ground.commits := by simp [State.receive]

@[simp] theorem State.readSensors_ground_commits (s : State) (temps : List (BitVec 16)) :
    (s.readSensors temps).offTraffic.ground.commits = s.offTraffic.ground.commits := by simp [State.readSensors]

@[simp] theorem State.readZone_ground_commits (s : State) (temps : List (Option Int)) (z : Fin 9) :
    (s.readZone temps z).offTraffic.ground.commits = s.offTraffic.ground.commits := by
  unfold State.readZone
  dsimp only
  split
  · rfl
  · rw [apply_ite State.offTraffic, State.raise_offTraffic, ite_self]
    rfl

@[simp] theorem State.readZones_ground_commits (s : State) :
    s.readZones.offTraffic.ground.commits = s.offTraffic.ground.commits := by simp [State.readZones]

@[simp] theorem State.shutdown_ground_commits (s : State) (z : Fin 9) (t : Int) :
    (s.shutdown z t).offTraffic.ground.commits = s.offTraffic.ground.commits := by simp [State.shutdown]

@[simp] theorem State.noteRise_ground_commits (s : State) :
    s.noteRise.offTraffic.ground.commits = s.offTraffic.ground.commits := rfl

@[simp] theorem State.shutdownDue_ground_commits (s : State) :
    s.shutdownDue.offTraffic.ground.commits = s.offTraffic.ground.commits := by simp [State.shutdownDue]

@[simp] theorem State.weirReading_ground_commits (s : State) (temps : List (BitVec 16)) :
    (s.weirReading temps).offTraffic.ground.commits = s.offTraffic.ground.commits := by simp [State.weirReading]

@[simp] theorem State.shortEngine_ground_commits (s : State) (l : List ShortMeasure) (e : Eng) :
    (s.shortEngine l e).offTraffic.ground.commits = s.offTraffic.ground.commits := by
  unfold State.shortEngine
  dsimp only
  split <;> simp

@[simp] theorem State.shortClients_ground_commits (s : State) :
    s.shortClients.offTraffic.ground.commits = s.offTraffic.ground.commits := rfl

@[simp] theorem State.fuseEffect_ground_commits (s : State) (f : FuseRow) :
    (s.fuseEffect f).offTraffic.ground.commits = s.offTraffic.ground.commits := by
  unfold State.fuseEffect
  dsimp only
  split <;> simp

@[simp] theorem State.fuseFault_ground_commits (s : State) (f : FuseRow) :
    (s.fuseFault f).offTraffic.ground.commits = s.offTraffic.ground.commits := by simp [State.fuseFault]

@[simp] theorem State.readFuse_ground_commits (s : State) (f : FuseRow) :
    (s.readFuse f).offTraffic.ground.commits = s.offTraffic.ground.commits := by
  unfold State.readFuse
  (repeat' split) <;> simp

@[simp] theorem State.readFuses_ground_commits (s : State) (rep : ReadyReport) :
    (s.readFuses rep).offTraffic.ground.commits = s.offTraffic.ground.commits := by simp [State.readFuses]

end Sys2Proof.Machine
end

section
/-! SUPPORT. No operation of the machine makes a commit pending: commits take effect, end, are confirmed, split or
dropped, and their number never grows (R79, R80, R95, R96). -/

namespace Sys2Proof.Machine

/-- The pending commits. -/
def State.waiting (s : State) : List Commit := s.offTraffic.ground.commits

/-- No more commits are pending in `t` than in `s`. -/
structure NoMore (s t : State) : Prop where
  le : t.waiting.length ≤ s.waiting.length

theorem NoMore.refl (s : State) : NoMore s s := ⟨Nat.le_refl _⟩

theorem NoMore.trans {s t u : State} (h1 : NoMore s t) (h2 : NoMore t u) : NoMore s u :=
  ⟨Nat.le_trans h2.le h1.le⟩

theorem noMore_of_commits {s t : State} (h : t.offTraffic.ground.commits = s.offTraffic.ground.commits) : NoMore s t :=
  ⟨Nat.le_of_eq (congrArg List.length h)⟩

theorem NoMore.keeping {s t u : State} (h : NoMore s t)
    (hc : u.offTraffic.ground.commits = t.offTraffic.ground.commits) : NoMore s u := h.trans (noMore_of_commits hc)

theorem NoMore.since {s t u : State} (h : NoMore t u)
    (hc : t.offTraffic.ground.commits = s.offTraffic.ground.commits) : NoMore s u := (noMore_of_commits hc).trans h

theorem noMore_of_map {s t : State} {f : Commit → Commit} (h : t.commits = s.commits.map f) : NoMore s t :=
  ⟨Nat.le_of_eq ((congrArg List.length h).trans (List.length_map f))⟩

theorem noMore_of_filter {s t : State} {p : Commit → Bool} (h : t.commits = s.commits.filter p) : NoMore s t :=
  ⟨Nat.le_trans (Nat.le_of_eq (congrArg List.length h)) (List.length_filter_le p _)⟩

theorem noMore_of_empty {s t : State} (h : t.commits = []) : NoMore s t :=
  ⟨Nat.le_trans (Nat.le_of_eq (congrArg List.length h)) (Nat.zero_le _)⟩

theorem noMore_ite {s t u : State} {c : Prop} [Decidable c] (h1 : NoMore s t) (h2 : NoMore s u) :
    NoMore s (if c then t else u) := by split <;> assumption

theorem foldl_noMore {α : Type} {f : State → α → State} (h : ∀ s x, NoMore s (f s x)) (l : List α)
    (s : State) : NoMore s (l.foldl f s) := by
  induction l generalizing s with
  | nil => exact .refl s
  | cons x xs ih => exact (h s x).trans (ih _)

/-! ## Time domains -/

theorem State.lateCommits_noMore (s : State) (old new : Nat) : NoMore s (s.lateCommits old new) :=
  noMore_of_map rfl

theorem State.stepDomain_noMore (s : State) (d : Fin 2) (amount : Int) (cause : Byte) :
    NoMore s (s.stepDomain d amount cause) := by
  unfold State.stepDomain
  extract_lets old t new u v
  have ht : t.offTraffic.ground.commits = s.offTraffic.ground.commits := rfl
  have hu : NoMore t u := noMore_ite (t.lateCommits_noMore _ _) (.refl t)
  exact (hu.since ht).keeping (by rw [State.tpoStep_offTraffic, State.raise_offTraffic])

theorem State.servoSteps_noMore (s : State) : NoMore s s.servoSteps := by
  refine foldl_noMore (fun s d => ?_) _ s
  split
  · exact .refl s
  · exact (State.stepDomain_noMore _ _ _ _).since rfl

theorem State.applyTdSet_noMore (s : State) (d : Fin 2) : NoMore s (s.applyTdSet d) := by
  unfold State.applyTdSet
  split
  · exact .refl s
  · exact (State.stepDomain_noMore _ _ _ _).since rfl

theorem State.tdSetsDue_noMore (s : State) : NoMore s s.tdSetsDue := by
  refine foldl_noMore (fun s d => ?_) _ s
  split
  · exact noMore_ite (.refl s) (s.applyTdSet_noMore d)
  · exact .refl s

/-! ## Commits that take effect or end -/

theorem State.setCommit_noMore (s : State) (k : Commit) : NoMore s (s.setCommit k) := noMore_of_map rfl

theorem State.endCommit_noMore (s : State) (k : Commit) (executed : Bool) : NoMore s (s.endCommit k executed) :=
  noMore_of_filter rfl

theorem State.runCommit_noMore (s : State) (k : Commit) : NoMore s (s.runCommit k) := by
  unfold State.runCommit
  extract_lets t live u
  have hu : u.offTraffic.ground.commits = s.offTraffic.ground.commits := by
    rw [State.applyLocal_ground_commits]
    dsimp only [t]
    split
    · rw [State.raise_offTraffic]
    · rfl
  exact ((u.endCommit_noMore k true).since hu).keeping (by rw [State.raise_offTraffic])

theorem State.settleCommit_noMore (s : State) (id : Nat) : NoMore s (s.settleCommit id) := by
  unfold State.settleCommit
  split
  · exact .refl s
  · split
    · extract_lets live t
      have ht : t.offTraffic.ground.commits = s.offTraffic.ground.commits := by
        dsimp only [t]
        split
        · refine congrArg Ground.commits (foldl_ground _ _ (fun s e => ?_) s)
          exact s.updEng_ground e _ fun _ => rfl
        · rfl
      exact ((t.endCommit_noMore _ true).since ht).keeping (by rw [State.raise_offTraffic])
    · exact .refl s

theorem State.pairTx_noMore (s : State) (k : Commit) : NoMore s (s.pairTx k) :=
  ((noMore_of_commits (by simp)).trans (State.setCommit_noMore _ _)).trans (State.settleCommit_noMore _ _)

theorem State.pairRx_noMore (s : State) (k : Commit) (e : Eng) : NoMore s (s.pairRx k e) := by
  unfold State.pairRx
  refine ((noMore_of_commits ?_).trans (State.setCommit_noMore _ _)).trans (State.settleCommit_noMore _ _)
  simp

theorem State.abstain_noMore (s : State) (k : Commit) (mismatch : Bool) (b : Byte) :
    NoMore s (s.abstain k mismatch b) :=
  noMore_of_filter (s.abstain_commits k mismatch b)

theorem State.atBoundary_noMore {f : State → State} (h : ∀ s, NoMore s (f s)) (s : State) :
    NoMore s (s.atBoundary f) :=
  ⟨(h { s with moduleTime := s.moduleTime + 1 }).le⟩

theorem State.atCommitBoundary_noMore (s : State) (id : Nat) : NoMore s (s.atCommitBoundary id) := by
  refine State.atBoundary_noMore (fun s => ?_) s
  split
  · exact noMore_ite (s.runCommit_noMore _) (.refl s)
  · exact .refl s

theorem State.atPairTx_noMore (s : State) (id : Nat) : NoMore s (s.atPairTx id) := by
  refine State.atBoundary_noMore (fun s => ?_) s
  split
  · exact noMore_ite (s.pairTx_noMore _) (.refl s)
  · exact .refl s

theorem State.pairRxDue_noMore (s : State) (id : Nat) : NoMore s (s.pairRxDue id) := by
  refine foldl_noMore (fun s e => ?_) _ s
  split
  · exact noMore_ite (s.pairRx_noMore _ e) (.refl s)
  · exact .refl s

theorem State.rxSwitches_noMore (s : State) (e : Eng) : NoMore s (s.rxSwitches e) :=
  foldl_noMore (fun s k => noMore_ite (s.pairRx_noMore k e) (.refl s)) _ s

/-! ## The handshake -/

theorem State.confirm_noMore (s : State) (k : Commit) : NoMore s (s.confirm k) := by
  exact (s.setCommit_noMore _).keeping (by rw [State.confirm, State.sendCann_ground])

theorem State.ackDeadline_noMore (s : State) (k : Commit) : NoMore s (s.ackDeadline k) := by
  unfold State.ackDeadline
  exact noMore_ite (s.confirm_noMore k) (noMore_ite (s.abstain_noMore k _ _) (s.abstain_noMore k _ _))

theorem State.splitCommit_noMore (s : State) (k : Commit) : NoMore s (s.splitCommit k) := by
  unfold State.splitCommit
  exact noMore_ite (.refl s) ((s.setCommit_noMore _).keeping (by rw [State.raise_offTraffic]))

theorem State.sendCack_noMore (s : State) (e : Eng) (token target : BitVec 32) (response : BitVec 4) :
    NoMore s (s.sendCack e token target response) := noMore_of_commits (by simp)

theorem State.acknowledge_noMore (s : State) (k : Commit) (e : Eng) (fnr target : BitVec 32) :
    NoMore s (s.acknowledge k e fnr target) :=
  (s.setCommit_noMore _).trans (foldl_noMore (fun s _ => s.sendCack_noMore _ _ _ _) _ _)

theorem State.onAnnounce_noMore (s : State) (e : Eng) (fnr : BitVec 32) (c : Cann) :
    NoMore s (s.onAnnounce e fnr c) := by
  unfold State.onAnnounce
  dsimp only
  split
  · exact noMore_ite (noMore_ite (.refl s) (s.acknowledge_noMore _ e _ _)) (s.sendCack_noMore _ _ _ _)
  · exact s.sendCack_noMore _ _ _ _
  · split
    · exact .refl s
    · have hc := s.sendCack_noMore e c.token 0 1
      split
      · exact hc
      · exact hc.keeping (by rw [State.raise_offTraffic]; rfl)

theorem State.onConfirm_noMore (s : State) (e : Eng) (fnr : BitVec 32) (c : Cann) :
    NoMore s (s.onConfirm e fnr c) := by
  unfold State.onConfirm
  split
  · exact noMore_ite (s.setCommit_noMore _) (.refl s)
  · exact .refl s

theorem State.disarm_noMore (s : State) (k : Commit) (token : BitVec 32) : NoMore s (s.disarm k token) :=
  noMore_of_commits (by simp)

theorem State.onAbort_noMore (s : State) (e : Eng) (c : Cann) : NoMore s (s.onAbort e c) := by
  unfold State.onAbort
  refine NoMore.trans (t := s.updEng e fun x => { x with deframer := { x.deframer with abortSeen := some c.token } })
    (noMore_of_commits rfl) ?_
  dsimp only
  split
  · refine noMore_ite (noMore_ite ?_ (State.abstain_noMore _ _ _ _)) (noMore_ite (State.sendCack_noMore _ _ _ _ _) ?_)
    · exact (State.splitCommit_noMore _ _).trans (State.sendCack_noMore _ _ _ _ _)
    · exact ((State.abstain_noMore _ _ _ _).trans (State.disarm_noMore _ _ _)).trans (State.sendCack_noMore _ _ _ _ _)
  · refine noMore_ite (State.sendCack_noMore _ _ _ _ _) ?_
    exact (State.sendCack_noMore _ _ _ _ _).trans (noMore_of_commits (by rw [State.raise_offTraffic]))

theorem State.onCann_noMore (s : State) (e : Eng) (fnr : BitVec 32) (c : Cann) : NoMore s (s.onCann e fnr c) := by
  unfold State.onCann
  extract_lets t
  have ht : t.offTraffic.ground.commits = s.offTraffic.ground.commits := by
    dsimp only [t]
    split <;> rfl
  refine NoMore.since (t := t) ?_ ht
  split
  · exact State.onAnnounce_noMore _ e fnr c
  · exact State.onConfirm_noMore _ e fnr c
  · exact State.onAbort_noMore _ e c
  · exact noMore_ite (.refl _) (State.sendCack_noMore _ _ _ _ _)

theorem State.onAck_noMore (s : State) (e : Eng) (k : Commit) (target : BitVec 32) : NoMore s (s.onAck e k target) := by
  unfold State.onAck
  exact (State.setCommit_noMore _ _).trans (noMore_ite (State.confirm_noMore _ _) (.refl _))

theorem State.onCack_noMore (s : State) (e : Eng) (c : Cack) : NoMore s (s.onCack e c) := by
  unfold State.onCack
  split
  · refine noMore_ite (.refl s) ?_
    split
    · exact s.setCommit_noMore _
    · exact s.setCommit_noMore _
    · exact s.onAck_noMore _ _ _
    · exact noMore_ite (s.splitCommit_noMore _) (noMore_ite (s.abstain_noMore _ _ _) (s.setCommit_noMore _))
    · exact .refl s
  · exact noMore_of_commits (by simp)

/-! ## Frames and tiles -/

theorem State.acceptFrame_noMore (s : State) (e : Eng) (f : RxFrame) (o : Overhead) :
    NoMore s (s.acceptFrame e f o) := by
  unfold State.acceptFrame
  refine NoMore.trans (NoMore.trans (noMore_of_commits ?_) (State.onCann_noMore _ _ _ _)) (State.onCack_noMore _ _ _)
  simp

theorem State.takeFrame_noMore (s : State) (e : Eng) (f : RxFrame) : NoMore s (s.takeFrame e f) := by
  unfold State.takeFrame
  extract_lets d ok fn good jumped x ohcOk omitted misses now next t u accepted v w
  have hu : NoMore s u := noMore_of_commits (by
    dsimp only [u]
    split
    · rw [State.raise_offTraffic]; rfl
    · rfl)
  have hv : NoMore s v := hu.trans (noMore_ite (u.acceptFrame_noMore e f _) (.refl u))
  have hw : NoMore s w := hv.trans (noMore_ite (noMore_of_commits (by simp)) (.refl v))
  exact hw.keeping (by rw [State.deliverFrame_ground])

theorem State.syncFrame_noMore (s : State) (e : Eng) (f : RxFrame) : NoMore s (s.syncFrame e f) := by
  unfold State.syncFrame
  refine noMore_ite (.refl s) (noMore_ite (s.rxSwitches_noMore e) (noMore_ite (.refl s) ?_))
  exact (s.rxSwitches_noMore e).trans (State.takeFrame_noMore _ _ _)

theorem State.frameRx_noMore (s : State) (e : Eng) (f : RxFrame) : NoMore s (s.frameRx e f) := by
  unfold State.frameRx
  refine noMore_ite (.refl s) ?_
  split
  · exact .refl s
  · exact noMore_of_commits (by simp)
  · exact s.syncFrame_noMore e f

theorem State.failTile_noMore (s : State) (e : Eng) : NoMore s (s.failTile e) := by
  unfold State.failTile
  extract_lets t code u v
  have hv : v.offTraffic.ground.commits = s.offTraffic.ground.commits := by simp [v, u, t]
  exact NoMore.since (foldl_noMore (fun s k => s.settleCommit_noMore _) _ v) hv

/-! ## The supervisor pair -/

theorem State.goHeadless_noMore (s : State) (u : Fin 2) (cause : Byte) : NoMore s (s.goHeadless u cause) :=
  noMore_of_empty (s.goHeadless_spec u cause).2.1

theorem State.declare_noMore (s : State) (cause : Byte) : NoMore s (s.declare cause) := by
  unfold State.declare
  extract_lets u t
  have ht : t.offTraffic.ground = s.offTraffic.ground := rfl
  split
  · exact State.goHeadless_noMore _ _ _ |>.since (congrArg Ground.commits ht)
  · exact noMore_of_commits (by simp [ht])

/-! ## Resets and supplies -/

theorem State.warmReset_noMore (s : State) (cause : Byte) : NoMore s (s.warmReset cause) := noMore_of_empty rfl
theorem State.powerUp_noMore (s : State) (cause : Byte) : NoMore s (s.powerUp cause) := noMore_of_empty rfl
theorem State.railsOff_noMore (s : State) : NoMore s s.railsOff := noMore_ite (noMore_of_empty rfl) (.refl s)

/-! ## The tick and the idle step -/

theorem State.tickWith_noMore {f : State → State} (h : ∀ s, NoMore s (f s)) (s : State) : NoMore s (s.tickWith f) := by
  unfold State.tickWith
  extract_lets t u v w x y
  have ht : t.offTraffic.ground.commits = s.offTraffic.ground.commits := s.timebaseTick_ground_commits
  have hu : NoMore t u := ((State.servoSteps_noMore _).since (by rw [State.advanceTime_offTraffic])).trans (h _)
  have hv : v.offTraffic.ground = u.offTraffic.ground :=
    foldl_ground _ _ (fun s p => by
      split
      · rfl
      · exact twinDrain_ground _ _ s) u
  have hw : w.offTraffic.ground.commits = v.offTraffic.ground.commits := rfl
  have hx : x.offTraffic.ground = w.offTraffic.ground := foldl_ground _ _ (fun s e => s.silentFrame_ground e) w
  have hy : y.offTraffic.ground = x.offTraffic.ground := foldl_ground _ _ (fun s e => s.beginFrames_ground e) x
  refine (hu.since ht).keeping ?_
  rw [State.drain_offTraffic]
  exact (congrArg _ (hy.trans hx)).trans (hw.trans (congrArg _ hv))

theorem State.deadlines_noMore (s : State) (id : Nat) : NoMore s (s.deadlines id) := by
  unfold State.deadlines
  extract_lets t
  have ht : NoMore s t := by
    dsimp only [t]
    split
    · exact noMore_ite (s.ackDeadline_noMore _) (.refl s)
    · exact .refl s
  refine ht.trans ?_
  split
  · exact noMore_ite (t.abstain_noMore _ _ _) (.refl t)
  · exact .refl t

theorem State.beforeTick_noMore (s : State) : NoMore s s.beforeTick := by
  unfold State.beforeTick
  extract_lets t u v
  have hstep (s : State) (id : Nat) : NoMore s ((s.atCommitBoundary id).atPairTx id) :=
    (s.atCommitBoundary_noMore id).trans (State.atPairTx_noMore _ id)
  have ht : t.offTraffic.ground = s.offTraffic.ground := by simp [t]
  have hu : u.offTraffic.ground.commits = t.offTraffic.ground.commits := by
    simp [u, State.atBoundary]
  refine NoMore.keeping ((foldl_noMore hstep u.commitIds u).since (hu.trans (congrArg _ ht))) ?_
  rw [State.erasePoints_ground]
  exact congrArg Ground.commits (State.atBoundary_ground _ _ State.immediateEffects_ground)

theorem State.withinPeriod_noMore (s : State) : NoMore s s.withinPeriod := by
  unfold State.withinPeriod
  extract_lets t second u v
  have ht : t.offTraffic.ground = s.offTraffic.ground := by simp [t]
  have hu : NoMore t u := by
    dsimp only [u]
    split
    · refine (foldl_noMore (fun s d => ?_) _ _).since (congrArg Ground.commits t.applyPending_ground)
      exact noMore_ite (s.applyTdSet_noMore d) (.refl s)
    · exact .refl t
  have hv : v.offTraffic.ground = u.offTraffic.ground := by simp [v]
  refine (hu.since (congrArg _ ht)).trans ?_
  split
  · exact noMore_of_commits ((congrArg _ v.passTick_ground).trans (congrArg _ hv))
  · exact noMore_of_commits (congrArg _ hv)

theorem State.afterTick_noMore (s : State) : NoMore s s.afterTick := by
  unfold State.afterTick
  have h := s.withinPeriod_noMore.trans (foldl_noMore State.deadlines_noMore s.commitIds s.withinPeriod)
  exact h.keeping (by simp)

theorem State.idle_noMore (s : State) : NoMore s s.idle := by
  unfold State.idle State.readyTick
  refine noMore_ite (noMore_ite (s.warmReset_noMore 3) ?_) (noMore_ite (noMore_of_commits (by simp)) (.refl s))
  exact (s.beforeTick_noMore.trans (State.tickWith_noMore State.tdSetsDue_noMore _)).trans (State.afterTick_noMore _)

end Sys2Proof.Machine
end

section
/-! At most sixteen commits are pending (R80): of all commands only SLUICE_COMMIT makes one pending, behind its check
for QUEUE-FULL. -/

namespace Sys2Proof.Machine

/-! ## Commands -/

/-- An answer's state, where it has one, has the same commits pending. -/
abbrev Answer.Quiet (s : State) (a : Answer) : Prop := a.Leads State.waiting (fun x y => y = x) s

/-- A command answers a next state in which no more commits are pending. -/
def Calm (o : Host.Outcome State Fault Refusal) (s : State) : Prop := ∃ t, o = .next t ∧ NoMore s t

theorem ignoresServing_waiting : IgnoresServing State.waiting where
  take s op r := by simp [State.waiting]
  conclude s op r st data := by simp [State.waiting]
  runOn s op r := by simp [State.waiting]

theorem opcode_quiet {op : BitVec 16} {v : Bool} {r : Request} {s : State} {body : State → Answer}
    (h : ∀ s, (body s).Quiet s) : Calm (opcode op v r s body) s := by
  obtain ⟨t, ht, hq⟩ := opcode_leads (Q := fun x y => y = x) (op := op) (v := v) (r := r) (s := s)
    ignoresServing_waiting rfl h
  exact ⟨t, ht, noMore_of_commits hq⟩

theorem opcode_calm {op : BitVec 16} {v : Bool} {r : Request} {s : State} {body : State → Answer}
    (h : ∀ s, (body s).Leads State.waiting (fun x y => y.length ≤ x.length) s) : Calm (opcode op v r s body) s := by
  obtain ⟨t, ht, hq⟩ := opcode_leads (Q := fun x y => y.length ≤ x.length) (op := op) (v := v) (r := r) (s := s)
    ignoresServing_waiting (Nat.le_refl _) h
  exact ⟨t, ht, ⟨hq⟩⟩

theorem next_calm {s t : State} (h : NoMore s t) : Calm (.next t) s := ⟨t, rfl, h⟩

theorem event_calm {s : State} {f : State → State} (h : ∀ s, NoMore s (f s)) : Calm (event s f) s := by
  unfold event
  split
  · exact next_calm (h s)
  · exact next_calm (.refl s)

theorem eventIf_calm {s : State} {c : Bool} {f : State → State} (h : ∀ s, NoMore s (f s)) :
    Calm (eventIf s c f) s := event_calm fun s => noMore_ite (h s) (.refl s)

theorem commitEvent_calm {s : State} {id : Nat} {due : State → Commit → Bool} {act : State → Commit → State}
    (h : ∀ s k, NoMore s (act s k)) : Calm (commitEvent id s due act) s := by
  refine event_calm fun s => ?_
  split
  · exact noMore_ite (h s _) (.refl s)
  · exact .refl s

/-! ## Batches (R309, R325) -/

theorem unwrapAll_offTraffic (p : Hp) (gate : KeySlot → Option Status) (es : List Bytes) (i : Nat) (s : State) :
    (s.unwrapAll p gate es i).1.offTraffic = s.offTraffic := by
  induction es generalizing s i with
  | nil => rfl
  | cons e es ih =>
    unfold State.unwrapAll
    dsimp only
    (repeat' split) <;> simp [ih]

theorem ctxReadWords_offTraffic (n : Nat) (ws : List Nat) (s : State) :
    (s.ctxReadWords n ws).1.offTraffic = s.offTraffic := by
  induction ws generalizing s with
  | nil => rfl
  | cons w ws ih =>
    unfold State.ctxReadWords
    dsimp only
    split <;> simp [ih]

theorem enact_quiet (r : Request) (ops : List FlowOp) {s t : State} (h : t.waiting = s.waiting) :
    (enact r t ops).Quiet s := by
  unfold enact
  dsimp only
  (repeat' split) <;> simpa [Answer.Leads, State.waiting] using h

theorem enactLoads_quiet (r : Request) (op : Bytes → FlowOp) (es : List Bytes) {s t : State}
    (h : t.waiting = s.waiting) : (enactLoads r op t es).Quiet s := by
  unfold enactLoads
  split
  · exact h
  · exact enact_quiet r _ h

theorem flowBatch_quiet (r : Request) (s : State) (named : Bool) (check : State → Bytes → Option Status)
    (apply : State → Bytes → State) (op : Bytes → FlowOp) : (flowBatch r s named check apply op).Quiet s := by
  have h (es : List Bytes) : (s.seekAll es).waiting = s.waiting := by simp [State.waiting]
  refine guards_leads _ (checkEach_leads _ _ _ (checkEach_leads _ _ _ (checkEach_leads _ _ _ (guards_leads _ ?_))))
  dsimp only
  split
  · exact h _
  · exact enact_quiet r _ (h _)

theorem ctxBatch_quiet {r : Request} {s : State} {size most : Nat} {bad tenant : Bytes → Bool}
    {check : State → Bytes → Option Status} {op : Bytes → FlowOp} {k : State → List Bytes → Answer}
    (hk : ∀ t es, t.waiting = s.waiting → (k t es).Quiet s) :
    (ctxBatch r s size most bad tenant check op k).Quiet s := by
  have h (es : List Bytes) : (s.touchAll es).waiting = s.waiting := by simp [State.waiting]
  refine guards_leads _ (checkEach_leads _ _ _ (checkEach_leads _ _ _ (checkEach_leads _ _ _ (guards_leads _ ?_))))
  dsimp only
  split
  · exact h _
  · exact hk _ _ (h _)

theorem keyBatch_quiet {r : Request} {s : State} {early late : List (Bool × Status)} {gate : KeySlot → Option Status}
    {k : State → List (Nat × KeyValue) → Answer} (hk : ∀ t vs, t.waiting = s.waiting → (k t vs).Quiet s) :
    (keyBatch r s early late gate k).Quiet s := by
  refine guards_leads _ (checkEach_leads _ _ _ (checkEach_leads _ _ _ (guards_leads _ ?_)))
  dsimp only
  split
  · trivial
  · have h : (s.unwrapAll r.port gate (batchEntries r 68) 0).1.waiting = s.waiting :=
      congrArg (fun s : State => s.ground.commits) (unwrapAll_offTraffic r.port gate (batchEntries r 68) 0 s)
    split
    · exact h
    · exact hk _ _ h

/-! ## Operations of single commands -/

theorem State.setTenancy_ground (s : State) (p : Hp) (t : Tenancy) :
    (s.setTenancy p t).offTraffic.ground = s.offTraffic.ground := by simp [State.setTenancy]

theorem State.takeEvents_ground (s : State) (p : Hp) (k : Nat) :
    (s.takeEvents p k).offTraffic.ground = s.offTraffic.ground := by
  unfold State.takeEvents
  dsimp only
  split <;> simp

theorem State.directed_ground {f : State → State} (h : ∀ s, (f s).offTraffic.ground = s.offTraffic.ground) (s : State)
    (p : Hp) (addr : BitVec 7) : (s.directed p addr f).offTraffic.ground = s.offTraffic.ground := by
  unfold State.directed
  (repeat' split) <;> simp [h]

theorem State.framed_ground {f : State → State} (h : ∀ s, (f s).offTraffic.ground = s.offTraffic.ground) (s : State)
    (p : Hp) (x : Xfer) (code : Byte) : (s.framed p x code f).offTraffic.ground = s.offTraffic.ground := by
  unfold State.framed
  (repeat' split) <;> simp [h]

/-- What SLUICE_DISCARD does to the engines: each one named drops the staged values of the classes (R90). -/
def State.discardEngines (s : State) (f : CommitForm) : State :=
  (List.finRange 4).foldl (fun s e => if f.engines.getLsbD e.val then
    s.stage e fun p => p.taking (s.eng e).params.active f.classes else s) s

/-- The rest of SLUICE_DISCARD reaches neither an engine nor a commit. -/
theorem State.discard_rest (s : State) (f : CommitForm) :
    ((s.discard f).commits, (s.discard f).engines) = ((s.discardEngines f).commits, (s.discardEngines f).engines) := by
  let g : State → List Commit × Vector Engine 4 := fun s => (s.commits, s.engines)
  have hcports (l : List Cp) (s : State) : g (l.foldl (fun s c => s.updCport c fun p =>
      { p with params := { p.params with staged := p.params.active } }) s) = g s :=
    foldl_keeps g (by intros; rfl) l s
  have hlanes (l : List LaneNo) (s : State) : g (l.foldl (fun s l => if f.engines.getLsbD (l.val / 16) then
      s.updLane l fun x => { x with eq := { x.eq with staged := x.eq.active } } else s) s) = g s :=
    foldl_keeps g (fun s l => by split <;> rfl) l s
  have hslots (l : List Nat) (s : State) :
      g (l.foldl (fun s n => s.setSlot n { s.slot n with staged := none }) s) = g s :=
    foldl_keeps g (by intros; rfl) l s
  have hc (c : Bool) (s t : State) (h : g t = g s) : g (if c then t else s) = g s := by
    split
    · exact h
    · rfl
  unfold State.discard
  extract_lets s1 _ s2 s3 _ s4 s5 _ _ s6 _ _ _ s7
  calc _ = g s7 := hc _ _ _ (by rfl)
    _ = g s6 := hc _ _ _ (by rfl)
    _ = g s5 := hc _ _ _ (by rfl)
    _ = g s4 := hc _ _ _ (hslots _ _)
    _ = g s3 := hc _ _ _ (by rfl)
    _ = g s2 := hc _ _ _ (hlanes _ _)
    _ = g s1 := hcports _ _

theorem State.discard_commits (s : State) (f : CommitForm) : (s.discard f).commits = s.commits :=
  (congrArg Prod.fst (s.discard_rest f)).trans (foldl_keeps State.commits (fun s e => by split <;> rfl) _ s)

theorem State.becomeReady_noMore (s : State) (rep : ReadyReport) : NoMore s (s.becomeReady rep) := by
  have howner (s : State) : s.readOwner.offTraffic.ground = s.offTraffic.ground := rfl
  exact noMore_of_commits (by simp [State.becomeReady, State.readRecords, howner])

theorem State.losesAux_noMore (s : State) : NoMore s s.losesAux := s.railsOff_noMore.keeping rfl

/-- The commands that are requests of the host ports (R53). -/
def isRequest : Instr → Bool
  | .portInfo _ | .portEcho _ | .tenancyGet _ | .wsInfo _ | .wsRead _ | .sluiceStatus _ | .txConfigRead _ |
    .txStatus _ | .rxConfigRead _ | .rxStatus _ | .rxMonitor _ | .rxCaptureRead _ | .calConfigRead _ | .calStatus _ |
    .calSliceRead _ | .calRecords _ | .fecConfigRead _ | .fecStatus _ | .profileRead _ | .frameConfigRead _ |
    .slotmapRead _ | .frameStatus _ | .cportRead _ | .laneEqRead _ | .synceRead _ | .laneStatus _ | .portStatus _ |
    .flowPortRead _ | .etypeRead _ | .sealConfigRead _ | .keyStatus _ | .portkeyStatus _ | .millraceStatus _ |
    .ownerStatus _ | .memConfigRead _ | .memStatus _ | .hwConfigRead _ | .hwPhaseStep _ | .hwStatus _ |
    .hwInputStatus _ | .tdConfigRead _ | .tdSet _ | .tdStatus _ | .ptpPortRead _ | .tpoWrite _ | .tpoRead _ |
    .captureRead _ | .tslogRead _ | .gaugeSeqRead _ | .gaugeStatus _ | .weirPolicyRead _ | .weirStatus _ |
    .weirSensorRead _ | .supStatus _ | .supRestore _ | .supConfigRead _ | .ctrConfigWrite _ | .ctrConfigRead _ |
    .ctrSnapshot _ | .frRead _ | .tagConfigWrite _ | .tagLogRead _ | .moduleReset _ | .resetInfo _ | .nvRead _ |
    .nvWrite _ | .txConfigWrite _ | .rxConfigWrite _ | .calConfigWrite _ | .fecConfigWrite _ | .profileWrite _ |
    .frameConfigWrite _ | .slotmapWrite _ | .etypeWrite _ | .cportWrite _ | .flowPortWrite _ | .ptpPortWrite _ |
    .laneEqWrite _ | .synceWrite _ | .sealConfigWrite _ | .hwConfigWrite _ | .tdConfigWrite _ | .gaugeSeqWrite _ |
    .gaugeCheckWrite _ | .memConfigWrite _ | .weirPolicyWrite _ | .supConfigWrite _ | .ownerProvision _ |
    .portConfig _ | .portReset _ | .txBiasHold _ | .rxCapture _ | .portkeyErase _ | .gaugeCalibrate _ | .supSwap _ |
    .flowLookup _ | .idChallenge _ | .memLogRead _ | .lanePower _ | .tenancySet _ | .eventRead _ | .sluiceDiscard _ |
    .rxReacquire _ | .clientLoopback _ | .prbsControl _ | .rxFreeze _ | .ctxFill _ | .keyErase _ | .portkeyLoad _ |
    .memWordRead _ | .memInject _ | .gaugeInject _ | .wsFind _ | .sluiceCommit _ | .sluiceCancel _ | .flowAdd _ |
    .flowDelete _ | .ctxLoad _ | .ctxReload _ | .ctxRekey _ | .keyLoad _ | .keyRewrite _ | .ctxRead _ |
    .gaugeResultRead _ | .ctrRead _ | .ctrClear _ => true
  | _ => false

/-- No request but SLUICE_COMMIT makes a commit pending (R79). -/
theorem exec_request_calm (c : Instr) (hc : isRequest c = true) (hn : ∀ r, c ≠ .sluiceCommit r) (s : State) :
    Calm (exec c s) s := by
  cases c with
  | portInfo | portEcho | tenancyGet | wsInfo | wsRead | sluiceStatus | txConfigRead | txStatus | rxConfigRead |
    rxStatus | rxMonitor | rxCaptureRead | calConfigRead | calStatus | calSliceRead | calRecords | fecConfigRead |
    fecStatus | profileRead | frameConfigRead | slotmapRead | frameStatus | cportRead | laneEqRead | synceRead |
    laneStatus | portStatus | flowPortRead | etypeRead | sealConfigRead | keyStatus | portkeyStatus |
    millraceStatus | ownerStatus | memConfigRead | memStatus | hwConfigRead | hwPhaseStep | hwStatus |
    hwInputStatus | tdConfigRead | tdSet | tdStatus | ptpPortRead | tpoWrite | tpoRead | captureRead | tslogRead |
    gaugeSeqRead | gaugeStatus | weirPolicyRead | weirStatus | weirSensorRead | supStatus | supRestore |
    supConfigRead | ctrConfigWrite | ctrConfigRead | ctrSnapshot | frRead | tagConfigWrite | tagLogRead |
    moduleReset | resetInfo | nvRead | nvWrite | txConfigWrite | rxConfigWrite | calConfigWrite | fecConfigWrite |
    profileWrite | frameConfigWrite |
    slotmapWrite | etypeWrite | cportWrite | flowPortWrite | ptpPortWrite | laneEqWrite | synceWrite |
    sealConfigWrite | hwConfigWrite | tdConfigWrite | gaugeSeqWrite | gaugeCheckWrite | memConfigWrite |
    weirPolicyWrite | supConfigWrite | ownerProvision =>
    unfold exec
    exact opcode_quiet fun s => guards_leads _ rfl
  | portConfig | portReset | txBiasHold | rxCapture | portkeyErase | gaugeCalibrate | supSwap | flowLookup |
    idChallenge | memLogRead | lanePower =>
    unfold exec
    exact opcode_quiet fun s => guards_leads _ (by simp [answer, Answer.Leads, State.waiting])
  | tenancySet =>
    exact opcode_quiet fun s => guards_leads _ (congrArg Ground.commits (s.setTenancy_ground _ _))
  | eventRead =>
    exact opcode_quiet fun s => guards_leads _ (congrArg Ground.commits (s.takeEvents_ground _ _))
  | sluiceDiscard => exact opcode_quiet fun s => guards_leads _ (s.discard_commits _)
  | rxReacquire | clientLoopback | prbsControl | rxFreeze =>
    unfold exec
    refine opcode_quiet fun s => guards_leads _ (guards_leads _ ?_)
    (repeat' split) <;> simp [Answer.Leads, State.waiting]
  | ctxFill | keyErase | portkeyLoad | memWordRead | memInject | gaugeInject =>
    unfold exec
    refine opcode_quiet fun s => guards_leads _ ?_
    dsimp only
    (repeat' split) <;> simp [Answer.Leads, State.waiting]
  | wsFind =>
    unfold exec
    refine opcode_quiet fun s => guards_leads _ ?_
    split
    · trivial
    · rfl
  | sluiceCancel =>
    unfold exec
    refine opcode_calm fun s => guards_leads _ ?_
    split
    · refine guards_leads _ (NoMore.le ?_)
      exact noMore_ite (s.abstain_noMore _ _ _) ((s.endCommit_noMore _ _).keeping (by rw [State.raise_offTraffic]))
    · split
      · exact guards_leads _ trivial
      · trivial
  | flowAdd | flowDelete =>
    unfold exec
    exact opcode_quiet fun s => flowBatch_quiet _ s _ _ _ _
  | ctxLoad =>
    unfold exec
    exact opcode_quiet fun s => ctxBatch_quiet fun t es => enactLoads_quiet _ _ _
  | ctxReload =>
    unfold exec
    exact opcode_quiet fun s => guards_leads _ (ctxBatch_quiet fun t es => enactLoads_quiet _ _ _)
  | ctxRekey =>
    unfold exec
    refine opcode_quiet fun s => ctxBatch_quiet fun t es h => ?_
    split
    · exact h
    · exact enact_quiet _ _ h
  | keyLoad =>
    unfold exec
    refine opcode_quiet fun s => keyBatch_quiet fun t vs h => ?_
    simpa [Answer.Leads, State.waiting] using h
  | keyRewrite =>
    unfold exec
    refine opcode_quiet fun s => ?_
    unfold keyRewriteBody
    refine keyBatch_quiet fun t vs h => guards_leads _ ?_
    simpa [Answer.Leads, State.waiting] using h
  | ctxRead =>
    unfold exec
    refine opcode_quiet fun s => guards_leads _ ?_
    dsimp only
    split <;> exact congrArg (fun s : State => s.ground.commits) (ctxReadWords_offTraffic _ _ _)
  | gaugeResultRead =>
    unfold exec
    refine opcode_quiet fun s => guards_leads _ ?_
    simp [answer, Answer.Leads, State.waiting]
  | ctrRead =>
    unfold exec
    refine opcode_quiet fun s => guards_leads _ ?_
    split
    · trivial
    · exact guards_leads _ rfl
  | ctrClear r =>
    unfold exec
    refine opcode_quiet fun s => guards_leads _ ?_
    have h (mine : Nat → Nat → Bool) : (s.clearViews r.port mine).waiting = s.waiting := by simp [State.waiting]
    (repeat' split)
    · exact h _
    · trivial
    · exact guards_leads _ (h _)
  | sluiceCommit r => exact absurd rfl (hn r)
  | _ => exact Bool.noConfusion hc

/-- Nothing but a request makes a commit pending. -/
theorem exec_event_calm (c : Instr) (hc : isRequest c = false) (s : State) : Calm (exec c s) s := by
  cases c with
  | requestPacket | cccEntdaa | cccSetdasa | cccSetnewda | cccRstdaa | cccEnec | cccDisec | cccGetpid
    | cccGetbcr | cccGetdcr | cccGetstatus | cccGetmwl | cccGetmrl | cccSetmwl | cccSetmrl | cccEnthdr0 | cccOther
    | channelTrainingDone | channelTrainingFail | memSweepDone | ovenStable =>
    unfold exec
    exact next_calm (noMore_of_commits (by simp))
  | calApply | contextFetchDone | millraceAdmit | graceExpiry |
    keyErasePoint | gaugeCalDone | gbConversionEnd | weirReading | voterDisagree |
    shortIntervalEnd | longIntervalEnd =>
    unfold exec
    exact event_calm fun s => noMore_of_commits (by simp)
  | ctrSnapshotTick | immediateEffectBoundary =>
    unfold exec
    exact event_calm (State.atBoundary_noMore fun s => noMore_of_commits (by simp))
  | commitBoundary => exact event_calm fun s => s.atCommitBoundary_noMore _
  | pairedTxSwitch => exact event_calm fun s => s.atPairTx_noMore _
  | pairedRxSwitch => exact event_calm fun s => s.pairRxDue_noMore _
  | replyRead p addr x =>
    refine next_calm (noMore_of_commits (congrArg Ground.commits ?_))
    exact State.directed_ground (fun s => State.framed_ground (fun s => s.read_ground p) s p x _) s p addr
  | frameTransmit => exact next_calm (noMore_ite (State.tickWith_noMore (fun s => .refl s) s)
      (noMore_ite (noMore_of_commits s.timebaseTick_ground_commits) (.refl s)))
  | ibiRepeat | lockerLocked | biasAcquired | txReady | depEnd | txQuenched | laserFault | txPowerFault | losTimer
    | lightTimer | freqEstimated | timingLock | timingLockLost | cmaConverged | carrierLockLost | rxStateTimeout |
    tapUpdate | calIntervalEnd | scSlot | clientFrameRx | portFailDetect | portFailClearTimer | lineEgressFrame |
    inputQualifyTimer | inputLoss | buildOutWindowEnd | hwLockDeclared | wtrExpiry
    | refoutRestart | syncLossTimeout | tpoEdge | decimatorReset | gaCycleStart | gbPassTick | weirReleaseTimer |
    autoRestoreTimer | phaseStepApply | phaseSlewEnd | outputTimeSlewEnd | journalRecordFail | takeoverComplete |
    prbsCheckerLock | prbsCheckerRelock | ppsOutEdge =>
    unfold exec
    exact eventIf_calm fun s => noMore_of_commits (by simp)
  | tileLinkFail => exact eventIf_calm fun s => s.failTile_noMore _
  | tdSetApply => exact eventIf_calm fun s => s.applyTdSet_noMore _
  | supParityFault | supIllegalState => exact eventIf_calm fun s => s.declare_noMore _
  | refereeWindow =>
    unfold exec
    refine eventIf_calm fun s => ?_
    extract_lets votes last t
    have ht : NoMore s t := noMore_of_commits (by simp [t])
    refine ht.trans (noMore_ite (noMore_of_commits rfl) (noMore_ite (t.declare_noMore _) (noMore_of_commits rfl)))
  | rxCaptureDone | laneFrameRx | ctxFillDone | keyRewriteGraceEnd | keyEraseDone =>
    unfold exec
    refine event_calm fun s => noMore_of_commits ?_
    split <;> simp
  | frameReceive =>
    unfold exec
    refine event_calm fun s => ?_
    split
    · exact .refl s
    · exact s.frameRx_noMore _ _
  | clientOrderedSetRx | laneAdaptDone | ptpEventMessage =>
    unfold exec
    refine eventIf_calm fun s => noMore_of_commits ?_
    split <;> simp
  | pilotFound | calMeasureDone | dacCalStepDone | decoderAdvance | eddyRead =>
    unfold exec
    refine eventIf_calm fun s => noMore_of_commits ?_
    dsimp only
    (repeat' split) <;> simp
  | cdSearchPassEnd | groupHuntDone =>
    unfold exec
    refine eventIf_calm fun s => noMore_of_commits ?_
    (repeat' split) <;> simp
  | ackDeadline =>
    unfold exec
    exact commitEvent_calm fun s k => s.ackDeadline_noMore k
  | responderTarget =>
    unfold exec
    exact commitEvent_calm fun s k => s.abstain_noMore k _ _
  | ownerProvisionDone =>
    unfold exec
    refine event_calm fun s => noMore_of_commits ?_
    split
    · rfl
    · dsimp only
      rw [State.cmdDone_offTraffic]
      rfl
  | mergeRetire =>
    unfold exec execMergeRetire
    refine event_calm fun s => noMore_of_commits ?_
    (repeat' split) <;> simp
  | holdoverSecond =>
    show Calm (execHoldoverSecond s) s
    unfold execHoldoverSecond
    split
    · exact next_calm (noMore_of_commits rfl)
    · exact eventIf_calm fun s => noMore_of_commits (by simp)
  | captureEdge | swapWindowEnd | restoreComplete =>
    unfold exec
    refine event_calm fun s => noMore_of_commits ?_
    (repeat' split) <;> simp
  | nvWriteDone =>
    unfold exec
    refine event_calm fun s => ?_
    split
    · exact noMore_of_commits (by simp [State.nvDone])
    · exact .refl s
  | moduleReady => exact next_calm (noMore_ite (s.becomeReady_noMore _) (.refl s))
  | powerOnTrigger => exact next_calm (noMore_ite (noMore_of_empty rfl) (.refl s))
  | supplyLoss aux =>
    refine next_calm (noMore_ite (noMore_ite s.losesAux_noMore (.refl s)) (noMore_ite ?_ (.refl s)))
    exact s.railsOff_noMore.keeping rfl
  | hardwiredTrip => exact next_calm (noMore_ite (s.railsOff_noMore.keeping rfl) (.refl s))
  | tripLatchRelease =>
    refine next_calm (noMore_ite ?_ (.refl s))
    exact noMore_ite ((State.powerUp_noMore _ 4).since rfl) (noMore_of_commits rfl)
  | resetNDeassert =>
    refine next_calm (noMore_ite ?_ (.refl s))
    exact noMore_ite ((State.warmReset_noMore _ 2).since rfl) (noMore_of_commits rfl)
  | moduleResetBegin => exact eventIf_calm fun s => s.warmReset_noMore 3
  | resetNAssert | vioLoss | vioRestored =>
    exact next_calm (noMore_of_commits rfl)
  | tapReset | jtagBypass | jtagIdcode | jtagSamplePreload | jtagExtest | jtagClamp | jtagHighz | p3v3AuxApplied
    =>
    exact next_calm (by split <;> exact noMore_of_commits rfl)
  | _ => exact Bool.noConfusion hc

/-! ## SLUICE_COMMIT behind its checks (R53, R79, R80, R88) -/

theorem State.takeRequest_holdsCtx (s : State) (op : BitVec 16) (r : Request) (p : Hp) :
    (s.takeRequest op r).holdsCtx p = s.holdsCtx p := by
  funext n m
  simp [State.holdsCtx]

theorem State.takeRequest_holdsKs (s : State) (op : BitVec 16) (r : Request) (p : Hp) :
    (s.takeRequest op r).holdsKs p = s.holdsKs p := by
  funext n m
  simp [State.holdsKs]

theorem State.takeRequest_holdsPort (s : State) (op : BitVec 16) (r : Request) (p : Hp) :
    (s.takeRequest op r).holdsPort p = s.holdsPort p := by
  have hengines : (s.takeRequest op r).cportEngines = s.cportEngines := rfl
  funext c
  simp [State.holdsPort, State.holdsCport, hengines]

theorem State.takeRequest_scopeOutside (s : State) (op : BitVec 16) (r : Request) (p : Hp) (f : CommitForm) :
    (s.takeRequest op r).scopeOutside p f = s.scopeOutside p f := by
  have hslots : (s.takeRequest op r).tokenSlots = s.tokenSlots := rfl
  unfold State.scopeOutside State.tokenOutside
  simp only [takeRequest_holdsEngine, State.takeRequest_holdsCtx, State.takeRequest_holdsPort,
    State.takeRequest_holdsKs, State.takeRequest_flows, hslots]

theorem CommitFormed.takeRequest {r : Request} {s : State} (h : CommitFormed r s) (op : BitVec 16) (q : Request) :
    CommitFormed r (s.takeRequest op q) := by
  simpa [CommitFormed, State.takeRequest_scopeOutside, State.strangers] using h

theorem Unopposed.takeRequest {f : CommitForm} {s : State} (h : Unopposed f s) (op : BitVec 16) (r : Request) :
    Unopposed f (s.takeRequest op r) := h

/-- The answer to a group that passes the checks of form, principal, range, tenancy and fit: BUSY where it is opposed,
then QUEUE-FULL, AT_TIME's NOT-READY, validation and PAST (log 34). -/
theorem sluiceCommitBody_formed {r : Request} {s : State} (h : CommitFormed r s) :
    sluiceCommitBody r s =
      let f := parseCommit r.params
      guards [
        (s.commits.any f.overlaps, .busy),
        (f.isPaired && s.commits.any (fun k => k.paired && k.engines &&& f.engines != 0), .busy),
        (f.trigger != 0 && s.commits.length ≥ 16, .queueFull),
        (f.trigger == 3 && !(s.domain 0).everLocked, .notReady)]
        (match s.validate f.classes f.engines f.token with
          | some st => .fail st []
          | none => guards [(s.leadFault r.params f, .past)] (s.acceptCommit r f)) := by
  obtain ⟨hbad, hprincipal, href, hstrangers, hhas, htime, hscope, hfit⟩ := h
  have hp : ((parseCommit r.params).principalOnly && r.port != 0) = false := by
    cases hc : (parseCommit r.params).principalOnly <;> simp [hprincipal, hc]
  have hrange : (decide ((parseCommit r.params).ref > 3) || s.strangers (parseCommit r.params)
      || !s.hasEngine (parseCommit r.params).ref || decide (field r.params 22 4 > 999999999)) = false := by
    simp [hstrangers, hhas]
    omega
  unfold sluiceCommitBody
  dsimp only
  rw [hbad, hp, hrange, hscope, hfit]
  rfl

/-- A group that no pending commit stands against passes the two checks for BUSY. -/
theorem sluiceCommitBody_unopposed {r : Request} {s : State} (h : CommitFormed r s)
    (hu : Unopposed (parseCommit r.params) s) :
    sluiceCommitBody r s =
      let f := parseCommit r.params
      guards [
        (f.trigger != 0 && s.commits.length ≥ 16, .queueFull),
        (f.trigger == 3 && !(s.domain 0).everLocked, .notReady)]
        (match s.validate f.classes f.engines f.token with
          | some st => .fail st []
          | none => guards [(s.leadFault r.params f, .past)] (s.acceptCommit r f)) := by
  obtain ⟨hscopes, hpairs⟩ := hu
  have hany : s.commits.any (parseCommit r.params).overlaps = false := by simpa using hscopes
  have hpaired : ((parseCommit r.params).isPaired &&
      s.commits.any fun k => k.paired && k.engines &&& (parseCommit r.params).engines != 0) = false := by
    cases hc : (parseCommit r.params).isPaired with
    | false => rfl
    | true => simpa using hpairs hc
  rw [sluiceCommitBody_formed h]
  dsimp only
  rw [hany, hpaired]
  rfl

/-- An accepted commit is pending after all others, and moves nothing else of the ground. -/
theorem acceptCommit_real {s : State} (r : Request) {f : CommitForm} (hreal : f.trigger ≠ 0) :
    ∃ t, s.acceptCommit r f =
        .ok .ok (s.commitReply (s.newCommit r f).id (s.newCommit r f).state f.ref) t ∧
      t.offTraffic.ground = { s.ground with commits := s.commits ++ [s.newCommit r f] } := by
  unfold State.acceptCommit
  rw [if_neg (by simpa using hreal)]
  extract_lets k t u
  have ht : t.offTraffic.ground = { s.ground with commits := s.commits ++ [k] } := rfl
  have hu : u.offTraffic.ground = t.offTraffic.ground := by
    dsimp only [u]
    split
    · exact t.retireToken_ground _
    · rfl
  have hreply : u.commitReply = s.commitReply := by
    dsimp only [u]
    split <;> rfl
  refine ⟨_, by rw [hreply], ?_⟩
  split
  · exact (u.startPair_ground k).trans (hu.trans ht)
  · exact hu.trans ht

/-- Where at most 16 commits were pending, at most 16 are (R80). -/
def Room (x y : List Commit) : Prop := x.length ≤ 16 → y.length ≤ 16

theorem acceptCommit_room {s : State} (r : Request) {f : CommitForm}
    (h : f.trigger ≠ 0 → s.commits.length < 16) : (s.acceptCommit r f).Leads State.waiting Room s := by
  by_cases hdry : f.trigger = 0
  · unfold State.acceptCommit
    rw [if_pos (by simp [hdry])]
    exact id
  · obtain ⟨t, ht, hground⟩ := acceptCommit_real (s := s) r hdry
    have hwaiting : t.waiting = s.commits ++ [s.newCommit r f] := congrArg Ground.commits hground
    rw [ht]
    intro _
    rw [hwaiting, List.length_append]
    exact h hdry

theorem sluiceCommitBody_room (r : Request) (s : State) : (sluiceCommitBody r s).Leads State.waiting Room s := by
  refine guards_leads_of_pass _ fun hpass => ?_
  split
  · trivial
  · refine guards_leads _ (acceptCommit_room r fun hreal => ?_)
    have hfull := hpass (((parseCommit r.params).trigger != 0 && decide (s.commits.length ≥ 16)), .queueFull) (by simp)
    exact (by simpa using hfull : ¬(parseCommit r.params).trigger = 0#8 → s.commits.length < 16) hreal

theorem exec_room (c : Instr) {s t : State} (h : exec c s = .next t) (hs : s.commits.length ≤ 16) :
    t.commits.length ≤ 16 := by
  have of_calm (hcalm : Calm (exec c s) s) : t.commits.length ≤ 16 := by
    obtain ⟨u, hu, hle⟩ := hcalm
    cases h.symm.trans hu
    exact Nat.le_trans hle.le hs
  cases hreq : isRequest c with
  | false => exact of_calm (exec_event_calm c hreq s)
  | true =>
    by_cases hc : ∃ r, c = .sluiceCommit r
    · obtain ⟨r, rfl⟩ := hc
      obtain ⟨u, hu, hroom⟩ := opcode_leads (Q := Room) (op := 0x0301) (v := false) (r := r) (s := s)
        ignoresServing_waiting id fun s => sluiceCommitBody_room r s
      cases h.symm.trans hu
      exact hroom hs
    · exact of_calm (exec_request_calm c hreq (fun r hr => hc ⟨r, hr⟩) s)

theorem step_room {s t : State} (h : step s = .next t) (hs : s.commits.length ≤ 16) : t.commits.length ≤ 16 := by
  unfold step at h
  split at h
  next c rest _ => exact exec_room c h hs
  · unfold stepIdle at h
    split at h
    next op r _ =>
      unfold stepRequest at h
      split at h
      next c _ => exact exec_room c h hs
      · have hcalm : Calm (opcode op true r (s.turnTo r.port) fun _ => .fail .unknownOpcode []) (s.turnTo r.port) :=
          opcode_quiet fun _ => trivial
        obtain ⟨u, hu, hle⟩ := hcalm
        cases h.symm.trans hu
        exact Nat.le_trans hle.le hs
    · cases h
      exact Nat.le_trans s.idle_noMore.le hs

/-- Settles O17: only SLUICE_COMMIT makes a commit pending, and it does so behind the check for QUEUE-FULL. -/
theorem atMostSixteenCommitsPending : Obligations.AtMostSixteenCommitsPending := by
  refine ⟨fun s t hs h => step_room h hs, fun r s hx hform hfree hreal hfull => opcode_fail hx ?_⟩
  rw [sluiceCommitBody_unopposed (hform.takeRequest _ r) (hfree.takeRequest _ r)]
  exact guards_first (by simpa [hfull] using hreal)

end Sys2Proof.Machine
end

section
/-! The opcodes of Sluice (R79, R81, R84, R88 to R91): what a commit, a cancel, a discard and a status read do behind
their checks, and BUSY in a held scope. -/

namespace Sys2Proof.Machine

/-! ## A staged write into a held scope (R79) -/

/-- A request whose checks come down to one that fails is answered with its status. -/
theorem opcode_behind {op : BitVec 16} {r : Request} {s : State} {body : State → Answer} {c : Bool} {st : Status}
    {l : List (Bool × Status)} {a : Answer} (hx : Executes false r s)
    (hb : body (s.takeRequest op r) = guards ((c, st) :: l) a) (hc : c = true) :
    opcode op false r s body = answered op r st [] (s.takeRequest op r) :=
  opcode_fail hx (hb.trans (guards_first hc))

section
variable {r : Request} {s : State} {e : Eng} (hx : Executes false r s)
include hx

theorem txConfigWrite_held (hn : NamesEngine r s e 32) (hz : zeroAt r.params 1 3 = true)
    (hr : txRangeOk s.ident.variant (parseTx r.params) = true) (hheld : s.holdsScope 4 e.val = true) :
    Fails 0x0401 .txConfigWrite r s .busy :=
  opcode_behind hx (txConfigWriteBody_formed (hn.takeRequest _ r) hz hr) hheld

theorem profileWrite_held (hn : NamesEngine r s e 8) (hz : zeroAt r.params 1 3 = true)
    (hp : badProfile (field r.params 4 4) = false) (hheld : s.holdsScope 0 e.val = true) :
    Fails 0x0801 .profileWrite r s .busy :=
  opcode_behind hx (profileWriteBody_formed (hn.takeRequest _ r) hz hp) hheld

theorem slotmapWrite_held (hn : NamesEngine r s e 132) (hz : zeroAt r.params 2 2 = true)
    (hlanes : ∀ b ∈ slice r.params 4 128, b.toNat ≤ s.laneCount) (hgen : (parseMap r.params).mapgen.toNat ≤ 15)
    (hheld : s.holdsScope 1 e.val = true) : Fails 0x0805 .slotmapWrite r s .busy :=
  opcode_behind hx (slotmapWriteBody_formed (hn.takeRequest _ r) hz hlanes hgen) hheld

theorem sluiceCommit_overlapping (hform : CommitFormed r s)
    (hover : ∃ k ∈ s.commits, (parseCommit r.params).overlaps k = true) : Fails 0x0301 .sluiceCommit r s .busy :=
  opcode_behind hx (sluiceCommitBody_formed (hform.takeRequest _ r)) (List.any_eq_true.mpr hover)

end

/-! ## The number of an accepted commit (R88; log 34) -/

/-- Of the numbers 1 to 16, one is free while fewer than 16 commits are pending. -/
theorem exists_free_number {s : State} (h : s.commits.length < 16) :
    ∃ i, 1 ≤ i ∧ i ≤ 16 ∧ ∀ k ∈ s.commits, k.id ≠ i := by
  by_contra hall
  push Not at hall
  have hsub : Finset.Icc 1 16 ⊆ (s.commits.map Commit.id).toFinset := fun i hi => by
    obtain ⟨k, hk, hid⟩ := hall i (Finset.mem_Icc.mp hi).1 (Finset.mem_Icc.mp hi).2
    exact List.mem_toFinset.mpr (List.mem_map.mpr ⟨k, hk, hid⟩)
  have hcard := (Finset.card_le_card hsub).trans (List.toFinset_card_le _)
  simp only [Nat.card_Icc, List.length_map] at hcard
  omega

/-- The number of a new commit is the lowest one from 1 to 16 that no pending commit has. -/
theorem State.freeCommitId_spec {s : State} (h : s.commits.length < 16) :
    1 ≤ s.freeCommitId ∧ s.freeCommitId ≤ 16 ∧ (∀ k ∈ s.commits, k.id ≠ s.freeCommitId) ∧
      ∀ i, 1 ≤ i → i < s.freeCommitId → ∃ k ∈ s.commits, k.id = i := by
  unfold State.freeCommitId
  obtain ⟨j, hj1, hj16, hj⟩ := exists_free_number h
  cases hf : (List.range 16).find? ((fun i => s.commits.all fun k => k.id != i) ∘ (· + 1)) with
  | none =>
    rw [List.find?_eq_none] at hf
    exact absurd (by simpa [Nat.sub_add_cancel hj1] using hj) (hf (j - 1) (List.mem_range.mpr (by omega)))
  | some i =>
    obtain ⟨hfree, hi, hlow⟩ := List.find?_range_eq_some.mp hf
    rw [List.find?_map, hf]
    refine ⟨Nat.le_add_left 1 i, List.mem_range.mp hi, by simpa using hfree, fun n hn hni => ?_⟩
    have hn' := hlow (n - 1) (by simp at hni; omega)
    simpa [Nat.sub_add_cancel hn] using hn'

/-! ## An accepted commit (R79, R84, R88) -/

/-- A group passes every check of SLUICE_COMMIT (R79, R80, R84, R86, R88). -/
structure Acceptable (r : Request) (s : State) : Prop where
  form : CommitFormed r s
  unopposed : Unopposed (parseCommit r.params) s
  room : s.commits.length < 16
  time : (parseCommit r.params).trigger = 3 → (s.domain 0).everLocked = true
  valid : s.validate (parseCommit r.params).classes (parseCommit r.params).engines (parseCommit r.params).token = none
  lead : s.leadFault r.params (parseCommit r.params) = false

theorem Acceptable.takeRequest {r : Request} {s : State} (h : Acceptable r s) (op : BitVec 16) (q : Request) :
    Acceptable r (s.takeRequest op q) where
  form := h.form.takeRequest op q
  unopposed := h.unopposed
  room := h.room
  time := h.time
  valid := h.valid
  lead := h.lead

theorem Acceptable.body {r : Request} {s : State} (h : Acceptable r s) :
    sluiceCommitBody r s = s.acceptCommit r (parseCommit r.params) := by
  obtain ⟨hform, hfree, hroom, htime, hvalid, hlead⟩ := h
  have hready : ((parseCommit r.params).trigger == 3 && !(s.domain 0).everLocked) = false := by
    cases ht : (parseCommit r.params).trigger == 3 with
    | false => rfl
    | true => simp [htime (by simpa using ht)]
  have hfull : ((parseCommit r.params).trigger != 0 && decide (s.commits.length ≥ 16)) = false := by simp [hroom]
  rw [sluiceCommitBody_unopposed hform hfree]
  dsimp only
  rw [hfull, hready, hvalid, hlead]
  rfl

theorem sluiceCommit_validates {r : Request} {s : State} (hx : Executes false r s) (h : Acceptable r s)
    (hdry : (parseCommit r.params).trigger = 0) :
    Reads 0x0301 .sluiceCommit r s fun s =>
      [0, 0, 0, 0] ++ be 4 (s.eng (engOf (parseCommit r.params).ref)).tx.fn := by
  refine opcode_ok hx ((h.takeRequest _ r).body.trans ?_)
  unfold State.acceptCommit
  rw [if_pos (by simp [hdry])]
  rfl

/-- A pending commit holds the scope of each of its classes on each of its engines (R79). -/
theorem holdsScope_of_mem {s : State} {k : Commit} (hk : k ∈ s.commits) {c e : Nat} (hc : k.classes.getLsbD c = true)
    (he : k.engines.getLsbD e = true) : s.holdsScope c e = true :=
  List.any_eq_true.mpr ⟨k, hk, by rw [hc, he]; rfl⟩

theorem sluiceCommit_accepts {r : Request} {s : State} (hx : Executes false r s) (h : Acceptable r s)
    (hreal : (parseCommit r.params).trigger ≠ 0) :
    ∃ k t, exec (.sluiceCommit r) s = answered 0x0301 r .ok ([byte k.id, k.state, 0, 0]
        ++ be 4 (s.eng (engOf (parseCommit r.params).ref)).tx.fn) t ∧
      k = s.newCommit r (parseCommit r.params) ∧ t.commits = s.commits ++ [k] ∧
      ∀ e, (t.eng e).params = (s.eng e).params := by
  obtain ⟨t, ht, hground⟩ := acceptCommit_real r hreal (s := s.takeRequest 0x0301 r)
  refine ⟨_, t, opcode_ok hx ((h.takeRequest _ r).body.trans ht), rfl, congrArg Ground.commits hground, fun e => ?_⟩
  exact congrArg (fun g => (g.sides e).params) hground

/-! ## Commits by number -/

theorem State.commitOf_none {s t : State} {id : Nat} (h : t.commits = s.commits.filter fun x => x.id != id) :
    t.commitOf id = none := by
  rw [State.commitOf, h, List.find?_eq_none]
  intro k hk
  simpa using (List.mem_filter.mp hk).2

/-! ## SLUICE_CANCEL (R89) -/

/-- SLUICE_CANCEL names pending commit `k`, for a port that may withdraw it. -/
def Cancels (r : Request) (s : State) (k : Commit) : Prop :=
  r.flag0 = false ∧ r.params = [byte k.id] ∧ k.id < 256 ∧ s.commitOf k.id = some k ∧ (r.port = 0 ∨ r.port = k.port)

/-- What a cancel makes of the state: a paired commit is abstained from, a local one ends. -/
def State.withdraw (s : State) (k : Commit) : State :=
  if k.paired then s.abstain k false 4
  else (s.endCommit k false).raise 0x0303 k.place (commitData k.id 4 k.token)

theorem sluiceCancelBody_named {r : Request} {s : State} {k : Commit} (h : Cancels r s k) :
    sluiceCancelBody r s = guards [(k.paired && s.pastPoint k, .busy)] (.ok .ok [] (s.withdraw k)) := by
  obtain ⟨hflag, hparams, hid, hk, hmine⟩ := h
  have hform : badForm r 1 = false := by simp [badForm, hflag, hparams]
  have hfield : field r.params 0 1 = k.id := by rw [hparams, field_cons_zero, byte_toNat_of_lt hid]
  have hport : (!(r.port == 0 || r.port == k.port)) = false := by simpa [or_iff_not_imp_left] using hmine
  rw [sluiceCancelBody, hfield, hk, hform]
  dsimp only
  rw [hport]
  rfl

theorem State.withdraw_commits (s : State) (k : Commit) :
    (s.withdraw k).commits = s.commits.filter fun x => x.id != k.id := by
  unfold State.withdraw
  split
  · exact s.abstain_commits k _ _
  · rw [State.raise_commits]
    rfl

theorem State.abstain_params (s : State) (k : Commit) (mismatch : Bool) (b : Byte) (e : Eng) :
    ((s.abstain k mismatch b).eng e).params = (s.eng e).params :=
  congrFun (congrArg Prod.fst (s.abstain_downView k mismatch b)) e

theorem State.withdraw_params (s : State) (k : Commit) (e : Eng) :
    ((s.withdraw k).eng e).params = (s.eng e).params := by
  unfold State.withdraw
  split
  · exact s.abstain_params k _ _ e
  · exact congrFun (congrArg Prod.fst ((s.endCommit k false).raise_downView _ _ _)) e

section
variable {r : Request} {s : State} {k : Commit} (hx : Executes false r s) (h : Cancels r s k)
include hx h

theorem sluiceCancel_withdraws (hearly : k.paired = true → s.pastPoint k = false) :
    ∃ t, exec (.sluiceCancel r) s = answered 0x0302 r .ok [] t ∧ t.commitOf k.id = none ∧
      ∀ e, (t.eng e).params = (s.eng e).params := by
  have hpass : (k.paired && s.pastPoint k) = false := by
    cases hp : k.paired with
    | false => rfl
    | true => simp [hearly hp]
  refine ⟨(s.takeRequest 0x0302 r).withdraw k, opcode_ok hx ?_, State.commitOf_none (State.withdraw_commits _ k),
    fun e => State.withdraw_params _ k e⟩
  refine (sluiceCancelBody_named (s := s.takeRequest 0x0302 r) h).trans ?_
  exact congrArg (fun b => guards [(b, .busy)] (.ok .ok [] ((s.takeRequest 0x0302 r).withdraw k))) hpass

theorem sluiceCancel_late (hpaired : k.paired = true) (hpast : s.pastPoint k = true) :
    Fails 0x0302 .sluiceCancel r s .busy :=
  opcode_behind hx (sluiceCancelBody_named (s := s.takeRequest 0x0302 r) h) (by rw [hpaired]; exact hpast)

end

/-! ## SLUICE_DISCARD (R90) -/

/-- SLUICE_DISCARD passes its checks. -/
structure Discards (r : Request) (s : State) : Prop where
  form : Formed r 12
  head : badCommitHead r.params = false
  trigger : (parseCommit r.params).trigger = 0
  ref : (parseCommit r.params).ref = 0
  engines : (parseCommit r.params).engines ≠ 0 ↔ (parseCommit r.params).scoped = true
  token : (parseCommit r.params).token ≠ 0 ↔ (parseCommit r.params).tokened = true
  principal : (parseCommit r.params).principalOnly = true → r.port = 0
  present : s.strangers (parseCommit r.params) = false
  tenant : s.scopeOutside r.port (parseCommit r.params) = false
  free : ∀ k ∈ s.commits, (parseCommit r.params).overlaps k = false

theorem sluiceDiscardBody_formed {r : Request} {s : State} (h : Discards r s) :
    sluiceDiscardBody r s = .ok .ok [] (s.discard (parseCommit r.params)) := by
  obtain ⟨hform, hhead, htrigger, href, hengines, htoken, hprincipal, hpresent, htenant, hfree⟩ := h
  refine guards_pass _ _ ?_
  simp only [List.forall_mem_cons, List.not_mem_nil, false_implies, implies_true, and_true]
  refine ⟨?_, ?_, hpresent, htenant, ?_, by simpa using hfree⟩
  · simp [formed_badForm hform, hhead, htrigger, href, ← hengines, ← htoken]
  · simpa using hprincipal
  · simp [← hengines, ← htoken]

/-- What a discard makes of one engine's parameters. -/
def EngineParams.discarded (f : CommitForm) (e : Eng) (p : Staged EngineParams) : Staged EngineParams :=
  if f.engines.getLsbD e.val then { p with staged := p.staged.taking p.active f.classes } else p

theorem State.discardEngines_params (s : State) (f : CommitForm) (e : Eng) :
    ((s.discardEngines f).eng e).params = EngineParams.discarded f e (s.eng e).params := by
  have h := foldl_once (view := fun s : State => (s.eng e).params) (who := fun _ => e)
    (R := fun x y => y = EngineParams.discarded f e x)
    (f := fun (s : State) e => if f.engines.getLsbD e.val then
      s.stage e fun p => p.taking (s.eng e).params.active f.classes else s)
    (fun _ _ => rfl) (fun s d hd => ?_) (fun s => ?_) (List.nodup_finRange 4) s
  · rwa [if_pos (List.mem_finRange e)] at h
  · split
    · rw [State.stage, State.eng_updEng, if_neg (Ne.symm hd)]
    · rfl
  · unfold EngineParams.discarded
    split
    · rw [State.stage, State.eng_updEng_same]
    · rfl

theorem State.discard_params (s : State) (f : CommitForm) (e : Eng) :
    ((s.discard f).eng e).params = EngineParams.discarded f e (s.eng e).params :=
  (congrArg (fun v : Vector Engine 4 => v[e].params) (congrArg Prod.snd (s.discard_rest f))).trans
    (s.discardEngines_params f e)

theorem sluiceDiscard_discards {r : Request} {s : State} (hx : Executes false r s) (h : Discards r s) :
    exec (.sluiceDiscard r) s =
      answered 0x0303 r .ok [] ((s.takeRequest 0x0303 r).discard (parseCommit r.params)) := by
  refine opcode_ok hx (sluiceDiscardBody_formed { h with present := ?_, tenant := ?_, free := h.free })
  · exact h.present
  · rw [State.takeRequest_scopeOutside]
    exact h.tenant

/-! ## SLUICE_STATUS (R91) -/

/-- RTD is 0 where a commit has neither engines nor a frame of its own reference engine (R91). -/
theorem State.commitEntry_fields (s : State) : s.commitEntry = fun k =>
    [byte k.id, if k.paired && s.pastPoint k then 6 else k.state, k.engines.setWidth 8, byte k.port.val] ++
      be 2 k.classes ++ [0, 0] ++ be 4 k.token ++ be 4 (k.target k.ref) ++ be 4 k.far[k.ref] ++
      beBytes 4 (if k.engines = 0 ∧ k.trigger ≠ 2 then 0 else
        ((s.eng k.ref).deframer.roundTrip * 100 + 262143) / 262144) := by
  funext k
  unfold State.commitEntry Deframer.roundTripFrames
  simp only [Bool.and_eq_true, beq_iff_eq, bne_iff_ne, ne_eq]

/-- Settles O18: each opcode of Sluice is its checks and what it does behind them. -/
theorem sluiceRequests : Obligations.SluiceRequests := by
  unfold Obligations.SluiceRequests
  refine ⟨fun r s e hx => ⟨?tx, ?profile, ?map, ?overlap⟩, ?commit, fun r s hx => ⟨?cancel, ?late, ?discard, ?status⟩⟩
  case tx => exact txConfigWrite_held hx
  case profile => exact profileWrite_held hx
  case map => exact slotmapWrite_held hx
  case overlap => exact fun hform _ hover => sluiceCommit_overlapping hx hform hover
  case commit =>
    intro r s hx hform hfree hroom htime hvalid hlead
    have h : Acceptable r s := ⟨hform, hfree, hroom, htime, hvalid, hlead⟩
    refine ⟨sluiceCommit_validates hx h, fun hreal => ?_⟩
    obtain ⟨k, t, ht, hk, hcommits, hparams⟩ := sluiceCommit_accepts hx h hreal
    obtain ⟨hlow, hhigh, hnew, hleast⟩ := State.freeCommitId_spec hroom
    have hmem : k ∈ t.commits := by simp [hcommits]
    have hid : k.id = s.freeCommitId := congrArg Commit.id hk
    rw [← hid] at hlow hhigh hnew hleast
    refine ⟨k, t, ht, hcommits, hlow, hhigh, hnew, hleast, ?_, ?_, ?_, ?_, hparams,
      fun c e _ => holdsScope_of_mem hmem⟩
    all_goals rw [hk]; rfl
  case cancel => exact fun k hf hp hid hk hmine => sluiceCancel_withdraws hx ⟨hf, hp, hid, hk, hmine⟩
  case late => exact fun k hf hp hid hk hmine => sluiceCancel_late hx ⟨hf, hp, hid, hk, hmine⟩
  case discard =>
    intro hform hhead htrigger href hengines htoken hprincipal hpresent htenant hfree
    refine ⟨_, sluiceDiscard_discards hx
      ⟨hform, hhead, htrigger, href, hengines, htoken, hprincipal, hpresent, htenant, hfree⟩,
      fun e => ?_, fun e he => ?_, fun e he => ?_⟩
    all_goals rw [State.discard_params, EngineParams.discarded]
    · split <;> rfl
    · rw [if_pos he]
      rfl
    · rw [he]
      rfl
  case status =>
    intro hform
    refine opcode_ok hx ?_
    rw [sluiceStatusBody, formed_badForm hform, guards_false, guards_nil, State.commitEntry_fields]
    rfl

end Sys2Proof.Machine
end

section
/-! The instants of local and paired commits (R74, R83, R85, R95, R96): what a commit that takes effect, or ends, does
to the engines' sides, and to nothing else of the ground. -/

namespace Sys2Proof.Machine

/-! ## Engines' sides, one by one -/

/-- An operation on the sides of some engines. -/
def Ground.onEach (g : Ground) (es : List Eng) (h : Sides → Sides) : Ground :=
  { g with sides := fun d => if d ∈ es then h (g.sides d) else g.sides d }

theorem Ground.onEach_cons (g : Ground) {e : Eng} {es : List Eng} (he : e ∉ es) (h : Sides → Sides) :
    (g.onEach [e] h).onEach es h = g.onEach (e :: es) h := by
  refine congrArg (Ground.mk g.commits g.moduleTime g.weir) (funext fun d => ?_)
  by_cases hd : d = e
  · subst hd
    simp [Ground.onEach, he]
  · simp [Ground.onEach, hd]

theorem State.updEng_onEach (s : State) (e : Eng) {f : Engine → Engine} {h : Sides → Sides}
    (hf : ∀ x, (f x).sides = h x.sides) : (s.updEng e f).offTraffic.ground = s.offTraffic.ground.onEach [e] h := by
  refine congrArg (Ground.mk s.commits s.moduleTime s.weir) (funext fun d => ?_)
  show ((s.updEng e f).eng d).sides = if d ∈ [e] then h (s.eng d).sides else (s.eng d).sides
  rw [State.eng_updEng]
  by_cases hd : d = e
  · subst hd
    simp only [if_true, List.mem_singleton, hf]
  · simp only [if_neg hd, List.mem_singleton]

theorem foldl_onEach {f : State → Eng → State} {h : Sides → Sides}
    (hf : ∀ s e, (f s e).offTraffic.ground = s.offTraffic.ground.onEach [e] h) {es : List Eng} (hes : es.Nodup)
    (s : State) : (es.foldl f s).offTraffic.ground = s.offTraffic.ground.onEach es h := by
  induction es generalizing s with
  | nil => rfl
  | cons e es ih =>
    obtain ⟨he, hes⟩ := List.nodup_cons.mp hes
    rw [List.foldl_cons, ih hes, hf, Ground.onEach_cons _ he]

theorem Commit.named_nodup (k : Commit) : k.named.Nodup := (List.nodup_finRange 4).filter _

theorem State.liveOf_nodup (s : State) (k : Commit) : (s.liveOf k).Nodup := k.named_nodup.filter _

theorem State.liveOf_offTraffic (s : State) (k : Commit) : s.offTraffic.liveOf k = s.liveOf k := rfl

theorem State.mem_liveOf {s : State} {k : Commit} {e : Eng} :
    e ∈ s.liveOf k ↔ k.has e = true ∧ (s.eng e).tileFailed = false := by
  simp [State.liveOf, Commit.named, and_comm]

/-! ## Taking effect (R74, R96) -/

/-- What the receive side runs on. -/
def Sides.rxParams (x : Sides) : EngineParams :=
  match x.later with
  | some (.receive, old) => old
  | _ => x.params.active

/-- What the transmit side runs on. -/
def Sides.txParams (x : Sides) : EngineParams :=
  match x.later with
  | some (.transmit, old) => old
  | _ => x.params.active

theorem Engine.rxParams_sides (x : Engine) : x.rxParams = x.sides.rxParams := rfl
theorem Engine.txParams_sides (x : Engine) : x.txParams = x.sides.txParams := rfl

/-- The active copy takes the staged values of classes; `side` switches first. -/
def Sides.take (classes : BitVec 16) (side : Option HeldSide) (x : Sides) : Sides :=
  { x with
    params := { x.params with active := x.params.active.taking x.params.staged classes }
    later := match side with
      | some .transmit => some (.receive, x.rxParams)
      | some .receive => some (.transmit, x.txParams)
      | none => x.later.map fun l => (l.1, l.2.taking x.params.staged classes) }

theorem Engine.take_sides (x : Engine) (classes : BitVec 16) (side : Option HeldSide) :
    (x.take classes side).sides = x.sides.take classes side := by
  rcases side with _ | _ | _ <;> rfl

theorem State.takeEngine_onEach (s : State) (e : Eng) (classes : BitVec 16) (side : Option HeldSide) :
    (s.takeEngine e classes side).offTraffic.ground = s.offTraffic.ground.onEach [e] (Sides.take classes side) := by
  unfold State.takeEngine
  rw [State.updEng_onEach _ e fun x => x.take_sides classes side, State.keepCal_ground]

theorem State.takeSide_onEach (s : State) (k : Commit) (e : Eng) (side : HeldSide) :
    (s.takeSide k e side true).offTraffic.ground =
      s.offTraffic.ground.onEach [e] (Sides.take k.classes (some side)) := by
  unfold State.takeSide
  rw [if_pos rfl]
  dsimp only
  split
  · rw [State.clientCommit_offTraffic, State.takeEngine_onEach]
  · rw [State.takeEngine_onEach]

theorem State.applyLocal_onEach (s : State) (k : Commit) :
    (s.applyLocal k).offTraffic.ground = s.offTraffic.ground.onEach (s.liveOf k) (Sides.take k.classes none) := by
  unfold State.applyLocal
  extract_lets es oldTx oldRx s1 s2 s3 s4 s5 s6 s7
  have h1 : s1.offTraffic.ground = s.offTraffic.ground.onEach es (Sides.take k.classes none) :=
    foldl_onEach (fun s e => s.takeEngine_onEach e _ _) (s.liveOf_nodup k) s
  have h2 : s2.offTraffic.ground = s1.offTraffic.ground := by
    dsimp only [s2]
    split
    · rw [State.clientCommit_offTraffic]
    · rfl
  have h7 : (if k.classes.getLsbD 12 then s7.gaugeCommit else s7).offTraffic.ground = s2.offTraffic.ground := by
    simp [s7, s6, s5, s4, s3]
  exact h7.trans (h2.trans h1)

theorem State.runCommit_onEach (s : State) (k : Commit) :
    (s.runCommit k).offTraffic.ground = { s.offTraffic.ground.onEach (s.liveOf k) (Sides.take k.classes none) with
      commits := s.commits.filter fun x => x.id != k.id } := by
  unfold State.runCommit
  extract_lets t live u
  have ht : t.offTraffic = s.offTraffic := by
    dsimp only [t]
    split
    · rw [State.raise_offTraffic]
    · rfl
  have hu : u.offTraffic.ground = s.offTraffic.ground.onEach (s.liveOf k) (Sides.take k.classes none) := by
    have hlive : t.liveOf k = s.liveOf k := by rw [← t.liveOf_offTraffic, ht, s.liveOf_offTraffic]
    rw [State.applyLocal_onEach, ht, hlive]
  rw [State.raise_offTraffic]
  exact congrArg (fun g : Ground => { g with commits := g.commits.filter fun x => x.id != k.id }) hu

/-! ## Ends of a commit -/

/-- What happens to one commit where it is due. -/
def State.onCommit (s : State) (id : Nat) (due : State → Commit → Bool) (act : State → Commit → State) : State :=
  match s.commitOf id with
  | some k => if due s k then act s k else s
  | none => s

section
variable {s : State} {id : Nat} {k : Commit} {due : State → Commit → Bool} {act : State → Commit → State}

theorem State.onCommit_due (hk : s.commitOf id = some k) (h : due s k = true) : s.onCommit id due act = act s k := by
  rw [State.onCommit, hk]
  exact if_pos h

theorem State.onCommit_idle (hk : s.commitOf id = some k) (h : due s k = false) : s.onCommit id due act = s := by
  rw [State.onCommit, hk]
  exact if_neg (by simp [h])

theorem State.onCommit_none (hk : s.commitOf id = none) : s.onCommit id due act = s := by
  rw [State.onCommit, hk]

theorem commitEvent_due (hready : s.ready = true) (hk : s.commitOf id = some k) (h : due s k = true) :
    commitEvent id s due act = .next (act s k) :=
  (event_ready hready fun s => s.onCommit id due act).trans (congrArg _ (State.onCommit_due hk h))

end


theorem State.commitOf_setCommit {s : State} {k k' : Commit} (h : (s.setCommit k).commitOf k.id = some k') :
    k' = k := by
  obtain ⟨x, -, hx⟩ := List.mem_map.mp (List.mem_of_find?_eq_some h)
  have hid := List.find?_some h
  split at hx
  · exact hx.symm
  · rw [← hx] at hid
    contradiction

theorem State.setCommit_sides (s : State) (k : Commit) :
    (s.setCommit k).offTraffic.ground.sides = s.offTraffic.ground.sides := rfl

/-- What a commit that settles leaves: everything on the ground but the commit. -/
theorem State.settleCommit_ground (s : State) (id : Nat) :
    (s.settleCommit id).offTraffic.ground = s.offTraffic.ground ∨
      (s.settleCommit id).offTraffic.ground =
        { s.offTraffic.ground with commits := s.commits.filter fun x => x.id != id } := by
  unfold State.settleCommit
  split
  · exact .inl rfl
  next k hk =>
    split
    · right
      extract_lets live t
      have hid : k.id = id := by simpa using List.find?_some hk
      have ht : t.offTraffic.ground = s.offTraffic.ground := by
        dsimp only [t]
        split
        · refine foldl_ground _ _ (fun s e => ?_) s
          exact s.updEng_ground e _ fun _ => rfl
        · rfl
      rw [State.raise_offTraffic, ← hid]
      exact congrArg (fun g : Ground => { g with commits := g.commits.filter fun x => x.id != k.id }) ht
    · exact .inl rfl

theorem State.settleCommit_sides (s : State) (id : Nat) :
    (s.settleCommit id).offTraffic.ground.sides = s.offTraffic.ground.sides := by
  rcases s.settleCommit_ground id with h | h <;> rw [h]

theorem State.commitOf_settleCommit {s : State} {id : Nat} {k : Commit} (h : (s.settleCommit id).commitOf id = some k) :
    s.commitOf id = some k := by
  rcases s.settleCommit_ground id with hg | hg
  · rwa [State.commitOf, show (s.settleCommit id).commits = s.commits from congrArg Ground.commits hg] at h
  · have hc : (s.settleCommit id).commits = s.commits.filter fun x => x.id != id := congrArg Ground.commits hg
    rw [State.commitOf_none hc] at h
    cases h

/-! ## The transmit side of a paired commit (R85, R96) -/

theorem State.pairTx_sides (s : State) (k : Commit) (hfirst : k.rxDone = 0) :
    (s.pairTx k).offTraffic.ground.sides =
      (s.offTraffic.ground.onEach (s.liveOf k) (Sides.take k.classes (some .transmit))).sides := by
  unfold State.pairTx
  extract_lets es old s1 s2
  have h1 : s1.offTraffic.ground = s.offTraffic.ground.onEach es (Sides.take k.classes (some .transmit)) := by
    refine foldl_onEach (fun s e => ?_) (s.liveOf_nodup k) s
    rw [hfirst]
    exact (congrArg (fun b => (s.takeSide k e .transmit b).offTraffic.ground) (by simp)).trans (s.takeSide_onEach k e _)
  have h2 : s2.offTraffic.ground = s1.offTraffic.ground := by simp [s2]
  rw [State.settleCommit_sides, State.setCommit_sides]
  exact congrArg Ground.sides (h2.trans h1)

theorem State.commitOf_pairTx {s : State} {k k' : Commit} (h : (s.pairTx k).commitOf k.id = some k') :
    k' = { k with txDone := true } :=
  State.commitOf_setCommit (k := { k with txDone := true }) (State.commitOf_settleCommit h)

/-! ## The receive side of a paired commit (R96) -/

/-- The side that was held back follows. -/
def Sides.follow (x : Sides) : Sides := { x with later := none }

theorem State.takeSide_follow (s : State) (k : Commit) (e : Eng) (side : HeldSide) :
    (s.takeSide k e side false).offTraffic = (s.updEng e fun x => { x with later := none }).offTraffic := by
  unfold State.takeSide
  rw [if_neg (by decide)]
  extract_lets t u
  split
  · rfl
  · have hu : u.offTraffic = t.offTraffic := foldl_offTraffic _ _ (fun s l => by split <;> rfl) t
    exact (foldl_offTraffic _ _ (fun s c => by rfl) u).trans hu

/-! ### What it leaves of the other engines -/

theorem engineOnly_fecEffort (e : Eng) (s : State) : EngineOnly e s (s.fecEffort e) := by
  unfold State.fecEffort
  exact (engineOnly_updEng e s rfl).trans (engineOnly_ite (EngineOnly.refl _ _) (engineOnly_raise _ _ _ _ _))

theorem engineOnly_rxApply (e : Eng) (s : State) (old new : EngineParams) : EngineOnly e s (s.rxApply e old new) := by
  have hprepare (s : State) : EngineOnly e s (s.rxPrepare e old new) := by
    unfold State.rxPrepare
    exact (engineOnly_ite (engineOnly_updEng e s rfl) (EngineOnly.refl _ _)).trans (engineOnly_updEng e _ rfl)
  have hswitch (s : State) : EngineOnly e s (s.rxSwitch e old new) := by
    unfold State.rxSwitch
    refine EngineOnly.trans ?_ (engineOnly_ite (engineOnly_rxFreq e _ _) (EngineOnly.refl _ _))
    refine EngineOnly.trans ?_ (engineOnly_ite (engineOnly_updEng e _ rfl) (EngineOnly.refl _ _))
    refine engineOnly_ite (engineOnly_updEng e s ?_) (EngineOnly.refl _ _)
    unfold Engine.switchLine
    split <;> rfl
  have hlink (s : State) : EngineOnly e s (s.linkApply e new) :=
    engineOnly_ite ((engineOnly_updEng e s rfl).trans (engineOnly_raise _ _ _ _ _)) (EngineOnly.refl _ _)
  have hidle (s : State) : EngineOnly e s (s.idleEffort e) := by
    unfold State.idleEffort
    exact engineOnly_ite (EngineOnly.refl _ _) (engineOnly_fecEffort e s)
  unfold State.rxApply
  extract_lets t u
  have hu : EngineOnly e t u := engineOnly_ite (engineOnly_rxOff e t) (hswitch t)
  exact ((hprepare s).trans hu).trans ((hlink u).trans (hidle _))

theorem engineOnly_rxSide (e : Eng) (s : State) (old : EngineParams) : EngineOnly e s (s.rxSide e old) := by
  have htwin (s : State) : EngineOnly e s (s.twinEnd e) :=
    (engineOnly_updEng e s rfl).trans
      (engineOnly_ite ((engineOnly_skip e _).trans (engineOnly_raise _ _ _ _ _)) (EngineOnly.refl _ _))
  unfold State.rxSide
  refine EngineOnly.trans ?_ (engineOnly_updEng e _ rfl)
  exact (engineOnly_rxApply e s _ _).trans (engineOnly_ite (htwin _) (EngineOnly.refl _ _))

/-- A view of the engines' deframers stands where only other parts of an engine move. -/
theorem State.updEng_deframer (s : State) (e d : Eng) {f : Engine → Engine} (h : ∀ x, (f x).deframer = x.deframer) :
    ((s.updEng e f).eng d).deframer = (s.eng d).deframer := by
  rw [State.eng_updEng]
  split
  next hd => rw [h, hd]
  · rfl

theorem State.restartCipher_deframer (s : State) (n : Nat) (tx : Bool) (d : Eng) :
    ((s.restartCipher n tx).eng d).deframer = (s.eng d).deframer := by
  refine foldl_keeps (fun s : State => (s.eng d).deframer) (fun s e => ?_) _ s
  have h (key : BitVec 32) : ((if key.toNat = n + 1 then s.updEng e fun x => { x with sc :=
      if tx then { x.sc with txShift := none } else { x.sc with rxShift := none } } else s).eng d).deframer =
      (s.eng d).deframer := by
    split
    · exact s.updEng_deframer e d fun _ => rfl
    · rfl
  exact h _

theorem State.keysRx_deframer (s : State) (tok : BitVec 32) (d : Eng) :
    ((s.keysRx tok).eng d).deframer = (s.eng d).deframer := by
  have hrewrite (s : State) (n : Nat) : ((s.rewriteRx n).eng d).deframer = (s.eng d).deframer := by
    unfold State.rewriteRx
    dsimp only
    split
    · exact State.restartCipher_deframer _ _ _ _
    · rfl
  have hnote (s : State) (slots : List Nat) : ((s.noteRewrite tok slots).eng d).deframer = (s.eng d).deframer := by
    unfold State.noteRewrite
    split <;> rfl
  unfold State.keysRx
  extract_lets t slots
  exact (foldl_keeps (fun s : State => (s.eng d).deframer) hrewrite slots t).trans (hnote _ _)

theorem State.eng_of_offTraffic {s t : State} (h : t.offTraffic = s.offTraffic) : t.eng = s.eng :=
  show t.offTraffic.eng = s.offTraffic.eng by rw [h]

theorem State.tokenRx_deframer (s : State) (k : Commit) (d : Eng) :
    ((s.tokenRx k).eng d).deframer = (s.eng d).deframer := by
  unfold State.tokenRx
  extract_lets t
  have ht : (t.eng d).deframer = (s.eng d).deframer := by
    dsimp only [t]
    split
    · exact s.keysRx_deframer _ d
    · rfl
  split
  · rw [State.eng_of_offTraffic (t.flowsCommit_offTraffic _ _)]
    exact ht
  · exact ht

theorem State.settleCommit_deframer (s : State) (id : Nat) (d : Eng) :
    ((s.settleCommit id).eng d).deframer = (s.eng d).deframer := by
  unfold State.settleCommit
  split
  · rfl
  · split
    · extract_lets live t
      have ht : (t.eng d).deframer = (s.eng d).deframer := by
        dsimp only [t]
        split
        · refine foldl_keeps (fun s : State => (s.eng d).deframer) (fun s e => ?_) _ s
          exact s.updEng_deframer e d fun _ => rfl
        · rfl
      rw [State.eng_of_offTraffic (State.raise_offTraffic _ _ _ _)]
      exact ht
    · rfl

/-- The commit once the receive side of engine `e` has taken effect. -/
def Commit.received (k : Commit) (e : Eng) : Commit := { k with rxDone := k.rxDone ||| (1 : BitVec 4) <<< e.val }

theorem Commit.received_rxDone (k : Commit) (e d : Eng) :
    (k.received e).rxDone.getLsbD d.val = (k.rxDone.getLsbD d.val || d == e) := by
  have hbit : ((1 : BitVec 4) <<< e.val).getLsbD d.val = (d == e) := by
    revert d e
    decide
  rw [Commit.received, BitVec.getLsbD_or, hbit]

theorem State.pairRx_sides (s : State) (k : Commit) (e : Eng) (hsecond : k.txDone = true) :
    (s.pairRx k e).offTraffic.ground.sides = (s.offTraffic.ground.onEach [e] Sides.follow).sides := by
  unfold State.pairRx
  rw [hsecond]
  extract_lets old t u v
  have ht : t.offTraffic.ground = s.offTraffic.ground.onEach [e] Sides.follow := by
    refine (congrArg State.ground (s.takeSide_follow k e .receive)).trans ?_
    exact s.updEng_onEach e fun _ => rfl
  have hv : v.offTraffic.ground = t.offTraffic.ground := by simp [v, u]
  rw [State.settleCommit_sides, State.setCommit_sides]
  exact congrArg Ground.sides (hv.trans ht)

theorem State.pairRx_deframer (s : State) (k : Commit) {e d : Eng} (hd : d ≠ e) (hsecond : k.txDone = true) :
    ((s.pairRx k e).eng d).deframer = (s.eng d).deframer := by
  unfold State.pairRx
  rw [hsecond]
  extract_lets old t u v
  have ht : t.eng d = s.eng d := by
    refine (congrFun (State.eng_of_offTraffic (s.takeSide_follow k e .receive)) d).trans ?_
    rw [State.eng_updEng, if_neg hd]
  have hu : u.eng d = t.eng d := (engineOnly_rxSide e t old).2.1 d hd
  have hv : (v.eng d).deframer = (u.eng d).deframer := by
    dsimp only [v]
    split
    · exact u.tokenRx_deframer k d
    · rfl
  rw [State.settleCommit_deframer]
  exact hv.trans (by rw [hu, ht])

theorem State.commitOf_pairRx {s : State} {k k' : Commit} {e : Eng} (h : (s.pairRx k e).commitOf k.id = some k') :
    k' = k.received e :=
  State.commitOf_setCommit (k := k.received e) (State.commitOf_settleCommit h)

/-! ### One engine's frame alone -/

theorem State.liveOf_congr {s t : State} (k : Commit) (h : ∀ x, (t.eng x).tileFailed = (s.eng x).tileFailed) :
    t.liveOf k = s.liveOf k := by simp only [State.liveOf, h]

/-- Whether another engine's receive side is due stands while one engine's takes effect. -/
theorem State.rxSwitchDue_pairRx {s : State} {k : Commit} {e d : Eng} (hd : d ≠ e) (hsecond : k.txDone = true) :
    (s.pairRx k e).rxSwitchDue (k.received e) d = s.rxSwitchDue k d := by
  have htile (x : Eng) : (((s.pairRx k e).eng x).tileFailed) = (s.eng x).tileFailed := by
    have h := congrArg (fun g => (g x).tileFailed) (s.pairRx_sides k e hsecond)
    refine Eq.trans h ?_
    show (if x ∈ [e] then Sides.follow (s.eng x).sides else (s.eng x).sides).tileFailed = _
    split <;> rfl
  have hbound : (s.pairRx k e).bound (k.received e) = s.bound k := by
    have hlive : (s.pairRx k e).liveOf (k.received e) = s.liveOf k := State.liveOf_congr k htile
    unfold State.bound State.allIn
    rw [hlive]
    rfl
  unfold State.rxSwitchDue
  rw [hbound, htile, s.pairRx_deframer k hd hsecond, Commit.received_rxDone, beq_eq_false_iff_ne.mpr hd, Bool.or_false]
  rfl

theorem State.rxSwitchDue_received (s : State) (k : Commit) (e : Eng) : s.rxSwitchDue (k.received e) e = false := by
  simp [State.rxSwitchDue, Commit.received_rxDone]

theorem foldl_fixed_of_mem {α σ : Type} {f : σ → α → σ} {s : σ} {l : List α} (h : ∀ x ∈ l, f s x = s) :
    l.foldl f s = s := by
  induction l with
  | nil => rfl
  | cons x xs ih =>
    rw [List.foldl_cons, h x List.mem_cons_self]
    exact ih fun y hy => h y (List.mem_cons_of_mem _ hy)

/-- The receive side of one engine, where it is due. -/
def State.pairRxOn (id : Nat) (s : State) (e : Eng) : State :=
  s.onCommit id (fun s k => s.rxSwitchDue k e) fun s k => s.pairRx k e

theorem State.pairRxDue_eq (s : State) (id : Nat) :
    s.pairRxDue id = (List.finRange 4).foldl (State.pairRxOn id) s := rfl

/-- Where the receive side of one engine alone is due, it alone takes effect. -/
theorem State.pairRxDue_one {s : State} {k : Commit} {e : Eng} (hk : s.commitOf k.id = some k)
    (hsecond : k.txDone = true) (hdue : s.rxSwitchDue k e = true) (hrest : ∀ d, d ≠ e → s.rxSwitchDue k d = false) :
    s.pairRxDue k.id = s.pairRx k e := by
  obtain ⟨pre, post, hsplit⟩ := List.append_of_mem (List.mem_finRange e)
  have hnodup := List.nodup_finRange 4
  rw [hsplit] at hnodup
  have hpre (d : Eng) (hd : d ∈ pre) : d ≠ e := fun h => by
    subst h
    exact (List.disjoint_of_nodup_append hnodup) hd List.mem_cons_self
  have hbefore (d : Eng) (hd : d ∈ pre) : State.pairRxOn k.id s d = s := State.onCommit_idle hk (hrest d (hpre d hd))
  have hthen : State.pairRxOn k.id s e = s.pairRx k e := State.onCommit_due hk hdue
  have hafter (d : Eng) : State.pairRxOn k.id (s.pairRx k e) d = s.pairRx k e := by
    cases hk' : (s.pairRx k e).commitOf k.id with
    | none => exact State.onCommit_none hk'
    | some k' =>
      refine State.onCommit_idle hk' ?_
      rw [State.commitOf_pairRx hk']
      by_cases hd : d = e
      · rw [hd, State.rxSwitchDue_received]
      · rw [State.rxSwitchDue_pairRx hd hsecond, hrest d hd]
  rw [State.pairRxDue_eq, hsplit, List.foldl_append, foldl_fixed_of_mem hbefore, List.foldl_cons, hthen]
  exact foldl_fixed_of_mem fun d _ => hafter d

/-! ## The handshake's instants (R95) -/

theorem State.commitOf_confirm {s : State} {k k' : Commit} (h : (s.confirm k).commitOf k.id = some k') :
    k' = { k with state := 3 } := by
  have hc : (s.confirm k).commits = (s.setCommit { k with state := 3 }).commits :=
    congrArg Ground.commits (State.sendCann_ground _ k 2)
  rw [State.commitOf, hc] at h
  exact State.commitOf_setCommit (k := { k with state := 3 }) h

theorem State.ackDeadline_abstains (s : State) {k : Commit} (h : s.allIn k k.acks = false) :
    ∃ mismatch b, s.ackDeadline k = s.abstain k mismatch b := by
  unfold State.ackDeadline
  rw [if_neg (by simp [h])]
  split
  · exact ⟨_, _, rfl⟩
  · exact ⟨_, _, rfl⟩

theorem State.sendCann_cann (s : State) {k : Commit} (phase : BitVec 2) {e : Eng} (he : k.has e = true) :
    ((s.sendCann k phase).eng e).tx.cann = ⟨k.token, k.target e, k.classes, phase⟩ := by
  have hmem : e ∈ k.named := by simp [Commit.named, he]
  have h := foldl_once (view := fun s : State => (s.eng e).tx.cann) (who := fun _ => e)
    (R := fun _ y => y = ⟨k.token, k.target e, k.classes, phase⟩)
    (f := fun (s : State) e => s.updEng e fun x => { x with tx := { x.tx with
      cann := { token := k.token, target := k.target e, mask := k.classes, phase := phase } } })
    (fun _ _ => rfl) (fun s d hd => by rw [State.eng_updEng, if_neg (Ne.symm hd)])
    (fun s => by rw [State.eng_updEng_same]) k.named_nodup s
  rwa [if_pos hmem] at h

theorem State.staged_of_settings {s t : State} (h : t.settings = s.settings) (e : Eng) :
    (t.eng e).params.staged = (s.eng e).params.staged := by
  have he := congrArg (fun a : Settings => a.engines[e]) h
  simpa [State.settings, State.eng] using he

theorem State.tenancy_of_settings {s t : State} (h : t.settings = s.settings) (p : Hp) :
    (t.port p).tenancy = (s.port p).tenancy := by
  have hp := congrArg (fun a : Settings => a.tenancies[p]) h
  simpa [State.settings, State.port] using hp

/-! ## At a boundary -/

theorem State.atBoundary_congr {s : State} {f g : State → State}
    (h : f { s with moduleTime := s.moduleTime + 1 } = g { s with moduleTime := s.moduleTime + 1 }) :
    s.atBoundary f = s.atBoundary g := by
  unfold State.atBoundary
  rw [h]

section
variable {s : State} {k : Commit} (hk : s.commitOf k.id = some k)
include hk

theorem State.atCommitBoundary_due (hdue : ({ s with moduleTime := s.moduleTime + 1 } : State).boundaryDue k = true) :
    s.atCommitBoundary k.id = s.atBoundary fun s => s.runCommit k :=
  State.atBoundary_congr (State.onCommit_due (s := { s with moduleTime := s.moduleTime + 1 })
    (due := State.boundaryDue) (act := State.runCommit) hk hdue)

theorem State.atPairTx_due (hdue : ({ s with moduleTime := s.moduleTime + 1 } : State).txSwitchDue k = true) :
    s.atPairTx k.id = s.atBoundary fun s => s.pairTx k :=
  State.atBoundary_congr (State.onCommit_due (s := { s with moduleTime := s.moduleTime + 1 })
    (due := State.txSwitchDue) (act := State.pairTx) hk hdue)

end

/-- A local commit at its boundary moves, of the ground, the sides of its working engines and itself. -/
theorem State.atBoundary_runCommit (s : State) (k : Commit) :
    (s.atBoundary fun s => s.runCommit k).offTraffic.ground =
      { s.offTraffic.ground.onEach (s.liveOf k) (Sides.take k.classes none) with
        commits := s.commits.filter fun x => x.id != k.id } := by
  have h := congrArg (fun g : Ground => { g with moduleTime := g.moduleTime - 1 })
    (State.runCommit_onEach { s with moduleTime := s.moduleTime + 1 } k)
  refine Eq.trans h ?_
  exact congrArg (fun t => Ground.mk _ t _ _) (BitVec.add_sub_cancel ..)

theorem Ground.onEach_sides_of_mem (g : Ground) {es : List Eng} {h : Sides → Sides} {e : Eng} (he : e ∈ es) :
    (g.onEach es h).sides e = h (g.sides e) := if_pos he

theorem Ground.onEach_sides_of_not_mem (g : Ground) {es : List Eng} {h : Sides → Sides} {e : Eng} (he : e ∉ es) :
    (g.onEach es h).sides e = g.sides e := if_neg he

section
variable {s : State} {k : Commit} (hk : s.commitOf k.id = some k)
include hk

/-- The engines after a local commit's boundary: those that it names and that work have taken its classes. -/
theorem State.atCommitBoundary_ground
    (hdue : ({ s with moduleTime := s.moduleTime + 1 } : State).boundaryDue k = true) :
    (s.atCommitBoundary k.id).offTraffic.ground =
      { s.offTraffic.ground.onEach (s.liveOf k) (Sides.take k.classes none) with
        commits := s.commits.filter fun x => x.id != k.id } := by
  rw [State.atCommitBoundary_due hk hdue, State.atBoundary_runCommit]

/-- A working named engine after the transmit switch. -/
theorem State.atPairTx_sides (hdue : ({ s with moduleTime := s.moduleTime + 1 } : State).txSwitchDue k = true)
    (hfirst : k.rxDone = 0) {e : Eng} (he : k.has e = true) (hworks : (s.eng e).tileFailed = false) :
    ((s.atPairTx k.id).eng e).sides = Sides.take k.classes (some .transmit) (s.eng e).sides := by
  rw [State.atPairTx_due hk hdue]
  have hsides := State.pairTx_sides { s with moduleTime := s.moduleTime + 1 } k hfirst
  exact (congrFun hsides e).trans (Ground.onEach_sides_of_mem _ (State.mem_liveOf.mpr ⟨he, hworks⟩))

theorem State.commitOf_atPairTx (hdue : ({ s with moduleTime := s.moduleTime + 1 } : State).txSwitchDue k = true)
    {k' : Commit} (hk' : (s.atPairTx k.id).commitOf k.id = some k') : k' = { k with txDone := true } := by
  rw [State.atPairTx_due hk hdue] at hk'
  exact State.commitOf_pairTx (s := { s with moduleTime := s.moduleTime + 1 }) hk'

end

theorem Sides.take_transmit_txParams (classes : BitVec 16) (x : Sides) :
    (x.take classes (some .transmit)).txParams = (x.take classes (some .transmit)).params.active := rfl

theorem Sides.take_transmit_rxParams (classes : BitVec 16) (x : Sides) :
    (x.take classes (some .transmit)).rxParams = x.rxParams := rfl

/-- The receive side follows on its own engine, and no engine's parameters move. -/
theorem State.pairRx_follows (s : State) {k : Commit} {e : Eng} (hsecond : k.txDone = true) :
    ((s.pairRx k e).eng e).rxParams = (s.eng e).params.active ∧
      ∀ d, ((s.pairRx k e).eng d).params = (s.eng d).params := by
  have hsides (d : Eng) := congrFun (s.pairRx_sides k e hsecond) d
  refine ⟨?_, fun d => (congrArg Sides.params (hsides d)).trans ?_⟩
  · have hfollow := (hsides e).trans (Ground.onEach_sides_of_mem _ (List.mem_singleton_self e))
    exact congrArg Sides.rxParams hfollow
  · show (if d ∈ [e] then Sides.follow (s.eng d).sides else (s.eng d).sides).params = _
    split <;> rfl

/-- Settles O19: a boundary moves the sides of the working engines that a commit names, the first of a paired commit's
two switches holds the receive side back, and the second lets it follow. -/
theorem commitInstants : Obligations.CommitInstants := by
  unfold Obligations.CommitInstants
  refine ⟨fun s k hready hk hdue => ?boundary, fun s k hready hk => ⟨fun hdue hall => ?confirm,
    fun hdue hall => ?deadline, fun hdue => ?target, fun hdue hfirst => ?transmit,
    fun e hdue hsecond hrest => ?receive⟩⟩
  case boundary =>
    have hground := State.atCommitBoundary_ground hk hdue
    have hsettings := s.atCommitBoundary_settings k.id
    have hsides (e : Eng) := congrArg (fun g => g.sides e) hground
    have hrest (e : Eng) (he : e ∉ s.liveOf k) : ((s.atCommitBoundary k.id).eng e).params = (s.eng e).params :=
      congrArg Sides.params ((hsides e).trans (Ground.onEach_sides_of_not_mem _ he))
    refine ⟨s.atCommitBoundary k.id, event_ready hready fun s => s.atCommitBoundary k.id,
      State.commitOf_none (congrArg Ground.commits hground), congrArg Ground.moduleTime hground,
      State.staged_of_settings hsettings, fun e he => hrest e ?_, fun e he hfail => hrest e ?_, fun e he hworks => ?_,
      State.tenancy_of_settings hsettings, congrArg Ground.weir hground⟩
    · simp [State.mem_liveOf, he]
    · simp [State.mem_liveOf, hfail]
    · have hmem : e ∈ s.liveOf k := State.mem_liveOf.mpr ⟨he, hworks⟩
      exact congrArg (fun x : Sides => x.params.active) ((hsides e).trans (Ground.onEach_sides_of_mem _ hmem))
  case confirm =>
    refine ⟨s.confirm k, ?_, fun k' hk' => by rw [State.commitOf_confirm hk'], fun e he => State.sendCann_cann _ 2 he⟩
    refine (commitEvent_due (act := State.ackDeadline) hready hk hdue).trans ?_
    rw [State.ackDeadline, if_pos hall]
  case deadline =>
    obtain ⟨mismatch, b, h⟩ := s.ackDeadline_abstains hall
    exact ⟨s.abstain k mismatch b, (commitEvent_due (act := State.ackDeadline) hready hk hdue).trans (congrArg _ h),
      State.commitOf_none (s.abstain_commits k _ _), s.abstain_params k _ _⟩
  case target =>
    exact ⟨s.abstain k false 3, commitEvent_due (act := fun s k => s.abstain k false 3) hready hk hdue,
      State.commitOf_none (s.abstain_commits k _ _), s.abstain_params k _ _⟩
  case transmit =>
    refine ⟨s.atPairTx k.id, event_ready hready fun s => s.atPairTx k.id,
      fun k' hk' => by rw [State.commitOf_atPairTx hk hdue hk'], State.staged_of_settings (s.atPairTx_settings k.id),
      fun e he hworks => ?_⟩
    have hsides := State.atPairTx_sides hk hdue hfirst he hworks
    have hactive := congrArg (fun x : Sides => x.params.active) hsides
    refine ⟨hactive, ?_, ?_⟩
    · rw [Engine.txParams_sides, hsides, Sides.take_transmit_txParams]
      exact hactive.symm
    · rw [Engine.rxParams_sides, hsides, Sides.take_transmit_rxParams]
      rfl
  case receive =>
    obtain ⟨hfollows, hparams⟩ := s.pairRx_follows (e := e) hsecond
    refine ⟨s.pairRx k e, ?_, hfollows, fun k' hk' => ?_, hparams⟩
    · rw [← State.pairRxDue_one hk hsecond hdue hrest]
      exact event_ready hready fun s => s.pairRxDue k.id
    · rw [State.commitOf_pairRx hk', Commit.received_rxDone]
      simp

end Sys2Proof.Machine
end

section
/-! Configuration reads back (R126, R163, R186, R250, R251, R277, R278): a rendering is peeled off the string it was
parsed from, field by field. -/

namespace Sys2Proof.Machine

/-! ## Fields at the front of the rest of a string -/

section
variable {b : Bytes} {o : Nat}

/-- A byte stands before what follows it. -/
theorem cons_eq_drop_iff {x : Byte} {rest : Bytes} (h : o < b.length) :
    x :: rest = b.drop o ↔ x = u8 b o ∧ rest = b.drop (o + 1) := by
  rw [List.drop_eq_getElem_cons h, u8_eq_getElem h, List.cons.injEq]

/-- A field of a string, written out again, is that part of the string. -/
theorem beBytes_field {n : Nat} (h : o + n ≤ b.length) : beBytes n (field b o n) = slice b o n := by
  have hlen : (slice b o n).length = n := by simp; omega
  calc beBytes n (field b o n) = beBytes (slice b o n).length (beValue (slice b o n)) := by rw [hlen]; rfl
    _ = slice b o n := beBytes_beValue _

theorem be_ofNat_field {n : Nat} (h : o + n ≤ b.length) :
    be n (BitVec.ofNat (8 * n) (field b o n)) = slice b o n := by
  have hlt : field b o n < 2 ^ (8 * n) := by
    have hv := beValue_lt (slice b o n)
    have hlen : (slice b o n).length = n := by simp; omega
    rwa [hlen, show 256 = 2 ^ 8 from rfl, ← Nat.pow_mul] at hv
  rw [be, BitVec.toNat_ofNat, Nat.mod_eq_of_lt hlt, beBytes_field h]

theorem be_u16 (h : o + 2 ≤ b.length) : be 2 (u16 b o) = slice b o 2 := be_ofNat_field (n := 2) h
theorem be_u32 (h : o + 4 ≤ b.length) : be 4 (u32 b o) = slice b o 4 := be_ofNat_field (n := 4) h
theorem be_u64 (h : o + 8 ≤ b.length) : be 8 (u64 b o) = slice b o 8 := be_ofNat_field (n := 8) h

/-- A part of a string stands before what follows it. -/
theorem slice_append_eq_drop_iff {n : Nat} {rest : Bytes} :
    slice b o n ++ rest = b.drop o ↔ rest = b.drop (o + n) := by
  rw [← List.take_append_drop n (b.drop o), List.drop_drop, slice, List.append_cancel_left_eq]

theorem slice_eq_drop {n : Nat} (h : b.length ≤ o + n) : slice b o n = b.drop o :=
  List.take_of_length_le (by simp; omega)

/-- Each of the bytes that are zero reads as zero. -/
theorem u8_of_zeroAt {n i : Nat} (h : zeroAt b o n = true) (hlo : o ≤ i) (hhi : i < o + n) : u8 b i = 0 := by
  by_cases hi : i < b.length
  · have hmem : b[i] ∈ (b.drop o).take n := by
      rw [List.mem_take_iff_getElem]
      exact ⟨i - o, by simp; omega, by simp; congr 1; omega⟩
    rw [u8_eq_getElem hi]
    simpa using List.all_eq_true.mp h _ hmem
  · simp [u8, field, List.drop_eq_nil_of_le (Nat.le_of_not_lt hi), beValue]

end

/-! ## The layouts: each field stands where it was read, and between the fields are the zeros that were checked -/

theorem renderTx_parseTx {b : Bytes} (hlen : b.length = 32) (hz : zeroAt b 1 3 = true) :
    renderTx (u8 b 0) (parseTx b) = b.drop 0 := by
  have hquad : (parseTx b).quad.toList = [parseQuad b 16, parseQuad b 20, parseQuad b 24, parseQuad b 28] :=
    Vector.toList_ofFn
  rw [renderTx, hquad]
  simp [parseTx, parseQuad, be_u16, be_u32, cons_eq_drop_iff, slice_append_eq_drop_iff, slice_eq_drop,
    u8_of_zeroAt hz, hlen, -List.drop_zero, -List.drop_one]

theorem renderRx_parseRx {b : Bytes} (hlen : b.length = 32) (hz1 : zeroAt b 18 2 = true)
    (hz2 : zeroAt b 28 4 = true) : renderRx (u8 b 0) (parseRx b) = b.drop 0 := by
  have hskew : (parseRx b).feSkew.toList = [u16 b 20, u16 b 22, u16 b 24, u16 b 26] := Vector.toList_ofFn
  rw [renderRx, hskew, show zeros 4 = [0, 0, 0, 0] from rfl]
  simp [parseRx, be_u16, be_u32, cons_eq_drop_iff, slice_append_eq_drop_iff, u8_of_zeroAt hz1, u8_of_zeroAt hz2, hlen,
    -List.drop_zero, -List.drop_one]

theorem renderCal_parseCal {b : Bytes} (hlen : b.length = 16) (hz1 : zeroAt b 3 1 = true)
    (hz2 : zeroAt b 13 3 = true) : renderCal (u8 b 0) (parseCal b) = b.drop 0 := by
  rw [renderCal]
  simp [parseCal, be_u16, cons_eq_drop_iff, slice_append_eq_drop_iff, u8_of_zeroAt hz1, u8_of_zeroAt hz2, hlen,
    -List.drop_zero, -List.drop_one]

theorem renderFrame_parseFrame {b : Bytes} (hlen : b.length = 24) (hz1 : zeroAt b 7 1 = true)
    (hz2 : zeroAt b 14 2 = true) : renderFrame (u8 b 0) (parseFrame b) = b.drop 0 := by
  rw [renderFrame]
  simp [parseFrame, be_u16, be_u32, be_u64, cons_eq_drop_iff, slice_append_eq_drop_iff, slice_eq_drop,
    u8_of_zeroAt hz1, u8_of_zeroAt hz2, hlen, -List.drop_zero, -List.drop_one]

theorem renderMap_parseMap {b : Bytes} (hlen : b.length = 132) (hz : zeroAt b 2 2 = true) :
    renderMap (u8 b 0) (parseMap b) = b.drop 0 := by
  rw [renderMap, parseMap_entries hlen]
  simp [parseMap, cons_eq_drop_iff, slice_eq_drop, u8_of_zeroAt hz, hlen, -List.drop_zero, -List.drop_one]

theorem renderCport_parseCport {b : Bytes} (hlen : b.length = 8) (hz : zeroAt b 5 1 = true) :
    renderCport (u8 b 0) (parseCport b) = b.drop 0 := by
  rw [renderCport]
  simp [parseCport, be_u16, cons_eq_drop_iff, slice_eq_drop, u8_of_zeroAt hz, hlen, -List.drop_zero, -List.drop_one]

theorem renderLaneEq_parseLaneEq {b : Bytes} (hlen : b.length = 12) (hz : zeroAt b 8 4 = true) :
    renderLaneEq (u8 b 0) (parseLaneEq b) = b.drop 0 := by
  rw [renderLaneEq]
  simp [parseLaneEq, cons_eq_drop_iff, u8_of_zeroAt hz, hlen, -List.drop_zero, -List.drop_one]

/-- Settles O16: each layout's rendering, peeled field by field off the string it was parsed from, leaves nothing. -/
theorem configurationReadsBack : Obligations.ConfigurationReadsBack := by
  unfold Obligations.ConfigurationReadsBack
  constructor
  · rintro b e rfl
    exact ⟨renderTx_parseTx, renderRx_parseRx, renderCal_parseCal, renderFrame_parseFrame, renderMap_parseMap⟩
  · rintro b n rfl
    exact ⟨renderCport_parseCport, renderLaneEq_parseLaneEq⟩

end Sys2Proof.Machine
end

section
/-! Status reads of an engine (R127, R154, R161, R165, R187 to R189, R214, R252): behind its checks each read answers
one table. -/

namespace Sys2Proof.Machine

/-! ## Requests that name an engine in their first byte -/

section
variable {r : Request} {s : State} {e : Eng}

/-- The engine's number at the head of the parameters. -/
theorem field_engine {b p : Bytes} (hp : p = byte e.val :: b) : field p 0 1 = e.val := by
  rw [hp, field_cons_zero, byte_toNat_of_lt (by omega)]

/-- A request in form that names a populated engine of the port comes to its own answer. -/
theorem opcode_engine {op : BitVec 16} {body : State → Answer} {bad : Bool} {f : Eng → Answer}
    {data : Bytes} {t : State} (hx : Executes false r s)
    (hb : body (s.takeRequest op r) = engineGuards bad r (s.takeRequest op r) f) (hbad : bad = false)
    (hfield : field r.params 0 1 = e.val) (hhas : s.hasEngine e.val = true)
    (hholds : s.holdsEngine r.port e.val = true) (hf : f e = .ok .ok data t) :
    opcode op false r s body = answered op r .ok data t :=
  opcode_ok hx (hb.trans ((engineGuards_pass f hbad hfield (by simpa using hhas) (by simpa using hholds)).trans hf))

/-- A request that asks for an engine passes every check of an engine's read and comes to its answer. -/
theorem AsksEngine.answers (h : AsksEngine r s e) {op : BitVec 16} {body : State → Answer} {f : Eng → Answer}
    {data : Bytes} {t : State} (hx : Executes false r s)
    (hb : body (s.takeRequest op r) = engineGuards (badEngine3 r) r (s.takeRequest op r) f)
    (hf : f e = answer data t) : opcode op false r s body = answered op r .ok data t := by
  obtain ⟨hflag, hparams, hhas, hholds⟩ := h
  exact opcode_engine hx hb (by simp [badEngine3, badForm, hflag, hparams]) (field_engine hparams) hhas hholds hf

end

/-! ## Tables -/

/-- Data that are the fields of a table one behind the other, each at its place, hold the table. -/
theorem lays_of_flatten {data : Bytes} {n : Nat} {fields : List (Nat × Bytes)}
    (hdata : data = (fields.map Prod.snd).flatten) (hlen : data.length = n)
    (hplaces : placed 0 (fields.map Prod.snd) = fields) : Lays data n fields :=
  lays_placed hdata hlen hplaces.symm

theorem Lays.mono {data : Bytes} {n : Nat} {l m : List (Nat × Bytes)} (h : Lays data n m) (hsub : l ⊆ m) :
    Lays data n l := by
  obtain ⟨hlen, hfields⟩ := h
  exact ⟨hlen, fun x hx => hfields x (hsub hx)⟩

theorem Lays.slice_eq {data b : Bytes} {n o : Nat} {l : List (Nat × Bytes)} (h : Lays data n l) (hmem : (o, b) ∈ l) :
    slice data o b.length = b := by
  obtain ⟨-, hfields⟩ := h
  exact hfields _ hmem

theorem txStatus_lays (s : State) (e : Eng) : Lays (s.txStatus e) 16
    [(0, [byte e.val]), (1, [(s.eng e).txCode]),
      (2, [if (s.eng e).tx.mode = .enabling then
        (if (s.eng e).tx.step = 4 ∧ (s.eng e).rampDone = true then 5 else byte (s.eng e).tx.step) else 0]),
      (3, [(s.eng e).tx.lastQuench]), (4, [((s.eng e).tx.acquired &&& ~~~(s.eng e).tx.held).setWidth 8]),
      (5, [(s.eng e).tx.held.setWidth 8]), (6, be 2 (s.eng e).tx.pOut), (8, be 4 (s.eng e).tx.freqErr),
      (12, be 2 (s.eng e).tx.clipped), (14, [0, 0])] := by
  have hstep : byte (s.txStep e) = if (s.eng e).tx.mode = .enabling then
      (if (s.eng e).tx.step = 4 ∧ (s.eng e).rampDone = true then 5 else byte (s.eng e).tx.step) else 0 := by
    by_cases hmode : (s.eng e).tx.mode = .enabling
    · by_cases hdone : (s.eng e).tx.step = 4 ∧ (s.eng e).rampDone = true <;> simp [State.txStep, hmode, hdone, byte]
    · simp [State.txStep, hmode, byte]
  exact lays_of_flatten (by simp [State.txStatus, hstep]) (by simp [State.txStatus]) (by simp [placed])

theorem rxStatusBytes_lays (e : Eng) (x : Engine) : Lays (rxStatusBytes e x) 16
    [(0, [byte e.val]), (1, [rxCode x.rx.mode]), (2, [x.rx.lastRelock]), (3, [x.rx.frozen.setWidth 8]),
      (4, be 4 (BitVec.ofInt 32 x.rx.cdBulk)), (8, be 4 x.rx.acqCount), (12, be 4 x.rx.acqTime)] :=
  lays_of_flatten (by simp [rxStatusBytes]) (by simp [rxStatusBytes]) (by simp [placed])

theorem rxMonitorBytes_lays (e : Eng) (x : Engine) {m : RxMonitor} (hm : m = x.rx.monitor) :
    Lays (rxMonitorBytes e x) 56
      [(0, [byte e.val]), (1, [rxCode x.rx.mode]), (2, be 2 m.valid), (4, be 2 (ifValid m 0 m.pIn)),
        (6, be 2 (ifValid m 1 m.osnr)), (8, be 2 (ifValid m 2 m.snrE)), (10, be 2 (ifValid m 3 m.q)),
        (12, be 4 (ifValid m 4 m.berPre)), (16, be 4 (ifValid m 5 m.cdTotal)), (20, be 4 (ifValid m 6 m.cdResid)),
        (24, be 2 (ifValid m 7 m.dgd)), (26, be 2 (ifValid m 8 m.pdl)), (28, be 4 (ifValid m 9 m.sopRate)),
        (32, be 4 (ifValid m 10 m.freqOff)), (36, be 4 (ifValid m 11 m.clkOff)), (40, [byte x.rx.taps]),
        (41, [byte x.kernel]), (42, [0, 0]), (44, be 4 m.pilotErr), (48, be 6 m.time), (54, [0, 0])] := by
  subst hm
  exact lays_of_flatten (by simp [rxMonitorBytes]) (by simp [rxMonitorBytes]) (by simp [placed])

theorem adcEntry_length (k : Nat) (clock held : Bool) (mode : Byte) (a : Adc) :
    (adcEntry k clock held mode a).length = 8 := by simp [adcEntry]

theorem dacEntry_length (d : Fin 4) (clock held runs : Bool) (c : CalState) (mode : Byte) :
    (dacEntry d clock held runs c mode).length = 8 := by simp [dacEntry]

theorem calStatus_lays (s : State) (e : Eng) : Lays (s.calStatus e) 68
    ([(0, [byte e.val]), (1, [byte (bit (s.calInvalid e) 0 + bit (s.eng e).cal.held 1)]), (2, [0, 0])]
      ++ (List.finRange 4).map (fun k => (4 + 8 * k.val, adcEntry k.val (s.adcClock e) (s.eng e).cal.held
          (s.eng e).params.active.cal.adcMode (s.eng e).cal.adc[k]))
      ++ (List.finRange 4).map (fun k => (36 + 8 * k.val, dacEntry k (s.dacClock e) (s.eng e).cal.held (s.dacRuns e)
          (s.eng e).cal (s.eng e).dacSettings.dacMode))) := by
  have hfour : List.finRange 4 = [0, 1, 2, 3] := rfl
  exact lays_of_flatten (by simp [State.calStatus, hfour])
    (by simp [State.calStatus, hfour, adcEntry_length, dacEntry_length])
    (by simp [placed, hfour, adcEntry_length, dacEntry_length])

/-! ## FRAME_STATUS (R252) -/

theorem frameStatus_lays (s : State) (e : Eng) {d : Deframer} (hd : d = (s.eng e).deframer) :
    Lays (s.frameStatus e) 80
      [(0, [byte e.val]), (1, [deframerCode d.mode]),
        (2, [byte (bit d.los 0 + bit d.lof 1 + bit d.map 2 + bit d.link 3 + bit d.bdi 4 + bit d.twin 5 +
          bit (d.departed && d.los) 6)]),
        (3, [d.rxProfile.setWidth 8]), (4, be 4 (s.eng e).tx.fn), (8, be 4 d.fnr), (12, [d.rxLinkid]),
        (13, [d.rxMapgen.setWidth 8]), (14, [sat 8 (s.eng e).tx.chain.owed]),
        (15, [if (s.eng e).params.active.isTwin then byte (s.eng (lowerOf e)).twin.selected.val else 0]),
        (16, be 2 d.rx.bdiSum), (18, d.rx.dep), (20, be 4 d.rx.aps), (24, be 8 d.rx.fstat), (32, be 16 d.replaced),
        (48, be 16 d.rx.bdiSlot), (64, beBytes 4 d.roundTrip),
        (68, be 4 (if (s.eng e).params.active.isTwin then satInt 32 (s.eng (lowerOf e)).twin.skew else 0)),
        (72, [(s.eng e).scState]), (73, [0]), (74, be 2 (s.eng e).sc.slips), (76, be 4 d.ohcFail)] := by
  subst hd
  refine lays_of_flatten ?_ (by simp [State.frameStatus, Overhead.dep]) (by simp [placed, Overhead.dep])
  by_cases htwin : (s.eng e).params.active.isTwin = true
  · simp [State.frameStatus, Deframer.defects, htwin]
  · simp [State.frameStatus, Deframer.defects, htwin, satInt, byte]

/-! ## FEC_STATUS (R214) -/

@[simp] theorem beBytes_one (v : Nat) : beBytes 1 v = [byte v] :=
  congrArg (fun b => [b]) (BitVec.eq_of_toNat_eq (by simp [byte]))

@[simp] theorem State.freeBytes_length (s : State) (n k : Nat) : (s.freeBytes n k).length = n := by
  simp [State.freeBytes]

@[simp] theorem State.orFree_length (s : State) (n k : Nat) (v : Option Nat) : (s.orFree n k v).length = n := by
  cases v <;> simp [State.orFree]

/-- A quotient rounded down or up. -/
theorem State.whole_toNat (s : State) (k a d : Nat) :
    (s.whole k (a : Int) d).toNat = a / d ∨ (s.whole k (a : Int) d).toNat = a / d + 1 := by
  have hquot : (a : Int) / d = ((a / d : Nat) : Int) := rfl
  rw [State.whole, hquot]
  generalize a / d = q
  split
  · exact .inl (by omega)
  · rcases Nat.mod_two_eq_zero_or_one (Config.freeValue (s.fresh + k)) with h | h
    · exact .inl (by omega)
    · exact .inr (by omega)

/-- PHASE of R214: the decoder's phase, none in the loop and while no chain is aligned. -/
def Engine.phaseCode (x : Engine) : Byte :=
  match x.fec.phase with
  | some c => if x.rxParams.line = 6 then 0xFF else byte c.val
  | none => 0xFF

/-- The table of FEC_STATUS, free values and all. -/
def State.fecTable (s : State) (e : Eng) : List (Nat × Bytes) :=
  let x := s.eng e
  [(0, [byte e.val]), (1, [x.fecCode]), (2, s.orFree 1 0 x.rxParams.window), (3, s.orFree 1 1 x.rxParams.iters),
    (4, s.orFree 1 4 (if x.fec.iActive == 0 then none else some x.fec.iActive)), (5, [byte x.iLimit]),
    (6, [x.phaseCode]), (7, [byte (bit x.fec.etOff 0 + bit (x.fec.last.uncorr != 0) 1)]),
    (8, s.orFree 4 2 ((x.rxParams.limit x.fec.iActive).map fun l => (s.whole 2 (l * 2 ^ 36) 40000).toNat)),
    (12, be 2 x.marginUsed),
    (14, s.orFree 2 3 (if x.fec.last.advances == 0 then none
      else some (s.whole 3 (x.fec.last.iterations * 256) x.fec.last.advances).toNat)),
    (16, be 4 (sat 32 x.fec.last.positions)), (20, be 4 (sat 32 x.fec.last.uncorr)),
    (24, be 4 (sat 32 x.fec.last.corrected)), (28, be 4 x.fec.chainFnr)]

theorem fecStatus_lays (s : State) (e : Eng) : Lays (s.fecStatus e) 32 (s.fecTable e) := by
  refine lays_of_flatten ?_ (by simp [State.fecStatus]) (by simp [State.fecTable, placed])
  cases hphase : (s.eng e).fec.phase <;> simp [State.fecStatus, State.fecTable, Engine.phaseCode, hphase]

/-- What no free value stands for in FEC_STATUS (R214). -/
theorem fecStatus_reads (s : State) (e : Eng) :
    Lays (s.fecStatus e) 32 [(0, [byte e.val]), (1, [(s.eng e).fecCode]), (5, [byte (s.eng e).iLimit]),
      (6, [(s.eng e).phaseCode]), (7, [byte (bit (s.eng e).fec.etOff 0 + bit ((s.eng e).fec.last.uncorr != 0) 1)]),
      (12, be 2 (s.eng e).marginUsed), (16, be 4 (sat 32 (s.eng e).fec.last.positions)),
      (20, be 4 (sat 32 (s.eng e).fec.last.uncorr)), (24, be 4 (sat 32 (s.eng e).fec.last.corrected)),
      (28, be 4 (s.eng e).fec.chainFnr)] :=
  (fecStatus_lays s e).mono (by simp [State.fecTable])

section
variable {s : State} {e : Eng}

/-- A field of FEC_STATUS that has a stated value shows it. -/
theorem fecStatus_slice_of_some {o n v : Nat} (k : Nat) {x : Option Nat}
    (hmem : (o, s.orFree n k x) ∈ s.fecTable e) (hx : x = some v) : slice (s.fecStatus e) o n = beBytes n v := by
  have h := (fecStatus_lays s e).slice_eq hmem
  rw [State.orFree_length] at h
  rw [h, hx, State.orFree]

theorem fecStatus_window {w : Nat} (h : (s.eng e).rxParams.window = some w) : slice (s.fecStatus e) 2 1 = [byte w] :=
  (fecStatus_slice_of_some 0 (by simp [State.fecTable]) h).trans (beBytes_one w)

theorem fecStatus_iters {i : Nat} (h : (s.eng e).rxParams.iters = some i) : slice (s.fecStatus e) 3 1 = [byte i] :=
  (fecStatus_slice_of_some 1 (by simp [State.fecTable]) h).trans (beBytes_one i)

theorem fecStatus_iActive (h : (s.eng e).fec.iActive ≠ 0) :
    slice (s.fecStatus e) 4 1 = [byte (s.eng e).fec.iActive] := by
  have hsome : (if (s.eng e).fec.iActive == 0 then none else some (s.eng e).fec.iActive) = some _ :=
    if_neg (by simpa using h)
  exact (fecStatus_slice_of_some 4 (by simp [State.fecTable]) hsome).trans (beBytes_one _)

theorem fecStatus_limit {l : Nat} (h : (s.eng e).rxParams.limit (s.eng e).fec.iActive = some l) :
    ∃ v, slice (s.fecStatus e) 8 4 = beBytes 4 v ∧ (v = l * 2 ^ 36 / 40000 ∨ v = l * 2 ^ 36 / 40000 + 1) := by
  have hmem : (8, s.orFree 4 2 (some (s.whole 2 (l * 2 ^ 36) 40000).toNat)) ∈ s.fecTable e := by
    simp [State.fecTable, h]
  exact ⟨_, fecStatus_slice_of_some 2 hmem rfl, by exact_mod_cast s.whole_toNat 2 (l * 2 ^ 36) 40000⟩

theorem fecStatus_avgIter (h : (s.eng e).fec.last.advances ≠ 0) : ∃ v, slice (s.fecStatus e) 14 2 = beBytes 2 v ∧
    (v = (s.eng e).fec.last.iterations * 256 / (s.eng e).fec.last.advances ∨
      v = (s.eng e).fec.last.iterations * 256 / (s.eng e).fec.last.advances + 1) := by
  have hsome : (if (s.eng e).fec.last.advances == 0 then none
      else some (s.whole 3 ((s.eng e).fec.last.iterations * 256) (s.eng e).fec.last.advances).toNat) = some _ :=
    if_neg (by simpa using h)
  exact ⟨_, fecStatus_slice_of_some 3 (by simp [State.fecTable]) hsome,
    by exact_mod_cast s.whole_toNat 3 ((s.eng e).fec.last.iterations * 256) _⟩

end

/-! ## CAL_SLICE_READ, CAL_RECORDS and RX_CAPTURE_READ (R161, R188, R189) -/

/-- The entry of an ADC's slice (R188). -/
theorem sliceEntry_adc : sliceEntry false = fun x => [byte (sliceCode x.mode + bit x.marginal 2 + bit x.fuseFailed 3),
    if x.mode = .active then byte x.pos else 0xFF, x.offset, x.gain] ++ be 2 (x.skew.signExtend 16) := by
  funext x
  simp [sliceEntry]

/-- The entry of a DAC's slice, which has no mode (R188). -/
theorem sliceEntry_dac : sliceEntry true = fun x => [byte (bit x.marginal 2 + bit x.fuseFailed 3), byte x.pos,
    x.offset, x.gain] ++ be 2 (x.skew.signExtend 16) := by
  funext x
  simp [sliceEntry]

section
variable {r : Request} {s : State} {e : Eng}

theorem exec_calSliceRead {k : Fin 8} (hx : Executes false r s) (hflag : r.flag0 = false)
    (hparams : r.params = [byte e.val, byte k.val, 0, 0]) (hhas : s.hasEngine e.val = true)
    (hholds : s.holdsEngine r.port e.val = true) : Reads 0x0604 .calSliceRead r s fun s =>
      if h : k.val < 4 then [byte k.val, 0, 1, 0] ++
        ((s.eng e).cal.adc[k.val].active.toList.map fun x => [byte (sliceCode x.mode + bit x.marginal 2 +
          bit x.fuseFailed 3), if x.mode = .active then byte x.pos else 0xFF, x.offset, x.gain] ++
          be 2 (x.skew.signExtend 16)).flatten
      else [byte k.val, 0, 0, 4] ++
        ((s.eng e).cal.dac[k.val - 4].active.toList.map fun x => [byte (bit x.marginal 2 + bit x.fuseFailed 3),
          byte x.pos, x.offset, x.gain] ++ be 2 (x.skew.signExtend 16)).flatten := by
  have hn : field r.params 0 1 = e.val := field_engine hparams
  have hk : field r.params 1 1 = k.val := by
    rw [hparams, field_cons_succ, field_cons_zero, byte_toNat_of_lt (by omega)]
  refine opcode_ok hx ?_
  simp only [calSliceReadBody, hn, hk, engOf_val, sliceEntry_adc, sliceEntry_dac]
  refine (guards_pastTenancy ?form ?range (by simp [hholds]) [] _).trans ?data
  case form => simp [badForm, hflag, hparams]
  case range => simpa [hhas] using Nat.le_pred_of_lt k.isLt
  case data =>
    rw [guards_nil]
    by_cases h : k.val < 4
    · have hadc : Fin.ofNat 4 k.val = ⟨k.val, h⟩ := Fin.ext (Nat.mod_eq_of_lt h)
      simp only [h, if_true, dif_pos, hadc]
      rfl
    · have hdac : Fin.ofNat 4 k.val = ⟨k.val - 4, by omega⟩ := Fin.ext (by simp; omega)
      simp only [h, if_false, dif_neg, not_false_eq_true, hdac]
      rfl

theorem exec_rxCaptureRead {o : BitVec 32} {n : BitVec 16} (hx : Executes false r s) (hflag : r.flag0 = false)
    (hparams : r.params = [byte e.val, 0] ++ be 4 o ++ be 2 n) (hn : n ≠ 0) (hmost : n.toNat ≤ 4080)
    (ho : o.toNat < (s.eng e).rx.capture.length) (hhas : s.hasEngine e.val = true)
    (hholds : s.holdsEngine r.port e.val = true) :
    Reads 0x0508 .rxCaptureRead r s fun s => slice (s.eng e).rx.capture o.toNat n.toNat := by
  have hp : r.params = byte e.val :: 0 :: (be 4 o ++ be 2 n) := by simp [hparams]
  have he : field r.params 0 1 = e.val := field_engine hp
  have hoff : field r.params 2 4 = o.toNat := by rw [hp, field_cons_succ, field_cons_succ, field_be4]
  have hlen : field r.params 6 2 = n.toNat := by
    rw [hp, field_cons_succ, field_cons_succ, field_be4_succ _ _ 0, field_be2_only]
  have hpos : n.toNat ≠ 0 := fun h => hn (BitVec.eq_of_toNat_eq h)
  refine opcode_ok hx ?_
  rw [rxCaptureReadBody, he, hoff, hlen, engOf_val]
  refine guards_pastTenancy ?_ ?_ ?_ [] _
  · simp [badForm, hflag, hp, hpos, hmost]
  · simp [hhas, ho]
  · simp [hholds]

end

/-- Settles O20: each read is one table behind the checks that every read of an engine makes. -/
theorem engineStatusReads : Obligations.EngineStatusReads := by
  unfold Obligations.EngineStatusReads
  refine fun r s e hx => ⟨fun h => ⟨?tx, ?rx, ?monitor, ?cal, ?fec, ?frame⟩, ?slices, ?records, ?capture⟩
  case tx => exact ⟨_, h.answers hx rfl rfl, txStatus_lays s e⟩
  case rx => exact ⟨_, h.answers hx rfl rfl, rxStatusBytes_lays e (s.eng e)⟩
  case monitor => exact fun m hm => ⟨_, h.answers hx rfl rfl, rxMonitorBytes_lays e (s.eng e) hm⟩
  case cal => exact ⟨_, h.answers hx rfl rfl, calStatus_lays s e⟩
  case fec =>
    exact ⟨s.fecStatus e, h.answers hx rfl rfl, fecStatus_reads s e, fun w => fecStatus_window, fun i => fecStatus_iters,
      fecStatus_iActive, fun l => fecStatus_limit, fecStatus_avgIter⟩
  case frame => exact fun d hd => ⟨_, h.answers hx rfl rfl, frameStatus_lays s e hd⟩
  case slices => exact fun k hflag hparams hhas hholds => exec_calSliceRead hx hflag hparams hhas hholds
  case records =>
    intro hform
    refine opcode_ok hx ?_
    rw [calRecordsBody, formed_badForm hform, guards_false, guards_nil]
    rfl
  case capture =>
    exact fun o n hflag hparams hn hmost ho hhas hholds => exec_rxCaptureRead hx hflag hparams hn hmost ho hhas hholds

end Sys2Proof.Machine
end

section
/-! The transmitter's sequences (R117, R120 to R123, R128): what holds, quenches and moves of the receiver make of one
engine's transmitter and receiver, and each event at its conditions. -/

namespace Sys2Proof.Machine

/-! ## The two ends of an engine -/

/-- Transmitter and receiver of an engine: what no defect, event or decoder's reset moves. -/
def State.ends (s : State) (e : Eng) : TxState × RxState := ((s.eng e).tx, (s.eng e).rx)

section
variable (s : State) (e : Eng)

@[simp] theorem ite_ends (c : Prop) [Decidable c] (t : State) :
    (if c then s else t).ends e = if c then s.ends e else t.ends e :=
  apply_ite (fun u : State => u.ends e) _ _ _

@[simp] theorem State.raise_ends (c : BitVec 16) (pl : Place) (d : Bytes) : (s.raise c pl d).ends e = s.ends e := by
  simp only [State.ends, State.raise_eng]

@[simp] theorem State.skip_ends : s.skip.ends e = s.ends e := rfl

@[simp] theorem State.updEng_ends (f : Engine → Engine) :
    (s.updEng e f).ends e = ((f (s.eng e)).tx, (f (s.eng e)).rx) := by
  rw [State.ends, State.eng_updEng_same]

@[simp] theorem State.rehold_ends (c : Byte) :
    (s.rehold e c).ends e = ({ (s.ends e).1 with held := s.holdSet e }, (s.ends e).2) := by
  simp only [State.rehold, ite_ends, State.raise_ends, State.updEng_ends, ite_self]
  rfl

theorem State.rehold_tx (c : Byte) : ((s.rehold e c).eng e).tx = { (s.eng e).tx with held := s.holdSet e } :=
  congrArg Prod.fst (s.rehold_ends e c)

@[simp] theorem State.maskSmall_ends : (s.maskSmall e).ends e = s.ends e := by
  simp only [State.maskSmall, ite_ends, State.raise_ends, State.updEng_ends, ite_self]
  rfl

@[simp] theorem State.lofClear_ends (d : Bytes) : (s.lofClear e d).ends e = s.ends e := by
  simp only [State.lofClear, ite_ends, State.raise_ends, State.updEng_ends]
  exact ite_self _

@[simp] theorem State.lofRaise_ends : (s.lofRaise e).ends e = s.ends e := by
  simp only [State.lofRaise, ite_ends, State.maskSmall_ends, State.raise_ends, State.updEng_ends]
  exact ite_self _

@[simp] theorem State.setLos_ends (on : Bool) : (s.setLos e on).ends e = s.ends e := by
  simp only [State.setLos, ite_ends, State.maskSmall_ends, State.lofClear_ends, State.skip_ends, State.raise_ends,
    State.updEng_ends, ite_self]
  exact ite_self _

@[simp] theorem State.deframerOff_ends : (s.deframerOff e).ends e = s.ends e := s.updEng_ends e _

@[simp] theorem State.fecReset_ends : (s.fecReset e).ends e = s.ends e := s.updEng_ends e _

@[simp] theorem State.txStop_ends : (s.txStop e).ends e =
    ({ (s.ends e).1 with running := false, frame := none, cann := {}, cack := {} }, (s.ends e).2) := s.updEng_ends e _

/-! ## Moves of the receiver (R149) -/

theorem State.rxOff_ends : ∃ x, (s.rxOff e).ends e = ((s.ends e).1, x) ∧ x.mode = .off := by
  unfold State.rxOff
  split
  next hoff => exact ⟨_, rfl, eq_of_beq hoff⟩
  next =>
    simp only [State.fecReset_ends, State.setLos_ends, State.deframerOff_ends, State.updEng_ends]
    exact ⟨_, rfl, rfl⟩

theorem State.rxWait_ends : ∃ x, (s.rxWait e).ends e = ((s.ends e).1, x) ∧ x.mode = .waitLight := by
  simp only [State.rxWait, State.fecReset_ends, State.setLos_ends, State.deframerOff_ends, State.updEng_ends]
  exact ⟨_, rfl, rfl⟩

theorem State.rxFreq_ends (fast : Bool) :
    ∃ x, (s.rxFreq e fast).ends e = ((s.ends e).1, x) ∧ x.mode = .freq ∧ x.fast = fast ∧ x.frozen = 0 := by
  simp only [State.rxFreq, State.fecReset_ends, State.setLos_ends, State.deframerOff_ends, ite_ends,
    State.lofRaise_ends, ite_self, State.updEng_ends]
  exact ⟨_, rfl, rfl, rfl, rfl⟩

/-! ## The fast quench (R121) -/

/-- A fast quench leaves the transmitter QUENCHING for its reason behind full attenuation and the receiver OFF; a
transmitter without a profile stops with it (R121, R149, R219). -/
theorem State.fastQuench_ends (reason : Byte) (ended : Bool) :
    ∃ t x, (s.fastQuench e reason ended).ends e = (t, x) ∧ t.mode = .quenching ∧ t.reason = reason ∧
      t.setpoint = fullAttenuation ∧ t.fault = (s.eng e).tx.fault ∧
      ((s.eng e).txParams.line = 0 → t.running = false) ∧ x.mode = .off := by
  unfold State.fastQuench
  obtain ⟨x, hx, hoff⟩ := State.rxOff_ends (State.reholdDark _ e) e
  refine ⟨_, x, hx, ?_⟩
  simp only [State.reholdDark, State.rehold_ends, State.skip_ends, ite_ends, State.txStop_ends, State.updEng_ends]
  split
  next hstops => exact ⟨rfl, rfl, rfl, rfl, fun _ => rfl, hoff⟩
  next hstays =>
    refine ⟨rfl, rfl, rfl, rfl, fun hline => absurd ?_ hstays, hoff⟩
    simp [hline]

/-- A reason without DEP brings a lit engine to the fast quench, fault or none (R121). -/
theorem State.quench_lit_tx {s : State} {e : Eng} {r : Byte} (hlit : (s.eng e).tx.mode = .lit)
    (hr : orderly r = false) : ((s.quench e r).eng e).tx.fault = (s.eng e).tx.fault ∧
      ((s.quench e r).eng e).tx.mode = .quenching ∧ ((s.quench e r).eng e).tx.reason = r := by
  obtain ⟨t, x, hends, hmode, hreason, -, hfault, -⟩ := s.fastQuench_ends e r false
  obtain ⟨rfl, rfl⟩ := Prod.mk.inj hends
  rw [State.quench_lit hlit hr]
  exact ⟨hfault, hmode, hreason⟩

/-- A receiver that is OFF begins to wait for light; the transmitter stays (R149). -/
theorem State.rxWake_ends : ((if (s.eng e).rx.mode == .off then s.rxWait e else s).ends e).1 = (s.ends e).1 ∧
    ((s.ends e).2.mode = .off →
      ((if (s.eng e).rx.mode == .off then s.rxWait e else s).ends e).2.mode = .waitLight) := by
  obtain ⟨x, hx, hwait⟩ := s.rxWait_ends e
  rw [ite_ends, hx]
  split
  next => exact ⟨rfl, fun _ => hwait⟩
  next hon => exact ⟨rfl, fun hoff => absurd (beq_iff_eq.mpr hoff) hon⟩

end

/-! ## Events (R116 to R122) -/

section
variable {s : State} {e : Eng}

/-- What an event of a ready module does under its condition, where it moves one engine's signal path alone. -/
theorem actsOn_eventIf {c : Instr} {cond : Bool} {f : State → State} {P : State → Prop} (hready : s.ready = true)
    (hexec : exec c s = eventIf s cond f) (hcond : cond = true) (honly : EngineOnly e s (f s)) (hP : P (f s)) :
    ActsOn e c s P :=
  ⟨f s, hexec.trans (eventIf_true hready hcond f), honly, hP⟩

theorem actsOn_lockerLocked (hready : s.ready = true) (hmode : (s.eng e).tx.mode = .enabling)
    (hstep : (s.eng e).tx.step = 1) : ActsOn e (.lockerLocked e) s fun t =>
      (t.eng e).tx.mode = .enabling ∧
      (t.eng e).tx.step = (if (s.eng e).tx.hostHold == 0x3F && !s.gauge.hold then 4 else 3) ∧
      ((s.eng e).rx.mode = .off → (t.eng e).rx.mode = .waitLight) := by
  refine actsOn_eventIf hready (show execLockerLocked e s = _ from rfl) (by simp [hmode, hstep]) ?only ?ends
  case only =>
    refine engineOnly_ite (EngineOnly.trans ?_ (engineOnly_rxWait e _)) ?_
    all_goals exact (engineOnly_updEng e s rfl).trans (engineOnly_rehold e _ 0x02)
  case ends =>
    obtain ⟨htx, hrx⟩ := State.rxWake_ends (State.rehold _ e 0x02) e
    rw [State.rehold_ends, State.updEng_ends] at htx hrx
    exact ⟨(congrArg TxState.mode htx).trans hmode, congrArg TxState.step htx, hrx⟩

theorem actsOn_biasAcquired (hready : s.ready = true) (hmode : (s.eng e).tx.mode = .enabling)
    (hstep : (s.eng e).tx.step = 3) (hhold : s.gauge.hold = false) :
    ActsOn e (.biasAcquired e) s fun t => (t.eng e).tx.step = 4 ∧ (t.eng e).tx.acquired = 0x3F := by
  refine actsOn_eventIf hready (show execBiasAcquired e s = _ from rfl) (by simp [hmode, hstep, hhold])
    (engineOnly_updEng e s rfl) ?_
  rw [State.eng_updEng_same]
  exact ⟨rfl, rfl⟩

theorem actsOn_txReady {pOut : BitVec 16} {freqErr : BitVec 32} (hready : s.ready = true)
    (hmode : (s.eng e).tx.mode = .enabling) (hstep : (s.eng e).tx.step = 4)
    (hramp : (s.eng e).tx.setpoint = (s.eng e).txParams.launch)
    (hpower : (s.eng e).txParams.powerOk pOut (s.eng e).txParams.launch 50000000 = true) :
    ActsOn e (.txReady e pOut freqErr) s fun t =>
      (t.eng e).tx.mode = .lit ∧ (t.eng e).tx.pOut = pOut ∧ (t.eng e).tx.freqErr = freqErr := by
  refine actsOn_eventIf hready (show execTxReady e pOut freqErr s = _ from rfl)
    (by simp [hmode, hstep, Engine.rampDone, hramp, hpower])
    ((engineOnly_updEng e s rfl).trans (engineOnly_raise e _ _ _ _)) ?_
  rw [State.raise_eng, State.eng_updEng_same]
  exact ⟨rfl, rfl, rfl⟩

theorem actsOn_depEnd (hready : s.ready = true) (hmode : (s.eng e).tx.mode = .departing)
    (hlast : (s.eng e).tx.depLeft = some 0) : ActsOn e (.depEnd e) s fun t =>
      (t.eng e).tx.mode = .quenching ∧ (t.eng e).tx.setpoint = -3500000000 ∧ (t.eng e).rx.mode = .off ∧
      ((s.eng e).txParams.line = 0 → (t.eng e).tx.running = false) := by
  obtain ⟨t, x, hends, hquench, -, hset, -, hstop, hoff⟩ := s.fastQuench_ends e (s.eng e).tx.reason true
  refine actsOn_eventIf hready (show execDepEnd e s = _ from rfl) (by simp [hmode, hlast])
    (engineOnly_fastQuench e s _ true) ?_
  obtain ⟨rfl, rfl⟩ := Prod.mk.inj hends
  exact ⟨hquench, hset, hoff, hstop⟩

theorem actsOn_txQuenched (hready : s.ready = true) (hmode : (s.eng e).tx.mode = .quenching)
    (hnext : (s.eng e).tx.enableNext = false) (hfn : (s.eng e).tx.newFn = false) :
    ActsOn e (.txQuenched e) s fun t => (t.eng e).tx.lastQuench = (s.eng e).tx.reason ∧
      (t.eng e).tx.mode = (if (s.eng e).tx.fault then .laserFault else if s.weir.hold then .heldDark else .dark) := by
  refine actsOn_eventIf hready (show execTxQuenched e s = _ from rfl) (by simp [hmode]) ?only ?ends
  all_goals simp only [hnext, hfn, Bool.false_and, Bool.false_eq_true, if_false, ite_self]
  case only => exact (engineOnly_updEng e s rfl).trans (engineOnly_raise e _ _ _ _)
  case ends =>
    rw [State.raise_eng, State.eng_updEng_same]
    exact ⟨rfl, rfl⟩

/-- A laser fault of a lit engine is a reason without DEP (R121, R122). -/
theorem actsOn_laserFault {cause : Fin 3} (hready : s.ready = true) (hmode : (s.eng e).tx.mode = .lit)
    (hhold : s.gauge.hold = false) (hhas : s.hasEngine e.val = true) (hfault : (s.eng e).tx.fault = false)
    (hvalid : s.calInvalid e = false) : ActsOn e (.laserFault e cause) s fun t =>
      (t.eng e).tx.fault = true ∧ (t.eng e).tx.mode = .quenching ∧ (t.eng e).tx.reason = 7 := by
  refine actsOn_eventIf hready (show execLaserFault e cause s = _ from rfl)
    (by simp [hhas, hfault, hvalid, hhold, Engine.litOrEnabling, hmode])
    (((engineOnly_updEng e s rfl).trans (engineOnly_raise e _ _ _ _)).trans (engineOnly_quench e _ 7)) ?_
  refine And.imp_left (fun hkept => hkept.trans ?_) (State.quench_lit_tx ?_ rfl)
  all_goals rw [State.raise_eng, State.eng_updEng_same]
  simp only [hmode]

theorem actsOn_txPowerFault {pOut nearest : BitVec 16} (hready : s.ready = true) (hmode : (s.eng e).tx.mode = .lit)
    (hlast : (s.eng e).txParams.powerOk pOut (s.eng e).tx.setpoint 150000000 = false)
    (hnearest : (s.eng e).txParams.powerOk nearest (s.eng e).tx.setpoint 150000000 = false) :
    ActsOn e (.txPowerFault e pOut nearest) s fun t => (t.eng e).tx.pOut = pOut ∧ (t.eng e).tx.mode = .lit := by
  refine actsOn_eventIf hready (show execTxPowerFault e pOut nearest s = _ from rfl) (by simp [hmode, hlast, hnearest])
    ((engineOnly_updEng e s rfl).trans (engineOnly_raise e _ _ _ _)) ?_
  rw [State.raise_eng, State.eng_updEng_same]
  exact ⟨rfl, hmode⟩

end

/-- Settles O21: each event of the two sequences moves its engine's transmitter and receiver alone. -/
theorem transmitterSequence : Obligations.TransmitterSequence := by
  unfold Obligations.TransmitterSequence
  intro s e pOut nearest freqErr cause hready
  exact ⟨actsOn_lockerLocked hready, actsOn_biasAcquired hready, actsOn_txReady hready, actsOn_depEnd hready,
    actsOn_txQuenched hready, actsOn_laserFault hready, actsOn_txPowerFault hready⟩

end Sys2Proof.Machine
end

section
/-! Requests that act on an engine's signal path (R128, R160 to R162): behind the checks of every engine request each is
its effect on that engine. -/

namespace Sys2Proof.Machine

section
variable {r : Request} {s : State} {e : Eng}

/-- A number of up to eight bits in the byte behind the engine's. -/
theorem second_of_setWidth {w : Nat} {v : BitVec w} {x : Byte} {b p : Bytes} (hw : w ≤ 8)
    (hp : p = x :: v.setWidth 8 :: b) : field p 1 1 = v.toNat ∧ (u8 p 1).setWidth w = v := by
  have hlt : v.toNat < 2 ^ 8 := v.isLt.trans_le (Nat.pow_le_pow_right (by decide) hw)
  have hfield : field p 1 1 = v.toNat := by
    rw [hp, field_cons_succ, field_cons_zero, BitVec.toNat_setWidth, Nat.mod_eq_of_lt hlt]
  refine ⟨hfield, BitVec.eq_of_toNat_eq ?_⟩
  rw [u8, hfield, BitVec.toNat_setWidth, BitVec.toNat_ofNat, Nat.mod_eq_of_lt hlt, Nat.mod_eq_of_lt v.isLt]

/-! ## TX_BIAS_HOLD (R128) -/

theorem engineOnly_hostHold (e : Eng) (s : State) (hold : BitVec 6) : EngineOnly e s (s.hostHold e hold) := by
  have hheld := (engineOnly_updEng e s (f := fun x => { x with tx := { x.tx with hostHold := hold } }) rfl).trans
    (engineOnly_rehold e _ 0x02)
  exact engineOnly_ite (hheld.trans (engineOnly_updEng e _ rfl)) hheld

/-- The host's hold stands, and the loops held follow it unless the laser is dark or the Gauge holds them (R118,
R128). -/
theorem State.hostHold_tx (s : State) (e : Eng) (hold : BitVec 6) :
    ((s.hostHold e hold).eng e).tx.hostHold = hold ∧ ((s.hostHold e hold).eng e).tx.held =
      if laserDark (s.eng e).tx || s.gauge.hold then 0x3F else hold := by
  have hset : (s.updEng e fun x => { x with tx := { x.tx with hostHold := hold } }).holdSet e =
      if laserDark (s.eng e).tx || s.gauge.hold then 0x3F else hold := by
    rw [State.holdSet, State.eng_updEng_same]
    rfl
  unfold State.hostHold
  dsimp only
  split
  next =>
    rw [State.eng_updEng_same, State.rehold_tx, State.eng_updEng_same, hset]
    exact ⟨rfl, rfl⟩
  next =>
    rw [State.rehold_tx, State.eng_updEng_same, hset]
    exact ⟨rfl, rfl⟩

theorem exec_txBiasHold {hold : BitVec 6} (hx : Executes false r s) (hflag : r.flag0 = false)
    (hparams : r.params = [byte e.val, hold.setWidth 8]) (hhas : s.hasEngine e.val = true)
    (hholds : s.holdsEngine r.port e.val = true) :
    exec (.txBiasHold r) s = answered 0x0404 r .ok [] ((s.takeRequest 0x0404 r).hostHold e hold) := by
  obtain ⟨hfield, hu⟩ := second_of_setWidth (by decide) hparams
  refine opcode_engine hx rfl ?_ (field_engine hparams) hhas hholds (by rw [hu])
  rw [hfield]
  simpa [badForm, hflag, hparams] using Nat.le_pred_of_lt hold.isLt

/-! ## RX_REACQUIRE (R162) -/

theorem exec_rxReacquire {short : Bool} (hx : Executes false r s) (hflag : r.flag0 = false)
    (hparams : r.params = [byte e.val, byte short.toNat, 0, 0]) (hhas : s.hasEngine e.val = true)
    (hholds : s.holdsEngine r.port e.val = true) (hon : acquiring (s.eng e).rx.mode = true) :
    exec (.rxReacquire r) s = answered 0x0505 r .ok []
      (((s.takeRequest 0x0505 r).rxFreq e short).relock e 5 (rxCode (s.eng e).rx.mode)) := by
  have hfield : field r.params 1 1 = short.toNat := by
    rw [hparams, field_cons_succ, field_cons_zero]
    cases short <;> rfl
  have hshort : (short.toNat == 1) = short := by cases short <;> rfl
  have hmode : ((s.eng e).rx.mode == .off) = false := beq_eq_false_iff_ne.mpr fun h => by simp [h, acquiring] at hon
  refine opcode_engine hx rfl ?form (field_engine hparams) hhas hholds ?answer
  case form =>
    rw [hfield]
    cases short <;> simp [badForm, hflag, hparams]
  case answer => simp only [takeRequest_eng, hmode, guards_false, guards_nil, hon, if_true, hfield, hshort]

/-- A receiver that acquires anew is in FREQ, thawed, with cause 5 (R149, R160, R162). -/
theorem State.reacquired_rx (s : State) (e : Eng) (short : Bool) (c left : Byte) :
    (((s.rxFreq e short).relock e c left).eng e).rx.mode = .freq ∧
      (((s.rxFreq e short).relock e c left).eng e).rx.fast = short ∧
      (((s.rxFreq e short).relock e c left).eng e).rx.frozen = 0 ∧
      (((s.rxFreq e short).relock e c left).eng e).rx.lastRelock = c := by
  obtain ⟨x, hends, hmode, hfast, hthaw⟩ := s.rxFreq_ends e short
  obtain ⟨-, rfl⟩ := Prod.mk.inj hends
  rw [State.relock, State.raise_eng, State.eng_updEng_same]
  exact ⟨hmode, hfast, hthaw, rfl⟩

/-! ## RX_FREEZE (R160) -/

theorem exec_rxFreeze {mask : BitVec 4} (hx : Executes false r s) (hflag : r.flag0 = false)
    (hparams : r.params = [byte e.val, mask.setWidth 8, 0, 0]) (hhas : s.hasEngine e.val = true)
    (hholds : s.holdsEngine r.port e.val = true) (hoxbow : (s.eng e).params.active.oxbow = true) :
    Writes 0x0506 .rxFreeze r s fun s => s.updEng e fun x => { x with rx := { x.rx with frozen := mask } } := by
  obtain ⟨hfield, hu⟩ := second_of_setWidth (by decide) hparams
  refine opcode_engine hx rfl ?form (field_engine hparams) hhas hholds ?answer
  case form =>
    rw [hfield]
    simpa [badForm, hflag, hparams] using Nat.le_pred_of_lt mask.isLt
  case answer => simp only [takeRequest_eng, hoxbow, Bool.not_true, guards_false, guards_nil, hu]

/-! ## RX_CAPTURE (R161) -/

theorem exec_rxCapture {point : Byte} {count : BitVec 16} (hx : Executes false r s) (hflag : r.flag0 = false)
    (hparams : r.params = [byte e.val, point] ++ be 2 count) (hhas : s.hasEngine e.val = true)
    (hholds : s.holdsEngine r.port e.val = true) (hpoint : point ≠ 0) (hlast : point.toNat ≤ 6) (hcount : count ≠ 0)
    (hmost : count.toNat ≤ (capturePoint point.toNat).2) (hfree : (s.eng e).rx.capturing = none)
    (hon : (s.eng e).rx.mode ≠ .off) :
    exec (.rxCapture r) s = .next (((s.takeRequest 0x0507 r).updEng e fun x => { x with rx := { x.rx with
      capture := [], capturing := some {
        request := r, point := point, count := count.toNat, start := s.moduleTime + 1 } } }).runOn 0x0507 r) := by
  have hp : r.params = byte e.val :: point :: be 2 count := by simp [hparams]
  have hpt : field r.params 1 1 = point.toNat := by rw [hp, field_cons_succ, field_cons_zero]
  have hct : field r.params 2 2 = count.toNat := by rw [hp, field_cons_succ, field_cons_succ, field_be2_only]
  have hpos : point.toNat ≠ 0 := fun h => hpoint (BitVec.eq_of_toNat_eq h)
  have hsome : count.toNat ≠ 0 := fun h => hcount (BitVec.eq_of_toNat_eq h)
  have hbyte : byte point.toNat = point := by simp [byte]
  refine opcode_later hx ?_
  rw [rxCaptureBody, field_engine hp, hpt, hct, engOf_val, hbyte]
  refine guards_pass _ _ ?_
  simp [badForm, hflag, hp, hpos, hlast, hsome, hmost, hhas, hholds, hfree, hon]

end

/-- Settles O22: three of the requests take effect behind their checks; a capture begins there, and its answer waits. -/
theorem signalPathRequests : Obligations.SignalPathRequests := by
  unfold Obligations.SignalPathRequests
  refine fun r s e hx hflag hhas hholds => ⟨fun hold hp => ?hold, fun short hp hon => ?reacquire,
    fun mask hp hoxbow => exec_rxFreeze hx hflag hp hhas hholds hoxbow,
    fun point count hp hpoint hlast hcount hmost hfree hon =>
      exec_rxCapture hx hflag hp hhas hholds hpoint hlast hcount hmost hfree hon⟩
  case hold =>
    obtain ⟨hhost, hheld⟩ := (s.takeRequest 0x0404 r).hostHold_tx e hold
    obtain ⟨-, hother, -⟩ := engineOnly_hostHold e (s.takeRequest 0x0404 r) hold
    exact ⟨_, exec_txBiasHold hx hflag hp hhas hholds, hhost, hheld, hother⟩
  case reacquire =>
    obtain ⟨hmode, hfast, hthaw, hcause⟩ :=
      (s.takeRequest 0x0505 r).reacquired_rx e short 5 (rxCode (s.eng e).rx.mode)
    obtain ⟨-, hother, -⟩ := (engineOnly_rxFreq e (s.takeRequest 0x0505 r) short).trans (engineOnly_relock e _ 5 _)
    exact ⟨_, exec_rxReacquire hx hflag hp hhas hholds hon, hmode, hfast, hthaw, hcause, hother⟩

end Sys2Proof.Machine
end

section
/-! The receiver's states (R136, R139, R142 to R145, R148, R149, R161, R166): what the shared moves make of dLOS and the
deframer, what samples that arrive leave of an engine, and each event at its readings. -/

namespace Sys2Proof.Machine

section
variable (s : State) (e : Eng)

/-! ## The deframer's state and dLOS -/

/-- The deframer's state and dLOS of an engine: what no other defect, event or decoder's reset moves. -/
def State.sight (s : State) (e : Eng) : DeframerMode × Bool := ((s.eng e).deframer.mode, (s.eng e).deframer.los)

@[simp] theorem ite_sight (c : Prop) [Decidable c] (t : State) :
    (if c then s else t).sight e = if c then s.sight e else t.sight e :=
  apply_ite (fun u : State => u.sight e) _ _ _

@[simp] theorem State.raise_sight (c : BitVec 16) (pl : Place) (d : Bytes) : (s.raise c pl d).sight e = s.sight e := by
  simp only [State.sight, State.raise_eng]

@[simp] theorem State.skip_sight : s.skip.sight e = s.sight e := rfl

@[simp] theorem State.updEng_sight (f : Engine → Engine) :
    (s.updEng e f).sight e = ((f (s.eng e)).deframer.mode, (f (s.eng e)).deframer.los) := by
  rw [State.sight, State.eng_updEng_same]

@[simp] theorem State.maskSmall_sight : (s.maskSmall e).sight e = s.sight e := by
  simp only [State.maskSmall, ite_sight, State.raise_sight, State.updEng_sight, ite_self]
  rfl

@[simp] theorem State.lofClear_sight (d : Bytes) : (s.lofClear e d).sight e = s.sight e := by
  simp only [State.lofClear, ite_sight, State.raise_sight, State.updEng_sight]
  exact ite_self _

@[simp] theorem State.lofRaise_sight : (s.lofRaise e).sight e = s.sight e := by
  simp only [State.lofRaise, ite_sight, State.maskSmall_sight, State.raise_sight, State.updEng_sight]
  exact ite_self _

@[simp] theorem State.setLos_sight (on : Bool) : (s.setLos e on).sight e = ((s.sight e).1, on) := by
  unfold State.setLos
  dsimp only
  split
  next hsame => rw [← eq_of_beq hsame]; rfl
  next =>
    simp only [ite_sight, State.maskSmall_sight, State.lofClear_sight, State.skip_sight, State.raise_sight,
      State.updEng_sight, ite_self]
    rfl

@[simp] theorem State.deframerOff_sight : (s.deframerOff e).sight e = (.off, (s.sight e).2) := s.updEng_sight e _

@[simp] theorem State.fecReset_sight : (s.fecReset e).sight e = s.sight e := s.updEng_sight e _

@[simp] theorem State.rxWait_sight : (s.rxWait e).sight e = (.off, true) := by
  simp only [State.rxWait, State.fecReset_sight, State.setLos_sight, State.deframerOff_sight]

@[simp] theorem State.rxFreq_sight (fast : Bool) : (s.rxFreq e fast).sight e = (.off, false) := by
  simp only [State.rxFreq, State.fecReset_sight, State.setLos_sight, State.deframerOff_sight]

/-! ## A relock is told (R166) -/

theorem State.relock_eng (c left : Byte) :
    (s.relock e c left).eng e = { s.eng e with rx := { (s.eng e).rx with lastRelock := c } } := by
  rw [State.relock, State.raise_eng, State.eng_updEng_same]

/-! ## Samples that arrive (R130) -/

/-- Samples move an engine's pipe, the pilot grid, what is looped back and the capture buffer, and nothing else. -/
theorem State.receive_eng (l : List Quad) : ∃ k g looped capture, (s.receive e l).eng e = { s.eng e with
    rx := { (s.eng e).rx with pipe := k, grid := g, looped := looped, capture := capture } } := by
  rw [State.receive, State.eng_updEng_same]
  split
  next => exact ⟨_, _, _, _, rfl⟩
  next p _ =>
    dsimp only
    unfold RxState.copy
    split
    · exact ⟨_, _, _, _, rfl⟩
    · split <;> exact ⟨_, _, _, _, rfl⟩

theorem engineOnly_receive (l : List Quad) : EngineOnly e s (s.receive e l) := by
  refine engineOnly_updEng e s ?_
  split <;> rfl

end

/-! ## The dispersion search (R139, R149, R159) -/

/-- CLOCK is entered where CD_BULK is known: under OXB_LOOP, or as CD_MODE 2 fixes it; otherwise a search begins. -/
theorem Engine.beginSearch_mode (x : Engine) :
    x.beginSearch.rx.mode = if x.rxParams.loop || x.rxParams.rx.cdMode == 2 then .clock else .cd := by
  unfold Engine.beginSearch
  cases x.rxParams.loop <;> cases x.rxParams.rx.cdMode == 2 <;> rfl

theorem Engine.beginSearch_carrier (x : Engine) : x.beginSearch.rx.carrier = x.rx.carrier := by
  unfold Engine.beginSearch
  split
  · rfl
  · split <;> rfl

theorem Engine.beginSearch_loop {x : Engine} (h : x.rxParams.loop = true) : x.beginSearch.rx.cdBulk = 0 := by
  rw [Engine.beginSearch, if_pos h]
  rfl

theorem Engine.beginSearch_fast {x : Engine} (hloop : x.rxParams.loop = false) (hfixed : x.rxParams.rx.cdMode = 2)
    (hfast : x.rx.fast = true) : x.beginSearch.rx.cdBulk = x.rx.cdBulk := by
  simp [Engine.beginSearch, hloop, hfixed, hfast, Engine.clock]

/-! ## The tap count in force (R142, R453) -/

theorem Engine.nextPenalty_unlimited {x : Engine} {now free : Nat} (h : now = x.tapsCommitted) :
    x.nextPenalty now free = 0 := by
  rw [Engine.nextPenalty, if_pos (beq_iff_eq.mpr h)]

theorem Engine.nextTaps_frozen {x : Engine} {now : Nat} {u : TapGradients} (h : x.rx.frozen.getLsbD 0 = true) :
    x.nextTaps now u = maskTaps (min now x.rx.taps) x.rx.eq := by
  rw [Engine.nextTaps, if_pos h]

/-! ## Events (R136, R144, R145, R149) -/

section
variable {s : State} {e : Eng}

/-- What such an event does where its outcome under the condition depends on what the state holds. -/
theorem actsOn_eventIf_eq {c : Instr} {cond : Bool} {f : State → State} {P : State → Prop} {t : State}
    (hready : s.ready = true) (hexec : exec c s = eventIf s cond f) (hcond : cond = true) (ht : f s = t)
    (honly : EngineOnly e s t) (hP : P t) : ActsOn e c s P :=
  actsOn_eventIf (P := P) hready hexec hcond (ht.symm ▸ honly) (ht.symm ▸ hP)

theorem actsOn_losTimer {p : BitVec 16} (hready : s.ready = true) (hon : acquiring (s.eng e).rx.mode = true)
    (hlow : p.toInt < (s.eng e).rxParams.losThreshold) : ActsOn e (.losTimer ⟨e, p⟩) s fun t =>
      (t.eng e).rx.mode = .waitLight ∧ (t.eng e).deframer.los = true ∧ (t.eng e).deframer.mode = .off ∧
      ((s.eng e).rx.mode = .track → (t.eng e).rx.lastRelock = 1) := by
  refine actsOn_eventIf hready (show execLosTimer ⟨e, p⟩ s = _ from rfl) (by simp [hon, hlow])
    ((engineOnly_rxWait e s).trans (engineOnly_ite (engineOnly_relock e _ _ _) (EngineOnly.refl e _))) ?_
  obtain ⟨x, hends, hwait⟩ := s.rxWait_ends e
  obtain ⟨-, rfl⟩ := Prod.mk.inj hends
  obtain ⟨hoff, hlos⟩ := Prod.mk.inj (s.rxWait_sight e)
  split
  next =>
    rw [State.relock_eng]
    exact ⟨hwait, hlos, hoff, fun _ => rfl⟩
  next hother => exact ⟨hwait, hlos, hoff, fun htrack => absurd (beq_iff_eq.mpr htrack) hother⟩

theorem actsOn_lightTimer {p : BitVec 16} (hready : s.ready = true) (hwait : (s.eng e).rx.mode = .waitLight)
    (hhigh : (s.eng e).rxParams.losThreshold + 100 < p.toInt) : ActsOn e (.lightTimer ⟨e, p⟩) s fun t =>
      (t.eng e).rx.mode = .freq ∧ (t.eng e).deframer.los = false := by
  refine actsOn_eventIf hready (show execLightTimer ⟨e, p⟩ s = _ from rfl) (by simp [hwait, hhigh])
    (engineOnly_rxFreq e s false) ?_
  obtain ⟨x, hends, hfreq, -⟩ := s.rxFreq_ends e false
  obtain ⟨-, rfl⟩ := Prod.mk.inj hends
  exact ⟨hfreq, congrArg Prod.snd (s.rxFreq_sight e false)⟩

theorem actsOn_freqEstimated {offset : Int} (hready : s.ready = true) (hmode : (s.eng e).rx.mode = .freq)
    (hoffset : offsetOk offset = true) (hmod : (s.eng e).rxParams.unmodulated = false) :
    ActsOn e (.freqEstimated ⟨e, offset⟩) s fun t => (t.eng e).rx.carrier = offset ∧
      (t.eng e).rx.mode = (if (s.eng e).rxParams.loop || (s.eng e).rxParams.rx.cdMode == 2 then .clock else .cd) ∧
      ((s.eng e).rxParams.loop = true → (t.eng e).rx.cdBulk = 0) ∧
      ((s.eng e).rxParams.loop = false → (s.eng e).rxParams.rx.cdMode = 2 → (s.eng e).rx.fast = true →
        (t.eng e).rx.cdBulk = (s.eng e).rx.cdBulk) := by
  refine actsOn_eventIf hready (show execFreqEstimated ⟨e, offset⟩ s = _ from rfl) (by simp [hmode, hoffset, hmod])
    (engineOnly_updEng e s (Engine.beginSearch_params _)) ?_
  rw [State.eng_updEng_same]
  exact ⟨Engine.beginSearch_carrier _, Engine.beginSearch_mode _, fun hloop => Engine.beginSearch_loop hloop,
    fun hloop hfixed hfast => Engine.beginSearch_fast hloop hfixed hfast⟩

theorem actsOn_cdSearchPassEnd_found {c : CdSearch} {i j : Nat} {v : Int} (hready : s.ready = true)
    (hmode : (s.eng e).rx.mode = .cd) (hsearch : (s.eng e).rx.search = some c) (hvalue : c.value i j = some v) :
    ActsOn e (.cdSearchPassEnd e (some (i, j))) s fun t => (t.eng e).rx.mode = .clock ∧
      (t.eng e).rx.cdBulk = (if (s.eng e).rxParams.loop then 0 else v) := by
  refine actsOn_eventIf_eq (t := s.updEng e fun x => if x.rxParams.loop then (x.clock 0).selfLit else x.clock v) hready
    (show execCdSearchPassEnd e (some (i, j)) s = _ from rfl) (by simp [hmode]) (by simp only [hsearch, hvalue])
    (engineOnly_updEng e s (by split <;> rfl)) ?_
  rw [State.eng_updEng_same]
  split <;> exact ⟨rfl, rfl⟩

theorem actsOn_cdSearchPassEnd_none {c : CdSearch} (hready : s.ready = true) (hmode : (s.eng e).rx.mode = .cd)
    (hsearch : (s.eng e).rx.search = some c) : ActsOn e (.cdSearchPassEnd e none) s fun t => (t.eng e).rx.mode =
      (if (s.eng e).rxParams.loop || (s.eng e).rxParams.rx.cdMode == 2 then .clock else .cd) := by
  refine actsOn_eventIf_eq hready (show execCdSearchPassEnd e none s = _ from rfl) (by simp [hmode])
    (by simp only [hsearch]; rfl)
    ((engineOnly_updEng e s (Engine.beginSearch_params _)).trans (engineOnly_raise e _ _ _ _)) ?_
  rw [State.raise_eng, State.eng_updEng_same, Engine.beginSearch_mode]

theorem actsOn_timingLock {l : List Rat} (hready : s.ready = true) (hmode : (s.eng e).rx.mode = .clock)
    (hgood : ∀ v ∈ l, v < 1 / 32) : ActsOn e (.timingLock ⟨e, l⟩) s fun t => (t.eng e).rx.mode = .premix := by
  refine actsOn_eventIf hready (show execTimingLock ⟨e, l⟩ s = _ from rfl) ?_ (engineOnly_updEng e s rfl) ?_
  · rw [hmode, show timingGood l = true from List.all_eq_true.mpr fun v hv => decide_eq_true (hgood v hv)]
    rfl
  · rw [State.eng_updEng_same]

theorem actsOn_cmaConverged (hready : s.ready = true) (hmode : (s.eng e).rx.mode = .premix) :
    ActsOn e (.cmaConverged e) s fun t =>
      (t.eng e).rx.mode = (if (s.eng e).rxParams.patterned then .hold else .pilot) := by
  refine actsOn_eventIf hready (show execCmaConverged e s = _ from rfl) (by simp [hmode]) (engineOnly_updEng e s rfl) ?_
  rw [State.eng_updEng_same]

theorem actsOn_pilotFound {l : List Quad} {g : PilotGrid} (hready : s.ready = true)
    (hmode : (s.eng e).rx.mode = .pilot) (hfound : ((s.receive e l).eng e).rx.pipe.found = some g) :
    ActsOn e (.pilotFound ⟨e, l⟩) s fun t => (t.eng e).rx.mode = .decode ∧ (t.eng e).rx.grid = some g ∧
      (t.eng e).deframer.mode = .hunt := by
  refine actsOn_eventIf_eq hready (show execPilotFound ⟨e, l⟩ s = _ from rfl) (by simp [hmode])
    (by simp only [hfound]; rfl)
    (((engineOnly_receive s e l).trans (engineOnly_updEng e _ rfl)).trans (engineOnly_lofRaise e _)) ?_
  obtain ⟨-, hrx⟩ := Prod.mk.inj ((State.lofRaise_ends _ e).trans ((s.receive e l).updEng_ends e _))
  obtain ⟨hhunt, -⟩ := Prod.mk.inj ((State.lofRaise_sight _ e).trans ((s.receive e l).updEng_sight e _))
  rw [hrx]
  exact ⟨rfl, rfl, hhunt⟩

theorem actsOn_timingLockLost {l : List Rat} (hready : s.ready = true)
    (hmode : (s.eng e).rx.mode = .premix ∨ (s.eng e).rx.mode = .pilot ∨ (s.eng e).rx.mode = .decode ∨
      (s.eng e).rx.mode = .track) (hbad : ∀ v ∈ l, 1 / 8 < v) : ActsOn e (.timingLockLost ⟨e, l⟩) s fun t =>
      (t.eng e).rx.mode = .freq ∧ (t.eng e).rx.lastRelock = 4 ∧ (t.eng e).rx.frozen = 0 := by
  have hall : timingBad l = true := List.all_eq_true.mpr fun v hv => decide_eq_true (hbad v hv)
  refine actsOn_eventIf hready (show execTimingLockLost ⟨e, l⟩ s = _ from rfl) ?_
    ((engineOnly_rxFreq e s _).trans (engineOnly_relock e _ 4 _)) ?_
  · simpa [hall, or_assoc] using hmode
  · obtain ⟨hfreq, -, hthaw, hcause⟩ :=
      s.reacquired_rx e ((s.eng e).rx.mode == .track) 4 (rxCode (s.eng e).rx.mode)
    exact ⟨hfreq, hcause, hthaw⟩

theorem actsOn_carrierLockLost {l : List Quad} (hready : s.ready = true) (hmode : (s.eng e).rx.mode = .track)
    (hbad : 256 < ((s.receive e l).eng e).rx.pipe.flags.count true) :
    ActsOn e (.carrierLockLost ⟨e, l⟩) s fun t =>
      (t.eng e).rx.mode = .freq ∧ (t.eng e).rx.lastRelock = 3 ∧ (t.eng e).rx.fast = true := by
  have hcount : ((s.receive e l).eng e).rx.pipe.flags.countP id > 256 := by
    rwa [List.count_eq_countP, show (fun b : Bool => b == true) = id from funext beq_true] at hbad
  refine actsOn_eventIf_eq hready (show execCarrierLockLost ⟨e, l⟩ s = _ from rfl) (by simp [hmode]) (if_pos hcount)
    (((engineOnly_receive s e l).trans (engineOnly_rxFreq e _ true)).trans (engineOnly_relock e _ 3 _)) ?_
  obtain ⟨hfreq, hfast, -, hcause⟩ := (s.receive e l).reacquired_rx e true 3 (rxCode .track)
  exact ⟨hfreq, hcause, hfast⟩

theorem actsOn_rxStateTimeout (hready : s.ready = true)
    (hmode : (s.eng e).rx.mode = .clock ∨ (s.eng e).rx.mode = .premix ∨ (s.eng e).rx.mode = .pilot ∨
      (s.eng e).rx.mode = .decode) : ActsOn e (.rxStateTimeout e) s fun t =>
      (t.eng e).rx.mode = .freq ∧ (t.eng e).rx.lastRelock = 2 := by
  refine actsOn_eventIf hready (show execRxStateTimeout e s = _ from rfl) (by simpa [or_assoc] using hmode)
    ((engineOnly_rxFreq e s false).trans (engineOnly_relock e _ 2 _)) ?_
  obtain ⟨hfreq, -, -, hcause⟩ := s.reacquired_rx e false 2 (rxCode (s.eng e).rx.mode)
  exact ⟨hfreq, hcause⟩

theorem actsOn_tapUpdate {g : TapGradients} {u : LoopErrors} (hready : s.ready = true)
    (hline : (s.eng e).rxParams.line ≠ 0) : ActsOn e (.tapUpdate e g u) s fun t =>
      (t.eng e).rx.taps = min (s.eng e).tapsCommitted (s.eng e).tapLimit ∧
      ((s.eng e).tapsCommitted ≤ (s.eng e).tapLimit → (t.eng e).tapPenalty = 0) ∧
      ((s.eng e).rx.frozen.getLsbD 0 = true → (t.eng e).rx.eq =
        maskTaps (min (min (s.eng e).tapsCommitted (s.eng e).tapLimit) (s.eng e).rx.taps) (s.eng e).rx.eq) := by
  refine actsOn_eventIf hready (show execTapUpdate e g u s = _ from rfl) (by simpa using hline)
    (((engineOnly_receive s e _).trans (engineOnly_skip e _)).trans (engineOnly_updEng e _ rfl)) ?_
  obtain ⟨k, grid, looped, capture, heng⟩ := s.receive_eng e u.samples
  rw [State.eng_updEng_same, show (s.receive e u.samples).skip.eng e = _ from heng]
  exact ⟨rfl, fun hfull => Engine.nextPenalty_unlimited (min_eq_left hfull), Engine.nextTaps_frozen⟩

/-! ## The end of a capture (R161) -/

theorem exec_rxCaptureDone {j : CaptureJob} {c : CaptureInput} {full : Bytes} (hready : s.ready = true)
    (hjob : (s.eng e).rx.capturing = some j) (hbegun : (s.moduleTime - j.start).toNat < 2 ^ 47)
    (hfull : full = if j.point == 6 then
        tapBytes (maskTaps ((s.receive e c.samples).eng e).rx.taps ((s.receive e c.samples).eng e).rx.eq)
      else ((s.receive e c.samples).eng e).rx.capture)
    (hsize : j.size ≤ full.length ∨ (s.eng e).rxParams.line = 0) :
    exec (.rxCaptureDone e c) s = answered 0x0507 j.request .ok [] ((s.receive e c.samples).updEng e fun x =>
      { x with rx := { x.rx with capturing := none, capture := full.take j.size } }) := by
  have hends : ¬(((s.moduleTime - j.start).toNat ≥ 2 ^ 47 ||
      (full.length < j.size && (s.eng e).rxParams.line != 0)) = true) := by
    simp only [Bool.or_eq_true, Bool.and_eq_true, decide_eq_true_eq, bne_iff_ne, not_or, not_and, not_not]
    exact ⟨hbegun.not_ge, fun hshort => hsize.resolve_left hshort.not_ge⟩
  rw [show exec (.rxCaptureDone e c) s = execRxCaptureDone e c s from rfl, execRxCaptureDone, event_ready hready,
    answered]
  simp only [hjob, ← hfull]
  rw [if_neg hends]

end

/-- Settles O23: each event of the acquisition moves its engine alone, and a capture that is complete is answered. -/
theorem receiverStates : Obligations.ReceiverStates := by
  unfold Obligations.ReceiverStates
  intro s e hready
  refine ⟨fun p => actsOn_losTimer hready, fun p => actsOn_lightTimer hready, fun o => actsOn_freqEstimated hready,
    fun c i j v => actsOn_cdSearchPassEnd_found hready, fun c => actsOn_cdSearchPassEnd_none hready,
    fun l hmode _ => actsOn_timingLock hready hmode, actsOn_cmaConverged hready, fun l g => actsOn_pilotFound hready,
    fun l hmode _ => actsOn_timingLockLost hready hmode, fun l => actsOn_carrierLockLost hready,
    actsOn_rxStateTimeout hready, fun hline g u => actsOn_tapUpdate hready hline,
    fun j c full hjob hbegun hfull hsize => ⟨_, exec_rxCaptureDone hready hjob hbegun hfull hsize, ?_⟩⟩
  rw [State.eng_updEng_same]
  exact ⟨rfl, rfl⟩

end Sys2Proof.Machine
end

section
/-! The end of the short interval at a lane (R273, R281): no engine, port or event moves a lane, so that each keeps what
its own checker has counted; a checker that was stopped while locked has its errors counted with the rest. -/

namespace Sys2Proof.Machine

/-- In a walk without repetition, a view that one of the elements alone moves is moved once, or not at all. -/
theorem foldl_view_once {σ α β : Type} [DecidableEq α] {f : σ → α → σ} {view : σ → β} {g : β → β} {a : α}
    (hrest : ∀ s b, b ≠ a → view (f s b) = view s) (hmove : ∀ s, view (f s a) = g (view s)) {l : List α}
    (hl : l.Nodup) (s : σ) : view (l.foldl f s) = if a ∈ l then g (view s) else view s := by
  induction l generalizing s with
  | nil => rw [if_neg List.not_mem_nil, List.foldl_nil]
  | cons b bs ih =>
    obtain ⟨hb, hbs⟩ := List.nodup_cons.mp hl
    rw [List.foldl_cons, ih hbs]
    by_cases heq : b = a
    · subst heq
      rw [if_neg hb, if_pos List.mem_cons_self, hmove]
    · simp [hrest s b heq, Ne.symm heq]

/-! ## What moves no lane -/

theorem EngineOnly.lanes_eq {e : Eng} {s t : State} (h : EngineOnly e s t) : t.lanes = s.lanes := by rw [h.1]

theorem engineOnly_shortEngine (s : State) (l : List ShortMeasure) (e : Eng) : EngineOnly e s (s.shortEngine l e) := by
  unfold State.shortEngine
  split
  next => exact EngineOnly.refl e s
  next v _ =>
    have hsop (s : State) (old : Engine) : EngineOnly e s (s.sopEvent e old v.sopRate) :=
      engineOnly_ite (engineOnly_raise e s _ _ _) (EngineOnly.refl e s)
    have hswitch (s : State) (old : Engine) : EngineOnly e s (s.switchCheck e old) :=
      engineOnly_ite ((engineOnly_rxFreq e s true).trans (engineOnly_relock e _ _ _)) (EngineOnly.refl e s)
    refine engineOnly_ite ?_ (EngineOnly.refl e s)
    exact (((engineOnly_updEng e s rfl).trans (engineOnly_count e _ _ _ _)).trans (hsop _ _)).trans (hswitch _ _)

theorem engineOnly_twinSwitch (s : State) (e : Eng) : EngineOnly e s (s.twinSwitch e) :=
  engineOnly_ite (EngineOnly.refl e s) ((engineOnly_updEng e s rfl).trans (engineOnly_raise e _ _ _ _))

theorem State.rsFec_lanes (s : State) (ports : List (Nat × Nat)) (c : Cp) : (s.rsFec ports c).lanes = s.lanes := by
  unfold State.rsFec
  split
  next => rfl
  next =>
    dsimp only
    split
    · rfl
    · simp only [State.count_lanes, State.updCport_lanes]

theorem State.decimEvent_lanes (s : State) : s.decimEvent.lanes = s.lanes := by
  unfold State.decimEvent
  dsimp only
  split
  · rfl
  · simp only [State.raise_lanes]

/-! ## Bit errors of a lane's checker (R273) -/

theorem State.lane_updLane (s : State) (l k : LaneNo) (f : Lane → Lane) :
    (s.updLane l f).lane k = if k = l then f (s.lane k) else s.lane k := by
  unfold State.updLane State.lane
  by_cases h : k = l
  · subst h; simp
  · have hne : l.val ≠ k.val := fun heq => h (Fin.ext heq.symm)
    simp [h, hne]

/-- A lane whose checker is locked, or was stopped while locked, has counted `n` more errors. -/
def Lane.counted (l : Lane) (n : Nat) : Lane := if l.locked || l.owed then { l with prbsNow := l.prbsNow + n } else l

theorem State.prbsErrors_lane (s : State) (l k : LaneNo) (n : Nat) :
    (s.prbsErrors l n).lane k = if k = l then (s.lane k).counted n else s.lane k := by
  unfold State.prbsErrors Lane.counted
  by_cases h : k = l
  · subst h
    rw [if_pos rfl]
    split
    · rw [State.lane, State.count_lanes, ← State.lane, State.lane_updLane, if_pos rfl]
    · rfl
  · rw [if_neg h]
    split
    · rw [State.lane, State.count_lanes, ← State.lane, State.lane_updLane, if_neg h]
    · rfl

/-! ## The end of the short interval -/

/-- A lane's figures of the interval that ends: its errors are stored and counted anew, and none are owed any more. -/
def Lane.shortEnd (l : Lane) : Lane := { l with prbsLast := sat 32 l.prbsNow, prbsNow := 0, owed := false }

theorem State.shortClients_lane (s : State) (k : LaneNo) : s.shortClients.lane k = (s.lane k).shortEnd := by
  simp [State.shortClients, State.lane, Lane.shortEnd]

theorem exec_shortIntervalEnd_lane {s : State} (m : ShortReport) (hready : s.ready = true) :
    ∃ t, exec (.shortIntervalEnd m) s = .next t ∧
      ∀ k : LaneNo, t.lane k = ((s.lane k).counted (m.lanes.getD k.val 0)).shortEnd := by
  refine ⟨_, (show execShortIntervalEnd m s = _ from event_ready hready _), fun k => ?_⟩
  rw [State.shortClients_lane]
  refine congrArg Lane.shortEnd ?_
  have hengines := foldl_keeps State.lanes (fun s e => (engineOnly_shortEngine s m.engines e).lanes_eq)
    (List.finRange 4) s
  have hcounted := foldl_view_once (f := fun s l => s.prbsErrors l (m.lanes.getD l.val 0)) (view := (State.lane · k))
    (g := (Lane.counted · (m.lanes.getD k.val 0))) (fun s l hl => by rw [State.prbsErrors_lane, if_neg hl.symm])
    (fun s => by rw [State.prbsErrors_lane, if_pos rfl]) (List.nodup_finRange 64)
  rw [State.lane, State.decimEvent_lanes, (engineOnly_twinSwitch _ 2).lanes_eq, (engineOnly_twinSwitch _ 0).lanes_eq,
    foldl_keeps State.lanes (fun s c => s.rsFec_lanes m.ports c), ← State.lane, hcounted, if_pos (List.mem_finRange k),
    State.lane, hengines, ← State.lane]

/-! ## A checker stopped while locked -/

/-- A ready module in whose running short interval lane 0 has been powered down with its checker locked. -/
def checkerStopped : State :=
  { State.reset with
    power := { State.reset.power with phase := .ready }
    lanes := State.reset.lanes.set 0 (({ power := .active, chk := 1, locked := true } : Lane).setPower .deep) }

/-- One bit error of lane 0's checker, seen before it was stopped, and no other measurement. -/
def oneBitError : ShortReport := { engines := [], lanes := [1], ports := [] }

/-- Refutes O50: PRBS_ERR of a lane whose checker was stopped while locked takes the errors reported for it too, although
the checker is no longer locked when the short interval ends (R273). -/
theorem not_intervalsAndSnapshots : ¬ Obligations.IntervalsAndSnapshots := by
  unfold Obligations.IntervalsAndSnapshots
  intro h
  obtain ⟨-, -, hshort, -⟩ := h checkerStopped rfl
  obtain ⟨t, hexec, -, -, hstated, -⟩ := hshort oneBitError
  obtain ⟨u, hexec', hcounted⟩ := exec_shortIntervalEnd_lane (s := checkerStopped) oneBitError rfl
  obtain rfl : t = u := Host.Outcome.next.inj (hexec.symm.trans hexec')
  obtain ⟨hnone, -⟩ := hstated 0
  have hone : (t.lane 0).prbsLast = 1 := by rw [hcounted]; rfl
  rw [hone] at hnone
  exact absurd hnone (by decide)

end Sys2Proof.Machine
end

section
/-! Background calibration of the converters and the decoder's advances (R168, R171, R174, R177, R202, R204, R206, R210,
R214): what each result and each apply makes of its converter's tables, which figures nothing but a position that is
output moves, and the least count of a group hunt. -/

namespace Sys2Proof.Machine

/-! ## Converters of an engine, one by one -/

/-- Of several converters, the one that is set is replaced, and the others stay. -/
theorem vector_set_getElem {α : Type} {n : Nat} (v : Vector α n) (i j : Fin n) (x : α) :
    (v.set i x)[j] = if j = i then x else v[j] := by
  simp only [Fin.getElem_fin, Vector.getElem_set, Fin.ext_iff, eq_comm]

section
variable (s : State) (e : Eng)

theorem State.setAdc_adc (k d : Fin 4) (a : Adc) :
    ((s.setAdc e k a).eng e).cal.adc[d] = if d = k then a else (s.eng e).cal.adc[d] := by
  rw [State.setAdc, State.eng_updEng_same]
  exact vector_set_getElem _ k d a

theorem State.setAdc_adc_same (k : Fin 4) (a : Adc) : ((s.setAdc e k a).eng e).cal.adc[k] = a := by
  rw [State.setAdc_adc, if_pos rfl]

theorem engineOnly_setAdc (k : Fin 4) (a : Adc) : EngineOnly e s (s.setAdc e k a) := engineOnly_updEng e s rfl

/-! ## Results and applies (R168, R173, R174, R177) -/

/-- A result is sorted into the shadow table alone (R173). -/
theorem Adc.sort_active (a : Adc) (c : CalConfig) (t : Fin 256) (v : Slice) (good unmeas : Bool) :
    (a.sort c t v good unmeas).active = a.active := by
  unfold Adc.sort
  dsimp only
  split
  · rfl
  · split
    · rfl
    · split <;> rfl

/-- Choosing the following slice begins its measurement, or leaves the ADC as it is where no spare is left (R174). -/
theorem Adc.choose_phase (a : Adc) : a.choose.phase = .measuring ∨ a.choose = a := by
  unfold Adc.choose
  dsimp only
  split
  · split
    · exact .inr rfl
    · exact .inl rfl
  · exact .inl rfl

theorem Adc.closeStep_phase (a : Adc) : a.closeStep.1.phase = .idle := by
  unfold Adc.closeStep
  dsimp only
  split <;> rfl

/-- An ADC that has closed its step is not closing it any more, whether the next one is chosen or not (R174). -/
theorem Adc.closeStep_next_phase (a : Adc) (c : Prop) [Decidable c] :
    (if c then a.closeStep.1.choose else a.closeStep.1).phase ≠ .closing := by
  split
  · rcases a.closeStep.1.choose_phase with h | h
    · simp [h]
    · simp [h, Adc.closeStep_phase]
  · simp [Adc.closeStep_phase]

theorem engineOnly_calVerdict (k : Fin 4) (a : Adc) (t : Fin 256) : EngineOnly e s (s.calVerdict e k a t) := by
  unfold State.calVerdict
  split
  · exact EngineOnly.refl e s
  · exact engineOnly_raise e s _ _ _

end

section
variable {s : State} {e : Eng}

/-- The closing apply of a step: verdict and sweep's end are told, and the ADC has closed its step, with the next one
chosen or not, before the shadow table comes into use (R168, R174). -/
theorem State.adcApply_closing {k : Fin 4} (hclock : s.adcClock e = true) (hheld : (s.eng e).cal.held = false)
    (hphase : (s.eng e).cal.adc[k].phase = .closing) : EngineOnly e s (s.adcApply e k) ∧
      ∃ a : Adc, a.phase ≠ .closing ∧ ((s.adcApply e k).eng e).cal.adc[k] = a.apply := by
  unfold State.adcApply
  simp only [hphase, hclock, hheld, Bool.not_true, Bool.or_self, Bool.false_eq_true, if_false]
  refine ⟨?only, ?adc⟩
  case only =>
    refine EngineOnly.trans (EngineOnly.trans ?_ (engineOnly_setAdc _ e k _))
      (engineOnly_ite (engineOnly_raise e _ _ _ _) (EngineOnly.refl e _))
    split
    · exact engineOnly_calVerdict s e k _ _
    · exact EngineOnly.refl e s
  case adc =>
    simp only [apply_ite (State.eng · e), State.raise_eng, ite_self, State.setAdc_adc_same]
    exact ⟨_, Adc.closeStep_next_phase _ _, rfl⟩

/-- A DAC's apply: its result comes into force, and what it finds is told (R168, R177, R178). -/
theorem State.dacApply_due {k : Fin 4} (hclock : s.dacClock e = true) (hheld : (s.eng e).cal.held = false)
    (hdue : (s.eng e).cal.dac[k].due ≠ none) : EngineOnly e s (s.dacApply e k) ∧
      ((s.dacApply e k).eng e).cal.dac[k] = (s.eng e).cal.dac[k].apply := by
  obtain ⟨⟨ph, cause⟩, hdue⟩ := Option.ne_none_iff_exists'.mp hdue
  unfold State.dacApply
  simp only [hdue, hclock, hheld, Bool.not_true, Bool.or_self, Bool.false_eq_true, if_false]
  constructor
  · exact ((engineOnly_updEng e s rfl).trans (engineOnly_ite (EngineOnly.refl e _) (engineOnly_raise e _ _ _ _))).trans
      (engineOnly_ite (engineOnly_raise e _ _ _ _) (EngineOnly.refl e _))
  · simp only [apply_ite (State.eng · e), State.raise_eng, State.eng_updEng_same, ite_self]
    rw [vector_set_getElem, if_pos rfl]

/-! ## Events of the calibration -/

theorem actsOn_calMeasureDone {k : Fin 4} {pairs : List (Estimate × Estimate)} {x : Fin 256} {v : Slice}
    {w : Bool × Bool} (hready : s.ready = true) (hclock : s.adcClock e = true) (hheld : (s.eng e).cal.held = false)
    (hphase : (s.eng e).cal.adc[k].phase = .measuring) (hmode : ((s.eng e).adcSettings k).adcMode ≠ 0)
    (htest : (s.eng e).cal.adc[k].test = some x)
    (hresult : measured ((s.eng e).adcSettings k) (s.eng e).cal.adc[k].shadow[x] pairs = some (v, w)) :
    ActsOn e (.calMeasureDone e k pairs) s fun t =>
      (t.eng e).cal.adc[k].active = (s.eng e).cal.adc[k].active ∧
      (t.eng e).cal.adc[k].phase = (if ((s.eng e).adcSettings k).interval == 0 then .closing else .waiting) ∧
      (∀ d : Fin 4, d ≠ k → (t.eng e).cal.adc[d] = (s.eng e).cal.adc[d]) := by
  refine actsOn_eventIf_eq hready (show execCalMeasureDone e k pairs s = _ from rfl)
    (by rw [hclock, hheld, bne_iff_ne.mpr hmode, hphase]; rfl) (by simp only [htest, hresult]; rfl)
    (engineOnly_setAdc s e k _) ⟨?_, ?_, fun d hd => by rw [State.setAdc_adc, if_neg hd]⟩
  all_goals rw [State.setAdc_adc_same]
  exact Adc.sort_active _ _ _ _ _ _

theorem actsOn_calIntervalEnd {k : Fin 4} (hready : s.ready = true) (hclock : s.adcClock e = true)
    (hheld : (s.eng e).cal.held = false) (hphase : (s.eng e).cal.adc[k].phase = .waiting) :
    ActsOn e (.calIntervalEnd e k) s fun t => (t.eng e).cal.adc[k].phase = .closing ∧
      (t.eng e).cal.adc[k].active = (s.eng e).cal.adc[k].active := by
  refine actsOn_eventIf hready (show execCalIntervalEnd e k s = _ from rfl) (by rw [hclock, hheld, hphase]; rfl)
    (engineOnly_setAdc s e k _) ?_
  rw [State.setAdc_adc_same]
  exact ⟨rfl, rfl⟩

/-- The first four converters of an engine are its ADCs. -/
theorem exec_calApply_adc (hready : s.ready = true) (k : Fin 4) :
    exec (.calApply e (Fin.castAdd 4 k)) s = .next (s.adcApply e k) := by
  rw [show exec (.calApply e (Fin.castAdd 4 k)) s = execCalApply e (Fin.castAdd 4 k) s from rfl, execCalApply,
    event_ready hready, if_pos (show (Fin.castAdd 4 k).val < 4 from k.isLt), Fin.val_castAdd, Fin.ofNat_val_eq_self]

/-- The other four are its DACs. -/
theorem exec_calApply_dac (hready : s.ready = true) (k : Fin 4) :
    exec (.calApply e (Fin.natAdd 4 k)) s = .next (s.dacApply e k) := by
  have hdac : Fin.ofNat 4 (Fin.natAdd 4 k).val = k := Fin.ext (by simp)
  rw [show exec (.calApply e (Fin.natAdd 4 k)) s = execCalApply e (Fin.natAdd 4 k) s from rfl, execCalApply,
    event_ready hready, if_neg (by simp), hdac]

theorem actsOn_calApply_adc {k : Fin 4} (hready : s.ready = true) (hclock : s.adcClock e = true)
    (hheld : (s.eng e).cal.held = false) (hphase : (s.eng e).cal.adc[k].phase = .closing) :
    ActsOn e (.calApply e (Fin.castAdd 4 k)) s fun t =>
      (t.eng e).cal.adc[k].active = (t.eng e).cal.adc[k].shadow ∧ (t.eng e).cal.adc[k].phase ≠ .closing := by
  obtain ⟨honly, a, hopen, hadc⟩ := State.adcApply_closing hclock hheld hphase
  refine ⟨_, exec_calApply_adc hready k, honly, ?_⟩
  simp only [hadc]
  exact ⟨rfl, hopen⟩

theorem actsOn_calApply_dac {k : Fin 4} (hready : s.ready = true) (hclock : s.dacClock e = true)
    (hheld : (s.eng e).cal.held = false) (hdue : (s.eng e).cal.dac[k].due ≠ none) :
    ActsOn e (.calApply e (Fin.natAdd 4 k)) s fun t =>
      (t.eng e).cal.dac[k].active = (s.eng e).cal.dac[k].shadow ∧ (t.eng e).cal.dac[k].due = none := by
  obtain ⟨honly, hdac⟩ := State.dacApply_due hclock hheld hdue
  refine ⟨_, exec_calApply_dac hready k, honly, ?_⟩
  simp only [hdac]
  exact ⟨rfl, rfl⟩

theorem actsOn_dacCalStepDone {pairs : List (Estimate × Estimate)} {v : Slice} {w : Bool × Bool}
    (hready : s.ready = true) (hruns : s.dacRuns e = true)
    (hresult : measured (s.eng e).dacSettings (s.eng e).cal.dac[Fin.ofNat 4 ((s.eng e).cal.dacPhase.val / 4)].shadow[
      Fin.ofNat 4 (s.eng e).cal.dacPhase.val] pairs = some (v, w)) :
    ActsOn e (.dacCalStepDone e pairs) s fun t =>
      (t.eng e).cal.dacPhase = (s.eng e).cal.dacPhase + 1 ∧
      (t.eng e).cal.dac[Fin.ofNat 4 ((s.eng e).cal.dacPhase.val / 4)].due ≠ none ∧
      (∀ d : Fin 4, (t.eng e).cal.dac[d].active = (s.eng e).cal.dac[d].active) := by
  refine actsOn_eventIf_eq hready (show execDacCalStepDone e pairs s = _ from rfl) hruns
    (by simp only [hresult]; rfl) (engineOnly_updEng e s rfl) ?_
  rw [State.eng_updEng_same]
  refine ⟨rfl, ?_, fun d => ?_⟩
  all_goals simp only [vector_set_getElem]
  · simp
  · split
    next h => rw [h]
    next => rfl

end

/-! ## The decoder's figures: an output alone moves them (R206, R210, R214) -/

/-- The statistics of the running interval and CHAIN_FNR. -/
def FecState.figures (f : FecState) : FecInterval × BitVec 32 := (f.now, f.chainFnr)

section
variable (f : FecState)

theorem FecState.nextComing_figures (p : Profile) : (f.nextComing p).figures = f.figures := by
  unfold FecState.nextComing
  split
  · rfl
  · rfl
  · rfl
  · split
    · rfl
    · split <;> rfl

theorem FecState.enter_figures (p : Profile) (noise : Quad) (l : List Quad) :
    (f.enter p noise l).figures = f.figures :=
  f.nextComing_figures p

theorem FecState.absorb_figures (noise : Quad) (n : Nat) : (f.absorb noise n).figures = f.figures := by
  induction n generalizing f with
  | zero => rfl
  | succ n ih =>
    unfold FecState.absorb
    split
    · rfl
    · split
      · rfl
      · split
        · rfl
        · exact (ih _).trans (FecState.enter_figures _ _ _ _)

theorem FecState.deliver_figures (w : WindowPosition) (free : Nat → Nat) :
    (f.deliver w free).figures = f.figures := by
  unfold FecState.deliver
  split
  · rfl
  · split <;> rfl

theorem FecState.output_figures (w : WindowPosition) (out : List (BitVec 256)) (good : Bool) (free : Nat → Nat) :
    (f.output w out good free).figures = f.figures := by
  unfold FecState.output
  dsimp only
  split
  · exact FecState.deliver_figures _ w free
  · rfl

end

section
variable (s : State) (e : Eng)

theorem State.fecEffort_figures : ((s.fecEffort e).eng e).fec.figures = (s.eng e).fec.figures := by
  rw [State.fecEffort, apply_ite (State.eng · e), State.raise_eng, ite_self, State.eng_updEng_same]
  rfl

theorem State.absorb_figures (noise : Quad) : ((s.absorb e noise).eng e).fec.figures = (s.eng e).fec.figures := by
  rw [State.absorb, State.eng_updEng_same]
  exact FecState.absorb_figures _ noise 64

theorem engineOnly_absorb (noise : Quad) : EngineOnly e s (s.absorb e noise) := by
  unfold State.absorb
  exact engineOnly_updEng e s rfl

theorem engineOnly_fresh (n : Nat) : EngineOnly e s { s with fresh := n } :=
  ⟨rfl, fun _ _ => rfl, rfl, fun _ => OnlyEvents.refl _⟩

/-- An advance that outputs a position adds it to the interval, and notes a chain's known start with its first data
group (R210, R214). -/
theorem State.advance_figures (w : WindowPosition) (o : Outcome) : ∃ n, ((s.advance e w o).eng e).fec.figures =
    ((s.eng e).fec.now.add o n, (if w.last then w.chainStart else none).getD (s.eng e).fec.chainFnr) := by
  have hfresh (u : State) (n : Nat) : ({ u with fresh := n } : State).eng e = u.eng e := rfl
  have hout (f : FecState) (out : List (BitVec 256)) (free : Nat → Nat) :
      (f.output w out o.good free).now = f.now ∧ (f.output w out o.good free).chainFnr = f.chainFnr :=
    Prod.mk.inj (f.output_figures w out o.good free)
  unfold State.advance
  dsimp only
  split
  next hstart =>
    simp only [State.count_eng, hfresh, State.eng_updEng_same, FecState.figures, hout, hstart]
    exact ⟨_, rfl⟩
  next hstart =>
    simp only [State.raise_eng, State.count_eng, hfresh, State.eng_updEng_same, FecState.figures, hout, hstart]
    exact ⟨_, rfl⟩

theorem engineOnly_advance (w : WindowPosition) (o : Outcome) : EngineOnly e s (s.advance e w o) := by
  unfold State.advance
  dsimp only
  split
  case' h_2 => refine EngineOnly.trans ?_ (engineOnly_raise e _ _ _ _)
  all_goals
    iterate 7 refine EngineOnly.trans ?_ (engineOnly_count e _ _ _ _)
    refine EngineOnly.trans (engineOnly_updEng e s ?_) (engineOnly_fresh _ e _)
    rfl

end

/-! ## A window advance (R202, R206, R210, R214) -/

/-- A receiver decodes in DECODE and in TRACK. -/
theorem RxState.decoding_of_mode {x : RxState} (h : x.mode = .decode ∨ x.mode = .track) : x.decoding = true := by
  rcases h with h | h <;> rw [RxState.decoding, h] <;> rfl

section
variable {s u : State} {e : Eng} {a : Advance}

/-- Before the window is looked at, an advance takes the active I and lets symbols in, which moves none of the
figures. -/
theorem absorb_afterEffort (hu : u = (s.fecEffort e).absorb e a.noise) :
    EngineOnly e s u ∧ (u.eng e).fec.now = (s.eng e).fec.now ∧ (u.eng e).fec.chainFnr = (s.eng e).fec.chainFnr := by
  subst hu
  exact ⟨(engineOnly_fecEffort e s).trans (engineOnly_absorb _ e _),
    Prod.mk.inj ((State.absorb_figures _ e a.noise).trans (s.fecEffort_figures e))⟩

theorem actsOn_decoderAdvance_output {w : WindowPosition} {o : Outcome} (hready : s.ready = true)
    (hmode : (s.eng e).rx.mode = .decode ∨ (s.eng e).rx.mode = .track) (haligned : (s.eng e).fec.aligned = true)
    (hu : u = (s.fecEffort e).absorb e a.noise) (holdest : (u.eng e).fec.window.head? = some w)
    (hfull : (u.eng e).fec.ready ((((u.eng e).paramsFor w.line).window).getD 0) = true)
    (ho : o = (u.eng e).fec.decode w ((((u.eng e).paramsFor w.line).window).getD 0)) :
    ActsOn e (.decoderAdvance e a) s fun t =>
      (t.eng e).fec.now.positions = (s.eng e).fec.now.positions + 1 ∧
      (t.eng e).fec.now.advances = (s.eng e).fec.now.advances + 1 ∧
      (t.eng e).fec.now.iterations = (s.eng e).fec.now.iterations + o.ran ∧
      (o.good = true → (t.eng e).fec.now.uncorr = (s.eng e).fec.now.uncorr) ∧
      (o.good = false → (t.eng e).fec.now.uncorr = (s.eng e).fec.now.uncorr + 1 ∧
        (t.eng e).fec.now.corrected = (s.eng e).fec.now.corrected) ∧
      (∀ f, w.last = true → w.chainStart = some f → (t.eng e).fec.chainFnr = f) := by
  obtain ⟨honly, hnow, -⟩ := absorb_afterEffort hu
  obtain ⟨n, hfigures⟩ := u.advance_figures e w o
  obtain ⟨hadd, hfnr⟩ := Prod.mk.inj hfigures
  refine actsOn_eventIf_eq (t := u.advance e w o) hready (show execDecoderAdvance e a s = _ from rfl)
    (by rw [RxState.decoding_of_mode hmode, haligned]; rfl) ?_ (honly.trans (engineOnly_advance u e w o)) ?_
  · simp only [← hu, holdest, hfull, ← ho, Bool.not_true, Bool.false_eq_true, if_false]
  · rw [hnow] at hadd
    rw [hadd, hfnr]
    refine ⟨rfl, rfl, rfl, fun hgood => ?_, fun hbad => ⟨?_, ?_⟩, fun f hlast hstart => ?_⟩
    · simp [FecInterval.add, hgood]
    · simp [FecInterval.add, hbad]
    · simp [FecInterval.add, hbad]
    · rw [if_pos hlast, hstart, Option.getD_some]

theorem actsOn_decoderAdvance_wait (hready : s.ready = true)
    (hmode : (s.eng e).rx.mode = .decode ∨ (s.eng e).rx.mode = .track) (haligned : (s.eng e).fec.aligned = true)
    (hu : u = (s.fecEffort e).absorb e a.noise)
    (hshort : ∀ w, (u.eng e).fec.window.head? = some w →
      (u.eng e).fec.ready ((((u.eng e).paramsFor w.line).window).getD 0) = false) :
    ActsOn e (.decoderAdvance e a) s fun t =>
      (t.eng e).fec.now = (s.eng e).fec.now ∧ (t.eng e).fec.chainFnr = (s.eng e).fec.chainFnr := by
  obtain ⟨honly, hfigures⟩ := absorb_afterEffort hu
  refine actsOn_eventIf_eq (t := u) hready (show execDecoderAdvance e a s = _ from rfl)
    (by rw [RxState.decoding_of_mode hmode, haligned]; rfl) ?_ honly hfigures
  simp only [← hu]
  split
  next => rfl
  next w holdest => rw [hshort w holdest, Bool.not_false, if_pos rfl]

end

/-! ## The group hunt (R204) -/

theorem actsOn_groupHuntDone {s : State} {e : Eng} {noise : Quad} {off c : Nat} {p : Profile} (hready : s.ready = true)
    (hmode : (s.eng e).rx.mode = .decode ∨ (s.eng e).rx.mode = .track) (hhunt : (s.eng e).fec.aligned = false)
    (hprofile : (s.eng e).rxProfile = some p) (hlength : huntLength p ≤ (s.eng e).rx.pipe.out.length)
    (hleast : smallest (huntCounts p noise (s.eng e).rx.pipe.out) = some (off, c)) :
    ActsOn e (.groupHuntDone e noise) s fun t =>
      (t.eng e).fec.aligned = fractionOk p.rows c ∧ (fractionOk p.rows c = true → (t.eng e).fec.offset = off) := by
  have hbegun : ¬(s.eng e).rx.pipe.out.length < huntLength p := hlength.not_gt
  cases hfraction : fractionOk p.rows c
  case true =>
    refine actsOn_eventIf_eq hready (show execGroupHuntDone e noise s = _ from rfl) (RxState.decoding_of_mode hmode)
      (by simp only [hprofile, hhunt, hbegun, hleast, hfraction, Bool.not_false, if_true, if_false]; rfl)
      ((engineOnly_updEng e s rfl).trans (engineOnly_raise e _ _ _ _)) ?_
    rw [State.raise_eng, State.eng_updEng_same]
    exact ⟨rfl, fun _ => rfl⟩
  case false =>
    refine actsOn_eventIf_eq hready (show execGroupHuntDone e noise s = _ from rfl) (RxState.decoding_of_mode hmode)
      (by simp only [hprofile, hhunt, hbegun, hleast, hfraction, Bool.not_false, Bool.false_eq_true, if_true,
        if_false]; rfl)
      (engineOnly_updEng e s rfl) ?_
    rw [State.eng_updEng_same]
    exact ⟨hhunt, fun h => absurd h (by decide)⟩

/-- Only an empty list of counts has no smallest one. -/
theorem eq_nil_of_smallest {counts : List Nat} (h : smallest counts = none) : counts = [] := by
  cases counts with
  | nil => rfl
  | cons a as =>
    rw [smallest] at h
    split at h
    · cases h
    · split at h <;> cases h

/-- The count that is found stands at its place, is the least, and the first of equal ones. -/
theorem smallest_least {counts : List Nat} {i c : Nat} (h : smallest counts = some (i, c)) :
    counts[i]? = some c ∧ ∀ j d, counts[j]? = some d → c ≤ d ∧ (j < i → c < d) := by
  induction counts generalizing i c with
  | nil => cases h
  | cons a as ih =>
    rw [smallest] at h
    split at h
    next hnone =>
      obtain rfl := eq_nil_of_smallest hnone
      cases h
      refine ⟨rfl, fun j d hj => ?_⟩
      obtain ⟨rfl, rfl⟩ : j = 0 ∧ d = a := by simpa [List.getElem?_singleton, eq_comm] using hj
      exact ⟨le_rfl, fun hj => absurd hj (Nat.not_lt_zero 0)⟩
    next k m hrest =>
      obtain ⟨hat, hleast⟩ := ih hrest
      have hplaces (j d : Nat) (hj : (a :: as)[j]? = some d) :
          j = 0 ∧ d = a ∨ 0 < j ∧ m ≤ d ∧ (j < k + 1 → m < d) := by
        cases j with
        | zero => exact .inl ⟨rfl, (Option.some.inj hj).symm⟩
        | succ j =>
          obtain ⟨hle, hlt⟩ := hleast j d hj
          exact .inr ⟨j.succ_pos, hle, fun h => hlt (Nat.lt_of_succ_lt_succ h)⟩
      split at h
      next hless =>
        cases h
        exact ⟨hat, fun j d hj => by have := hplaces j d hj; omega⟩
      next hmore =>
        cases h
        exact ⟨rfl, fun j d hj => by have := hplaces j d hj; omega⟩

/-- Settles O24: the calibration's and the decoder's events one by one, and the least count of a list. -/
theorem calibrationAndDecoder : Obligations.CalibrationAndDecoder := by
  unfold Obligations.CalibrationAndDecoder
  refine ⟨fun s e k pairs hready => ⟨fun x v w => actsOn_calMeasureDone hready, actsOn_calIntervalEnd hready,
      actsOn_calApply_adc hready, actsOn_calApply_dac hready, fun v w => actsOn_dacCalStepDone hready⟩,
    fun s e hready hmode => ⟨fun a u w o => actsOn_decoderAdvance_output hready hmode,
      fun a u => actsOn_decoderAdvance_wait hready hmode,
      fun noise off c p => actsOn_groupHuntDone hready hmode⟩,
    fun counts i c h => smallest_least h⟩

end Sys2Proof.Machine
end

section
/-! SUPPORT. Client ports and lanes one by one: what a change of one of them, a port's failure and an event leave of the
others (R268, R284), and the checks of their commands (R276). -/

namespace Sys2Proof.Machine

/-! ## Changes of one client port or lane -/

section
variable (s : State)

theorem State.cport_updCport (c d : Cp) (f : Cport → Cport) :
    (s.updCport c f).cport d = if d = c then f (s.cport d) else s.cport d := by
  simp only [State.updCport, State.cport, Fin.getElem_fin, Vector.getElem_set, Fin.ext_iff, eq_comm (a := d.val)]
  split
  next h => simp only [h]
  next => rfl

@[simp] theorem State.cport_updCport_same (c : Cp) (f : Cport → Cport) : (s.updCport c f).cport c = f (s.cport c) := by
  rw [State.cport_updCport, if_pos rfl]

theorem State.cport_updCport_ne {c d : Cp} (h : d ≠ c) (f : Cport → Cport) : (s.updCport c f).cport d = s.cport d := by
  rw [State.cport_updCport, if_neg h]

@[simp] theorem State.lane_updLane_same (l : LaneNo) (f : Lane → Lane) : (s.updLane l f).lane l = f (s.lane l) := by
  rw [State.lane_updLane, if_pos rfl]

theorem State.lane_updLane_ne {l k : LaneNo} (h : k ≠ l) (f : Lane → Lane) : (s.updLane l f).lane k = s.lane k := by
  rw [State.lane_updLane, if_neg h]

@[simp] theorem State.lane_raise (code : BitVec 16) (pl : Place) (data : Bytes) (l : LaneNo) :
    (s.raise code pl data).lane l = s.lane l := by
  simp [State.lane]

@[simp] theorem State.cport_raise (code : BitVec 16) (pl : Place) (data : Bytes) (c : Cp) :
    (s.raise code pl data).cport c = s.cport c := by
  simp [State.cport]

@[simp] theorem takeRequest_lane (op : BitVec 16) (r : Request) (l : LaneNo) :
    (s.takeRequest op r).lane l = s.lane l := rfl

@[simp] theorem takeRequest_cport (op : BitVec 16) (r : Request) (c : Cp) :
    (s.takeRequest op r).cport c = s.cport c := rfl

@[simp] theorem takeRequest_form (op : BitVec 16) (r : Request) (c : Cp) :
    (s.takeRequest op r).form c = s.form c := rfl

/-- A change of a port behind its parameters leaves every formation. -/
theorem State.form_updCport {c : Cp} {f : Cport → Cport} (h : (f (s.cport c)).params = (s.cport c).params) (d : Cp) :
    (s.updCport c f).form d = s.form d := by
  simp only [State.form, State.cport_updCport]
  split
  next hd => rw [hd, h]
  next => rfl

/-- Lanes that are changed one after the other, each once. -/
theorem State.lane_foldl_updLane {ls : List LaneNo} (hls : ls.Nodup) (g : Lane → Lane) (k : LaneNo) :
    (ls.foldl (fun s l => s.updLane l g) s).lane k = if k ∈ ls then g (s.lane k) else s.lane k :=
  foldl_view_once (view := (State.lane · k)) (fun s _ hl => s.lane_updLane_ne hl.symm g)
    (fun s => s.lane_updLane_same k g) hls s

/-- Lanes that are changed one after the other leave the client ports. -/
theorem State.cport_foldl_updLane {α : Type} (ls : List α) (l : α → LaneNo) (g : α → Lane → Lane) (c : Cp) :
    (ls.foldl (fun s a => s.updLane (l a) (g a)) s).cport c = s.cport c :=
  foldl_keeps (f := fun s a => s.updLane (l a) (g a)) (State.cport · c) (fun _ _ => rfl) ls s

end

/-- Client traffic moves no engine. -/
theorem engines_of_offTraffic {s t : State} (h : t.offTraffic = s.offTraffic) : t.engines = s.engines :=
  show t.offTraffic.engines = s.offTraffic.engines from congrArg State.engines h

/-! ## Failure of a port (R268, R284) -/

@[simp] theorem bit_eq_zero (b : Bool) (i : Nat) : bit b i = 0 ↔ b = false := by
  cases b <;> simp [bit]

section
variable {s : State} {c : Cp}

theorem State.portCause_of_pcsLost (hform : (s.form c).ethernet = true) (h : (s.cport c).pcsLost = true) :
    s.portCause c ≠ 0 := by
  have heth : (s.cport c).params.active.form.ethernet = true := hform
  simp [State.portCause, heth, h]

theorem State.portCause_of_rxLocal (hform : (s.form c).ethernet = true) (h : (s.cport c).rxLocal = true) :
    s.portCause c ≠ 0 := by
  have heth : (s.cport c).params.active.form.ethernet = true := hform
  simp [State.portCause, heth, h]

theorem State.portCause_of_loopback (hform : (s.form c).formed = true)
    (h : (s.cport c).loopback = 1 ∨ (s.cport c).loopback = 2) : s.portCause c ≠ 0 := by
  have hformed : (s.cport c).params.active.form.formed = true := hform
  rcases h with h | h <;> simp [State.portCause, hformed, h]

theorem CportConfig.formed_of_ethernet {f : CportConfig} (h : f.ethernet = true) : f.formed = true :=
  (Bool.and_eq_true_iff.mp h).1

end

section
variable (s : State) (c : Cp)

theorem State.refreshPort_lanes : (s.refreshPort c).lanes = s.lanes := by
  simp [State.refreshPort, apply_ite State.lanes]

@[simp] theorem State.refreshPort_lane (l : LaneNo) : (s.refreshPort c).lane l = s.lane l := by
  rw [State.lane, State.refreshPort_lanes, ← State.lane]

@[simp] theorem State.refreshPorts_lane (l : LaneNo) : s.refreshPorts.lane l = s.lane l :=
  foldl_keeps (State.lane · l) (fun s c => s.refreshPort_lane c l) _ s

theorem State.refreshPort_cport_ne {d : Cp} (h : d ≠ c) : (s.refreshPort c).cport d = s.cport d := by
  simp [State.refreshPort, apply_ite (State.cport · d), State.cport_updCport_ne s h]

/-- The failure of a port is all that is brought up to date. -/
theorem State.refreshPort_cport : (s.refreshPort c).cport c = { s.cport c with
    failed := (s.cport c).failed || ((s.form c).formed && s.portCause c != 0) } := by
  unfold State.refreshPort
  dsimp only
  by_cases hfailed : (s.cport c).failed = true
  · rw [hfailed, Bool.not_true, Bool.and_false, if_neg Bool.false_ne_true, Bool.true_or, ← hfailed]
  · rw [Bool.not_eq_true] at hfailed
    rw [hfailed, Bool.not_false, Bool.and_true, Bool.false_or]
    cases hcause : (s.form c).formed && s.portCause c != 0
    case true => simp
    case false => rw [if_neg Bool.false_ne_true, ← hfailed]

end

/-- A formed port with a condition is failed once its failure is brought up to date. -/
theorem State.refreshPort_failed {s : State} {c : Cp} (hform : (s.form c).formed = true) (hcause : s.portCause c ≠ 0) :
    ((s.refreshPort c).cport c).failed = true := by
  rw [State.refreshPort_cport]
  simp [hform, hcause]

/-! ## Checks of commands on ports and lanes (R276) -/

@[simp] theorem cpOf_val (c : Cp) : cpOf c.val = c := Fin.ofNat_val_eq_self c

@[simp] theorem laneOf_val (l : LaneNo) : laneOf l.val = l := Fin.ofNat_val_eq_self l

section
variable {bad : Bool} {r : Request} {s : State}

/-- Form, range and tenancy pass for a client port that is there and the port's. -/
theorem portGuards_pass {c : Cp} (a : Cp → Answer) (hbad : bad = false) (hfield : field r.params 0 1 = c.val)
    (hhas : s.hasLane c.val = true) (hholds : s.holdsPort r.port c = true) : portGuards bad r s a = a c := by
  rw [portGuards, hfield, cpOf_val]
  exact guards_pastTenancy hbad (by simp [hhas]) (by simp [hholds]) [] _

/-- Form, range and tenancy pass for a lane that is there and whose engine is the port's. -/
theorem laneGuards_pass {l : LaneNo} (a : LaneNo → Answer) (hbad : bad = false) (hfield : field r.params 0 1 = l.val)
    (hhas : s.hasLane l.val = true) (hholds : s.holdsEngine r.port (l.val / 16) = true) :
    laneGuards bad r s a = a l := by
  rw [laneGuards, hfield, laneOf_val]
  exact guards_pastTenancy hbad (by simp [hhas]) (by simp [hholds]) [] _

theorem mem_maskLanes {mask : BitVec 64} {l : LaneNo} : l ∈ maskLanes mask.toNat ↔ mask.getLsbD l.val = true := by
  simp [maskLanes, BitVec.testBit_toNat]

theorem maskLanes_nodup (m : Nat) : (maskLanes m).Nodup := (List.nodup_finRange 64).filter _

/-- Lanes of a mask that are changed, and the ports' failure brought up to date: each lane of the mask has changed. -/
theorem State.lane_updMask (s : State) (mask : BitVec 64) (g : Lane → Lane) (l : LaneNo) :
    (((maskLanes mask.toNat).foldl (fun s l => s.updLane l g) s).refreshPorts).lane l =
      if mask.getLsbD l.val = true then g (s.lane l) else s.lane l := by
  rw [State.refreshPorts_lane, State.lane_foldl_updLane _ (maskLanes_nodup _)]
  simp only [mem_maskLanes]

/-- Form, range and tenancy pass for lanes that are there and whose engines are the port's. -/
theorem maskGuards_pass {mask : BitVec 64} (a : List LaneNo → Answer) (hbad : bad = false)
    (hfield : field r.params 0 8 = mask.toNat) (hlanes : ∀ l : LaneNo, mask.getLsbD l.val = true →
      s.hasLane l.val = true ∧ s.holdsEngine r.port (l.val / 16) = true) :
    maskGuards bad r s a = a (maskLanes mask.toNat) := by
  have hmem (l : LaneNo) (hl : l ∈ maskLanes mask.toNat) := hlanes l (mem_maskLanes.mp hl)
  rw [maskGuards, hfield]
  refine guards_pastTenancy hbad ?_ ?_ [] _
  · simpa using fun l hl => (hmem l hl).1
  · simpa using fun l hl => (hmem l hl).2

end

/-! ## Parameters that begin with a mask of lanes (R279) -/

theorem field_be8 (v : BitVec 64) (x : Bytes) : field (be 8 v ++ x) 0 8 = v.toNat := by
  rw [field_append_left (by simp)]
  exact field_be (n := 8) v

theorem field_be8_succ (v : BitVec 64) (x : Bytes) (o n : Nat) : field (be 8 v ++ x) (o + 8) n = field x o n := by
  rw [field_append_right (by simp)]
  simp

theorem u8_be8_succ (v : BitVec 64) (x : Bytes) (o : Nat) : u8 (be 8 v ++ x) (o + 8) = u8 x o := by
  rw [u8, field_be8_succ, ← u8]

theorem zeroAt_be8_succ (v : BitVec 64) (x : Bytes) (o n : Nat) : zeroAt (be 8 v ++ x) (o + 8) n = zeroAt x o n := by
  have hfirst : List.drop (o + 8) (be 8 v) = [] := List.drop_eq_nil_of_le (by simp)
  simp [zeroAt, List.drop_append, hfirst]

end Sys2Proof.Machine
end

section
/-! The opcodes of the client ports (R255, R271 to R274, R277 to R282): each behind its checks. -/

namespace Sys2Proof.Machine

/-- The number of a client port or lane at the head of the parameters. -/
theorem field_client {c : Fin 64} {b p : Bytes} (hp : p = byte c.val :: b) : field p 0 1 = c.val := by
  rw [hp, field_cons_zero, byte_toNat_of_lt (by omega)]

section
variable {r : Request} {s : State} {op : BitVec 16} {body : State → Answer} {bad : Bool} {data : Bytes} {t : State}

/-- A request in form that names a client port of its host port comes to its own answer. -/
theorem opcode_cport {c : Cp} {f : Cp → Answer} (hx : Executes false r s)
    (hb : body (s.takeRequest op r) = portGuards bad r (s.takeRequest op r) f) (hbad : bad = false)
    (hfield : field r.params 0 1 = c.val) (hhas : s.hasLane c.val = true) (hholds : s.holdsPort r.port c = true)
    (hf : f c = .ok .ok data t) : opcode op false r s body = answered op r .ok data t :=
  opcode_ok hx (hb.trans ((portGuards_pass f hbad hfield (by simpa using hhas)
    (by rwa [State.takeRequest_holdsPort])).trans hf))

/-- A request in form that names a lane of an engine of its host port comes to its own answer. -/
theorem opcode_lane {l : LaneNo} {f : LaneNo → Answer} (hx : Executes false r s)
    (hb : body (s.takeRequest op r) = laneGuards bad r (s.takeRequest op r) f) (hbad : bad = false)
    (hfield : field r.params 0 1 = l.val) (hhas : s.hasLane l.val = true)
    (hholds : s.holdsEngine r.port (l.val / 16) = true) (hf : f l = .ok .ok data t) :
    opcode op false r s body = answered op r .ok data t :=
  opcode_ok hx (hb.trans ((laneGuards_pass f hbad hfield (by simpa using hhas) (by simpa using hholds)).trans hf))

end

/-! ## Staged writes (R277, R278, R280) -/

section
variable {r : Request} {s : State} (hx : Executes false r s)
include hx

theorem exec_cportWrite {c : Cp} {f : CportConfig} (hf : parseCport r.params = f) (hform : Formed r 8)
    (hfield : field r.params 0 1 = c.val) (hhas : s.hasLane c.val = true) (hmode : f.mode.toNat ≤ 2)
    (hrate : f.rate.toNat ≤ 2) (hzero : zeroAt r.params 5 1 = true) (hfirst : f.first.toNat ≤ 63)
    (hlane : s.hasLane f.first.toNat = true) (hwidth : f.width.toNat ≤ 16)
    (hmax : f.frameMax = 0 ∨ 64 ≤ f.frameMax.toNat ∧ f.frameMax.toNat ≤ 16350) (hholds : s.holdsPort r.port c = true)
    (hengines : ∀ e ∈ s.enginesAfter c f, s.holdsEngine r.port e = true ∧ s.holdsScope 7 e = false) :
    Writes 0x0901 .cportWrite r s fun s => s.updCport c fun p => { p with
      params := { p.params with staged := { p.params.staged with form := f } } } := by
  have hafter : (s.takeRequest 0x0901 r).enginesAfter c f = s.enginesAfter c f := rfl
  refine opcode_ok hx ?_
  rw [cportWriteBody, hfield, hf, cpOf_val, hafter]
  refine (guards_pastTenancy ?_ ?_ ?_ _ _).trans (guards_pass _ _ ?_)
  · simp [formed_badForm hform, hmode, hrate, hzero]
  · simpa [hhas, hfirst, hlane, hwidth] using or_iff_not_imp_left.mp hmax
  · simpa [State.takeRequest_holdsPort, hholds] using fun e he => (hengines e he).1
  · simpa using fun e he => (hengines e he).2

theorem exec_laneEqWrite {l : LaneNo} {q : LaneEq} (hq : parseLaneEq r.params = q) (hform : Formed r 12)
    (hfield : field r.params 0 1 = l.val) (hhas : s.hasLane l.val = true) (hflags : q.rxFlags.toNat ≤ 7)
    (hpolarity : q.polarity.toNat ≤ 3) (hzero : zeroAt r.params 8 4 = true) (hrange : laneEqRangeOk q = true)
    (hholds : s.holdsEngine r.port (l.val / 16) = true) (hfree : s.holdsScope 7 (l.val / 16) = false) :
    Writes 0x0903 .laneEqWrite r s fun s => s.updLane l fun x => { x with eq := { x.eq with staged := q } } := by
  refine opcode_ok hx ?_
  rw [laneEqWriteBody, hfield, hq, laneOf_val]
  refine (guards_pastTenancy ?_ ?_ ?_ _ _).trans (guards_pass _ _ ?_)
  · simp [formed_badForm hform, hflags, hpolarity, hzero]
  · simp [hhas, hrange]
  · simp [hholds]
  · simpa using hfree

theorem exec_synceWrite (hform : Formed r 8) (hport : r.port = 0) (hfree : s.holdsModule 11 = false)
    (hentries : ∀ i : Fin 4, (synceEntry r.params i.val).1 = 0 ∨ ((synceEntry r.params i.val).1.toNat ≤ 64 ∧
      s.hasLane ((synceEntry r.params i.val).1.toNat - 1) = true)) :
    Writes 0x0908 .synceWrite r s fun s => { s with
      synce := { s.synce with staged := Vector.ofFn fun i => synceEntry r.params i.val } } := by
  refine opcode_ok hx (guards_pass _ _ ?_)
  simp only [List.forall_mem_cons, List.not_mem_nil, false_implies, implies_true, and_true]
  refine ⟨by simp [notPrincipal, hport], formed_badForm hform, ?_, by simpa using hfree⟩
  simp only [List.any_map, List.any_eq_false, List.mem_range, Function.comp_apply, takeRequest_hasLane]
  intro i hi
  rcases hentries ⟨i, hi⟩ with h | ⟨hle, hhas⟩
  · simp [show (synceEntry r.params i).1 = 0 from h]
  · simp [show (synceEntry r.params i).1.toNat ≤ 64 from hle, show s.hasLane _ = true from hhas]

end

/-! ## Lane power, loopback and PRBS (R271 to R273, R279) -/

theorem Lane.setPower_power (l : Lane) (p : LanePower) : (l.setPower p).power = p := by
  unfold Lane.setPower
  dsimp only
  split
  next h => exact h
  next => cases p <;> rfl

section
variable {r : Request} {s : State} (hx : Executes false r s)
include hx

theorem exec_lanePower {mask : BitVec 64} {state : Fin 3} (hflag : r.flag0 = false)
    (hparams : r.params = be 8 mask ++ [byte state.val, 0, 0, 0]) (hlanes : ∀ l : LaneNo, mask.getLsbD l.val = true →
      s.hasLane l.val = true ∧ s.holdsEngine r.port (l.val / 16) = true) :
    ∃ t, exec (.lanePower r) s = answered 0x0905 r .ok [] t ∧
      (∀ l : LaneNo, mask.getLsbD l.val = true → (t.lane l).power = powerOf state.val) ∧
      (∀ l : LaneNo, mask.getLsbD l.val = false → t.lane l = s.lane l) := by
  have hmask : field r.params 0 8 = mask.toNat := by rw [hparams, field_be8]
  have hstate : field r.params 8 1 = state.val := by
    rw [hparams, field_be8_succ mask _ 0 1, field_cons_zero, byte_toNat_of_lt (by omega)]
  have hzero : zeroAt r.params 9 3 = true := by
    rw [hparams, zeroAt_be8_succ mask _ 1 3]
    rfl
  have hform : badForm r 12 = false := formed_badForm ⟨hflag, by simp [hparams]⟩
  refine ⟨_, opcode_ok hx (maskGuards_pass _ ?_ hmask (by simpa using hlanes)), fun l hl => ?_, fun l hl => ?_⟩
  · simpa [hform, hstate, hzero] using Nat.le_of_lt_succ state.isLt
  · rw [State.lane_updMask, if_pos hl, Lane.setPower_power, hstate]
  · rw [State.lane_updMask, if_neg (ne_true_of_eq_false hl), takeRequest_lane]

theorem exec_prbsControl {mask : BitVec 64} {gen chk : Fin 3} (hflag : r.flag0 = false)
    (hparams : r.params = be 8 mask ++ [byte gen.val, byte chk.val, 0, 0])
    (hlanes : ∀ l : LaneNo, mask.getLsbD l.val = true →
      s.hasLane l.val = true ∧ s.holdsEngine r.port (l.val / 16) = true ∧ (s.lane l).power = .active) :
    ∃ t, exec (.prbsControl r) s = answered 0x0907 r .ok [] t ∧
      (∀ l : LaneNo, mask.getLsbD l.val = true → (t.lane l).gen = byte gen.val ∧ (t.lane l).chk = byte chk.val) ∧
      (∀ l : LaneNo, mask.getLsbD l.val = false → t.lane l = s.lane l) := by
  have hmask : field r.params 0 8 = mask.toNat := by rw [hparams, field_be8]
  have hgen : u8 r.params 8 = byte gen.val := by
    rw [hparams, u8_be8_succ mask _ 0]
    simp [u8]
  have hchk : u8 r.params 9 = byte chk.val := by
    rw [hparams, u8_be8_succ mask _ 1]
    simp [u8]
  have hgenMost : field r.params 8 1 ≤ 2 := by
    rw [hparams, field_be8_succ mask _ 0 1, field_cons_zero, byte_toNat_of_lt (by omega)]
    omega
  have hchkMost : field r.params 9 1 ≤ 2 := by
    rw [hparams, field_be8_succ mask _ 1 1, field_cons_succ, field_cons_zero, byte_toNat_of_lt (by omega)]
    omega
  have hzero : zeroAt r.params 10 2 = true := by
    rw [hparams, zeroAt_be8_succ mask _ 2 2]
    rfl
  have hform : badForm r 12 = false := formed_badForm ⟨hflag, by simp [hparams]⟩
  refine ⟨_, opcode_ok hx ((maskGuards_pass _ ?form hmask ?lanes).trans (guards_pass _ _ ?active)), fun l hl => ?_,
    fun l hl => ?_⟩
  case form => simp [hform, hgenMost, hchkMost, hzero]
  case lanes => simpa using fun l hl => ⟨(hlanes l hl).1, (hlanes l hl).2.1⟩
  case active => simpa [mem_maskLanes] using fun l hl => (hlanes l hl).2.2
  · rw [State.lane_updMask, if_pos hl]
    exact ⟨hgen, hchk⟩
  · rw [State.lane_updMask, if_neg (ne_true_of_eq_false hl), takeRequest_lane]

theorem exec_clientLoopback {c : Cp} {mode : Fin 4} (hflag : r.flag0 = false)
    (hparams : r.params = [byte c.val, byte mode.val, 0, 0]) (hhas : s.hasLane c.val = true)
    (hholds : s.holdsPort r.port c = true) (hformed : (s.form c).formed = true) :
    ∃ t, exec (.clientLoopback r) s = answered 0x0906 r .ok [] t ∧ (t.cport c).loopback = byte mode.val ∧
      (mode.val = 1 ∨ mode.val = 2 → (t.cport c).failed = true) ∧ (∀ d, d ≠ c → t.cport d = s.cport d) := by
  have hfield : field r.params 0 1 = c.val := field_client hparams
  have hmode : field r.params 1 1 ≤ 3 := by
    rw [hparams, field_cons_succ, field_cons_zero, byte_toNat_of_lt (by omega)]
    omega
  have hloop : u8 r.params 1 = byte mode.val := by simp [hparams, u8]
  have hform : badForm r 4 = false := formed_badForm ⟨hflag, by simp [hparams]⟩
  refine ⟨_, opcode_cport hx rfl ?form hfield hhas hholds (guards_pass _ _ ?formed), ?_, fun h => ?_, fun d hd => ?_⟩
  case form =>
    have hzero : zeroAt r.params 2 2 = true := by simp [hparams]
    simp [hform, hmode, hzero]
  case formed => simp [hformed]
  · rw [State.refreshPort_cport, State.cport_updCport_same, hloop]
  · have hformed' := State.form_updCport (s.takeRequest 0x0906 r) (c := c)
      (f := fun p => { p with loopback := u8 r.params 1 }) rfl c
    have hstill := (congrArg CportConfig.formed hformed').trans hformed
    refine State.refreshPort_failed hstill (State.portCause_of_loopback hstill ?_)
    rw [State.cport_updCport_same, hloop]
    rcases h with h | h <;> simp [h, byte]
  · rw [State.refreshPort_cport_ne _ _ hd, State.cport_updCport_ne _ hd, takeRequest_cport]

end

/-! ## Reads of the copies (R274, R277, R278, R280) -/

theorem copyOf_toNat {α : Type} (cp : Bool) (x : Staged α) :
    copyOf (byte cp.toNat) x = if cp then x.staged else x.active := by
  cases cp <;> rfl

section
variable {r : Request} {s : State} {n : Byte} {cp : Bool} (hflag : r.flag0 = false)
include hflag

theorem badEngineCopy_formed (hparams : r.params = [n, byte cp.toNat, 0, 0]) : badEngineCopy r = false := by
  cases cp <;> simp [badEngineCopy, badForm, hflag, hparams]

theorem badEngine3_formed (hparams : r.params = [n, 0, 0, 0]) : badEngine3 r = false := by
  simp [badEngine3, badForm, hflag, hparams]

variable (hx : Executes false r s)
include hx

theorem exec_cportRead {c : Cp} (hparams : r.params = [byte c.val, byte cp.toNat, 0, 0])
    (hhas : s.hasLane c.val = true) (hholds : s.holdsPort r.port c = true) :
    Reads 0x0902 .cportRead r s fun s => renderCport (byte c.val)
      (if cp then (s.cport c).params.staged else (s.cport c).params.active).form := by
  have hport : u8 r.params 0 = byte c.val := by simp [hparams, u8]
  have hcopy : u8 r.params 1 = byte cp.toNat := by simp [hparams, u8]
  refine opcode_cport hx rfl (badEngineCopy_formed hflag hparams) (field_client hparams) hhas hholds ?_
  rw [hport, hcopy, copyOf_toNat]
  rfl

theorem exec_laneEqRead {l : LaneNo} (hparams : r.params = [byte l.val, byte cp.toNat, 0, 0])
    (hhas : s.hasLane l.val = true) (hholds : s.holdsEngine r.port (l.val / 16) = true) :
    Reads 0x0904 .laneEqRead r s fun s => renderLaneEq (byte l.val)
      (if cp then (s.lane l).eq.staged else (s.lane l).eq.active) := by
  have hlane : u8 r.params 0 = byte l.val := by simp [hparams, u8]
  have hcopy : u8 r.params 1 = byte cp.toNat := by simp [hparams, u8]
  refine opcode_lane hx rfl (badEngineCopy_formed hflag hparams) (field_client hparams) hhas hholds ?_
  rw [hlane, hcopy, copyOf_toNat]
  rfl

theorem exec_synceRead (hparams : r.params = [byte cp.toNat, 0, 0, 0]) :
    Reads 0x0909 .synceRead r s fun s =>
      ((if cp then s.synce.staged else s.synce.active).toList.map fun e => [e.1, e.2]).flatten := by
  have hcopy : u8 r.params 0 = byte cp.toNat := by simp [hparams, u8]
  have hbad : (badForm r 4 || !zeroAt r.params 1 3 || decide (field r.params 0 1 > 1)) = false := by
    cases cp <;> simp [badForm, hflag, hparams]
  refine opcode_ok hx ?_
  rw [synceReadBody, hbad, guards_false, guards_nil, hcopy, copyOf_toNat]
  rfl

end

/-! ## Status (R281, R282) -/

/-- On a lane of a formed port, LANE_STATUS shows the conditions of R268. -/
theorem State.laneInput_of_port {s : State} {l : LaneNo} (h : s.portOfLane l ≠ none) :
    s.laneInput l = (!(s.lane l).signalLost, !(s.lane l).clockLost) :=
  if_pos (Option.isSome_iff_ne_none.mpr h)

/-- The table of LANE_STATUS, eye figures and all. -/
def State.laneTable (s : State) (l : LaneNo) : List (Nat × Bytes) :=
  let x := s.lane l
  [(0, [byte l.val]), (1, [powerCode x.power]),
    (2, [byte (bit (x.power != .deep && (s.laneInput l).1) 0 + bit (x.power != .deep && (s.laneInput l).2) 1 +
      bit ((match s.portOfLane l with | some c => (s.form c).native | none => false) && x.inFrame) 2 +
      bit x.locked 3)]),
    (3, [if (x.eqOf .transmit).rxFlags.getLsbD 0 then (x.eqOf .transmit).ctlePeak else x.ctle]),
    (4, beBytes 2 (Config.freeValue s.fresh)), (6, beBytes 2 (Config.freeValue (s.fresh + 1))),
    (8, [x.gen + 4 * x.chk]), (9, [match s.portOfLane l with | some c => byte (c.val + 1) | none => 0]),
    (10, be 2 x.slips), (12, be 4 x.prbsLast)]

theorem laneStatus_lays (s : State) (l : LaneNo) : Lays (s.laneStatus l) 16 (s.laneTable l) := by
  refine lays_of_flatten ?_ (by simp [State.laneStatus]) (by simp [State.laneTable, placed])
  cases hport : s.portOfLane l <;> simp [State.laneStatus, State.laneTable, hport]

theorem portStatus_lays (s : State) (c : Cp) : Lays (s.portStatus c) 16
    [(0, [byte c.val]), (1, [if !(s.form c).formed then 0 else if (s.cport c).failed then 2 else 1]),
      (2, [byte (if (s.form c).formed then s.portCause c else 0)]), (3, [(s.cport c).loopback]),
      (4, [s.egressCode c]), (5, [byte (bit (s.cport c).rxRemote 0 + bit (s.cport c).rxLocal 1)]), (6, [0, 0]),
      (8, if (s.form c).ethernet then be 4 (s.cport c).fecCorr else [0, 0, 0, 0]),
      (12, if (s.form c).ethernet then be 4 (s.cport c).fecUncorr else [0, 0, 0, 0])] := by
  cases heth : (s.form c).ethernet <;>
    exact lays_of_flatten (by simp [State.portStatus, heth, zeros]) (by simp [State.portStatus, heth, zeros])
      (by simp [placed])

section
variable {r : Request} {s : State} (hx : Executes false r s) (hflag : r.flag0 = false)
include hx hflag

theorem exec_laneStatus {l : LaneNo} (hparams : r.params = [byte l.val, 0, 0, 0]) (hhas : s.hasLane l.val = true)
    (hholds : s.holdsEngine r.port (l.val / 16) = true) :
    exec (.laneStatus r) s = answered 0x090A r .ok (s.laneStatus l)
      { s.takeRequest 0x090A r with fresh := s.fresh + 3 } :=
  opcode_lane hx rfl (badEngine3_formed hflag hparams) (field_client hparams) hhas hholds rfl

theorem exec_portStatus {c : Cp} (hparams : r.params = [byte c.val, 0, 0, 0]) (hhas : s.hasLane c.val = true)
    (hholds : s.holdsPort r.port c = true) : Reads 0x090B .portStatus r s fun _ => s.portStatus c :=
  opcode_cport hx rfl (badEngine3_formed hflag hparams) (field_client hparams) hhas hholds rfl

end

/-- Settles O26: each write is its checks and what it stages or does behind them, each read its checks and one table. -/
theorem clientRequests : Obligations.ClientRequests := by
  unfold Obligations.ClientRequests
  refine ⟨fun r s hx => ⟨?cport, ?laneEq, ?power, ?loopback, ?prbs, exec_synceWrite hx⟩,
    fun r s cp hx hflag => ⟨?cportRead, ?laneEqRead, exec_synceRead hflag hx, ?laneStatus, ?portStatus⟩⟩
  case cport => exact fun c => exec_cportWrite hx rfl
  case laneEq => exact fun l => exec_laneEqWrite hx rfl
  case power => exact fun mask state => exec_lanePower hx
  case loopback => exact fun c mode => exec_clientLoopback hx
  case prbs => exact fun mask gen chk => exec_prbsControl hx
  case cportRead => exact fun c => exec_cportRead hflag hx
  case laneEqRead => exact fun l => exec_laneEqRead hflag hx
  case laneStatus =>
    intro l hparams hhas hholds
    refine ⟨_, exec_laneStatus hx hflag hparams hhas hholds, fun x hxl => ?_⟩
    subst hxl
    refine ⟨(s.laneInput l).1, (s.laneInput l).2, fun h => Prod.mk.inj (State.laneInput_of_port h),
      (laneStatus_lays s l).mono ?_⟩
    cases hport : s.portOfLane l <;> simp [State.laneTable, hport]
  case portStatus =>
    exact fun c hparams hhas hholds => ⟨_, exec_portStatus hx hflag hparams hhas hholds, portStatus_lays s c⟩

end Sys2Proof.Machine
end

section
/-! Defects, ordered sets, adaptation and checkers of the client ports (R259, R268, R269, R271, R273): each event at its
conditions. -/

namespace Sys2Proof.Machine

/-- An event of a ready module takes effect under its condition. -/
theorem exec_eventIf {i : Instr} {s : State} {cond : Bool} {f : State → State} (hready : s.ready = true)
    (hexec : exec i s = eventIf s cond f) (hcond : cond = true) : exec i s = .next (f s) :=
  hexec.trans (eventIf_true hready hcond f)

section
variable {s : State} {c : Cp} (hready : s.ready = true)
include hready

/-! ## Failure conditions (R268) -/

theorem exec_portFailDetect (a b : BitVec 16) (hform : (s.form c).ethernet = true) :
    ∃ t, exec (.portFailDetect c a b true) s = .next t ∧ (t.cport c).failed = true ∧ (t.cport c).pcsLost = true ∧
      (∀ d, d ≠ c → t.cport d = s.cport d) ∧ t.engines = s.engines := by
  refine ⟨_, exec_eventIf hready (show execPortFailDetect c a b true s = _ from rfl)
    (CportConfig.formed_of_ethernet hform), ?_⟩
  unfold State.detectFail
  extract_lets u
  have hports (d : Cp) : u.cport d = s.cport d := State.cport_foldl_updLane s _ Prod.fst _ d
  have hstill : ((u.updCport c fun p => { p with pcsLost := true }).form c).ethernet = true := by
    rw [State.form_updCport u rfl, State.form, hports]
    exact hform
  refine ⟨State.refreshPort_failed (CportConfig.formed_of_ethernet hstill)
    (State.portCause_of_pcsLost hstill (by rw [State.cport_updCport_same])), ?_, fun d hd => ?_, ?_⟩
  · rw [State.refreshPort_cport, State.cport_updCport_same]
  · rw [State.refreshPort_cport_ne _ _ hd, State.cport_updCport_ne _ hd, hports]
  · exact engines_of_offTraffic (by simp [u])

theorem exec_portFailClearTimer (hform : (s.form c).formed = true) (hfailed : (s.cport c).failed = true)
    (hcause : s.stateCause c = 0) :
    ∃ t, exec (.portFailClearTimer c) s = .next t ∧ (t.cport c).failed = false ∧
      (∀ d, d ≠ c → t.cport d = s.cport d) ∧ t.engines = s.engines := by
  refine ⟨_, exec_eventIf hready (show execPortFailClearTimer c s = _ from rfl)
    (by rw [hform, hfailed, hcause]; rfl), ?_⟩
  extract_lets u
  have hports (d : Cp) : u.cport d = s.cport d := State.cport_foldl_updLane s _ id _ d
  refine ⟨?_, fun d hd => ?_, ?_⟩
  · rw [State.cport_raise, State.cport_updCport_same]
  · rw [State.cport_raise, State.cport_updCport_ne _ hd, hports]
  · exact engines_of_offTraffic (by simp [u])

/-! ## Ordered sets (R259) -/

section
variable (hform : (s.form c).ethernet = true)
include hform

theorem exec_localFault : ∃ t, exec (.clientOrderedSetRx c .localFault) s = .next t ∧ (t.cport c).rxLocal = true ∧
    (t.cport c).failed = true := by
  refine ⟨_, exec_eventIf hready (show execClientOrderedSetRx c .localFault s = _ from rfl) hform, ?_⟩
  have hstill : ((s.updCport c fun p => { p with rxLocal := true }).form c).ethernet = true := by
    rw [State.form_updCport s rfl, hform]
  refine ⟨?_, State.refreshPort_failed (CportConfig.formed_of_ethernet hstill)
    (State.portCause_of_rxLocal hstill (by rw [State.cport_updCport_same]))⟩
  rw [State.refreshPort_cport, State.cport_updCport_same]

theorem exec_localEnd : exec (.clientOrderedSetRx c .localEnd) s =
    .next (s.updCport c fun p => { p with rxLocal := false }) :=
  show execClientOrderedSetRx c .localEnd s = _ from eventIf_true hready hform _

theorem exec_remoteFault : ∃ t, exec (.clientOrderedSetRx c .remoteFault) s = .next t ∧
    (t.cport c).rxRemote = true ∧ (t.cport c).failed = (s.cport c).failed := by
  refine ⟨_, exec_eventIf hready (show execClientOrderedSetRx c .remoteFault s = _ from rfl) hform, ?_⟩
  dsimp only
  split
  next h => exact ⟨h, rfl⟩
  next => simp

theorem exec_remoteEnd : ∃ t, exec (.clientOrderedSetRx c .remoteEnd) s = .next t ∧ (t.cport c).rxRemote = false := by
  refine ⟨_, exec_eventIf hready (show execClientOrderedSetRx c .remoteEnd s = _ from rfl) hform, ?_⟩
  dsimp only
  split
  next => simp
  next h => exact Bool.not_eq_true _ ▸ h

end

/-! ## Adaptation and checkers (R269, R271, R273) -/

section
variable {l : LaneNo} (hactive : (s.lane l).power = .active)
include hactive

theorem exec_laneAdaptDone (a : Adaptation) : ∃ t, exec (.laneAdaptDone l a) s = .next t ∧
    t.lane l = { (s.lane l).adapt a.ctle a.dfe with adapting := none } ∧ (∀ k, k ≠ l → t.lane k = s.lane k) := by
  refine ⟨_, exec_eventIf hready (show execLaneAdaptDone l a s = _ from rfl) (by rw [hactive]; rfl), ?_⟩
  extract_lets u
  have hlanes (k : LaneNo) := s.lane_updLane l k fun x => { x.adapt a.ctle a.dfe with adapting := none }
  split
  · exact ⟨by rw [hlanes, if_pos rfl], fun k hk => by rw [hlanes, if_neg hk]⟩
  · exact ⟨by rw [State.lane_raise, hlanes, if_pos rfl], fun k hk => by rw [State.lane_raise, hlanes, if_neg hk]⟩

theorem exec_prbsCheckerLock (hchk : (s.lane l).chk ≠ 0) :
    exec (.prbsCheckerLock l) s = .next (s.updLane l fun x => { x with locked := true }) :=
  show execPrbsCheckerLock l s = _ from eventIf_true hready (by rw [hactive, bne_iff_ne.mpr hchk]; rfl) _

theorem exec_prbsCheckerRelock (n : Nat) (hlocked : (s.lane l).locked = true) :
    ∃ t, exec (.prbsCheckerRelock ⟨l, n⟩) s = .next t ∧
      t.lane l = { s.lane l with locked := false, owed := false, prbsNow := (s.lane l).prbsNow + n } := by
  refine ⟨_, exec_eventIf hready (show execPrbsCheckerRelock ⟨l, n⟩ s = _ from rfl)
    (by rw [hlocked, hactive]; rfl), ?_⟩
  rw [State.lane_updLane_same, State.prbsErrors_lane, if_pos rfl, Lane.counted, hlocked, Bool.true_or, if_pos rfl]

end

end

end Sys2Proof.Machine
end

section
/-! SUPPORT. What counts the octets of a native port and tags its blocks moves context memory, flow contexts and the
collector, and no lane. -/

namespace Sys2Proof.Machine

section
variable (s : State)

theorem ite_lanes (c : Prop) [Decidable c] (t u : State) :
    (if c then t else u).lanes = if c then t.lanes else u.lanes := apply_ite _ _ _ _

/-! ## Context memory -/

@[simp] theorem State.memWrite_lanes (wa : Nat) (d : BitVec 128) : (s.memWrite wa d).lanes = s.lanes := by
  simp [State.memWrite]

@[simp] theorem State.updLine_lanes (n : Nat) (f : CacheLine → CacheLine) : (s.updLine n f).lanes = s.lanes := rfl

@[simp] theorem State.updDir_lanes (d : Dir) (f : FlowDir → FlowDir) : (s.updDir d f).lanes = s.lanes := by
  cases d <;> rfl

@[simp] theorem State.mergeWrite_lanes (wa : Nat) (d : BitVec 128) (mask : BitVec 16) :
    (s.mergeWrite wa d mask).lanes = s.lanes := by
  unfold State.mergeWrite
  dsimp only
  split <;> simp [ite_lanes]

@[simp] theorem State.markInvalid_lanes (n : Nat) : (s.markInvalid n).lanes = s.lanes := by
  unfold State.markInvalid
  dsimp only
  split <;> simp [ite_lanes]

@[simp] theorem State.lostWord_lanes (wa : Nat) (stored : BitVec 128) : (s.lostWord wa stored).1.lanes = s.lanes := by
  unfold State.lostWord
  dsimp only
  (repeat' split) <;> simp

@[simp] theorem State.logError_lanes (x : MemLogEntry) : (s.logError x).lanes = s.lanes := by
  simp [State.logError, ite_lanes]

@[simp] theorem State.wordCorrected_lanes (wa : Nat) (d : BitVec 128) : (s.wordCorrected wa d).lanes = s.lanes := by
  simp [State.wordCorrected, ite_lanes]

@[simp] theorem State.memRead_lanes (wa : Nat) (reader : Byte) : (s.memRead wa reader).1.lanes = s.lanes := by
  unfold State.memRead
  dsimp only
  (repeat' split) <;> simp

@[simp] theorem State.readWord_lanes (wa : Nat) (reader : Byte) : (s.readWord wa reader).1.lanes = s.lanes := by
  unfold State.readWord
  dsimp only
  split <;> simp

/-! ## Flow contexts and their cache -/

@[simp] theorem State.fetchHot_lanes (n : Nat) : (s.fetchHot n).1.lanes = s.lanes := by
  unfold State.fetchHot
  dsimp only
  split <;> simp

@[simp] theorem State.foldDrop_lanes (n w o delta ovfBit : Nat) :
    (s.foldDrop n w o delta ovfBit).1.lanes = s.lanes := by
  unfold State.foldDrop
  dsimp only
  split <;> simp

@[simp] theorem State.writeBack_lanes (l : CacheLine) : (s.writeBack l).lanes = s.lanes := by
  simp [State.writeBack]

@[simp] theorem State.evict_lanes (d : Dir) : (s.evict d).lanes = s.lanes := by
  unfold State.evict
  (repeat' split) <;> simp

@[simp] theorem State.install_lanes (d : Dir) (n : Nat) : (s.install d n).lanes = s.lanes := by
  unfold State.install
  dsimp only
  split <;> simp

@[simp] theorem State.setOvf_lanes (n : Nat) (bits : Byte) : (s.setOvf n bits).lanes = s.lanes := by
  simp [State.setOvf, ite_lanes]

@[simp] theorem State.countDrop_lanes (n : Nat) (w : FlowDrop) : (s.countDrop n w).lanes = s.lanes := by
  unfold State.countDrop
  dsimp only
  (repeat' split) <;> simp

@[simp] theorem State.countForward_lanes (d : Dir) (n frames octets : Nat) :
    (s.countForward d n frames octets).lanes = s.lanes := by
  simp [State.countForward]

@[simp] theorem State.countNative_lanes (c : Cp) (d : Dir) (octets : Nat) (shed : Bool) :
    (s.countNative c d octets shed).lanes = s.lanes := by
  unfold State.countNative
  (repeat' split) <;> simp

/-! ## Tags -/

@[simp] theorem State.selectTag_lanes (c : Cp) (d : Dir) (len : Nat) (t1 : BitVec 48) :
    (s.selectTag c d len t1).1.lanes = s.lanes := by
  unfold State.selectTag
  dsimp only
  (repeat' split) <;> simp

@[simp] theorem State.logTag_lanes (x : TagEntry) : (s.logTag x).lanes = s.lanes := by
  simp [State.logTag, ite_lanes]

@[simp] theorem State.finishTag_lanes (mark : Option TagMark) (c : Cp) (d : Dir) (native : Bool) (drop : Nat) :
    (s.finishTag mark c d native drop).lanes = s.lanes := by
  unfold State.finishTag
  dsimp only
  split <;> simp [ite_lanes]

@[simp] theorem State.tagBlocks_lanes (c : Cp) (d : Dir) (n : Nat) (shed : Bool) (t1 : BitVec 48) :
    (s.tagBlocks c d n shed t1).lanes = s.lanes := by
  unfold State.tagBlocks
  extract_lets
  rw [ite_lanes, ite_eq_left_iff]
  refine fun _ => foldl_keeps State.lanes (fun s _ => ?_) _ s
  rw [State.finishTag_lanes, State.selectTag_lanes]

end

end Sys2Proof.Machine
end

section
/-! Lane frames of native ports (R260 to R267), and the events of the client ports together. -/

namespace Sys2Proof.Machine

/-- A lane in frame stays in frame with a marker that is accepted (R265). -/
theorem Lane.marker_inFrame {l : Lane} (h : l.inFrame = true) : (l.marker true).inFrame = true := by
  simp [Lane.marker, h]

/-- Lane `l` is in frame with `st` in its buffer, and the other lanes are those of `s`. -/
structure HoldsFrames (l : LaneNo) (st : List (List Bytes)) (s u : State) : Prop where
  inFrame : (u.lane l).inFrame = true
  streams : (u.lane l).streams = st
  others : ∀ k, k ≠ l → u.lane k = s.lane k

section
variable {l : LaneNo} {st : List (List Bytes)} {s u v : State} (h : HoldsFrames l st s u)
include h

theorem HoldsFrames.of_lanes (hv : v.lanes = u.lanes) : HoldsFrames l st s v := by
  have hlane (k : LaneNo) : v.lane k = u.lane k := by rw [State.lane, hv, ← State.lane]
  exact ⟨hlane l ▸ h.inFrame, hlane l ▸ h.streams, fun k hk => (hlane k).trans (h.others k hk)⟩

/-- A change of the lane itself moves what it holds alone. -/
theorem HoldsFrames.updLane {st' : List (List Bytes)} {f : Lane → Lane} (hin : (f (u.lane l)).inFrame = true)
    (hst : (f (u.lane l)).streams = st') : HoldsFrames l st' s (u.updLane l f) := by
  refine ⟨?_, ?_, fun k hk => (u.lane_updLane_ne hk f).trans (h.others k hk)⟩
  all_goals rwa [State.lane_updLane_same]

end

/-- What a lane frame in frame makes of the lanes: its own lane is in frame and holds its streams behind the others. -/
theorem State.laneFrameRx_holds {s : State} {l : LaneNo} {c : Cp} {symbols sym : List (Fin 4)}
    (hsym : sym = invert (((s.lane l).eqOf .transmit).polarity.getLsbD 0) symbols) (hin : (s.lane l).inFrame = true)
    (hok : markerOk sym = true) :
    HoldsFrames l ((s.lane l).streams ++ [(readLane (rateSlots (s.form c).rate) l.val sym).2.1]) s
      (s.laneFrameRx l c symbols none) := by
  have hstart : HoldsFrames l (s.lane l).streams s s := ⟨hin, rfl, fun _ _ => rfl⟩
  unfold State.laneFrameRx
  extract_lets f slots sym' marked refreshed r counted headed slipped added shed
  obtain rfl : sym' = sym := hsym.symm
  have hmarked : HoldsFrames l (s.lane l).streams s marked :=
    hstart.updLane (by rw [hok]; exact Lane.marker_inFrame hin) rfl
  have hrefreshed : HoldsFrames l (s.lane l).streams s refreshed := hmarked.of_lanes (marked.refreshPort_lanes c)
  have hcounted : HoldsFrames l (s.lane l).streams s counted := hrefreshed.of_lanes (by rw [State.count_lanes])
  have hheaded : HoldsFrames l (s.lane l).streams s headed := by
    dsimp only [headed]
    split
    · exact hcounted.updLane hcounted.inFrame hcounted.streams
    · exact hcounted
  have hadded : HoldsFrames l ((s.lane l).streams ++ [r.2.1]) s added :=
    hheaded.updLane hheaded.inFrame (congrArg (· ++ [r.2.1]) hheaded.streams)
  rw [hrefreshed.inFrame, Bool.not_true, if_neg Bool.false_ne_true]
  split
  · exact hadded
  · exact hadded.of_lanes (by rw [State.tagBlocks_lanes, State.countNative_lanes])

theorem exec_laneFrameRx {s : State} {c : Cp} {l : LaneNo} {symbols : List (Fin 4)} (hready : s.ready = true)
    (hport : s.portOfLane l = some c) (hnative : (s.form c).native = true) (hactive : (s.lane l).power = .active) :
    exec (.laneFrameRx l symbols none) s = .next (s.laneFrameRx l c symbols none) := by
  refine (show execLaneFrameRx l symbols none s = _ from event_ready hready _).trans ?_
  simp only [hport, hnative, hactive]
  rfl

/-- Settles O27: each event at its conditions moves the port or lane that it names. -/
theorem clientEvents : Obligations.ClientEvents := by
  unfold Obligations.ClientEvents
  refine fun s c l hready => ⟨exec_portFailDetect hready, exec_portFailClearTimer hready,
    fun hform => ⟨exec_localFault hready hform, exec_localEnd hready hform, exec_remoteFault hready hform,
      exec_remoteEnd hready hform⟩,
    fun a hactive => exec_laneAdaptDone hready hactive a,
    fun hchk hactive => exec_prbsCheckerLock hready hactive hchk,
    fun n hlocked hactive => exec_prbsCheckerRelock hready hactive n hlocked, ?frame⟩
  case frame =>
    intro symbols hport hnative hactive hin hok
    obtain ⟨hstill, hstreams, hothers⟩ := State.laneFrameRx_holds (c := c) rfl hin hok
    exact ⟨_, exec_laneFrameRx hready hport hnative hactive, hstill, hstreams, hothers,
      engines_of_offTraffic (State.laneFrameRx_offTraffic s l c symbols none)⟩

end Sys2Proof.Machine
end

section
/-! Frames through an Ethernet client port (R257, R258, R268, R270, R272, R303, R407): what a frame meets in each
direction, case by case. -/

namespace Sys2Proof.Machine

/-! ## Near-end loopbacks (R272) -/

section
variable {b : Byte}

theorem nearEnd_true (h : b = 1 ∨ b = 2) : (b == 1 || b == 2) = true := by
  simpa using h

theorem nearEnd_false (h : b ≠ 1 ∧ b ≠ 2) : (b == 1 || b == 2) = false := by
  simpa using h

end

/-! ## A frame from the host (R257, R268, R272) -/

theorem State.clientFrame_failed {s : State} {c : Cp} {frame : Bytes} {pcs : Bool} {i : Option Instants}
    (hloop : (s.cport c).loopback ≠ 1 ∧ (s.cport c).loopback ≠ 2) (hfailed : (s.cport c).failed = true) :
    s.clientFrame c frame pcs i = s := by
  rw [State.clientFrame, nearEnd_false hloop, if_neg Bool.false_ne_true, if_pos hfailed]

section
variable {s : State} {c : Cp} {frame : Bytes} {pcs : Bool} {i : Option Instants} {x : Bytes × Bool}
  (hx : x = s.ethernetRead c frame pcs)
include hx

theorem State.clientFrame_loopback (hloop : (s.cport c).loopback = 1 ∨ (s.cport c).loopback = 2)
    (hlanes : ∀ l ∈ (s.form c).lanes, (s.lane l).power = .active ∧ (s.lane l).gen = 0) :
    s.clientFrame c frame pcs i =
      if (s.cport c).loopback = 1 then s.driveFrame c frame true else s.driveFrame c x.1 false := by
  have hopen : ((s.form c).lanes.all fun l => (s.lane l).power == .active && (s.lane l).gen == 0) = true := by
    simpa using hlanes
  rw [State.clientFrame, nearEnd_true hloop, if_pos rfl, if_pos hopen, ← hx]
  rcases hloop with h | h <;> rw [h] <;> rfl

section
variable (hloop : (s.cport c).loopback ≠ 1 ∧ (s.cport c).loopback ≠ 2)
include hloop

variable (hfailed : (s.cport c).failed = false) {u : State × Option TagMark}
  (hu : u = s.selectTag c .ingress x.1.length s.moduleTime)
include hfailed hu

theorem State.clientFrame_bad {k : CounterKind}
    (hbad : badClientFrame (s.cport c).params.active.form x.1 x.2 = some k) :
    s.clientFrame c frame pcs i = (u.1.count k c.val 1).finishTag u.2 c .ingress false 1 := by
  rw [State.clientFrame, nearEnd_false hloop, hfailed, if_neg Bool.false_ne_true, if_neg Bool.false_ne_true]
  simp only [← hx, ← hu, hbad]

theorem State.clientFrame_good {n : State} {v : State × Bytes}
    (hn : n = (u.1.count .clientFramesIn c.val 1).count .clientBytesIn c.val x.1.length)
    (hgood : badClientFrame (s.cport c).params.active.form x.1 x.2 = none)
    (hv : v = ({ n with fresh := n.fresh + 4 } : State).ptp .ingress c x.1 (i.getD n.freeInstants)) :
    s.clientFrame c frame pcs i = v.1.offerFrame .ingress c v.2 u.2 [] none := by
  rw [State.clientFrame, nearEnd_false hloop, hfailed, if_neg Bool.false_ne_true, if_neg Bool.false_ne_true]
  simp only [← hx, ← hu, hgood, ← hn, ← hv]

end

end

/-! ## A frame from the line (R258, R272, R303) -/

section
variable {s : State} {c : Cp} {frame : Bytes} {tiles : List Nat} {since entered : BitVec 48} {i : Option Instants}
  {u : State × Option TagMark} {v : Option TagMark} (hu : u = s.selectTag c .egress frame.length since)
  (hv : v = u.2.map fun t => t.enter 6 entered)
include hu hv

theorem State.lineFrame_loopback (hloop : (s.cport c).loopback = 1 ∨ (s.cport c).loopback = 2) :
    s.lineFrame c frame tiles since entered i =
      ((u.1.count .clientDropEgress c.val 1).fateTiles c tiles 2 none).finishTag v c .egress false 6 := by
  rw [State.lineFrame, nearEnd_true hloop, if_pos rfl, ← hu, ← hv]

section
variable (hloop : (s.cport c).loopback ≠ 1 ∧ (s.cport c).loopback ≠ 2)
include hloop

theorem State.lineFrame_good (hfcs : fcsOk frame = true) : s.lineFrame c frame tiles since entered i =
    u.1.offerFrame .egress c frame v tiles (i.map fun i => (s.moduleTime, i.client, i.line)) := by
  have htime : u.1.moduleTime = s.moduleTime := by
    have hselect : u.1.offTraffic = s.offTraffic := by rw [hu, State.selectTag_offTraffic]
    exact show u.1.offTraffic.moduleTime = s.offTraffic.moduleTime from congrArg State.moduleTime hselect
  rw [State.lineFrame, nearEnd_false hloop, hfcs, if_neg Bool.false_ne_true, Bool.not_true,
    if_neg Bool.false_ne_true, ← hu, ← hv, htime]

theorem State.lineFrame_badFcs (hfcs : fcsOk frame = false) : s.lineFrame c frame tiles since entered i =
    ((u.1.count .clientDropFcs c.val 1).fateTiles c tiles 1 none).finishTag v c .egress false 6 := by
  rw [State.lineFrame, nearEnd_false hloop, hfcs, if_neg Bool.false_ne_true, Bool.not_false, if_pos rfl, ← hu, ← hv]

end

end

/-! ## The events that bring frames to a port (R257, R303; log 20) -/

section
variable {s : State} {c : Cp} {frame : Bytes} (hready : s.ready = true)
  (hform : (s.cport c).params.active.form.ethernet = true)
include hready hform

theorem exec_clientFrameRx (pcs : Bool) :
    exec (.clientFrameRx c frame pcs) s = .next (s.clientFrame c frame pcs none) :=
  show execClientFrameRx c frame pcs s = _ from eventIf_true hready hform _

theorem exec_lineEgressFrame : exec (.lineEgressFrame c frame) s =
    .next (s.lineFrame c frame [] s.moduleTime s.moduleTime none) :=
  show execLineEgressFrame c frame s = _ from eventIf_true hready hform _

variable {m : PtpMessage} (hevent : isPtpEvent m.frame = true)
include hevent

theorem exec_ptpEventMessage_ingress (hdir : m.dir = .ingress) : exec (.ptpEventMessage c m) s =
    .next (s.clientFrame c m.frame false (some { client := m.client, line := m.line })) := by
  refine (show execPtpEventMessage c m s = _ from eventIf_true hready (by rw [hform, hevent]; rfl) _).trans ?_
  simp only [hdir]

theorem exec_ptpEventMessage_egress (hdir : m.dir = .egress) : exec (.ptpEventMessage c m) s =
    .next (s.lineFrame c m.frame [] s.moduleTime s.moduleTime (some { client := m.client, line := m.line })) := by
  refine (show execPtpEventMessage c m s = _ from eventIf_true hready (by rw [hform, hevent]; rfl) _).trans ?_
  simp only [hdir]

end

/-- Settles O28: each event brings a frame from the host or from the line, and what it meets there is one case. -/
theorem clientFramesThroughThePort : Obligations.ClientFramesThroughThePort := by
  unfold Obligations.ClientFramesThroughThePort
  intro s c frame pcs k m x hready hform hx
  have hhost := exec_clientFrameRx (frame := frame) hready hform pcs
  have hline := exec_lineEgressFrame (frame := frame) hready hform
  refine ⟨fun hloop => ⟨fun hlanes => ?back, fun u v hu hv => ?discarded⟩,
    fun hloop => ⟨fun hfailed => ?failed, fun u hu hfailed hbad => ?bad,
      fun u n v hu hn hfailed hgood => ⟨fun hv => ?good, fun hevent hdir hm hpcs hv => ?ptpIn⟩,
      fun u v hu hv => ⟨fun hfcs => ?fromLine, fun hfcs => ?wrongFcs, fun hevent hdir hm hfcs => ?ptpOut⟩⟩⟩
  case back => rw [hhost, State.clientFrame_loopback hx hloop hlanes]
  case discarded => rw [hline, State.lineFrame_loopback hu hv hloop]
  case failed => rw [hhost, State.clientFrame_failed hloop hfailed]
  case bad => rw [hhost, State.clientFrame_bad hx hloop hfailed hu hbad]
  case good => rw [hhost, State.clientFrame_good (i := none) hx hloop hfailed hu hn hgood hv]
  case ptpIn =>
    subst hm hpcs
    rw [exec_ptpEventMessage_ingress hready hform hevent hdir,
      State.clientFrame_good (i := some { client := m.client, line := m.line }) hx hloop hfailed hu hn hgood hv]
  case fromLine => rw [hline, State.lineFrame_good hu hv hloop hfcs, Option.map_none]
  case wrongFcs => rw [hline, State.lineFrame_badFcs hu hv hloop hfcs]
  case ptpOut =>
    subst hm
    rw [exec_ptpEventMessage_egress hready hform hevent hdir, State.lineFrame_good hu hv hloop hfcs, Option.map_some]

end Sys2Proof.Machine
end

section
/-! Requests about flows and contexts (R307, R311 to R313, R315, R316, R318): each behind its checks. -/

namespace Sys2Proof.Machine

/-! ## Fields of parameters -/

/-- A field of a part of a string is a field of the string. -/
theorem field_slice {b : Bytes} {o m a n : Nat} (h : a + n ≤ m) : field (slice b o m) a n = field b (o + a) n := by
  simp only [field, slice, List.drop_take, List.drop_drop, List.take_take]
  rw [Nat.min_eq_left (by omega)]

/-- A number that four bytes hold, written as a word of 32 bits. -/
theorem beBytes4_eq_be {n : Nat} (h : n < 2 ^ 32) : beBytes 4 n = be 4 (BitVec.ofNat 32 n) := by
  rw [be, BitVec.toNat_ofNat, Nat.mod_eq_of_lt h]

/-- A list without repetitions is what erasing its duplicates leaves of it. -/
theorem eraseDups_of_nodup {α : Type} [BEq α] [LawfulBEq α] {l : List α} (h : l.Nodup) : l.eraseDups = l := by
  induction l with
  | nil => rfl
  | cons x xs ih =>
    obtain ⟨hx, hxs⟩ := List.nodup_cons.mp h
    have hkeep : xs.filter (fun b => !b == x) = xs :=
      List.filter_eq_self.mpr fun b hb => by simpa using fun hbx : b = x => hx (hbx ▸ hb)
    rw [List.eraseDups_cons, hkeep, ih hxs]

/-! ## The request leaves its queue -/

section
variable (s : State) (op : BitVec 16) (r : Request)

@[simp] theorem takeRequest_holdsEntryKey (p : Hp) (h : Hot) :
    (s.takeRequest op r).holdsEntryKey p h = s.holdsEntryKey p h := by
  simp [State.holdsEntryKey]
@[simp] theorem takeRequest_portBusy (c : Cp) : (s.takeRequest op r).portBusy c = s.portBusy c := rfl
@[simp] theorem takeRequest_keyUnready (e : Bytes) : (s.takeRequest op r).keyUnready e = s.keyUnready e := rfl
@[simp] theorem takeRequest_wordReady (wa : Nat) : (s.takeRequest op r).wordReady wa = s.wordReady wa := rfl
@[simp] theorem takeRequest_loadReady (n : Nat) (clears : Bool) :
    (s.takeRequest op r).loadReady n clears = s.loadReady n clears := rfl
@[simp] theorem takeRequest_sciMac (n : Nat) : (s.takeRequest op r).sciMac n = s.sciMac n := rfl
@[simp] theorem takeRequest_blockSeals (n : Nat) : (s.takeRequest op r).blockSeals n = s.blockSeals n := rfl
@[simp] theorem takeRequest_pinned (d : Dir) : (s.takeRequest op r).pinned d = s.pinned d := rfl
@[simp] theorem takeRequest_pinsDue (d : Dir) : (s.takeRequest op r).pinsDue d = s.pinsDue d := rfl
@[simp] theorem takeRequest_fillPins (d : Dir) (flags : Byte) (h : Hot) (first count : Nat) :
    (s.takeRequest op r).fillPins d flags h first count = s.fillPins d flags h first count := rfl

end

/-- Of a context that is swept every word of its hot and cold part is ready (R361). -/
theorem State.wordReady_of_ctxReady {s : State} {n w : Nat} (h : s.ctxReady n = true) (hw : w < 4) :
    s.wordReady (partWord n w) = true := by
  obtain ⟨hparts, -⟩ := Bool.and_eq_true_iff.mp h
  rw [partWord, if_pos hw]
  exact List.all_eq_true.mp hparts w (List.mem_range.mpr hw)

/-! ## Tables and effects -/

/-- The table of SEAL_CONFIG_READ (R318). -/
def sealTable (c : SealConfig) : Bytes :=
  be 4 c.limit32 ++ zeros 4 ++ be 8 c.limit64 ++ (c.macs.toList.map fun m => be 6 m ++ [0, 0]).flatten

theorem sealTable_lays (c : SealConfig) : Lays (sealTable c) 144
    ([(0, be 4 c.limit32), (4, [0, 0, 0, 0]), (8, be 8 c.limit64)] ++
      (List.finRange 16).map fun i => (16 + 8 * i.val, be 6 c.macs[i] ++ [0, 0])) := by
  have hmacs : c.macs.toList = (List.finRange 16).map fun i => c.macs[i] :=
    List.ext_getElem (by simp) fun i _ _ => by simp
  have hsixteen : List.finRange 16 = [0, 1, 2, 3, 4, 5, 6, 7, 8, 9, 10, 11, 12, 13, 14, 15] := rfl
  exact lays_of_flatten (by simp [sealTable, hmacs, zeros, Function.comp_def]) (by simp [sealTable, hmacs, hsixteen])
    (by simp [placed, hsixteen])

/-- A fill starts: it runs, and nothing else has changed (R315). -/
def State.startFill (s : State) (j : FillJob) : State := { s with flows := { s.flows with fill := some j } }

/-! ## CTX_READ (R316) -/

/-- CTX_READ of the cold part answers what its three words hold, or FRESH where nothing has written them. -/
theorem ctxReadBody_cold {r : Request} {s : State} {n : Nat} {copy : Bool} {ds : List (BitVec 128)} {f : Bool}
    (hflag : r.flag0 = false) (hn : n < 1048576) (hparams : r.params = beBytes 4 n ++ [2, byte copy.toNat, 0, 0])
    (hholds : s.holdsCtx r.port n 1 = true) (hready : s.ctxReady n = true)
    (hread : (s.ctxReadWords n [1, 2, 3]).2 = some (ds, f)) :
    ctxReadBody r s = .ok (if f then .fresh else .ok)
      (beBytes 4 n ++ [2, 0, 0, 0] ++ (ds.map fun d => be 16 d).flatten) (s.ctxReadWords n [1, 2, 3]).1 := by
  rw [beBytes4_eq_be (by omega)] at hparams
  have hform : badForm r 8 = false := formed_badForm ⟨hflag, by simp [hparams]⟩
  have hfield : field r.params 0 4 = n := by
    rw [hparams, field_be4, BitVec.toNat_ofNat, Nat.mod_eq_of_lt (by omega)]
  have hparts : field r.params 4 1 = 2 := by simp [hparams]
  have hcopy : field r.params 5 1 = copy.toNat := by cases copy <;> simp [hparams, byte]
  have hzero : zeroAt r.params 6 2 = true := by simp [hparams]
  have hmost : copy.toNat ≤ 1 := by cases copy <;> decide
  have hword {w : Nat} (hw : w < 4) := State.wordReady_of_ctxReady hready hw
  rw [ctxReadBody, hfield, hparts, hcopy]
  refine (guards_pass _ _ ?checks).trans ?read
  case checks => simp [hform, hmost, hzero, hn, hholds, hword]
  case read => cases ds <;> simp [hread, byte]

section
variable {r : Request} {s : State} (hx : Executes false r s)
include hx

/-! ## FLOW_PORT (R311) -/

theorem exec_flowPortWrite {c : Cp} {mask : BitVec 4} {dIn dOut : BitVec 32} (hflag : r.flag0 = false)
    (hparams : r.params = [byte c.val, mask.setWidth 8, 0, 0] ++ be 4 dIn ++ be 4 dOut ++ [0, 0, 0, 0])
    (hhas : s.hasLane c.val = true) (hin : dIn.toNat ≤ 1048576) (hout : dOut.toNat ≤ 1048576)
    (hholds : s.holdsPort r.port c = true) (hheldIn : dIn ≠ 0 → s.holdsCtx r.port (dIn.toNat - 1) 1 = true)
    (hheldOut : dOut ≠ 0 → s.holdsCtx r.port (dOut.toNat - 1) 1 = true) (hfree : s.portBusy c = false) :
    Writes 0x0A01 .flowPortWrite r s fun s => s.updCport c fun p => { p with params := { p.params with
      staged := { p.params.staged with flow := { keyMask := mask.setWidth 8, defIn := dIn, defOut := dOut } } } } := by
  have hform : badForm r 16 = false := formed_badForm ⟨hflag, by simp [hparams]⟩
  have hfield : field r.params 0 1 = c.val := field_client hparams
  have hmask : u8 r.params 1 = mask.setWidth 8 := by simp [hparams, u8, -BitVec.toNat_setWidth]
  have hmost : (mask.setWidth 8).toNat ≤ 15 := by
    rw [BitVec.toNat_setWidth]
    omega
  have hdefIn : u32 r.params 4 = dIn := by simp [hparams, u32]
  have hdefOut : u32 r.params 8 = dOut := by simp [hparams, u32]
  have hzero : zeroAt r.params 2 2 = true ∧ zeroAt r.params 12 4 = true := by simp [hparams]
  refine opcode_ok hx ?_
  rw [flowPortWriteBody, hfield, hmask, hdefIn, hdefOut, cpOf_val]
  refine (guards_pastTenancy ?_ ?_ ?_ _ _).trans (guards_pass _ _ ?_)
  · simp [hform, hmost, hzero, -BitVec.toNat_setWidth]
  · simp [hhas, hin, hout]
  · simpa [State.takeRequest_holdsPort, hholds] using ⟨hheldIn, hheldOut⟩
  · simpa using hfree

theorem exec_flowPortRead {c : Cp} {cp : Bool} (hflag : r.flag0 = false)
    (hparams : r.params = [byte c.val, byte cp.toNat, 0, 0]) (hhas : s.hasLane c.val = true)
    (hholds : s.holdsPort r.port c = true) {f : FlowPort}
    (hf : f = (if cp then (s.cport c).params.staged else (s.cport c).params.active).flow) :
    Reads 0x0A02 .flowPortRead r s fun _ =>
      [byte c.val, f.keyMask, 0, 0] ++ be 4 f.defIn ++ be 4 f.defOut ++ [0, 0, 0, 0] := by
  have hcopy : u8 r.params 1 = byte cp.toNat := by simp [hparams, u8]
  refine opcode_cport hx rfl (badEngineCopy_formed hflag hparams) (field_client hparams) hhas hholds ?_
  rw [hcopy, copyOf_toNat, takeRequest_cport, ← hf]
  rfl

/-! ## ETYPE (R312) -/

theorem exec_etypeWrite {e : Eng} (hn : NamesEngine r s e 64) (hzero : zeroAt r.params 1 3 = true)
    (hentries : ∀ i, i < 15 → badEtype (slice r.params (4 + 4 * i) 4) = false) (hfree : s.holdsScope 7 e.val = false) :
    Writes 0x0A03 .etypeWrite r s fun s => s.stage e fun p => { p with etype := Vector.ofFn fun i =>
      { etype := u16 r.params (4 + 4 * i.val), flags := u8 r.params (6 + 4 * i.val) } } := by
  obtain ⟨hform, hfield, hhas, hholds⟩ := hn.checks
  have hetype (i : Nat) : u16 (slice r.params (4 + 4 * i) 4) 0 = u16 r.params (4 + 4 * i) := by
    rw [u16, field_slice (by omega), ← u16, Nat.add_zero]
  have hflags (i : Nat) : u8 (slice r.params (4 + 4 * i) 4) 2 = u8 r.params (6 + 4 * i) := by
    rw [u8, field_slice (by omega), ← u8, show 4 + 4 * i + 2 = 6 + 4 * i by omega]
  refine opcode_ok hx ?_
  rw [etypeWriteBody, hfield, engOf_val]
  simp only [hetype, hflags]
  refine (guards_pastTenancy ?_ ?_ ?_ _ _).trans (guards_pass _ _ ?_)
  · simpa [hform, hzero] using hentries
  · simp [hhas]
  · simp [hholds]
  · simpa using hfree

theorem exec_etypeRead {e : Eng} {cp : Bool} (h : ReadsCopy r s e cp) : Reads 0x0A04 .etypeRead r s fun s =>
    [byte e.val, 0, 0, 0] ++ (((s.copy e cp).etype.toList).map fun x => be 2 x.etype ++ [x.flags, 0]).flatten := by
  have hcopy (t : State) : copyOf (u8 r.params 1) (t.eng e).params = t.copy e cp := h.copyOf _
  exact h.answers hx rfl (by simp only [hcopy])

/-! ## SEAL_CONFIG (R318) -/

theorem exec_sealConfigWrite (hform : Formed r 144) (hport : r.port = 0) (hzero : zeroAt r.params 4 4 = true)
    (hzeros : ∀ i, i < 16 → zeroAt r.params (22 + 8 * i) 2 = true)
    (hmacs : ∀ i j, i < j → j < 16 → u48 r.params (16 + 8 * i) ≠ 0 →
      u48 r.params (16 + 8 * i) ≠ u48 r.params (16 + 8 * j))
    (hblocks : ∀ i, i < 16 → u48 r.params (16 + 8 * i) ≠ s.sciMac (65536 * i) → s.blockSeals i = false) :
    Writes 0x0A0D .sealConfigWrite r s fun s => { s with flows := { s.flows with sealing :=
      { limit32 := u32 r.params 0, limit64 := u64 r.params 8,
        macs := Vector.ofFn fun i => u48 r.params (16 + 8 * i.val) } } } := by
  have hnodup : (((List.range 16).map fun i => u48 r.params (16 + 8 * i)).filter (· != 0)).Nodup := by
    rw [List.Nodup, List.pairwise_filter, List.pairwise_map]
    refine List.pairwise_lt_range.imp_of_mem fun {i j} _ hj hij hi _ => ?_
    exact hmacs i j hij (List.mem_range.mp hj) (by simpa using hi)
  refine opcode_ok hx (guards_pass _ _ ?_)
  simp only [List.forall_mem_cons, List.not_mem_nil, false_implies, implies_true, and_true]
  refine ⟨by simp [notPrincipal, hport], ?_, ?_, ?_⟩
  · simpa [formed_badForm hform, hzero] using hzeros
  · rw [eraseDups_of_nodup hnodup, bne_self_eq_false]
  · rw [List.any_eq_false]
    intro i hi
    simpa using hblocks i (List.mem_range.mp hi)

theorem exec_sealConfigRead (hflag : r.flag0 = false) (hparams : r.params = []) :
    Reads 0x0A0E .sealConfigRead r s fun _ => sealTable s.flows.sealing := by
  refine opcode_ok hx ?_
  rw [sealConfigReadBody, formed_nil hflag hparams, guards_false, guards_nil]
  rfl

/-! ## FLOW_LOOKUP (R313) -/

theorem exec_flowLookup (hform : Formed r 16) (hentry : badFlowEntry false r.params = false)
    (hhas : s.hasLane (entryPort r.params) = true) (hholds : s.holdsPort r.port (cpOf (entryPort r.params)) = true)
    (hready : s.keyUnready r.params = false) {u : State × Option (Nat × Nat)}
    (hu : u = (s.takeRequest 0x0A07 r).findKey (r.params.take 12) 4 (bucketWords (r.params.take 12))) :
    exec (.flowLookup r) s = answered 0x0A07 r .ok
      (beBytes 4 (match u.2 with | some (_, n) => n + 1 | none => 0)) u.1 := by
  subst hu
  refine opcode_ok hx ((guards_pastTenancy ?_ ?_ ?_ _ _).trans (guards_pass _ _ ?_))
  · simp [formed_badForm hform, hentry]
  · simp [hhas]
  · simp [State.takeRequest_holdsPort, hholds]
  · simpa using hready

/-! ## CTX_FILL (R307, R315) -/

theorem exec_ctxFill {first count : BitVec 32} {flags : Byte} {hot : BitVec 128} (hflag : r.flag0 = false)
    (hparams : r.params = be 4 first ++ be 4 count ++ [flags, 0, 0, 0] ++ be 16 hot) (hcount : count ≠ 0)
    (hflags : flags.toNat ≤ 7) (hhot : badHot hot = false) (hrange : first.toNat + count.toNat ≤ 1048576)
    (hholds : s.holdsCtx r.port first.toNat count.toNat = true)
    (hkey : s.holdsEntryKey r.port (Hot.ofBits hot) = true)
    (hready : ∀ i, i < count.toNat → s.loadReady (first.toNat + i) (flags ≥ 4) = true) (hidle : s.flows.fill = none)
    (hpins : flags &&& 1 = 1 → tooManyPins (s.pinned (dirOf (Hot.ofBits hot).dir) ++
      s.pinsDue (dirOf (Hot.ofBits hot).dir) ++ s.fillPins (dirOf (Hot.ofBits hot).dir) flags (Hot.ofBits hot)
        first.toNat count.toNat) = false)
    (hbinding : (s.takeRequest 0x0A09 r).bindingFault (Hot.ofBits hot) first.toNat
      (first.toNat + count.toNat - 1) = none) :
    exec (.ctxFill r) s = answered 0x0A09 r .okDeferred [] ((s.takeRequest 0x0A09 r).startFill {
      first := first.toNat, count := count.toNat, flags := flags, template := hot, issuer := issuerOf 0x0A09 r }) := by
  have hform : badForm r 28 = false := formed_badForm ⟨hflag, by simp [hparams]⟩
  have hfirst : field r.params 0 4 = first.toNat := by simp [hparams]
  have hnumber : field r.params 4 4 = count.toNat := by simp [hparams]
  have hbits : field r.params 8 1 = flags.toNat := by simp [hparams]
  have hbyte : u8 r.params 8 = flags := by simp [u8, hbits]
  have hzero : zeroAt r.params 9 3 = true := by simp [hparams]
  have htemplate : BitVec.ofNat 128 (field r.params 12 16) = hot := by simp [hparams, field_be (n := 16)]
  have hpos : count.toNat ≠ 0 := fun h => hcount (BitVec.eq_of_toNat_eq h)
  have hswept : ∀ i < count.toNat, s.loadReady (first.toNat + i) (decide (4 ≤ flags.toNat)) = true := by
    simpa [BitVec.le_def] using hready
  refine opcode_ok hx ?_
  rw [ctxFillBody, hfirst, hnumber, hbits, hbyte, htemplate]
  refine (guards_pass _ _ ?checks).trans ?start
  case checks =>
    simpa [hform, hpos, hflags, hzero, hhot, hrange, hholds, hkey, hidle] using And.intro hswept hpins
  case start =>
    rw [hbinding]
    rfl

end

/-- Settles O29: each request's checks pass down to its own write, read or start. -/
theorem flowConfigurationAndLookups : Obligations.FlowConfigurationAndLookups := by
  unfold Obligations.FlowConfigurationAndLookups
  refine ⟨fun r s hx hflag => ⟨?portWrite, ?portRead, fun e => exec_etypeWrite hx, fun e cp => exec_etypeRead hx,
    exec_sealConfigWrite hx, fun hparams => ⟨_, exec_sealConfigRead hx hflag hparams, sealTable_lays _⟩⟩,
    fun r s hx => ⟨?lookup, ?read, ?fill⟩⟩
  case portWrite => exact fun c mask dIn dOut => exec_flowPortWrite hx hflag
  case portRead => exact fun c cp hparams hhas hholds => ⟨_, rfl, exec_flowPortRead hx hflag hparams hhas hholds rfl⟩
  case lookup =>
    exact fun hform hentry hhas hholds hready =>
      ⟨_, _, rfl, rfl, exec_flowLookup hx hform hentry hhas hholds hready rfl⟩
  case read =>
    intro n copy ds f hflag hn hparams hholds hready hread
    exact opcode_ok hx (ctxReadBody_cold hflag hn hparams (by simpa using hholds) hready hread)
  case fill =>
    intro first count flags hot hflag hparams hcount hflags hhot hrange hholds hkey hready hidle hpins hbinding
    exact ⟨_, _, exec_ctxFill hx hflag hparams hcount hflags hhot hrange hholds hkey hready hidle hpins hbinding,
      rfl, rfl, rfl, rfl, rfl, rfl⟩

end Sys2Proof.Machine
end

section
/-! Batches of flow changes (R309, R310, R313, R314, R317): behind the checks of form, range, tenancy and scope, and of
each entry after the effect of those before it, what is left is the batch's one effect. -/

namespace Sys2Proof.Machine

theorem checkEach_pass {es : List Bytes} {bad : Bytes → Bool} (h : ∀ e ∈ es, bad e = false) (st : Status) (a : Answer) :
    checkEach es bad st a = a := by
  rw [checkEach, List.findIdx?_eq_none_iff.mpr h]

/-- With room for its staged entries a checked batch is enacted whole (R309, R310). -/
theorem enact_of_roomFor {r : Request} {s : State} {ops : List FlowOp} (hroom : RoomFor r s ops.length) :
    enact r s ops = .ok .ok [] (s.enacted r ops) := by
  unfold enact State.enacted
  by_cases htoken : batchToken r = 0
  · rw [if_pos (beq_iff_eq.mpr htoken), if_pos htoken]
  · rw [if_neg (by simpa using htoken), if_neg (Nat.not_lt.mpr (hroom htoken)), if_neg htoken]

section
variable {r : Request} {s u : State}

/-! ## Flow keys (R313) -/

/-- A batch of flow keys whose entries all pass. -/
theorem flowBatch_pass {named : Bool} {check : State → Bytes → Option Status} {apply : State → Bytes → State}
    {op : Bytes → FlowOp} (hbatch : badBatch r 16 254 = false) (hfree : s.holdsToken 8 (batchToken r) = false)
    (hu : u = s.seekAll (batchEntries r 16))
    (hentries : ∀ e ∈ batchEntries r 16, badFlowEntry named e = false ∧ s.hasLane (entryPort e) = true ∧
      field e 12 4 < 1048576 ∧ s.holdsPort r.port (cpOf (entryPort e)) = true)
    (hctx : named = true → ∀ e ∈ batchEntries r 16, s.holdsCtx r.port (field e 12 4) 1 = true)
    (hcheck : firstFault check apply u (batchEntries r 16) 0 = none)
    (hroom : RoomFor r u (batchEntries r 16).length) :
    flowBatch r s named check apply op = .ok .ok [] (u.enacted r ((batchEntries r 16).map op)) := by
  subst hu
  have hform : ∀ e ∈ batchEntries r 16, badFlowEntry named e = false := fun e he => (hentries e he).1
  have hrange : ∀ e ∈ batchEntries r 16, (!s.hasLane (entryPort e) || decide (field e 12 4 ≥ 1048576)) = false := by
    intro e he
    obtain ⟨-, hlane, hlt, -⟩ := hentries e he
    simp [hlane, hlt]
  have htenant : ∀ e ∈ batchEntries r 16, (!s.holdsPort r.port (cpOf (entryPort e)) ||
      (named && !s.holdsCtx r.port (field e 12 4) 1)) = false := by
    intro e he
    obtain ⟨-, -, -, hport⟩ := hentries e he
    simpa [hport] using fun hnamed => hctx hnamed e he
  rw [flowBatch, hbatch, guards_false, guards_nil, checkEach_pass hform, checkEach_pass hrange, checkEach_pass htenant,
    hfree, guards_false, guards_nil]
  simp only [hcheck]
  exact enact_of_roomFor (by simpa using hroom)

/-! ## Contexts (R314, R317) -/

/-- A batch of context changes whose entries all pass comes to its own last check. -/
theorem ctxBatch_pass {size most : Nat} {bad tenant : Bytes → Bool} {check : State → Bytes → Option Status}
    {op : Bytes → FlowOp} {k : State → List Bytes → Answer} (hbatch : badBatch r size most = false)
    (hfree : s.holdsToken 8 (batchToken r) = false) (hu : u = s.touchAll (batchEntries r size))
    (hentries : ∀ e ∈ batchEntries r size, bad e = false ∧ entryCtx e < 1048576 ∧
      s.holdsCtx r.port (entryCtx e) 1 = true ∧ tenant e = true)
    (hcheck : firstFault check (fun s e => s.flowOp (op e)) u (batchEntries r size) 0 = none) :
    ctxBatch r s size most bad tenant check op k = k u (batchEntries r size) := by
  subst hu
  have hform : ∀ e ∈ batchEntries r size, bad e = false := fun e he => (hentries e he).1
  have hrange : ∀ e ∈ batchEntries r size, decide (entryCtx e ≥ 1048576) = false := by
    intro e he
    obtain ⟨-, hlt, -⟩ := hentries e he
    simpa using hlt
  have htenant : ∀ e ∈ batchEntries r size, (!s.holdsCtx r.port (entryCtx e) 1 || !tenant e) = false := by
    intro e he
    obtain ⟨-, -, hctx, hkey⟩ := hentries e he
    simp [hctx, hkey]
  rw [ctxBatch, hbatch, guards_false, guards_nil, checkEach_pass hform, checkEach_pass hrange, checkEach_pass htenant,
    hfree, guards_false, guards_nil]
  simp only [hcheck]

/-- A batch of loads or reloads whose entries all pass, and which pins no context too many (R291). -/
theorem loadBatch_pass {check : State → Bytes → Option Status} {op : Bytes → FlowOp}
    (hbatch : badBatch r 24 169 = false) (hfree : s.holdsToken 8 (batchToken r) = false)
    (hu : u = s.touchAll (batchEntries r 24))
    (hentries : ∀ e ∈ batchEntries r 24, badLoadEntry e = false ∧ entryCtx e < 1048576 ∧
      s.holdsCtx r.port (entryCtx e) 1 = true ∧ s.holdsEntryKey r.port (Hot.ofBits (entryHot e)) = true)
    (hcheck : firstFault check (fun s e => s.flowOp (op e)) u (batchEntries r 24) 0 = none)
    (hpins : pinFault u.pinsDue u.pinned (batchEntries r 24) 0 = none)
    (hroom : RoomFor r u (batchEntries r 24).length) :
    ctxBatch r s 24 169 badLoadEntry (fun e => s.holdsEntryKey r.port (Hot.ofBits (entryHot e))) check op
        (enactLoads r op) = .ok .ok [] (u.enacted r ((batchEntries r 24).map op)) := by
  rw [ctxBatch_pass hbatch hfree hu hentries hcheck, enactLoads, hpins]
  exact enact_of_roomFor (by simpa using hroom)

end

/-! ## The five opcodes -/

section
variable {r : Request} {s u : State} (hx : Executes false r s) (hfree : s.holdsToken 8 (batchToken r) = false)
include hx hfree

theorem exec_flowAdd (hbatch : badBatch r 16 254 = false)
    (hu : u = (s.takeRequest 0x0A05 r).seekAll (batchEntries r 16))
    (hentries : ∀ e ∈ batchEntries r 16, badFlowEntry true e = false ∧ s.hasLane (entryPort e) = true ∧
      field e 12 4 < 1048576 ∧ s.holdsPort r.port (cpOf (entryPort e)) = true ∧
      s.holdsCtx r.port (field e 12 4) 1 = true)
    (hcheck : firstFault State.addFault State.addEntry u (batchEntries r 16) 0 = none)
    (hroom : RoomFor r u (batchEntries r 16).length) :
    exec (.flowAdd r) s = answered 0x0A05 r .ok [] (u.enacted r ((batchEntries r 16).map .add)) := by
  refine opcode_ok hx (flowBatch_pass hbatch hfree hu (fun e he => ?entry) (fun _ e he => ?ctx) hcheck hroom)
  all_goals obtain ⟨hform, hlane, hlt, hport, hctx⟩ := hentries e he
  case entry => exact ⟨hform, hlane, hlt, by rwa [State.takeRequest_holdsPort]⟩
  case ctx => rwa [takeRequest_holdsCtx]

theorem exec_flowDelete (hbatch : badBatch r 16 254 = false)
    (hu : u = (s.takeRequest 0x0A06 r).seekAll (batchEntries r 16))
    (hentries : ∀ e ∈ batchEntries r 16, badFlowEntry false e = false ∧ s.hasLane (entryPort e) = true ∧
      field e 12 4 < 1048576 ∧ s.holdsPort r.port (cpOf (entryPort e)) = true)
    (hcheck : firstFault State.deleteFault State.dropEntry u (batchEntries r 16) 0 = none)
    (hroom : RoomFor r u (batchEntries r 16).length) :
    exec (.flowDelete r) s = answered 0x0A06 r .ok [] (u.enacted r ((batchEntries r 16).map .delete)) :=
  opcode_ok hx (flowBatch_pass hbatch hfree hu (by simpa [State.takeRequest_holdsPort] using hentries) nofun hcheck
    hroom)

theorem exec_ctxRekey (hbatch : badBatch r 16 254 = false)
    (hentries : ∀ e ∈ batchEntries r 16, field e 6 1 ≤ 3 ∧ zeroAt e 7 1 = true ∧ entryCtx e < 1048576 ∧
      s.holdsCtx r.port (entryCtx e) 1 = true ∧ s.holdsKs r.port (field e 4 2) 1 = true)
    (hu : u = (s.takeRequest 0x0A0B r).touchAll (batchEntries r 16))
    (hcheck : firstFault State.rekeyFault (fun s e => s.flowOp (.rekey e)) u (batchEntries r 16) 0 = none)
    (hgrace : batchToken r = 0 → graceFault u (batchEntries r 16) 0 u.graceFree = none)
    (hroom : RoomFor r u (batchEntries r 16).length) :
    exec (.ctxRekey r) s = answered 0x0A0B r .ok [] (u.enacted r ((batchEntries r 16).map .rekey)) := by
  refine opcode_ok hx
    ((ctxBatch_pass (s := s.takeRequest 0x0A0B r) hbatch hfree hu (fun e he => ?entry) hcheck).trans ?enact)
  case entry =>
    obtain ⟨hform, hzero, hlt, hctx, hslot⟩ := hentries e he
    exact ⟨by simp [hform, hzero], hlt, by rwa [takeRequest_holdsCtx], by rwa [takeRequest_holdsKs]⟩
  case enact =>
    have hpass : (if batchToken r == 0 then graceFault u (batchEntries r 16) 0 u.graceFree else none) = none := by
      simpa using hgrace
    rw [hpass]
    exact enact_of_roomFor (by simpa using hroom)

section
variable (hbatch : badBatch r 24 169 = false)
  (hentries : ∀ e ∈ batchEntries r 24, badLoadEntry e = false ∧ entryCtx e < 1048576 ∧
    s.holdsCtx r.port (entryCtx e) 1 = true ∧ s.holdsEntryKey r.port (Hot.ofBits (entryHot e)) = true)
  (hpins : pinFault u.pinsDue u.pinned (batchEntries r 24) 0 = none)
include hbatch hentries hpins

theorem exec_ctxLoad (hu : u = (s.takeRequest 0x0A08 r).touchAll (batchEntries r 24))
    (hcheck : firstFault (fun s e => s.loadFault e false) (fun s e => s.flowOp (.load e)) u (batchEntries r 24) 0 =
      none) (hroom : RoomFor r u (batchEntries r 24).length) :
    exec (.ctxLoad r) s = answered 0x0A08 r .ok [] (u.enacted r ((batchEntries r 24).map .load)) :=
  opcode_ok hx (loadBatch_pass hbatch hfree hu (by simpa using hentries) hcheck hpins hroom)

theorem exec_ctxReload (htoken : batchToken r = 0) (hu : u = (s.takeRequest 0x0A0C r).touchAll (batchEntries r 24))
    (hcheck : firstFault (fun s e => s.loadFault e true) (fun s e => s.flowOp (.reload e)) u (batchEntries r 24) 0 =
      none) : exec (.ctxReload r) s = answered 0x0A0C r .ok [] (u.enacted r ((batchEntries r 24).map .reload)) := by
  have hroom : RoomFor r u (batchEntries r 24).length := fun h => absurd htoken h
  refine opcode_ok hx ?_
  rw [ctxReloadBody, htoken, bne_self_eq_false, guards_false, guards_nil]
  exact loadBatch_pass hbatch hfree hu (by simpa using hentries) hcheck hpins hroom

end

end

/-- Settles O30: each opcode's checks pass, so that its batch is enacted whole. -/
theorem flowBatchesTakeEffectAsAWhole : Obligations.FlowBatchesTakeEffectAsAWhole := by
  unfold Obligations.FlowBatchesTakeEffectAsAWhole
  exact fun r s u hx hfree => ⟨exec_flowAdd hx hfree, exec_flowDelete hx hfree,
    fun hbatch hentries hpins => ⟨exec_ctxLoad hx hfree hbatch hentries hpins,
      exec_ctxReload hx hfree hbatch hentries hpins⟩, exec_ctxRekey hx hfree⟩

end Sys2Proof.Machine
end

section
/-! The flow engine's own instants (R291, R304, R315, R321, R322): a fill that completes, a fetch that serves the next
miss, one admission, and the grace entries that end. -/

namespace Sys2Proof.Machine

/-- A fill that completes leaves none running (R315). -/
theorem State.fillDone_fill (s : State) (j : FillJob) : (s.fillDone j).flows.fill = none := by
  rw [State.fillDone, State.cmdDone, State.raise_flows]

/-- A fetch serves the next miss: its line is installed, and the frames that wait for it go on in order (R291). -/
theorem State.fetchNext_of_nextMiss {s : State} {d : Dir} {m : FlowFrame} (h : s.nextMiss d = some m) :
    s.fetchNext d = ((s.flowDir d).misses.filter fun f => f.ctx == m.ctx).foldl (fun s f => s.bindFrame d f)
      ((s.updDir d fun x => { x with misses := x.misses.filter fun f => f.ctx != m.ctx }).install d m.ctx) := by
  rw [State.fetchNext, h]

/-- The oldest express frame is admitted where it fits (R322). -/
theorem State.admitNext_express {s : State} {d : Dir} {f : FlowFrame}
    (hfirst : (s.flowDir d).admitQ.find? (fun f => s.express d f) = some f) (hfits : s.fits d f = true) :
    s.admitNext d = s.admitFrame d f := by
  rw [State.admitNext, hfirst]
  exact if_pos hfits

/-- Without an express frame the oldest of all is the oldest of the bulk ones, and is admitted where it fits (R322). -/
theorem State.admitNext_bulk {s : State} {d : Dir} {f : FlowFrame}
    (hnone : (s.flowDir d).admitQ.find? (fun f => s.express d f) = none) (hhead : (s.flowDir d).admitQ.head? = some f)
    (hfits : s.fits d f = true) : s.admitNext d = s.admitFrame d f := by
  have hbulk : (s.flowDir d).admitQ.find? (fun f => !s.express d f) = some f := by
    obtain ⟨rest, hq⟩ := List.head?_eq_some_iff.mp hhead
    have hf : s.express d f = false := by simpa using List.find?_eq_none.mp hnone f (by simp [hq])
    rw [hq, List.find?_cons_of_pos (by simp [hf])]
  rw [State.admitNext, hnone]
  simp only [hbulk, hfits, if_true]

/-- Settles O31: each instant does its one thing in a ready module. -/
theorem flowInstants : Obligations.FlowInstants := by
  unfold Obligations.FlowInstants
  refine fun s d hready => ⟨fun j hj => ⟨s.fillDone j, ?fill, s.fillDone_fill j⟩, fun m hm => ⟨_, rfl, ?fetch⟩,
    fun f hfirst hfits => ?express, fun f hnone hhead hfits => ?bulk,
    ⟨_, show execGraceExpiry s = _ from event_ready hready _, rfl, rfl, fun g => ?grace⟩⟩
  case fill =>
    refine (show execCtxFillDone s = _ from event_ready hready _).trans ?_
    rw [hj]
  case fetch =>
    rw [← State.fetchNext_of_nextMiss hm]
    exact show execContextFetchDone d s = _ from event_ready hready _
  case express =>
    rw [← State.admitNext_express hfirst hfits]
    exact show execMillraceAdmit d s = _ from event_ready hready _
  case bulk =>
    rw [← State.admitNext_bulk hnone hhead hfits]
    exact show execMillraceAdmit d s = _ from event_ready hready _
  case grace => exact List.mem_filter.trans (and_congr_right fun _ => decide_eq_true_iff)

end Sys2Proof.Machine
end

section
/-! SUPPORT. What writes neither context memory nor the key slots: every operation named here leaves both stores as
they stand, so that it keeps their canonical form (R325, R353). -/

namespace Sys2Proof.Machine

/-- Context memory and the key slots, as they are held. -/
def State.stores (s : State) : List (Nat × MemWord) × List (Nat × KeySlot) := (s.mem.words, s.keys.slots)

@[simp] theorem State.stores_mk (pending : List Instr) (fresh : Nat) (ident : Identity) (moduleTime : BitVec 48)
    (power : PowerState) (ports : Vector Port 4) (turn : Hp) (engines : Vector Engine 4) (commits : List Commit)
    (spent : List (Nat × Hp)) (seenTokens : List (BitVec 32)) (records : List FactoryRecord) (lanes : Vector Lane 64)
    (cports : Vector Cport 64) (synce : Staged (Vector (Byte × Byte) 4)) (flows : FlowState) (keys : KeyState)
    (mem : MemState) (immediate : List Immediate) (hw : HwState) (time : TimeState) (gauge : GaugeState)
    (weir : WeirState) (sup : SupState) (collector : Collector) (nv : NvState) (jtag : JtagState) :
    (State.mk pending fresh ident moduleTime power ports turn engines commits spent seenTokens records lanes cports
      synce flows keys mem immediate hw time gauge weir sup collector nv jtag).stores = (mem.words, keys.slots) := rfl

@[simp] theorem State.stores_fold (s : State) : (s.mem.words, s.keys.slots) = s.stores := rfl

@[simp] theorem State.updEng_stores (s : State) (e : Eng) (f : Engine → Engine) :
    (s.updEng e f).stores = s.stores := rfl
@[simp] theorem State.updPort_stores (s : State) (p : Hp) (f : Port → Port) : (s.updPort p f).stores = s.stores := rfl
@[simp] theorem State.updLane_stores (s : State) (l : LaneNo) (f : Lane → Lane) :
    (s.updLane l f).stores = s.stores := rfl
@[simp] theorem State.updCport_stores (s : State) (c : Cp) (f : Cport → Cport) :
    (s.updCport c f).stores = s.stores := rfl

@[simp] theorem State.updSup_stores (s : State) (f : SupState → SupState) : (s.updSup f).stores = s.stores := rfl

@[simp] theorem foldl_stores {α : Type} (l : List α) (f : State → α → State)
    (h : ∀ s x, (f s x).stores = s.stores) (s : State) : (l.foldl f s).stores = s.stores :=
  foldl_keeps State.stores h l s

@[simp] theorem ite_stores (c : Prop) [Decidable c] (s t : State) :
    (if c then s else t).stores = if c then s.stores else t.stores := apply_ite _ _ _ _

@[simp] theorem foldl_updEng_stores {α : Type} (l : List α) (e : α → Eng) (f : State → α → Engine → Engine)
    (s : State) : (l.foldl (fun s a => s.updEng (e a) (f s a)) s).stores = s.stores :=
  foldl_stores l _ (by intros; rfl) s

@[simp] theorem foldl_updLane_stores {α : Type} (l : List α) (n : α → LaneNo) (f : State → α → Lane → Lane)
    (s : State) : (l.foldl (fun s a => s.updLane (n a) (f s a)) s).stores = s.stores :=
  foldl_stores l _ (by intros; rfl) s

@[simp] theorem foldl_updCport_stores {α : Type} (l : List α) (c : α → Cp) (f : State → α → Cport → Cport)
    (s : State) : (l.foldl (fun s a => s.updCport (c a) (f s a)) s).stores = s.stores :=
  foldl_stores l _ (by intros; rfl) s

@[simp] theorem State.openPorts_stores (s : State) : s.openPorts.stores = s.stores := rfl
@[simp] theorem State.ibiIfTraffic_stores (s : State) (p : Hp) : (s.ibiIfTraffic p).stores = s.stores := rfl
@[simp] theorem State.takeAddr_stores (s : State) (p : Hp) (addr : BitVec 7) :
    (s.takeAddr p addr).stores = s.stores := rfl

@[simp] theorem State.skip_stores (s : State) : s.skip.stores = s.stores := by simp [State.skip]

@[simp] theorem State.count_stores (s : State) (k : CounterKind) (inst n : Nat) :
    (s.count k inst n).stores = s.stores := by simp [State.count]

@[simp] theorem State.deliver_stores (s : State) (pl : Place) (ev : Event) (p : Hp) :
    (s.deliver pl ev p).stores = s.stores := by simp [State.deliver]

@[simp] theorem State.noteFlight_stores (s : State) (code : BitVec 16) :
    (s.noteFlight code).stores = s.stores := by simp [State.noteFlight]

@[simp] theorem State.raise_stores (s : State) (code : BitVec 16) (pl : Place) (data : Bytes) :
    (s.raise code pl data).stores = s.stores := by simp [State.raise]

@[simp] theorem State.cmdDone_stores (s : State) (d : Deferred) (st : Status) :
    (s.cmdDone d st).stores = s.stores := by simp [State.cmdDone]

@[simp] theorem State.expressWork_stores (s : State) (d : Dir) (js : List Job) (blocks : Nat) :
    (s.expressWork d js blocks).stores = s.stores := by
  unfold State.expressWork
  dsimp only
  split <;> simp

@[simp] theorem State.cmacWork_stores (s : State) (key : Bytes) (n : Nat) :
    (s.cmacWork key n).stores = s.stores := by simp [State.cmacWork]

@[simp] theorem State.authWork_stores (s : State) (a : Option AuthContext) (n : Nat) :
    (s.authWork a n).stores = s.stores := by
  unfold State.authWork
  (repeat' split) <;> simp

@[simp] theorem State.journalled_stores (s : State) : s.journalled.stores = s.stores := by
  simp [State.journalled]

@[simp] theorem State.conclude_stores (s : State) (op : BitVec 16) (r : Request) (st : Status) (data : Bytes) :
    (s.conclude op r st data).stores = s.stores := by simp [State.conclude]

@[simp] theorem State.takeRequest_stores (s : State) (op : BitVec 16) (r : Request) :
    (s.takeRequest op r).stores = s.stores := by simp [State.takeRequest]

@[simp] theorem State.runOn_stores (s : State) (op : BitVec 16) (r : Request) :
    (s.runOn op r).stores = s.stores := by simp [State.runOn]

@[simp] theorem State.rehold_stores (s : State) (e : Eng) (cause : Byte) :
    (s.rehold e cause).stores = s.stores := by simp [State.rehold]

@[simp] theorem State.reholdDark_stores (s : State) (e : Eng) : (s.reholdDark e).stores = s.stores := by
  simp [State.reholdDark]

@[simp] theorem State.maskSmall_stores (s : State) (e : Eng) : (s.maskSmall e).stores = s.stores := by
  simp [State.maskSmall]

@[simp] theorem State.lofRaise_stores (s : State) (e : Eng) : (s.lofRaise e).stores = s.stores := by
  simp [State.lofRaise]

@[simp] theorem State.lofClear_stores (s : State) (e : Eng) (data : Bytes) :
    (s.lofClear e data).stores = s.stores := by simp [State.lofClear]

@[simp] theorem State.deframerOff_stores (s : State) (e : Eng) : (s.deframerOff e).stores = s.stores := by
  simp [State.deframerOff]

@[simp] theorem State.setLos_stores (s : State) (e : Eng) (on : Bool) :
    (s.setLos e on).stores = s.stores := by simp [State.setLos]

@[simp] theorem State.fecReset_stores (s : State) (e : Eng) : (s.fecReset e).stores = s.stores := by
  simp [State.fecReset]

@[simp] theorem State.rxOff_stores (s : State) (e : Eng) : (s.rxOff e).stores = s.stores := by
  simp [State.rxOff]

@[simp] theorem State.rxWait_stores (s : State) (e : Eng) : (s.rxWait e).stores = s.stores := by
  simp [State.rxWait]

@[simp] theorem State.relock_stores (s : State) (e : Eng) (cause left : Byte) :
    (s.relock e cause left).stores = s.stores := by simp [State.relock]

@[simp] theorem State.rxFreq_stores (s : State) (e : Eng) (fast : Bool) :
    (s.rxFreq e fast).stores = s.stores := by simp [State.rxFreq]

@[simp] theorem State.twinFollow_stores (s : State) : s.twinFollow.stores = s.stores := by
  simp [State.twinFollow]

@[simp] theorem State.txStart_stores (s : State) (e : Eng) (lead : BitVec 32) :
    (s.txStart e lead).stores = s.stores := by simp [State.txStart]

@[simp] theorem State.txEnable_stores (s : State) (e : Eng) (newFn : Bool) (lead : BitVec 32) :
    (s.txEnable e newFn lead).stores = s.stores := by simp [State.txEnable]

@[simp] theorem State.txStop_stores (s : State) (e : Eng) : (s.txStop e).stores = s.stores := by
  simp [State.txStop]

@[simp] theorem State.fastQuench_stores (s : State) (e : Eng) (reason : Byte) (ended : Bool) :
    (s.fastQuench e reason ended).stores = s.stores := by simp [State.fastQuench]

@[simp] theorem State.quench_stores (s : State) (e : Eng) (reason : Byte) :
    (s.quench e reason).stores = s.stores := by
  unfold State.quench
  dsimp only
  split <;> simp

@[simp] theorem State.txPrepare_stores (s : State) (e : Eng) (old new : EngineParams) :
    (s.txPrepare e old new).stores = s.stores := by simp [State.txPrepare]

@[simp] theorem State.txLeave_stores (s : State) (e : Eng) (old : EngineParams) :
    (s.txLeave e old).stores = s.stores := by
  unfold State.txLeave
  dsimp only
  split <;> simp

@[simp] theorem State.txEnter_stores (s : State) (e : Eng) : (s.txEnter e).stores = s.stores := by
  unfold State.txEnter
  dsimp only
  split <;> simp

@[simp] theorem State.txSwitch_stores (s : State) (e : Eng) (old new : EngineParams) :
    (s.txSwitch e old new).stores = s.stores := by simp [State.txSwitch]

@[simp] theorem State.txApply_stores (s : State) (e : Eng) (old new : EngineParams) :
    (s.txApply e old new).stores = s.stores := by simp [State.txApply]

@[simp] theorem State.fecEffort_stores (s : State) (e : Eng) : (s.fecEffort e).stores = s.stores := by
  simp [State.fecEffort]

@[simp] theorem State.idleEffort_stores (s : State) (e : Eng) : (s.idleEffort e).stores = s.stores := by
  simp [State.idleEffort]

@[simp] theorem State.linkApply_stores (s : State) (e : Eng) (new : EngineParams) :
    (s.linkApply e new).stores = s.stores := by simp [State.linkApply]

@[simp] theorem State.rxPrepare_stores (s : State) (e : Eng) (old new : EngineParams) :
    (s.rxPrepare e old new).stores = s.stores := by simp [State.rxPrepare]

@[simp] theorem State.rxSwitch_stores (s : State) (e : Eng) (old new : EngineParams) :
    (s.rxSwitch e old new).stores = s.stores := by simp [State.rxSwitch]

@[simp] theorem State.rxApply_stores (s : State) (e : Eng) (old new : EngineParams) :
    (s.rxApply e old new).stores = s.stores := by simp [State.rxApply]

@[simp] theorem State.atBoundary_stores (s : State) (f : State → State) (h : ∀ x, (f x).stores = x.stores) :
    (s.atBoundary f).stores = s.stores := by
  unfold State.atBoundary; exact (h _)

@[simp] theorem State.keepCal_stores (s : State) (e : Eng) (classes : BitVec 16) :
    (s.keepCal e classes).stores = s.stores := by simp [State.keepCal]

@[simp] theorem State.setAdc_stores (s : State) (e : Eng) (conv : Fin 4) (a : Adc) :
    (s.setAdc e conv a).stores = s.stores := by simp [State.setAdc]

@[simp] theorem State.calVerdict_stores (s : State) (e : Eng) (conv : Fin 4) (a : Adc) (t : Fin 256) :
    (s.calVerdict e conv a t).stores = s.stores := by
  unfold State.calVerdict
  (repeat' split) <;> simp

@[simp] theorem State.adcApply_stores (s : State) (e : Eng) (conv : Fin 4) :
    (s.adcApply e conv).stores = s.stores := by
  unfold State.adcApply
  dsimp only
  (repeat' split) <;> simp

@[simp] theorem State.dacApply_stores (s : State) (e : Eng) (d : Fin 4) :
    (s.dacApply e d).stores = s.stores := by
  unfold State.dacApply
  dsimp only
  split <;> simp

@[simp] theorem State.calHold_stores (s : State) (e : Eng) (on : Bool) :
    (s.calHold e on).stores = s.stores := by simp [State.calHold]

@[simp] theorem State.updChannel_stores (s : State) (c : Fin 8) (f : Channel → Channel) :
    (s.updChannel c f).stores = s.stores := by simp [State.updChannel]

@[simp] theorem State.updLine_stores (s : State) (n : Nat) (f : CacheLine → CacheLine) :
    (s.updLine n f).stores = s.stores := by simp [State.updLine]

@[simp] theorem State.logError_stores (s : State) (x : MemLogEntry) :
    (s.logError x).stores = s.stores := by simp [State.logError]

@[simp] theorem State.sweepDone_stores (s : State) (time : Bytes) :
    (s.sweepDone time).stores = s.stores := by simp [State.sweepDone]

@[simp] theorem State.eddyAdvance_stores (s : State) : s.eddyAdvance.stores = s.stores := by
  simp [State.eddyAdvance]

@[simp] theorem State.deriveWork_stores (s : State) (label : Bytes) :
    (s.deriveWork label).stores = s.stores := by simp [State.deriveWork]

@[simp] theorem State.unwrap_stores (s : State) (p : Hp) (kind : Byte) (slot : Nat) (gen : BitVec 16)
    (blob : Bytes) :
    (s.unwrap p kind slot gen blob).1.stores = s.stores := by
  unfold State.unwrap
  dsimp only
  (repeat' split) <;> simp

@[simp] theorem State.restartCipher_stores (s : State) (n : Nat) (tx : Bool) :
    (s.restartCipher n tx).stores = s.stores := by simp [State.restartCipher]

@[simp] theorem State.noteRewrite_stores (s : State) (tok : BitVec 32) (slots : List Nat) :
    (s.noteRewrite tok slots).stores = s.stores := by simp [State.noteRewrite]

@[simp] theorem State.retireToken_stores (s : State) (tok : BitVec 32) :
    (s.retireToken tok).stores = s.stores := by simp [State.retireToken]

@[simp] theorem State.stampRewrites_stores (s : State) (p : Rewrite → Bool) :
    (s.stampRewrites p).stores = s.stores := by simp [State.stampRewrites]

@[simp] theorem State.takePortKey_stores (s : State) (p : Hp) (kind : Byte) (key : Bytes) :
    (s.takePortKey p kind key).stores = s.stores := by
  unfold State.takePortKey
  dsimp only
  split <;> simp

@[simp] theorem State.erasePortKeys_stores (s : State) (p : Hp) (kek cak : Bool) :
    (s.erasePortKeys p kek cak).stores = s.stores := by simp [State.erasePortKeys]

@[simp] theorem State.updDir_stores (s : State) (d : Dir) (f : FlowDir → FlowDir) :
    (s.updDir d f).stores = s.stores := by
  unfold State.updDir
  dsimp only
  split <;> simp

@[simp] theorem State.countTiles_stores (s : State) (e : Eng) (d : Dir) (cls n : Nat) :
    (s.countTiles e d cls n).stores = s.stores := by simp [State.countTiles]

@[simp] theorem State.settleTiles_stores (s : State) (c : Cp) (keep : Option Nat) :
    (s.settleTiles c keep).stores = s.stores := by simp [State.settleTiles]

@[simp] theorem State.fateTiles_stores (s : State) (c : Cp) (ids : List Nat) (cls : Nat) (keep : Option Nat) :
    (s.fateTiles c ids cls keep).stores = s.stores := by simp [State.fateTiles]

@[simp] theorem State.selectTag_stores (s : State) (c : Cp) (d : Dir) (len : Nat) (t1 : BitVec 48) :
    (s.selectTag c d len t1).1.stores = s.stores := by
  unfold State.selectTag
  dsimp only
  (repeat' split) <;> simp

@[simp] theorem State.logTag_stores (s : State) (x : TagEntry) : (s.logTag x).stores = s.stores := by
  simp [State.logTag]

@[simp] theorem State.finishTag_stores (s : State) (mark : Option TagMark) (c : Cp) (d : Dir) (native : Bool)
    (drop : Nat) :
    (s.finishTag mark c d native drop).stores = s.stores := by
  unfold State.finishTag
  dsimp only
  split <;> simp

@[simp] theorem State.updDomain_stores (s : State) (d : Fin 2) (f : Domain → Domain) :
    (s.updDomain d f).stores = s.stores := by simp [State.updDomain]

@[simp] theorem State.updTpo_stores (s : State) (n : Fin 4) (f : Tpo → Tpo) :
    (s.updTpo n f).stores = s.stores := by simp [State.updTpo]

@[simp] theorem State.tpoForward_stores (s : State) (n : Fin 4) (now : Nat) :
    (s.tpoForward n now).stores = s.stores := by simp [State.tpoForward]

@[simp] theorem State.tpoStep_stores (s : State) (d : Fin 2) (amount : Int) :
    (s.tpoStep d amount).stores = s.stores := by
  unfold State.tpoStep; apply foldl_stores; intro s n; dsimp only; (repeat' split) <;> simp

@[simp] theorem State.lateCommits_stores (s : State) (old new : Nat) :
    (s.lateCommits old new).stores = s.stores := by simp [State.lateCommits]

@[simp] theorem State.stepDomain_stores (s : State) (d : Fin 2) (amount : Int) (cause : Byte) :
    (s.stepDomain d amount cause).stores = s.stores := by simp [State.stepDomain]

@[simp] theorem State.advanceTime_stores (s : State) : s.advanceTime.stores = s.stores := by
  simp [State.advanceTime]

@[simp] theorem State.servoSteps_stores (s : State) : s.servoSteps.stores = s.stores := by
  unfold State.servoSteps; apply foldl_stores; intro s d; split <;> simp

@[simp] theorem State.servoOffset_stores (s : State) (d : Fin 2) (off : Int) :
    (s.servoOffset d off).stores = s.stores := by
  unfold State.servoOffset
  dsimp only
  split <;> simp

@[simp] theorem State.servoSync_stores (s : State) (d : Fin 2) (x : SyncStamp) :
    (s.servoSync d x).stores = s.stores := by
  unfold State.servoSync
  dsimp only
  split <;> simp

@[simp] theorem State.servoDelay_stores (s : State) (d : Fin 2) (seq : BitVec 16) (t4 correction : Int) :
    (s.servoDelay d seq t4 correction).stores = s.stores := by
  unfold State.servoDelay
  dsimp only
  split <;> simp

@[simp] theorem State.modeCommit_stores (s : State) (d : Fin 2) (old : TdBlock) :
    (s.modeCommit d old).stores = s.stores := by
  unfold State.modeCommit
  dsimp only
  (repeat' split) <;> simp

@[simp] theorem State.stopOutputTpos_stores (s : State) : s.stopOutputTpos.stores = s.stores := by
  simp [State.stopOutputTpos]

@[simp] theorem State.outSrcCommit_stores (s : State) (before : Option Nat) (new : TdConfig) :
    (s.outSrcCommit before new).stores = s.stores := by simp [State.outSrcCommit]

@[simp] theorem State.timeCommit_stores (s : State) : s.timeCommit.stores = s.stores := by
  simp [State.timeCommit]

@[simp] theorem State.logPtp_stores (s : State) (x : TsEntry) : (s.logPtp x).stores = s.stores := by
  simp [State.logPtp]

@[simp] theorem State.unmeasured_stores (s : State) (c : Cp) : (s.unmeasured c).stores = s.stores := by
  simp [State.unmeasured]

@[simp] theorem State.stampLog_stores (s : State) (d : Dir) (c : Cp) (f : Bytes) (o : Nat) (i : Instants) :
    (s.stampLog d c f o i).stores = s.stores := by
  unfold State.stampLog
  dsimp only
  split <;> simp

@[simp] theorem State.rewritePtp_stores (s : State) (d : Dir) (c : Cp) (f : Bytes) (o : Nat) (i : Instants) :
    (s.rewritePtp d c f o i).1.stores = s.stores := by
  unfold State.rewritePtp
  dsimp only
  (repeat' split) <;> simp

@[simp] theorem State.servoMessage_stores (s : State) (td : Fin 2) (d : Dir) (c : Cp) (f : Bytes) (o : Nat)
    (i : Instants) :
    (s.servoMessage td d c f o i).stores = s.stores := by
  unfold State.servoMessage
  dsimp only
  (repeat' split) <;> simp

@[simp] theorem State.ptp_stores (s : State) (d : Dir) (c : Cp) (f : Bytes) (i : Instants) :
    (s.ptp d c f i).1.stores = s.stores := by
  unfold State.ptp
  dsimp only
  (repeat' split) <;> simp

@[simp] theorem State.raiseShed_stores (s : State) (c : Cp) (k : Fin 5) :
    (s.raiseShed c k).stores = s.stores := by simp [State.raiseShed]

@[simp] theorem State.noteShed_stores (s : State) (c : Cp) (k : Fin 5) (cls : Nat) :
    (s.noteShed c k cls).stores = s.stores := by simp [State.noteShed]

@[simp] theorem State.longSheds_stores (s : State) : s.longSheds.stores = s.stores := by
  simp [State.longSheds]

@[simp] theorem State.driveFrame_stores (s : State) (c : Cp) (frame : Bytes) (raw : Bool) :
    (s.driveFrame c frame raw).stores = s.stores := by simp [State.driveFrame]

@[simp] theorem State.sendClient_stores (s : State) (c : Cp) (frame : Bytes) (tiles : List Nat)
    (tag : Option TagMark) :
    (s.sendClient c frame tiles tag).stores = s.stores := by simp [State.sendClient]

@[simp] theorem State.enqueue_stores (s : State) (d : Dir) (f : FlowFrame) :
    (s.enqueue d f).stores = s.stores := by simp [State.enqueue]

@[simp] theorem State.stall_stores (s : State) (d : Dir) (express : Bool) :
    (s.stall d express).stores = s.stores := by simp [State.stall]

@[simp] theorem State.refreshPort_stores (s : State) (c : Cp) : (s.refreshPort c).stores = s.stores := by
  simp [State.refreshPort]

@[simp] theorem State.refreshPorts_stores (s : State) : s.refreshPorts.stores = s.stores := by
  simp [State.refreshPorts]

@[simp] theorem State.detectFail_stores (s : State) (c : Cp) (signalLost : BitVec 16) (clockLost : BitVec 16)
    (pcsLost : Bool) :
    (s.detectFail c signalLost clockLost pcsLost).stores = s.stores := by simp [State.detectFail]

@[simp] theorem State.dropRecord_stores (s : State) (c : Cp) (on : Bool) :
    (s.dropRecord c on).stores = s.stores := by simp [State.dropRecord]

@[simp] theorem State.formed_stores (s : State) (c : Cp) (old : CportConfig) :
    (s.formed c old).stores = s.stores := by
  unfold State.formed
  dsimp only
  (repeat' split) <;> simp

@[simp] theorem State.prbsErrors_stores (s : State) (l : LaneNo) (n : Nat) :
    (s.prbsErrors l n).stores = s.stores := by simp [State.prbsErrors]

@[simp] theorem State.hostHold_stores (s : State) (e : Eng) (hold : BitVec 6) :
    (s.hostHold e hold).stores = s.stores := by simp [State.hostHold]

@[simp] theorem State.putResult_stores (s : State) (r : GbResult) :
    (s.putResult r).stores = s.stores := by
  unfold State.putResult
  dsimp only
  (repeat' split) <;> simp

@[simp] theorem State.resetCics_stores (s : State) (mask : BitVec 16) :
    (s.resetCics mask).stores = s.stores := by simp [State.resetCics]

@[simp] theorem State.entryResult_stores (s : State) (n : Fin 16) (e : GaugeEntry) (raw : BitVec 12) :
    (s.entryResult n e raw).stores = s.stores := by
  unfold State.entryResult
  dsimp only
  (repeat' split) <;> simp

@[simp] theorem State.holdEngines_stores (s : State) (on : Bool) :
    (s.holdEngines on).stores = s.stores := by simp [State.holdEngines]

@[simp] theorem State.checkHold_stores (s : State) (on : Bool) (data : Bytes) :
    (s.checkHold on data).stores = s.stores := by simp [State.checkHold]

@[simp] theorem State.judgeCheck_stores (s : State) (ga : BitVec 12) (gb : BitVec 12) :
    (s.judgeCheck ga gb).stores = s.stores := by simp [State.judgeCheck]

@[simp] theorem State.compareCheck_stores (s : State) (ga : BitVec 12) (raw : BitVec 12) :
    (s.compareCheck ga raw).stores = s.stores := by simp [State.compareCheck]

@[simp] theorem State.makeCheck_stores (s : State) : s.makeCheck.stores = s.stores := by
  unfold State.makeCheck
  dsimp only
  split <;> simp

@[simp] theorem State.gbNext_stores (s : State) : s.gbNext.stores = s.stores := by
  unfold State.gbNext
  dsimp only
  (repeat' split) <;> simp

@[simp] theorem State.gbEnd_stores (s : State) (raw : BitVec 12) : (s.gbEnd raw).stores = s.stores := by
  unfold State.gbEnd
  dsimp only
  (repeat' split) <;> simp

@[simp] theorem State.gbDrop_stores (s : State) : s.gbDrop.stores = s.stores := by
  unfold State.gbDrop
  dsimp only
  split <;> simp

@[simp] theorem State.passTick_stores (s : State) : s.passTick.stores = s.stores := by
  simp [State.passTick]

@[simp] theorem State.gaCycle_stores (s : State) (codes : List (BitVec 12)) (check : BitVec 12) :
    (s.gaCycle codes check).stores = s.stores := by
  unfold State.gaCycle
  dsimp only
  (repeat' split) <;> simp

@[simp] theorem State.gaugeCommit_stores (s : State) : s.gaugeCommit.stores = s.stores := by
  unfold State.gaugeCommit
  dsimp only
  split <;> simp

@[simp] theorem State.calibrated_stores (s : State) (offsets : List Int) (gain : Int) :
    (s.calibrated offsets gain).stores = s.stores := by
  unfold State.calibrated
  dsimp only
  split <;> simp

@[simp] theorem State.updInput_stores (s : State) (i : Fin 14) (f : HwInput → HwInput) :
    (s.updInput i f).stores = s.stores := by simp [State.updInput]

@[simp] theorem State.hwEvaluate_stores (s : State) (commit : Bool) :
    (s.hwEvaluate commit).stores = s.stores := by
  unfold State.hwEvaluate
  dsimp only
  (repeat' split) <;> simp

@[simp] theorem State.abandon_stores (s : State) : s.abandon.stores = s.stores := by
  simp [State.abandon]

@[simp] theorem State.enterHoldover_stores (s : State) (lost : Byte) :
    (s.enterHoldover lost).stores = s.stores := by simp [State.enterHoldover]

@[simp] theorem State.toHoldover_stores (s : State) (lost lostBy : Byte) :
    (s.toHoldover lost lostBy).stores = s.stores := by simp [State.toHoldover]

@[simp] theorem State.holdoverTick_stores (s : State) : s.holdoverTick.stores = s.stores := by
  simp [State.holdoverTick]

@[simp] theorem State.forceOut_stores (s : State) (lost : Byte) :
    (s.forceOut lost).stores = s.stores := by simp [State.forceOut]

@[simp] theorem State.disqualify_stores (s : State) (i : Fin 14) (cause : BitVec 4) :
    (s.disqualify i cause).stores = s.stores := by simp [State.disqualify]

@[simp] theorem State.windowEnd_stores (s : State) (phase : Int) :
    (s.windowEnd phase).stores = s.stores := by simp [State.windowEnd]

@[simp] theorem State.hwTick_stores (s : State) : s.hwTick.stores = s.stores := by simp [State.hwTick]

@[simp] theorem State.timebaseTick_stores (s : State) : s.timebaseTick.stores = s.stores := by
  simp [State.timebaseTick]

@[simp] theorem State.phaseStep_stores (s : State) (amount : Int) (when_ : Byte) :
    (s.phaseStep amount when_).stores = s.stores := by simp [State.phaseStep]

@[simp] theorem State.applyPending_stores (s : State) : s.applyPending.stores = s.stores := by
  unfold State.applyPending
  dsimp only
  split <;> simp

@[simp] theorem State.ppsEdge_stores (s : State) (n : Fin 2) : (s.ppsEdge n).stores = s.stores := by
  simp [State.ppsEdge]

@[simp] theorem State.synceCommit_stores (s : State) (old : Vector (Byte × Byte) 4) :
    (s.synceCommit old).stores = s.stores := by simp [State.synceCommit]

@[simp] theorem State.reselect_stores (s : State) : s.reselect.stores = s.stores := by
  simp [State.reselect]

@[simp] theorem State.selectionCommit_stores (s : State) : s.selectionCommit.stores = s.stores := by
  simp [State.selectionCommit]

@[simp] theorem State.evaluateAfter_stores (s : State) : s.evaluateAfter.stores = s.stores := by
  simp [State.evaluateAfter]

@[simp] theorem State.hwCommit_stores (s : State) : s.hwCommit.stores = s.stores := by
  unfold State.hwCommit
  dsimp only
  split <;> simp

@[simp] theorem State.applyTdSet_stores (s : State) (d : Fin 2) : (s.applyTdSet d).stores = s.stores := by
  unfold State.applyTdSet
  dsimp only
  split <;> simp

@[simp] theorem State.emitEdge_stores (s : State) (n : Fin 4) : (s.emitEdge n).stores = s.stores := by
  simp [State.emitEdge]

@[simp] theorem State.updCapture_stores (s : State) (i : Fin 3) (f : CaptureQueue → CaptureQueue) :
    (s.updCapture i f).stores = s.stores := by simp [State.updCapture]

@[simp] theorem State.setCommit_stores (s : State) (k : Commit) : (s.setCommit k).stores = s.stores := by
  simp [State.setCommit]

@[simp] theorem State.endCommit_stores (s : State) (k : Commit) (executed : Bool) :
    (s.endCommit k executed).stores = s.stores := by simp [State.endCommit]

@[simp] theorem State.takeEngine_stores (s : State) (e : Eng) (classes : BitVec 16) (side : Option HeldSide) :
    (s.takeEngine e classes side).stores = s.stores := by simp [State.takeEngine]

@[simp] theorem State.twinEnd_stores (s : State) (e : Eng) : (s.twinEnd e).stores = s.stores := by
  simp [State.twinEnd]

@[simp] theorem State.rxSide_stores (s : State) (e : Eng) (old : EngineParams) :
    (s.rxSide e old).stores = s.stores := by simp [State.rxSide]

@[simp] theorem State.twinStep_stores (s : State) (old : Vector EngineParams 4) :
    (s.twinStep old).stores = s.stores := by simp [State.twinStep]

@[simp] theorem State.settleCommit_stores (s : State) (id : Nat) :
    (s.settleCommit id).stores = s.stores := by
  unfold State.settleCommit
  dsimp only
  (repeat' split) <;> simp

@[simp] theorem State.sendCann_stores (s : State) (k : Commit) (phase : BitVec 2) :
    (s.sendCann k phase).stores = s.stores := by simp [State.sendCann]

@[simp] theorem State.sendCack_stores (s : State) (e : Eng) (token : BitVec 32) (target : BitVec 32)
    (response : BitVec 4) :
    (s.sendCack e token target response).stores = s.stores := by simp [State.sendCack]

@[simp] theorem State.sendAbort_stores (s : State) (k : Commit) : (s.sendAbort k).stores = s.stores := by
  simp [State.sendAbort]

@[simp] theorem State.disarm_stores (s : State) (k : Commit) (token : BitVec 32) :
    (s.disarm k token).stores = s.stores := by
  unfold State.disarm
  split <;> simp

@[simp] theorem State.abstain_stores (s : State) (k : Commit) (mismatch : Bool) (b : Byte) :
    (s.abstain k mismatch b).stores = s.stores := by simp [State.abstain]

@[simp] theorem State.confirm_stores (s : State) (k : Commit) : (s.confirm k).stores = s.stores := by
  simp [State.confirm]

@[simp] theorem State.splitCommit_stores (s : State) (k : Commit) :
    (s.splitCommit k).stores = s.stores := by simp [State.splitCommit]

@[simp] theorem State.startPair_stores (s : State) (k : Commit) : (s.startPair k).stores = s.stores := by
  unfold State.startPair
  dsimp only
  split <;> simp

@[simp] theorem State.acknowledge_stores (s : State) (k : Commit) (e : Eng) (fnr : BitVec 32) (target : BitVec 32) :
    (s.acknowledge k e fnr target).stores = s.stores := by simp [State.acknowledge]

@[simp] theorem State.onAnnounce_stores (s : State) (e : Eng) (fnr : BitVec 32) (c : Cann) :
    (s.onAnnounce e fnr c).stores = s.stores := by
  unfold State.onAnnounce
  dsimp only
  split <;> simp

@[simp] theorem State.onConfirm_stores (s : State) (e : Eng) (fnr : BitVec 32) (c : Cann) :
    (s.onConfirm e fnr c).stores = s.stores := by
  unfold State.onConfirm
  (repeat' split) <;> simp

@[simp] theorem State.onAbort_stores (s : State) (e : Eng) (c : Cann) :
    (s.onAbort e c).stores = s.stores := by
  unfold State.onAbort
  dsimp only
  split <;> simp

@[simp] theorem State.onCann_stores (s : State) (e : Eng) (fnr : BitVec 32) (c : Cann) :
    (s.onCann e fnr c).stores = s.stores := by
  unfold State.onCann
  dsimp only
  split <;> simp

@[simp] theorem State.onAck_stores (s : State) (e : Eng) (k : Commit) (target : BitVec 32) :
    (s.onAck e k target).stores = s.stores := by simp [State.onAck]

@[simp] theorem State.onLateAbort_stores (s : State) (e : Eng) (c : Cack) :
    (s.onLateAbort e c).stores = s.stores := by
  unfold State.onLateAbort
  dsimp only
  (repeat' split) <;> simp

@[simp] theorem State.onCack_stores (s : State) (e : Eng) (c : Cack) :
    (s.onCack e c).stores = s.stores := by
  unfold State.onCack
  (repeat' split) <;> simp

@[simp] theorem State.ackDeadline_stores (s : State) (k : Commit) :
    (s.ackDeadline k).stores = s.stores := by simp [State.ackDeadline]

@[simp] theorem State.dropCommits_stores (s : State) : s.dropCommits.stores = s.stores := by
  simp [State.dropCommits]

@[simp] theorem State.absorb_stores (s : State) (e : Eng) (noise : Quad) :
    (s.absorb e noise).stores = s.stores := by simp [State.absorb]

@[simp] theorem State.advance_stores (s : State) (e : Eng) (w : WindowPosition) (o : Outcome) :
    (s.advance e w o).stores = s.stores := by
  unfold State.advance
  dsimp only
  split <;> simp

@[simp] theorem State.tagBlocks_stores (s : State) (c : Cp) (d : Dir) (n : Nat) (shed : Bool) (t1 : BitVec 48) :
    (s.tagBlocks c d n shed t1).stores = s.stores := by simp [State.tagBlocks]

@[simp] theorem State.laneSlip_stores (s : State) (l : LaneNo) (slip : Slip) (lfc : BitVec 16) :
    (s.laneSlip l slip lfc).stores = s.stores := by simp [State.laneSlip]

@[simp] theorem State.countSent_stores (s : State) (e : Eng) (ts : List Bytes) :
    (s.countSent e ts).stores = s.stores := by simp [State.countSent]

@[simp] theorem State.portTiles_stores (s : State) (e : Eng) (c : Cp) (slots : Nat) :
    (s.portTiles e c slots).1.stores = s.stores := by
  unfold State.portTiles
  dsimp only
  (repeat' split) <;> simp

@[simp] theorem State.payload_stores (s : State) (e : Eng) : (s.payload e).1.stores = s.stores := by
  have h (f : Cp → List Nat) (l : List Cp) (a : State × List (List Nat × List Bytes)) :
      (l.foldl (fun a c => addPort e (f c) a c) a).1.stores = a.1.stores :=
    foldl_keeps (fun a : State × List (List Nat × List Bytes) => a.1.stores) (fun a c => by simp [addPort]) l a
  unfold State.payload
  dsimp only
  split <;> simp [h]

@[simp] theorem State.scTake_stores (s : State) (e : Eng) : (s.scTake e).1.stores = s.stores := by
  simp [State.scTake]

@[simp] theorem State.scBlock_stores (s : State) (d : Dir) (key : Bytes) :
    (s.scBlock d key).stores = s.stores := by simp [State.scBlock]

@[simp] theorem State.scAbsent_stores (s : State) (e : Eng) (key : BitVec 32) :
    (s.scAbsent e key).stores = s.stores := by simp [State.scAbsent]

@[simp] theorem State.scSend_stores (s : State) (e : Eng) (fn : BitVec 32) :
    (s.scSend e fn).1.stores = s.stores := by
  unfold State.scSend
  dsimp only
  (repeat' split) <;> simp

@[simp] theorem State.beginFrame_stores (s : State) (e : Eng) (tiles : List Bytes) :
    (s.beginFrame e tiles).stores = s.stores := by simp [State.beginFrame]

@[simp] theorem State.beginFrames_stores (s : State) (e : Eng) : (s.beginFrames e).stores = s.stores := by
  unfold State.beginFrames
  dsimp only
  (repeat' split) <;> simp

@[simp] theorem State.drain_stores (s : State) : s.drain.stores = s.stores := by simp [State.drain]

@[simp] theorem State.touchTile_stores (s : State) (c : Cp) (id : Nat) :
    (s.touchTile c id).stores = s.stores := by simp [State.touchTile]

@[simp] theorem State.recordHead_stores (s : State) (c : Cp) (v : Nat) :
    (s.recordHead c v).stores = s.stores := by simp [State.recordHead]

@[simp] theorem State.atPointer_stores (s : State) (c : Cp) : (s.atPointer c).stores = s.stores := by
  simp [State.atPointer]

@[simp] theorem State.twinSkew_stores (s : State) (low : Eng) : (s.twinSkew low).stores = s.stores := by
  unfold State.twinSkew
  dsimp only
  split <;> simp

@[simp] theorem State.twinDefect_stores (s : State) (low : Eng) (lower higher : Bool) :
    (s.twinDefect low lower higher).stores = s.stores := by simp [State.twinDefect]

@[simp] theorem State.noteDelivered_stores (s : State) (low : Eng) (fn : BitVec 32) :
    (s.noteDelivered low fn).stores = s.stores := by simp [State.noteDelivered]

@[simp] theorem State.apsEvent_stores (s : State) (e : Eng) (cause : Byte) (was now : Bool) :
    (s.apsEvent e cause was now).stores = s.stores := by simp [State.apsEvent]

@[simp] theorem State.checkAps_stores (s : State) (e : Eng) : (s.checkAps e).stores = s.stores := by
  simp [State.checkAps]

@[simp] theorem State.scReceive_stores (s : State) (e : Eng) (fn : BitVec 32) (linkid : Byte) (o : Overhead) :
    (s.scReceive e fn linkid o).stores = s.stores := by
  unfold State.scReceive
  dsimp only
  (repeat' split) <;> simp

@[simp] theorem State.depReceive_stores (s : State) (e : Eng) (o : Overhead) :
    (s.depReceive e o).stores = s.stores := by simp [State.depReceive]

@[simp] theorem State.smallDefects_stores (s : State) (e : Eng) (h : BitVec 64) (o : Overhead) :
    (s.smallDefects e h o).stores = s.stores := by simp [State.smallDefects]

@[simp] theorem State.measureLine_stores (s : State) (e : Eng) (o : Overhead) (arrival : Nat) :
    (s.measureLine e o arrival).stores = s.stores := by
  unfold State.measureLine
  dsimp only
  (repeat' split) <;> simp

@[simp] theorem State.acceptFrame_stores (s : State) (e : Eng) (f : RxFrame) (o : Overhead) :
    (s.acceptFrame e f o).stores = s.stores := by simp [State.acceptFrame]

@[simp] theorem State.rxTrack_stores (s : State) (e : Eng) (code : Nat) :
    (s.rxTrack e code).stores = s.stores := by simp [State.rxTrack]

@[simp] theorem State.enterSync_stores (s : State) (e : Eng) (k : Candidate) (code : Nat) :
    (s.enterSync e k code).stores = s.stores := by simp [State.enterSync]

@[simp] theorem State.huntFrame_stores (s : State) (e : Eng) (f : RxFrame) :
    (s.huntFrame e f).stores = s.stores := by
  unfold State.huntFrame
  dsimp only
  split <;> simp

@[simp] theorem State.leaveSync_stores (s : State) (e : Eng) : (s.leaveSync e).stores = s.stores := by
  simp [State.leaveSync]

@[simp] theorem State.scSlot_stores (s : State) (e : Eng) (b : Byte) (valid : Bool) :
    (s.scSlot e b valid).stores = s.stores := by simp [State.scSlot]

@[simp] theorem State.failTile_stores (s : State) (e : Eng) : (s.failTile e).stores = s.stores := by
  simp [State.failTile]

@[simp] theorem State.receive_stores (s : State) (e : Eng) (samples : List Quad) :
    (s.receive e samples).stores = s.stores := by simp [State.receive]

@[simp] theorem State.sensorEvent_stores (s : State) (i : Nat) (old new : Sensor) (near : List Int) :
    (s.sensorEvent i old new near).stores = s.stores := by simp [State.sensorEvent]

@[simp] theorem State.readSensors_stores (s : State) (temps : List (BitVec 16)) :
    (s.readSensors temps).stores = s.stores := by simp [State.readSensors]

@[simp] theorem State.readZone_stores (s : State) (temps : List (Option Int)) (z : Fin 9) :
    (s.readZone temps z).stores = s.stores := by simp [State.readZone]

@[simp] theorem State.readZones_stores (s : State) : s.readZones.stores = s.stores := by
  simp [State.readZones]

@[simp] theorem State.throttle_stores (s : State) (e : Eng) : (s.throttle e).stores = s.stores := by
  unfold State.throttle
  dsimp only
  split <;> simp

@[simp] theorem State.holdDark_stores (s : State) (e : Eng) (reason : Byte) :
    (s.holdDark e reason).stores = s.stores := by simp [State.holdDark]

@[simp] theorem State.shutdown_stores (s : State) (z : Fin 9) (t : Int) :
    (s.shutdown z t).stores = s.stores := by simp [State.shutdown]

@[simp] theorem State.noteRise_stores (s : State) : s.noteRise.stores = s.stores := by
  simp [State.noteRise]

@[simp] theorem State.shutdownDue_stores (s : State) : s.shutdownDue.stores = s.stores := by
  simp [State.shutdownDue]

@[simp] theorem State.weirReading_stores (s : State) (temps : List (BitVec 16)) :
    (s.weirReading temps).stores = s.stores := by simp [State.weirReading]

@[simp] theorem State.unhold_stores (s : State) (e : Eng) : (s.unhold e).stores = s.stores := by
  simp [State.unhold]

@[simp] theorem State.resumeAuto_stores (s : State) : s.resumeAuto.stores = s.stores := by
  simp [State.resumeAuto]

@[simp] theorem State.dropRunning_stores (s : State) : s.dropRunning.stores = s.stores := by
  simp [State.dropRunning]

@[simp] theorem State.recall_stores (s : State) : s.recall.stores = s.stores := by simp [State.recall]

@[simp] theorem State.answerRunning_stores (s : State) : s.answerRunning.stores = s.stores := by
  simp [State.answerRunning]

@[simp] theorem State.notDone_stores (s : State) (d : Option Deferred) :
    (s.notDone d).stores = s.stores := by
  unfold State.notDone
  (repeat' split) <;> simp

@[simp] theorem State.goHeadless_stores (s : State) (u : Fin 2) (cause : Byte) :
    (s.goHeadless u cause).stores = s.stores := by simp [State.goHeadless]

@[simp] theorem State.declare_stores (s : State) (cause : Byte) :
    (s.declare cause).stores = s.stores := by simp [State.declare]

@[simp] theorem State.noteVote_stores (s : State) (votes : Vector Bool 3) :
    (s.noteVote votes).stores = s.stores := by
  unfold State.noteVote
  (repeat' split) <;> simp

@[simp] theorem State.takeOver_stores (s : State) (u : Fin 2) (cause : Byte) (duration : BitVec 16) :
    (s.takeOver u cause duration).stores = s.stores := by simp [State.takeOver]

@[simp] theorem State.takeoverComplete_stores (s : State) (duration : BitVec 16) :
    (s.takeoverComplete duration).stores = s.stores := by
  unfold State.takeoverComplete
  dsimp only
  split <;> simp

@[simp] theorem State.restored_stores (s : State) (x : Restore) (passes : Bool) (tenths : BitVec 16) :
    (s.restored x passes tenths).stores = s.stores := by
  unfold State.restored
  dsimp only
  split <;> simp

@[simp] theorem State.setViews_stores (s : State) (p : Hp) (v : List (Nat × CounterView)) :
    (s.setViews p v).stores = s.stores := by simp [State.setViews]

@[simp] theorem State.snapshot_stores (s : State) (p : Hp) (mask : BitVec 32) :
    (s.snapshot p mask).stores = s.stores := by simp [State.snapshot]

@[simp] theorem State.noteSnapTime_stores (s : State) (p : Hp) (mask : BitVec 32) :
    (s.noteSnapTime p mask).stores = s.stores := by simp [State.noteSnapTime]

@[simp] theorem State.takeSnapshots_stores (s : State) : s.takeSnapshots.stores = s.stores := by
  simp [State.takeSnapshots]

@[simp] theorem State.restartViews_stores (s : State) (p : Hp) (named : CounterScope → Nat → Bool) :
    (s.restartViews p named).stores = s.stores := by simp [State.restartViews]

@[simp] theorem State.clearViews_stores (s : State) (p : Hp) (named : Nat → Nat → Bool) :
    (s.clearViews p named).stores = s.stores := by simp [State.clearViews]

@[simp] theorem State.collectorNext_stores (s : State) : s.collectorNext.stores = s.stores := by
  simp [State.collectorNext]

@[simp] theorem State.onBus_stores (s : State) (p : Hp) (a : BusAnswer) :
    (s.onBus p a).stores = s.stores := by simp [State.onBus]

@[simp] theorem State.directed_stores (s : State) (p : Hp) (addr : BitVec 7) (f : State → State)
    (h : ∀ x, (f x).stores = x.stores) :
    (s.directed p addr f).stores = s.stores := by
  unfold State.directed; split
  · simp
  · split <;> simp [h]

@[simp] theorem State.broadcast_stores (s : State) (p : Hp) (f : State → State) (h : ∀ x, (f x).stores = x.stores) :
    (s.broadcast p f).stores = s.stores := by
  unfold State.broadcast; split <;> simp [h]

@[simp] theorem State.ccc_stores (s : State) (p : Hp) (to_ : Option (BitVec 7)) (f : State → State)
    (h : ∀ x, (f x).stores = x.stores) :
    (s.ccc p to_ f).stores = s.stores := by
  unfold State.ccc; split <;> simp [h]

@[simp] theorem State.framed_stores (s : State) (p : Hp) (x : Xfer) (code : Byte) (f : State → State)
    (h : ∀ x, (f x).stores = x.stores) :
    (s.framed p x code f).stores = s.stores := by
  unfold State.framed; split
  · rw [h]; simp
  · split
    · simp
    · split <;> simp [h]

@[simp] theorem State.portReply_stores (s : State) (p : Hp) (h : Header) (auth : Option AuthContext)
    (st : Status) (data : Bytes) :
    (s.portReply p h auth st data).stores = s.stores := by simp [State.portReply]

@[simp] theorem State.authFail_stores (s : State) (p : Hp) (h : Header) :
    (s.authFail p h).stores = s.stores := by simp [State.authFail]

@[simp] theorem State.accept_stores (s : State) (p : Hp) (h : Header) (auth : Option AuthContext) (b : Bytes) :
    (s.accept p h auth b).stores = s.stores := by simp [State.accept]

@[simp] theorem State.retransmit_stores (s : State) (p : Hp) (seq : BitVec 16) :
    (s.retransmit p seq).stores = s.stores := by
  unfold State.retransmit
  (repeat' split) <;> simp

@[simp] theorem State.sequence_stores (s : State) (p : Hp) (h : Header) (auth : Option AuthContext) (b : Bytes) :
    (s.sequence p h auth b).stores = s.stores := by simp [State.sequence]

@[simp] theorem State.trailer_stores (s : State) (p : Hp) (h : Header) (b : Bytes) :
    (s.trailer p h b).stores = s.stores := by
  unfold State.trailer
  dsimp only
  (repeat' split) <;> simp

@[simp] theorem State.packet_stores (s : State) (p : Hp) (b : Bytes) :
    (s.packet p b).stores = s.stores := by simp [State.packet]

@[simp] theorem State.write_stores (s : State) (p : Hp) (b : Bytes) :
    (s.write p b).stores = s.stores := by simp [State.write]

@[simp] theorem State.read_stores (s : State) (p : Hp) : (s.read p).stores = s.stores := by
  unfold State.read
  dsimp only
  split <;> simp

@[simp] theorem State.overflow_stores (s : State) (p : Hp) : (s.overflow p).stores = s.stores := by
  simp [State.overflow]

@[simp] theorem State.sopEvent_stores (s : State) (e : Eng) (old : Engine) (rate : BitVec 32) :
    (s.sopEvent e old rate).stores = s.stores := by simp [State.sopEvent]

@[simp] theorem State.switchCheck_stores (s : State) (e : Eng) (old : Engine) :
    (s.switchCheck e old).stores = s.stores := by simp [State.switchCheck]

@[simp] theorem State.shortEngine_stores (s : State) (l : List ShortMeasure) (e : Eng) :
    (s.shortEngine l e).stores = s.stores := by
  unfold State.shortEngine
  dsimp only
  split <;> simp

@[simp] theorem State.twinSwitch_stores (s : State) (e : Eng) : (s.twinSwitch e).stores = s.stores := by
  simp [State.twinSwitch]

@[simp] theorem State.decimEvent_stores (s : State) : s.decimEvent.stores = s.stores := by
  simp [State.decimEvent]

@[simp] theorem State.shortClients_stores (s : State) : s.shortClients.stores = s.stores := by
  simp [State.shortClients]

@[simp] theorem State.rsFec_stores (s : State) (ports : List (Nat × Nat)) (c : Cp) :
    (s.rsFec ports c).stores = s.stores := by
  unfold State.rsFec
  dsimp only
  split <;> simp

@[simp] theorem State.marginEvent_stores (s : State) (e : Eng) : (s.marginEvent e).stores = s.stores := by
  unfold State.marginEvent
  (repeat' split) <;> simp

@[simp] theorem State.longEngine_stores (s : State) (l : List LongMeasure) (e : Eng) :
    (s.longEngine l e).stores = s.stores := by
  unfold State.longEngine
  dsimp only
  split <;> simp

@[simp] theorem State.longReports_stores (s : State) (e : Eng) : (s.longReports e).stores = s.stores := by
  simp [State.longReports]

@[simp] theorem State.stallEvent_stores (s : State) (dir : Byte) (n : Nat) :
    (s.stallEvent dir n).stores = s.stores := by simp [State.stallEvent]

@[simp] theorem State.longBanks_stores (s : State) : s.longBanks.stores = s.stores := by
  simp [State.longBanks]

@[simp] theorem State.longTime_stores (s : State) : s.longTime.stores = s.stores := by
  simp [State.longTime]

@[simp] theorem State.longGauge_stores (s : State) : s.longGauge.stores = s.stores := by
  simp [State.longGauge]

@[simp] theorem State.longCounters_stores (s : State) : s.longCounters.stores = s.stores := by
  unfold State.longCounters
  dsimp only
  split <;> simp

@[simp] theorem State.strapFault_stores (s : State) (strap : Byte) (code : Option (BitVec 12)) :
    (s.strapFault strap code).stores = s.stores := by
  unfold State.strapFault
  (repeat' split) <;> simp

@[simp] theorem State.readStraps_stores (s : State) (rep : ReadyReport) :
    (s.readStraps rep).stores = s.stores := by simp [State.readStraps]

@[simp] theorem State.fuseEffect_stores (s : State) (f : FuseRow) :
    (s.fuseEffect f).stores = s.stores := by
  unfold State.fuseEffect
  dsimp only
  split <;> simp

@[simp] theorem State.fuseFault_stores (s : State) (f : FuseRow) : (s.fuseFault f).stores = s.stores := by
  simp [State.fuseFault]

@[simp] theorem State.readFuse_stores (s : State) (f : FuseRow) : (s.readFuse f).stores = s.stores := by
  unfold State.readFuse
  (repeat' split) <;> simp

@[simp] theorem State.readFuses_stores (s : State) (rep : ReadyReport) :
    (s.readFuses rep).stores = s.stores := by simp [State.readFuses]

@[simp] theorem State.recordFault_stores (s : State) (f : FactoryRecord) :
    (s.recordFault f).stores = s.stores := by simp [State.recordFault]

@[simp] theorem State.calibrateGauge_stores (s : State) : s.calibrateGauge.stores = s.stores := by
  simp [State.calibrateGauge]

@[simp] theorem State.recordTrip_stores (s : State) : s.recordTrip.stores = s.stores := by
  simp [State.recordTrip]

@[simp] theorem State.announceReady_stores (s : State) (time : BitVec 32) :
    (s.announceReady time).stores = s.stores := by simp [State.announceReady]

@[simp] theorem State.depEndDue_stores (s : State) (e : Eng) : (s.depEndDue e).stores = s.stores := by
  unfold State.depEndDue; split
  · unfold execDepEnd eventIf event; dsimp only; (repeat' split) <;> simp
  · rfl

@[simp] theorem State.tdSetsDue_stores (s : State) : s.tdSetsDue.stores = s.stores := by
  unfold State.tdSetsDue; apply foldl_stores; intro s d; split
  · split <;> simp
  · rfl

@[simp] theorem State.deadlines_stores (s : State) (id : Nat) : (s.deadlines id).stores = s.stores := by
  unfold State.deadlines
  dsimp only
  (repeat' split) <;> simp

@[simp] theorem State.withinPeriod_stores (s : State) : s.withinPeriod.stores = s.stores := by
  simp [State.withinPeriod]

end Sys2Proof.Machine
end

section
/-! SUPPORT. The operations that do write context memory or the key slots, from the cells outward: each of them writes
a store through `writeAt` alone, and so keeps both in canonical form (R325, R353). -/

namespace Sys2Proof.Machine

/-! ## Canonical form of the stores -/

/-- Both stores are in canonical form. -/
def StoresOk (x : List (Nat × MemWord) × List (Nat × KeySlot)) : Prop := Memory.wf x.1 = true ∧ canon {} x.2 = true

@[simp] theorem storesOk_ite {x y : List (Nat × MemWord) × List (Nat × KeySlot)} (c : Prop) [Decidable c] :
    StoresOk (if c then x else y) ↔ if c then StoresOk x else StoresOk y := by split <;> rfl

theorem foldl_storesOk {α : Type} {l : List α} {f : State → α → State} {s : State} (h : StoresOk s.stores)
    (hf : ∀ s x, StoresOk s.stores → StoresOk (f s x).stores) : StoresOk (l.foldl f s).stores := by
  induction l generalizing s with
  | nil => exact h
  | cons x xs ih => exact ih (hf s x h)

section
variable {s : State} (h : StoresOk s.stores)
include h

/-! ## Context memory -/

@[simp] theorem StoresOk.putWord {wa : Nat} {w : MemWord} : StoresOk (s.putWord wa w).stores :=
  ⟨putWord_wf s wa w h.1, h.2⟩

@[simp] theorem StoresOk.memWrite {wa : Nat} {d : BitVec 128} : StoresOk (s.memWrite wa d).stores := by
  simp [State.memWrite, h]

@[simp] theorem StoresOk.mergeWrite {wa : Nat} {d : BitVec 128} {mask : BitVec 16} :
    StoresOk (s.mergeWrite wa d mask).stores := by
  unfold State.mergeWrite
  dsimp only
  split <;> simp [h]

@[simp] theorem StoresOk.markInvalid {n : Nat} : StoresOk (s.markInvalid n).stores := by
  unfold State.markInvalid
  dsimp only
  split <;> simp [h]

@[simp] theorem StoresOk.lostWord {wa : Nat} {stored : BitVec 128} : StoresOk (s.lostWord wa stored).1.stores := by
  unfold State.lostWord
  dsimp only
  (repeat' split) <;> simp [h]

@[simp] theorem StoresOk.wordCorrected {wa : Nat} {d : BitVec 128} : StoresOk (s.wordCorrected wa d).stores := by
  simp [State.wordCorrected, h]

@[simp] theorem StoresOk.memRead {wa : Nat} {reader : Byte} : StoresOk (s.memRead wa reader).1.stores := by
  unfold State.memRead
  dsimp only
  (repeat' split) <;> simp [h]

@[simp] theorem StoresOk.retire {m : MergeEntry} : StoresOk (s.retire m).stores := by
  simp [State.retire, h]

@[simp] theorem StoresOk.readWord {wa : Nat} {reader : Byte} : StoresOk (s.readWord wa reader).1.stores := by
  unfold State.readWord
  dsimp only
  split <;> exact h.memRead

omit h in
@[simp] theorem StoresOk.findKey {s : State} (h : StoresOk s.stores) {k : Bytes} {reader : Byte} {l : List Nat} :
    StoresOk (s.findKey k reader l).1.stores := by
  induction l generalizing s with
  | nil => exact h
  | cons wa rest ih =>
    unfold State.findKey
    dsimp only
    (repeat' split) <;> simp [h, ih]

/-! ## Key slots -/

@[simp] theorem StoresOk.setSlot {n : Nat} {k : KeySlot} : StoresOk (s.setSlot n k).stores :=
  ⟨h.1, setSlot_canon s n k h.2⟩

theorem StoresOk.loadKeys {vs : List (Nat × KeyValue)} : StoresOk (s.loadKeys vs).stores :=
  foldl_storesOk h fun _ _ h => h.setSlot

theorem StoresOk.keysUsable {p : Hp} {slots : List Nat} : StoresOk (s.keysUsable p slots).stores := by
  unfold State.keysUsable
  extract_lets t
  have ht : StoresOk t.stores := foldl_storesOk h fun _ _ h => by simp [h]
  split <;> simp [ht]

@[simp] theorem StoresOk.rewriteTx {n : Nat} : StoresOk (s.rewriteTx n).stores := by
  unfold State.rewriteTx
  dsimp only
  split <;> simp [h]

@[simp] theorem StoresOk.rewriteRx {n : Nat} : StoresOk (s.rewriteRx n).stores := by simp [State.rewriteRx, h]

@[simp] theorem StoresOk.keysTx {tok : BitVec 32} : StoresOk (s.keysTx tok).stores :=
  foldl_storesOk (by simpa) fun _ _ h => h.rewriteTx

@[simp] theorem StoresOk.keysRx {tok : BitVec 32} : StoresOk (s.keysRx tok).stores := by
  unfold State.keysRx
  rw [State.stampRewrites_stores]
  exact foldl_storesOk (by simpa) fun _ _ h => h.rewriteRx

theorem StoresOk.keysBoth {slots : List Nat} : StoresOk (s.keysBoth slots).stores := by
  unfold State.keysBoth
  dsimp only
  split
  · exact h
  · exact foldl_storesOk h fun _ _ h => h.rewriteTx.rewriteRx

theorem StoresOk.endRewrite {w : Rewrite} : StoresOk (s.endRewrite w).stores := by
  unfold State.endRewrite
  extract_lets live t
  have ht : StoresOk t.stores := foldl_storesOk h fun _ _ h => h.setSlot
  split <;> simp [ht]

theorem StoresOk.erasePoint {j : EraseJob} : StoresOk (s.erasePoint j).stores :=
  foldl_storesOk (s := s) h fun _ _ h => h.setSlot

theorem StoresOk.erasePoints : StoresOk s.erasePoints.stores := foldl_storesOk h fun _ _ h => h.erasePoint

theorem StoresOk.eraseDone {j : EraseJob} : StoresOk (s.eraseDone j).stores := by
  unfold State.eraseDone
  rw [State.cmdDone_stores, State.raise_stores]
  exact foldl_storesOk (s := s) h fun _ _ h => h.setSlot

/-! ## Flow contexts -/

@[simp] theorem StoresOk.fetchHot {n : Nat} : StoresOk (s.fetchHot n).1.stores := by
  unfold State.fetchHot
  dsimp only
  split <;> simp [h]

@[simp] theorem StoresOk.foldDrop {n w o delta ovfBit : Nat} : StoresOk (s.foldDrop n w o delta ovfBit).1.stores := by
  unfold State.foldDrop
  dsimp only
  split <;> simp [h]

@[simp] theorem StoresOk.writeBack {l : CacheLine} : StoresOk (s.writeBack l).stores :=
  h.memWrite.foldDrop.foldDrop.foldDrop.foldDrop.mergeWrite

@[simp] theorem StoresOk.evict {d : Dir} : StoresOk (s.evict d).stores := by
  unfold State.evict
  (repeat' split) <;> simp [h]

@[simp] theorem StoresOk.uncache {n : Nat} : StoresOk (s.uncache n).stores := by
  unfold State.uncache
  split <;> simp [h]

@[simp] theorem StoresOk.install {d : Dir} {n : Nat} : StoresOk (s.install d n).stores := by
  unfold State.install
  dsimp only
  split
  · exact h
  · rw [State.updDir_stores]
    exact h.evict.fetchHot.readWord

@[simp] theorem StoresOk.useHot {n : Nat} : StoresOk (s.useHot n).1.stores := by
  unfold State.useHot
  split <;> simp [h]

@[simp] theorem StoresOk.touch {n : Nat} : StoresOk (s.touch n).stores := by simp [State.touch, h]

@[simp] theorem StoresOk.setHot {n : Nat} {x : Hot} : StoresOk (s.setHot n x).stores := by
  unfold State.setHot
  split <;> simp [h]

theorem StoresOk.addEntry {e : Bytes} : StoresOk (s.addEntry e).stores := by
  unfold State.addEntry
  split
  · exact h
  · exact h.memWrite

theorem StoresOk.dropEntry {e : Bytes} : StoresOk (s.dropEntry e).stores := by
  unfold State.dropEntry
  dsimp only
  split
  · exact h.findKey
  · exact h.findKey.memWrite

@[simp] theorem StoresOk.clearCold {n : Nat} : StoresOk (s.clearCold n).stores := by
  have hu (f : CacheLine → CacheLine) : StoresOk (s.updLine n f).stores := by simpa
  exact (hu _).memWrite.memWrite.memWrite.memWrite.memWrite

@[simp] theorem StoresOk.setFlags {n : Nat} {flags : Byte} : StoresOk (s.setFlags n flags).stores := by
  unfold State.setFlags
  dsimp only
  split <;> simp [h]

theorem StoresOk.loadCtx {n : Nat} {x : Hot} {flags : Byte} {reload : Bool} :
    StoresOk (s.loadCtx n x flags reload).stores := by
  unfold State.loadCtx
  extract_lets t fresh new u v w y
  have hu : StoresOk u.stores := by simp [u, t, h]
  have hw : StoresOk w.stores := by simp [w, v, hu]
  simp [y, hw]

theorem StoresOk.rekeyCtx {e : Bytes} : StoresOk (s.rekeyCtx e).stores := by
  unfold State.rekeyCtx
  dsimp only
  exact StoresOk.setHot (by simp [h])

theorem StoresOk.flowOp {op : FlowOp} : StoresOk (s.flowOp op).stores := by
  unfold State.flowOp
  split
  · exact h.addEntry
  · exact h.dropEntry
  · exact h.loadCtx
  · exact h.loadCtx
  · exact h.rekeyCtx

@[simp] theorem StoresOk.flowsCommit {tok : BitVec 32} {egress : Bool} : StoresOk (s.flowsCommit tok egress).stores :=
  foldl_storesOk (by exact h) fun _ _ h => h.flowOp

theorem StoresOk.seekAll {es : List Bytes} : StoresOk (s.seekAll es).stores :=
  foldl_storesOk h fun _ _ h => by simp [h]

theorem StoresOk.touchAll {es : List Bytes} : StoresOk (s.touchAll es).stores :=
  foldl_storesOk h fun _ _ h => h.touch

omit h in
theorem fillStep_storesOk {x : Hot} {flags : Byte} {a : State × Bool} {n : Nat} (h : StoresOk a.1.stores) :
    StoresOk (fillStep x flags a n).1.stores := by
  unfold fillStep
  dsimp only
  split
  · exact h.useHot.loadCtx
  · exact h.useHot

theorem StoresOk.fillDone {j : FillJob} : StoresOk (s.fillDone j).stores := by
  have hfold (l : List Nat) (a : State × Bool) (ha : StoresOk a.1.stores) :
      StoresOk (l.foldl (fun a i => fillStep (Hot.ofBits j.template) j.flags a (j.first + i)) a).1.stores := by
    induction l generalizing a with
    | nil => exact ha
    | cons i l ih => exact ih _ (fillStep_storesOk ha)
  unfold State.fillDone
  rw [State.cmdDone_stores]
  exact hfold _ _ h

theorem StoresOk.ctxReadWord {n w : Nat} : StoresOk (s.ctxReadWord n w).1.stores := by
  unfold State.ctxReadWord
  dsimp only
  (repeat' split) <;> simp [h]

omit h in
theorem StoresOk.ctxReadWords {s : State} (h : StoresOk s.stores) {n : Nat} {ws : List Nat} :
    StoresOk (s.ctxReadWords n ws).1.stores := by
  induction ws generalizing s with
  | nil => exact h
  | cons w ws ih =>
    unfold State.ctxReadWords
    dsimp only
    split <;> exact ih h.ctxReadWord

/-! ## Client traffic -/

@[simp] theorem StoresOk.setOvf {n : Nat} {bits : Byte} : StoresOk (s.setOvf n bits).stores := by simp [State.setOvf, h]

@[simp] theorem StoresOk.countDrop {n : Nat} {w : FlowDrop} : StoresOk (s.countDrop n w).stores := by
  unfold State.countDrop
  dsimp only
  (repeat' split) <;> simp [h]

@[simp] theorem StoresOk.countBin {n len : Nat} : StoresOk (s.countBin n len).stores := by
  unfold State.countBin
  extract_lets word a b k shift all old new bytes u v
  have hv : StoresOk v.stores := by simp [v, u, b, a, h]
  simp [hv]

@[simp] theorem StoresOk.countForward {d : Dir} {n frames octets : Nat} :
    StoresOk (s.countForward d n frames octets).stores := by
  simp [State.countForward, h]

@[simp] theorem StoresOk.countFrame {d : Dir} {n len : Nat} : StoresOk (s.countFrame d n len).stores := by
  unfold State.countFrame
  dsimp only
  split <;> simp [h]

@[simp] theorem StoresOk.dropFrame {d : Dir} {f : FlowFrame} {w : FlowDrop} {stage : Nat} :
    StoresOk (s.dropFrame d f w stage).stores := by
  simp [State.dropFrame, h]

@[simp] theorem StoresOk.shedFrame {f : FlowFrame} {cls : Nat} : StoresOk (s.shedFrame f cls).stores := by
  simp [State.shedFrame, h]

@[simp] theorem StoresOk.forwardIngress {f : FlowFrame} {cls clientLen : Nat} {out : Bytes} {sealed_ : Bool} :
    StoresOk (s.forwardIngress f cls clientLen out sealed_).stores := by
  simp [State.forwardIngress, h]

@[simp] theorem StoresOk.forwardEgress {f : FlowFrame} {out : Bytes} : StoresOk (s.forwardEgress f out).stores := by
  simp [State.forwardEgress, h]

@[simp] theorem StoresOk.suspend {n : Nat} {x : Hot} : StoresOk (s.suspend n x).stores := by simp [State.suspend, h]

@[simp] theorem StoresOk.keyAbsent {d : Dir} {f : FlowFrame} : StoresOk (s.keyAbsent d f).stores := by
  simp [State.keyAbsent, h]

@[simp] theorem StoresOk.advancePn {n : Nat} {x : Hot} : StoresOk (s.advancePn n x).stores := by
  simp [State.advancePn, h]

theorem StoresOk.sealIngress {f : FlowFrame} {x : Hot} : StoresOk (s.sealIngress f x).stores := by
  simp [State.sealIngress, h]

@[simp] theorem StoresOk.storePn {n : Nat} {x : Hot} {g : Option Grace} {pn : BitVec 64} :
    StoresOk (s.storePn n x g pn).stores := by
  unfold State.storePn
  split <;> simp [h]

theorem StoresOk.verifyEgress {f : FlowFrame} {x : Hot} : StoresOk (s.verifyEgress f x).stores := by
  unfold State.verifyEgress
  split
  · exact h.dropFrame
  · split
    · exact h.dropFrame
    · next ks next g _ =>
      extract_lets k x t window pn late u sci v w mark
      have ht : StoresOk t.stores := by simp [t, h]
      have hu : StoresOk u.stores := by simpa [u] using ht
      have hw : StoresOk w.stores := by simp [w, v, hu]
      split
      · cases g <;> simp [h]
      · split
        · exact ht.dropFrame
        · split
          · exact hu.dropFrame
          · exact StoresOk.forwardEgress (by simp [hw])

theorem StoresOk.admitFrame {d : Dir} {f : FlowFrame} : StoresOk (s.admitFrame d f).stores := by
  unfold State.admitFrame
  extract_lets t u x
  have hu : StoresOk u.stores := by simp [u, t, h]
  split
  · exact hu.dropFrame
  · split
    · exact hu.sealIngress
    · exact hu.verifyEgress

theorem StoresOk.admitNext {d : Dir} : StoresOk (s.admitNext d).stores := by
  have hserve {t : State} (ht : StoresOk t.stores) (f : FlowFrame) (b : State) (hb : StoresOk b.stores) :
      StoresOk (if t.fits d f then t.admitFrame d f else b).stores := by
    split
    · exact ht.admitFrame
    · exact hb
  unfold State.admitNext
  extract_lets q bulk
  have hbulk (t : State) (ht : StoresOk t.stores) : StoresOk (bulk t).stores := by
    dsimp only [bulk]
    split
    · exact ht
    · exact hserve ht _ _ (by simpa)
  split
  · exact hbulk s h
  · exact hserve h _ _ (hbulk _ (by simpa))

@[simp] theorem StoresOk.queueFrame {d : Dir} {f : FlowFrame} {cls : Nat} : StoresOk (s.queueFrame d f cls).stores := by
  unfold State.queueFrame
  dsimp only
  split
  · split <;> simp [h]
  · simp [h]

theorem StoresOk.bindFrame {d : Dir} {f : FlowFrame} : StoresOk (s.bindFrame d f).stores := by
  unfold State.bindFrame
  dsimp only
  (repeat' split) <;> simp [h]

theorem StoresOk.missFrame {d : Dir} {f : FlowFrame} : StoresOk (s.missFrame d f).stores := by
  simp [State.missFrame, h]

theorem StoresOk.offerFrame {d : Dir} {c : Cp} {frame : Bytes} {tag : Option TagMark} {tiles : List Nat}
    {instants : Option (BitVec 48 × Int × Int)} :
    StoresOk (s.offerFrame d c frame tag tiles instants).stores := by
  unfold State.offerFrame
  dsimp only
  split
  · simp [h]
  · split
    · exact h.findKey.bindFrame
    · exact h.findKey.missFrame

theorem StoresOk.fetchNext {d : Dir} : StoresOk (s.fetchNext d).stores := by
  unfold State.fetchNext
  split
  · exact h
  · exact foldl_storesOk (by simp [h]) fun _ _ h => h.bindFrame

theorem StoresOk.clientFrame {c : Cp} {frame : Bytes} {pcsError : Bool} {i : Option Instants} :
    StoresOk (s.clientFrame c frame pcsError i).stores := by
  unfold State.clientFrame
  dsimp only
  split
  · simp [h]
  · split
    · exact h
    · split
      · simp [h]
      · exact StoresOk.offerFrame (by simp [h])

theorem StoresOk.lineFrame {c : Cp} {frame : Bytes} {tiles : List Nat} {since entered : BitVec 48}
    {i : Option Instants} : StoresOk (s.lineFrame c frame tiles since entered i).stores := by
  unfold State.lineFrame
  extract_lets p t u tag
  have hu : StoresOk u.stores := by simp [u, t, h]
  split
  · simp [hu]
  · split
    · simp [hu]
    · exact hu.offerFrame

theorem StoresOk.shedWaiting {c : Cp} : StoresOk (s.shedWaiting c).stores :=
  foldl_storesOk (by simp [h]) fun _ _ h => by simp [h]

theorem StoresOk.clientCommit {engines : BitVec 4} {side : Option (HeldSide × Eng)} :
    StoresOk (s.clientCommit engines side).stores := by
  unfold State.clientCommit
  extract_lets cs olds t u v
  have ht : StoresOk t.stores := foldl_storesOk h fun s c h => by simpa [State.emptyPort] using h.shedWaiting
  have hv : StoresOk v.stores := by simpa [v, u] using ht
  exact foldl_storesOk hv fun s o h => by simpa

theorem StoresOk.countNative {c : Cp} {d : Dir} {octets : Nat} {shed : Bool} :
    StoresOk (s.countNative c d octets shed).stores := by
  unfold State.countNative
  (repeat' split) <;> simp [h]

/-! ## Commits -/

theorem StoresOk.shedGroup {e : Eng} : StoresOk (s.shedGroup e).stores := foldl_storesOk h fun _ _ h => h.shedWaiting

theorem StoresOk.txSide {e : Eng} {old : EngineParams} : StoresOk (s.txSide e old).stores := by
  unfold State.txSide
  extract_lets new t u
  have ht : StoresOk t.stores := by simpa [t]
  simp [u, ht, ht.shedGroup]

theorem StoresOk.txSides {es : List Eng} {old : Vector EngineParams 4} : StoresOk (s.txSides es old).stores := by
  unfold State.txSides
  rw [State.twinStep_stores]
  exact foldl_storesOk h fun _ _ h => h.txSide

theorem StoresOk.tokenTx {k : Commit} : StoresOk (s.tokenTx k).stores := by simp [State.tokenTx, h]

theorem StoresOk.tokenRx {k : Commit} : StoresOk (s.tokenRx k).stores := by simp [State.tokenRx, h]

theorem StoresOk.applyLocal {k : Commit} : StoresOk (s.applyLocal k).stores := by
  unfold State.applyLocal
  extract_lets es oldTx oldRx t u v w x y z
  have ht : StoresOk t.stores := by simpa [t]
  have hu : StoresOk u.stores := by simp [u, ht, ht.clientCommit]
  have hw : StoresOk w.stores := by simpa [w] using hu.txSides
  have hx : StoresOk x.stores := hw.tokenTx.tokenRx
  simp [z, y, hx]

theorem StoresOk.runCommit {k : Commit} : StoresOk (s.runCommit k).stores := by
  unfold State.runCommit
  extract_lets t live u
  have ht : StoresOk t.stores := by
    dsimp only [t]
    split <;> simp [h]
  simp [u, ht.applyLocal]

theorem StoresOk.takeSide {k : Commit} {e : Eng} {side : HeldSide} {first : Bool} :
    StoresOk (s.takeSide k e side first).stores := by
  have ht : StoresOk (s.takeEngine e k.classes (some side)).stores := by simpa
  unfold State.takeSide
  simp [h, ht.clientCommit]

theorem StoresOk.pairTx {k : Commit} : StoresOk (s.pairTx k).stores := by
  unfold State.pairTx
  extract_lets es old t u
  have ht : StoresOk t.stores := foldl_storesOk h fun _ _ h => h.takeSide
  simp [u, ht.txSides.tokenTx]

theorem StoresOk.pairRx {k : Commit} {e : Eng} : StoresOk (s.pairRx k e).stores := by
  unfold State.pairRx
  extract_lets old t u v
  have hu : StoresOk u.stores := by simpa [u] using h.takeSide
  simp [v, hu, hu.tokenRx]

/-! ## Native ports and delivery -/

theorem StoresOk.laneFrameRx {l : LaneNo} {c : Cp} {symbols : List (Fin 4)} {slip : Option Slip} :
    StoresOk (s.laneFrameRx l c symbols slip).stores := by
  unfold State.laneFrameRx
  extract_lets f slots sym t u r v w x y shed
  have hu : StoresOk u.stores := by simpa [u, t]
  have hx : StoresOk x.stores := by
    dsimp only [x]
    split <;> simp [w, v, hu]
  have hy : StoresOk y.stores := by simpa [y]
  split
  · simpa
  · split
    · exact hy
    · simpa using hy.countNative

theorem StoresOk.nativeOut {c : Cp} {streams : List Bytes} {carried : Bool} {t1 : BitVec 48} :
    StoresOk (s.nativeOut c streams carried t1).stores := by
  unfold State.nativeOut
  extract_lets f q ok loop streams t
  have ht : StoresOk t.stores := foldl_storesOk h fun s l h => by simp [h]
  split
  · exact ht
  · split
    · simpa
    · simpa using ht.countNative

theorem StoresOk.recordByte {c : Cp} {id : Nat} {t1 : BitVec 48} {b : Byte} :
    StoresOk (s.recordByte c id t1 b).stores := by
  have ht : StoresOk (s.touchTile c id).stores := by simpa
  unfold State.recordByte
  dsimp only
  split
  · simpa
  · split
    · simpa
    · simpa
    · split
      · exact StoresOk.lineFrame (by simpa)
      · simpa

theorem StoresOk.portTile {c : Cp} {e : Eng} {t1 : BitVec 48} {t : Bytes} : StoresOk (s.portTile c e t1 t).stores := by
  unfold State.portTile
  extract_lets ptr id u v
  have hv : StoresOk v.stores := foldl_storesOk h fun s b h => StoresOk.recordByte (by simp [h])
  simp [h, hv]

theorem StoresOk.deliverPort {e : Eng} {c : Cp} {sl : List Nat} {tiles : List Bytes} {slots : Nat} {replaced : Bool}
    {t1 : BitVec 48} : StoresOk (s.deliverPort e c sl tiles slots replaced t1).stores := by
  unfold State.deliverPort
  extract_lets streams mine t f near cls u
  have ht : StoresOk t.stores := by simpa [t]
  have hmine : StoresOk (mine.foldl (fun s t => s.portTile c e t1 t) t).stores :=
    foldl_storesOk ht fun _ _ h => h.portTile
  simp [u, ht, hmine, ht.nativeOut]

theorem StoresOk.idlePorts {e : Eng} : StoresOk (s.idlePorts e).stores := foldl_storesOk h fun _ _ h => h.nativeOut

theorem StoresOk.deliverBy {e : Eng} {p : EngineParams} {tiles : List Bytes} {replaced : Bool} {t1 : BitVec 48} :
    StoresOk (s.deliverBy e p tiles replaced t1).stores := by
  unfold State.deliverBy
  extract_lets slots replaced ones tiles mask prbs t ports used u
  have ht : StoresOk t.stores := h
  split
  · exact foldl_storesOk ht fun _ _ h => h.deliverPort
  · have hu : StoresOk u.stores := foldl_storesOk ht fun _ _ h => h.deliverPort
    exact StoresOk.idlePorts (by simpa)

theorem StoresOk.twinDeliver {low : Eng} {a b : Option TwinCopy} : StoresOk (s.twinDeliver low a b).stores := by
  unfold State.twinDeliver
  extract_lets t runs params usable lower higher sel u v
  have hv : StoresOk v.stores := by
    dsimp only [v]
    split <;> simp [u, h]
  split <;> exact hv.deliverBy

omit h in
theorem StoresOk.twinDrain {low : Eng} {n : Nat} {s : State} (h : StoresOk s.stores) :
    StoresOk (State.twinDrain low n s).stores := by
  induction n generalizing s with
  | zero => exact h
  | succ n ih =>
    unfold State.twinDrain
    dsimp only
    split
    · exact h
    · split
      · exact ih (StoresOk.twinDeliver (by simpa))
      · split <;> exact ih (StoresOk.twinDeliver (by simpa))
    · split
      · exact ih (StoresOk.twinDeliver (by simpa))
      · exact h
    · split
      · split
        · exact h
        · exact ih (by simpa)
      · split
        · exact ih (StoresOk.twinDeliver (by simpa))
        · exact h

theorem StoresOk.twinCopy {e : Eng} {fn : BitVec 32} {good : Bool} {f : RxFrame} {tiles : List Bytes} :
    StoresOk (s.twinCopy e fn good f tiles).stores := by
  unfold State.twinCopy
  dsimp only
  split
  · exact h
  · exact StoresOk.twinDrain h

theorem StoresOk.deliverFrame {e : Eng} {fn : BitVec 32} {good accepted : Bool} {f : RxFrame} {damaged : Bool}
    {tiles : List Bytes} : StoresOk (s.deliverFrame e fn good accepted f damaged tiles).stores := by
  unfold State.deliverFrame
  extract_lets x t replaced
  split
  · exact h.twinCopy
  · have ht : StoresOk t.stores := by simp [t, h, h.twinDrain]
    exact ht.deliverBy

theorem StoresOk.takeFrame {e : Eng} {f : RxFrame} : StoresOk (s.takeFrame e f).stores := by
  unfold State.takeFrame
  extract_lets d ok fn good jumped x ohcOk omitted misses now next t u accepted v w
  have hw : StoresOk w.stores := by simp [w, v, u, t, h]
  exact hw.deliverFrame

theorem StoresOk.rxSwitches {e : Eng} : StoresOk (s.rxSwitches e).stores :=
  foldl_storesOk h fun s k h => by simp [h, h.pairRx]

theorem StoresOk.frameRx {e : Eng} {f : RxFrame} : StoresOk (s.frameRx e f).stores := by
  unfold State.frameRx
  split
  · exact h
  · split
    · exact h
    · simpa
    · simp [State.syncFrame, h, h.rxSwitches, h.rxSwitches.takeFrame]

theorem StoresOk.silentFrame {e : Eng} : StoresOk (s.silentFrame e).stores := by
  have ht {f : Engine → Engine} {low : Eng} : StoresOk ((s.updEng low f).twinDeliver low none none).stores :=
    StoresOk.twinDeliver (by simpa)
  simp [State.silentFrame, State.deliverTiles, h, h.idlePorts, h.deliverBy, ht]

/-! ## The tick and the idle step -/

theorem StoresOk.tickWith {f : State → State} (hf : ∀ s, (f s).stores = s.stores) :
    StoresOk (s.tickWith f).stores := by
  unfold State.tickWith
  extract_lets t u v w x y
  have hu : StoresOk u.stores := by simpa [u, t, hf]
  have hv : StoresOk v.stores := foldl_storesOk hu fun s p h => by simp [h, h.twinDrain]
  have hx : StoresOk x.stores := foldl_storesOk hv fun _ _ h => h.silentFrame
  have hy : y.stores = x.stores := by simp [y]
  simpa [← hy] using hx

theorem StoresOk.immediateEffects : StoresOk s.immediateEffects.stores := by
  unfold State.immediateEffects
  rw [State.collectorNext_stores]
  refine foldl_storesOk h fun s x h => ?_
  unfold State.immediateEffect
  split
  · exact foldl_storesOk h fun _ _ h => h.flowOp
  · exact h.keysUsable
  · exact h.keysBoth

theorem StoresOk.atBoundary {f : State → State} (hf : ∀ s, StoresOk s.stores → StoresOk (f s).stores) :
    StoresOk (s.atBoundary f).stores := hf _ h

theorem StoresOk.atCommitBoundary {id : Nat} : StoresOk (s.atCommitBoundary id).stores :=
  h.atBoundary fun s h => by split <;> simp [h, h.runCommit]

theorem StoresOk.atPairTx {id : Nat} : StoresOk (s.atPairTx id).stores :=
  h.atBoundary fun s h => by split <;> simp [h, h.pairTx]

theorem StoresOk.pairRxDue {id : Nat} : StoresOk (s.pairRxDue id).stores :=
  foldl_storesOk h fun s e h => by split <;> simp [h, h.pairRx]

theorem StoresOk.beforeTick : StoresOk s.beforeTick.stores := by
  unfold State.beforeTick
  extract_lets t u v
  have hu : StoresOk u.stores := by simpa [u, t]
  have hv : StoresOk v.stores := foldl_storesOk hu fun _ _ h => h.atCommitBoundary.atPairTx
  exact (hv.atBoundary fun _ h => h.immediateEffects).erasePoints

theorem StoresOk.serveFlows {d : Dir} : StoresOk (s.serveFlows d).stores :=
  foldl_storesOk (foldl_storesOk h fun _ _ h => h.fetchNext) fun _ _ h => h.admitNext

theorem StoresOk.afterTick : StoresOk s.afterTick.stores := by
  unfold State.afterTick
  extract_lets t
  have ht : StoresOk t.stores := by simpa [t]
  exact ht.serveFlows.serveFlows

theorem StoresOk.discard {f : CommitForm} : StoresOk (s.discard f).stores := by
  unfold State.discard
  extract_lets t cs u v _ w x _ _ y _ _ _ z
  have ht : StoresOk t.stores := foldl_storesOk h fun s e h => by
    split
    · exact h
    · exact h
  have hw : StoresOk w.stores := by simpa [w, v, u] using ht
  have hx : StoresOk x.stores := by
    dsimp only [x]
    split
    · exact foldl_storesOk hw fun _ _ h => h.setSlot
    · exact hw
  simpa [z, y] using hx

end

end Sys2Proof.Machine
end

section
/-! Context memory and the key slots stay canonical (R325, R353): what each command makes of the two stores. -/

namespace Sys2Proof.Machine

/-! ## What commands make of the stores -/

/-- An answer's state, where it has one, holds canonical stores if `s` does. -/
abbrev Answer.KeepsStores (s : State) (a : Answer) : Prop :=
  a.Leads State.stores (fun x y => StoresOk x → StoresOk y) s

/-- A command answers a next state whose stores are canonical if those of the state before are. -/
def KeepsStores (o : Host.Outcome State Fault Refusal) (s : State) : Prop :=
  ∃ t, o = .next t ∧ (StoresOk s.stores → StoresOk t.stores)

theorem ignoresServing_stores : IgnoresServing State.stores where
  take s op r := by simp
  conclude s op r st data := by simp
  runOn s op r := by simp

theorem opcode_keepsStores {op : BitVec 16} {v : Bool} {r : Request} {s : State} {body : State → Answer}
    (h : ∀ s, (body s).KeepsStores s) : KeepsStores (opcode op v r s body) s :=
  opcode_leads ignoresServing_stores id h

theorem next_keepsStores {s t : State} (h : StoresOk s.stores → StoresOk t.stores) : KeepsStores (.next t) s :=
  ⟨t, rfl, h⟩

theorem event_keepsStores {s : State} {f : State → State} (h : ∀ s, StoresOk s.stores → StoresOk (f s).stores) :
    KeepsStores (event s f) s := by
  unfold event
  split
  · exact next_keepsStores (h s)
  · exact next_keepsStores id

theorem eventIf_keepsStores {s : State} {c : Bool} {f : State → State}
    (h : ∀ s, StoresOk s.stores → StoresOk (f s).stores) : KeepsStores (eventIf s c f) s :=
  event_keepsStores fun s hs => by
    split
    · exact h s hs
    · exact hs

theorem commitEvent_keepsStores {s : State} {id : Nat} {due : State → Commit → Bool} {act : State → Commit → State}
    (h : ∀ s k, StoresOk s.stores → StoresOk (act s k).stores) : KeepsStores (commitEvent id s due act) s :=
  event_keepsStores fun s hs => by
    split
    · split
      · exact h s _ hs
      · exact hs
    · exact hs

/-! ## Batches (R309, R325) -/

theorem unwrapAll_stores (p : Hp) (gate : KeySlot → Option Status) (es : List Bytes) (i : Nat) (s : State) :
    (s.unwrapAll p gate es i).1.stores = s.stores := by
  induction es generalizing s i with
  | nil => rfl
  | cons e es ih =>
    unfold State.unwrapAll
    dsimp only
    (repeat' split) <;> simp [ih]

theorem enact_keepsStores (r : Request) (ops : List FlowOp) {s t : State}
    (h : StoresOk s.stores → StoresOk t.stores) : (enact r t ops).KeepsStores s := by
  unfold enact
  dsimp only
  (repeat' split) <;> trivial

theorem enactLoads_keepsStores (r : Request) (op : Bytes → FlowOp) (es : List Bytes) {s t : State}
    (h : StoresOk s.stores → StoresOk t.stores) : (enactLoads r op t es).KeepsStores s := by
  unfold enactLoads
  split
  · exact h
  · exact enact_keepsStores r _ h

theorem flowBatch_keepsStores (r : Request) (s : State) (named : Bool) (check : State → Bytes → Option Status)
    (apply : State → Bytes → State) (op : Bytes → FlowOp) : (flowBatch r s named check apply op).KeepsStores s := by
  refine guards_leads _ (checkEach_leads _ _ _ (checkEach_leads _ _ _ (checkEach_leads _ _ _ (guards_leads _ ?_))))
  dsimp only
  split
  · exact fun h => h.seekAll
  · exact enact_keepsStores r _ fun h => h.seekAll

theorem ctxBatch_keepsStores {r : Request} {s : State} {size most : Nat} {bad tenant : Bytes → Bool}
    {check : State → Bytes → Option Status} {op : Bytes → FlowOp} {k : State → List Bytes → Answer}
    (hk : ∀ t es, (StoresOk s.stores → StoresOk t.stores) → (k t es).KeepsStores s) :
    (ctxBatch r s size most bad tenant check op k).KeepsStores s := by
  refine guards_leads _ (checkEach_leads _ _ _ (checkEach_leads _ _ _ (checkEach_leads _ _ _ (guards_leads _ ?_))))
  dsimp only
  split
  · exact fun h => h.touchAll
  · exact hk _ _ fun h => h.touchAll

theorem keyBatch_keepsStores {r : Request} {s : State} {early late : List (Bool × Status)}
    {gate : KeySlot → Option Status} {k : State → List (Nat × KeyValue) → Answer}
    (hk : ∀ t vs, (StoresOk s.stores → StoresOk t.stores) → (k t vs).KeepsStores s) :
    (keyBatch r s early late gate k).KeepsStores s := by
  refine guards_leads _ (checkEach_leads _ _ _ (checkEach_leads _ _ _ (guards_leads _ ?_)))
  dsimp only
  split
  · trivial
  · have h := unwrapAll_stores r.port gate (batchEntries r 68) 0 s
    split
    · exact fun hs => by rwa [h]
    · exact hk _ _ fun hs => by rwa [h]

/-! ## Resets -/

theorem storesOk_empty : StoresOk ([], []) := ⟨rfl, rfl⟩

theorem State.railsOff_keepsStores (s : State) (h : StoresOk s.stores) : StoresOk s.railsOff.stores := by
  unfold State.railsOff
  split
  · exact storesOk_empty
  · exact h

theorem acceptCommit_keepsStores (s : State) (r : Request) (f : CommitForm) : (s.acceptCommit r f).KeepsStores s := by
  unfold State.acceptCommit
  dsimp only
  split
  · exact id
  · (repeat' split) <;> simp [Answer.Leads]

theorem exec_keepsStores (c : Instr) (s : State) : KeepsStores (exec c s) s := by
  cases c with
  | portInfo | portEcho | tenancyGet | wsInfo | wsRead | sluiceStatus | txConfigRead | txStatus | rxConfigRead |
    rxStatus | rxMonitor | rxCaptureRead | calConfigRead | calStatus | calSliceRead | calRecords | fecConfigRead |
    fecStatus | profileRead | frameConfigRead | slotmapRead | frameStatus | cportRead | laneEqRead | synceRead |
    laneStatus | portStatus | flowPortRead | etypeRead | sealConfigRead | keyStatus | portkeyStatus |
    millraceStatus | ownerStatus | memConfigRead | memStatus | hwConfigRead | hwPhaseStep | hwStatus |
    hwInputStatus | tdConfigRead | tdSet | tdStatus | ptpPortRead | tpoWrite | tpoRead | captureRead | tslogRead |
    gaugeSeqRead | gaugeStatus | weirPolicyRead | weirStatus | weirSensorRead | supStatus | supRestore |
    supConfigRead | ctrConfigWrite | ctrConfigRead | ctrSnapshot | frRead | tagConfigWrite | tagLogRead |
    moduleReset | resetInfo | nvRead | nvWrite | txConfigWrite | rxConfigWrite | calConfigWrite | fecConfigWrite |
    profileWrite | frameConfigWrite | slotmapWrite | etypeWrite | cportWrite | flowPortWrite | ptpPortWrite |
    laneEqWrite | synceWrite | sealConfigWrite | hwConfigWrite | tdConfigWrite | gaugeSeqWrite | gaugeCheckWrite |
    memConfigWrite | weirPolicyWrite | supConfigWrite | ownerProvision =>
    unfold exec
    exact opcode_keepsStores fun s => guards_leads _ id
  | portConfig | portReset | txBiasHold | rxCapture | portkeyErase | gaugeCalibrate | supSwap | idChallenge |
    tenancySet | eventRead | memLogRead | lanePower | gaugeResultRead =>
    unfold exec
    refine opcode_keepsStores fun s => guards_leads _ ?_
    simp [answer, Answer.Leads, State.setTenancy, State.takeEvents]
  | rxReacquire | clientLoopback | prbsControl | rxFreeze =>
    unfold exec
    refine opcode_keepsStores fun s => guards_leads _ (guards_leads _ ?_)
    (repeat' split) <;> simp [Answer.Leads]
  | ctxFill | keyErase | portkeyLoad | gaugeInject =>
    unfold exec
    refine opcode_keepsStores fun s => guards_leads _ ?_
    dsimp only
    (repeat' split) <;> simp [Answer.Leads]
  | flowLookup =>
    unfold exec
    exact opcode_keepsStores fun s => guards_leads _ fun h => h.findKey
  | memWordRead =>
    unfold exec
    refine opcode_keepsStores fun s => guards_leads _ ?_
    dsimp only
    (repeat' split) <;> exact fun h => h.memRead
  | memInject =>
    unfold exec
    refine opcode_keepsStores fun s => guards_leads _ ?_
    dsimp only
    split
    · trivial
    · exact fun h => StoresOk.putWord (by simp [h])
  | wsFind =>
    unfold exec
    refine opcode_keepsStores fun s => guards_leads _ ?_
    split
    · trivial
    · exact id
  | ctrRead =>
    unfold exec
    refine opcode_keepsStores fun s => guards_leads _ ?_
    split
    · trivial
    · exact guards_leads _ id
  | ctrClear r =>
    unfold exec
    refine opcode_keepsStores fun s => guards_leads _ ?_
    have h (mine : Nat → Nat → Bool) : StoresOk s.stores → StoresOk (s.clearViews r.port mine).stores := by simp
    (repeat' split)
    · exact h _
    · trivial
    · exact guards_leads _ (h _)
  | sluiceCommit =>
    unfold exec
    refine opcode_keepsStores fun s => guards_leads _ ?_
    split
    · trivial
    · exact guards_leads _ (acceptCommit_keepsStores _ _ _)
  | sluiceCancel =>
    unfold exec
    refine opcode_keepsStores fun s => guards_leads _ ?_
    split
    · refine guards_leads _ ?_
      simp [Answer.Leads]
    · split
      · exact guards_leads _ trivial
      · trivial
  | sluiceDiscard =>
    unfold exec
    exact opcode_keepsStores fun s => guards_leads _ fun h => h.discard
  | flowAdd | flowDelete =>
    unfold exec
    exact opcode_keepsStores fun s => flowBatch_keepsStores _ s _ _ _ _
  | ctxLoad =>
    unfold exec
    exact opcode_keepsStores fun s => ctxBatch_keepsStores fun t es => enactLoads_keepsStores _ _ _
  | ctxReload =>
    unfold exec
    exact opcode_keepsStores fun s => guards_leads _ (ctxBatch_keepsStores fun t es => enactLoads_keepsStores _ _ _)
  | ctxRekey =>
    unfold exec
    refine opcode_keepsStores fun s => ctxBatch_keepsStores fun t es h => ?_
    split
    · exact h
    · exact enact_keepsStores _ _ h
  | keyLoad =>
    unfold exec
    exact opcode_keepsStores fun s => keyBatch_keepsStores fun t vs ht h => (ht h).loadKeys
  | keyRewrite =>
    unfold exec
    refine opcode_keepsStores fun s => ?_
    unfold keyRewriteBody
    refine keyBatch_keepsStores fun t vs ht => guards_leads _ fun h => ?_
    dsimp only
    split <;> exact foldl_storesOk (ht h) fun _ _ h => h.setSlot
  | ctxRead =>
    unfold exec
    refine opcode_keepsStores fun s => guards_leads _ ?_
    dsimp only
    split <;> exact fun h => h.ctxReadWords
  | requestPacket | replyRead | cccEntdaa | cccSetdasa | cccSetnewda | cccRstdaa | cccEnec | cccDisec | cccGetpid
    | cccGetbcr | cccGetdcr | cccGetstatus | cccGetmwl | cccGetmrl | cccSetmwl | cccSetmrl | cccEnthdr0 | cccOther
    | channelTrainingDone | channelTrainingFail | memSweepDone | ovenStable =>
    unfold exec
    exact next_keepsStores (by simp)
  | vioLoss | vioRestored | resetNAssert =>
    exact next_keepsStores id
  | tapReset | jtagBypass | jtagIdcode | jtagSamplePreload | jtagExtest | jtagClamp | jtagHighz | p3v3AuxApplied =>
    exact next_keepsStores (by split <;> exact id)
  | frameTransmit =>
    refine next_keepsStores fun h => ?_
    split
    · exact h.tickWith fun _ => rfl
    · simp [h]
  | commitBoundary =>
    exact event_keepsStores fun s h => h.atCommitBoundary
  | pairedTxSwitch =>
    exact event_keepsStores fun s h => h.atPairTx
  | pairedRxSwitch =>
    exact event_keepsStores fun s h => h.pairRxDue
  | contextFetchDone =>
    exact event_keepsStores fun s h => h.fetchNext
  | millraceAdmit =>
    exact event_keepsStores fun s h => h.admitNext
  | keyErasePoint =>
    exact event_keepsStores fun s h => h.erasePoints
  | immediateEffectBoundary =>
    exact event_keepsStores fun s h => h.atBoundary fun _ h => h.immediateEffects
  | calApply | graceExpiry | gaugeCalDone | gbConversionEnd | weirReading | voterDisagree | ctrSnapshotTick |
    shortIntervalEnd | longIntervalEnd =>
    unfold exec
    exact event_keepsStores fun s => by simp
  | ibiRepeat | lockerLocked | biasAcquired | txReady | depEnd | txQuenched | laserFault | txPowerFault | losTimer
    | lightTimer | freqEstimated | timingLock | timingLockLost | cmaConverged | carrierLockLost | rxStateTimeout |
    tapUpdate | calIntervalEnd | scSlot | portFailDetect | portFailClearTimer |
    inputQualifyTimer | inputLoss | buildOutWindowEnd | hwLockDeclared | wtrExpiry | phaseStepApply | phaseSlewEnd
    | refoutRestart | syncLossTimeout | tpoEdge | decimatorReset | gaCycleStart | gbPassTick | weirReleaseTimer |
    autoRestoreTimer | refereeWindow | supParityFault | supIllegalState | journalRecordFail | takeoverComplete |
    tileLinkFail | prbsCheckerLock | prbsCheckerRelock | ppsOutEdge | outputTimeSlewEnd | tdSetApply =>
    unfold exec
    exact eventIf_keepsStores fun s => by simp
  | clientFrameRx =>
    exact eventIf_keepsStores fun s h => h.clientFrame
  | lineEgressFrame =>
    exact eventIf_keepsStores fun s h => h.lineFrame
  | rxCaptureDone =>
    unfold exec
    refine event_keepsStores fun s => ?_
    split <;> simp
  | keyRewriteGraceEnd =>
    unfold exec execKeyRewriteGraceEnd
    refine event_keepsStores fun s h => ?_
    split
    · exact h
    · exact StoresOk.endRewrite (by exact h)
  | keyEraseDone =>
    unfold exec execKeyEraseDone
    refine event_keepsStores fun s h => ?_
    split
    · exact h
    · exact h.eraseDone
  | ctxFillDone =>
    unfold exec execCtxFillDone
    refine event_keepsStores fun s h => ?_
    split
    · exact h
    · exact h.fillDone
  | laneFrameRx =>
    unfold exec execLaneFrameRx
    refine event_keepsStores fun s h => ?_
    (repeat' split)
    · exact h
    · exact h.laneFrameRx
    · exact h
  | frameReceive =>
    unfold exec execFrameReceive
    refine event_keepsStores fun s h => ?_
    split
    · exact h
    · exact h.frameRx
  | ptpEventMessage =>
    unfold exec execPtpEventMessage
    refine eventIf_keepsStores fun s h => ?_
    dsimp only
    split
    · exact h.clientFrame
    · exact h.lineFrame
  | clientOrderedSetRx | laneAdaptDone =>
    unfold exec
    refine eventIf_keepsStores fun s => ?_
    split <;> simp
  | pilotFound | calMeasureDone | dacCalStepDone | decoderAdvance =>
    unfold exec
    refine eventIf_keepsStores fun s => ?_
    dsimp only
    (repeat' split) <;> simp
  | cdSearchPassEnd | groupHuntDone =>
    unfold exec
    refine eventIf_keepsStores fun s => ?_
    (repeat' split) <;> simp
  | eddyRead =>
    unfold exec execEddyRead
    refine eventIf_keepsStores fun s h => ?_
    rw [State.eddyAdvance_stores]
    split
    · dsimp only
      split
      · simp [h]
      · split
        · exact StoresOk.memWrite (by simp [h])
        · simp [h]
    · exact h
  | ackDeadline | responderTarget =>
    unfold exec
    exact commitEvent_keepsStores fun s k => by simp
  | ownerProvisionDone =>
    unfold exec
    refine event_keepsStores fun s => ?_
    dsimp only
    split
    · exact id
    · simp
  | mergeRetire =>
    unfold exec execMergeRetire
    refine event_keepsStores fun s h => ?_
    (repeat' split) <;> simp [h]
  | holdoverSecond =>
    show KeepsStores (execHoldoverSecond s) s
    unfold execHoldoverSecond
    split
    · exact next_keepsStores id
    · exact eventIf_keepsStores fun s => by simp
  | captureEdge | swapWindowEnd | restoreComplete =>
    unfold exec
    refine event_keepsStores fun s => ?_
    (repeat' split) <;> simp
  | nvWriteDone =>
    unfold exec
    refine event_keepsStores fun s => ?_
    split <;> simp [State.nvDone]
  | moduleReady =>
    refine next_keepsStores ?_
    split <;> simp [State.becomeReady, State.readRecords, State.readOwner]
  | powerOnTrigger =>
    refine next_keepsStores fun h => ?_
    split
    · exact storesOk_empty
    · exact h
  | supplyLoss aux =>
    refine next_keepsStores fun h => ?_
    (repeat' split)
    · exact s.railsOff_keepsStores h
    · exact h
    · exact s.railsOff_keepsStores h
    · exact h
  | hardwiredTrip =>
    refine next_keepsStores fun h => ?_
    split
    · exact s.railsOff_keepsStores h
    · exact h
  | tripLatchRelease | resetNDeassert =>
    refine next_keepsStores fun h => ?_
    dsimp only
    (repeat' split)
    · exact storesOk_empty
    · exact h
    · exact h
  | moduleResetBegin =>
    unfold exec execModuleResetBegin
    exact eventIf_keepsStores fun s _ => storesOk_empty

theorem StoresOk.readyTick {s : State} (h : StoresOk s.stores) : StoresOk s.readyTick.stores := by
  unfold State.readyTick
  split
  · exact storesOk_empty
  · exact (h.beforeTick.tickWith State.tdSetsDue_stores).afterTick

theorem StoresOk.idle {s : State} (h : StoresOk s.stores) : StoresOk s.idle.stores := by
  unfold State.idle
  simp [h, h.readyTick]

/-- Settles O59: a step executes one command, answers an unknown opcode or runs the idle period, and each of them writes
the stores through `writeAt` alone. -/
theorem storesStayCanonical : Obligations.StoresStayCanonical := by
  intro s t hs h
  have hexec {c : Instr} {u : State} (hu : u.stores = s.stores) (hc : exec c u = .next t) : t.storesOk := by
    obtain ⟨v, hv, hkeep⟩ := exec_keepsStores c u
    cases hc.symm.trans hv
    exact hkeep (hu ▸ hs)
  unfold step at h
  split at h
  next rest _ => exact hexec (u := { s with pending := rest }) rfl h
  · unfold stepIdle at h
    split at h
    next op r _ =>
      unfold stepRequest at h
      split at h
      · exact hexec (u := s.turnTo r.port) rfl h
      · obtain ⟨v, hv, hkeep⟩ : KeepsStores (opcode op true r (s.turnTo r.port) fun _ => .fail .unknownOpcode [])
            (s.turnTo r.port) := opcode_keepsStores fun _ => trivial
        cases h.symm.trans hv
        exact hkeep hs
    · cases h
      exact StoresOk.idle hs

end Sys2Proof.Machine
end

section
/-! SUPPORT. The general slots as the key store holds them: what a canonical store lists, several slots written one
after another, and what a rewrite that ends and an erase make of each slot (R325, R341, R342). -/

namespace Sys2Proof.Machine

/-! ## A canonical store and its entries -/

section
variable {α : Type} {d : α} {l : List (Nat × α)}

theorem canonAbove_le [DecidableEq α] {lo : Nat} {x : Nat × α} (h : canonAbove d lo l = true) (hx : x ∈ l) :
    lo ≤ x.1 := by
  induction l generalizing lo with
  | nil => cases hx
  | cons y ys ih =>
    simp only [canonAbove, Bool.and_eq_true, decide_eq_true_eq] at h
    obtain ⟨⟨hlo, -⟩, hys⟩ := h
    rcases List.mem_cons.mp hx with rfl | hmem
    · exact hlo
    · exact Nat.le_of_succ_le (Nat.le_trans (Nat.succ_le_succ hlo) (ih hys hmem))

theorem readAt_of_mem_above [DecidableEq α] {lo : Nat} {x : Nat × α} (h : canonAbove d lo l = true) (hx : x ∈ l) :
    readAt d l x.1 = x.2 := by
  induction l generalizing lo with
  | nil => cases hx
  | cons y ys ih =>
    simp only [canonAbove, Bool.and_eq_true, decide_eq_true_eq] at h
    obtain ⟨-, hys⟩ := h
    rcases List.mem_cons.mp hx with rfl | hmem
    · simp [readAt]
    · have hlt : y.1 + 1 ≤ x.1 := canonAbove_le hys hmem
      have hne : (x.1 == y.1) = false := by simp; omega
      simpa [readAt, hne] using ih hys hmem

/-- An entry of a canonical store is what its address reads. -/
theorem readAt_of_mem [DecidableEq α] {x : Nat × α} (h : canon d l = true) (hx : x ∈ l) : readAt d l x.1 = x.2 :=
  readAt_of_mem_above h hx

/-- What an address reads is an entry, or the default. -/
theorem mem_of_readAt_ne {a : Nat} (h : readAt d l a ≠ d) : (a, readAt d l a) ∈ l := by
  induction l with
  | nil => exact absurd rfl h
  | cons y ys ih =>
    obtain ⟨b, v⟩ := y
    by_cases hab : a = b
    · subst hab
      simp [readAt]
    · have hread : readAt d ((b, v) :: ys) a = readAt d ys a := by simp [readAt, hab]
      rw [hread] at h ⊢
      exact List.mem_cons_of_mem _ (ih h)

end

/-! ## The slots of a range -/

section
variable {s : State} {first count n : Nat} {x : Nat × KeySlot}

theorem mem_slotsIn : x ∈ s.slotsIn first count ↔ x ∈ s.keys.slots ∧ first ≤ x.1 ∧ x.1 < first + count := by
  simp [State.slotsIn, and_comm]

theorem slot_of_mem_slotsIn (hs : canon {} s.keys.slots = true) (hx : x ∈ s.slotsIn first count) : x.2 = s.slot x.1 :=
  (readAt_of_mem hs (mem_slotsIn.mp hx).1).symm

/-- A slot of a range is listed unless it is as at reset. -/
theorem mem_slotsIn_of_ne (hlo : first ≤ n) (hhi : n < first + count) (hne : s.slot n ≠ {}) :
    (n, s.slot n) ∈ s.slotsIn first count :=
  mem_slotsIn.mpr ⟨mem_of_readAt_ne hne, hlo, hhi⟩

end

/-! ## Several slots at once -/

theorem foldl_setSlot_keeps {α β : Type} (g : State → β) (hg : ∀ s n k, g (State.setSlot s n k) = g s) (n : α → Nat)
    (k : State → α → KeySlot) (l : List α) (s : State) : g (l.foldl (fun s a => s.setSlot (n a) (k s a)) s) = g s :=
  foldl_keeps g (fun s a => hg s (n a) (k s a)) l s

section
variable {g : KeySlot → KeySlot}

/-- Each listed slot, one of the slots that `f` gives, is replaced by what `g` makes of it. -/
theorem slot_foldl_setSlot_of {f : Nat → KeySlot} {l : List (Nat × KeySlot)} (hl : ∀ x ∈ l, x.2 = f x.1) {s : State}
    (hs : canon {} s.keys.slots = true) (n : Nat) :
    (l.foldl (fun s k => s.setSlot k.1 (g k.2)) s).slot n = if n ∈ l.map (·.1) then g (f n) else s.slot n := by
  induction l generalizing s with
  | nil => rfl
  | cons x xs ih =>
    obtain ⟨hx, hxs⟩ := List.forall_mem_cons.mp hl
    rw [List.foldl_cons, ih hxs (setSlot_canon s _ _ hs), List.map_cons]
    by_cases hmem : n ∈ xs.map (·.1)
    · rw [if_pos hmem, if_pos (List.mem_cons_of_mem _ hmem)]
    · rw [if_neg hmem]
      by_cases heq : n = x.1
      · rw [heq, setSlot_slot_same _ _ _ hs, hx, if_pos (List.mem_cons_self ..)]
      · rw [setSlot_slot_other _ _ heq, if_neg (by simp [heq, hmem])]

theorem slot_foldl_setSlot {s : State} {l : List (Nat × KeySlot)} (hs : canon {} s.keys.slots = true)
    (hl : ∀ x ∈ l, x.2 = s.slot x.1) (n : Nat) :
    (l.foldl (fun s k => s.setSlot k.1 (g k.2)) s).slot n = if n ∈ l.map (·.1) then g (s.slot n) else s.slot n :=
  slot_foldl_setSlot_of hl hs n

/-- Each numbered slot is replaced by what `g` makes of it, once or again. -/
theorem slot_foldl_update (hg : ∀ k, g (g k) = g k) {l : List Nat} {s : State} (hs : canon {} s.keys.slots = true)
    (n : Nat) :
    (l.foldl (fun s m => s.setSlot m (g (s.slot m))) s).slot n = if n ∈ l then g (s.slot n) else s.slot n := by
  induction l generalizing s with
  | nil => rfl
  | cons m ms ih =>
    rw [List.foldl_cons, ih (setSlot_canon s _ _ hs)]
    by_cases heq : n = m
    · rw [heq, setSlot_slot_same _ _ _ hs, hg, ite_self, if_pos (List.mem_cons_self ..)]
    · rw [setSlot_slot_other _ _ heq]
      simp [heq]

end

/-! ## What the key store makes of a slot (R341, R342) -/

/-- A slot past the dual-key period of its rewrite. -/
def KeySlot.settled (k : KeySlot) : KeySlot := { k with state := .loaded, old := none, switched := false }

/-- A slot past its erase point. -/
def KeySlot.condemned (k : KeySlot) : KeySlot :=
  { k with state := .erasing, staged := none, old := none, switched := false, waiting := false }

/-- A slot that has been zeroised. -/
def KeySlot.zeroised (k : KeySlot) : KeySlot := { gen := k.gen }

section
variable {s : State} (hs : canon {} s.keys.slots = true)
include hs

theorem endRewrite_slot (w : Rewrite) (n : Nat) : (s.endRewrite w).slot n =
    if n ∈ w.slots ∧ (s.slot n).state = .rewriting then (s.slot n).settled else s.slot n := by
  have hfold := slot_foldl_update (g := KeySlot.settled) (fun _ => rfl)
    (l := w.slots.filter fun n => (s.slot n).state == .rewriting) hs n
  simp only [List.mem_filter, beq_iff_eq] at hfold
  rw [← hfold]
  unfold State.endRewrite
  dsimp only
  split
  · rfl
  · rw [State.slot, State.raise_keys]
    rfl

theorem erasePoint_slot (j : EraseJob) (n : Nat) : (s.erasePoint j).slot n =
    if (j.first ≤ n ∧ n < j.first + j.count) ∧ (s.slot n).state ≠ .empty then (s.slot n).condemned else s.slot n := by
  have hmem : n ∈ ((s.slotsIn j.first j.count).filter fun k => k.2.state != .empty).map (·.1) ↔
      (j.first ≤ n ∧ n < j.first + j.count) ∧ (s.slot n).state ≠ .empty := by
    simp only [List.mem_map, List.mem_filter, bne_iff_ne]
    constructor
    · rintro ⟨x, ⟨hx, hstate⟩, rfl⟩
      exact ⟨(mem_slotsIn.mp hx).2, slot_of_mem_slotsIn hs hx ▸ hstate⟩
    · rintro ⟨⟨hlo, hhi⟩, hstate⟩
      exact ⟨_, ⟨mem_slotsIn_of_ne hlo hhi fun h => hstate (h ▸ rfl), hstate⟩, rfl⟩
  refine Eq.trans ?_ ((slot_foldl_setSlot (g := KeySlot.condemned) hs
    (fun x hx => slot_of_mem_slotsIn hs (List.mem_of_mem_filter hx)) n).trans (if_congr hmem rfl rfl))
  rfl

theorem eraseDone_slot (j : EraseJob) (n : Nat) : (s.eraseDone j).slot n =
    if (j.first ≤ n ∧ n < j.first + j.count) ∧ (s.slot n).state = .erasing then (s.slot n).zeroised else s.slot n := by
  have hmem : n ∈ ((s.slotsIn j.first j.count).filter fun k => k.2.state == .erasing).map (·.1) ↔
      (j.first ≤ n ∧ n < j.first + j.count) ∧ (s.slot n).state = .erasing := by
    simp only [List.mem_map, List.mem_filter, beq_iff_eq]
    constructor
    · rintro ⟨x, ⟨hx, hstate⟩, rfl⟩
      exact ⟨(mem_slotsIn.mp hx).2, slot_of_mem_slotsIn hs hx ▸ hstate⟩
    · rintro ⟨⟨hlo, hhi⟩, hstate⟩
      refine ⟨_, ⟨mem_slotsIn_of_ne hlo hhi fun h => ?_, hstate⟩, rfl⟩
      rw [h] at hstate
      cases hstate
  refine Eq.trans ?_ ((slot_foldl_setSlot (g := KeySlot.zeroised) hs
    (fun x hx => slot_of_mem_slotsIn hs (List.mem_of_mem_filter hx)) n).trans (if_congr hmem rfl rfl))
  rw [State.slot, State.eraseDone, State.cmdDone, State.raise_keys, State.raise_keys]
  rfl

end

end Sys2Proof.Machine
end

section
/-! Generations of the key slots, and the own instants of the key store (R326, R335, R341, R342). -/

namespace Sys2Proof.Machine

/-! ## Generations (R326) -/

theorem nextGen_toNat (g : BitVec 16) : (nextGen g).toNat = if g.toNat = 65535 then 1 else g.toNat + 1 := by
  have hmax : g = 0xFFFF ↔ g.toNat = 65535 := BitVec.toNat_inj.symm
  have hlt : g.toNat < 65536 := g.isLt
  simp only [nextGen, beq_iff_eq, hmax]
  split
  · rfl
  · rw [BitVec.toNat_add, Nat.mod_eq_of_lt (by simp; omega)]
    rfl

/-- A slot is read from the stores alone. -/
theorem slot_of_stores {s t : State} (h : t.stores = s.stores) (n : Nat) : t.slot n = s.slot n := by
  rw [State.slot, State.slot, show t.keys.slots = s.keys.slots from congrArg Prod.snd h]

/-- Settles O33: each operation's slots, read back from the store. -/
theorem slotGenerations : Obligations.SlotGenerations := by
  unfold Obligations.SlotGenerations
  refine fun s n v j kind hs => ⟨rfl, rfl, rfl, ?load, fun tok w hstaged => ?rewrite, ?point, ?done, nextGen_toNat⟩
  case load =>
    rw [State.loadKeys, List.foldl_cons, List.foldl_nil, setSlot_slot_same _ _ _ hs]
  case rewrite =>
    simp only [State.rewriteTx, hstaged]
    rw [slot_of_stores (State.restartCipher_stores _ _ _), setSlot_slot_same _ _ _ hs]
  case point =>
    rw [erasePoint_slot hs]
    split <;> rfl
  case done =>
    rw [eraseDone_slot hs]
    split <;> rfl

/-! ## The instants of the key store (R335, R341, R342) -/

/-- A rewrite is struck from those in their dual-key period. -/
def State.dropRewrite (s : State) (w : Rewrite) : State :=
  { s with keys := { s.keys with rewrites := s.keys.rewrites.erase w } }

theorem State.dropRewrite_endRewrite_slot {s : State} (hs : canon {} s.keys.slots = true) (w : Rewrite) (n : Nat) :
    ((s.dropRewrite w).endRewrite w).slot n =
      if n ∈ w.slots ∧ (s.slot n).state = .rewriting then (s.slot n).settled else s.slot n :=
  endRewrite_slot (s := s.dropRewrite w) hs w n

theorem State.erasePoints_of_single {s : State} {j : EraseJob} (h : s.keys.erases = [j]) (hj : j.pointed = false) :
    s.erasePoints = s.erasePoint j := by
  simp [State.erasePoints, h, hj]

theorem State.endRewrite_rewrites (s : State) (w : Rewrite) : (s.endRewrite w).keys.rewrites = s.keys.rewrites := by
  have hfold (l : List Nat) := foldl_setSlot_keeps (fun s => s.keys.rewrites) (fun _ _ _ => rfl) id
    (fun s n => (s.slot n).settled) l s
  unfold State.endRewrite
  dsimp only
  split
  · exact hfold _
  · rw [State.raise_keys]
    exact hfold _

theorem State.eraseDone_erases (s : State) (j : EraseJob) : (s.eraseDone j).keys.erases = s.keys.erases.erase j := by
  have hfold (l : List (Nat × KeySlot)) := foldl_setSlot_keeps (fun s => s.keys.erases) (fun _ _ _ => rfl) Prod.fst
    (fun _ k => k.2.zeroised) l s
  rw [State.eraseDone, State.cmdDone, State.raise_keys, State.raise_keys]
  exact congrArg (·.erase j) (hfold _)

section
variable {s : State} (hready : s.ready = true)
include hready

theorem exec_keyRewriteGraceEnd {w : Rewrite} (hw : s.keys.rewrites.find? s.graceOver = some w) :
    exec .keyRewriteGraceEnd s = .next ((s.dropRewrite w).endRewrite w) := by
  refine (show execKeyRewriteGraceEnd s = _ from event_ready hready _).trans ?_
  rw [hw]
  rfl

theorem exec_keyErasePoint {j : EraseJob} (hj : s.keys.erases = [j]) (hwait : j.pointed = false) :
    exec .keyErasePoint s = .next (s.erasePoint j) := by
  rw [← State.erasePoints_of_single hj hwait]
  exact event_ready hready _

theorem exec_keyEraseDone {j : EraseJob} (hj : s.keys.erases.find? (·.pointed) = some j) :
    exec .keyEraseDone s = .next (s.eraseDone j) := by
  refine (show execKeyEraseDone s = _ from event_ready hready _).trans ?_
  rw [hj]

theorem exec_ownerProvisionDone {d : Deferred} (agrees : Bool) (hd : s.keys.provision = some d) :
    ∃ t, exec (.ownerProvisionDone agrees) s = .next t ∧
      t.keys.owner = (if agrees then .provisioned else .faulted) ∧ t.keys.ownerKey = s.keys.ownerKey := by
  refine ⟨_, show execOwnerProvisionDone agrees s = _ from event_ready hready _, ?_⟩
  rw [hd]
  dsimp only
  rw [State.cmdDone, State.raise_keys]
  exact ⟨rfl, rfl⟩

end

/-- Settles O36: each instant does its one operation, whose slots are read back from the store. -/
theorem keyInstants : Obligations.KeyInstants := by
  unfold Obligations.KeyInstants
  refine fun s hready hs => ⟨fun w hw =>
      ⟨_, exec_keyRewriteGraceEnd hready hw, State.endRewrite_rewrites _ _, ?settles, ?others⟩,
    fun j hj hwait => ⟨_, exec_keyErasePoint hready hj hwait, ?point, ?beside⟩,
    fun j hj => ⟨_, exec_keyEraseDone hready hj, s.eraseDone_erases j, ?done⟩,
    fun d agrees => exec_ownerProvisionDone hready agrees⟩
  case settles =>
    intro n hn hstate
    rw [State.dropRewrite_endRewrite_slot hs, if_pos ⟨hn, hstate⟩]
    exact ⟨rfl, rfl, rfl⟩
  case others =>
    intro n hn
    rw [State.dropRewrite_endRewrite_slot hs, if_neg fun h => hn h.1]
  case point =>
    intro n hlo hhi hstate
    rw [erasePoint_slot hs, if_pos ⟨⟨hlo, hhi⟩, hstate⟩]
    exact ⟨rfl, rfl, rfl⟩
  case beside =>
    intro n hout
    rw [erasePoint_slot hs, if_neg (by omega)]
  case done =>
    intro n hlo hhi hstate
    rw [eraseDone_slot hs, if_pos ⟨⟨hlo, hhi⟩, hstate⟩]
    exact ⟨rfl, rfl, rfl⟩

end Sys2Proof.Machine
end

section
/-! Batches of wrapped keys: KEY_LOAD and KEY_REWRITE (R338, R339, R346). -/

namespace Sys2Proof.Machine

/-! ## Batches of keys (R325, R346) -/

/-- What unwrapping the blobs of a batch leaves alone: the keys, and what waits for the next MFC boundary. -/
theorem unwrapAll_keys (p : Hp) (gate : KeySlot → Option Status) (es : List Bytes) (i : Nat) (s : State) :
    (s.unwrapAll p gate es i).1.keys = s.keys :=
  show (s.unwrapAll p gate es i).1.offTraffic.keys = _ from unwrapAll_offTraffic p gate es i s ▸ rfl

theorem unwrapAll_immediate (p : Hp) (gate : KeySlot → Option Status) (es : List Bytes) (i : Nat) (s : State) :
    (s.unwrapAll p gate es i).1.immediate = s.immediate :=
  show (s.unwrapAll p gate es i).1.offTraffic.immediate = _ from unwrapAll_offTraffic p gate es i s ▸ rfl

/-- A batch of key blobs whose checks and unwraps all pass comes to its own effect. -/
theorem keyBatch_pass {r : Request} {s u : State} {vs : List (Nat × KeyValue)} {early late : List (Bool × Status)}
    {gate : KeySlot → Option Status} {k : State → List (Nat × KeyValue) → Answer} (hbatch : badBatch r 68 59 = false)
    (hearly : ∀ x ∈ early, x.1 = false) (hlate : ∀ x ∈ late, x.1 = false)
    (hentries : ∀ e ∈ batchEntries r 68, zeroAt e 2 2 = true ∧ s.holdsKs r.port (entrySlot e) 1 = true)
    (hdistinct : repeats entrySlot (batchEntries r 68) [] 0 = none)
    (hu : s.unwrapAll r.port gate (batchEntries r 68) 0 = (u, .ok vs)) : keyBatch r s early late gate k = k u vs := by
  have hform : ∀ e ∈ batchEntries r 68, (!zeroAt e 2 2) = false := fun e he => by simp [(hentries e he).1]
  have htenant : ∀ e ∈ batchEntries r 68, (!s.holdsKs r.port (entrySlot e) 1) = false :=
    fun e he => by simp [(hentries e he).2]
  rw [keyBatch, hbatch, guards_false, guards_pass _ _ hearly, checkEach_pass hform, checkEach_pass htenant,
    guards_pass _ _ hlate]
  simp only [hdistinct, hu]

/-! ## Staged keys (R339) -/

/-- Each key of a batch is staged in its slot, under a token. -/
def State.stageKeys (s : State) (tok : BitVec 32) (vs : List (Nat × KeyValue)) : State :=
  vs.foldl (fun s v => s.setSlot v.1 { s.slot v.1 with staged := some (tok, v.2) }) s

theorem State.stageKeys_immediate (s : State) (tok : BitVec 32) (vs : List (Nat × KeyValue)) :
    (s.stageKeys tok vs).immediate = s.immediate :=
  foldl_setSlot_keeps State.immediate (fun _ _ _ => rfl) Prod.fst _ vs s

theorem stageKeys_slot_other {tok : BitVec 32} {vs : List (Nat × KeyValue)} {n : Nat} (hn : n ∉ vs.map (·.1))
    (s : State) :
    (s.stageKeys tok vs).slot n = s.slot n := by
  induction vs generalizing s with
  | nil => rfl
  | cons v vs ih =>
    obtain ⟨hv, hvs⟩ : n ≠ v.1 ∧ n ∉ vs.map (·.1) := by simpa using hn
    exact (ih hvs _).trans (setSlot_slot_other s _ hv)

/-- A slot with a staged key is never as at reset, so that it reads back. -/
theorem setSlot_staged_slot (s : State) (n : Nat) (k : KeySlot) (x : BitVec 32 × KeyValue) :
    (s.setSlot n { k with staged := some x }).slot n = { k with staged := some x } :=
  readAt_writeAt_ne_default _ n (by simp)

/-- Staging leaves a slot's key in force and its generation alone. -/
theorem stageKeys_slot_keeps (tok : BitVec 32) (vs : List (Nat × KeyValue)) (s : State) (n : Nat) :
    ((s.stageKeys tok vs).slot n).cur = (s.slot n).cur ∧ ((s.stageKeys tok vs).slot n).gen = (s.slot n).gen := by
  induction vs generalizing s with
  | nil => exact ⟨rfl, rfl⟩
  | cons v vs ih =>
    obtain ⟨hcur, hgen⟩ := ih (s.setSlot v.1 { s.slot v.1 with staged := some (tok, v.2) })
    by_cases heq : n = v.1
    · subst heq
      rw [setSlot_staged_slot] at hcur hgen
      exact ⟨hcur, hgen⟩
    · rw [setSlot_slot_other _ _ heq] at hcur hgen
      exact ⟨hcur, hgen⟩

/-- A rewrite without a token: its keys are staged and wait for the next MFC boundary (R339). -/
def State.rewriteNow (s : State) (vs : List (Nat × KeyValue)) : State :=
  { s.stageKeys 0 vs with immediate := (s.stageKeys 0 vs).immediate ++ [.keysRewritten (vs.map (·.1))] }

/-! ## KEY_LOAD and KEY_REWRITE (R338, R339) -/

section
variable {r : Request} {s u : State} {vs : List (Nat × KeyValue)} {gate : KeySlot → Option Status}
  (hx : Executes false r s) (hbatch : badBatch r 68 59 = false)
  (hentries : ∀ e ∈ batchEntries r 68, zeroAt e 2 2 = true ∧ s.holdsKs r.port (entrySlot e) 1 = true)
  (hdistinct : repeats entrySlot (batchEntries r 68) [] 0 = none) (htoken : batchToken r = 0)
include hx hbatch hentries hdistinct htoken

theorem exec_keyLoad
    (hgate : gate = fun k => match k.state with
      | .empty => none | .erasing => some .busy | _ => some .inconsistent)
    (hu : (s.takeRequest 0x0B01 r).unwrapAll r.port gate (batchEntries r 68) 0 = (u, .ok vs)) :
    exec (.keyLoad r) s = answered 0x0B01 r .ok []
      { u.loadKeys vs with immediate := u.immediate ++ [.keysLoaded r.port (vs.map (·.1))] } := by
  subst hgate
  refine opcode_ok hx (keyBatch_pass hbatch ?_ (by simp) (by simpa using hentries) hdistinct hu)
  simp [htoken]

theorem exec_keyRewrite
    (hgate : gate = fun k => match k.state with
      | .empty => some .keyAbsent | .rewriting | .erasing => some .busy
      | .loaded => match k.staged with | some _ => some .busy | none => none)
    (hu : (s.takeRequest 0x0B02 r).unwrapAll r.port gate (batchEntries r 68) 0 = (u, .ok vs))
    (hroom : s.heldKeys + vs.length ≤ 4096) :
    exec (.keyRewrite r) s = answered 0x0B02 r .ok [] (u.rewriteNow vs) := by
  refine opcode_ok hx ?_
  have hfresh := vs.countP_le_length (p := fun v => ((s.takeRequest 0x0B02 r).slot v.1).staged.isNone)
  have hheld : (s.takeRequest 0x0B02 r).heldKeys = s.heldKeys := rfl
  have hfree : (s.takeRequest 0x0B02 r).holdsToken 9 (batchToken r) = false := by simp [State.holdsToken, htoken]
  unfold keyRewriteBody
  refine (keyBatch_pass hbatch (by simp) (by simpa using hfree) (by simpa using hentries) hdistinct
    (Eq.trans ?gates hu)).trans ((guards_pass _ _ ?room).trans ?effect)
  case gates =>
    rw [hgate, htoken]
    refine congrArg (fun g => State.unwrapAll _ r.port g _ 0) (funext fun k => ?_)
    cases k.state with
    | empty | rewriting | erasing => rfl
    | loaded =>
      cases k.staged with
      | none => rfl
      | some x => simp
  case room =>
    simp only [List.forall_mem_cons, List.not_mem_nil, false_implies, implies_true, and_true, htoken, hheld]
    exact ⟨decide_eq_false (by omega), rfl⟩
  case effect =>
    rw [htoken]
    rfl

end

/-- Settles O32: behind the checks each opcode is left with its own effect. -/
theorem keyLoadsAndRewrites : Obligations.KeyLoadsAndRewrites := by
  unfold Obligations.KeyLoadsAndRewrites
  refine fun r s u vs gate hx hbatch hentries hdistinct => ⟨exec_keyLoad hx hbatch hentries hdistinct,
    fun htoken hgate hu hroom => ⟨_, exec_keyRewrite hx hbatch hentries hdistinct htoken hgate hu hroom, ?_⟩⟩
  have hkeys := unwrapAll_keys r.port gate (batchEntries r 68) 0 (s.takeRequest 0x0B02 r)
  have himm := unwrapAll_immediate r.port gate (batchEntries r 68) 0 (s.takeRequest 0x0B02 r)
  rw [hu] at hkeys himm
  have hslot (n : Nat) : u.slot n = s.slot n := by rw [State.slot, hkeys, State.takeRequest_keys, ← State.slot]
  refine ⟨congrArg (· ++ _) ((u.stageKeys_immediate 0 vs).trans himm), fun n hn => ?_, fun n => ?_⟩
  · rw [← hslot]
    exact stageKeys_slot_other hn u
  · rw [← hslot]
    exact stageKeys_slot_keeps 0 vs u n

end Sys2Proof.Machine
end

section
/-! KEY_ERASE and KEY_STATUS (R325, R342, R347, R348). -/

namespace Sys2Proof.Machine

/-! ## Descriptors (R325) -/

@[simp] theorem kcv_length (key : Bytes) : (kcv key).length = 3 := by simp [kcv, aesEncrypt]

/-- The check value of a descriptor: that of a key which is held. -/
def heldKcv (state : Nat) (key : Bytes) : Bytes := if key.isEmpty || state == 0 then zeros 3 else kcv key

@[simp] theorem heldKcv_length (state : Nat) (key : Bytes) : (heldKcv state key).length = 3 := by
  unfold heldKcv
  split <;> simp

theorem heldKcv_eq (state : Nat) (key : Bytes) :
    heldKcv state key = if key = [] ∨ state = 0 then [0, 0, 0] else (aesEncrypt key (zeros 16)).take 3 :=
  if_congr (by simp) rfl rfl

theorem descriptor_eq (state : Nat) (staged : Bool) (key : Bytes) (usage port : Nat) (gen : BitVec 16) :
    descriptor state staged key usage port gen =
      [byte (32 * state + 16 * staged.toNat + 8 * (decide (key.length = 32)).toNat + usage), byte (64 * port)] ++
        be 2 gen ++ heldKcv state key ++ [0] := by
  have hstaged : bit staged 4 = 16 * staged.toNat := by cases staged <;> rfl
  have hlong : bit (key.length == 32) 3 = 8 * (decide (key.length = 32)).toNat := by
    by_cases h : key.length = 32 <;> simp [bit, h]
  rw [descriptor, hstaged, hlong, Nat.mul_comm state, Nat.mul_comm port]
  rfl

theorem descriptor_lays (state port usage : Nat) (staged : Bool) (key : Bytes) (gen : BitVec 16) :
    Lays (descriptor state staged key usage port gen) 8
      [(0, [byte (32 * state + 16 * staged.toNat + 8 * (decide (key.length = 32)).toNat + usage)]),
        (1, [byte (64 * port)]), (2, be 2 gen), (4, heldKcv state key), (7, [0])] :=
  lays_of_flatten (by simp [descriptor_eq]) (by simp [descriptor_eq]) (by simp [placed])

@[simp] theorem KeySlot.descriptor_length (k : KeySlot) : k.descriptor.length = 8 := (descriptor_lays ..).1

/-! ## KEY_ERASE (R342, R347) -/

/-- A pending commit holds the rewrite of a slot in a range: its staged key, or a rewrite that has begun (R342). -/
def State.eraseHeld (s : State) (first count : Nat) : Bool :=
  ((s.slotsIn first count).any fun k => match k.2.staged with | some (t, _) => s.holdsToken 9 t | none => false) ||
    s.keys.rewrites.any fun w => s.rewriteHeld w first count

theorem State.eraseHeld_iff (s : State) (first count : Nat) : s.eraseHeld first count = true ↔
    (∃ x ∈ s.slotsIn first count, ∃ t v, x.2.staged = some (t, v) ∧ s.holdsToken 9 t = true) ∨
      ∃ w ∈ s.keys.rewrites, s.rewriteHeld w first count = true := by
  have hstaged (k : KeySlot) : (match k.staged with | some (t, _) => s.holdsToken 9 t | none => false) = true ↔
      ∃ t v, k.staged = some (t, v) ∧ s.holdsToken 9 t = true := by
    cases k.staged with
    | none => simp
    | some x =>
      obtain ⟨t, v⟩ := x
      simp
  rw [State.eraseHeld, Bool.or_eq_true, List.any_eq_true, List.any_eq_true]
  exact or_congr (exists_congr fun x => and_congr_right fun _ => hstaged x.2) .rfl

/-- The job of a KEY_ERASE that waits for its erase point. -/
def eraseJob (r : Request) (first count : Nat) : EraseJob :=
  { first := first, count := count, issuer := issuerOf 0x0B03 r, pointed := false, zeroised := 0 }

/-- A job of KEY_ERASE joins those that run. -/
def State.startErase (s : State) (j : EraseJob) : State :=
  { s with keys := { s.keys with erases := s.keys.erases ++ [j] } }

/-- What KEY_ERASE of a range does behind its checks: nothing where all is empty (R347). -/
def eraseRange (r : Request) (s : State) (first count : Nat) : Answer :=
  if (s.slotsIn first count).all fun k => k.2.state == .empty then .ok .ok [] s
  else .ok .okDeferred [] (s.startErase (eraseJob r first count))

section
variable {r : Request} {s : State} {first : BitVec 16} {count : BitVec 32}

theorem keyEraseBody_eq (hflag : r.flag0 = false) (hparams : r.params = be 2 first ++ [0, 0] ++ be 4 count) :
    keyEraseBody r s = guards [
      (count.toNat == 0, .badParam),
      (first.toNat + count.toNat > 65536, .range),
      (!s.holdsKs r.port first.toNat count.toNat, .notTenant),
      (s.eraseHeld first.toNat count.toNat, .busy)] (eraseRange r s first.toNat count.toNat) := by
  have hform : badForm r 8 = false := formed_badForm ⟨hflag, by simp [hparams]⟩
  have hzero : zeroAt r.params 2 2 = true := by simp [hparams]
  have hfirst : field r.params 0 2 = first.toNat := by simp [hparams]
  have hcount : field r.params 4 4 = count.toNat := by simp [hparams]
  rw [keyEraseBody, hform, hzero, hfirst, hcount]
  rfl

section
variable (hflag : r.flag0 = false) (hparams : r.params = be 2 first ++ [0, 0] ++ be 4 count) (hcount : count ≠ 0)
  (hrange : first.toNat + count.toNat ≤ 65536) (hholds : s.holdsKs r.port first.toNat count.toNat = true)
include hflag hparams hcount hrange hholds

/-- Past form, range and tenancy a range is held by a commit, or erased. -/
theorem keyEraseBody_held : keyEraseBody r (s.takeRequest 0x0B03 r) =
    guards [(s.eraseHeld first.toNat count.toNat, .busy)]
      (eraseRange r (s.takeRequest 0x0B03 r) first.toNat count.toNat) := by
  have hpos : count.toNat ≠ 0 := fun h => hcount (BitVec.eq_of_toNat_eq h)
  exact (keyEraseBody_eq hflag hparams).trans
    (guards_pastTenancy (by simpa using hpos) (by simpa using hrange) (by simpa using hholds) _ _)

theorem keyEraseBody_free (hfree : s.eraseHeld first.toNat count.toNat = false) :
    keyEraseBody r (s.takeRequest 0x0B03 r) =
    eraseRange r (s.takeRequest 0x0B03 r) first.toNat count.toNat := by
  rw [keyEraseBody_held hflag hparams hcount hrange hholds, hfree, guards_false, guards_nil]

end

variable (hx : Executes false r s)
include hx

theorem exec_keyErase_badForm (h : r.params.length ≠ 8 ∨ zeroAt r.params 2 2 = false) :
    Fails 0x0B03 .keyErase r s .badParam := by
  refine opcode_fail hx (guards_first ?_)
  rcases h with h | h <;> simp [badForm, h]

variable (hflag : r.flag0 = false) (hparams : r.params = be 2 first ++ [0, 0] ++ be 4 count)
include hflag hparams

theorem exec_keyErase_zero (hcount : count = 0) : Fails 0x0B03 .keyErase r s .badParam := by
  refine opcode_fail hx ((keyEraseBody_eq hflag hparams).trans (guards_first ?_))
  rw [hcount]
  rfl

variable (hcount : count ≠ 0)
include hcount

theorem exec_keyErase_range (hrange : first.toNat + count.toNat > 65536) : Fails 0x0B03 .keyErase r s .range := by
  have hpos : count.toNat ≠ 0 := fun h => hcount (BitVec.eq_of_toNat_eq h)
  exact opcode_fail hx ((keyEraseBody_eq hflag hparams).trans
    (guards_second (by simpa using hpos) (decide_eq_true hrange)))

variable (hrange : first.toNat + count.toNat ≤ 65536) (hholds : s.holdsKs r.port first.toNat count.toNat = true)
include hrange hholds

theorem exec_keyErase_busy (hheld : s.eraseHeld first.toNat count.toNat = true) :
    Fails 0x0B03 .keyErase r s .busy :=
  opcode_fail hx ((keyEraseBody_held hflag hparams hcount hrange hholds).trans (guards_first hheld))

variable (hfree : s.eraseHeld first.toNat count.toNat = false)
include hfree

theorem exec_keyErase_empty (hempty : ∀ x ∈ s.slotsIn first.toNat count.toNat, x.2.state = .empty) :
    Writes 0x0B03 .keyErase r s id :=
  opcode_ok hx ((keyEraseBody_free hflag hparams hcount hrange hholds hfree).trans
    (if_pos (List.all_eq_true.mpr fun x hmem => beq_iff_eq.mpr (hempty x hmem))))

theorem exec_keyErase_starts (hsome : ∃ x ∈ s.slotsIn first.toNat count.toNat, x.2.state ≠ .empty) :
    exec (.keyErase r) s = answered 0x0B03 r .okDeferred []
      ((s.takeRequest 0x0B03 r).startErase (eraseJob r first.toNat count.toNat)) := by
  obtain ⟨x, hmem, hstate⟩ := hsome
  exact opcode_ok hx ((keyEraseBody_free hflag hparams hcount hrange hholds hfree).trans
    (if_neg fun hall => hstate (beq_iff_eq.mp (List.all_eq_true.mp hall x hmem))))

end

/-! ## KEY_STATUS (R348) -/

/-- The descriptors of a range in slot order. -/
def State.descriptors (s : State) (first count : Nat) : List Bytes :=
  (List.range count).map fun i => (s.slot (first + i)).descriptor

/-- The data of KEY_STATUS. -/
def State.statusOf (s : State) (first count : BitVec 16) : Bytes :=
  be 2 first ++ be 2 count ++ (s.descriptors first.toNat count.toNat).flatten

section
variable {s : State} {first count : BitVec 16}

theorem State.statusOf_length : (s.statusOf first count).length = 4 + 8 * count.toNat := by
  simp [State.statusOf, State.descriptors, Function.comp_def]
  omega

theorem State.statusOf_first : slice (s.statusOf first count) 0 2 = be 2 first := by
  rw [State.statusOf, List.append_assoc, slice_append_left (by simp), slice_all (by simp)]

theorem State.statusOf_count : slice (s.statusOf first count) 2 2 = be 2 count := by
  rw [State.statusOf, List.append_assoc, slice_append_right (by simp), slice_append_left (by simp)]
  exact slice_all (by simp)

theorem State.statusOf_descriptor {i : Nat} (hi : i < count.toNat) :
    slice (s.statusOf first count) (4 + 8 * i) 8 = (s.slot (first.toNat + i)).descriptor := by
  rw [State.statusOf, slice_append_right (by simp), List.length_append, be_length, be_length, Nat.add_sub_cancel_left]
  exact slice_flatten (by simp [State.descriptors]) (by simp [State.descriptors, hi])

end

section
variable {r : Request} {s : State} {first count : BitVec 16}

theorem keyStatusBody_eq (hflag : r.flag0 = false) (hparams : r.params = be 2 first ++ be 2 count) :
    keyStatusBody r s = guards [
      (count.toNat == 0, .badParam),
      (count.toNat > 509 || first.toNat + count.toNat > 65536, .range),
      (!s.holdsKs r.port first.toNat count.toNat, .notTenant)] (answer (s.statusOf first count) s) := by
  have hform : badForm r 4 = false := formed_badForm ⟨hflag, by simp [hparams]⟩
  have hfirst : field r.params 0 2 = first.toNat := by simp [hparams]
  have hcount : field r.params 2 2 = count.toNat := by simp [hparams]
  rw [keyStatusBody, hform, hfirst, hcount]
  rfl

variable (hx : Executes false r s)
include hx

theorem exec_keyStatus_badForm (h : r.params.length ≠ 4) : Fails 0x0B04 .keyStatus r s .badParam :=
  opcode_fail hx (guards_first (by simp [badForm, h]))

variable (hflag : r.flag0 = false) (hparams : r.params = be 2 first ++ be 2 count)
include hflag hparams

theorem exec_keyStatus_zero (hcount : count = 0) : Fails 0x0B04 .keyStatus r s .badParam := by
  refine opcode_fail hx ((keyStatusBody_eq hflag hparams).trans (guards_first ?_))
  rw [hcount]
  rfl

variable (hcount : count ≠ 0)
include hcount

theorem exec_keyStatus_range (hrange : count.toNat > 509 ∨ first.toNat + count.toNat > 65536) :
    Fails 0x0B04 .keyStatus r s .range := by
  have hpos : count.toNat ≠ 0 := fun h => hcount (BitVec.eq_of_toNat_eq h)
  exact opcode_fail hx ((keyStatusBody_eq hflag hparams).trans
    (guards_second (by simpa using hpos) (by simpa using hrange)))

theorem exec_keyStatus (hmost : count.toNat ≤ 509) (hrange : first.toNat + count.toNat ≤ 65536)
    (hholds : s.holdsKs r.port first.toNat count.toNat = true) :
    Reads 0x0B04 .keyStatus r s fun _ => s.statusOf first count := by
  have hpos : count.toNat ≠ 0 := fun h => hcount (BitVec.eq_of_toNat_eq h)
  exact opcode_ok hx ((keyStatusBody_eq hflag hparams).trans
    (guards_pastTenancy (by simpa using hpos) (by simp [hmost, hrange]) (by simpa using hholds) _ _))

end

/-- Settles O34: the checks of each opcode in their order, and what it does behind them. -/
theorem keyErasesAndStatus : Obligations.KeyErasesAndStatus := by
  unfold Obligations.KeyErasesAndStatus
  refine ⟨fun r s first count hx hflag hp => ⟨exec_keyErase_zero hx hflag hp, exec_keyErase_range hx hflag hp,
      fun hcount hrange hholds hstaged hrewrites => ?free,
      fun hcount hrange hholds hheld => exec_keyErase_busy hx hflag hp hcount hrange hholds
        ((s.eraseHeld_iff _ _).mpr hheld)⟩,
    fun r s first count hx hflag hp => ⟨exec_keyStatus_zero hx hflag hp, exec_keyStatus_range hx hflag hp,
      fun hcount hmost hrange hholds => ⟨_, exec_keyStatus hx hflag hp hcount hmost hrange hholds,
        State.statusOf_length, State.statusOf_first, State.statusOf_count, fun _ => State.statusOf_descriptor⟩⟩,
    fun r s hx => ⟨exec_keyErase_badForm hx, exec_keyStatus_badForm hx⟩,
    fun state port usage staged key gen _ _ _ => ?layout⟩
  case free =>
    have hfree : s.eraseHeld first.toNat count.toNat = false := by
      rw [← Bool.not_eq_true, s.eraseHeld_iff]
      rintro (⟨x, hx, t, v, hsome, htoken⟩ | ⟨w, hw, hheld⟩)
      · exact Bool.false_ne_true ((hstaged x hx t v hsome).symm.trans htoken)
      · exact Bool.false_ne_true ((hrewrites w hw).symm.trans hheld)
    exact ⟨exec_keyErase_empty hx hflag hp hcount hrange hholds hfree, fun hsome =>
      ⟨eraseJob r first.toNat count.toNat, rfl, rfl, rfl,
        exec_keyErase_starts hx hflag hp hcount hrange hholds hfree hsome⟩⟩
  case layout =>
    rw [← heldKcv_eq]
    exact descriptor_lays state port usage staged key gen

end Sys2Proof.Machine
end

section
/-! Port keys, the owner key and the identity challenge (R333 to R337, R349 to R351). -/

namespace Sys2Proof.Machine

/-! ## Loading a port key (R330, R333, R349) -/

@[simp] theorem deriveWork_ports (s : State) (label : Bytes) : (s.deriveWork label).ports = s.ports := by
  simp [State.deriveWork, State.cmacWork]
@[simp] theorem deriveWork_port (s : State) (label : Bytes) (p : Hp) : (s.deriveWork label).port p = s.port p := by
  simp [State.port]
@[simp] theorem deriveWork_keys (s : State) (label : Bytes) : (s.deriveWork label).keys = s.keys := by
  simp [State.deriveWork, State.cmacWork]

/-- A blob that unwraps leaves its port's count of failures at zero, behind the work that derives its key (R330,
R336). -/
theorem unwrap_ok_state {s u : State} {p : Hp} {kind : Byte} {v : KeyValue} {slot : Nat} {gen : BitVec 16}
    {blob : Bytes} (h : s.unwrap p kind slot gen blob = (u, .ok v)) :
    u = (if kind == 2 then s.deriveWork labelWrap else s).updPort p fun q => { q with unwrapFails := 0 } := by
  unfold State.unwrap at h
  dsimp only at h
  generalize (if kind == 2 then s.deriveWork labelWrap else s) = t at h ⊢
  (repeat' split at h) <;> cases h
  rfl

section
variable (s : State) (p : Hp) (key : Bytes)

@[simp] theorem takePortKey_keys (kind : Byte) : (s.takePortKey p kind key).keys = s.keys := by
  simp [State.takePortKey]

theorem takePortKey_cak :
    ((s.takePortKey p 3 key).port p).cak = { key := some key, gen := nextGen (s.port p).cak.gen } ∧
    ((s.takePortKey p 3 key).port p).sessionStart = s.moduleTime ∧ ((s.takePortKey p 3 key).port p).wrap = 0 ∧
    ((s.takePortKey p 3 key).port p).kek = (s.port p).kek := by
  simp [State.takePortKey]

theorem takePortKey_kek :
    ((s.takePortKey p 2 key).port p).kek = { key := some key, gen := nextGen (s.port p).kek.gen } ∧
    ((s.takePortKey p 2 key).port p).sessionStart = (s.port p).sessionStart ∧
    ((s.takePortKey p 2 key).port p).cak = (s.port p).cak := by
  simp [State.takePortKey]

end

section
variable {r : Request} {s u : State} {v : KeyValue} (hx : Executes false r s) (hform : Formed r 68)
  (hzero : zeroAt r.params 1 3 = true)
include hx hform hzero

theorem exec_portkeyLoad_cak (hkind : u8 r.params 0 = 3)
    (hu : (s.takeRequest 0x0B05 r).unwrap r.port 3 0 (nextGen (s.port r.port).cak.gen) (slice r.params 4 64) =
      (u, .ok v)) : exec (.portkeyLoad r) s = answered 0x0B05 r .ok [] (u.takePortKey r.port 3 v.key) := by
  refine opcode_ok hx ?_
  rw [portkeyLoadBody, hkind, formed_badForm hform, hzero]
  refine (guards_pass _ _ (by simp)).trans ?_
  simp only [show ((3 : Byte) == 2) = false from rfl, Bool.false_eq_true, if_false, takeRequest_cak, hu]

theorem exec_portkeyLoad_kek (hkind : u8 r.params 0 = 2)
    (hu : (s.takeRequest 0x0B05 r).unwrap r.port 2 0 (nextGen (s.port r.port).kek.gen) (slice r.params 4 64) =
      (u, .ok v)) : exec (.portkeyLoad r) s = answered 0x0B05 r .ok [] (u.takePortKey r.port 2 v.key) := by
  refine opcode_ok hx ?_
  rw [portkeyLoadBody, hkind, formed_badForm hform, hzero]
  refine (guards_pass _ _ (by simp)).trans ?_
  simp only [show ((2 : Byte) == 2) = true from rfl, if_true, takeRequest_kek, hu]

end

/-! ## Erasing port keys (R333, R349) -/

section
variable (s : State) (p : Hp) (kek cak : Bool)

theorem erasePortKeys_kek : ((s.erasePortKeys p kek cak).port p).kek =
    if kek && (s.port p).kek.key.isSome then { (s.port p).kek with key := none } else (s.port p).kek := by
  unfold State.erasePortKeys
  dsimp only
  split <;> simp

theorem erasePortKeys_cak : ((s.erasePortKeys p kek cak).port p).cak =
    if cak && (s.port p).cak.key.isSome then { (s.port p).cak with key := none } else (s.port p).cak := by
  unfold State.erasePortKeys
  dsimp only
  split <;> simp

theorem erasePortKeys_authReq : ((s.erasePortKeys p kek cak).port p).authReq =
    ((s.port p).authReq && !(cak && (s.port p).cak.key.isSome)) := by
  unfold State.erasePortKeys
  dsimp only
  split <;> simp

end

/-- A port key without its key: erased, or absent before. -/
theorem PortKey.erased_key (k : PortKey) : (if k.key.isSome then { k with key := none } else k).key = none := by
  cases h : k.key <;> simp [h]

theorem exec_portkeyErase {r : Request} {s : State} (hx : Executes false r s) (hflag : r.flag0 = false) (mask : Fin 4)
    (hparams : r.params = [byte mask.val, 0, 0, 0]) :
    exec (.portkeyErase r) s = answered 0x0B06 r .ok []
      ((s.takeRequest 0x0B06 r).erasePortKeys r.port (mask.val % 2 == 1) (mask.val / 2 == 1)) := by
  have hform : badForm r 4 = false := formed_badForm ⟨hflag, by simp [hparams]⟩
  have hzero : zeroAt r.params 1 3 = true := by simp [hparams]
  have hmask : u8 r.params 0 = byte mask.val := by simp [u8, hparams]
  have hmost : (byte mask.val).toNat ≤ 3 := by
    rw [byte_toNat_of_lt (by omega)]
    omega
  have hbits : ∀ m : Fin 4, (byte m.val).getLsbD 0 = (m.val % 2 == 1) ∧
      (byte m.val).getLsbD 1 = (m.val / 2 == 1) := by decide
  obtain ⟨hkek, hcak⟩ := hbits mask
  refine opcode_ok hx ?_
  rw [portkeyEraseBody, hmask, hkek, hcak]
  exact guards_pass _ _ (by simp [hform, hzero, hmost])

/-! ## Status of the keys (R349, R350, R351) -/

section
variable {r : Request} {s : State}

theorem exec_portkeyStatus {p : Hp} (hx : Executes false r s) (hflag : r.flag0 = false)
    (hport : r.port = 0 ∨ r.port = p) (hparams : r.params = [byte p.val, 0, 0, 0]) :
    Reads 0x0B07 .portkeyStatus r s fun s => (s.port p).kek.descriptor ++ (s.port p).cak.descriptor := by
  have hform : badForm r 4 = false := formed_badForm ⟨hflag, by simp [hparams]⟩
  have hzero : zeroAt r.params 1 3 = true := by simp [hparams]
  have hnamed : field r.params 0 1 = p.val := by
    rw [hparams, field_cons_zero, byte_toNat_of_lt (by omega)]
  have hother := namesOther_eq_false hnamed hport
  rw [namesOther, hnamed] at hother
  have hmost : ¬ p.val > 3 := by omega
  refine opcode_ok hx ?_
  rw [portkeyStatusBody, hnamed, hother, hform, hzero, decide_eq_false hmost, Bool.and_false, finOfNat_val]
  rfl

theorem bankBlocks_lays (a b : Bank) (rewriting staged retries : Nat) :
    Lays (bankBlock a rewriting 0 ++ bankBlock b staged retries) 32
      [(0, be 2 (sat 16 a.express.length)), (2, be 2 (sat 16 a.bulk.length)), (4, be 2 (sat 16 a.peak)),
       (6, be 2 (sat 16 rewriting)), (8, be 4 (sat 32 a.stalls)), (12, [0, 0, 0, 0]),
       (16, be 2 (sat 16 b.express.length)), (18, be 2 (sat 16 b.bulk.length)), (20, be 2 (sat 16 b.peak)),
       (22, be 2 (sat 16 staged)), (24, be 4 (sat 32 b.stalls)), (28, be 4 (sat 32 retries))] := by
  have hzero : be 4 (sat 32 0) = [0, 0, 0, 0] := rfl
  exact lays_of_flatten (by simp [bankBlock, hzero]) (by simp [bankBlock]) (by simp [placed])

theorem exec_millraceStatus (hx : Executes false r s) (hflag : r.flag0 = false) (hparams : r.params = []) :
    Reads 0x0B08 .millraceStatus r s fun _ =>
      bankBlock s.flows.ingress.bank (s.keys.slots.countP fun k => k.2.state == .rewriting) 0 ++
        bankBlock s.flows.egress.bank s.stagedKeys s.flows.egress.bank.retries :=
  opcode_ok hx (by rw [millraceStatusBody, formed_nil hflag hparams]; rfl)

/-- The check value in OWNER_STATUS: that of a provisioned owner key (R351). -/
def State.ownerKcv (s : State) : Bytes :=
  if s.keys.owner == .provisioned then (aesEncrypt s.keys.ownerKey (zeros 16)).take 4 else zeros 4

theorem exec_ownerStatus (hx : Executes true r s) (hflag : r.flag0 = false) (hparams : r.params = []) :
    Reads 0x1321 .ownerStatus r s fun _ => [ownerCode s.keys.owner, 0, 0, 0] ++ s.ownerKcv :=
  opcode_ok hx (by rw [ownerStatusBody, formed_nil hflag hparams]; rfl)

/-! ## The owner key (R335, R337) -/

/-- Provisioning starts: the key is taken, and read-back is still to come (R335). -/
def State.startProvision (s : State) (r : Request) : State :=
  { s with keys := { s.keys with owner := .provisioning, ownerKey := r.params, provision := some (issuerOf 0x1320 r) } }

theorem exec_ownerProvision (hx : Executes false r s) (hform : Formed r 32) (hport : r.port = 0)
    (howner : s.keys.owner = .unprovisioned) :
    exec (.ownerProvision r) s =
      answered 0x1320 r .okDeferred [] ((s.takeRequest 0x1320 r).startProvision r) :=
  opcode_ok hx (guards_pass _ _ (by simp [notPrincipal, hport, formed_badForm hform, howner]))

/-- The identity in a reply to ID_CHALLENGE: serial number, manufacturer and variant (R72, R337). -/
def State.identity (s : State) : Bytes := s.ident.serial ++ be 2 mfr ++ be 2 (variantCode s.ident.variant)

/-- TAG of ID_CHALLENGE, under the key derived for identity (R336, R337). -/
def State.idTag (s : State) (r : Request) : Bytes :=
  cmac (deriveKey s.keys.ownerKey labelId) ([0x49] ++ r.params ++ s.identity ++ [byte r.port.val])

@[simp] theorem cmac_length (key msg : Bytes) : (cmac key msg).length = 16 := by simp [cmac, aesEncrypt]

theorem identity_lays (hserial : s.ident.serial.length = 16) :
    Lays (s.identity ++ zeros 4 ++ s.idTag r) 40
      [(0, s.ident.serial), (16, [0x0E, 0x57]), (18, be 2 (variantCode s.ident.variant)), (20, [0, 0, 0, 0]),
       (24, s.idTag r)] := by
  have hmfr : be 2 mfr = [0x0E, 0x57] := rfl
  have hzeros : zeros 4 = [0, 0, 0, 0] := rfl
  exact lays_of_flatten (by simp [State.identity, hmfr, hzeros]) (by simp [State.identity, State.idTag, hserial])
    (by simp [placed, hserial])

variable (hx : Executes true r s) (hform : Formed r 16)
include hx hform

theorem exec_idChallenge_absent (howner : s.keys.owner ≠ .provisioned) : Fails 0x1322 .idChallenge r s .keyAbsent :=
  opcode_fail hx (guards_second (formed_badForm hform) (by simpa using howner))

theorem exec_idChallenge (howner : s.keys.owner = .provisioned) :
    exec (.idChallenge r) s = answered 0x1322 r .ok (s.identity ++ zeros 4 ++ s.idTag r)
      (((s.takeRequest 0x1322 r).deriveWork labelId).cmacWork (deriveKey s.keys.ownerKey labelId) 38) :=
  opcode_ok hx (guards_pass _ _ (by simp [formed_badForm hform, howner]))

end

/-- Settles O35: each opcode's checks pass down to its own effect or data. -/
theorem portOwnerAndIdentityKeys : Obligations.PortOwnerAndIdentityKeys := by
  unfold Obligations.PortOwnerAndIdentityKeys
  refine ⟨fun r s hflag => ⟨fun hx u v hform hzero hkind hu => ?cak, fun hx u v hform hzero hkind hu => ?kek,
      fun hx mask hparams => ⟨_, exec_portkeyErase hx hflag mask hparams, ?erase⟩,
      fun hx p hport hparams => exec_portkeyStatus hx hflag hport hparams, ?millrace,
      fun hx hport hlen howner => ⟨_, exec_ownerProvision hx ⟨hflag, hlen⟩ hport howner, rfl, rfl, rfl⟩,
      fun hx hparams => ⟨_, exec_ownerStatus hx hflag hparams, fun h => if_neg (by simpa using h),
        fun h => if_pos (by simpa using h)⟩⟩,
    fun r s hx hform hserial => ⟨exec_idChallenge_absent hx hform,
      fun howner => ⟨_, exec_idChallenge hx hform howner, ?tag⟩⟩⟩
  case cak =>
    obtain ⟨hkey, hstart, hwrap, hkek⟩ := takePortKey_cak u r.port v.key
    refine ⟨_, exec_portkeyLoad_cak hx hform hzero hkind hu, ?_⟩
    rw [hkey, hstart, hwrap, hkek, takePortKey_keys, unwrap_ok_state hu]
    simp
  case kek =>
    obtain ⟨hkey, hstart, hcak⟩ := takePortKey_kek u r.port v.key
    refine ⟨_, exec_portkeyLoad_kek hx hform hzero hkind hu, ?_⟩
    rw [hkey, hstart, hcak, takePortKey_keys, unwrap_ok_state hu]
    simp
  case erase =>
    simp only [erasePortKeys_cak, erasePortKeys_kek, erasePortKeys_authReq, takeRequest_cak, takeRequest_kek,
      takeRequest_authReq]
    refine ⟨fun h => ⟨?_, fun hkey => ?_⟩, fun h => ?_, fun h => ?_, ?_⟩
    · rw [h]
      exact (s.port r.port).cak.erased_key
    · simp [h, Option.isSome_iff_ne_none.mpr hkey]
    · rw [h]
      exact (s.port r.port).kek.erased_key
    · simp [h]
    · split <;> rfl
  case millrace =>
    rintro hx hparams a b rfl rfl
    exact ⟨_, exec_millraceStatus hx hflag hparams, bankBlocks_lays ..⟩
  case tag =>
    have htag : s.idTag r = cmac (deriveKey s.keys.ownerKey labelId) ([0x49] ++ r.params ++ s.ident.serial ++
        [0x0E, 0x57] ++ be 2 (variantCode s.ident.variant) ++ [byte r.port.val]) := by
      have hmfr : be 2 mfr = [0x0E, 0x57] := rfl
      simp [State.idTag, State.identity, hmfr]
    rw [← htag]
    exact identity_lays hserial

end Sys2Proof.Machine
end

section
/-! The check code at work (R356 to R358): which bits a word has inverted, what their columns come to, and what a read
of a word with one or two inverted bits finds. -/

namespace Sys2Proof.Machine

/-! ## The bits set in a vector -/

/-- The places of the bits set, lowest first. -/
def setBits {w : Nat} (v : BitVec w) : List Nat := (List.range w).filter v.getLsbD

section
variable {w : Nat} {v : BitVec w} {i j : Nat}

theorem mem_setBits : i ∈ setBits v ↔ i < w ∧ v.getLsbD i = true := by simp [setBits]

theorem setBits_nodup (v : BitVec w) : (setBits v).Nodup := List.nodup_range.filter _

theorem popcount_eq_length (v : BitVec w) : popcount v = (setBits v).length := List.countP_eq_length_filter

theorem timesColumns_eq_foldl (l : List (BitVec 16)) (v : BitVec w) :
    timesColumns l v = (setBits v).foldl (fun a i => a ^^^ l.getD i 0) 0 := by
  rw [timesColumns, setBits, List.foldl_filter]

theorem exists_setBits_of_popcount_one (h : popcount v = 1) : ∃ i, i < w ∧ setBits v = [i] := by
  rw [popcount_eq_length] at h
  obtain ⟨i, hi⟩ := List.length_eq_one_iff.mp h
  exact ⟨i, (mem_setBits.mp (hi ▸ List.mem_singleton_self i)).1, hi⟩

theorem exists_setBits_of_popcount_two (h : popcount v = 2) :
    ∃ i j, i < w ∧ j < w ∧ i ≠ j ∧ setBits v = [i, j] := by
  rw [popcount_eq_length] at h
  obtain ⟨i, j, hij⟩ := List.length_eq_two.mp h
  have hne : i ≠ j := by
    have hnodup := setBits_nodup v
    simpa [hij] using hnodup
  have hi : i ∈ setBits v := by simp [hij]
  have hj : j ∈ setBits v := by simp [hij]
  exact ⟨i, j, (mem_setBits.mp hi).1, (mem_setBits.mp hj).1, hne, hij⟩

/-- The weight of a sum is even exactly when the weights are both even or both odd. -/
theorem popcount_xor (x y : BitVec w) : popcount (x ^^^ y) % 2 = (popcount x + popcount y) % 2 := by
  unfold popcount
  induction List.range w with
  | nil => rfl
  | cons i l ih =>
    simp only [List.countP_cons, BitVec.getLsbD_xor]
    cases x.getLsbD i <;> cases y.getLsbD i <;> simp <;> omega

end

/-! ## The columns of the module's code (R356) -/

theorem distinct_iff_nodup (l : List (BitVec 16)) : distinct l = true ↔ l.Nodup := by
  induction l with
  | nil => simp [distinct]
  | cons x xs ih => simp [distinct, ih]

theorem moduleCode_columns_length : moduleCode.columns.length = 144 := by
  have hok := moduleCode_ok
  simp only [CheckCode.ok, Bool.and_eq_true] at hok
  obtain ⟨⟨⟨⟨⟨⟨⟨hdata, -⟩, -⟩, -⟩, -⟩, -⟩, -⟩, -⟩ := hok
  have hlen : moduleCode.data.length = 128 := by simpa using hdata
  simp [CheckCode.columns, hlen]

theorem moduleCode_columns_nodup : moduleCode.columns.Nodup := by
  have hok := moduleCode_ok
  simp only [CheckCode.ok, Bool.and_eq_true, distinct_iff_nodup] at hok
  obtain ⟨⟨⟨⟨⟨-, hnodup⟩, -⟩, -⟩, -⟩, -⟩ := hok
  exact hnodup

/-- Every column is of odd weight and not F, and F is no sum of two columns. -/
theorem moduleCode_columns_spec {x : BitVec 16} (hx : x ∈ moduleCode.columns) :
    popcount x % 2 = 1 ∧ x ≠ freshSyndrome ∧ x ^^^ freshSyndrome ∉ moduleCode.columns := by
  have hok := moduleCode_ok
  simp only [CheckCode.ok, Bool.and_eq_true, List.all_eq_true] at hok
  obtain ⟨⟨⟨⟨⟨⟨-, hodd⟩, -⟩, -⟩, -⟩, hfresh⟩, -⟩ := hok
  exact ⟨by simpa using hodd x hx, by simpa using hfresh x hx⟩

/-- The column of one code bit. -/
def columnOf (i : Nat) : BitVec 16 := moduleCode.columns.getD i 0

section
variable {i j : Nat}

theorem columnOf_eq (hi : i < moduleCode.columns.length) : columnOf i = moduleCode.columns[i] := by
  simp [columnOf, hi]

theorem columnOf_mem (hi : i < 144) : columnOf i ∈ moduleCode.columns := by
  rw [columnOf_eq (hi.trans_eq moduleCode_columns_length.symm)]
  exact List.getElem_mem _

theorem columnOf_inj (hi : i < 144) (hj : j < 144) : columnOf i = columnOf j ↔ i = j := by
  rw [← moduleCode_columns_length] at hi hj
  rw [columnOf_eq hi, columnOf_eq hj]
  exact moduleCode_columns_nodup.getElem_inj_iff

theorem columnAt_columnOf (hi : i < 144) : columnAt (columnOf i) = some i := by
  have hlen := moduleCode_columns_length
  refine List.findIdx?_eq_some_iff_getElem.mpr ⟨by omega, by rw [← columnOf_eq, beq_self_eq_true], fun j hj => ?_⟩
  rw [← columnOf_eq, beq_iff_eq, columnOf_inj (by omega) hi]
  omega

/-- A sum of even weight is no column. -/
theorem columnAt_of_even {x : BitVec 16} (h : popcount x % 2 = 0) : columnAt x = none := by
  refine List.findIdx?_eq_none_iff.mpr fun y hy => ?_
  obtain ⟨hodd, -⟩ := moduleCode_columns_spec hy
  have hne : y ≠ x := by
    rintro rfl
    omega
  simpa using hne

theorem columnOf_ne_zero (hi : i < 144) : columnOf i ≠ 0 := by
  intro h
  obtain ⟨hodd, -⟩ := moduleCode_columns_spec (columnOf_mem hi)
  rw [h] at hodd
  exact absurd hodd (by decide)

theorem columnOf_ne_fresh (hi : i < 144) : columnOf i ≠ freshSyndrome := by
  obtain ⟨-, hne, -⟩ := moduleCode_columns_spec (columnOf_mem hi)
  exact hne

/-- Two different columns come neither to 0 nor to F, and their sum is of even weight. -/
theorem columnOf_pair (hi : i < 144) (hj : j < 144) (hij : i ≠ j) :
    columnOf i ^^^ columnOf j ≠ 0 ∧ columnOf i ^^^ columnOf j ≠ freshSyndrome ∧
    popcount (columnOf i ^^^ columnOf j) % 2 = 0 := by
  obtain ⟨hodd, -, hnot⟩ := moduleCode_columns_spec (columnOf_mem hi)
  obtain ⟨hodd', -⟩ := moduleCode_columns_spec (columnOf_mem hj)
  refine ⟨fun h => ?_, fun h => ?_, ?_⟩
  · exact hij ((columnOf_inj hi hj).mp (BitVec.xor_eq_zero_iff.mp h))
  · rw [← h, ← BitVec.xor_assoc, BitVec.xor_self, BitVec.zero_xor] at hnot
    exact hnot (columnOf_mem hj)
  · rw [popcount_xor]
    omega

end

/-! ## Reads of a word with inverted bits (R358) -/

section
variable {d : BitVec 128} {flips : BitVec 144} {i j : Nat}

theorem syndrome_flips (d : BitVec 128) (flips : BitVec 144) :
    ({ kind := .data, data := d, flips := flips } : MemWord).syndrome =
      (setBits flips).foldl (fun a i => a ^^^ columnOf i) 0 := by
  have haddress : timesColumns moduleCode.address (0 : BitVec 23) = 0 := timesColumns_zero _
  simp only [MemWord.syndrome, haddress, timesColumns_eq_foldl, columnOf]
  simp

theorem syndrome_one (h : setBits flips = [i]) :
    ({ kind := .data, data := d, flips := flips } : MemWord).syndrome = columnOf i := by
  rw [syndrome_flips, h]
  simp

theorem syndrome_two (h : setBits flips = [i, j]) :
    ({ kind := .data, data := d, flips := flips } : MemWord).syndrome = columnOf i ^^^ columnOf j := by
  rw [syndrome_flips, h]
  simp

theorem getLsbD_of_setBits_singleton (h : setBits flips = [i]) {k : Nat} (hk : k < 144) :
    flips.getLsbD k = decide (k = i) := by
  have hmem : k ∈ setBits flips ↔ k = i := by rw [h, List.mem_singleton]
  rw [Bool.eq_iff_iff, decide_eq_true_iff, ← hmem, mem_setBits]
  exact ⟨fun hset => ⟨hk, hset⟩, And.right⟩

/-- Inverting the one inverted bit again gives what was written; check bits leave the data. -/
theorem invertBit_stored (h : setBits flips = [i]) :
    invertBit ({ kind := .data, data := d, flips := flips } : MemWord).stored i = d := by
  have hflips : flips.setWidth 128 = ((1 <<< i : Nat) : BitVec 128) := by
    refine BitVec.eq_of_getLsbD_eq fun k hk => ?_
    rw [BitVec.getLsbD_setWidth, getLsbD_of_setBits_singleton h (by omega), BitVec.natCast_eq_ofNat,
      BitVec.getLsbD_ofNat, Nat.one_shiftLeft, Nat.testBit_two_pow]
    simp [hk, eq_comm]
  rw [invertBit, MemWord.stored, hflips, BitVec.xor_assoc, BitVec.xor_self, BitVec.xor_zero]
  rfl

/-- Any single-bit error of an ordinary word is corrected (R358). -/
theorem read_one_flip (h : popcount flips = 1) : ∃ syn : BitVec 16,
    ({ kind := .data, data := d, flips := flips } : MemWord).read =
      { cls := .corrected, data := d, syndrome := syn } := by
  obtain ⟨i, hi, hbits⟩ := exists_setBits_of_popcount_one h
  refine ⟨columnOf i, ?_⟩
  rw [MemWord.read, syndrome_one hbits, if_neg (columnOf_ne_zero hi), if_neg (columnOf_ne_fresh hi),
    columnAt_columnOf hi]
  dsimp only
  rw [invertBit_stored hbits]

/-- Any double-bit error of an ordinary word is UNCORRECTABLE (R358). -/
theorem read_two_flips (h : popcount flips = 2) :
    ({ kind := .data, data := d, flips := flips } : MemWord).read.cls = .uncorrectable := by
  obtain ⟨i, j, hi, hj, hij, hbits⟩ := exists_setBits_of_popcount_two h
  obtain ⟨hzero, hfresh, heven⟩ := columnOf_pair hi hj hij
  have hforced : popcount (columnOf i ^^^ columnOf j ^^^ freshSyndrome) % 2 = 0 := by
    have hF : popcount freshSyndrome = 16 := by decide
    rw [popcount_xor]
    omega
  rw [MemWord.read, syndrome_two hbits, if_neg hzero, if_neg hfresh, columnAt_of_even heven, columnAt_of_even hforced]

end

end Sys2Proof.Machine
end

section
/-! Words of context memory and its merge buffers under the shared operations (R359, R364, R366): what a read leaves of
a word that it corrects or poisons, and what a write and a retirement leave of the merge entries. -/

namespace Sys2Proof.Machine

/-! ## One channel at a time -/

theorem updChannel_channel (s : State) (c d : Fin 8) (f : Channel → Channel) :
    (s.updChannel c f).mem.channels[d] = if d = c then f s.mem.channels[c] else s.mem.channels[d] := by
  by_cases h : d = c
  · subst h
    simp [State.updChannel]
  · have hval : c.val ≠ d.val := fun hcd => h (Fin.ext hcd.symm)
    simp [State.updChannel, h, hval]

/-- A change of a channel that leaves its merge buffer leaves every word's entry. -/
@[simp] theorem updChannel_mergeOf (s : State) (c : Fin 8) {f : Channel → Channel} (hf : ∀ ch, (f ch).merge = ch.merge)
    (wa : Nat) : (s.updChannel c f).mergeOf wa = s.mergeOf wa := by
  rw [State.mergeOf, State.mergeOf, updChannel_channel]
  split
  · next h =>
    subst h
    rw [hf]
  · rfl

/-- With its entries taken out of its channel's buffer a word has none. -/
theorem mergeOf_filtered (s : State) {wa : Nat} {f : Channel → Channel}
    (hf : ∀ ch, (f ch).merge = ch.merge.filter fun m => m.wa != wa) :
    (s.updChannel (channelOf wa) f).mergeOf wa = none := by
  rw [State.mergeOf, updChannel_channel, if_pos rfl, hf, List.find?_eq_none]
  intro m hm
  simpa using (List.mem_filter.mp hm).2

@[simp] theorem count_mergeOf (s : State) (k : CounterKind) (i n wa : Nat) :
    (s.count k i n).mergeOf wa = s.mergeOf wa := by
  simp [State.mergeOf]

@[simp] theorem raise_mergeOf (s : State) (c : BitVec 16) (pl : Place) (d : Bytes) (wa : Nat) :
    (s.raise c pl d).mergeOf wa = s.mergeOf wa := by
  simp [State.mergeOf]

@[simp] theorem putWord_mergeOf (s : State) (a : Nat) (w : MemWord) (wa : Nat) :
    (s.putWord a w).mergeOf wa = s.mergeOf wa := rfl

@[simp] theorem count_word (s : State) (k : CounterKind) (i n wa : Nat) : (s.count k i n).word wa = s.word wa := by
  simp [State.word]

@[simp] theorem raise_word (s : State) (c : BitVec 16) (pl : Place) (d : Bytes) (wa : Nat) :
    (s.raise c pl d).word wa = s.word wa := by
  simp [State.word]

/-! ## Words written -/

section
variable (s : State)

/-- What any content but FRESH leaves when it is stored. -/
theorem putWord_word {wa : Nat} {w : MemWord} (hw : w.kind ≠ .fresh) (a : Nat) :
    (s.putWord wa w).word a = if a = wa then w else s.word a := by
  split
  · next h =>
    subst h
    refine readAt_writeAt_ne_default _ _ ?_
    rintro rfl
    exact hw rfl
  · next h => exact putWord_word_other s w h

theorem word_of_words {t u : State} (h : u.mem.words = t.mem.words) (a : Nat) : u.word a = t.word a := by
  rw [State.word, State.word, h]

theorem memWrite_word (wa : Nat) (d : BitVec 128) (a : Nat) :
    (s.memWrite wa d).word a = if a = wa then { kind := .data, data := d } else s.word a := by
  rw [word_of_words (t := s.putWord wa { kind := .data, data := d }) (by rw [memWrite_words]; rfl)]
  exact putWord_word s (by simp) a

/-- A whole-word write supersedes the word's merge entry (R364). -/
theorem memWrite_mergeOf (wa : Nat) (d : BitVec 128) : (s.memWrite wa d).mergeOf wa = none := by
  rw [State.memWrite, count_mergeOf]
  exact mergeOf_filtered _ fun _ => rfl

theorem wordCorrected_word (wa : Nat) (d : BitVec 128) (a : Nat) :
    (s.wordCorrected wa d).word a = if a = wa then { kind := .data, data := d } else s.word a := by
  rw [word_of_words (t := s.putWord wa { kind := .data, data := d }) (by rw [wordCorrected_words]; rfl)]
  exact putWord_word s (by simp) a

theorem wordCorrected_mergeOf (wa : Nat) (d : BitVec 128) (a : Nat) :
    (s.wordCorrected wa d).mergeOf a = s.mergeOf a := by
  unfold State.wordCorrected
  dsimp only
  split <;> simp

@[simp] theorem logError_word (x : MemLogEntry) (a : Nat) : (s.logError x).word a = s.word a :=
  word_of_words (logError_words s x) a

/-- A flow key entry that is lost stays as it is in memory; the hub clears its tag alone (R368). -/
theorem lostWord_flowKey_word {wa : Nat} (h : wa < 0x200000) (stored : BitVec 128) (a : Nat) :
    (s.lostWord wa stored).1.word a = s.word a := by
  have hcontent : contentOf wa = .flowKey := by simp [contentOf, h]
  rw [State.lostWord, hcontent]
  dsimp only
  split
  · rw [raise_word]
    rfl
  · rfl

end

/-! ## Reads of a word, by its class (R359) -/

@[simp] theorem usable_clean (d : BitVec 128) (syn : BitVec 16) :
    ({ cls := .clean, data := d, syndrome := syn } : WordRead).usable = true := rfl
@[simp] theorem usable_corrected (d : BitVec 128) (syn : BitVec 16) :
    ({ cls := .corrected, data := d, syndrome := syn } : WordRead).usable = true := rfl
@[simp] theorem usable_fresh (d : BitVec 128) (syn : BitVec 16) :
    ({ cls := .fresh, data := d, syndrome := syn } : WordRead).usable = true := rfl

section
variable {s : State} {wa : Nat} {d : BitVec 128}

/-- A word that reads CORRECTED is written back. -/
theorem memRead_corrected {syn : BitVec 16} (b : Byte)
    (h : (s.word wa).read = { cls := .corrected, data := d, syndrome := syn }) :
    s.memRead wa b = ((s.count .memReads (channelOf wa).val 1).wordCorrected wa d,
      { cls := .corrected, data := d, syndrome := syn }) := by
  simp only [State.memRead, h]

/-- A word never written reads FRESH and is counted. -/
theorem memRead_fresh (b : Byte) (h : s.word wa = {}) :
    s.memRead wa b = ((s.count .memReads (channelOf wa).val 1).count .memFreshReads (channelOf wa).val 1,
      { cls := .fresh, data := 0, syndrome := freshSyndrome }) := by
  simp only [State.memRead, h, read_fresh]

/-- A flow key entry that reads UNCORRECTABLE is rewritten POISONED, whoever reads it. -/
theorem memRead_uncorrectable_flowKey {b : Byte} (h : (s.word wa).read.cls = .uncorrectable) (hwa : wa < 0x200000) :
    (s.memRead wa b).2.usable = false ∧ ((s.memRead wa b).1.word wa).kind = .poisoned := by
  have hfetch : fetchesHot b wa = false := by simp [fetchesHot, contentOf, hwa]
  simp only [State.memRead, h, hfetch, Bool.false_eq_true, if_false]
  refine ⟨by simp [WordRead.usable, h], ?_⟩
  rw [raise_word, logError_word, lostWord_flowKey_word _ hwa, putWord_word _ (by simp), if_pos rfl]

end

/-- A word without a merge entry is delivered as it was read. -/
theorem withMerge_of_none {s : State} {wa : Nat} (h : s.mergeOf wa = none) (r : WordRead) : s.withMerge wa r = r := by
  rw [State.withMerge, h]

/-! ## Retirement (R364) -/

/-- The retirement of an entry whose word's check bits agree lays its bytes over the word. -/
theorem retire_clean {s : State} {m : MergeEntry} {d : BitVec 128} (h : s.word m.wa = { kind := .data, data := d }) :
    (∀ a, (s.retire m).word a = if a = m.wa then { kind := .data, data := overlay d m.data m.mask } else s.word a) ∧
    (s.retire m).mergeOf m.wa = none := by
  have hread (f : Channel → Channel) : (s.updChannel (channelOf m.wa) f).word m.wa = { kind := .data, data := d } := h
  simp only [State.retire, memRead_clean _ _ 3 d (hread _), usable_clean, if_true, count_word, count_mergeOf,
    memWrite_mergeOf, memWrite_word, and_true]
  exact fun _ => rfl

/-! ## Eddy's walk (R366) -/

theorem eddyAdvance_eddy (s : State) : s.eddyAdvance.mem.eddy = s.mem.eddy + 1 := by
  rw [State.eddyAdvance]
  dsimp only
  split
  · rw [State.raise_mem]
  · rfl

theorem eddyAdvance_passes (s : State) :
    s.eddyAdvance.mem.passes = if s.mem.eddy + 1 = 0 then s.mem.passes + 1 else s.mem.passes := by
  simp only [State.eddyAdvance, beq_iff_eq]
  split
  · rw [State.raise_mem]
  · rfl

end Sys2Proof.Machine
end

section
/-! Group 0x0C (R371, R373 to R375): each opcode behind its checks. -/

namespace Sys2Proof.Machine

/-! ## Parameters (R375) -/

theorem field_be18 (v : BitVec 144) (x : Bytes) : field (be 18 v ++ x) 0 18 = v.toNat := by
  rw [field_append_left (by simp)]
  exact field_be (n := 18) v

theorem zeroAt_append_right {a b : Bytes} {o n : Nat} (h : a.length ≤ o) :
    zeroAt (a ++ b) o n = zeroAt b (o - a.length) n := by
  rw [zeroAt, zeroAt, List.drop_append, List.drop_eq_nil_of_le h, List.nil_append]

theorem notPrincipal_of_zero {r : Request} (h : r.port = 0) : notPrincipal r = false := by simp [notPrincipal, h]

/-! ## The request leaves its queue -/

@[simp] theorem takeRequest_word (s : State) (op : BitVec 16) (r : Request) (wa : Nat) :
    (s.takeRequest op r).word wa = s.word wa := rfl
@[simp] theorem takeRequest_mergeOf (s : State) (op : BitVec 16) (r : Request) (wa : Nat) :
    (s.takeRequest op r).mergeOf wa = s.mergeOf wa := rfl

/-! ## The status table (R374) -/

/-- The header and the eight channel entries stand at their offsets. -/
theorem memStatus_lays (s : State) : Lays s.memStatus 144
    ([(0, [byte (bit s.mem.swept 0 + bit s.eddyRuns 1), byte s.mem.log.length]), (2, be 2 s.mem.lost),
      (4, beBytes 4 s.mem.eddy.toNat), (8, be 4 s.mem.passes), (12, [0, 0, 0, 0])] ++
     (List.finRange 8).map fun c => (16 + 16 * c.val, channelEntry s.moduleTime s.mem.channels[c])) := by
  have hentry (c : Channel) : (channelEntry s.moduleTime c).length = 16 := by
    rw [channelEntry]
    cases c.lastCorr <;> simp
  have hchannels : s.mem.channels.toList = (List.finRange 8).map fun c => s.mem.channels[c] :=
    List.ext_getElem (by simp) fun i _ _ => by simp
  have height : List.finRange 8 = [0, 1, 2, 3, 4, 5, 6, 7] := rfl
  exact lays_of_flatten (by simp [State.memStatus, hchannels, zeros, Function.comp_def])
    (by simp [State.memStatus, hchannels, height, hentry]) (by simp [placed, height, hentry])

section
variable {r : Request} {s : State} (hx : Executes false r s) (hflag : r.flag0 = false)
include hx hflag

/-! ## Eddy's settings, the status and the log (R371, R373, R374) -/

theorem exec_memConfigWrite {rate thr : BitVec 16} (hport : r.port = 0)
    (hparams : r.params = be 2 rate ++ be 2 thr ++ [0, 0, 0, 0]) (hrate : rate.toNat ≤ 4096) :
    Writes 0x0C01 .memConfigWrite r s fun s => { s with mem := { s.mem with scrubRate := rate, corrThr := thr } } := by
  have hform : badForm r 8 = false := formed_badForm ⟨hflag, by simp [hparams]⟩
  have hscrub : field r.params 0 2 = rate.toNat := by simp [hparams]
  have hrateField : u16 r.params 0 = rate := by simp [hparams, u16]
  have hthrField : u16 r.params 2 = thr := by simp [hparams, u16]
  have hzero : zeroAt r.params 4 4 = true := by simp [hparams]
  refine opcode_ok hx ?_
  rw [memConfigWriteBody, hscrub, hrateField, hthrField]
  exact guards_pass _ _ (by simp [notPrincipal_of_zero hport, hform, hzero, hrate])

theorem exec_memConfigRead (hparams : r.params = []) : Reads 0x0C02 .memConfigRead r s fun s =>
    be 2 s.mem.scrubRate ++ be 2 s.mem.corrThr ++ [0, 0, 0, 0] := by
  refine opcode_reads hx ?_
  rw [memConfigReadBody, formed_nil hflag hparams, guards_false, guards_nil]
  rfl

theorem exec_memStatus (hparams : r.params = []) : Reads 0x0C03 .memStatus r s fun _ => s.memStatus := by
  refine opcode_reads hx ?_
  rw [memStatusBody, formed_nil hflag hparams, guards_false, guards_nil]
  rfl

theorem exec_memLogRead {clear : Bool} (hport : r.port = 0) (hparams : r.params = [byte clear.toNat, 0, 0, 0]) :
    exec (.memLogRead r) s = answered 0x0C04 r .ok
      ([byte s.mem.log.length, 0] ++ be 2 s.mem.lost ++ (s.mem.log.map logBytes).flatten)
      (if clear then { s.takeRequest 0x0C04 r with mem := { s.mem with log := [], lost := 0 } }
       else s.takeRequest 0x0C04 r) := by
  have hform : badForm r 4 = false := formed_badForm ⟨hflag, by simp [hparams]⟩
  have hclear : field r.params 0 1 = clear.toNat := by cases clear <;> simp [hparams, byte]
  have hzero : zeroAt r.params 1 3 = true := by simp [hparams]
  refine opcode_ok hx ?_
  rw [memLogReadBody, hclear]
  refine (guards_pass _ _ ?_).trans ?_
  · cases clear <;> simp [notPrincipal_of_zero hport, hform, hzero]
  · cases clear <;> rfl

/-! ## MEM_WORD_READ (R375) -/

section
variable {wa : BitVec 32} (hport : r.port = 0) (hparams : r.params = be 4 wa) (hwa : wa.toNat < 8388608)
  (hready : s.wordReady wa.toNat = true)
include hport hparams hwa hready

omit hx in
/-- A word in range that is swept is read, by the host as its reader. -/
theorem memWordReadBody_reads {t : State × WordRead} (ht : t = (s.takeRequest 0x0C05 r).memRead wa.toNat 4) :
    memWordReadBody r (s.takeRequest 0x0C05 r) =
      if !t.2.usable then .ok .poisoned [] t.1
      else
        let m := (s.takeRequest 0x0C05 r).withMerge wa.toNat t.2
        .ok (if m.cls = .fresh then .fresh else .ok)
          (be 16 m.data ++ be 2 t.2.syndrome ++ [classCode m.cls, 0]) t.1 := by
  subst ht
  have hform : badForm r 4 = false := formed_badForm ⟨hflag, by simp [hparams]⟩
  have hfield : field r.params 0 4 = wa.toNat := by simp [hparams]
  rw [memWordReadBody, hfield]
  exact guards_pass _ _ (by simp [notPrincipal_of_zero hport, hform, wordCount, hwa, hready])

/-- A word that its check bits leave readable, and that no merge entry waits for, is delivered with its class. -/
theorem exec_memWordRead_usable (hmerge : s.mergeOf wa.toNat = none) {t : State} {cls : WordClass} {d : BitVec 128}
    {syn : BitVec 16} (hcls : ({ cls := cls, data := d, syndrome := syn } : WordRead).usable = true)
    (hread : (s.takeRequest 0x0C05 r).memRead wa.toNat 4 = (t, { cls := cls, data := d, syndrome := syn }))
    {st : Status} {data : Bytes} (hst : st = if cls = .fresh then .fresh else .ok)
    (hdata : data = be 16 d ++ be 2 syn ++ [classCode cls, 0]) :
    exec (.memWordRead r) s = answered 0x0C05 r st data t := by
  rw [hst, hdata]
  refine opcode_ok hx ((memWordReadBody_reads hflag hport hparams hwa hready hread.symm).trans ?_)
  have hnone : (s.takeRequest 0x0C05 r).mergeOf wa.toNat = none := hmerge
  rw [hcls, withMerge_of_none hnone]
  simp only [Bool.not_true, Bool.false_eq_true, if_false]

theorem exec_memWordRead_lost (hread : ((s.takeRequest 0x0C05 r).memRead wa.toNat 4).2.usable = false) :
    exec (.memWordRead r) s = answered 0x0C05 r .poisoned [] ((s.takeRequest 0x0C05 r).memRead wa.toNat 4).1 := by
  refine opcode_ok hx ((memWordReadBody_reads hflag hport hparams hwa hready rfl).trans ?_)
  rw [hread]
  rfl

end

/-! ## MEM_INJECT (R375) -/

theorem exec_memInject {wa other : BitVec 32} {flips : BitVec 144} {d : BitVec 128} (hport : r.port = 0)
    (hparams : r.params = be 4 wa ++ be 4 other ++ be 18 flips ++ [0, 0]) (hwa : wa.toNat < 8388608)
    (hother : other.toNat < 8388608) (hready : s.wordReady wa.toNat = true) (hclean : s.holdsClean wa.toNat d) :
    exec (.memInject r) s = answered 0x0C06 r .ok []
      ((((s.takeRequest 0x0C06 r).count .memReads (channelOf wa.toNat).val 1).memWrite wa.toNat d).putWord wa.toNat
        { kind := .data, data := d, flips := flips, addrXor := other.setWidth 23 }) := by
  obtain ⟨hword, hmerge⟩ := hclean
  have hread := memRead_clean (s.takeRequest 0x0C06 r) wa.toNat 4 d hword
  have hnone : ((s.takeRequest 0x0C06 r).count .memReads (channelOf wa.toNat).val 1).mergeOf wa.toNat = none := by
    simpa using hmerge
  have hform : badForm r 28 = false := formed_badForm ⟨hflag, by simp [hparams]⟩
  have hfirst : field r.params 0 4 = wa.toNat := by simp [hparams]
  have hsecond : field r.params 4 4 = other.toNat := by simp [hparams]
  have hflips : field r.params 8 18 = flips.toNat := by simp [hparams, field_be18]
  have hzero : zeroAt r.params 26 2 = true := by simp [hparams, zeroAt_append_right]
  have hxor : BitVec.ofNat 23 other.toNat = other.setWidth 23 := rfl
  refine opcode_ok hx ?_
  rw [memInjectBody, hfirst, hsecond, hflips, hxor]
  refine (guards_pass _ _ ?checks).trans ?inject
  case checks => simp [notPrincipal_of_zero hport, hform, hzero, wordCount, hwa, hother, hready]
  case inject =>
    rw [hread]
    dsimp only
    rw [withMerge_of_none hnone, usable_clean, BitVec.ofNat_toNat, BitVec.setWidth_eq]
    rfl

end

/-- Settles O37: each opcode's checks pass down to its own answer, and a word is answered by its class. -/
theorem memoryRequests : Obligations.MemoryRequests := by
  unfold Obligations.MemoryRequests
  refine fun r s hx hflag => ⟨fun rate thr => exec_memConfigWrite hx hflag, exec_memConfigRead hx hflag,
    fun hparams => ⟨_, exec_memStatus hx hflag hparams, memStatus_lays s⟩, fun clear => exec_memLogRead hx hflag,
    fun wa hport hparams hwa hready => ⟨fun d hclean => ?clean, fun hword hmerge => ?fresh,
      fun d flips hword hflips hmerge => ?corrected, fun d flips hword hflips hkey => ?lost⟩,
    fun wa other flips d hport hparams hwa hother hready hclean => ?inject⟩
  case clean =>
    obtain ⟨hword, hmerge⟩ := hclean
    refine ⟨_, exec_memWordRead_usable hx hflag hport hparams hwa hready hmerge rfl
      (memRead_clean (s.takeRequest 0x0C05 r) _ 4 d hword) rfl (by rw [List.append_assoc]; rfl), ?_⟩
    rw [State.count_mem, State.takeRequest_mem]
  case fresh =>
    refine ⟨_, exec_memWordRead_usable hx hflag hport hparams hwa hready hmerge rfl
      (memRead_fresh (s := s.takeRequest 0x0C05 r) 4 hword) rfl (by rw [List.append_assoc]; rfl), ?_⟩
    rw [State.count_mem, State.count_mem, State.takeRequest_mem]
  case corrected =>
    obtain ⟨syn, hread⟩ := read_one_flip (d := d) hflips
    rw [← hword] at hread
    refine ⟨syn, _, exec_memWordRead_usable hx hflag hport hparams hwa hready hmerge rfl
      (memRead_corrected (s := s.takeRequest 0x0C05 r) 4 hread) rfl rfl, ?_⟩
    rw [wordCorrected_word, if_pos rfl]
  case lost =>
    have hread : ((s.takeRequest 0x0C05 r).word wa.toNat).read.cls = .uncorrectable := by
      rw [takeRequest_word, hword, read_two_flips hflips]
    obtain ⟨husable, hkind⟩ := memRead_uncorrectable_flowKey (b := 4) hread hkey
    exact ⟨_, exec_memWordRead_lost hx hflag hport hparams hwa hready husable, hkind⟩
  case inject =>
    refine ⟨_, exec_memInject hx hflag hport hparams hwa hother hready hclean, ?_, fun w hw => ?_⟩
    · rw [putWord_word _ (by simp), if_pos rfl]
    · rw [putWord_word _ (by simp), if_neg hw, memWrite_word, if_neg hw, count_word, takeRequest_word]

end Sys2Proof.Machine
end

section
/-! Context memory's own instants (R359, R360, R362 to R366). -/

namespace Sys2Proof.Machine

/-! ## Training and the sweep (R360 to R363) -/

theorem running_next {s : State} (hrails : s.railsOn = true) (hreset : s.power.resetLow = false) (f : State → State) :
    running s f = .next (f s) := by
  simp [running, hrails, hreset]

/-- While a channel has not failed, not every channel has. -/
theorem allFailed_eq_false {s : State} {d : Fin 8} (h : (s.mem.channels[d]).mode ≠ .failed) : s.allFailed = false := by
  rw [State.allFailed, List.all_eq_false]
  exact ⟨s.mem.channels[d], by simp, by simpa using h⟩

theorem none_in_training {s : State} (h : ∀ d : Fin 8, (s.mem.channels[d]).mode ≠ .training) :
    s.mem.channels.toList.all (fun c => c.mode != .training) = true := by
  rw [List.all_eq_true]
  intro c hc
  obtain ⟨i, hi, rfl⟩ := List.getElem_of_mem hc
  simpa using h ⟨i, by simpa using hi⟩

theorem sweepDone_mem (s : State) (time : Bytes) : (s.sweepDone time).mem = { s.mem with
    swept := true,
    channels := s.mem.channels.map fun (ch : Channel) =>
      if ch.mode = ChannelMode.sweeping then { ch with mode := .ready } else ch } := by
  rw [State.sweepDone, State.raise_mem]

section
variable {s : State} (hrails : s.railsOn = true) (hreset : s.power.resetLow = false)
include hrails hreset

theorem exec_channelTrainingDone {c : Fin 8} (hmode : (s.mem.channels[c]).mode = .training) :
    exec (.channelTrainingDone c) s = .next (s.updChannel c fun ch =>
      { ch with mode := .sweeping, since := s.moduleTime }) :=
  (running_next hrails hreset _).trans (by rw [hmode, beq_self_eq_true, if_pos rfl])

/-- A channel that fails while another one has not leaves the sweep to the others (R362). -/
theorem exec_channelTrainingFail {c d : Fin 8} (hmode : (s.mem.channels[c]).mode = .training) (hne : d ≠ c)
    (hd : (s.mem.channels[d]).mode ≠ .failed) :
    exec (.channelTrainingFail c) s = .next ((s.updChannel c fun ch => { ch with mode := .failed }).raise 0x0C06
      (.principal (BitVec.ofNat 16 c)) []) := by
  refine (running_next hrails hreset _).trans ?_
  have hleft : ((s.updChannel c fun ch => { ch with mode := .failed }).raise 0x0C06
      (.principal (BitVec.ofNat 16 c)) []).allFailed = false := by
    refine allFailed_eq_false (d := d) ?_
    rwa [State.raise_mem, updChannel_channel, if_neg hne]
  rw [hmode, beq_self_eq_true, if_pos rfl]
  dsimp only
  rw [hleft, if_neg Bool.false_ne_true]

theorem exec_memSweepDone {ns : BitVec 32} (hswept : s.mem.swept = false) (hleft : s.allFailed = false)
    (htrained : ∀ d : Fin 8, (s.mem.channels[d]).mode ≠ .training) :
    exec (.memSweepDone ns) s = .next (s.sweepDone (be 4 ns)) :=
  (running_next hrails hreset _).trans (by rw [hswept, hleft, none_in_training htrained]; rfl)

end

/-! ## Eddy (R359, R365 to R367) -/

@[simp] theorem eddyAdvance_word (s : State) (a : Nat) : s.eddyAdvance.word a = s.word a :=
  word_of_words (eddyAdvance_words s) a

section
variable {s : State} (hready : s.ready = true) (hruns : s.eddyRuns = true)
include hready hruns

/-- A word that no merge entry waits for is read and counted where it is swept, and Eddy goes on to the next. -/
theorem exec_eddyRead_of_none {t : State × WordRead} (ht : s.memRead s.mem.eddy.toNat 1 = t)
    (hnone : t.1.mergeOf s.mem.eddy.toNat = none) :
    exec .eddyRead s = .next (if s.wordReady s.mem.eddy.toNat then
      t.1.count .memScrubWords (channelOf s.mem.eddy.toNat).val 1 else s).eddyAdvance := by
  refine (show execEddyRead s = _ from eventIf_true hready hruns _).trans ?_
  simp only [ht, count_mergeOf, hnone]

/-- A right word stays as it is. -/
theorem exec_eddyRead_clean {d : BitVec 128} (h : s.holdsClean s.mem.eddy.toNat d) :
    ∃ u : State, u.mem = s.mem ∧ exec .eddyRead s = .next u.eddyAdvance := by
  obtain ⟨hword, hmerge⟩ := h
  refine ⟨_, ?_, exec_eddyRead_of_none hready hruns (memRead_clean s _ 1 d hword) (by simpa using hmerge)⟩
  split <;> simp

/-- A word with one bit inverted is corrected, and every other word stays (R358, R359). -/
theorem exec_eddyRead_one_flip {d : BitVec 128} {flips : BitVec 144}
    (hword : s.word s.mem.eddy.toNat = { kind := .data, data := d, flips := flips }) (hflips : popcount flips = 1)
    (hswept : s.wordReady s.mem.eddy.toNat = true) (hmerge : s.mergeOf s.mem.eddy.toNat = none) :
    ∃ t, exec .eddyRead s = .next t ∧
      ∀ a, t.word a = if a = s.mem.eddy.toNat then { kind := .data, data := d } else s.word a := by
  obtain ⟨syn, hread⟩ := read_one_flip (d := d) hflips
  rw [← hword] at hread
  refine ⟨_, exec_eddyRead_of_none hready hruns (memRead_corrected 1 hread)
    (by rwa [wordCorrected_mergeOf, count_mergeOf]), fun a => ?_⟩
  rw [if_pos hswept, eddyAdvance_word, count_word, wordCorrected_word, count_word]

end

/-! ## Retirement (R364) -/

theorem exec_mergeRetire {s : State} {c : Fin 8} {m : MergeEntry} {rest : List MergeEntry} (hready : s.ready = true)
    (hmerge : (s.mem.channels[c]).merge = m :: rest)
    (hdue : (s.moduleTime - m.time).toNat ≥ 2 ∨ (s.mem.channels[c]).merge.length > 192) :
    exec (.mergeRetire c) s = .next (s.retire m) := by
  rw [hmerge] at hdue
  show execMergeRetire c s = _
  simp only [execMergeRetire, event_ready hready, hmerge, Bool.or_eq_true, decide_eq_true_eq, hdue, if_true]

/-- Settles O38: each instant comes to one operation of context memory, whose effect on words and entries is known. -/
theorem memoryInstants : Obligations.MemoryInstants := by
  unfold Obligations.MemoryInstants
  refine fun s c => ⟨fun hrails hreset hmode => ⟨exec_channelTrainingDone hrails hreset hmode, ?fail⟩,
    fun ns hrails hreset hswept hleft htrained =>
      ⟨_, exec_memSweepDone hrails hreset hswept hleft htrained, ?swept, sweepDone_words _ _, fun d => ?modes⟩,
    fun hready hruns => ⟨fun d hclean => ?right, fun d flips hword hflips hswept hmerge => ?corrected⟩,
    fun m rest d hready hmerge _ hdue hword => ⟨_, exec_mergeRetire hready hmerge hdue, ?retired⟩⟩
  case fail =>
    rintro ⟨d, hne, hd⟩
    exact ⟨_, exec_channelTrainingFail hrails hreset hmode hne hd, raises_raise _ _ _ _⟩
  case swept => rw [sweepDone_mem]
  case modes =>
    rw [sweepDone_mem]
    simp only [Fin.getElem_fin, Vector.getElem_map]
    split <;> rfl
  case right =>
    obtain ⟨u, hu, hexec⟩ := exec_eddyRead_clean hready hruns hclean
    refine ⟨_, hexec, ?_⟩
    rw [eddyAdvance_words, eddyAdvance_eddy, eddyAdvance_passes, hu]
    exact ⟨rfl, rfl, rfl⟩
  case corrected =>
    obtain ⟨t, hexec, hwords⟩ := exec_eddyRead_one_flip hready hruns hword hflips hswept hmerge
    exact ⟨t, hexec, (hwords _).trans (if_pos rfl), fun w hw => (hwords w).trans (if_neg hw)⟩
  case retired =>
    obtain ⟨hwords, hnone⟩ := retire_clean hword
    exact ⟨(hwords _).trans (if_pos rfl), hnone, fun w hw => (hwords w).trans (if_neg hw)⟩

end Sys2Proof.Machine
end


section
/-! A step on a waiting command, the outcome that every command has, and Weir's policy over one step (R460). -/

namespace Sys2Proof.Machine

/-- Settles O1: it is the first branch of `step`. -/
theorem stepTakesFrontCommand : Obligations.StepTakesFrontCommand := by
  intro c rest s h
  unfold step
  rw [h]

/-- Settles O3: the two stores are followed through every command, and each of them answers a next state. -/
theorem everyCommandAnswersNextState : Obligations.EveryCommandAnswersNextState := by
  intro c s
  obtain ⟨t, h, -⟩ := exec_keepsStores c s
  exact ⟨t, h⟩

/-! ## The policy in force (R460) -/

/-- A policy lies in its ranges and is consistent. -/
def WeirPolicy.Sound (p : WeirPolicy) : Prop := policyRangeOk p = true ∧ policyConsistent p = true

theorem State.policyOk_iff (s : State) : s.policyOk ↔ s.settings.policy.Sound := Iff.rfl

theorem reset_policy_sound : State.reset.settings.policy.Sound := ⟨rfl, rfl⟩

/-- What every command but WEIR_POLICY_WRITE leaves of the policy: itself, or a reset's. -/
theorem SettingsFrame.policy {c : Instr} {a b : Settings} (h : SettingsFrame c a b) (hc : ∀ r, c ≠ .weirPolicyWrite r) :
    b.policy = a.policy ∨ b.policy = State.reset.settings.policy := by
  cases c with
  | weirPolicyWrite r => exact absurd rfl (hc r)
  | powerOnTrigger | supplyLoss | hardwiredTrip | tripLatchRelease | resetNDeassert | moduleResetBegin =>
    rcases h with h | h
    · exact .inl (congrArg Settings.policy h)
    · exact .inr (by rw [h])
  | _ => exact .inl (by rw [show b = _ from h])

/-- WEIR_POLICY_WRITE takes only a policy in range and consistent. -/
theorem exec_weirPolicyWrite_sound (r : Request) (s : State) :
    ∃ t, exec (.weirPolicyWrite r) s = .next t ∧ (s.settings.policy.Sound → t.settings.policy.Sound) := by
  have hview : IgnoresServing fun s => s.settings.policy := ⟨by simp, by simp, by simp⟩
  refine opcode_leads (Q := fun x y => x.Sound → y.Sound) hview id fun s => ?_
  refine guards_leads_of_pass _ fun hpass _ => ?_
  have hrange := hpass _ (.tail _ (.tail _ (.head _)))
  have hconsistent := hpass _ (.tail _ (.tail _ (.tail _ (.head _))))
  simp only [Bool.not_eq_false'] at hrange hconsistent
  exact ⟨hrange, hconsistent⟩

theorem exec_keeps_policyOk {c : Instr} {s t : State} (hs : s.policyOk) (h : exec c s = .next t) : t.policyOk := by
  rw [State.policyOk_iff] at hs ⊢
  by_cases hc : ∃ r, c = .weirPolicyWrite r
  · obtain ⟨r, rfl⟩ := hc
    obtain ⟨u, hu, hf⟩ := exec_weirPolicyWrite_sound r s
    cases h.symm.trans hu
    exact hf hs
  · rcases (settingsChangeOnlyByTheirCommands c s t h).policy fun r hr => hc ⟨r, hr⟩ with h | h <;> rw [h]
    · exact hs
    · exact reset_policy_sound

theorem policyOk_of_standing {s t : State} (h : t.standing = s.standing) (hs : s.policyOk) : t.policyOk := by
  rw [State.policyOk_iff] at hs ⊢
  have hset : t.settings = s.settings := congrArg Prod.fst h
  rwa [hset]

/-- Settles O58: WEIR_POLICY_WRITE checks what it takes, and only it and a reset write the policy. -/
theorem weirPolicyStaysConsistent : Obligations.WeirPolicyStaysConsistent := by
  intro s t hs h
  rcases step_cases h with ⟨c, u, hu, hexec⟩ | ht | rfl
  · exact exec_keeps_policyOk (policyOk_of_standing hu hs) hexec
  · exact policyOk_of_standing ht hs
  · rw [State.policyOk_iff, s.warmReset_defaulted 3]
    exact reset_policy_sound

end Sys2Proof.Machine
end

section
/-! SUPPORT. The roles of the supervisor pair: which unit is which, and what takeover, drill or restore runs.  Nothing but the
pair's own operations and a reset moves them (R464, R468 to R473). -/

namespace Sys2Proof.Machine

/-! ## The roles -/

/-- What of the pair `State.pairOk` reads; the rest at its reset values. -/
def SupState.roles (p : SupState) : SupState :=
  { headless := p.headless, units := p.units, active := p.active, takeover := p.takeover, swap := p.swap,
    restore := p.restore }

def State.roles (s : State) : SupState := s.sup.roles

@[simp] theorem roles_moved (s : State) (pending : List Instr) (fresh : Nat) (ident : Identity) (time : BitVec 48)
    (power : PowerState) (ports : Vector Port 4) (turn : Hp) (engines : Vector Engine 4) (commits : List Commit)
    (spent : List (Nat × Hp)) (seenTokens : List (BitVec 32)) (records : List FactoryRecord) (lanes : Vector Lane 64)
    (cports : Vector Cport 64) (synce : Staged (Vector (Byte × Byte) 4)) (flows : FlowState) (keys : KeyState)
    (mem : MemState) (immediate : List Immediate) (hw : HwState) (td : TimeState) (gauge : GaugeState)
    (weir : WeirState) (collector : Collector) (nv : NvState) (jtag : JtagState) :
    ({ s with
      pending := pending, fresh := fresh, ident := ident, moduleTime := time, power := power, ports := ports,
      turn := turn, engines := engines, commits := commits, spent := spent, seenTokens := seenTokens,
      records := records, lanes := lanes, cports := cports, synce := synce, flows := flows, keys := keys, mem := mem,
      immediate := immediate, hw := hw, time := td, gauge := gauge, weir := weir, collector := collector, nv := nv,
      jtag := jtag } : State).offTraffic.roles = s.offTraffic.roles := rfl

@[simp] theorem State.updEng_roles (s : State) (e : Eng) (f : Engine → Engine) :
    (s.updEng e f).offTraffic.roles = s.offTraffic.roles := rfl

theorem State.updSup_roles (s : State) (f : SupState → SupState) (h : (f s.sup).roles = s.sup.roles) :
    (s.updSup f).offTraffic.roles = s.offTraffic.roles := h

@[simp] theorem foldl_roles {α : Type} (l : List α) (f : State → α → State)
    (h : ∀ s x, (f s x).offTraffic.roles = s.offTraffic.roles) (s : State) :
    (l.foldl f s).offTraffic.roles = s.offTraffic.roles :=
  foldl_keeps (fun s => s.offTraffic.roles) h l s

@[simp] theorem foldl_updEng_roles {α : Type} (l : List α) (g : α → Eng) (F : State → α → Engine → Engine) (s : State) :
    (l.foldl (fun s x => s.updEng (g x) (F s x)) s).offTraffic.roles = s.offTraffic.roles :=
  foldl_roles l (fun s x => s.updEng (g x) (F s x)) (fun _ _ => rfl) s

@[simp] theorem ite_roles (c : Prop) [Decidable c] (s t : State) :
    (if c then s else t).roles = if c then s.roles else t.roles := apply_ite _ _ _ _

@[simp] theorem State.journalled_roles (s : State) :
    s.journalled.offTraffic.roles = s.offTraffic.roles := by
  unfold State.journalled
  split <;> rfl

@[simp] theorem State.conclude_roles (s : State) (op : BitVec 16) (r : Request) (st : Status) (data : Bytes) :
    (s.conclude op r st data).offTraffic.roles = s.offTraffic.roles := by simp [State.conclude]

@[simp] theorem State.rehold_roles (s : State) (e : Eng) (cause : Byte) :
    (s.rehold e cause).offTraffic.roles = s.offTraffic.roles := by simp [State.rehold]

@[simp] theorem State.reholdDark_roles (s : State) (e : Eng) :
    (s.reholdDark e).offTraffic.roles = s.offTraffic.roles := by simp [State.reholdDark]

@[simp] theorem State.maskSmall_roles (s : State) (e : Eng) :
    (s.maskSmall e).offTraffic.roles = s.offTraffic.roles := by simp [State.maskSmall]

@[simp] theorem State.lofRaise_roles (s : State) (e : Eng) :
    (s.lofRaise e).offTraffic.roles = s.offTraffic.roles := by simp [State.lofRaise]

@[simp] theorem State.lofClear_roles (s : State) (e : Eng) (data : Bytes) :
    (s.lofClear e data).offTraffic.roles = s.offTraffic.roles := by simp [State.lofClear]

@[simp] theorem State.deframerOff_roles (s : State) (e : Eng) :
    (s.deframerOff e).offTraffic.roles = s.offTraffic.roles := by simp [State.deframerOff]

@[simp] theorem State.setLos_roles (s : State) (e : Eng) (on : Bool) :
    (s.setLos e on).offTraffic.roles = s.offTraffic.roles := by simp [State.setLos]

@[simp] theorem State.fecReset_roles (s : State) (e : Eng) :
    (s.fecReset e).offTraffic.roles = s.offTraffic.roles := by simp [State.fecReset]

@[simp] theorem State.rxOff_roles (s : State) (e : Eng) :
    (s.rxOff e).offTraffic.roles = s.offTraffic.roles := by simp [State.rxOff]

@[simp] theorem State.rxWait_roles (s : State) (e : Eng) :
    (s.rxWait e).offTraffic.roles = s.offTraffic.roles := by simp [State.rxWait]

@[simp] theorem State.relock_roles (s : State) (e : Eng) (cause left : Byte) :
    (s.relock e cause left).offTraffic.roles = s.offTraffic.roles := by simp [State.relock]

@[simp] theorem State.rxFreq_roles (s : State) (e : Eng) (fast : Bool) :
    (s.rxFreq e fast).offTraffic.roles = s.offTraffic.roles := by simp [State.rxFreq]

@[simp] theorem State.twinFollow_roles (s : State) :
    s.twinFollow.offTraffic.roles = s.offTraffic.roles := by simp [State.twinFollow]

@[simp] theorem State.txStart_roles (s : State) (e : Eng) (lead : BitVec 32) :
    (s.txStart e lead).offTraffic.roles = s.offTraffic.roles := by simp [State.txStart]

@[simp] theorem State.txEnable_roles (s : State) (e : Eng) (newFn : Bool) (lead : BitVec 32) :
    (s.txEnable e newFn lead).offTraffic.roles = s.offTraffic.roles := by simp [State.txEnable]

@[simp] theorem State.txStop_roles (s : State) (e : Eng) :
    (s.txStop e).offTraffic.roles = s.offTraffic.roles := by simp [State.txStop]

@[simp] theorem State.fastQuench_roles (s : State) (e : Eng) (reason : Byte) (ended : Bool) :
    (s.fastQuench e reason ended).offTraffic.roles = s.offTraffic.roles := by simp [State.fastQuench]

@[simp] theorem State.quench_roles (s : State) (e : Eng) (reason : Byte) :
    (s.quench e reason).offTraffic.roles = s.offTraffic.roles := by
  unfold State.quench
  dsimp only
  split <;> simp

@[simp] theorem State.txPrepare_roles (s : State) (e : Eng) (old new : EngineParams) :
    (s.txPrepare e old new).offTraffic.roles = s.offTraffic.roles := by simp [State.txPrepare]

@[simp] theorem State.txLeave_roles (s : State) (e : Eng) (old : EngineParams) :
    (s.txLeave e old).offTraffic.roles = s.offTraffic.roles := by
  unfold State.txLeave
  dsimp only
  split <;> simp

@[simp] theorem State.txEnter_roles (s : State) (e : Eng) : (s.txEnter e).offTraffic.roles = s.offTraffic.roles := by
  unfold State.txEnter
  dsimp only
  split <;> simp

@[simp] theorem State.txSwitch_roles (s : State) (e : Eng) (old new : EngineParams) :
    (s.txSwitch e old new).offTraffic.roles = s.offTraffic.roles := by simp [State.txSwitch]

@[simp] theorem State.txApply_roles (s : State) (e : Eng) (old new : EngineParams) :
    (s.txApply e old new).offTraffic.roles = s.offTraffic.roles := by simp [State.txApply]

@[simp] theorem State.fecEffort_roles (s : State) (e : Eng) :
    (s.fecEffort e).offTraffic.roles = s.offTraffic.roles := by simp [State.fecEffort]

@[simp] theorem State.idleEffort_roles (s : State) (e : Eng) :
    (s.idleEffort e).offTraffic.roles = s.offTraffic.roles := by simp [State.idleEffort]

@[simp] theorem State.linkApply_roles (s : State) (e : Eng) (new : EngineParams) :
    (s.linkApply e new).offTraffic.roles = s.offTraffic.roles := by simp [State.linkApply]

@[simp] theorem State.rxPrepare_roles (s : State) (e : Eng) (old new : EngineParams) :
    (s.rxPrepare e old new).offTraffic.roles = s.offTraffic.roles := by simp [State.rxPrepare]

@[simp] theorem State.rxSwitch_roles (s : State) (e : Eng) (old new : EngineParams) :
    (s.rxSwitch e old new).offTraffic.roles = s.offTraffic.roles := by simp [State.rxSwitch]

@[simp] theorem State.rxApply_roles (s : State) (e : Eng) (old new : EngineParams) :
    (s.rxApply e old new).offTraffic.roles = s.offTraffic.roles := by simp [State.rxApply]

theorem State.atBoundary_roles (s : State) (f : State → State) (h : ∀ x, (f x).offTraffic.roles = x.offTraffic.roles)
    : (s.atBoundary f).offTraffic.roles = s.offTraffic.roles :=
  h { s with moduleTime := s.moduleTime + 1 }

@[simp] theorem State.keepCal_roles (s : State) (e : Eng) (classes : BitVec 16) :
    (s.keepCal e classes).offTraffic.roles = s.offTraffic.roles := by simp [State.keepCal]

@[simp] theorem State.setAdc_roles (s : State) (e : Eng) (conv : Fin 4) (a : Adc) :
    (s.setAdc e conv a).offTraffic.roles = s.offTraffic.roles := by simp [State.setAdc]

@[simp] theorem State.adcApply_roles (s : State) (e : Eng) (conv : Fin 4) :
    (s.adcApply e conv).offTraffic.roles = s.offTraffic.roles := by
  unfold State.adcApply
  dsimp only
  (repeat' split) <;> simp

@[simp] theorem State.dacApply_roles (s : State) (e : Eng) (d : Fin 4) :
    (s.dacApply e d).offTraffic.roles = s.offTraffic.roles := by
  unfold State.dacApply
  dsimp only
  split <;> simp

@[simp] theorem State.calHold_roles (s : State) (e : Eng) (on : Bool) :
    (s.calHold e on).offTraffic.roles = s.offTraffic.roles := by simp [State.calHold]

@[simp] theorem State.setSlot_roles (s : State) (n : Nat) (k : KeySlot) :
    (s.setSlot n k).offTraffic.roles = s.offTraffic.roles := by simp [State.setSlot]

@[simp] theorem State.loadKeys_roles (s : State) (vs : List (Nat × KeyValue)) :
    (s.loadKeys vs).offTraffic.roles = s.offTraffic.roles := by simp [State.loadKeys]

@[simp] theorem State.keysUsable_roles (s : State) (p : Hp) (slots : List Nat) :
    (s.keysUsable p slots).offTraffic.roles = s.offTraffic.roles := by
  unfold State.keysUsable
  dsimp only
  split <;> simp

@[simp] theorem State.restartCipher_roles (s : State) (n : Nat) (tx : Bool) :
    (s.restartCipher n tx).offTraffic.roles = s.offTraffic.roles := by simp [State.restartCipher]

@[simp] theorem State.rewriteTx_roles (s : State) (n : Nat) :
    (s.rewriteTx n).offTraffic.roles = s.offTraffic.roles := by
  unfold State.rewriteTx
  dsimp only
  split <;> simp

@[simp] theorem State.rewriteRx_roles (s : State) (n : Nat) :
    (s.rewriteRx n).offTraffic.roles = s.offTraffic.roles := by simp [State.rewriteRx]

@[simp] theorem State.noteRewrite_roles (s : State) (tok : BitVec 32) (slots : List Nat) :
    (s.noteRewrite tok slots).offTraffic.roles = s.offTraffic.roles := by simp [State.noteRewrite]

@[simp] theorem State.retireToken_roles (s : State) (tok : BitVec 32) :
    (s.retireToken tok).offTraffic.roles = s.offTraffic.roles := by simp [State.retireToken]

@[simp] theorem State.keysTx_roles (s : State) (tok : BitVec 32) :
    (s.keysTx tok).offTraffic.roles = s.offTraffic.roles := by simp [State.keysTx]

@[simp] theorem State.stampRewrites_roles (s : State) (p : Rewrite → Bool) :
    (s.stampRewrites p).offTraffic.roles = s.offTraffic.roles := by simp [State.stampRewrites]

@[simp] theorem State.keysRx_roles (s : State) (tok : BitVec 32) :
    (s.keysRx tok).offTraffic.roles = s.offTraffic.roles := by simp [State.keysRx]

@[simp] theorem State.keysBoth_roles (s : State) (slots : List Nat) :
    (s.keysBoth slots).offTraffic.roles = s.offTraffic.roles := by simp [State.keysBoth]

@[simp] theorem State.endRewrite_roles (s : State) (w : Rewrite) :
    (s.endRewrite w).offTraffic.roles = s.offTraffic.roles := by
  unfold State.endRewrite
  dsimp only
  split <;> simp

@[simp] theorem State.erasePoint_roles (s : State) (j : EraseJob) :
    (s.erasePoint j).offTraffic.roles = s.offTraffic.roles := by
  unfold State.erasePoint
  exact foldl_roles _ _ (fun _ _ => by simp) s

@[simp] theorem State.erasePoints_roles (s : State) :
    s.erasePoints.offTraffic.roles = s.offTraffic.roles := by simp [State.erasePoints]

@[simp] theorem State.eraseDone_roles (s : State) (j : EraseJob) :
    (s.eraseDone j).offTraffic.roles = s.offTraffic.roles := by
  unfold State.eraseDone
  simp only [State.cmdDone_offTraffic, State.raise_offTraffic]
  exact foldl_roles _ _ (fun _ _ => by simp) s

@[simp] theorem State.lateCommits_roles (s : State) (old new : Nat) :
    (s.lateCommits old new).offTraffic.roles = s.offTraffic.roles := by simp [State.lateCommits]

@[simp] theorem State.stepDomain_roles (s : State) (d : Fin 2) (amount : Int) (cause : Byte) :
    (s.stepDomain d amount cause).offTraffic.roles = s.offTraffic.roles := by simp [State.stepDomain]

@[simp] theorem State.servoSteps_roles (s : State) : s.servoSteps.offTraffic.roles = s.offTraffic.roles := by
  unfold State.servoSteps; apply foldl_roles; intro s d; split <;> simp

@[simp] theorem State.hostHold_roles (s : State) (e : Eng) (hold : BitVec 6) :
    (s.hostHold e hold).offTraffic.roles = s.offTraffic.roles := by simp [State.hostHold]

@[simp] theorem State.putResult_roles (s : State) (r : GbResult) :
    (s.putResult r).offTraffic.roles = s.offTraffic.roles := by
  unfold State.putResult
  dsimp only
  (repeat' split) <;> simp

@[simp] theorem State.resetCics_roles (s : State) (mask : BitVec 16) :
    (s.resetCics mask).offTraffic.roles = s.offTraffic.roles := by simp [State.resetCics]

@[simp] theorem State.entryResult_roles (s : State) (n : Fin 16) (e : GaugeEntry) (raw : BitVec 12) :
    (s.entryResult n e raw).offTraffic.roles = s.offTraffic.roles := by
  unfold State.entryResult
  dsimp only
  (repeat' split) <;> simp

@[simp] theorem State.holdEngines_roles (s : State) (on : Bool) :
    (s.holdEngines on).offTraffic.roles = s.offTraffic.roles := by simp [State.holdEngines]

@[simp] theorem State.checkHold_roles (s : State) (on : Bool) (data : Bytes) :
    (s.checkHold on data).offTraffic.roles = s.offTraffic.roles := by simp [State.checkHold]

@[simp] theorem State.judgeCheck_roles (s : State) (ga : BitVec 12) (gb : BitVec 12) :
    (s.judgeCheck ga gb).offTraffic.roles = s.offTraffic.roles := by simp [State.judgeCheck]

@[simp] theorem State.compareCheck_roles (s : State) (ga : BitVec 12) (raw : BitVec 12) :
    (s.compareCheck ga raw).offTraffic.roles = s.offTraffic.roles := by simp [State.compareCheck]

@[simp] theorem State.makeCheck_roles (s : State) : s.makeCheck.offTraffic.roles = s.offTraffic.roles := by
  unfold State.makeCheck
  dsimp only
  split <;> simp

@[simp] theorem State.gbNext_roles (s : State) : s.gbNext.offTraffic.roles = s.offTraffic.roles := by
  unfold State.gbNext
  dsimp only
  (repeat' split) <;> simp

@[simp] theorem State.gbEnd_roles (s : State) (raw : BitVec 12) :
    (s.gbEnd raw).offTraffic.roles = s.offTraffic.roles := by
  unfold State.gbEnd
  dsimp only
  (repeat' split) <;> simp

@[simp] theorem State.gbDrop_roles (s : State) : s.gbDrop.offTraffic.roles = s.offTraffic.roles := by
  unfold State.gbDrop
  dsimp only
  split <;> simp

@[simp] theorem State.passTick_roles (s : State) :
    s.passTick.offTraffic.roles = s.offTraffic.roles := by simp [State.passTick]

@[simp] theorem State.gaCycle_roles (s : State) (codes : List (BitVec 12)) (check : BitVec 12) :
    (s.gaCycle codes check).offTraffic.roles = s.offTraffic.roles := by
  unfold State.gaCycle
  dsimp only
  (repeat' split) <;> simp

@[simp] theorem State.gaugeCommit_roles (s : State) : s.gaugeCommit.offTraffic.roles = s.offTraffic.roles := by
  unfold State.gaugeCommit
  dsimp only
  split <;> simp

@[simp] theorem State.calibrated_roles (s : State) (offsets : List Int) (gain : Int) :
    (s.calibrated offsets gain).offTraffic.roles = s.offTraffic.roles := by
  unfold State.calibrated
  dsimp only
  split <;> simp

@[simp] theorem State.updInput_roles (s : State) (i : Fin 14) (f : HwInput → HwInput) :
    (s.updInput i f).offTraffic.roles = s.offTraffic.roles := by simp [State.updInput]

@[simp] theorem State.hwEvaluate_roles (s : State) (commit : Bool) :
    (s.hwEvaluate commit).offTraffic.roles = s.offTraffic.roles := by
  unfold State.hwEvaluate
  dsimp only
  (repeat' split) <;> simp

@[simp] theorem State.abandon_roles (s : State) :
    s.abandon.offTraffic.roles = s.offTraffic.roles := by simp [State.abandon]

@[simp] theorem State.enterHoldover_roles (s : State) (lost : Byte) :
    (s.enterHoldover lost).offTraffic.roles = s.offTraffic.roles := by simp [State.enterHoldover]

@[simp] theorem State.toHoldover_roles (s : State) (lost lostBy : Byte) :
    (s.toHoldover lost lostBy).offTraffic.roles = s.offTraffic.roles := by simp [State.toHoldover]

@[simp] theorem State.holdoverTick_roles (s : State) :
    s.holdoverTick.offTraffic.roles = s.offTraffic.roles := by simp [State.holdoverTick]

@[simp] theorem State.forceOut_roles (s : State) (lost : Byte) :
    (s.forceOut lost).offTraffic.roles = s.offTraffic.roles := by simp [State.forceOut]

@[simp] theorem State.disqualify_roles (s : State) (i : Fin 14) (cause : BitVec 4) :
    (s.disqualify i cause).offTraffic.roles = s.offTraffic.roles := by simp [State.disqualify]

@[simp] theorem State.windowEnd_roles (s : State) (phase : Int) :
    (s.windowEnd phase).offTraffic.roles = s.offTraffic.roles := by simp [State.windowEnd]

@[simp] theorem State.hwTick_roles (s : State) :
    s.hwTick.offTraffic.roles = s.offTraffic.roles := by simp [State.hwTick]

@[simp] theorem State.timebaseTick_roles (s : State) : s.timebaseTick.offTraffic.roles = s.offTraffic.roles := by
  simp [State.timebaseTick]

@[simp] theorem State.phaseStep_roles (s : State) (amount : Int) (when_ : Byte) :
    (s.phaseStep amount when_).offTraffic.roles = s.offTraffic.roles := by simp [State.phaseStep]

@[simp] theorem State.applyPending_roles (s : State) : s.applyPending.offTraffic.roles = s.offTraffic.roles := by
  unfold State.applyPending
  dsimp only
  split <;> simp

@[simp] theorem State.ppsEdge_roles (s : State) (n : Fin 2) :
    (s.ppsEdge n).offTraffic.roles = s.offTraffic.roles := by simp [State.ppsEdge]

@[simp] theorem State.synceCommit_roles (s : State) (old : Vector (Byte × Byte) 4) :
    (s.synceCommit old).offTraffic.roles = s.offTraffic.roles := by simp [State.synceCommit]

@[simp] theorem State.reselect_roles (s : State) :
    s.reselect.offTraffic.roles = s.offTraffic.roles := by simp [State.reselect]

@[simp] theorem State.selectionCommit_roles (s : State) :
    s.selectionCommit.offTraffic.roles = s.offTraffic.roles := by simp [State.selectionCommit]

@[simp] theorem State.evaluateAfter_roles (s : State) :
    s.evaluateAfter.offTraffic.roles = s.offTraffic.roles := by simp [State.evaluateAfter]

@[simp] theorem State.hwCommit_roles (s : State) : s.hwCommit.offTraffic.roles = s.offTraffic.roles := by
  unfold State.hwCommit
  dsimp only
  split <;> simp

@[simp] theorem State.applyTdSet_roles (s : State) (d : Fin 2) : (s.applyTdSet d).offTraffic.roles = s.offTraffic.roles := by
  unfold State.applyTdSet
  dsimp only
  split <;> simp

@[simp] theorem State.setCommit_roles (s : State) (k : Commit) : (s.setCommit k).offTraffic.roles = s.offTraffic.roles := by
  simp [State.setCommit]

@[simp] theorem State.endCommit_roles (s : State) (k : Commit) (executed : Bool) :
    (s.endCommit k executed).offTraffic.roles = s.offTraffic.roles := by simp [State.endCommit]

@[simp] theorem State.takeEngine_roles (s : State) (e : Eng) (classes : BitVec 16) (side : Option HeldSide) :
    (s.takeEngine e classes side).offTraffic.roles = s.offTraffic.roles := by simp [State.takeEngine]

@[simp] theorem State.txSide_roles (s : State) (e : Eng) (old : EngineParams) :
    (s.txSide e old).offTraffic.roles = s.offTraffic.roles := by simp [State.txSide]

@[simp] theorem State.twinEnd_roles (s : State) (e : Eng) :
    (s.twinEnd e).offTraffic.roles = s.offTraffic.roles := by simp [State.twinEnd]

@[simp] theorem State.rxSide_roles (s : State) (e : Eng) (old : EngineParams) :
    (s.rxSide e old).offTraffic.roles = s.offTraffic.roles := by simp [State.rxSide]

@[simp] theorem State.twinStep_roles (s : State) (old : Vector EngineParams 4) :
    (s.twinStep old).offTraffic.roles = s.offTraffic.roles := by simp [State.twinStep]

@[simp] theorem State.txSides_roles (s : State) (es : List Eng) (old : Vector EngineParams 4) :
    (s.txSides es old).offTraffic.roles = s.offTraffic.roles := by simp [State.txSides]

@[simp] theorem State.tokenTx_roles (s : State) (k : Commit) :
    (s.tokenTx k).offTraffic.roles = s.offTraffic.roles := by simp [State.tokenTx]

@[simp] theorem State.tokenRx_roles (s : State) (k : Commit) :
    (s.tokenRx k).offTraffic.roles = s.offTraffic.roles := by simp [State.tokenRx]

@[simp] theorem State.applyLocal_roles (s : State) (k : Commit) :
    (s.applyLocal k).offTraffic.roles = s.offTraffic.roles := by simp [State.applyLocal]

@[simp] theorem State.runCommit_roles (s : State) (k : Commit) : (s.runCommit k).offTraffic.roles = s.offTraffic.roles := by
  unfold State.runCommit
  dsimp only
  split <;> simp

@[simp] theorem State.settleCommit_roles (s : State) (id : Nat) :
    (s.settleCommit id).offTraffic.roles = s.offTraffic.roles := by
  unfold State.settleCommit
  dsimp only
  (repeat' split) <;> simp

@[simp] theorem State.takeSide_roles (s : State) (k : Commit) (e : Eng) (side : HeldSide) (first : Bool) :
    (s.takeSide k e side first).offTraffic.roles = s.offTraffic.roles := by
  unfold State.takeSide
  dsimp only
  (repeat' split) <;> simp

@[simp] theorem State.pairTx_roles (s : State) (k : Commit) : (s.pairTx k).offTraffic.roles = s.offTraffic.roles := by
  simp [State.pairTx]

@[simp] theorem State.pairRx_roles (s : State) (k : Commit) (e : Eng) :
    (s.pairRx k e).offTraffic.roles = s.offTraffic.roles := by simp [State.pairRx]

@[simp] theorem State.sendCann_roles (s : State) (k : Commit) (phase : BitVec 2) :
    (s.sendCann k phase).offTraffic.roles = s.offTraffic.roles := by simp [State.sendCann]

@[simp] theorem State.sendCack_roles (s : State) (e : Eng) (token : BitVec 32) (target : BitVec 32)
    (response : BitVec 4) :
    (s.sendCack e token target response).offTraffic.roles = s.offTraffic.roles := by simp [State.sendCack]

@[simp] theorem State.sendAbort_roles (s : State) (k : Commit) : (s.sendAbort k).offTraffic.roles = s.offTraffic.roles := by
  simp [State.sendAbort]

@[simp] theorem State.disarm_roles (s : State) (k : Commit) (token : BitVec 32) :
    (s.disarm k token).offTraffic.roles = s.offTraffic.roles := by
  unfold State.disarm
  split <;> simp

@[simp] theorem State.abstain_roles (s : State) (k : Commit) (mismatch : Bool) (b : Byte) :
    (s.abstain k mismatch b).offTraffic.roles = s.offTraffic.roles := by simp [State.abstain]

@[simp] theorem State.confirm_roles (s : State) (k : Commit) : (s.confirm k).offTraffic.roles = s.offTraffic.roles := by
  simp [State.confirm]

@[simp] theorem State.splitCommit_roles (s : State) (k : Commit) :
    (s.splitCommit k).offTraffic.roles = s.offTraffic.roles := by simp [State.splitCommit]

@[simp] theorem State.startPair_roles (s : State) (k : Commit) :
    (s.startPair k).offTraffic.roles = s.offTraffic.roles := by
  unfold State.startPair
  dsimp only
  split <;> simp

@[simp] theorem State.acknowledge_roles (s : State) (k : Commit) (e : Eng) (fnr : BitVec 32) (target : BitVec 32) :
    (s.acknowledge k e fnr target).offTraffic.roles = s.offTraffic.roles := by simp [State.acknowledge]

@[simp] theorem State.onAnnounce_roles (s : State) (e : Eng) (fnr : BitVec 32) (c : Cann) :
    (s.onAnnounce e fnr c).offTraffic.roles = s.offTraffic.roles := by
  unfold State.onAnnounce
  dsimp only
  split <;> simp

@[simp] theorem State.onConfirm_roles (s : State) (e : Eng) (fnr : BitVec 32) (c : Cann) :
    (s.onConfirm e fnr c).offTraffic.roles = s.offTraffic.roles := by
  unfold State.onConfirm
  (repeat' split) <;> simp

@[simp] theorem State.onAbort_roles (s : State) (e : Eng) (c : Cann) :
    (s.onAbort e c).offTraffic.roles = s.offTraffic.roles := by
  unfold State.onAbort
  dsimp only
  split <;> simp

@[simp] theorem State.onCann_roles (s : State) (e : Eng) (fnr : BitVec 32) (c : Cann) :
    (s.onCann e fnr c).offTraffic.roles = s.offTraffic.roles := by
  unfold State.onCann
  dsimp only
  split <;> simp

@[simp] theorem State.onAck_roles (s : State) (e : Eng) (k : Commit) (target : BitVec 32) :
    (s.onAck e k target).offTraffic.roles = s.offTraffic.roles := by simp [State.onAck]

@[simp] theorem State.onLateAbort_roles (s : State) (e : Eng) (c : Cack) :
    (s.onLateAbort e c).offTraffic.roles = s.offTraffic.roles := by
  unfold State.onLateAbort
  split
  · rfl
  · split
    · rw [State.raise_offTraffic]
      exact foldl_updEng_roles _ _ _ s
    · rfl

@[simp] theorem State.onCack_roles (s : State) (e : Eng) (c : Cack) :
    (s.onCack e c).offTraffic.roles = s.offTraffic.roles := by
  unfold State.onCack
  (repeat' split) <;> simp

@[simp] theorem State.ackDeadline_roles (s : State) (k : Commit) :
    (s.ackDeadline k).offTraffic.roles = s.offTraffic.roles := by simp [State.ackDeadline]

@[simp] theorem State.dropCommits_roles (s : State) : s.dropCommits.offTraffic.roles = s.offTraffic.roles := by
  simp [State.dropCommits]

@[simp] theorem State.absorb_roles (s : State) (e : Eng) (noise : Quad) :
    (s.absorb e noise).offTraffic.roles = s.offTraffic.roles := by simp [State.absorb]

@[simp] theorem State.advance_roles (s : State) (e : Eng) (w : WindowPosition) (o : Outcome) :
    (s.advance e w o).offTraffic.roles = s.offTraffic.roles := by
  have h (f : Engine → Engine) (n : Nat) :
      ({ s.updEng e f with fresh := n } : State).offTraffic.roles = s.offTraffic.roles := rfl
  unfold State.advance
  dsimp only
  split
  · simp only [State.count_offTraffic]
    exact h _ _
  · simp only [State.count_offTraffic, State.raise_offTraffic]
    exact h _ _

@[simp] theorem State.atCommitBoundary_roles (s : State) (id : Nat) :
    (s.atCommitBoundary id).offTraffic.roles = s.offTraffic.roles := by
  unfold State.atCommitBoundary; apply State.atBoundary_roles; intro x; split
  · split <;> simp
  · rfl

@[simp] theorem State.atPairTx_roles (s : State) (id : Nat) : (s.atPairTx id).offTraffic.roles = s.offTraffic.roles := by
  unfold State.atPairTx; apply State.atBoundary_roles; intro x; split
  · split <;> simp
  · rfl

@[simp] theorem State.pairRxDue_roles (s : State) (id : Nat) : (s.pairRxDue id).offTraffic.roles = s.offTraffic.roles := by
  unfold State.pairRxDue; apply foldl_roles; intro s e; split
  · split <;> simp
  · rfl

@[simp] theorem State.payload_roles (s : State) (e : Eng) :
    (s.payload e).1.offTraffic.roles = s.offTraffic.roles := by
  have h (f : Cp → List Nat) (l : List Cp) (a : State × List (List Nat × List Bytes)) :
      (l.foldl (fun a c => addPort e (f c) a c) a).1.offTraffic = a.1.offTraffic :=
    foldl_keeps (fun a : State × List (List Nat × List Bytes) => a.1.offTraffic) (fun a c => by simp [addPort]) l a
  unfold State.payload
  dsimp only
  split <;> simp [h]

@[simp] theorem State.scTake_roles (s : State) (e : Eng) :
    (s.scTake e).1.offTraffic.roles = s.offTraffic.roles := by simp [State.scTake]

@[simp] theorem State.scAbsent_roles (s : State) (e : Eng) (key : BitVec 32) :
    (s.scAbsent e key).offTraffic.roles = s.offTraffic.roles := by simp [State.scAbsent]

@[simp] theorem State.scSend_roles (s : State) (e : Eng) (fn : BitVec 32) :
    (s.scSend e fn).1.offTraffic.roles = s.offTraffic.roles := by
  unfold State.scSend
  dsimp only
  (repeat' split) <;> simp

@[simp] theorem State.beginFrame_roles (s : State) (e : Eng) (tiles : List Bytes) :
    (s.beginFrame e tiles).offTraffic.roles = s.offTraffic.roles := by simp [State.beginFrame]

@[simp] theorem State.beginFrames_roles (s : State) (e : Eng) :
    (s.beginFrames e).offTraffic.roles = s.offTraffic.roles := by
  unfold State.beginFrames
  dsimp only
  (repeat' split) <;> simp

@[simp] theorem State.deliverBy_roles (s : State) (e : Eng) (p : EngineParams) (tiles : List Bytes) (replaced : Bool)
    (t1 : BitVec 48) :
    (s.deliverBy e p tiles replaced t1).offTraffic.roles = s.offTraffic.roles := by simp [State.deliverBy]

@[simp] theorem State.deliverTiles_roles (s : State) (e : Eng) (tiles : List Bytes) (replaced : Bool) :
    (s.deliverTiles e tiles replaced).offTraffic.roles = s.offTraffic.roles := by simp [State.deliverTiles]

@[simp] theorem State.twinSkew_roles (s : State) (low : Eng) :
    (s.twinSkew low).offTraffic.roles = s.offTraffic.roles := by
  unfold State.twinSkew
  dsimp only
  split <;> simp

@[simp] theorem State.twinDefect_roles (s : State) (low : Eng) (lower higher : Bool) :
    (s.twinDefect low lower higher).offTraffic.roles = s.offTraffic.roles := by simp [State.twinDefect]

@[simp] theorem State.noteDelivered_roles (s : State) (low : Eng) (fn : BitVec 32) :
    (s.noteDelivered low fn).offTraffic.roles = s.offTraffic.roles := by simp [State.noteDelivered]

@[simp] theorem State.twinDeliver_roles (s : State) (low : Eng) (a : Option TwinCopy) (b : Option TwinCopy) :
    (s.twinDeliver low a b).offTraffic.roles = s.offTraffic.roles := by
  unfold State.twinDeliver
  dsimp only
  (repeat' split) <;> simp

theorem twinDrain_roles (low : Eng) (n : Nat) (s : State) :
    (State.twinDrain low n s).offTraffic.roles = s.offTraffic.roles := by
  induction n generalizing s with
  | zero => rfl
  | succ n ih =>
    unfold State.twinDrain
    dsimp only
    (repeat' split) <;> simp [ih]

@[simp] theorem State.checkAps_roles (s : State) (e : Eng) :
    (s.checkAps e).offTraffic.roles = s.offTraffic.roles := by simp [State.checkAps]

@[simp] theorem State.twinCopy_roles (s : State) (e : Eng) (fn : BitVec 32) (good : Bool) (f : RxFrame)
    (tiles : List Bytes) : (s.twinCopy e fn good f tiles).offTraffic.roles = s.offTraffic.roles := by
  unfold State.twinCopy
  dsimp only
  split
  · rfl
  · rw [twinDrain_roles, State.updEng_roles]

@[simp] theorem State.scReceive_roles (s : State) (e : Eng) (fn : BitVec 32) (linkid : Byte) (o : Overhead) :
    (s.scReceive e fn linkid o).offTraffic.roles = s.offTraffic.roles := by
  unfold State.scReceive
  dsimp only
  (repeat' split) <;> simp

@[simp] theorem State.depReceive_roles (s : State) (e : Eng) (o : Overhead) :
    (s.depReceive e o).offTraffic.roles = s.offTraffic.roles := by simp [State.depReceive]

@[simp] theorem State.smallDefects_roles (s : State) (e : Eng) (h : BitVec 64) (o : Overhead) :
    (s.smallDefects e h o).offTraffic.roles = s.offTraffic.roles := by simp [State.smallDefects]

@[simp] theorem State.measureLine_roles (s : State) (e : Eng) (o : Overhead) (arrival : Nat) :
    (s.measureLine e o arrival).offTraffic.roles = s.offTraffic.roles := by
  unfold State.measureLine
  dsimp only
  (repeat' split) <;> simp

@[simp] theorem State.acceptFrame_roles (s : State) (e : Eng) (f : RxFrame) (o : Overhead) :
    (s.acceptFrame e f o).offTraffic.roles = s.offTraffic.roles := by simp [State.acceptFrame]

@[simp] theorem State.rxTrack_roles (s : State) (e : Eng) (code : Nat) :
    (s.rxTrack e code).offTraffic.roles = s.offTraffic.roles := by simp [State.rxTrack]

@[simp] theorem State.enterSync_roles (s : State) (e : Eng) (k : Candidate) (code : Nat) :
    (s.enterSync e k code).offTraffic.roles = s.offTraffic.roles := by simp [State.enterSync]

@[simp] theorem State.huntFrame_roles (s : State) (e : Eng) (f : RxFrame) :
    (s.huntFrame e f).offTraffic.roles = s.offTraffic.roles := by
  unfold State.huntFrame
  dsimp only
  split <;> simp

@[simp] theorem State.leaveSync_roles (s : State) (e : Eng) :
    (s.leaveSync e).offTraffic.roles = s.offTraffic.roles := by simp [State.leaveSync]

@[simp] theorem State.deliverFrame_roles (s : State) (e : Eng) (fn : BitVec 32) (good accepted : Bool) (f : RxFrame)
    (damaged : Bool) (tiles : List Bytes) :
    (s.deliverFrame e fn good accepted f damaged tiles).offTraffic.roles = s.offTraffic.roles := by
  unfold State.deliverFrame
  dsimp only
  (repeat' split) <;> simp [twinDrain_roles]

@[simp] theorem State.takeFrame_roles (s : State) (e : Eng) (f : RxFrame) :
    (s.takeFrame e f).offTraffic.roles = s.offTraffic.roles := by simp [State.takeFrame]

@[simp] theorem State.rxSwitches_roles (s : State) (e : Eng) : (s.rxSwitches e).offTraffic.roles = s.offTraffic.roles := by
  simp [State.rxSwitches]

@[simp] theorem State.syncFrame_roles (s : State) (e : Eng) (f : RxFrame) :
    (s.syncFrame e f).offTraffic.roles = s.offTraffic.roles := by simp [State.syncFrame]

@[simp] theorem State.frameRx_roles (s : State) (e : Eng) (f : RxFrame) :
    (s.frameRx e f).offTraffic.roles = s.offTraffic.roles := by
  unfold State.frameRx
  (repeat' split) <;> simp

@[simp] theorem State.scSlot_roles (s : State) (e : Eng) (b : Byte) (valid : Bool) :
    (s.scSlot e b valid).offTraffic.roles = s.offTraffic.roles := by simp [State.scSlot]

@[simp] theorem State.failTile_roles (s : State) (e : Eng) : (s.failTile e).offTraffic.roles = s.offTraffic.roles := by
  simp [State.failTile]

@[simp] theorem State.receive_roles (s : State) (e : Eng) (samples : List Quad) :
    (s.receive e samples).offTraffic.roles = s.offTraffic.roles := by simp [State.receive]

@[simp] theorem State.silentFrame_roles (s : State) (e : Eng) :
    (s.silentFrame e).offTraffic.roles = s.offTraffic.roles := by simp [State.silentFrame]

@[simp] theorem State.tickWith_roles (s : State) (at_ : State → State) (h : ∀ x, (at_ x).offTraffic.roles = x.offTraffic.roles) :
    (s.tickWith at_).offTraffic.roles = s.offTraffic.roles := by
  have hdrain (s : State) : (twinPairs.foldl (fun s p =>
      if (s.eng p.1).rxParams.isTwin then s else State.twinDrain p.1 4096 s) s).offTraffic.roles = s.offTraffic.roles :=
    foldl_roles _ _ (fun s p => by simp [twinDrain_roles]) s
  refine (congrArg State.roles (State.drain_offTraffic _)).trans ?_
  refine (foldl_roles _ _ (fun t e => t.beginFrames_roles e) _).trans ?_
  refine (foldl_roles _ _ (fun t e => t.silentFrame_roles e) _).trans ?_
  exact (hdrain _).trans ((h _).trans (by simp))

@[simp] theorem State.readSensors_roles (s : State) (temps : List (BitVec 16)) :
    (s.readSensors temps).offTraffic.roles = s.offTraffic.roles := by simp [State.readSensors]

@[simp] theorem State.readZone_roles (s : State) (temps : List (Option Int)) (z : Fin 9) :
    (s.readZone temps z).offTraffic.roles = s.offTraffic.roles := by simp [State.readZone]

@[simp] theorem State.readZones_roles (s : State) : s.readZones.offTraffic.roles = s.offTraffic.roles := by
  simp [State.readZones]

@[simp] theorem State.throttle_roles (s : State) (e : Eng) :
    (s.throttle e).offTraffic.roles = s.offTraffic.roles := by
  unfold State.throttle
  dsimp only
  split <;> simp

@[simp] theorem State.holdDark_roles (s : State) (e : Eng) (reason : Byte) :
    (s.holdDark e reason).offTraffic.roles = s.offTraffic.roles := by simp [State.holdDark]

@[simp] theorem State.shutdown_roles (s : State) (z : Fin 9) (t : Int) :
    (s.shutdown z t).offTraffic.roles = s.offTraffic.roles := by simp [State.shutdown]

@[simp] theorem State.noteRise_roles (s : State) : s.noteRise.offTraffic.roles = s.offTraffic.roles := by
  simp [State.noteRise]

@[simp] theorem State.shutdownDue_roles (s : State) : s.shutdownDue.offTraffic.roles = s.offTraffic.roles := by
  simp [State.shutdownDue]

@[simp] theorem State.weirReading_roles (s : State) (temps : List (BitVec 16)) :
    (s.weirReading temps).offTraffic.roles = s.offTraffic.roles := by simp [State.weirReading]

@[simp] theorem State.unhold_roles (s : State) (e : Eng) :
    (s.unhold e).offTraffic.roles = s.offTraffic.roles := by simp [State.unhold]

@[simp] theorem State.dropRunning_roles (s : State) :
    s.dropRunning.offTraffic.roles = s.offTraffic.roles := by simp [State.dropRunning]

@[simp] theorem State.recall_roles (s : State) :
    s.recall.offTraffic.roles = s.offTraffic.roles := by simp [State.recall]

@[simp] theorem State.answerRunning_roles (s : State) : s.answerRunning.offTraffic.roles = s.offTraffic.roles := by
  simp [State.answerRunning]

@[simp] theorem State.noteVote_roles (s : State) (votes : Vector Bool 3) :
    (s.noteVote votes).offTraffic.roles = s.offTraffic.roles := by
  unfold State.noteVote
  split
  · rfl
  · split
    · rfl
    · rw [State.raise_offTraffic]
      rfl

@[simp] theorem State.read_roles (s : State) (p : Hp) : (s.read p).offTraffic.roles = s.offTraffic.roles := by
  unfold State.read
  dsimp only
  split <;> simp

@[simp] theorem State.switchCheck_roles (s : State) (e : Eng) (old : Engine) :
    (s.switchCheck e old).offTraffic.roles = s.offTraffic.roles := by simp [State.switchCheck]

@[simp] theorem State.shortEngine_roles (s : State) (l : List ShortMeasure) (e : Eng) :
    (s.shortEngine l e).offTraffic.roles = s.offTraffic.roles := by
  unfold State.shortEngine
  dsimp only
  split <;> simp

@[simp] theorem State.twinSwitch_roles (s : State) (e : Eng) :
    (s.twinSwitch e).offTraffic.roles = s.offTraffic.roles := by simp [State.twinSwitch]

@[simp] theorem State.shortClients_roles (s : State) : s.shortClients.offTraffic.roles = s.offTraffic.roles := by
  simp [State.shortClients]

@[simp] theorem State.longEngine_roles (s : State) (l : List LongMeasure) (e : Eng) :
    (s.longEngine l e).offTraffic.roles = s.offTraffic.roles := by
  unfold State.longEngine
  dsimp only
  split <;> simp

@[simp] theorem State.longReports_roles (s : State) (e : Eng) :
    (s.longReports e).offTraffic.roles = s.offTraffic.roles := by simp [State.longReports]

@[simp] theorem State.longGauge_roles (s : State) :
    s.longGauge.offTraffic.roles = s.offTraffic.roles := by simp [State.longGauge]

@[simp] theorem State.hwWarm_roles (s : State) : s.hwWarm.offTraffic.roles = s.offTraffic.roles := by
  unfold State.hwWarm
  (repeat' split) <;> simp

@[simp] theorem State.ovenWaited_roles (s : State) : s.ovenWaited.offTraffic.roles = s.offTraffic.roles := by
  simp [State.ovenWaited]

@[simp] theorem State.readStraps_roles (s : State) (rep : ReadyReport) :
    (s.readStraps rep).offTraffic.roles = s.offTraffic.roles := by simp [State.readStraps]

@[simp] theorem State.fuseEffect_roles (s : State) (f : FuseRow) :
    (s.fuseEffect f).offTraffic.roles = s.offTraffic.roles := by
  unfold State.fuseEffect
  dsimp only
  split <;> simp

@[simp] theorem State.fuseFault_roles (s : State) (f : FuseRow) : (s.fuseFault f).offTraffic.roles = s.offTraffic.roles := by
  simp [State.fuseFault]

@[simp] theorem State.readFuse_roles (s : State) (f : FuseRow) : (s.readFuse f).offTraffic.roles = s.offTraffic.roles := by
  unfold State.readFuse
  (repeat' split) <;> simp

@[simp] theorem State.readFuses_roles (s : State) (rep : ReadyReport) :
    (s.readFuses rep).offTraffic.roles = s.offTraffic.roles := by simp [State.readFuses]

@[simp] theorem State.calibrateGauge_roles (s : State) :
    s.calibrateGauge.offTraffic.roles = s.offTraffic.roles := by simp [State.calibrateGauge]

@[simp] theorem State.recordTrip_roles (s : State) :
    s.recordTrip.offTraffic.roles = s.offTraffic.roles := by simp [State.recordTrip]

@[simp] theorem State.announceReady_roles (s : State) (time : BitVec 32) :
    (s.announceReady time).offTraffic.roles = s.offTraffic.roles := by simp [State.announceReady]

@[simp] theorem State.immediateEffect_roles (s : State) (x : Immediate) :
    (s.immediateEffect x).offTraffic.roles = s.offTraffic.roles := by
  unfold State.immediateEffect
  (repeat' split) <;> simp

@[simp] theorem State.immediateEffects_roles (s : State) :
    s.immediateEffects.offTraffic.roles = s.offTraffic.roles := by simp [State.immediateEffects]

@[simp] theorem State.depEndDue_roles (s : State) (e : Eng) :
    (s.depEndDue e).offTraffic.roles = s.offTraffic.roles := by
  unfold State.depEndDue
  split
  · unfold execDepEnd eventIf event
    dsimp only
    (repeat' split) <;> simp
  · rfl

@[simp] theorem State.beforeTick_roles (s : State) : s.beforeTick.offTraffic.roles = s.offTraffic.roles := by
  unfold State.beforeTick
  rw [State.erasePoints_roles, State.atBoundary_roles _ _ State.immediateEffects_roles]
  refine (foldl_roles _ _ (fun t id => by rw [State.atPairTx_roles, State.atCommitBoundary_roles]) _).trans ?_
  rw [State.atBoundary_roles _ _ fun t => by simp]
  exact foldl_roles _ _ (fun t e => t.depEndDue_roles e) s

@[simp] theorem State.tdSetsDue_roles (s : State) : s.tdSetsDue.offTraffic.roles = s.offTraffic.roles := by
  unfold State.tdSetsDue; apply foldl_roles; intro s d; split
  · split <;> simp
  · rfl

@[simp] theorem State.deadlines_roles (s : State) (id : Nat) : (s.deadlines id).offTraffic.roles = s.offTraffic.roles := by
  unfold State.deadlines
  dsimp only
  (repeat' split) <;> simp

@[simp] theorem State.withinPeriod_roles (s : State) : s.withinPeriod.offTraffic.roles = s.offTraffic.roles := by
  simp [State.withinPeriod]

@[simp] theorem State.afterTick_roles (s : State) : s.afterTick.offTraffic.roles = s.offTraffic.roles := by
  simp [State.afterTick]

@[simp] theorem State.turnTo_roles (s : State) (p : Hp) : (s.turnTo p).offTraffic.roles = s.offTraffic.roles := by
  simp [State.turnTo]

end Sys2Proof.Machine
end

section
/-! A unit serves or has been called to serve, whatever step is taken (R464, R468 to R471): the pair's own operations keep
its roles sound, and every other command leaves them. -/

namespace Sys2Proof.Machine

/-! ## Sound roles -/

/-- What the unit that the referee watches is: standby once it has been called, active before and after. -/
def SupState.duty (p : SupState) : SupUnit :=
  match p.takeover, p.swap with
  | some _, _ => .standby
  | none, some w => if w.taken then .active else .standby
  | none, none => .active

/-- A running restore has its unit restoring, and the watched unit serves or has been called. -/
def SupState.Sound (p : SupState) : Prop :=
  (∀ x, p.restore = some x → p.units[x.target] = .restoring) ∧ p.units[p.watched] = p.duty

section
variable {p : SupState}

theorem SupState.watched_of_takeover {x : Takeover} (ht : p.takeover = some x) : p.watched = otherUnit x.failed := by
  simp [SupState.watched, ht]

theorem SupState.duty_of_takeover {x : Takeover} (ht : p.takeover = some x) : p.duty = .standby := by
  simp [SupState.duty, ht]

theorem SupState.duty_of_stable (ht : p.takeover = none) (hw : p.swap = none) : p.duty = .active := by
  simp [SupState.duty, ht, hw]

theorem SupState.watched_of_swap {w : Swap} (ht : p.takeover = none) (hw : p.swap = some w) :
    p.watched = if w.taken then p.active else otherUnit w.yielded := by
  simp [SupState.watched, ht, hw]

theorem SupState.duty_of_swap {w : Swap} (ht : p.takeover = none) (hw : p.swap = some w) :
    p.duty = if w.taken then .active else .standby := by
  simp [SupState.duty, ht, hw]

end

theorem State.pairOk_iff (s : State) : s.pairOk ↔ (s.sup.headless = false → s.sup.Sound) := by
  refine imp_congr_right fun _ => and_congr_right fun _ => ?_
  obtain ht | ⟨x, ht⟩ := Option.eq_none_or_eq_some s.sup.takeover
  · obtain hw | ⟨w, hw⟩ := Option.eq_none_or_eq_some s.sup.swap
    · simp [SupState.watched_of_stable ht hw, SupState.duty_of_stable ht hw, ht, hw]
    · cases h : w.taken <;> simp [SupState.watched_of_swap ht hw, SupState.duty_of_swap ht hw, ht, hw, h]
  · simp [SupState.watched_of_takeover ht, SupState.duty_of_takeover ht, ht]

theorem State.pairOk_of_roles {s t : State} (h : t.roles = s.roles) (hs : s.pairOk) : t.pairOk :=
  (show t.pairOk ↔ s.pairOk from by
    rw [show t.pairOk = State.pairOk { s with sup := t.roles } from rfl, h]; rfl).mpr hs

theorem SupState.duty_eq (p : SupState) : p.duty = .active ∨ p.duty = .standby := by
  unfold SupState.duty
  (repeat' split) <;> simp

/-- A unit that is failed or restoring is not the watched one. -/
theorem SupState.Sound.ne_watched {p : SupState} (h : p.Sound) {u : Fin 2}
    (hu : p.units[u] = .failed ∨ p.units[u] = .restoring) : u ≠ p.watched := by
  rintro rfl
  rw [h.2] at hu
  rcases p.duty_eq with hd | hd <;> simp [hd] at hu

theorem units_set (l : Vector SupUnit 2) (u v : Fin 2) (m : SupUnit) :
    (l.set u m)[v] = if v = u then m else l[v] := by
  by_cases h : v = u
  · simp [h]
  · rw [if_neg h]
    exact Vector.getElem_set_ne _ _ fun hv => h (Fin.ext hv.symm)

/-- The pair after one unit's state is set: sound if the watched unit is still what it should be, and a restore's unit
restoring. -/
theorem SupState.Sound.set {p q : SupState} (hp : p.Sound) {u v : Fin 2} {m : SupUnit}
    (hunits : q.units = p.units.set u m)
    (hrestore : ∀ x, q.restore = some x → if x.target = u then m = .restoring else p.restore = some x)
    (hwatched : q.watched = v) (hduty : (if v = u then m else p.units[v]) = q.duty) : q.Sound := by
  subst hwatched
  refine ⟨fun x hx => ?_, ?_⟩
  · have h := hrestore x hx
    rw [hunits, units_set]
    split
    case isTrue hu => rwa [if_pos hu] at h
    case isFalse hu => exact hp.1 x (by rwa [if_neg hu] at h)
  · rw [hunits, units_set]
    exact hduty

/-! ## The pair's own operations -/

section
variable {p : SupState} (hp : p.Sound)
include hp

/-- A restore starts of a unit that is failed, which is not the watched one. -/
theorem SupState.Sound.startRestore {u : Fin 2} (hu : p.units[u] = .failed) (issuer : Option Deferred) :
    (p.startRestore u issuer).Sound := by
  refine hp.set rfl (fun x hx => ?_) rfl ?_
  · cases hx
    exact (if_pos rfl).mpr rfl
  · show (if p.watched = u then _ else _) = p.duty
    rw [if_neg fun h => hp.ne_watched (.inl hu) h.symm]
    exact hp.2

theorem SupState.Sound.startAuto {u : Fin 2} (hu : p.units[u] = .failed) (now : BitVec 48) :
    (p.startAuto u now).Sound := hp.startRestore hu none

theorem SupState.Sound.of_same {q : SupState} (hunits : q.units = p.units) (hrestore : q.restore = p.restore)
    (hwatched : q.watched = p.watched) (hduty : q.duty = p.duty) : q.Sound := by
  refine ⟨fun x hx => ?_, ?_⟩
  · rw [hunits]
    exact hp.1 x (hrestore ▸ hx)
  · simp only [hunits, hwatched, hduty, hp.2]

/-- The active unit yields, and the standby is called (R470). -/
theorem SupState.Sound.yield {q : SupState} {w : Swap} (hunits : q.units = p.units.set p.active .standby)
    (hswap : q.swap = some w) (hw : w.yielded = p.active) (huntaken : w.taken = false) (ht : q.takeover = none)
    (hrestore : q.restore = none) (hother : p.units[p.other] = .standby) : q.Sound := by
  have hwatched := SupState.watched_of_swap ht hswap
  have hduty := SupState.duty_of_swap ht hswap
  rw [huntaken, if_neg Bool.false_ne_true] at hwatched hduty
  rw [hw] at hwatched
  refine hp.set hunits (fun x hx => by simp [hrestore] at hx) hwatched ?_
  rw [if_neg (otherUnit_ne _), hduty]
  exact hother

/-- The watched unit fails, and the standby is called (R468). -/
theorem SupState.Sound.callStandby {x : Takeover} (hx : x.failed = p.watched)
    (hother : p.units[otherUnit p.watched] = .standby) (now : BitVec 48) (w : Option Swap) :
    ({ p.fail p.watched x.cause now with missed := 0, takeover := some x, swap := w } : SupState).Sound := by
  refine hp.set (u := p.watched) (m := .failed) rfl (fun y hy => ?_)
    (v := otherUnit p.watched) ?_ ?_
  · have hy : p.restore = some y := hy
    have hne : y.target ≠ p.watched := hp.ne_watched (.inr (hp.1 y hy))
    rwa [if_neg hne]
  · rw [← hx]
    exact SupState.watched_of_takeover (x := x) rfl
  · rw [if_neg (otherUnit_ne _)]
    exact hother.trans (SupState.duty_of_takeover (x := x) rfl).symm

/-- The called unit serves (R468, R470). -/
theorem SupState.Sound.serve {q : SupState} (hunits : q.units = p.units.set p.watched .active)
    (hrestore : q.restore = p.restore) (hwatched : q.watched = p.watched) (hduty : q.duty = .active) : q.Sound := by
  refine hp.set hunits (fun x hx => ?_) hwatched ?_
  · rw [hrestore] at hx
    have hne : x.target ≠ p.watched := hp.ne_watched (.inr (hp.1 x hx))
    rwa [if_neg hne]
  · rw [if_pos rfl, hduty]

/-- A restore ends: its unit, which is not the watched one, is standby or failed again (R471). -/
theorem SupState.Sound.endRestore {q : SupState} {x : Restore} {m : SupUnit} (hx : p.restore = some x)
    (hunits : q.units = p.units.set x.target m) (hrestore : q.restore = none) (hwatched : q.watched = p.watched)
    (hduty : q.duty = p.duty) : q.Sound := by
  refine hp.set hunits (fun y hy => by simp [hrestore] at hy) hwatched ?_
  have hne : p.watched ≠ x.target := (hp.ne_watched (.inr (hp.1 x hx))).symm
  rw [hduty, if_neg hne]
  exact hp.2

end

/-- Both units failed and nothing running: headless, where nothing is asked of the roles. -/
theorem pairOk_of_headless {s : State} (h : s.sup.headless = true) : s.pairOk :=
  s.pairOk_iff.mpr fun hh => absurd (h.symm.trans hh) Bool.noConfusion

theorem pairOk_of_sound {s : State} (h : s.sup.Sound) : s.pairOk := s.pairOk_iff.mpr fun _ => h

section
variable {s : State} (hs : s.pairOk)
include hs

theorem State.resumeUnit_pairOk (u : Fin 2) : (s.resumeUnit u).pairOk := by
  unfold State.resumeUnit
  split
  case isTrue => exact hs
  case isFalse hdue =>
    split
    case isTrue hfailed =>
      have hh : s.sup.headless = false := by simp only [Bool.or_eq_true, not_or, Bool.not_eq_true] at hdue; exact hdue.2
      exact pairOk_of_sound ((s.pairOk_iff.mp hs hh).startAuto (by simpa using hfailed) _)
    case isFalse => exact State.pairOk_of_roles (s := s) rfl hs

theorem State.resumeAuto_pairOk : s.resumeAuto.pairOk := by
  rw [State.resumeAuto_eq]
  exact State.resumeUnit_pairOk (State.resumeUnit_pairOk hs 0) 1

theorem State.declare_pairOk (cause : Byte) (hh : s.sup.headless = false) : (s.declare cause).pairOk := by
  have hp := s.pairOk_iff.mp hs hh
  unfold State.declare
  extract_lets u t
  split
  case isTrue =>
    have h := (t.goHeadless_spec u cause).1
    exact pairOk_of_headless (congrArg (fun v => v.2.2) h)
  case isFalse hstandby =>
    have hsup : t.recall.sup = t.sup := congrArg Prod.fst t.recall_dutyView
    simp only [Bool.or_eq_true, not_or, bne_iff_ne, ne_eq, Decidable.not_not] at hstandby
    have hother : s.sup.units[otherUnit s.sup.watched] = .standby :=
      (otherUnit_getElem_set s.sup.units s.sup.watched .failed).symm.trans hstandby.2
    refine pairOk_of_sound ?_
    simp only [State.updSup, hsup]
    exact hp.callStandby (x := ⟨u, cause⟩) rfl hother s.moduleTime _

theorem State.pairOk_of_sup {t : State} (h : t.sup = s.sup) : t.pairOk :=
  State.pairOk_of_roles (congrArg SupState.roles h) hs

/-- The module runs headless, or the roles become sound. -/
theorem State.pairOk_of_served {t : State} (hh : t.sup.headless = s.sup.headless) (h : s.sup.Sound → t.sup.Sound) :
    t.pairOk :=
  t.pairOk_iff.mpr fun ht => h (s.pairOk_iff.mp hs (hh ▸ ht))

theorem State.takeoverComplete_pairOk (n : BitVec 16) : (s.takeoverComplete n).pairOk := by
  unfold State.takeoverComplete
  split
  case h_1 _ x hx =>
    extract_lets t u
    have hu : u.sup = (s.takeOver (otherUnit x.failed) x.cause n).sup := by simp [u, t, State.notDone_sup]
    have hserved : (u.updSup fun p => { p with swap := none }).pairOk := by
      refine State.pairOk_of_served hs (by simp [State.updSup, hu, State.takeOver]) fun hp => ?_
      have hwatched := SupState.watched_of_takeover hx
      have hv : (u.updSup fun p => { p with swap := none }).sup.watched = otherUnit x.failed := by
        simp [State.updSup, hu, State.takeOver, SupState.watched]
      refine hp.serve ?_ ?_ (hv.trans hwatched.symm) ?_
      · simp [State.updSup, hu, State.takeOver, hwatched]
      · simp [State.updSup, hu, State.takeOver]
      · simp [State.updSup, hu, State.takeOver, SupState.duty]
    exact State.pairOk_of_sup (State.resumeAuto_pairOk hserved) (State.evaluateAfter_sup _)
  case h_2 w ht hw =>
    split
    case isTrue => exact hs
    case isFalse huntaken =>
      have hserved : ((s.takeOver (otherUnit w.yielded) 4 n).updSup fun p => { p with
          swap := some { w with taken := true } }).pairOk := by
        refine State.pairOk_of_served hs (by simp [State.takeOver, State.updSup]) fun hp => ?_
        have hwatched := SupState.watched_of_swap ht hw
        rw [if_neg huntaken] at hwatched
        refine hp.serve ?_ ?_ (Eq.trans ?_ hwatched.symm) ?_
        · simp [State.updSup, State.takeOver, hwatched]
        · simp [State.updSup, State.takeOver]
        · simp [State.updSup, State.takeOver, SupState.watched]
        · simp [State.updSup, State.takeOver, SupState.duty]
      exact State.pairOk_of_sup hserved (State.evaluateAfter_sup _)
  case h_3 => exact hs

theorem State.restored_pairOk {x : Restore} (hx : s.sup.restore = some x) (passes : Bool) (n : BitVec 16) :
    (s.restored x passes n).pairOk := by
  unfold State.restored
  extract_lets host t u
  have hu : u.sup = t.sup := by
    dsimp only [u]
    split
    · simp
    · rfl
  have ht : t.pairOk := State.pairOk_of_served hs rfl fun hp => hp.endRestore hx rfl rfl rfl rfl
  have hu : u.pairOk := State.pairOk_of_sup ht hu
  refine State.resumeAuto_pairOk ?_
  split
  · exact State.pairOk_of_sup hu (State.cmdDone_sup _ _ _)
  · exact hu

theorem State.endSwap_pairOk {w : Swap} (hw : s.sup.swap = some w) (htaken : w.taken = true) :
    (s.updSup fun p => { p with swap := none }).pairOk := by
  refine State.pairOk_of_served hs rfl fun hp => hp.of_same rfl rfl ?_ ?_
  · rcases ht : s.sup.takeover <;> simp [SupState.watched, State.updSup, ht, hw, htaken]
  · rcases ht : s.sup.takeover <;> simp [SupState.duty, State.updSup, ht, hw, htaken]

/-- A standby that does not watch over a restore fails, while the other unit serves (R465). -/
theorem State.failStandby_pairOk (hh : s.sup.headless = false) (ht : s.inTakeover = false)
    (hother : s.sup.units[s.sup.other] = .standby) (now : BitVec 48) :
    (s.updSup fun p => { p.fail s.sup.other 4 now with journalFails := 0 }).pairOk := by
  have hp := s.pairOk_iff.mp hs hh
  simp only [State.inTakeover, Bool.or_eq_false_iff, Option.isSome_eq_false_iff, Option.isNone_iff_eq_none] at ht
  obtain ⟨ht, hw⟩ := ht
  have hwatched : s.sup.watched = s.sup.active := by
    unfold SupState.watched
    rw [ht]
    split <;> simp_all
  refine pairOk_of_sound (hp.set (u := s.sup.other) (m := .failed) rfl (fun x hx => ?_) (v := s.sup.watched) rfl ?_)
  · have hx : s.sup.restore = some x := hx
    have hne : x.target ≠ s.sup.other := fun hxo => by
      have h := hp.1 x hx
      simp only [hxo, hother, reduceCtorEq] at h
    rwa [if_neg hne]
  · have hne : s.sup.watched ≠ s.sup.other := hwatched ▸ (otherUnit_ne _).symm
    rw [if_neg hne]
    exact hp.2

end

end Sys2Proof.Machine
end

section
/-! A unit serves or has been called to serve, whatever step is taken: what each command makes of the roles (R464, R468 to
R471). -/

namespace Sys2Proof.Machine

/-! ## Commands that leave the roles -/

/-- An answer's state, where it has one, has the same roles. -/
abbrev Answer.Still (s : State) (a : Answer) : Prop := a.Leads (fun s => s.offTraffic.roles) (fun x y => y = x) s

theorem ignoresServing_roles : IgnoresServing fun s => s.offTraffic.roles where
  take s op r := by simp
  conclude s op r st data := by simp
  runOn s op r := by simp

/-- A command answers a next state, whose roles are sound if those of the state before are. -/
def KeepsPair (o : Host.Outcome State Fault Refusal) (s : State) : Prop := ∃ t, o = .next t ∧ (s.pairOk → t.pairOk)

theorem pairOk_of_still {s t : State} (h : t.offTraffic.roles = s.offTraffic.roles) (hs : s.pairOk) : t.pairOk :=
  State.pairOk_of_roles h hs

theorem opcode_still {op : BitVec 16} {v : Bool} {r : Request} {s : State} {body : State → Answer}
    (h : ∀ s, (body s).Still s) : KeepsPair (opcode op v r s body) s := by
  obtain ⟨t, ht, hq⟩ := opcode_leads (Q := fun x y => y = x) (op := op) (v := v) (r := r) (s := s)
    ignoresServing_roles rfl h
  exact ⟨t, ht, pairOk_of_still hq⟩

theorem enact_still (r : Request) (ops : List FlowOp) {s t : State}
    (h : t.offTraffic.roles = s.offTraffic.roles) : (enact r t ops).Still s := by
  unfold enact
  dsimp only
  (repeat' split) <;> simpa [Answer.Leads] using h

theorem enactLoads_still (r : Request) (op : Bytes → FlowOp) (es : List Bytes) {s t : State}
    (h : t.offTraffic.roles = s.offTraffic.roles) : (enactLoads r op t es).Still s := by
  unfold enactLoads
  split
  · exact h
  · exact enact_still r _ h

theorem flowBatch_still (r : Request) (s : State) (named : Bool) (check : State → Bytes → Option Status)
    (apply : State → Bytes → State) (op : Bytes → FlowOp) : (flowBatch r s named check apply op).Still s := by
  have h (es : List Bytes) : (s.seekAll es).offTraffic.roles = s.offTraffic.roles := by simp
  refine guards_leads _ (checkEach_leads _ _ _ (checkEach_leads _ _ _ (checkEach_leads _ _ _ (guards_leads _ ?_))))
  dsimp only
  split
  · exact h _
  · exact enact_still r _ (h _)

theorem ctxBatch_still {r : Request} {s : State} {size most : Nat} {bad tenant : Bytes → Bool}
    {check : State → Bytes → Option Status} {op : Bytes → FlowOp} {k : State → List Bytes → Answer}
    (hk : ∀ t es, t.offTraffic.roles = s.offTraffic.roles → (k t es).Still s) :
    (ctxBatch r s size most bad tenant check op k).Still s := by
  have h (es : List Bytes) : (s.touchAll es).offTraffic.roles = s.offTraffic.roles := by simp
  refine guards_leads _ (checkEach_leads _ _ _ (checkEach_leads _ _ _ (checkEach_leads _ _ _ (guards_leads _ ?_))))
  dsimp only
  split
  · exact h _
  · exact hk _ _ (h _)

theorem keyBatch_still {r : Request} {s : State} {early late : List (Bool × Status)} {gate : KeySlot → Option Status}
    {k : State → List (Nat × KeyValue) → Answer}
    (hk : ∀ t vs, t.offTraffic.roles = s.offTraffic.roles → (k t vs).Still s) :
    (keyBatch r s early late gate k).Still s := by
  refine guards_leads _ (checkEach_leads _ _ _ (checkEach_leads _ _ _ (guards_leads _ ?_)))
  dsimp only
  split
  · trivial
  · have h := congrArg State.roles (unwrapAll_offTraffic r.port gate (batchEntries r 68) 0 s)
    split
    · exact h
    · exact hk _ _ h

theorem State.takeEvents_roles (s : State) (p : Hp) (k : Nat) :
    (s.takeEvents p k).offTraffic.roles = s.offTraffic.roles := by
  unfold State.takeEvents
  dsimp only
  split <;> simp

theorem State.discard_sup (s : State) (f : CommitForm) : (s.discard f).sup = s.sup := by
  have hc (c : Bool) (s t : State) (h : t.sup = s.sup) : (if c then t else s).sup = s.sup := by
    split
    · exact h
    · rfl
  unfold State.discard
  extract_lets s1 _ s2 s3 _ s4 s5 _ _ s6 _ _ _ s7
  calc _ = s7.sup := hc _ _ _ (by rfl)
    _ = s6.sup := hc _ _ _ (by rfl)
    _ = s5.sup := hc _ _ _ (by rfl)
    _ = s4.sup := hc _ _ _ (foldl_keeps State.sup (fun _ _ => by rfl) _ _)
    _ = s3.sup := hc _ _ _ (by rfl)
    _ = s2.sup := hc _ _ _ (foldl_keeps State.sup (fun _ _ => by split <;> rfl) _ _)
    _ = s1.sup := foldl_keeps State.sup (fun _ _ => by rfl) _ _
    _ = s.sup := foldl_keeps State.sup (fun _ _ => by split <;> rfl) _ _

theorem acceptCommit_still (s : State) (r : Request) (f : CommitForm) : (s.acceptCommit r f).Still s := by
  unfold State.acceptCommit
  dsimp only
  split
  · rfl
  · (repeat' split) <;> simp [Answer.Leads]

/-- No request but SUP_SWAP and SUP_RESTORE moves the roles. -/
theorem exec_request_still (c : Instr) (hc : isRequest c = true) (hswap : ∀ r, c ≠ .supSwap r)
    (hrestore : ∀ r, c ≠ .supRestore r) (s : State) : KeepsPair (exec c s) s := by
  cases c with
  | portInfo | portEcho | tenancyGet | wsInfo | wsRead | sluiceStatus | txConfigRead | txStatus | rxConfigRead |
    rxStatus | rxMonitor | rxCaptureRead | calConfigRead | calStatus | calSliceRead | calRecords | fecConfigRead |
    fecStatus | profileRead | frameConfigRead | slotmapRead | frameStatus | cportRead | laneEqRead | synceRead |
    laneStatus | portStatus | flowPortRead | etypeRead | sealConfigRead | keyStatus | portkeyStatus |
    millraceStatus | ownerStatus | memConfigRead | memStatus | hwConfigRead | hwPhaseStep | hwStatus |
    hwInputStatus | tdConfigRead | tdSet | tdStatus | ptpPortRead | tpoWrite | tpoRead | captureRead | tslogRead |
    gaugeSeqRead | gaugeStatus | weirPolicyRead | weirStatus | weirSensorRead | supStatus |
    supConfigRead | ctrConfigWrite | ctrConfigRead | ctrSnapshot | frRead | tagConfigWrite | tagLogRead |
    moduleReset | resetInfo | nvRead | nvWrite | txConfigWrite | rxConfigWrite | calConfigWrite | fecConfigWrite |
    profileWrite | frameConfigWrite |
    slotmapWrite | etypeWrite | cportWrite | flowPortWrite | ptpPortWrite | laneEqWrite | synceWrite |
    sealConfigWrite | hwConfigWrite | tdConfigWrite | gaugeSeqWrite | gaugeCheckWrite | memConfigWrite |
    weirPolicyWrite | supConfigWrite | ownerProvision =>
    unfold exec
    exact opcode_still fun s => guards_leads _ rfl
  | portConfig | portReset | txBiasHold | rxCapture | portkeyErase | gaugeCalibrate | flowLookup |
    idChallenge | memLogRead | lanePower =>
    unfold exec
    exact opcode_still fun s => guards_leads _ (by simp [answer, Answer.Leads])
  | tenancySet =>
    exact opcode_still fun s => guards_leads _ (by simp [Answer.Leads, State.setTenancy])
  | eventRead =>
    exact opcode_still fun s => guards_leads _ (s.takeEvents_roles _ _)
  | sluiceDiscard => exact opcode_still fun s => guards_leads _ (congrArg SupState.roles (s.discard_sup _))
  | rxReacquire | clientLoopback | prbsControl | rxFreeze =>
    unfold exec
    refine opcode_still fun s => guards_leads _ (guards_leads _ ?_)
    (repeat' split) <;> simp [Answer.Leads]
  | ctxFill | keyErase | portkeyLoad | memWordRead | memInject | gaugeInject =>
    unfold exec
    refine opcode_still fun s => guards_leads _ ?_
    dsimp only
    (repeat' split) <;> simp [Answer.Leads]
  | wsFind =>
    unfold exec
    refine opcode_still fun s => guards_leads _ ?_
    split
    · trivial
    · rfl
  | sluiceCommit =>
    unfold exec
    refine opcode_still fun s => guards_leads _ ?_
    split
    · trivial
    · exact guards_leads _ (acceptCommit_still _ _ _)
  | sluiceCancel =>
    unfold exec
    refine opcode_still fun s => guards_leads _ ?_
    split
    · exact guards_leads _ (by simp [Answer.Leads])
    · split
      · exact guards_leads _ trivial
      · trivial
  | flowAdd | flowDelete =>
    unfold exec
    exact opcode_still fun s => flowBatch_still _ s _ _ _ _
  | ctxLoad =>
    unfold exec
    exact opcode_still fun s => ctxBatch_still fun t es => enactLoads_still _ _ _
  | ctxReload =>
    unfold exec
    exact opcode_still fun s => guards_leads _ (ctxBatch_still fun t es => enactLoads_still _ _ _)
  | ctxRekey =>
    unfold exec
    refine opcode_still fun s => ctxBatch_still fun t es h => ?_
    split
    · exact h
    · exact enact_still _ _ h
  | keyLoad =>
    unfold exec
    refine opcode_still fun s => keyBatch_still fun t vs h => ?_
    simpa [Answer.Leads] using h
  | keyRewrite =>
    unfold exec
    refine opcode_still fun s => ?_
    unfold keyRewriteBody
    refine keyBatch_still fun t vs h => guards_leads _ ?_
    simpa [Answer.Leads] using h
  | ctxRead =>
    unfold exec
    refine opcode_still fun s => guards_leads _ ?_
    dsimp only
    split <;> exact congrArg State.roles (ctxReadWords_offTraffic _ _ _)
  | gaugeResultRead =>
    unfold exec
    refine opcode_still fun s => guards_leads _ ?_
    simp [answer, Answer.Leads]
  | ctrRead =>
    unfold exec
    refine opcode_still fun s => guards_leads _ ?_
    split
    · trivial
    · exact guards_leads _ rfl
  | ctrClear r =>
    unfold exec
    refine opcode_still fun s => guards_leads _ ?_
    have h (mine : Nat → Nat → Bool) : (s.clearViews r.port mine).offTraffic.roles = s.offTraffic.roles := by simp
    (repeat' split)
    · exact h _
    · trivial
    · exact guards_leads _ (h _)
  | supSwap r => exact absurd rfl (hswap r)
  | supRestore r => exact absurd rfl (hrestore r)
  | _ => exact Bool.noConfusion hc

end Sys2Proof.Machine
end

section
/-! A unit serves or has been called to serve, whatever step is taken: the two requests that move the roles, the events,
and the step (R464, R468 to R471). -/

namespace Sys2Proof.Machine

/-! ## Requests of the pair -/

/-- A takeover is in progress (R468). -/
def SupState.called (p : SupState) : Bool := State.inTakeover { sup := p }

/-- SUP_SWAP and SUP_RESTORE act only while no takeover is in progress (R468). -/
theorem opcode_keepsPair {op : BitVec 16} {v : Bool} {r : Request} {s : State} {body : State → Answer}
    (h : ∀ s, (body s).Leads (fun s => s.offTraffic.roles) (fun p q => q.headless = p.headless ∧
      (p.called = false → p.Sound → q.Sound)) s) : KeepsPair (opcode op v r s body) s := by
  cases ht : s.inTakeover with
  | true =>
    have hserves : s.serves r = false := by simp [State.serves, State.serving, ht]
    exact ⟨s, by simp [opcode, serve, hserves], id⟩
  | false =>
    obtain ⟨t, hnext, hhead, hsound⟩ := opcode_leads (op := op) (v := v) (r := r) ignoresServing_roles
      (s := s) (Q := fun p q => q.headless = p.headless ∧ (p.called = false → p.Sound → q.Sound)) ⟨rfl, fun _ => id⟩ h
    exact ⟨t, hnext, fun hs => State.pairOk_of_served hs hhead (hsound ht)⟩

theorem exec_supSwap_keepsPair (r : Request) (s : State) : KeepsPair (exec (.supSwap r) s) s := by
  refine opcode_keepsPair fun s => guards_leads_of_pass _ fun hpass => ?_
  have hidle := hpass _ (.tail _ (.tail _ (.head _)))
  simp only [Bool.or_eq_false_iff, bne_eq_false_iff_eq, SupState.busy, Option.isSome_eq_false_iff,
    Option.isNone_iff_eq_none] at hidle
  obtain ⟨⟨hswap, hrestore⟩, hother⟩ := hidle
  have hsup : s.recall.sup = s.sup := congrArg Prod.fst s.recall_dutyView
  refine ⟨show s.recall.sup.headless = s.sup.headless by rw [hsup], fun hcalled hp => ?_⟩
  have ht : s.sup.takeover = none := by
    simp only [SupState.called, State.inTakeover, Bool.or_eq_false_iff] at hcalled
    exact Option.not_isSome_iff_eq_none.mp (Bool.eq_false_iff.mp hcalled.1)
  refine SupState.Sound.yield (p := s.sup) (w := ⟨s.sup.active, false, false, issuerOf 0x1102 r⟩) hp ?_ ?_ rfl rfl ?_ ?_
    hother <;> simp [State.updSup, hsup, State.roles, SupState.roles, ht, hrestore, State.offTraffic]

/-! ## Events -/

section
variable {s : State}

theorem next_keepsPair {t : State} (h : s.pairOk → t.pairOk) : KeepsPair (.next t) s := ⟨t, rfl, h⟩

theorem next_still {t : State} (h : t.offTraffic.roles = s.offTraffic.roles) : KeepsPair (.next t) s :=
  next_keepsPair (pairOk_of_still h)

theorem event_keepsPair {f : State → State} (h : s.pairOk → (f s).pairOk) : KeepsPair (event s f) s := by
  unfold event
  split
  · exact next_keepsPair h
  · exact next_keepsPair id

theorem event_still {f : State → State} (h : (f s).offTraffic.roles = s.offTraffic.roles) : KeepsPair (event s f) s :=
  event_keepsPair (pairOk_of_still h)

theorem eventIf_keepsPair {c : Bool} {f : State → State} (h : c = true → s.pairOk → (f s).pairOk) :
    KeepsPair (eventIf s c f) s :=
  event_keepsPair fun hs => by
    split
    case isTrue hc => exact h hc hs
    case isFalse => exact hs

theorem eventIf_still {c : Bool} {f : State → State} (h : (f s).offTraffic.roles = s.offTraffic.roles) :
    KeepsPair (eventIf s c f) s :=
  eventIf_keepsPair fun _ => pairOk_of_still h

theorem commitEvent_still {id : Nat} {due : State → Commit → Bool} {act : State → Commit → State}
    (h : ∀ k, (act s k).offTraffic.roles = s.offTraffic.roles) : KeepsPair (commitEvent id s due act) s := by
  refine event_still ?_
  split
  · split
    · exact h _
    · rfl
  · rfl

/-- Where the pair is reset it stands as at power-on: A serves, and B is standby. -/
theorem pairOk_of_reset {t : State} (h : t.sup.roles = ({} : SupState)) : t.pairOk :=
  State.pairOk_of_roles (s := State.reset) h (State.reset.pairOk_iff.mpr fun _ =>
    ⟨fun _ h => (Option.some_ne_none _ h.symm).elim, rfl⟩)

theorem State.railsOff_pairOk (hs : s.pairOk) : s.railsOff.pairOk := by
  unfold State.railsOff
  split
  · exact pairOk_of_reset rfl
  · exact hs

theorem exec_refereeWindow_keepsPair (beats : Vector (Option Heartbeat) 3) :
    KeepsPair (exec (.refereeWindow beats) s) s := by
  unfold exec execRefereeWindow
  refine eventIf_keepsPair fun hc hs => ?_
  have hh : s.sup.headless = false := by
    rw [Bool.and_eq_true, Bool.not_eq_true'] at hc
    exact hc.1
  extract_lets votes last t
  have ht : t.offTraffic.roles = s.offTraffic.roles := by
    dsimp only [t]
    rw [State.noteVote_roles]
    rfl
  have hheadless : t.sup.headless = false := (congrArg SupState.headless ht).trans hh
  split
  · exact pairOk_of_still (s := s) ht hs
  · split
    · exact State.declare_pairOk (pairOk_of_still ht hs) 1 hheadless
    · exact pairOk_of_still (s := s) ht hs

theorem exec_journalRecordFail_keepsPair : KeepsPair (exec .journalRecordFail s) s := by
  unfold exec execJournalRecordFail
  refine eventIf_keepsPair fun hc hs => ?_
  simp only [Bool.and_eq_true, Bool.not_eq_true', beq_iff_eq] at hc
  obtain ⟨⟨hh, ht⟩, hother⟩ := hc
  split
  · exact State.pairOk_of_sup (State.failStandby_pairOk hs hh ht hother s.moduleTime) (State.raise_sup _ _ _ _)
  · exact State.pairOk_of_roles (s := s) rfl hs

theorem exec_autoRestoreTimer_keepsPair (u : Fin 2) : KeepsPair (exec (.autoRestoreTimer u) s) s := by
  unfold exec execAutoRestoreTimer
  refine eventIf_keepsPair fun hc hs => ?_
  simp only [Bool.and_eq_true, Bool.not_eq_true'] at hc
  obtain ⟨⟨⟨-, hdown⟩, hh⟩, -⟩ := hc
  split
  · exact State.pairOk_of_roles (s := s) rfl hs
  case isFalse hbusy =>
    simp only [SupState.busy, Bool.or_eq_true, not_or, Bool.not_eq_true, Option.isSome_eq_false_iff,
      Option.isNone_iff_eq_none] at hbusy
    have hfailed : s.sup.units[u] = .failed := by simpa [SupState.isDown, hbusy.2] using hdown
    exact pairOk_of_sound ((s.pairOk_iff.mp hs hh).startAuto hfailed _)

theorem exec_swapWindowEnd_keepsPair : KeepsPair (exec .swapWindowEnd s) s := by
  unfold exec execSwapWindowEnd
  refine event_keepsPair fun hs => ?_
  split
  · exact hs
  case h_2 w hw =>
    split
    · exact hs
    case isFalse hends =>
      simp only [Bool.or_eq_true, Bool.not_eq_true', not_or, Bool.not_eq_false, Bool.not_eq_true] at hends
      refine State.resumeAuto_pairOk (State.pairOk_of_sup (State.endSwap_pairOk hs hw hends.1) ?_)
      exact State.cmdDone_sup _ _ _

theorem exec_restoreComplete_keepsPair (passes : Bool) (n : BitVec 16) :
    KeepsPair (exec (.restoreComplete passes n) s) s := by
  unfold exec execRestoreComplete
  refine event_keepsPair fun hs => ?_
  split
  · exact hs
  case h_2 x hx => exact State.restored_pairOk hs hx passes n

end

theorem exec_supRestore_keepsPair (r : Request) (s : State) : KeepsPair (exec (.supRestore r) s) s := by
  refine opcode_keepsPair fun s => guards_leads_of_pass _ fun hpass => ⟨rfl, fun _ hp => ?_⟩
  have hfailed := hpass _ (.tail _ (.tail _ (.tail _ (.tail _ (.head _)))))
  simp only [bne_eq_false_iff_eq] at hfailed
  exact SupState.Sound.startRestore (p := s.sup) hp hfailed _

end Sys2Proof.Machine
end

section
/-! A unit serves or has been called to serve, whatever step is taken: every event, the idle step, and the obligation
(R464, R468 to R471). -/

namespace Sys2Proof.Machine

theorem State.directed_roles {f : State → State} (h : ∀ s, (f s).offTraffic.roles = s.offTraffic.roles) (s : State)
    (p : Hp) (addr : BitVec 7) : (s.directed p addr f).offTraffic.roles = s.offTraffic.roles := by
  unfold State.directed
  (repeat' split) <;> simp [h]

theorem State.framed_roles {f : State → State} (h : ∀ s, (f s).offTraffic.roles = s.offTraffic.roles) (s : State)
    (p : Hp) (x : Xfer) (code : Byte) : (s.framed p x code f).offTraffic.roles = s.offTraffic.roles := by
  unfold State.framed
  (repeat' split) <;> simp [h]

theorem exec_event_keepsPair (c : Instr) (hc : isRequest c = false) (s : State) : KeepsPair (exec c s) s := by
  cases c with
  | requestPacket | cccEntdaa | cccSetdasa | cccSetnewda | cccRstdaa | cccEnec | cccDisec | cccGetpid
    | cccGetbcr | cccGetdcr | cccGetstatus | cccGetmwl | cccGetmrl | cccSetmwl | cccSetmrl | cccEnthdr0 | cccOther
    | channelTrainingDone | channelTrainingFail | memSweepDone | ovenStable =>
    unfold exec
    exact next_still (by simp)
  | calApply | contextFetchDone | millraceAdmit | graceExpiry | keyErasePoint | gaugeCalDone | gbConversionEnd |
    weirReading | voterDisagree | shortIntervalEnd | longIntervalEnd | commitBoundary | pairedTxSwitch |
    pairedRxSwitch =>
    unfold exec
    exact event_still (by simp)
  | ctrSnapshotTick | immediateEffectBoundary =>
    unfold exec
    refine event_still ?_
    exact State.atBoundary_roles _ _ fun s => by simp
  | replyRead p addr x =>
    exact next_still (State.directed_roles (fun s => State.framed_roles (fun s => s.read_roles p) s p x _) s p addr)
  | frameTransmit =>
    refine next_still ?_
    split
    · exact s.tickWith_roles id fun _ => rfl
    · split <;> simp
  | ibiRepeat | lockerLocked | biasAcquired | txReady | depEnd | txQuenched | laserFault | txPowerFault | losTimer
    | lightTimer | freqEstimated | timingLock | timingLockLost | cmaConverged | carrierLockLost | rxStateTimeout |
    tapUpdate | calIntervalEnd | scSlot | clientFrameRx | portFailDetect | portFailClearTimer | lineEgressFrame |
    inputQualifyTimer | inputLoss | buildOutWindowEnd | hwLockDeclared | wtrExpiry | refoutRestart |
    syncLossTimeout | tpoEdge | decimatorReset | gaCycleStart | gbPassTick | weirReleaseTimer | phaseStepApply |
    phaseSlewEnd | outputTimeSlewEnd | prbsCheckerLock | prbsCheckerRelock | ppsOutEdge | tileLinkFail | tdSetApply =>
    unfold exec
    exact eventIf_still (by simp)
  | supParityFault | supIllegalState =>
    unfold exec
    exact eventIf_keepsPair fun hh hs => State.declare_pairOk hs _ (by simpa using hh)
  | refereeWindow beats => exact exec_refereeWindow_keepsPair beats
  | journalRecordFail => exact exec_journalRecordFail_keepsPair
  | autoRestoreTimer u => exact exec_autoRestoreTimer_keepsPair u
  | takeoverComplete n =>
    unfold exec
    exact eventIf_keepsPair fun _ hs => State.takeoverComplete_pairOk hs n
  | swapWindowEnd => exact exec_swapWindowEnd_keepsPair
  | restoreComplete passes n => exact exec_restoreComplete_keepsPair passes n
  | rxCaptureDone | laneFrameRx | ctxFillDone | keyRewriteGraceEnd | keyEraseDone | frameReceive =>
    unfold exec
    refine event_still ?_
    split <;> simp
  | clientOrderedSetRx | laneAdaptDone | ptpEventMessage =>
    unfold exec
    refine eventIf_still ?_
    split <;> simp
  | pilotFound | calMeasureDone | dacCalStepDone | decoderAdvance | eddyRead =>
    unfold exec
    refine eventIf_still ?_
    dsimp only
    (repeat' split) <;> simp
  | cdSearchPassEnd | groupHuntDone =>
    unfold exec
    refine eventIf_still ?_
    (repeat' split) <;> simp
  | ackDeadline | responderTarget =>
    unfold exec
    exact commitEvent_still fun k => by simp
  | ownerProvisionDone =>
    unfold exec
    refine event_still ?_
    split
    · rfl
    · dsimp only
      rw [State.cmdDone_offTraffic]
      rfl
  | mergeRetire =>
    unfold exec execMergeRetire
    refine event_still ?_
    (repeat' split) <;> simp
  | holdoverSecond =>
    show KeepsPair (execHoldoverSecond s) s
    unfold execHoldoverSecond
    split
    · exact next_still rfl
    · exact eventIf_still (by simp)
  | captureEdge =>
    unfold exec
    refine event_still ?_
    (repeat' split) <;> simp
  | nvWriteDone =>
    unfold exec
    refine event_still ?_
    split
    · simp [State.nvDone]
    · rfl
  | moduleReady =>
    refine next_still ?_
    split
    · simp [State.becomeReady, State.readRecords, State.readOwner]
    · rfl
  | powerOnTrigger =>
    refine next_keepsPair fun hs => ?_
    split
    · exact pairOk_of_reset rfl
    · exact hs
  | supplyLoss aux =>
    refine next_keepsPair fun hs => ?_
    have hoff := State.railsOff_pairOk hs
    (repeat' split)
    · exact State.pairOk_of_sup hoff rfl
    · exact hs
    · exact State.pairOk_of_sup hoff rfl
    · exact hs
  | hardwiredTrip =>
    refine next_keepsPair fun hs => ?_
    split
    · exact State.pairOk_of_sup (State.railsOff_pairOk hs) rfl
    · exact hs
  | tripLatchRelease | resetNDeassert =>
    refine next_keepsPair fun hs => ?_
    dsimp only
    (repeat' split)
    · exact pairOk_of_reset rfl
    · exact State.pairOk_of_sup hs rfl
    · exact hs
  | moduleResetBegin =>
    unfold exec
    exact eventIf_keepsPair fun _ _ => pairOk_of_reset rfl
  | resetNAssert | vioLoss | vioRestored => exact next_still rfl
  | tapReset | jtagBypass | jtagIdcode | jtagSamplePreload | jtagExtest | jtagClamp | jtagHighz | p3v3AuxApplied =>
    exact next_still (by split <;> rfl)
  | _ => exact Bool.noConfusion hc

theorem exec_keepsPair (c : Instr) (s : State) : KeepsPair (exec c s) s := by
  cases hreq : isRequest c with
  | false => exact exec_event_keepsPair c hreq s
  | true =>
    by_cases hswap : ∃ r, c = .supSwap r
    · obtain ⟨r, rfl⟩ := hswap
      exact exec_supSwap_keepsPair r s
    · by_cases hrestore : ∃ r, c = .supRestore r
      · obtain ⟨r, rfl⟩ := hrestore
        exact exec_supRestore_keepsPair r s
      · exact exec_request_still c hreq (fun r h => hswap ⟨r, h⟩) (fun r h => hrestore ⟨r, h⟩) s

theorem State.idle_pairOk {s : State} (hs : s.pairOk) : s.idle.pairOk := by
  unfold State.idle State.readyTick
  split
  · split
    · exact pairOk_of_reset rfl
    · refine pairOk_of_still (s := s) ?_ hs
      rw [State.afterTick_roles, State.tickWith_roles _ _ State.tdSetsDue_roles, State.beforeTick_roles]
  · split
    · exact pairOk_of_still (by simp) hs
    · exact hs

/-- Settles O57: every operation of the pair keeps the watched unit in its duty and a restore's unit restoring, and no
other command, nor the idle step, moves the roles but a reset, which leaves A serving. -/
theorem supervisorPairStaysSound : Obligations.SupervisorPairStaysSound := by
  intro s t hs h
  have hexec {c : Instr} {u : State} (hu : u.sup = s.sup) (hc : exec c u = .next t) : t.pairOk := by
    obtain ⟨v, hv, hkeep⟩ := exec_keepsPair c u
    cases hc.symm.trans hv
    exact hkeep (State.pairOk_of_sup hs hu)
  unfold step at h
  split at h
  next rest _ => exact hexec (u := { s with pending := rest }) rfl h
  · unfold stepIdle at h
    split at h
    next op r _ =>
      unfold stepRequest at h
      split at h
      · exact hexec (u := s.turnTo r.port) rfl h
      · obtain ⟨v, hv, hkeep⟩ : KeepsPair (opcode op true r (s.turnTo r.port) fun _ => .fail .unknownOpcode [])
            (s.turnTo r.port) := opcode_still fun _ => trivial
        cases h.symm.trans hv
        exact hkeep hs
    · cases h
      exact State.idle_pairOk hs

end Sys2Proof.Machine
end

section
/-! The test access port (R531). -/

namespace Sys2Proof.Machine

/-- What a row of the test access port that selects `j` makes of its registers. -/
def TapSelects (s : State) (preload : Option (List Bool)) (pins : List Bool) (j : TapInstr) (x : JtagState) : Prop :=
  x.instr = (if s.power.resetLow = false ∧ (j = .extest ∨ j = .clamp ∨ j = .highz) then .bypass else j) ∧
    x.driving = (s.power.resetLow && (j == .extest || j == .clamp)) ∧
    x.floating = (s.power.resetLow && j == .highz) ∧
    (j = .samplePreload → x.out = pins ∧ x.cells = preload.getD s.jtag.cells) ∧
    (j ≠ .samplePreload → x.cells = s.jtag.cells) ∧
    (j = .idcode → x.out.length = 32 ∧ x.out.take 12 = (List.range 12).map ((0xCAF : BitVec 32).getLsbD))

/-- The twelve lowest bits of the identification code: manufacturer and the fixed one. -/
theorem State.idcode_low (s : State) {i : Nat} (hi : i < 12) : s.idcode.getLsbD i = (0xCAF : BitVec 32).getLsbD i := by
  unfold State.idcode
  generalize s.ident.hubRev.setWidth 4 = v
  decide +revert

theorem tapSelects_extest (s : State) (preload : Option (List Bool)) (pins : List Bool) :
    TapSelects s preload pins .extest (if s.power.resetLow then
      { s.jtag with instr := .extest, driving := true, floating := false, out := s.jtag.cells }
    else s.jtag.toBypass) := by
  cases h : s.power.resetLow <;> simp [TapSelects, JtagState.toBypass, h]

theorem tapSelects_clamp (s : State) (preload : Option (List Bool)) (pins : List Bool) :
    TapSelects s preload pins .clamp (if s.power.resetLow then
      { s.jtag with instr := .clamp, driving := true, floating := false, out := [false] }
    else s.jtag.toBypass) := by
  cases h : s.power.resetLow <;> simp [TapSelects, JtagState.toBypass, h]

theorem tapSelects_highz (s : State) (preload : Option (List Bool)) (pins : List Bool) :
    TapSelects s preload pins .highz (if s.power.resetLow then
      { s.jtag with instr := .highz, driving := false, floating := true, out := [false] }
    else s.jtag.toBypass) := by
  cases h : s.power.resetLow <;> simp [TapSelects, JtagState.toBypass, h]

theorem tapSelects_idcode (s : State) (preload : Option (List Bool)) (pins : List Bool) :
    TapSelects s preload pins .idcode { s.jtag with
      instr := .idcode, driving := false, floating := false, out := (List.range 32).map s.idcode.getLsbD } := by
  have hlow : ((List.range 32).map s.idcode.getLsbD).take 12 = (List.range 12).map ((0xCAF : BitVec 32).getLsbD) := by
    rw [← List.map_take, List.take_range]
    exact List.map_congr_left fun i hi => s.idcode_low (List.mem_range.mp hi)
  exact ⟨by simp, by simp, by simp, by simp, by simp, fun _ => ⟨by simp, hlow⟩⟩

/-- Settles O53: every row is ignored without rails, and what it makes of the registers is said case by case. -/
theorem boundaryScan : Obligations.BoundaryScan := by
  intro s preload pins c j hmem
  obtain ⟨x, hexec, hx⟩ : ∃ x, exec c s = .next (if s.railsOn then { s with jtag := x } else s) ∧
      TapSelects s preload pins j x := by
    simp only [List.mem_cons, List.not_mem_nil, or_false, Prod.mk.injEq] at hmem
    rcases hmem with ⟨rfl, rfl⟩ | ⟨rfl, rfl⟩ | ⟨rfl, rfl⟩ | ⟨rfl, rfl⟩ | ⟨rfl, rfl⟩ | ⟨rfl, rfl⟩ | ⟨rfl, rfl⟩
    · exact ⟨s.jtag.idle, rfl, by simp [TapSelects, JtagState.idle]⟩
    · exact ⟨s.jtag.toBypass, rfl, by simp [TapSelects, JtagState.toBypass]⟩
    · exact ⟨_, rfl, tapSelects_idcode s preload pins⟩
    · exact ⟨_, rfl, by simp [TapSelects]⟩
    · exact ⟨_, rfl, tapSelects_extest s preload pins⟩
    · exact ⟨_, rfl, tapSelects_clamp s preload pins⟩
    · exact ⟨_, rfl, tapSelects_highz s preload pins⟩
  rw [hexec]
  refine ⟨fun hoff => by simp [hoff], fun hon => ⟨{ s with jtag := x }, by simp [hon], rfl, hx⟩⟩

end Sys2Proof.Machine
end

section
/-! The resets' requests and the non-volatile store (R511, R513 to R515). -/

namespace Sys2Proof.Machine

section
variable {r : Request} {s : State}

theorem exec_moduleReset (hx : Executes true r s) (hf : r.flag0 = false) (hport : r.port = 0)
    (hp : r.params = [0x52, 0x53, 0, 0]) :
    Writes 0x1301 .moduleReset r s fun s => { s with power := { s.power with resetDue := true } } := by
  have hkey : field r.params 0 2 = 0x5253 := by simp [hp, field, beValue]
  have hzero : zeroAt r.params 2 2 = true := by simp [hp]
  refine opcode_ok hx ?_
  rw [moduleResetBody, notPrincipal_of_zero hport, formed_badForm ⟨hf, by rw [hp]; rfl⟩, hkey, hzero]
  simp

/-- RESET_INFO lays out its table (R514). -/
theorem resetInfo_lays (p : PowerState) (now : BitVec 48) :
    Lays ([p.cause, p.resetFlags] ++ be 2 p.resets ++ be 4 p.readyTime ++ be 6 now ++ zeros 2) 16
      [(0, [p.cause, p.resetFlags]), (2, be 2 p.resets), (4, be 4 p.readyTime), (8, be 6 now), (14, [0, 0])] := by
  refine lays_placed (parts := [[p.cause, p.resetFlags], be 2 p.resets, be 4 p.readyTime, be 6 now, [0, 0]]) ?_ ?_ ?_
  · simp [zeros]
  · simp
  · simp [placed]

theorem exec_resetInfo (hx : Executes true r s) (hf : r.flag0 = false) (hp : r.params = []) :
    Reads 0x1302 .resetInfo r s fun _ => [s.power.cause, s.power.resetFlags] ++ be 2 s.power.resets ++
      be 4 s.power.readyTime ++ be 6 s.moduleTime ++ zeros 2 := by
  refine opcode_reads hx ?_
  rw [resetInfoBody, formed_nil hf hp]
  rfl

/-! ## Reads of both regions (R515) -/

theorem nvRead_judged {integrator : Bool} {o : BitVec 32} {n : BitVec 16} (hf : r.flag0 = false)
    (hp : r.params = [byte integrator.toNat, 0, 0, 0] ++ be 4 o ++ be 2 n ++ [0, 0]) (hn : n ≠ 0)
    (hmost : n.toNat ≤ 4080) : nvReadBody r s = guards
      [(decide (o.toNat + n.toNat > if integrator then 65536 else 262144), .range),
        (integrator && s.nv.overlaps o.toNat n.toNat, .busy)]
      (answer (readRun 0 (if integrator then s.nv.integrator else s.nv.factory) o.toNat n.toNat) s) := by
  have hn' : n.toNat ≠ 0 := fun h => hn (BitVec.eq_of_toNat_eq h)
  have hregion : field r.params 0 1 = integrator.toNat := by rw [hp]; cases integrator <;> rfl
  have hoff : field r.params 4 4 = o.toNat := by simp [hp]
  have hcount : field r.params 8 2 = n.toNat := by simp [hp]
  have hzero : zeroAt r.params 1 3 = true ∧ zeroAt r.params 10 2 = true := by simp [hp]
  have hform : badForm r 12 = false := formed_badForm ⟨hf, by simp [hp]⟩
  have hone : (integrator.toNat == 1) = integrator := by cases integrator <;> rfl
  have hle : decide (integrator.toNat > 1) = false := by cases integrator <;> rfl
  have hlen : (n.toNat == 0 || decide (n.toNat > 4080)) = false := by simp [hn', hmost]
  rw [nvReadBody, hregion, hoff, hcount, hform, hzero.1, hzero.2, hone, hle]
  simp only [Bool.not_true, Bool.or_false, Bool.false_or, hlen, guards_false]
  rfl

theorem exec_nvRead_range {integrator : Bool} {o : BitVec 32} {n : BitVec 16} (hx : Executes false r s)
    (hf : r.flag0 = false) (hp : r.params = [byte integrator.toNat, 0, 0, 0] ++ be 4 o ++ be 2 n ++ [0, 0])
    (hn : n ≠ 0) (hmost : n.toNat ≤ 4080) (hover : o.toNat + n.toNat > if integrator then 65536 else 262144) :
    Fails 0x1303 .nvRead r s .range := by
  refine opcode_fail hx ?_
  rw [nvRead_judged hf hp hn hmost, decide_eq_true hover, guards_true]

theorem exec_nvRead {integrator : Bool} {o : BitVec 32} {n : BitVec 16} (hx : Executes false r s)
    (hf : r.flag0 = false) (hp : r.params = [byte integrator.toNat, 0, 0, 0] ++ be 4 o ++ be 2 n ++ [0, 0])
    (hn : n ≠ 0) (hmost : n.toNat ≤ 4080) (hfits : o.toNat + n.toNat ≤ if integrator then 65536 else 262144)
    (hjob : s.nv.job = none) : Reads 0x1303 .nvRead r s fun _ =>
      readRun 0 (if integrator then s.nv.integrator else s.nv.factory) o.toNat n.toNat := by
  have hidle : (s.takeRequest 0x1303 r).nv.overlaps o.toNat n.toNat = false := by
    rw [NvState.overlaps, show (s.takeRequest 0x1303 r).nv.job = none from hjob]
  refine opcode_reads hx ?_
  rw [nvRead_judged hf hp hn hmost, decide_eq_false (Nat.not_lt.mpr hfits), hidle, Bool.and_false]
  rfl

/-! ## Writes of whole pages (R511, R515) -/

theorem nvWrite_judged {o : BitVec 32} {n : BitVec 16} {data : Bytes} (hf : r.flag0 = false) (hport : r.port = 0)
    (hp : r.params = [1, 0, 0, 0] ++ be 4 o ++ be 2 n ++ [0, 0] ++ data) (hlen : data.length = n.toNat)
    (hleast : 64 ≤ n.toNat) (hmost : n.toNat ≤ 4032) (hpages : n.toNat % 64 = 0) (hpage : o.toNat % 64 = 0)
    (hfits : o.toNat + n.toNat ≤ 65536) : nvWriteBody r s = guards [(s.nv.job.isSome, .busy)]
      (.ok .okDeferred [] { s with nv := { s.nv with
        job := some { offset := o.toNat, data := data, issuer := issuerOf 0x1304 r } } }) := by
  have hoff : field r.params 4 4 = o.toNat := by simp [hp]
  have hcount : field r.params 8 2 = n.toNat := by simp [hp]
  have hdata : r.params.drop 12 = data := by rw [hp]; exact List.drop_left' (by simp)
  have hheader : badNvWrite r.params = false := by
    have hregion : field r.params 0 1 = 1 := by simp [hp]
    have hzero : zeroAt r.params 1 3 = true ∧ zeroAt r.params 10 2 = true := by simp [hp]
    have hlength : r.params.length = 12 + n.toNat := by simp [hp, hlen]; omega
    simp only [badNvWrite, hcount, hoff, hregion, hzero.1, hzero.2, hlength, hpages, hpage]
    simp
    omega
  rw [nvWriteBody, notPrincipal_of_zero hport, hf, hheader, hoff, hcount, hdata]
  simp only [Bool.or_false, guards_false, regionSize, if_true, decide_eq_false (Nat.not_lt.mpr hfits)]

end

/-- Settles O51. -/
theorem resetAndStoreRequests : Obligations.ResetAndStoreRequests := by
  intro r s hf
  refine ⟨fun hx hport hp => exec_moduleReset hx hf hport hp,
    fun hx hp => ⟨_, exec_resetInfo hx hf hp, resetInfo_lays _ _⟩,
    fun hx integrator o n hp hn hmost => ⟨exec_nvRead_range hx hf hp hn hmost, fun hfits hjob =>
      ⟨_, exec_nvRead hx hf hp hn hmost hfits hjob, by simp [readRun], fun i hi => by simp [readRun, hi]⟩⟩,
    fun hx o n data hport hp hlen hleast hmost hpages hpage hfits => ?_⟩
  have hjudged (u : State) := nvWrite_judged (s := u) hf hport hp hlen hleast hmost hpages hpage hfits
  constructor
  · intro hjob
    refine opcode_fail hx ?_
    rw [hjudged, show (s.takeRequest 0x1304 r).nv.job.isSome = true from Option.isSome_iff_ne_none.mpr hjob, guards_true]
  · intro hjob
    have hexec : exec (.nvWrite r) s = answered 0x1304 r .okDeferred [] { s.takeRequest 0x1304 r with nv := { s.nv with
        job := some { offset := o.toNat, data := data, issuer := issuerOf 0x1304 r } } } := by
      refine opcode_ok hx ?_
      rw [hjudged, show (s.takeRequest 0x1304 r).nv.job = none from hjob]
      rfl
    exact ⟨_, _, hexec, rfl, rfl, rfl, rfl⟩

end Sys2Proof.Machine
end

section
/-! The opcodes of the supervisor pair (R470, R471, R478, R479). -/

namespace Sys2Proof.Machine

/-- SUP_STATUS lays out its table (R479). -/
theorem SupState.status_lays (p : SupState) : Lays p.status 32
    [(0, [byte p.active.val, p.mode, unitCode p.units[(0 : Fin 2)], unitCode p.units[(1 : Fin 2)]]),
      (4, [p.causes[(0 : Fin 2)], p.causes[(1 : Fin 2)]]), (6, [p.referee.setWidth 8]),
      (7, [byte (bit p.swap.isSome 0 + bit p.restore.isSome 1)]), (8, be 4 p.takeovers), (12, be 4 p.journal),
      (16, be 6 p.lastTakeover), (22, be 2 p.lastDuration), (24, be 2 p.failures[(0 : Fin 2)]),
      (26, be 2 p.failures[(1 : Fin 2)]), (28, [0, 0, 0, 0])] := by
  refine lays_placed (parts := [[byte p.active.val, p.mode, unitCode p.units[(0 : Fin 2)],
    unitCode p.units[(1 : Fin 2)]], [p.causes[(0 : Fin 2)], p.causes[(1 : Fin 2)]], [p.referee.setWidth 8],
    [byte (bit p.swap.isSome 0 + bit p.restore.isSome 1)], be 4 p.takeovers, be 4 p.journal, be 6 p.lastTakeover,
    be 2 p.lastDuration, be 2 p.failures[(0 : Fin 2)], be 2 p.failures[(1 : Fin 2)], [0, 0, 0, 0]]) ?_ ?_ ?_
  · simp [SupState.status, zeros]
  · simp [SupState.status]
  · simp [placed]

section
variable {r : Request} {s : State}

theorem exec_supStatus (hx : Executes false r s) (hf : r.flag0 = false) (hp : r.params = []) :
    Reads 0x1101 .supStatus r s fun _ => s.sup.status := by
  refine opcode_reads hx ?_
  rw [supStatusBody, formed_nil hf hp]
  rfl

theorem exec_supConfigRead (hx : Executes false r s) (hf : r.flag0 = false) (hp : r.params = []) :
    Reads 0x1105 .supConfigRead r s fun s => [s.sup.flags.setWidth 8, 0, 0, 0] := by
  refine opcode_reads hx ?_
  rw [supConfigReadBody, formed_nil hf hp]
  rfl

theorem exec_supConfigWrite {flags : BitVec 2} (hx : Executes false r s) (hf : r.flag0 = false) (hport : r.port = 0)
    (hp : r.params = [flags.setWidth 8, 0, 0, 0]) :
    Writes 0x1104 .supConfigWrite r s fun s => { s with sup := { s.sup with flags := flags } } := by
  have hfield : field r.params 0 1 = flags.toNat := by
    rw [hp, field_cons_zero]
    simp only [BitVec.toNat_setWidth]
    omega
  have hu8 : (u8 r.params 0).setWidth 2 = flags := by
    rw [u8, hfield]
    bv_omega
  have hle : decide (flags.toNat > 3) = false := decide_eq_false (by omega)
  refine opcode_ok hx ?_
  rw [supConfigWriteBody, notPrincipal_of_zero hport, formed_badForm ⟨hf, by rw [hp]; rfl⟩, hfield, hle, hu8,
    show zeroAt r.params 1 3 = true by simp [hp]]
  rfl

/-! ## The drill (R470) -/

theorem supSwap_judged (hf : r.flag0 = false) (hport : r.port = 0) (hp : r.params = [0, 0, 0, 0]) :
    supSwapBody r s = guards [(s.sup.busy || s.sup.units[s.sup.other] != .standby, .busy)]
      (.ok .okDeferred [] (s.recall.updSup fun p => { p with
        units := p.units.set p.active .standby, missed := 0,
        swap := some { yielded := p.active, taken := false, returning := false, issuer := issuerOf 0x1102 r } })) := by
  rw [supSwapBody, notPrincipal_of_zero hport, formed_badForm ⟨hf, by rw [hp]; rfl⟩,
    show zeroAt r.params 0 4 = true by simp [hp]]
  rfl

/-- The drill calls the standby: the active unit yields, and requests wait (R470). -/
theorem exec_supSwap (hx : Executes false r s) (hf : r.flag0 = false) (hport : r.port = 0)
    (hp : r.params = [0, 0, 0, 0]) (hbusy : s.sup.busy = false) (hother : s.sup.units[s.sup.other] = .standby) :
    ∃ t w, exec (.supSwap r) s = answered 0x1102 r .okDeferred [] t ∧ t.sup.swap = some w ∧
      w.yielded = s.sup.active ∧ w.taken = false ∧ t.sup.units[s.sup.active] = .standby ∧ t.serving = false := by
  let u := s.takeRequest 0x1102 r
  have hsup : u.recall.sup = s.sup := congrArg Prod.fst u.recall_dutyView
  have hexec : exec (.supSwap r) s = answered 0x1102 r .okDeferred [] (u.recall.updSup fun p => { p with
      units := p.units.set p.active .standby, missed := 0,
      swap := some { yielded := p.active, taken := false, returning := false, issuer := issuerOf 0x1102 r } }) := by
    refine opcode_ok hx ?_
    have hpass : (s.sup.busy || s.sup.units[s.sup.other] != .standby) = false := by simp [hbusy, hother]
    rw [supSwap_judged hf hport hp]
    exact guards_pass _ _ (by simpa using hpass)
  refine ⟨_, _, hexec, rfl, by rw [hsup], rfl, ?_, by simp [State.serving, State.inTakeover, State.updSup]⟩
  simp [State.updSup, hsup]

/-! ## The restore (R471) -/

theorem supRestore_judged {u : Fin 2} (hf : r.flag0 = false) (hport : r.port = 0)
    (hp : r.params = [byte u.val, 0, 0, 0]) : supRestoreBody r s = guards
      [(s.sup.busy, .busy), (s.sup.units[u] != .failed, .inconsistent)]
      (.ok .okDeferred [] (s.updSup fun p => p.startRestore u (some (issuerOf 0x1103 r)))) := by
  have hn : field r.params 0 1 = u.val := by rw [hp, field_cons_zero, byte_toNat_of_lt (by omega)]
  have hle : decide (u.val > 1) = false := decide_eq_false (by omega)
  have hu : Fin.ofNat 2 u.val = u := Fin.ext (Nat.mod_eq_of_lt u.isLt)
  rw [supRestoreBody, notPrincipal_of_zero hport, formed_badForm ⟨hf, by rw [hp]; rfl⟩,
    show zeroAt r.params 1 3 = true by simp [hp]]
  simp only [hn, hle, hu]
  rfl

theorem exec_supRestore {u : Fin 2} (hx : Executes false r s) (hf : r.flag0 = false) (hport : r.port = 0)
    (hp : r.params = [byte u.val, 0, 0, 0]) (hbusy : s.sup.busy = false) (hfailed : s.sup.units[u] = .failed) :
    exec (.supRestore r) s = answered 0x1103 r .okDeferred []
      ((s.takeRequest 0x1103 r).updSup fun p => p.startRestore u (some (issuerOf 0x1103 r))) := by
  refine opcode_ok hx ?_
  rw [supRestore_judged hf hport hp]
  exact guards_pass _ _ (by simpa using ⟨hbusy, hfailed⟩)

end

/-- Settles O47. -/
theorem supervisorRequests : Obligations.SupervisorRequests := by
  intro r s hx hf
  refine ⟨fun hp => ⟨_, exec_supStatus hx hf hp, SupState.status_lays _⟩, fun hport hp => ⟨fun hbusy => ?_,
    exec_supSwap hx hf hport hp⟩, fun u hport hp => ⟨fun hbusy => ?_, fun hbusy hunit => ?_, fun hbusy hfailed => ?_⟩,
    fun flags hport hp => exec_supConfigWrite hx hf hport hp, fun hp => exec_supConfigRead hx hf hp⟩
  · refine opcode_fail hx ?_
    have hfails : (s.sup.busy || s.sup.units[s.sup.other] != .standby) = true := by simpa using hbusy
    rw [supSwap_judged hf hport hp]
    exact if_pos hfails
  · refine opcode_fail hx ?_
    rw [supRestore_judged hf hport hp]
    exact if_pos hbusy
  · refine opcode_fail hx ?_
    rw [supRestore_judged hf hport hp, show (s.takeRequest 0x1103 r).sup.busy = false from hbusy, guards_false]
    exact if_pos (by simpa using hunit)
  · exact ⟨_, _, exec_supRestore hx hf hport hp hbusy hfailed, rfl, rfl, by simp [State.updSup, SupState.startRestore]⟩

end Sys2Proof.Machine
end

section
/-! Tables of entries of one size, laid end to end; the opcodes of Weir (R459 to R462). -/

namespace Sys2Proof.Machine

/-! ## Entries of one size in a table -/

theorem placed_append (o : Nat) (a b : List Bytes) :
    placed o (a ++ b) = placed o a ++ placed (o + a.flatten.length) b := by
  induction a generalizing o with
  | nil => simp [placed]
  | cons x xs ih => simp [placed, ih, Nat.add_assoc]

/-- Entries of `k` bytes lie at the multiples of `k`. -/
theorem placed_finRange {n k : Nat} {f : Fin n → Bytes} (h : ∀ i, (f i).length = k) (o : Nat) :
    placed o ((List.finRange n).map f) = (List.finRange n).map fun i => (o + k * i.val, f i) := by
  induction n generalizing o with
  | zero => rfl
  | succ n ih =>
    have hrest := ih (f := fun i => f i.succ) (fun i => h i.succ) (o + k)
    simp only [List.finRange_succ, List.map_cons, List.map_map, Function.comp_def, placed, h, hrest]
    simp only [Fin.val_zero, Nat.mul_zero, Nat.add_zero, Fin.val_succ, Nat.mul_add, Nat.mul_one, Nat.add_assoc,
      Nat.add_comm k]

theorem flatten_finRange_length {n k : Nat} {f : Fin n → Bytes} (h : ∀ i, (f i).length = k) :
    ((List.finRange n).map f).flatten.length = k * n := by
  rw [flatten_length_of_uniform (n := k) (by simpa using h)]
  simp

theorem getD_toList {α : Type} {n : Nat} (v : Vector α n) (i : Fin n) (d : α) : v.toList.getD i.val d = v[i] := by
  simp [List.getD_eq_getElem?_getD]

/-! ## The policy (R460) -/

theorem renderPolicy_parsePolicy {b : Bytes} (hlen : b.length = 16) (hz : zeroAt b 10 6 = true) :
    renderPolicy (parsePolicy b) = b.drop 0 := by
  rw [renderPolicy, show zeros 6 = [0, 0, 0, 0, 0, 0] from rfl]
  simp [parsePolicy, be_u16, cons_eq_drop_iff, slice_append_eq_drop_iff, u8_of_zeroAt hz, hlen, -List.drop_zero,
    -List.drop_one]

section
variable {r : Request} {s : State}

/-- What is left of WEIR_POLICY_WRITE's checks once form and flags have passed. -/
theorem weirPolicyWrite_judged (hform : Formed r 16) (hport : r.port = 0) (hz : zeroAt r.params 10 6 = true)
    (hflags : (parsePolicy r.params).flags.toNat ≤ 3)
    (htap : (parsePolicy r.params).tapFloor = 0 ∨ (parsePolicy r.params).tapFloor.toNat % 2 = 1) :
    weirPolicyWriteBody r s = guards
      [(!policyRangeOk (parsePolicy r.params), .range), (!policyConsistent (parsePolicy r.params), .inconsistent)]
      (.ok .ok [] { s with weir := { s.weir with policy := parsePolicy r.params } }) := by
  have hover : decide ((parsePolicy r.params).flags.toNat > 3) = false := decide_eq_false (by omega)
  have hodd : ((parsePolicy r.params).tapFloor != 0 && (parsePolicy r.params).tapFloor.toNat % 2 == 0) = false := by
    rcases htap with h | h <;> simp [h]
  rw [weirPolicyWriteBody]
  simp only [notPrincipal_of_zero hport, formed_badForm hform, hz, hover, hodd, Bool.not_true, Bool.or_self, guards_false]

theorem exec_weirPolicyRead (hx : Executes false r s) (hform : Formed r 0) :
    Reads 0x1002 .weirPolicyRead r s fun s => renderPolicy s.weir.policy := by
  refine opcode_reads hx ?_
  rw [weirPolicyReadBody, formed_badForm hform]
  rfl

theorem exec_weirStatus (hx : Executes false r s) (hform : Formed r 0) :
    Reads 0x1003 .weirStatus r s fun _ => s.weirStatus := by
  refine opcode_reads hx ?_
  rw [weirStatusBody, formed_badForm hform]
  rfl

theorem exec_weirSensorRead (hx : Executes false r s) (hform : Formed r 0) :
    Reads 0x1004 .weirSensorRead r s fun s => s.sensorTable := by
  refine opcode_reads hx ?_
  rw [weirSensorReadBody, formed_badForm hform]
  rfl

end

/-! ## WEIR_STATUS (R461) -/

theorem State.zoneField_eq (s : State) (z : Fin 9) : s.zoneField z.val =
    if s.hasZone z.val then be 2 (satInt 16 ((s.weir.zones[z]).temp.getD 0)) else [0x80, 0x00] := by
  rw [State.zoneField, getD_toList]

theorem State.zoneField_length (s : State) (z : Nat) : (s.zoneField z).length = 2 := by
  unfold State.zoneField
  split <;> simp

theorem State.weirEngine_eq (s : State) (e : Eng) : s.weirEngine e = [byte e.val, byte (s.eng e).iLimit,
    byte (s.eng e).tapLimit, byte (s.weir.zones[1 + e.val].fallback.toNat)] ++ be 2 (s.eng e).tapPenalty ++
      be 2 (s.eng e).totalUsed := by
  rw [State.weirEngine]
  exact congrArg (fun z : Zone => [byte e.val, byte (s.eng e).iLimit, byte (s.eng e).tapLimit,
    byte z.fallback.toNat] ++ be 2 (s.eng e).tapPenalty ++ be 2 (s.eng e).totalUsed)
    (getD_toList s.weir.zones ⟨1 + e.val, by omega⟩ {})

theorem State.weirEngine_length (s : State) (e : Eng) : (s.weirEngine e).length = 8 := by simp [State.weirEngine]

/-- WEIR_STATUS lays out its table, zones and engines in their entries. -/
theorem State.weirStatus_lays (s : State) : Lays s.weirStatus 64
    ([(0, [s.weirState]), (1, [byte s.hottest.1.val]), (2, be 2 (satInt 16 s.hottest.2)),
      (4, [byte (bit s.sup.headless 0 + bit s.power.tripRecorded 1 + bit s.thermLow 2 + bit s.weir.skipped 3)]),
      (5, [byte ((List.range 104).countP fun i => s.hasSensor i && (sensorAt s.weir.sensors i).mode != .valid)]),
      (6, [0, 0])] ++ (List.finRange 9).map (fun z => (8 + 2 * z.val, s.zoneField z.val)) ++
      [(26, be 2 (satInt 16 s.weir.rise))] ++ (List.finRange 4).map (fun e => (28 + 8 * e.val, s.weirEngine e)) ++
      [(60, [0, 0, 0, 0])]) := by
  have hzones := flatten_finRange_length (f := fun z : Fin 9 => s.zoneField z.val) fun z => s.zoneField_length z.val
  have hengines := flatten_finRange_length s.weirEngine_length
  have hrange : (List.range 9).map s.zoneField = (List.finRange 9).map fun z => s.zoneField z.val := rfl
  refine lays_of_flatten ?_ ?_ ?_
  · simp [State.weirStatus, hrange, Function.comp_def, zeros]
  · simp [State.weirStatus, hrange, hzones, hengines]
  · simp only [List.map_append, List.map_map, Function.comp_def, placed_append,
      placed_finRange fun z : Fin 9 => s.zoneField_length z.val, placed_finRange s.weirEngine_length]
    simp [placed, hzones, hengines]

/-- Settles O45. -/
theorem weirRequests : Obligations.WeirRequests := by
  intro r s hx
  refine ⟨fun hform hport hz hflags htap => ?_, fun hform => ⟨exec_weirPolicyRead hx hform, ⟨_, exec_weirStatus hx hform,
    s.weirStatus_lays.mono ?_⟩, exec_weirSensorRead hx hform⟩⟩
  · have hjudged (u : State) := weirPolicyWrite_judged (s := u) hform hport hz hflags htap
    refine ⟨fun hrange => opcode_fail hx ?_, fun hrange hcons => opcode_fail hx ?_, fun hrange hcons =>
      ⟨renderPolicy_parsePolicy hform.2 hz, opcode_ok hx ?_⟩⟩ <;> rw [hjudged, hrange]
    · rfl
    · rw [hcons]
      rfl
    · rw [hcons]
      rfl
  · simp only [State.zoneField_eq, State.weirEngine_eq]
    intro x hx
    simp only [List.mem_append, List.mem_cons] at hx ⊢
    tauto

end Sys2Proof.Machine
end

section
/-! The opcodes of the Gauge (R434, R436, R437, R442 to R446). -/

namespace Sys2Proof.Machine

/-! ## A read of the copy that COPY names -/

/-- A read whose parameters are COPY and zeros answers the rendering of that copy. -/
theorem opcode_readsCopy {α : Type} {op : BitVec 16} {r : Request} {s : State} {cp : Bool} {body : State → Answer}
    {render : α → Bytes} {pick : State → Staged α} (hx : Executes false r s) (hflag : r.flag0 = false)
    (hparams : r.params = [byte cp.toNat, 0, 0, 0])
    (hb : ∀ t, body t = guards [(badForm r 4 || !zeroAt r.params 1 3 || field r.params 0 1 > 1, .badParam)]
      (answer (render (copyOf (u8 r.params 0) (pick t))) t)) :
    opcode op false r s body = answered op r .ok (render (if cp then (pick (s.takeRequest op r)).staged
      else (pick (s.takeRequest op r)).active)) (s.takeRequest op r) := by
  have hcopy : u8 r.params 0 = byte cp.toNat := by simp [hparams, u8]
  have hbad : (badForm r 4 || !zeroAt r.params 1 3 || decide (field r.params 0 1 > 1)) = false := by
    cases cp <;> simp [badForm, hflag, hparams]
  refine opcode_ok hx ?_
  rw [hb, hbad, guards_false, guards_nil, hcopy, copyOf_toNat]
  rfl

section
variable {r : Request} {s : State}

/-! ## Settings (R443, R444) -/

theorem exec_gaugeSeqWrite (hx : Executes false r s) (hform : Formed r 136) (hport : r.port = 0)
    (hz1 : zeroAt r.params 1 1 = true) (hz4 : zeroAt r.params 4 4 = true) (hcount : (parseSeq r.params).count.toNat ≤ 16)
    (hentries : ∀ i, i < 16 → badEntry r.params (parseSeq r.params).count.toNat i = false)
    (hranges : ∀ e ∈ (parseSeq r.params).used, s.entryOk e = true) (hfree : s.holdsModule 12 = false) :
    Writes 0x0F01 .gaugeSeqWrite r s fun s => { s with gauge := { s.gauge with
      seq := { s.gauge.seq with staged := parseSeq r.params } } } := by
  have hany : ((List.range 16).any fun i => badEntry r.params (parseSeq r.params).count.toNat i) = false := by
    simpa using hentries
  have hrange : (decide ((parseSeq r.params).count.toNat > 16) ||
      (parseSeq r.params).used.any fun e => !(s.takeRequest 0x0F01 r).entryOk e) = false := by
    rw [decide_eq_false (by omega), Bool.false_or, List.any_eq_false]
    intro e he
    rw [show (s.takeRequest 0x0F01 r).entryOk e = true from hranges e he]
    exact Bool.false_ne_true
  refine opcode_ok hx ?_
  rw [gaugeSeqWriteBody]
  simp only [notPrincipal_of_zero hport, formed_badForm hform, hz1, hz4, hany, hrange, takeRequest_holdsModule, hfree,
    Bool.not_true, Bool.or_self, guards_false, guards_nil]

theorem exec_gaugeSeqRead {cp : Bool} (hx : Executes false r s) (hf : r.flag0 = false)
    (hp : r.params = [byte cp.toNat, 0, 0, 0]) : Reads 0x0F02 .gaugeSeqRead r s fun s =>
      renderSeq (if cp then s.gauge.seq.staged else s.gauge.seq.active) :=
  opcode_readsCopy (render := renderSeq) (pick := fun s => s.gauge.seq) (body := gaugeSeqReadBody r) hx hf hp
    fun _ => rfl

theorem exec_gaugeCheckWrite {tol n : Byte} (hx : Executes false r s) (hf : r.flag0 = false) (hport : r.port = 0)
    (hp : r.params = [tol, n, 0, 0]) (htol : tol.toNat ≤ 64) (hn : n ≠ 0) :
    Writes 0x0F05 .gaugeCheckWrite r s fun s => { s with gauge := { s.gauge with tol := tol, disagreeN := n } } := by
  have htol0 : u8 r.params 0 = tol := by simp [u8, hp]
  have hn1 : u8 r.params 1 = n := by simp [u8, hp]
  have hform : (badForm r 4 || field r.params 1 1 == 0 || !zeroAt r.params 2 2) = false := by
    simpa [badForm, hf, hp] using fun h : n.toNat = 0 => hn (BitVec.eq_of_toNat_eq h)
  have hrange : decide (field r.params 0 1 > 64) = false := by simp [hp, htol]
  refine opcode_ok hx ?_
  rw [gaugeCheckWriteBody, notPrincipal_of_zero hport, hform, hrange, htol0, hn1]
  rfl

/-! ## Injections and calibrations (R436, R437) -/

/-- An injection stays in execution: behind a running one, or at once, where a sequence that waits to start resets its
decimators (R433, R436). -/
theorem exec_gaugeInject {ch set gain : Byte} (hx : Executes false r s) (hf : r.flag0 = false) (hport : r.port = 0)
    (hp : r.params = [ch, set, gain, 0]) (hgain : badGain gain = false) (hch : s.hasChannel ch.toNat = true)
    (hset : set.toNat ≤ 64) (running : Bool)
    (hrunning : running = match s.gauge.work with | .injection _ => true | _ => false) :
    exec (.gaugeInject r) s = .next (State.runOn (if running then { s.takeRequest 0x0F03 r with
        gauge := { s.gauge with injections := s.gauge.injections ++ [r] } }
      else match s.gauge.restart with
        | some mask => State.resetCics { s.takeRequest 0x0F03 r with
            gauge := { s.gauge with work := .injection r, restart := none } } mask
        | none => { s.takeRequest 0x0F03 r with
            gauge := { s.gauge with work := .injection r, restart := none } }) 0x0F03 r) := by
  have hform : (badForm r 4 || badGain (u8 r.params 2) || !zeroAt r.params 3 1) = false := by
    have hu : u8 r.params 2 = gain := by simp [u8, hp]
    rw [hu, hgain]
    simp [badForm, hf, hp]
  have hrange : (!(s.takeRequest 0x0F03 r).hasChannel (field r.params 0 1) || decide (field r.params 1 1 > 64)) = false := by
    have hfield : field r.params 0 1 = ch.toNat := by simp [hp]
    rw [hfield, show (s.takeRequest 0x0F03 r).hasChannel ch.toNat = true from hch]
    simp [hp, hset]
  subst hrunning
  refine opcode_later hx ?_
  rw [gaugeInjectBody]
  simp only [notPrincipal_of_zero hport, hform, hrange, guards_false, guards_nil]
  rfl

theorem exec_gaugeCalibrate (hx : Executes false r s) (hf : r.flag0 = false) (hport : r.port = 0)
    (hp : r.params = [0, 0, 0, 0]) {u : State} (hu : u = { s.takeRequest 0x0F04 r with
      gauge := { s.gauge with calibrations := s.gauge.calibrations ++ [r] } }) :
    exec (.gaugeCalibrate r) s = .next ((if s.gauge.work = .idle then u.gbNext else u).runOn 0x0F04 r) := by
  have hform : (badForm r 4 || !zeroAt r.params 0 4) = false := by simp [badForm, hf, hp]
  subst hu
  refine opcode_later hx ?_
  rw [gaugeCalibrateBody]
  simp only [notPrincipal_of_zero hport, hform, guards_false, guards_nil]
  rfl

/-! ## Status and results (R445, R446) -/

theorem exec_gaugeStatus (hx : Executes false r s) (hform : Formed r 0) :
    Reads 0x0F06 .gaugeStatus r s fun _ => s.gaugeStatus := by
  refine opcode_reads hx ?_
  rw [gaugeStatusBody, formed_badForm hform]
  rfl

theorem toList_map_eq_finRange {α β : Type} {n : Nat} (v : Vector α n) (f : α → β) :
    v.toList.map f = (List.finRange n).map fun i => f v[i] := by
  apply List.ext_getElem <;> simp

/-- GAUGE_STATUS lays out its table, GA's last codes in their entries (R445). -/
theorem State.gaugeStatus_lays (s : State) : Lays s.gaugeStatus 144
    ([(0, [byte (bit s.gauge.hold 0 + bit s.gauge.disagreed 1 + bit (s.gauge.buffer.length ≥ 4096) 2)]),
      (1, [byte (s.power.strap0.toNat + 8 * s.power.strap1.toNat)]), (2, be 2 s.gauge.gaLast[0]),
      (4, be 2 s.gauge.gbCheck), (6, [byte s.gauge.tolerance]), (7, [s.gauge.disagreeN]),
      (8, beBytes 2 s.gauge.buffer.length), (10, be 2 (sat 16 s.gauge.lost.toNat)), (12, [0, 0, 0, 0])] ++
     (List.finRange 64).map fun i => (16 + 2 * i.val, be 2 s.gauge.gaLast[i])) := by
  have hlen (i : Fin 64) : (be 2 s.gauge.gaLast[i]).length = 2 := by simp
  refine lays_of_flatten ?_ ?_ ?_
  · simp [State.gaugeStatus, toList_map_eq_finRange, Function.comp_def, zeros]
  · simp only [State.gaugeStatus, toList_map_eq_finRange, List.length_append, flatten_finRange_length hlen]
    simp
  · simp only [List.map_append, List.map_map, Function.comp_def, placed_append, placed_finRange hlen]
    simp [placed]

theorem byte_tolerance (g : GaugeState) : byte g.tolerance = if g.tol = 0 then 8 else byte g.tol.toNat := by
  unfold GaugeState.tolerance
  by_cases h : g.tol = 0
  · simp [h, byte]
  · rw [if_neg h, if_neg (by simpa using h)]

/-- Results leave from the front; a result that waited in the register follows into the room. -/
theorem GaugeState.takeResults_buffer (g : GaugeState) {k : Nat} (hroom : (g.buffer.drop k).length < 4096) :
    (g.takeResults k).buffer = g.buffer.drop k ++ g.register.toList := by
  unfold GaugeState.takeResults
  cases g.register with
  | none => simp
  | some x =>
    simp only [hroom, if_true]
    rfl

theorem exec_gaugeResultRead {max : Byte} (hx : Executes false r s) (hf : r.flag0 = false)
    (hp : r.params = [max, 0, 0, 0]) (hmax : max ≠ 0) : exec (.gaugeResultRead r) s = answered 0x0F07 r .ok
      ([byte (min max.toNat s.gauge.buffer.length), 0, 0, 0] ++ be 4 s.gauge.lost
        ++ ((s.gauge.buffer.take (min max.toNat s.gauge.buffer.length)).map resultBytes).flatten)
      { s.takeRequest 0x0F07 r with gauge := s.gauge.takeResults (min max.toNat s.gauge.buffer.length) } := by
  have hfield : field r.params 0 1 = max.toNat := by simp [hp]
  have hform : (badForm r 4 || max.toNat == 0 || !zeroAt r.params 1 3) = false := by
    simpa [badForm, hf, hp] using fun h : max.toNat = 0 => hmax (BitVec.eq_of_toNat_eq h)
  refine opcode_ok hx ?_
  rw [gaugeResultReadBody, hfield, hform]
  rfl

end

/-- Settles O43. -/
theorem gaugeRequests : Obligations.GaugeRequests := by
  intro r s hx
  refine ⟨exec_gaugeSeqWrite hx, fun cp hf hp => exec_gaugeSeqRead hx hf hp,
    fun ch set gain hport hf hp hgain hch hset => ?inject, fun hport hf hp u hu => ?calibrate,
    fun tol n hport hf hp htol hn => exec_gaugeCheckWrite hx hf hport hp htol hn,
    fun hform => ⟨_, exec_gaugeStatus hx hform, ?status⟩,
    fun max hf hp hmax hfull => ?results⟩
  case status =>
    rw [← byte_tolerance]
    exact s.gaugeStatus_lays
  case inject =>
    have hexec := exec_gaugeInject hx hf hport hp hgain hch hset
    refine ⟨fun j hj => hexec true (by rw [hj]), fun hj hrestart => ?_, fun mask hj hrestart => ?_⟩
    all_goals
      have hidle : false = match s.gauge.work with | .injection _ => true | _ => false := by
        split
        next j h => exact absurd h (hj j)
        next => rfl
      rw [hexec false hidle, hrestart]
      rfl
  case calibrate =>
    rw [exec_gaugeCalibrate hx hf hport hp hu]
    exact ⟨fun hwork => by rw [if_neg hwork], fun hwork => by rw [if_pos hwork]⟩
  case results =>
    have hk : max.toNat ≠ 0 := fun h => hmax (BitVec.eq_of_toNat_eq h)
    have hdrop : s.gauge.buffer.drop (min max.toNat s.gauge.buffer.length) = s.gauge.buffer.drop max.toNat := by
      rcases Nat.le_total max.toNat s.gauge.buffer.length with h | h
      · rw [Nat.min_eq_left h]
      · rw [Nat.min_eq_right h, List.drop_length, List.drop_eq_nil_of_le h]
    have htake : s.gauge.buffer.take (min max.toNat s.gauge.buffer.length) = s.gauge.buffer.take max.toNat := by
      rw [List.take_eq_take_iff]
      omega
    refine ⟨htake ▸ exec_gaugeResultRead hx hf hp hmax, ?_⟩
    rw [GaugeState.takeResults_buffer _ (by rw [List.length_drop]; omega), hdrop]
    cases s.gauge.register <;> rfl

end Sys2Proof.Machine
end

section
/-! The Gauge's own instants (R415, R429 to R432, R434, R436 to R438). -/

namespace Sys2Proof.Machine

/-! ## Walks that establish a property of one element -/

/-- A walk over a list brings about what its step for `e` does, where the others do not undo it. -/
theorem foldl_establishes {α : Type} {f : State → α → State} {P Q : State → Prop} {e : α}
    (hQ : ∀ t d, Q t → Q (f t d)) (hset : ∀ t, Q t → P (f t e)) (hkeep : ∀ t d, Q t → P t → P (f t d))
    {l : List α} (he : e ∈ l) {s : State} (hs : Q s) : P (l.foldl f s) := by
  have hstays (l : List α) (t : State) (ht : Q t) (hP : P t) : P (l.foldl f t) := by
    induction l generalizing t with
    | nil => exact hP
    | cons d ds ih => exact ih _ (hQ t d ht) (hkeep t d ht hP)
  induction l generalizing s with
  | nil => cases he
  | cons d ds ih =>
    rcases List.mem_cons.mp he with rfl | he
    · exact hstays ds _ (hQ s _ hs) (hset s hs)
    · exact ih he (hQ s d hs)

/-! ## The gauge under the operations of a check -/

section
variable (s : State)

@[simp] theorem State.rehold_gauge (e : Eng) (cause : Byte) : (s.rehold e cause).gauge = s.gauge := by
  unfold State.rehold
  dsimp only
  (repeat' split) <;> simp

@[simp] theorem State.hostHold_gauge (e : Eng) (hold : BitVec 6) : (s.hostHold e hold).gauge = s.gauge := by
  unfold State.hostHold
  dsimp only
  split <;> simp

@[simp] theorem State.calHold_gauge (e : Eng) (on : Bool) : (s.calHold e on).gauge = s.gauge := by
  unfold State.calHold
  split <;> simp

theorem State.holdEngines_gauge (on : Bool) : (s.holdEngines on).gauge = s.gauge :=
  foldl_keeps State.gauge (fun s e => by (repeat' split) <;> simp) _ s

theorem State.checkHold_gauge (on : Bool) (data : Bytes) :
    (s.checkHold on data).gauge = { s.gauge with hold := on } := by
  rw [State.checkHold, State.holdEngines_gauge, State.raise_gauge]

theorem State.putResult_gauge (r : GbResult) : ∃ buffer register lost lostLong, (s.putResult r).gauge =
    { s.gauge with buffer := buffer, register := register, lost := lost, lostLong := lostLong } := by
  unfold State.putResult
  dsimp only
  split
  · exact ⟨_, _, _, _, rfl⟩
  · split
    · exact ⟨_, _, _, _, rfl⟩
    · exact ⟨_, _, _, _, by rw [State.count_gauge]⟩

end

section
variable {s : State} {ga gb : BitVec 12}

/-- Codes within the tolerance clear the disagreement (R430). -/
theorem State.judgeCheck_within (h : ((ga.toNat : Int) - gb.toNat).natAbs ≤ s.gauge.tolerance) :
    ∃ hold, (s.judgeCheck ga gb).gauge =
      { s.gauge with disagreed := false, bad := 0, good := s.gauge.good + 1, hold := hold } := by
  rw [State.judgeCheck, if_neg (Nat.not_lt.mpr h)]
  dsimp only
  split
  · exact ⟨_, State.checkHold_gauge _ _ _⟩
  · exact ⟨s.gauge.hold, rfl⟩

/-- The state of a check that disagrees, before the hold that may follow (R430). -/
def State.disagreeing (s : State) (ga gb : BitVec 12) : State :=
  let t := ({ s with gauge := { s.gauge with disagreed := true, bad := s.gauge.bad + 1, good := 0 } } : State).count
    .gaugeChecksDisagreed 0 1
  if s.gauge.disagreed then t else t.raise 0x0F01 .module (be 2 (ga.setWidth 16) ++ be 2 (gb.setWidth 16))

theorem State.disagreeing_gauge :
    (s.disagreeing ga gb).gauge = { s.gauge with disagreed := true, bad := s.gauge.bad + 1, good := 0 } := by
  unfold State.disagreeing
  dsimp only
  split <;> simp

theorem State.judgeCheck_beyond (h : s.gauge.tolerance < ((ga.toNat : Int) - gb.toNat).natAbs) : s.judgeCheck ga gb =
    if !s.gauge.hold && s.gauge.bad + 1 ≥ s.gauge.disagreeN.toNat
      then (s.disagreeing ga gb).checkHold true [sat 8 (s.gauge.bad + 1)] else s.disagreeing ga gb := by
  unfold State.judgeCheck State.disagreeing
  dsimp only
  rw [if_pos h]

theorem State.judgeCheck_beyond_gauge (h : s.gauge.tolerance < ((ga.toNat : Int) - gb.toNat).natAbs) :
    ∃ hold, (s.judgeCheck ga gb).gauge =
      { s.gauge with disagreed := true, bad := s.gauge.bad + 1, good := 0, hold := hold } := by
  rw [State.judgeCheck_beyond h]
  split
  · exact ⟨_, by rw [State.checkHold_gauge, State.disagreeing_gauge]⟩
  · exact ⟨_, State.disagreeing_gauge⟩

/-- One engine's part of the start of the hold. -/
def State.holdOne (s : State) (e : Eng) : State :=
  if !s.hasEngine e.val then s else (s.rehold e 1).calHold e true

theorem State.calHold_tx (s : State) (d e : Eng) (on : Bool) : ((s.calHold d on).eng e).tx = (s.eng e).tx := by
  unfold State.calHold
  split
  · rfl
  · rw [State.raise_eng, State.eng_updEng]
    split
    next h => rw [h]
    next => rfl

theorem State.rehold_eng_other (s : State) {d e : Eng} (h : e ≠ d) (cause : Byte) : (s.rehold d cause).eng e = s.eng e := by
  unfold State.rehold
  dsimp only
  (repeat' split) <;> simp [State.eng_updEng, h]

theorem State.holdOne_gauge (s : State) (e : Eng) : (s.holdOne e).gauge = s.gauge := by
  unfold State.holdOne
  split <;> simp

theorem State.holdOne_ident (s : State) (e : Eng) : (s.holdOne e).ident = s.ident := by
  have hraise (t : State) (c : BitVec 16) (pl : Place) (d : Bytes) : (t.raise c pl d).ident = t.ident := by simp
  unfold State.holdOne State.calHold State.rehold
  dsimp only
  (repeat' split) <;> simp

theorem State.holdEngines_true (s : State) : s.holdEngines true = (List.finRange 4).foldl State.holdOne s := rfl

theorem State.holdOne_held_same {s : State} {e : Eng} (hhold : s.gauge.hold = true) (he : s.hasEngine e.val = true) :
    ((s.holdOne e).eng e).tx.held = 0x3F := by
  rw [State.holdOne, he, if_neg (by simp), State.calHold_tx, State.rehold_tx, State.holdSet, hhold]
  simp

theorem State.holdOne_held {s : State} {e : Eng} (d : Eng) (hhold : s.gauge.hold = true)
    (hheld : (s.eng e).tx.held = 0x3F) : ((s.holdOne d).eng e).tx.held = 0x3F := by
  unfold State.holdOne
  split
  · exact hheld
  · rw [State.calHold_tx]
    by_cases hd : e = d
    · subst hd
      rw [State.rehold_tx, State.holdSet, hhold]
      simp
    · rw [State.rehold_eng_other s hd, hheld]

/-- The hold of the check holds every loop of every engine (R118, R431). -/
theorem State.checkHold_held (s : State) (data : Bytes) {e : Eng} (he : s.hasEngine e.val = true) :
    ((s.checkHold true data).eng e).tx.held = 0x3F := by
  let P : State → Prop := fun t => (t.eng e).tx.held = 0x3F
  let Q : State → Prop := fun t => t.gauge.hold = true ∧ t.ident = s.ident
  have hhas {t : State} (ht : Q t) : t.hasEngine e.val = true := by
    rw [← he, State.hasEngine, State.engineCount, ht.2]
    rfl
  have hQ (t : State) (d : Eng) (ht : Q t) : Q (t.holdOne d) := by
    dsimp only [Q]
    rw [State.holdOne_gauge, State.holdOne_ident]
    exact ht
  have hset (t : State) (ht : Q t) : P (t.holdOne e) := State.holdOne_held_same ht.1 (hhas ht)
  have hkeep (t : State) (d : Eng) (ht : Q t) (hP : P t) : P (t.holdOne d) := State.holdOne_held d ht.1 hP
  rw [State.checkHold, State.holdEngines_true]
  have hstart : Q (({ s with gauge := { s.gauge with hold := true } } : State).raise 0x0F02 .module data) :=
    ⟨by rw [State.raise_gauge], by rw [State.raise_ident]⟩
  exact foldl_establishes (P := P) hQ hset hkeep (List.mem_finRange e) hstart

/-! ## The check of a cycle (R430, R431) -/

/-- What the check of a cycle leaves: GA's codes, no check that waits, and the disagreement and the hold by the two
codes. -/
structure Checked (s : State) (ga : BitVec 12) (t : State) : Prop where
  gaLast : t.gauge.gaLast = s.gauge.gaLast
  checkDue : t.gauge.checkDue = s.gauge.checkDue
  within : ((ga.toNat : Int) - t.gauge.gbCheck.toNat).natAbs ≤ s.gauge.tolerance →
    t.gauge.disagreed = false ∧ t.gauge.bad = 0
  beyond : s.gauge.tolerance < ((ga.toNat : Int) - t.gauge.gbCheck.toNat).natAbs → t.gauge.disagreed = true
  holds : s.gauge.tolerance < ((ga.toNat : Int) - t.gauge.gbCheck.toNat).natAbs → s.gauge.hold = false →
    s.gauge.bad + 1 ≥ s.gauge.disagreeN.toNat →
    t.gauge.hold = true ∧ ∀ e : Eng, s.hasEngine e.val = true → (t.eng e).tx.held = 0x3F

theorem State.disagreeing_ident : (s.disagreeing ga gb).ident = s.ident := by
  unfold State.disagreeing
  dsimp only
  split <;> simp

theorem State.judgeCheck_checked (hgb : s.gauge.gbCheck = gb) : Checked s ga (s.judgeCheck ga gb) := by
  subst hgb
  by_cases h : ((ga.toNat : Int) - s.gauge.gbCheck.toNat).natAbs ≤ s.gauge.tolerance
  · obtain ⟨hold, hg⟩ := State.judgeCheck_within h
    have hcheck : (s.judgeCheck ga s.gauge.gbCheck).gauge.gbCheck = s.gauge.gbCheck := by rw [hg]
    refine ⟨by rw [hg], by rw [hg], fun _ => by rw [hg]; exact ⟨rfl, rfl⟩, ?_, ?_⟩
    all_goals
      rw [hcheck]
      exact fun hlt => absurd h (Nat.not_le.mpr hlt)
  · have hlt : s.gauge.tolerance < ((ga.toNat : Int) - s.gauge.gbCheck.toNat).natAbs := Nat.lt_of_not_le h
    obtain ⟨hold, hg⟩ := State.judgeCheck_beyond_gauge hlt
    have hcheck : (s.judgeCheck ga s.gauge.gbCheck).gauge.gbCheck = s.gauge.gbCheck := by rw [hg]
    refine ⟨by rw [hg], by rw [hg], ?_, fun _ => by rw [hg], fun _ hhold hbad => ?_⟩
    · rw [hcheck]
      exact fun hle => absurd hle h
    · rw [State.judgeCheck_beyond hlt, hhold, if_pos (by simpa using hbad), State.checkHold_gauge]
      refine ⟨rfl, fun e he => State.checkHold_held _ _ ?_⟩
      rw [← he, State.hasEngine, State.engineCount, State.disagreeing_ident]
      rfl

theorem State.putResult_ident (s : State) (x : GbResult) : (s.putResult x).ident = s.ident := by
  unfold State.putResult
  dsimp only
  (repeat' split) <;> simp

/-- GB's check conversion is noted and compared with GA's (R430). -/
theorem State.compareCheck_checked (s : State) (ga raw : BitVec 12) : Checked s ga (s.compareCheck ga raw) := by
  unfold State.compareCheck
  extract_lets code gb t _ u
  obtain ⟨buffer, register, lost, lostLong, hg⟩ := u.putResult_gauge (s.resultNow 0x11 (bit (isClipped code) 2) gb)
  have h := State.judgeCheck_checked (s := u.putResult (s.resultNow 0x11 (bit (isClipped code) 2) gb)) (ga := ga)
    (gb := gb.setWidth 12) (by rw [hg])
  have hhas (e : Eng) : (u.putResult (s.resultNow 0x11 (bit (isClipped code) 2) gb)).hasEngine e.val =
      s.hasEngine e.val := by
    rw [State.hasEngine, State.engineCount, State.putResult_ident]
    rfl
  have htol : (u.putResult (s.resultNow 0x11 (bit (isClipped code) 2) gb)).gauge.tolerance = s.gauge.tolerance := by
    rw [hg]
    rfl
  obtain ⟨hlast, hdue, hwithin, hbeyond, hholds⟩ := h
  rw [htol] at hwithin hbeyond hholds
  simp only [hhas] at hholds
  rw [hg] at hlast hdue hholds
  exact ⟨hlast, hdue, hwithin, hbeyond, hholds⟩

/-- GB's next work where no check waits. -/
theorem State.gbNext_of_noCheck (h : s.gauge.checkDue = none) : ∃ work injections,
    s.gbNext = { s with gauge := { s.gauge with work := work, injections := injections } } := by
  have hmake : s.makeCheck = s := by rw [State.makeCheck, h]
  unfold State.gbNext
  split
  · exact ⟨_, _, rfl⟩
  · simp only [hmake]
    split
    · exact ⟨_, s.gauge.injections, rfl⟩
    · split
      · exact ⟨_, s.gauge.injections, rfl⟩
      · exact ⟨_, s.gauge.injections, rfl⟩

theorem Checked.gauge {t u : State} {work : GbWork} {injections : List Request} {restart : Option (BitVec 16)}
    {cic : Vector Cic 16} (h : Checked s ga t) (hg : u.gauge = { t.gauge with
      work := work, injections := injections, restart := restart, cic := cic }) (he : u.engines = t.engines) :
    Checked s ga u := by
  obtain ⟨hlast, hdue, hwithin, hbeyond, hholds⟩ := h
  have heng (e : Eng) : u.eng e = t.eng e := by simp only [State.eng, he]
  constructor <;> simp only [hg, heng] <;> assumption

end

end Sys2Proof.Machine
end

section
/-! The Gauge's own instants: GB's conversions, its passes, GA's cycle and the decimators (R415, R429 to R438). -/

namespace Sys2Proof.Machine

theorem clipCode_le (i : Int) : (clipCode i).toNat ≤ 4095 := by
  unfold clipCode
  rw [BitVec.toNat_ofNat]
  omega

section
variable {s : State}

/-- A result with room in the buffer joins at its end. -/
theorem State.putResult_of_room {x : GbResult} (h : s.gauge.buffer.length < 4096) :
    s.putResult x = { s with gauge := { s.gauge with buffer := s.gauge.buffer ++ [x] } } := by
  rw [State.putResult, if_pos h]

/-! ## The ends of conversions (R434 to R437) -/

theorem State.gbEnd_injection (raw : BitVec 12) {r : Request} (h : s.gauge.work = .injection r) :
    ∃ (v : BitVec 16) (flag : Byte) (u : State), v.toNat ≤ 4095 ∧
      (flag = byte (bit s.gauge.overruns 1) ∨ flag = byte (4 + bit s.gauge.overruns 1)) ∧
      u.gauge.injected = v ∧ u.gauge.seq = s.gauge.seq ∧
      s.gbEnd raw = (u.conclude 0x0F03 r .ok (be 2 v ++ [flag, 0])).gbNext := by
  let code := s.corrected (u8 r.params 2) raw
  let t : State := { s.skip with gauge := { s.gauge with injected := clipCode code } }
  let x := s.skip.resultNow 0x10 (bit (isClipped code) 2) (clipCode code)
  obtain ⟨buffer, register, lost, lostLong, hg⟩ := t.putResult_gauge x
  have hend : s.gbEnd raw = ((t.putResult x).conclude 0x0F03 r .ok
      (be 2 (clipCode code) ++ [byte (bit (isClipped code) 2 + bit s.gauge.overruns 1), 0])).gbNext := by
    unfold State.gbEnd
    rw [h]
    rfl
  refine ⟨clipCode code, _, t.putResult x, clipCode_le _, ?_, by rw [hg], by rw [hg], hend⟩
  cases isClipped code
  · exact .inl (by simp [bit])
  · exact .inr rfl

theorem State.gbEnd_entry (raw : BitVec 12) {n : Fin 16} {e : GaugeEntry} (h : s.gauge.work = .entry n e)
    (hrestart : s.gauge.restart = none) (hratio : e.ratio.toNat ≤ 1) (hroom : s.gauge.buffer.length < 4096) :
    ∃ (u : State) (x : GbResult), x.tag = byte n.val ∧ x.value.toNat ≤ 4095 ∧ x.time = s.moduleTime.setWidth 32 ∧
      u.gauge.buffer = s.gauge.buffer ++ [x] ∧ u.gauge.lastValues = s.gauge.lastValues.set n x.value ∧
      s.gbEnd raw = ({ u with gauge := u.gauge.advance n.val } : State).gbNext := by
  let code := s.corrected e.gain raw
  let x := s.skip.resultNow (byte n.val) (bit (isClipped code) 2) (clipCode code)
  let t : State := { s.skip with gauge := { s.gauge with lastValues := s.gauge.lastValues.set n (clipCode code) } }
  have hput := State.putResult_of_room (s := t) (x := x) hroom
  have hresult : s.entryResult n e raw = t.putResult x := if_pos hratio
  have hend : s.gbEnd raw =
      ({ t.putResult x with gauge := (t.putResult x).gauge.advance n.val } : State).gbNext := by
    unfold State.gbEnd
    rw [h]
    simp only [hresult, show (t.putResult x).gauge.restart = none by rw [hput]; exact hrestart]
  exact ⟨t.putResult x, x, rfl, clipCode_le _, rfl, by rw [hput], by rw [hput]; rfl, hend⟩

theorem State.calibrated_eq {r : Request} (offsets : List Int) (gain : Int) (h : s.gauge.work = .calibration r) :
    s.calibrated offsets gain = (({ s with gauge := { s.gauge with
      offsets := offsets, gain := gain, calibrations := s.gauge.calibrations.drop 1 } } : State).conclude 0x0F04 r .ok
        []).gbNext := by
  rw [State.calibrated, h]

/-! ## Passes (R432) -/

theorem State.passTick_late (hpass : s.gauge.pass = true) (hlate : s.gauge.late = false) :
    s.passTick.gauge = { s.gauge with late := true, passAt := some s.moduleTime } ∧ s.passTick.engines = s.engines := by
  have h : s.passTick = ({ s with gauge := { s.gauge with
      late := true, passAt := some s.moduleTime } } : State).count .gaugePaceLate 0 1 := by
    unfold State.passTick
    simp [hpass, hlate]
  rw [h]
  simp

theorem State.passTick_starts (hpass : s.gauge.pass = false) (hwork : s.gauge.work ≠ .idle) :
    s.passTick = { s with gauge := { s.gauge with pass := true, due := 0, passAt := some s.moduleTime } } := by
  unfold State.passTick
  simp [hpass, hwork]

theorem exec_gbPassTick (hr : s.ready = true) (hcount : s.gauge.seq.active.count ≠ 0)
    (hpace : s.gauge.seq.active.pace ≠ 0) (hat : s.gauge.passAt ≠ some s.moduleTime)
    (hmultiple : s.moduleTime.toNat % s.gauge.seq.active.pace.toNat = 0) :
    exec .gbPassTick s = .next s.passTick := by
  have hdue : s.passDue = true := by
    unfold State.passDue
    simp only [bne_iff_ne.mpr hcount, bne_iff_ne.mpr hpace, bne_iff_ne.mpr hat, hmultiple]
    rfl
  rw [show exec .gbPassTick s = execGbPassTick s from rfl, execGbPassTick, eventIf_true hr hdue]

/-! ## GA's cycle (R429 to R431) -/

/-- GA's codes of a cycle, in channel order. -/
def State.cycleCodes (s : State) (codes : List (BitVec 12)) : Vector (BitVec 12) 64 :=
  Vector.ofFn fun (i : Fin 64) =>
    if s.gaSamples i.val then ((codes[i.val]?).map (s.gaCode i.val)).getD s.gauge.gaLast[i] else 0

theorem State.cycleCodes_eq (s : State) (codes : List (BitVec 12)) : s.cycleCodes codes =
    Vector.ofFn fun (i : Fin 64) => if s.gaSamples i.val then
      (match codes[i.val]? with | some c => s.gaCode i.val c | none => s.gauge.gaLast[i]) else 0 := by
  unfold State.cycleCodes
  congr 1
  funext i
  cases codes[i.val]? <;> rfl

/-- A cycle has begun: GA's codes are noted. -/
def State.cycleBegun (s : State) (codes : List (BitVec 12)) : State :=
  { s with fresh := s.fresh + 64,
           gauge := { s.gauge with gaLast := s.cycleCodes codes, cycleAt := some s.moduleTime, checkDue := none } }

/-- A sequence that waited for the check starts after it, which changes nothing the check settled (R433). -/
theorem Checked.restarted {ga : BitVec 12} {t : State} (h : Checked s ga t) (hnone : t.gauge.checkDue = none)
    (mask : BitVec 16) :
    Checked s ga (({ t with gauge := { t.gauge with restart := none } } : State).resetCics mask).gbNext := by
  obtain ⟨work, injections, hnext⟩ := State.gbNext_of_noCheck
    (s := ({ t with gauge := { t.gauge with restart := none } } : State).resetCics mask) hnone
  exact h.gauge (by rw [hnext]; rfl) (by rw [hnext]; rfl)

/-- A cycle that preempts an entry's conversion, or finds GB idle, makes its check at once; a sequence that waited to
start, starts after it (R430, R433). -/
theorem State.gaCycle_checked (codes : List (BitVec 12)) (check : BitVec 12) {n : Fin 16} {e : GaugeEntry}
    (h : s.gauge.work = .entry n e) :
    Checked (s.cycleBegun codes) (s.cycleCodes codes)[0] (s.gaCycle codes check) := by
  have ht := State.compareCheck_checked (s.cycleBegun codes) (s.cycleCodes codes)[0] check
  generalize hcompare : (s.cycleBegun codes).compareCheck (s.cycleCodes codes)[0] check = t at ht
  unfold State.gaCycle
  extract_lets ga g u wait _ v
  have hga : ga = s.cycleCodes codes := (s.cycleCodes_eq codes).symm
  have hwait : wait = false := by simp only [wait, u, g, h]
  have hv : v = t := by
    show State.compareCheck { u with gauge := { u.gauge with checkDue := none } } ga[0] check = t
    rw [← hcompare]
    simp only [u, g, hga, State.cycleBegun]
  rw [if_neg (by simp [hwait])]
  clear_value v
  subst hv
  split
  case h_1 mask _ => exact ht.restarted (ht.checkDue.trans rfl) mask
  case h_2 => exact ht

/-! ## The decimators (R415, R438) -/

theorem State.cic_all (s : State) : (Vector.ofFn fun (i : Fin 16) =>
    if (0xFFFF : BitVec 16).getLsbD i.val then ({} : Cic) else s.gauge.cic[i]) = Vector.replicate 16 {} := by
  have hset : ∀ i : Fin 16, (0xFFFF : BitVec 16).getLsbD i.val = true := by decide
  ext i hi : 1
  simp only [Vector.getElem_ofFn, Vector.getElem_replicate, hset ⟨i, hi⟩, if_true]

theorem exec_decimatorReset (hr : s.ready = true) (hsync : s.time.config.active.decSync ≠ 0) :
    exec .decimatorReset s = .next { s.resetCics 0xFFFF with
      time := { s.time with decResets := s.time.decResets + 1 } } := by
  rw [show exec .decimatorReset s = execDecimatorReset s from rfl, execDecimatorReset,
    eventIf_true hr (bne_iff_ne.mpr hsync)]
  rfl

end

/-- Settles O44. -/
theorem gaugeInstants : Obligations.GaugeInstants := by
  intro s raw hr
  have hconversion : exec (.gbConversionEnd raw) s = .next (s.gbEnd raw) := event_ready hr fun s => s.gbEnd raw
  refine ⟨fun r h => ?_, fun n e h hrestart hratio hroom => ?_, fun r offsets gain h => ?_,
    fun hcount hpace hat hmultiple => ?_, fun codes check hmultiple hat ⟨n, e, h⟩ => ?_, fun hsync => ?_⟩
  · obtain ⟨v, flag, u, hv, hflag, hinjected, hseq, hend⟩ := State.gbEnd_injection raw h
    exact ⟨v, flag, u, hv, hflag, hinjected, hseq, by rw [hconversion, hend]⟩
  · obtain ⟨u, x, htag, hvalue, htime, hbuffer, hlast, hend⟩ := State.gbEnd_entry raw h hrestart hratio hroom
    exact ⟨u, x, htag, hvalue, htime, hbuffer, hlast, by rw [hconversion, hend]⟩
  · rw [show exec (.gaugeCalDone offsets gain) s = event s fun s => s.calibrated offsets gain from rfl,
      event_ready hr, State.calibrated_eq offsets gain h]
  · have hexec := exec_gbPassTick hr hcount hpace hat hmultiple
    exact ⟨fun hpass hlate => ⟨_, hexec, State.passTick_late hpass hlate⟩,
      fun hpass hwork => by rw [hexec, State.passTick_starts hpass hwork]⟩
  · have hexec : exec (.gaCycleStart codes check) s = .next (s.gaCycle codes check) :=
      eventIf_true hr (by simp [State.cycleDue, hmultiple, hat]) fun s => s.gaCycle codes check
    have hchecked := State.gaCycle_checked codes check h
    have hlast : (s.gaCycle codes check).gauge.gaLast = s.cycleCodes codes := hchecked.gaLast
    refine ⟨_, hexec, hlast, ?_, fun hbeyond => ?_⟩
    · rw [hlast]
      exact hchecked.within
    · rw [hlast] at hbeyond
      exact ⟨hchecked.beyond hbeyond, hchecked.holds hbeyond⟩
  · refine ⟨_, exec_decimatorReset hr hsync, ?_, rfl⟩
    simp only [State.resetCics, s.cic_all]

end Sys2Proof.Machine
end

section
/-! Supplies, the resets and ready (R502 to R509, R513). -/

namespace Sys2Proof.Machine

section
variable {s : State}

/-! ## The supplies (R456, R502 to R504) -/

theorem State.powerDown_railsOn (s : State) : s.powerDown.railsOn = false := rfl

theorem State.railsOff_railsOn (s : State) : s.railsOff.railsOn = false := by
  unfold State.railsOff
  cases h : s.railsOn
  · exact h
  · rfl

theorem State.railsOff_ovenStable (s : State) : s.railsOff.hw.ovenStable = s.hw.ovenStable := by
  unfold State.railsOff
  split <;> rfl

/-- Without rails the module is not ready, and no laser gives light. -/
theorem State.laserOn_of_notReady (h : s.ready = false) (e : Eng) : s.laserOn e = false := by
  rw [State.laserOn, h, Bool.false_and]

theorem State.notReady_of_railsOff (h : s.railsOn = false) : s.ready = false := by
  unfold State.railsOn at h
  unfold State.ready
  cases hp : s.power.phase <;> simp_all

/-! ## A reset that keeps the rails (R505, R506) -/

/-- What a steered Headwater takes into HOLDOVER on entry to a reset is its own, but an event and a free value. -/
theorem State.hwWarm_keeps (s : State) : s.hwWarm.moduleTime = s.moduleTime ∧ s.hwWarm.power = s.power ∧
    s.hwWarm.sup = s.sup ∧ s.hwWarm.keys = s.keys ∧ s.hwWarm.nv = s.nv := by
  unfold State.hwWarm
  split <;> simp [State.toHoldover, State.enterHoldover]

theorem NvState.cut_fuses (n : NvState) (free : Nat) : (n.cut free).fuses = n.fuses := by
  unfold NvState.cut
  split <;> rfl

theorem State.cutFuses_fuses (h : s.keys.owner ≠ .provisioning) : s.cutFuses.fuses = s.nv.fuses := by
  unfold State.cutFuses
  simp [h, NvState.cut_fuses]

theorem State.warmReset_moduleTime (s : State) (cause : Byte) : (s.warmReset cause).moduleTime = s.moduleTime :=
  s.hwWarm_keeps.1

theorem State.warmReset_resets (s : State) (cause : Byte) :
    (s.warmReset cause).power.resets = bump s.power.resets :=
  congrArg (fun p : PowerState => bump p.resets) s.hwWarm_keeps.2.1

theorem State.warmReset_takeovers (s : State) (cause : Byte) : (s.warmReset cause).sup.takeovers = s.sup.takeovers :=
  congrArg (fun p : SupState => p.warm.takeovers) s.hwWarm_keeps.2.2.1

theorem State.warmReset_fuses (cause : Byte) (h : s.keys.owner ≠ .provisioning) :
    (s.warmReset cause).nv.fuses = s.nv.fuses := by
  obtain ⟨-, -, -, hkeys, hnv⟩ := s.hwWarm_keeps
  calc (s.warmReset cause).nv.fuses
      _ = s.hwWarm.nv.fuses := State.cutFuses_fuses (by rwa [hkeys])
      _ = s.nv.fuses := by rw [hnv]

theorem State.warmReset_port (s : State) (cause : Byte) (p : Hp) : (s.warmReset cause).port p = {} := by
  change (Vector.replicate 4 ({} : Port))[p] = {}
  simp

theorem execResetNDeassert_reset {ns : Nat} (hlow : s.power.resetLow = true) (hready : s.power.phase = .ready)
    (hns : 10000 ≤ ns) : exec (.resetNDeassert ns) s = .next (State.warmReset { s with
      fresh := s.fresh + 1
      power := { s.power with resetLow := false }
      jtag := { s.jtag with driving := false, floating := false } } 2) := by
  have hresets : s.pulseResets ns = true := by simp [State.pulseResets, State.railsOn, hready, hns]
  rw [show exec (.resetNDeassert ns) s = execResetNDeassert ns s from rfl, execResetNDeassert, if_pos hlow]
  simp [hresets, State.poweringOn, hready]

theorem execModuleResetBegin_resets (hr : s.ready = true) (hdue : s.power.resetDue = true) :
    exec .moduleResetBegin s = .next (s.warmReset 3) :=
  eventIf_true hr hdue fun s => s.warmReset 3

theorem execResetNDeassert_short {ns : Nat} (hlow : s.power.resetLow = true) (hns : ns < 1000) :
    exec (.resetNDeassert ns) s = .next { s with
      fresh := s.fresh + 1
      power := { s.power with resetLow := false }
      jtag := { s.jtag with driving := false, floating := false } } := by
  have hresets : s.pulseResets ns = false := by
    simp only [State.pulseResets, Bool.and_eq_false_iff, Bool.or_eq_false_iff, decide_eq_false_iff_not]
    omega
  rw [show exec (.resetNDeassert ns) s = execResetNDeassert ns s from rfl, execResetNDeassert, if_pos hlow]
  simp [hresets]

/-! ## Ready (R508, R509) -/

/-- What ready leaves of the state of a reset: the module, its time, RESET_N, the ports' sessions and the engines'
settings. -/
def State.readyView (s : State) : Identity × BitVec 48 × Bool × (Hp → BitVec 48) × (Eng → Staged EngineParams) :=
  (s.ident, s.moduleTime, s.power.resetLow, fun p => (s.port p).sessionStart, fun e => (s.eng e).params)

@[simp] theorem State.raise_readyView (s : State) (c : BitVec 16) (pl : Place) (d : Bytes) :
    (s.raise c pl d).readyView = s.readyView := by
  simp [State.readyView]

theorem State.updEng_readyView (s : State) (e : Eng) {f : Engine → Engine} (h : ∀ x, (f x).params = x.params) :
    (s.updEng e f).readyView = s.readyView := by
  have heng : (fun d => ((s.updEng e f).eng d).params) = fun d => (s.eng d).params := by
    funext d
    rw [State.eng_updEng]
    split <;> simp [h]
  exact congrArg (fun v => (s.ident, s.moduleTime, s.power.resetLow, fun p => (s.port p).sessionStart, v)) heng

theorem State.mapEng_readyView (s : State) {f : Engine → Engine} (h : ∀ x, (f x).params = x.params) :
    ({ s with engines := s.engines.map f } : State).readyView = s.readyView := by
  simp [State.readyView, State.eng, State.port, h]

@[simp] theorem State.fuseEffect_readyView (s : State) (f : FuseRow) : (s.fuseEffect f).readyView = s.readyView := by
  unfold State.fuseEffect
  extract_lets e tile
  cases f.content with
  | slice conv i => dsimp only; split <;> [exact s.updEng_readyView e fun _ => rfl; rfl]
  | tileBandgap => dsimp only; split <;> [exact s.updEng_readyView e fun _ => rfl; rfl]
  | hubBandgap => exact s.mapEng_readyView fun _ => rfl
  | sensor n => rfl
  | owner _ => rfl

@[simp] theorem State.readFuse_readyView (s : State) (f : FuseRow) : (s.readFuse f).readyView = s.readyView := by
  unfold State.readFuse
  split
  · rfl
  split
  · rw [State.fuseFault, State.raise_readyView, State.fuseEffect_readyView]
  split
  · split
    · rfl
    · exact s.updEng_readyView _ fun _ => rfl
  all_goals rfl

@[simp] theorem State.readFuses_readyView (s : State) (rep : ReadyReport) :
    (s.readFuses rep).readyView = s.readyView := by
  unfold State.readFuses
  extract_lets rows _ t u
  have hu : u.readyView = s.readyView := foldl_keeps State.readyView State.readFuse_readyView rows t
  exact (u.mapEng_readyView (f := fun x => { x with cal := { x.cal with dacPhase := x.cal.firstPhase } })
    fun _ => rfl).trans hu

@[simp] theorem State.strapFault_readyView (s : State) (strap : Byte) (code : Option (BitVec 12)) :
    (s.strapFault strap code).readyView = s.readyView := by
  unfold State.strapFault
  split
  · rfl
  · exact s.raise_readyView _ _ _

@[simp] theorem State.readStraps_readyView (s : State) (rep : ReadyReport) :
    (s.readStraps rep).readyView = s.readyView := by
  unfold State.readStraps
  rw [State.strapFault_readyView, State.strapFault_readyView]
  rfl

@[simp] theorem State.recordTrip_readyView (s : State) : s.recordTrip.readyView = s.readyView := by
  unfold State.recordTrip
  split
  · rw [State.raise_readyView]
    rfl
  · rfl

/-- A record's fault is an event. -/
theorem State.recordFault_keeps (s : State) (f : FactoryRecord) : (s.recordFault f).readyView = s.readyView ∧
    (s.recordFault f).nv = s.nv ∧ (s.recordFault f).records = s.records := by
  unfold State.recordFault
  split <;> simp

/-- The records kept are those found in the factory region as it now reads (R183). -/
theorem State.readRecords_keeps (s : State) (rep : ReadyReport) : (s.readRecords rep).readyView = s.readyView ∧
    (s.readRecords rep).records = findRecords (s.readRecords rep).nv.factory s.engineCount := by
  unfold State.readRecords
  extract_lets cells l
  refine ⟨?_, ?_⟩
  · rw [foldl_keeps State.readyView fun t x => (t.recordFault_keeps x).1]
    rfl
  · rw [foldl_keeps State.records fun t x => (t.recordFault_keeps x).2.2,
      foldl_keeps State.nv fun t x => (t.recordFault_keeps x).2.1]

@[simp] theorem State.recordTrip_nv (s : State) : s.recordTrip.nv = s.nv := by
  unfold State.recordTrip
  split <;> simp

@[simp] theorem State.recordTrip_records (s : State) : s.recordTrip.records = s.records := by
  unfold State.recordTrip
  split <;> simp

theorem State.openPorts_readyView (s : State) : s.openPorts.readyView =
    (s.ident, s.moduleTime, s.power.resetLow, fun _ => s.moduleTime, fun e => (s.eng e).params) := by
  simp [State.readyView, State.openPorts, State.port, State.eng]

/-- The state of the last step of ready, before rst.ready. -/
def State.prepared (s : State) (rep : ReadyReport) : State :=
  ((((s.openPorts.readFuses rep).readOwner.readStraps rep).calibrateGauge).readRecords rep).recordTrip

theorem State.prepared_readyView (s : State) (rep : ReadyReport) :
    (s.prepared rep).readyView = s.openPorts.readyView := by
  have hcal (t : State) : t.calibrateGauge.readyView = t.readyView := rfl
  have howner (t : State) : t.readOwner.readyView = t.readyView := rfl
  rw [State.prepared, State.recordTrip_readyView, (State.readRecords_keeps _ _).1, hcal, State.readStraps_readyView,
    howner, State.readFuses_readyView]

theorem State.prepared_records (s : State) (rep : ReadyReport) :
    (s.prepared rep).records = findRecords (s.prepared rep).nv.factory s.engineCount := by
  let t := ((s.openPorts.readFuses rep).readOwner.readStraps rep).calibrateGauge
  have hview : t.readyView = s.openPorts.readyView := by
    have hcal (t : State) : t.calibrateGauge.readyView = t.readyView := rfl
    have howner (t : State) : t.readOwner.readyView = t.readyView := rfl
    rw [hcal, State.readStraps_readyView, howner, State.readFuses_readyView]
  have hcount : t.engineCount = s.engineCount := by
    rw [State.engineCount, show t.ident = s.ident from congrArg Prod.fst hview]
    rfl
  rw [State.prepared, State.recordTrip_nv, State.recordTrip_records, ← hcount]
  exact (t.readRecords_keeps rep).2

theorem execModuleReady_eq {rep : ReadyReport} (hphase : s.power.phase = .starting) (hlow : s.power.resetLow = false) :
    exec (.moduleReady rep) s = .next ((s.prepared rep).announceReady rep.readyTime) := by
  rw [show exec (.moduleReady rep) s = execModuleReady rep s from rfl, execModuleReady, if_pos (by simp [hphase, hlow])]
  rfl

/-- rst.ready is an event, and the state READY with the time that it tells. -/
theorem State.announceReady_keeps (t : State) (time : BitVec 32) :
    (t.announceReady time).readyView = t.readyView ∧ (t.announceReady time).power.phase = .ready ∧
      (t.announceReady time).power.readyTime = time ∧ (t.announceReady time).nv = t.nv ∧
      (t.announceReady time).records = t.records := by
  refine ⟨?_, ?_, ?_, ?_, ?_⟩
  · rw [State.announceReady, State.raise_readyView]
    rfl
  all_goals simp [State.announceReady]

/-! ## The supplies and the trip latch, as commands -/

theorem execPowerOnTrigger_powersOn (hoff : s.railsOn = false) (hlatch : s.power.tripLatch = false) :
    exec .powerOnTrigger s = .next s.powerOn :=
  congrArg Host.Outcome.next (if_pos (by simp [hoff, hlatch]))

theorem execP3v3AuxApplied_starts (haux : s.power.aux = false) : exec .p3v3AuxApplied s = .next { s with
    power := { s.power with aux := true }
    hw := { s.hw with ovenStable := false, ovenDays := 0, ovenSince := s.moduleTime } } :=
  congrArg Host.Outcome.next (if_neg (by simp [haux]))

theorem execTripLatchRelease_powersUp (hlatch : s.power.tripLatch = true) (hlow : s.power.resetLow = true)
    (hp : s.power.p12v = true) (haux : s.power.aux = true) (hoff : s.railsOn = false) :
    exec .tripLatchRelease s =
      .next (State.powerUp { s with power := { s.power with tripLatch := false } } 4) := by
  have hphase : s.power.phase = .unpowered := by simpa [State.railsOn] using hoff
  simp [show exec .tripLatchRelease s = execTripLatchRelease s from rfl, execTripLatchRelease, hlatch, hlow, hp, haux,
    State.railsOn, hphase]

theorem State.nvDone_nv (s : State) (j : NvJob) : (s.nvDone j).nv = { s.nv with
    job := none, integrator := writeRun 0 s.nv.integrator j.offset j.data } :=
  State.raise_nv _ _ _ _

end

/-- Settles O52: each supply and each reset by what it leaves of the state; ready by a view that none of its steps
but the opening of the ports changes. -/
theorem powerAndResets : Obligations.PowerAndResets := by
  intro s
  refine ⟨fun hoff hlatch => ⟨s.powerOn, execPowerOnTrigger_powersOn hoff hlatch, rfl, rfl, rfl, rfl, rfl, rfl, rfl⟩,
    fun hp => ⟨s.losesP12v, ?_, rfl, s.railsOff_railsOn, rfl, s.railsOff_ovenStable⟩,
    fun haux => ⟨s.losesAux, ?_, rfl, s.railsOff_railsOn, rfl⟩,
    fun haux => ⟨_, execP3v3AuxApplied_starts haux, rfl, rfl, rfl⟩, rfl, rfl, ?_,
    fun ns hlow hready hns => ⟨_, execResetNDeassert_reset hlow hready hns, rfl, rfl, State.warmReset_resets _ _,
      State.warmReset_moduleTime _ _, rfl, State.warmReset_takeovers _ _⟩,
    fun ns hlow hns => ⟨_, execResetNDeassert_short hlow hns, rfl, rfl, rfl⟩,
    fun hr hdue => ⟨s.warmReset 3, execModuleResetBegin_resets hr hdue, rfl, rfl, s.warmReset_moduleTime 3, rfl, rfl,
      State.warmReset_fuses 3, rfl, rfl, fun p => ?_⟩,
    fun hlatch hlow hp haux hoff => ⟨_, execTripLatchRelease_powersUp hlatch hlow hp haux hoff, rfl, rfl, rfl⟩,
    fun rep hphase hlow => ⟨_, execModuleReady_eq hphase hlow, ?_⟩, fun j hr hj => ⟨s.nvDone j, ?_, ?_⟩⟩
  · exact congrArg Host.Outcome.next (if_pos hp)
  · exact congrArg Host.Outcome.next (if_pos haux)
  · have hnot : ({ s with power := { s.power with resetLow := true } } : State).ready = false := by
      simp [State.ready]
    exact ⟨_, rfl, rfl, hnot, rfl, State.laserOn_of_notReady hnot⟩
  · rw [State.warmReset_port]
    exact ⟨rfl, rfl, rfl⟩
  · obtain ⟨hview, hready, htime, hnv, hrecords⟩ := (s.prepared rep).announceReady_keeps rep.readyTime
    rw [State.prepared_readyView, State.openPorts_readyView] at hview
    obtain ⟨-, hnow, hlow', hsession, hparams⟩ : _ ∧ _ ∧ _ ∧ _ ∧ _ := by
      simpa only [State.readyView, Prod.mk.injEq] using hview
    refine ⟨?_, htime, hnow, congrFun hsession, ?_, congrFun hparams⟩
    · rw [State.ready, hready, hlow', hlow]
      rfl
    · rw [hrecords, hnv, State.prepared_records]
  · rw [show exec .nvWriteDone s = event s fun s => match s.nv.job with | some j => s.nvDone j | none => s from rfl,
      event_ready hr, hj]
  · rw [State.nvDone_nv]
    exact ⟨rfl, rfl, rfl⟩

end Sys2Proof.Machine
end

section
/-! Weir's own instants: a reading, the hold that it may begin, the hold's release, and the trip (R450 to R456). -/

namespace Sys2Proof.Machine

/-! ## What walks over the engines leave of the rest -/

/-- Weir's state, the module and every engine's parameters are the same. -/
def SameGround (s t : State) : Prop :=
  t.weir = s.weir ∧ t.ident = s.ident ∧ ∀ e, (t.eng e).params = (s.eng e).params

theorem SameGround.refl (s : State) : SameGround s s := ⟨rfl, rfl, fun _ => rfl⟩

theorem SameGround.trans {s t u : State} (h : SameGround s t) (k : SameGround t u) : SameGround s u := by
  obtain ⟨hweir, hident, hparams⟩ := h
  obtain ⟨kweir, kident, kparams⟩ := k
  exact ⟨kweir.trans hweir, kident.trans hident, fun e => (kparams e).trans (hparams e)⟩

theorem EngineOnly.sameGround {e : Eng} {s t : State} (h : EngineOnly e s t) : SameGround s t := by
  obtain ⟨hrest, hother, hparams, -⟩ := h
  refine ⟨by rw [hrest], by rw [hrest], fun d => ?_⟩
  by_cases hd : d = e
  · rw [hd, hparams]
  · rw [hother d hd]

theorem foldl_sameGround {α : Type} {f : State → α → State} (h : ∀ t x, SameGround t (f t x)) (l : List α) (s : State) :
    SameGround s (l.foldl f s) := by
  induction l generalizing s with
  | nil => exact .refl s
  | cons x xs ih => exact (h s x).trans (ih (f s x))

theorem SameGround.hasEngine {s t : State} (h : SameGround s t) (n : Nat) : t.hasEngine n = s.hasEngine n := by
  rw [State.hasEngine, State.engineCount, h.2.1]
  rfl

/-- The hottest zone depends on the zones and on what is populated. -/
theorem State.hottest_congr {s t : State} (hzones : t.weir.zones = s.weir.zones) (hident : t.ident = s.ident) :
    t.hottest = s.hottest := by
  simp only [State.hottest, State.hasZone, State.hasEngine, State.engineCount, hzones, hident]
  rfl

section
variable {s : State}

/-! ## Sensors and zones (R450, R451) -/

/-- What no reading of sensors or zones moves. -/
def State.offSensors (s : State) : Vector Engine 4 × Identity × WeirPolicy × WeirPolicy × Bool :=
  (s.engines, s.ident, s.weir.policy, s.weir.inForce, s.weir.hold)

theorem State.raise_offSensors (s : State) (c : BitVec 16) (pl : Place) (d : Bytes) :
    (s.raise c pl d).offSensors = s.offSensors := by
  simp [State.offSensors]

theorem State.sensorEvent_offSensors (s : State) (i : Nat) (old new : Sensor) (near : List Int) :
    (s.sensorEvent i old new near).offSensors = s.offSensors := by
  unfold State.sensorEvent
  dsimp only
  split
  · rfl
  split <;> exact State.raise_offSensors _ _ _ _

theorem State.offSensors_sensors (s : State) (v : Vector Sensor 104) :
    ({ s with weir := { s.weir with sensors := v } } : State).offSensors = s.offSensors := rfl

theorem State.readSensors_offSensors (s : State) (temps : List (BitVec 16)) :
    (s.readSensors temps).offSensors = s.offSensors := by
  unfold State.readSensors
  extract_lets old mid new _ t
  generalize List.range 104 = l
  exact (foldl_keeps State.offSensors (fun t i => t.sensorEvent_offSensors i _ _ _) l t).trans (s.offSensors_sensors new)

theorem State.readZone_offSensors (s : State) (temps : List (Option Int)) (z : Fin 9) :
    (s.readZone temps z).offSensors = s.offSensors := by
  unfold State.readZone
  split
  · rfl
  dsimp only
  split
  · exact State.raise_offSensors _ _ _ _
  · rfl

theorem State.readZones_offSensors (s : State) : s.readZones.offSensors = s.offSensors :=
  foldl_keeps State.offSensors (fun t z => t.readZone_offSensors _ z) _ _

theorem State.noteRise_offSensors (s : State) : s.noteRise.offSensors = s.offSensors := rfl

/-! ## Throttling (R452) -/

theorem State.fecEffort_tx (s : State) (d e : Eng) : ((s.fecEffort d).eng e).tx = (s.eng e).tx := by
  unfold State.fecEffort
  dsimp only
  split <;> (simp only [State.raise_eng, State.eng_updEng]; split <;> simp_all)

theorem State.idleEffort_tx (s : State) (d e : Eng) : ((s.idleEffort d).eng e).tx = (s.eng e).tx := by
  unfold State.idleEffort
  dsimp only
  split
  · rfl
  · exact s.fecEffort_tx d e

theorem engineOnly_idleEffort (e : Eng) (s : State) : EngineOnly e s (s.idleEffort e) := by
  unfold State.idleEffort
  exact engineOnly_ite (.refl _ _) (engineOnly_fecEffort e s)

theorem engineOnly_throttle (e : Eng) (s : State) : EngineOnly e s (s.throttle e) := by
  unfold State.throttle
  split
  · refine engineOnly_ite (.refl _ _) (EngineOnly.trans ?_ (engineOnly_ite (engineOnly_raise _ _ _ _ _) (.refl _ _)))
    exact (engineOnly_updEng e s rfl).trans (engineOnly_idleEffort e _)
  · exact .refl _ _

theorem State.throttle_tx (s : State) (d e : Eng) : ((s.throttle d).eng e).tx = (s.eng e).tx := by
  have hlimits (f : Engine → Engine) (hf : ∀ x, (f x).tx = x.tx) :
      (((s.updEng d f).idleEffort d).eng e).tx = (s.eng e).tx := by
    rw [State.idleEffort_tx, State.eng_updEng]
    split
    next h => rw [hf, h]
    next => rfl
  unfold State.throttle
  split
  · dsimp only
    split
    · rfl
    · split
      · rw [State.raise_eng]
        exact hlimits _ fun _ => rfl
      · exact hlimits _ fun _ => rfl
  · rfl

theorem State.throttles_tx (s : State) (l : List Eng) (e : Eng) :
    ((l.foldl (fun s e => s.throttle e) s).eng e).tx = (s.eng e).tx :=
  foldl_keeps (fun t => (t.eng e).tx) (fun t d => t.throttle_tx d e) l s

/-! ## The hold (R123, R454) -/

/-- A quench reason leaves no laser lit and none being enabled. -/
theorem State.quench_dark (s : State) (e : Eng) (reason : Byte) :
    ((s.quench e reason).eng e).tx.mode ≠ .lit ∧ ((s.quench e reason).eng e).tx.mode ≠ .enabling := by
  have hfast (ended : Bool) : ((s.fastQuench e reason ended).eng e).tx.mode = .quenching :=
    congrArg Prod.fst (s.fastQuench_quenchView e reason ended)
  unfold State.quench
  split
  case h_1 => split <;> simp [State.eng_updEng_same, hfast]
  case h_2 => simp [hfast]
  case h_3 h => split <;> simp [hfast, h]
  case h_4 h => split <;> simp [State.eng_updEng_same, h]
  all_goals simp_all

theorem State.holdDark_dark (s : State) (e : Eng) (reason : Byte) :
    ((s.holdDark e reason).eng e).tx.mode ≠ .lit ∧ ((s.holdDark e reason).eng e).tx.mode ≠ .enabling := by
  have h := s.quench_dark e reason
  rw [State.holdDark, State.eng_updEng_same]
  dsimp only
  split
  · exact ⟨nofun, nofun⟩
  · exact h

theorem engineOnly_holdDark (e : Eng) (s : State) (reason : Byte) : EngineOnly e s (s.holdDark e reason) := by
  refine (engineOnly_quench e s reason).trans (engineOnly_updEng e (s.quench e reason) (f := fun x => { x with tx := {
    x.tx with mode := if x.tx.mode == .dark then .heldDark else x.tx.mode, enableNext := false } }) ?_)
  rfl

/-- One engine's part of a shutdown. -/
def State.holdPopulated (s : State) (reason : Byte) (e : Eng) : State :=
  if s.hasEngine e.val then s.holdDark e reason else s

theorem engineOnly_holdPopulated (e : Eng) (s : State) (reason : Byte) : EngineOnly e s (s.holdPopulated reason e) :=
  engineOnly_ite (engineOnly_holdDark e s reason) (.refl e s)

/-- The hold darkens every populated engine. -/
theorem State.holdsPopulated_dark (s : State) (reason : Byte) {e : Eng} (he : s.hasEngine e.val = true) :
    (((List.finRange 4).foldl (State.holdPopulated · reason ·) s).eng e).tx.mode ≠ .lit ∧
      (((List.finRange 4).foldl (State.holdPopulated · reason ·) s).eng e).tx.mode ≠ .enabling := by
  refine foldl_establishes (f := (State.holdPopulated · reason ·))
    (P := fun t => (t.eng e).tx.mode ≠ .lit ∧ (t.eng e).tx.mode ≠ .enabling)
    (Q := fun t => t.hasEngine e.val = true) ?_ ?_ ?_ (List.mem_finRange e) he
  · intro t d ht
    rwa [(engineOnly_holdPopulated d t reason).sameGround.hasEngine]
  · intro t ht
    rw [State.holdPopulated, if_pos ht]
    exact t.holdDark_dark e reason
  · intro t d ht hdark
    by_cases hd : e = d
    · rw [← hd, State.holdPopulated, if_pos ht]
      exact t.holdDark_dark e reason
    · rwa [(engineOnly_holdPopulated d t reason).2.1 e hd]

/-- The reason of a shutdown: 3 for an orderly one, else 4 (R454). -/
def State.shutReason (s : State) (z : Fin 9) (t : Int) : Byte :=
  if decide (8 * t + s.weir.zones[z].rise < 16000) then 3 else 4

/-- A shutdown is noted, with its event, before the engines are held. -/
def State.shutNoted (s : State) (z : Fin 9) (t : Int) : State :=
  let w := { s.weir with
    hold := true, skipped := !decide (8 * t + s.weir.zones[z].rise < 16000), holdHeadless := s.sup.headless }
  ({ s with weir := w } : State).raise 0x1006 .module
    ([s.shutReason z t, byte z.val] ++ be 2 (satInt 16 t) ++ be 2 (satInt 16 w.rise))

theorem State.shutdown_eq (s : State) (z : Fin 9) (t : Int) : s.shutdown z t =
    (List.finRange 4).foldl (State.holdPopulated · (s.shutReason z t) ·) (s.shutNoted z t) := by
  unfold State.shutdown State.shutNoted State.holdPopulated State.shutReason
  rfl

theorem State.shutNoted_keeps (s : State) (z : Fin 9) (t : Int) :
    (s.shutNoted z t).weir.zones = s.weir.zones ∧ (s.shutNoted z t).weir.policy = s.weir.policy ∧
      (s.shutNoted z t).weir.hold = true ∧ (s.shutNoted z t).ident = s.ident ∧ (s.shutNoted z t).engines = s.engines := by
  unfold State.shutNoted
  simp

/-- A shutdown changes of Weir what says that it holds, and darkens every populated engine. -/
theorem State.shutdown_holds (s : State) (z : Fin 9) (t : Int) :
    (s.shutdown z t).weir.zones = s.weir.zones ∧ (s.shutdown z t).weir.policy = s.weir.policy ∧
      (s.shutdown z t).weir.hold = true ∧
      (s.shutdown z t).ident = s.ident ∧ (∀ e, ((s.shutdown z t).eng e).params = (s.eng e).params) ∧
      ∀ e : Eng, s.hasEngine e.val = true →
        ((s.shutdown z t).eng e).tx.mode ≠ .lit ∧ ((s.shutdown z t).eng e).tx.mode ≠ .enabling := by
  obtain ⟨hzones, hpolicy, hhold, hident, hengines⟩ := s.shutNoted_keeps z t
  have heq := s.shutdown_eq z t
  generalize s.shutNoted z t = u at *
  generalize s.shutReason z t = reason at heq
  obtain ⟨kweir, kident, kparams⟩ : SameGround u (s.shutdown z t) := by
    rw [heq]
    exact foldl_sameGround (fun t e => (engineOnly_holdPopulated e t reason).sameGround) _ u
  refine ⟨by rw [kweir, hzones], by rw [kweir, hpolicy], by rw [kweir, hhold], kident.trans hident, fun e => ?_, fun e he => ?_⟩
  · rw [kparams, State.eng, State.eng, hengines]
  · rw [heq]
    refine u.holdsPopulated_dark reason ?_
    rwa [State.hasEngine, State.engineCount, hident]

/-! ## A reading (R450 to R454) -/

/-- The state of a reading before a shutdown. -/
def State.weirRead (s : State) (temps : List (BitVec 16)) : State :=
  (List.finRange 4).foldl (fun s e => s.throttle e)
    (State.readSensors { s with weir := { s.weir with inForce := s.weir.policy } } temps).readZones.noteRise

theorem State.weirReading_eq (s : State) (temps : List (BitVec 16)) :
    s.weirReading temps = (s.weirRead temps).shutdownDue := rfl

/-- A reading takes the policy as written into force; the rest of what it finds is sensors, zones and limits. -/
theorem State.weirRead_keeps (s : State) (temps : List (BitVec 16)) :
    (s.weirRead temps).weir.policy = s.weir.policy ∧ (s.weirRead temps).weir.inForce = s.weir.policy ∧
      (s.weirRead temps).weir.hold = s.weir.hold ∧ (s.weirRead temps).ident = s.ident ∧
      (∀ e, ((s.weirRead temps).eng e).params = (s.eng e).params) ∧
      ∀ e, ((s.weirRead temps).eng e).tx = (s.eng e).tx := by
  let u : State := { s with weir := { s.weir with inForce := s.weir.policy } }
  have hview : (u.readSensors temps).readZones.noteRise.offSensors = u.offSensors := by
    rw [State.noteRise_offSensors, State.readZones_offSensors, State.readSensors_offSensors]
  have hwalk : SameGround (u.readSensors temps).readZones.noteRise (s.weirRead temps) :=
    foldl_sameGround (fun t e => (engineOnly_throttle e t).sameGround) _ _
  have htx (e : Eng) :
      ((s.weirRead temps).eng e).tx = ((u.readSensors temps).readZones.noteRise.eng e).tx :=
    State.throttles_tx _ _ e
  generalize (u.readSensors temps).readZones.noteRise = v at *
  obtain ⟨hengines, hident, hpolicy, hforce, hhold⟩ : v.engines = s.engines ∧ v.ident = s.ident ∧
      v.weir.policy = s.weir.policy ∧ v.weir.inForce = s.weir.policy ∧ v.weir.hold = s.weir.hold := by
    simpa only [State.offSensors, Prod.mk.injEq] using hview
  have heng (e : Eng) : v.eng e = s.eng e := by simp only [State.eng, hengines]
  obtain ⟨kweir, kident, kparams⟩ := hwalk
  exact ⟨by rw [kweir, hpolicy], by rw [kweir, hforce], by rw [kweir, hhold], kident.trans hident,
    fun e => by rw [kparams, heng], fun e => (htx e).trans (by rw [heng])⟩

theorem exec_weirReading (hr : s.ready = true) (temps : List (BitVec 16)) :
    exec (.weirReading temps) s = .next (s.weirReading temps) := by
  rw [show exec (.weirReading temps) s = execWeirReading temps s from rfl, execWeirReading, event_ready hr]

theorem State.weirReading_outcome (s : State) (temps : List (BitVec 16)) (hhold : s.weir.hold = false) :
    ((s.weirReading temps).hottest.2 ≥ 16 * s.weir.policy.orderlyAt → (s.weirReading temps).weir.hold = true ∧
      ∀ e : Eng, s.hasEngine e.val = true → ((s.weirReading temps).eng e).tx.mode ≠ .lit ∧
        ((s.weirReading temps).eng e).tx.mode ≠ .enabling) ∧
    ((s.weirReading temps).hottest.2 < 16 * s.weir.policy.orderlyAt → (s.weirReading temps).weir.hold = false ∧
      ∀ e, ((s.weirReading temps).eng e).tx = (s.eng e).tx) ∧
    (s.weirReading temps).weir.policy = s.weir.policy ∧
    ∀ e, ((s.weirReading temps).eng e).params = (s.eng e).params := by
  rw [State.weirReading_eq]
  obtain ⟨hpolicy, hforce, hnot, hident, hparams, htx⟩ := s.weirRead_keeps temps
  generalize s.weirRead temps = u at *
  have hhas (e : Eng) : u.hasEngine e.val = s.hasEngine e.val := by
    rw [State.hasEngine, State.engineCount, hident]
    rfl
  have hdue : u.shutdownDue =
      if u.hottest.2 ≥ 16 * s.weir.policy.orderlyAt then u.shutdown u.hottest.1 u.hottest.2 else u := by
    simp only [State.shutdownDue, hnot, hhold, hforce, Bool.not_false, Bool.true_and, decide_eq_true_eq]
  by_cases hot : u.hottest.2 ≥ 16 * s.weir.policy.orderlyAt
  · rw [hdue, if_pos hot]
    obtain ⟨kzones, kpolicy, khold, kident, kparams, kdark⟩ := u.shutdown_holds u.hottest.1 u.hottest.2
    rw [State.hottest_congr kzones kident]
    exact ⟨fun _ => ⟨khold, fun e he => kdark e ((hhas e).trans he)⟩, fun hlt => absurd hot (not_le.mpr hlt),
      kpolicy.trans hpolicy, fun e => (kparams e).trans (hparams e)⟩
  · rw [hdue, if_neg hot]
    exact ⟨fun h => absurd h hot, fun _ => ⟨hnot.trans hhold, htx⟩, hpolicy, hparams⟩

/-! ## Release (R455) -/

theorem engineOnly_unhold (e : Eng) (s : State) : EngineOnly e s (s.unhold e) := by
  unfold State.unhold
  refine engineOnly_ite (.refl _ _) ?_
  exact EngineOnly.trans (engineOnly_updEng e s rfl) (engineOnly_ite (engineOnly_txEnable e _ 0) (.refl _ _))

theorem State.txEnable_mode (s : State) (e : Eng) (lead : BitVec 32) :
    ((s.txEnable e false lead).eng e).tx.mode = .enabling := by
  rw [State.txEnable, if_neg Bool.false_ne_true, State.rehold_tx, State.eng_updEng_same]

theorem State.unhold_notHeld (s : State) (e : Eng) : ((s.unhold e).eng e).tx.mode ≠ .heldDark := by
  unfold State.unhold
  split
  next h => simpa using h
  next =>
    dsimp only
    split
    · rw [State.txEnable_mode]
      exact nofun
    · rw [State.eng_updEng_same]
      exact nofun

theorem State.unhold_other (s : State) {e : Eng} (h : (s.eng e).tx.mode ≠ .heldDark) (d : Eng) :
    ((s.unhold d).eng e).tx = (s.eng e).tx := by
  by_cases hd : e = d
  · rw [← hd, State.unhold, if_pos (by simpa using h)]
  · rw [(engineOnly_unhold d s).2.1 e hd]

theorem State.unholds_other (l : List Eng) {e : Eng} (h : (s.eng e).tx.mode ≠ .heldDark) :
    ((l.foldl (fun s e => s.unhold e) s).eng e).tx = (s.eng e).tx := by
  induction l generalizing s with
  | nil => rfl
  | cons d ds ih =>
    have hd := s.unhold_other h d
    rw [List.foldl_cons, ih (by rwa [hd]), hd]

theorem State.unholds_notHeld {l : List Eng} {e : Eng} (he : e ∈ l) :
    ((l.foldl (fun s e => s.unhold e) s).eng e).tx.mode ≠ .heldDark := by
  induction l generalizing s with
  | nil => cases he
  | cons d ds ih =>
    rw [List.foldl_cons]
    rcases List.mem_cons.mp he with rfl | he
    · have h := s.unhold_notHeld e
      rwa [State.unholds_other ds h]
    · exact ih he

/-- The hold is over, with its event, before the engines leave it. -/
def State.released (s : State) : State :=
  ({ s with weir := { s.weir with hold := false } } : State).raise 0x1007 .module (be 2 (satInt 16 s.hottest.2))

theorem exec_weirReleaseTimer (hr : s.ready = true) (hmay : s.mayRelease = true) :
    exec .weirReleaseTimer s = .next ((List.finRange 4).foldl (fun s e => s.unhold e) s.released) := by
  rw [show exec .weirReleaseTimer s = execWeirReleaseTimer s from rfl, execWeirReleaseTimer, eventIf_true hr hmay]
  rfl

theorem State.released_hold (s : State) : s.released.weir.hold = false := by
  rw [State.released, State.raise_weir]

theorem State.released_eng (s : State) (e : Eng) : s.released.eng e = s.eng e := State.raise_eng _ _ _ _ e

/-! ## The trip (R456) -/

theorem exec_hardwiredTrip (haux : s.power.aux = true) : exec .hardwiredTrip s =
    .next { s.railsOff with power := { s.railsOff.power with tripLatch := true, tripOff := true } } :=
  congrArg Host.Outcome.next (if_pos haux)

theorem State.railsOff_aux (s : State) : s.railsOff.power.aux = s.power.aux := by
  unfold State.railsOff
  split <;> rfl

end

/-- Settles O46: a reading moves no transmitter before its shutdown, which darkens each populated engine in turn; the
release takes each engine out of the hold in turn. -/
theorem weirInstants : Obligations.WeirInstants := by
  intro s temps
  refine ⟨fun hr hhold => ⟨s.weirReading temps, exec_weirReading hr temps, s.weirReading_outcome temps hhold⟩,
    fun hr hmay => ⟨_, exec_weirReleaseTimer hr hmay, ?_, fun e _ => State.unholds_notHeld (List.mem_finRange e), fun e he => ?_⟩,
    fun haux => ⟨_, exec_hardwiredTrip haux, s.railsOff_railsOn, rfl, ?_, fun e => ?_⟩⟩
  · obtain ⟨hweir, -, -⟩ :=
      foldl_sameGround (fun t e => (engineOnly_unhold e t).sameGround) (List.finRange 4) s.released
    rw [hweir, State.released_hold]
  · have heng := s.released_eng e
    rw [State.unholds_other _ (by rwa [heng]), heng]
  · simp [State.thermLow, s.railsOff_aux, haux]
  · exact State.laserOn_of_notReady (State.notReady_of_railsOff s.railsOff_railsOn) e

end Sys2Proof.Machine
end

section
/-! The time domains' own instants: steps, slews, pulses, captures and the loss of a master (R402 to R420). -/

namespace Sys2Proof.Machine

section
variable {s : State}

/-! ## Domains, pulses and captures by their number -/

theorem State.domain_updDomain (s : State) (d e : Fin 2) (f : Domain → Domain) :
    (s.updDomain d f).domain e = if e = d then f (s.domain d) else s.domain e := by
  simp only [State.domain, State.updDomain, Fin.getElem_fin, Vector.getElem_set, Fin.ext_iff, eq_comm]

theorem State.domain_updDomain_same (s : State) (d : Fin 2) (f : Domain → Domain) :
    (s.updDomain d f).domain d = f (s.domain d) := by
  rw [State.domain_updDomain, if_pos rfl]

theorem State.tpo_updTpo (s : State) (n k : Fin 4) (f : Tpo → Tpo) :
    (s.updTpo n f).time.tpo[k] = if k = n then f s.time.tpo[n] else s.time.tpo[k] := by
  simp only [State.updTpo, Fin.getElem_fin, Vector.getElem_set, Fin.ext_iff, eq_comm]

theorem State.updTpo_td (s : State) (n : Fin 4) (f : Tpo → Tpo) : (s.updTpo n f).time.td = s.time.td := rfl

/-! ## A step of a domain (R405, R413, R420) -/

theorem State.tpoForward_td (s : State) (n : Fin 4) (now : Nat) : (s.tpoForward n now).time.td = s.time.td := by
  unfold State.tpoForward
  extract_lets t upto gone u
  have hu : (if t.raised then u else u.raise 0x0E07 (.tpo n.val) ([byte n.val, 0] ++ be 2 (sat 16 gone))).time =
      u.time := by
    rw [apply_ite State.time, State.raise_time, ite_self]
  rw [apply_ite State.time, hu]
  exact (apply_ite TimeState.td _ _ _).trans (ite_self _)

/-- What a step makes of the pulses moves no domain. -/
theorem State.tpoStep_td (s : State) (d : Fin 2) (amount : Int) : (s.tpoStep d amount).time.td = s.time.td := by
  refine foldl_keeps (fun t => t.time.td) (fun t n => ?_) _ s
  dsimp only
  split
  · rfl
  split
  · rfl
  split
  · exact t.tpoForward_td n _
  · exact State.updTpo_td _ _ _

theorem State.stepDomain_domain (s : State) (d e : Fin 2) (amount : Int) (cause : Byte) :
    (s.stepDomain d amount cause).domain e =
      if e = d then { s.domain d with time := wrapTime ((s.domain d).time + amount) } else s.domain e := by
  unfold State.stepDomain
  extract_lets old t new u v
  have hu : u.time = t.time := by
    unfold u
    split <;> rfl
  rw [State.domain, State.tpoStep_td, State.raise_time, hu]
  exact s.domain_updDomain d e _

/-- A TD_SET leaves its domain FREE, and stepped by what its instant asks (R402, R420). -/
theorem State.applyTdSet_domain {d : Fin 2} {x : TdSet} (h : (s.domain d).setDue = some x) (e : Fin 2) :
    (s.applyTdSet d).domain e = if e = d then { s.domain d with
      setDue := none, mode := .free, everLocked := true,
      time := wrapTime ((s.domain d).time + (if x.relative then x.amount * unitsPerFrac
        else x.amount * unitsPerFrac - s.setInstant d x.second)) } else s.domain e := by
  unfold State.applyTdSet
  rw [h]
  dsimp only
  rw [State.stepDomain_domain, State.domain_updDomain_same, State.domain_updDomain]
  split <;> rfl

theorem exec_tdSetApply {d : Fin 2} {x : TdSet} (hr : s.ready = true) (h : (s.domain d).setDue = some x)
    (hsecond : x.second = true → s.secondHere = true) : exec (.tdSetApply d) s = .next (s.applyTdSet d) := by
  have hnow : s.setNow d = true := by
    unfold State.setNow
    rw [h]
    cases hx : x.second <;> simp_all
  rw [show exec (.tdSetApply d) s = execTdSetApply d s from rfl, execTdSetApply, eventIf_true hr hnow]

/-! ## Pulses (R412) -/

theorem exec_outputTimeSlewEnd (hr : s.ready = true) (hslew : s.time.slewing = true) :
    exec .outputTimeSlewEnd s = .next { s with time := { s.time with slewing := false, outOffset := 0 } } :=
  eventIf_true hr hslew fun s => { s with time := { s.time with slewing := false, outOffset := 0 } }

theorem exec_syncLossTimeout {d : Fin 2} (hr : s.ready = true) (hlocked : (s.domain d).mode = .locked) :
    exec (.syncLossTimeout d) s = .next ((s.updDomain d fun x => { x with
      mode := .holdover, near := 0, far := 0 }).raise 0x0E02 .module [tdCode d, 1]) := by
  rw [show exec (.syncLossTimeout d) s = execSyncLossTimeout d s from rfl, execSyncLossTimeout,
    eventIf_true hr (beq_iff_eq.mpr hlocked)]

theorem exec_tpoEdge {n : Fin 4} (hr : s.ready = true) (hdue : s.edgeDue s.time.tpo[n] = true) :
    exec (.tpoEdge n) s = .next (s.emitEdge n) := by
  rw [show exec (.tpoEdge n) s = execTpoEdge n s from rfl, execTpoEdge, eventIf_true hr hdue]

theorem State.emitEdge_tpo (s : State) (n k : Fin 4) : (s.emitEdge n).time.tpo[k] = if k = n then { s.time.tpo[n] with
    emitted := (s.time.tpo[n]).emitted + 1, next := (s.time.tpo[n]).next + 1, resume := (s.time.tpo[n]).next + 1,
    state := if (s.time.tpo[n]).mode = 1 ∨ ((s.time.tpo[n]).count ≠ 0 ∧
      (s.time.tpo[n]).emitted.toNat + 1 ≥ (s.time.tpo[n]).count.toNat) then .done else .running }
    else s.time.tpo[k] := by
  unfold State.emitEdge
  extract_lets x last t
  have hlast : (last = true) = ((s.time.tpo[n]).mode = 1 ∨ ((s.time.tpo[n]).count ≠ 0 ∧
      (s.time.tpo[n]).emitted.toNat + 1 ≥ (s.time.tpo[n]).count.toNat)) := by
    simp [last, x]
  have htime : (if last then t.raise 0x0E06 (.tpo n.val) ([byte n.val, 0] ++ be 4 (x.emitted + 1)) else t).time =
      t.time := by
    split
    · exact State.raise_time _ _ _ _
    · rfl
  calc _
      _ = t.time.tpo[k] := congrArg (fun v : TimeState => v.tpo[k]) htime
      _ = _ := by simp only [t, State.tpo_updTpo, hlast]; rfl

/-! ## Captures (R414) -/

theorem exec_captureEdge {i : Fin 3} {d : Fin 2} (quarters : Nat) (hr : s.ready = true)
    (hd : s.captureDomain i = some d) : exec (.captureEdge i quarters) s = .next (
      if (s.time.captures[i]).entries.length ≥ 16 then s.updCapture i fun q => { q with lost := bump q.lost }
      else
        let t := s.updCapture i fun q => { q with entries := q.entries ++ [{
          mtime := s.moduleTime, domain := tdCode d
          quarters := quartersOf ((s.domain d).at_ (quarters * 16384)) }] }
        if (s.time.captures[i]).entries.isEmpty then t.raise 0x0E05 .module [byte i.val, 1] else t) := by
  rw [show exec (.captureEdge i quarters) s = execCaptureEdge i quarters s from rfl, execCaptureEdge, event_ready hr, hd]

end

/-- Settles O42: each instant by what it leaves of the domains, the pulses or the captures. -/
theorem timeInstants : Obligations.TimeInstants := by
  intro s d n i quarters hr
  refine ⟨fun x hx hsecond => ⟨_, exec_tdSetApply hr hx hsecond, ?_⟩, fun hslew => exec_outputTimeSlewEnd hr hslew,
    fun hdue => ⟨_, exec_tpoEdge hr hdue, ?_⟩, fun e he => ⟨fun hfull => ?_, fun hroom => ?_⟩, fun hlocked => ?_⟩
  · have hdomain := State.applyTdSet_domain hx
    rw [hdomain d, if_pos rfl]
    refine ⟨rfl, rfl, rfl, fun habsolute hboundary => ?_, fun hrelative => by rw [if_pos hrelative],
      fun e he => by rw [hdomain e, if_neg he]⟩
    rw [if_neg (by rw [habsolute]; exact Bool.false_ne_true), State.setInstant, hboundary]
    simp
  · have hpulse := s.emitEdge_tpo n
    refine ⟨by rw [hpulse, if_pos rfl], by rw [hpulse, if_pos rfl], fun k hk => by rw [hpulse, if_neg hk]⟩
  · rw [exec_captureEdge quarters hr he, if_pos hfull]
  · refine ⟨{ mtime := s.moduleTime, domain := tdCode e, quarters := quartersOf ((s.domain e).at_ (quarters * 16384)) },
      rfl, rfl, _, exec_captureEdge quarters hr he, ?_⟩
    rw [if_neg (not_le.mpr hroom)]
    dsimp only
    split
    · exact raises_raise _ _ _ _
    · exact Raises.refl _
  · exact ⟨_, exec_syncLossTimeout hr hlocked, raises_raise _ _ _ _⟩

end Sys2Proof.Machine
end

section
/-! The opcodes of the time domains (R406 to R414, R418 to R424). -/

namespace Sys2Proof.Machine

/-! ## Parameters -/

theorem field_be6_succ (v : BitVec 48) (x : Bytes) (o n : Nat) : field (be 6 v ++ x) (o + 6) n = field x o n := by
  rw [field_append_right (by simp)]
  simp

theorem zeroAt_be6_succ (v : BitVec 48) (x : Bytes) (o n : Nat) : zeroAt (be 6 v ++ x) (o + 6) n = zeroAt x o n := by
  have hfirst : List.drop (o + 6) (be 6 v) = [] := List.drop_eq_nil_of_le (by simp)
  simp [zeroAt, List.drop_append, hfirst]

/-- A first byte that is a number below 256 is that number. -/
theorem field_of_u8 {b : Bytes} {n : Nat} (h : u8 b 0 = byte n) (hn : n < 256) : field b 0 1 = n := by
  have hlt : field b 0 1 < 256 := by
    have hv := beValue_lt ((b.drop 0).take 1)
    have hlen : ((b.drop 0).take 1).length ≤ 1 := by simp
    calc field b 0 1
        _ < 256 ^ ((b.drop 0).take 1).length := hv
        _ ≤ 256 ^ 1 := Nat.pow_le_pow_right (by decide) hlen
  have hval := congrArg BitVec.toNat h
  rw [u8, BitVec.toNat_ofNat, byte_toNat_of_lt hn, Nat.mod_eq_of_lt hlt] at hval
  exact hval

section
variable {r : Request} {s : State}

/-! ## TD_CONFIG (R419) -/

theorem exec_tdConfigWrite (hx : Executes false r s) (hform : Formed r 96) (hport : r.port = 0)
    (htime : TimeFormed r.params s) (hfree : s.holdsModule 10 = false) :
    Writes 0x0E01 .tdConfigWrite r s fun s => { s with time := { s.time with
      config := { s.time.config with staged := parseTime r.params } } } := by
  obtain ⟨hsrc, hswitch, hsync, hlts, hcap, hcodes, hz7, hz24, hz60, hz92, hslew, hasym, htd⟩ := htime
  refine opcode_ok hx ((guards_pass _ _ ?_))
  have hbad : (parseTime r.params).td.toList.any badTd = false := by
    rw [List.any_eq_false]
    exact fun b hb => by simp [(htd b hb).1]
  have hwithin : ((parseTime r.params).asym.toList.any fun v => !within v.toInt 10000000) = false := by
    rw [List.any_eq_false]
    exact fun v hv => by simp [hasym v hv]
  have hblocks : ((parseTime r.params).td.toList.any fun b =>
      !s.hasLane b.port.toNat || b.lockWin.toNat > 100 || b.stepThr.toNat > 10000) = false := by
    rw [List.any_eq_false]
    intro b hb
    obtain ⟨-, hlane, hwin, hstep⟩ := htd b hb
    simp [hlane, hwin, hstep]
  simp only [takeRequest_hasLane, takeRequest_holdsModule, notPrincipal_of_zero hport, formed_badForm hform, hlts, hcap,
    hbad, hz7, hz24, hz60, hz92, hwithin, hblocks, hfree, List.forall_mem_cons, Bool.not_true, Bool.or_false,
    Bool.false_or, List.not_mem_nil, false_imp_iff, implies_true, and_true, true_and, Bool.or_eq_false_iff,
    decide_eq_false_iff_not]
  omega

theorem exec_tdConfigRead {cp : Bool} (hx : Executes false r s) (hf : r.flag0 = false)
    (hp : r.params = [byte cp.toNat, 0, 0, 0]) : Reads 0x0E02 .tdConfigRead r s fun s =>
      renderTime (if cp then s.time.config.staged else s.time.config.active) :=
  opcode_readsCopy (render := renderTime) (pick := fun s => s.time.config) (body := tdConfigReadBody r) hx hf hp
    fun _ => rfl

/-! ## TD_SET (R420) -/

/-- 1 and 2 name the two domains. -/
theorem domainCode (d : Fin 2) : (1 + d.val != 1 && 1 + d.val != 2) = false ∧
    (if (1 + d.val == 2) = true then (1 : Fin 2) else 0) = d := by
  decide +revert

/-- 1 and 2 are the codes of a choice. -/
theorem flagCode (b : Bool) : (1 + b.toNat != 1 && 1 + b.toNat != 2) = false ∧ (1 + b.toNat == 2) = b := by
  decide +revert

theorem exec_tdSet {d : Fin 2} {relative second : Bool} {sec : BitVec 48} {ns : BitVec 32} {frac : BitVec 16}
    (hx : Executes false r s) (hport : r.port = 0) (hf : r.flag0 = false)
    (hp : r.params = [byte (1 + d.val), byte (1 + relative.toNat), byte (1 + second.toNat), 0] ++ be 6 sec
      ++ [0, 0] ++ be 4 ns ++ be 2 frac ++ [0, 0])
    (hns : (if relative then ns.toInt.natAbs else ns.toNat) ≤ 999999999) (hmode : (s.tdBlock d).mode ≠ 1) :
    Writes 0x0E03 .tdSet r s fun s => s.updDomain d fun x => { x with setDue := some {
      relative := relative, second := second, amount := tdAmount r.params relative } } := by
  have hdomain : field r.params 0 1 = 1 + d.val := by
    rw [hp]
    simp [byte_toNat_of_lt (show 1 + d.val < 256 by omega)]
  have hkind : field r.params 1 1 = 1 + relative.toNat := by
    cases relative <;> simp [hp]
  have hwhen : field r.params 2 1 = 1 + second.toNat := by
    cases second <;> simp [hp]
  have hnano : field r.params 12 4 = ns.toNat := by
    simp [hp, field_be6_succ]
  have hsigned : u32 r.params 12 = ns := by
    rw [u32, hnano]
    simp
  have hzeros : zeroAt r.params 3 1 = true ∧ zeroAt r.params 10 2 = true ∧ zeroAt r.params 18 2 = true := by
    simp [hp, zeroAt_be6_succ]
  obtain ⟨hz3, hz10, hz18⟩ := hzeros
  obtain ⟨hc0, hd⟩ := domainCode d
  obtain ⟨hc1, hrel⟩ := flagCode relative
  obtain ⟨hc2, hsec⟩ := flagCode second
  have hform : badForm r 20 = false := formed_badForm ⟨hf, by simp [hp]⟩
  refine opcode_ok hx ?_
  rw [tdSetBody]
  simp only [hdomain, hkind, hwhen, hnano, hsigned, hrel, hsec, hd]
  refine guards_pass _ _ ?_
  have hrange : (if relative then ns.toInt else (ns.toNat : Int)).natAbs ≤ 999999999 := by
    cases relative <;> simpa using hns
  simp only [notPrincipal_of_zero hport, hform, hc0, hc1, hc2, hz3, hz10, hz18, List.forall_mem_cons, Bool.not_true,
    Bool.or_false, List.not_mem_nil, false_imp_iff, implies_true, and_true, true_and, decide_eq_false_iff_not,
    beq_eq_false_iff_ne]
  exact ⟨not_lt.mpr hrange, hmode⟩

/-! ## TD_STATUS (R421) -/

theorem exec_tdStatus (hx : Executes false r s) (hform : Formed r 0) :
    Reads 0x0E04 .tdStatus r s fun _ => s.tdStatus 0 ++ s.tdStatus 1 ++ s.outStatus := by
  refine opcode_reads hx ?_
  rw [tdStatusBody, formed_badForm hform]
  rfl

theorem State.tdStatus_length (s : State) (d : Fin 2) : (s.tdStatus d).length = 32 := by
  simp [State.tdStatus]

/-- TD_STATUS lays out its table, a domain in each of its entries. -/
theorem State.timeStatus_lays (s : State) : Lays (s.tdStatus 0 ++ s.tdStatus 1 ++ s.outStatus) 80
    (((List.finRange 2).map fun d => (32 * d.val, s.tdStatus d)) ++
      [(64, [s.time.config.active.outSrc]),
       (65, [if s.outDomain = none then 0 else if s.time.slewing then 2 else 1]), (66, [0, 0]),
       (68, be 8 (satInt 64 ((s.time.outOffset * 1000).tdiv unitsPerNs))), (76, [0, 0, 0, 0])]) := by
  have hdomains : (List.finRange 2).map s.tdStatus = [s.tdStatus 0, s.tdStatus 1] := rfl
  refine lays_of_flatten ?_ ?_ ?_
  · simp [State.outStatus, hdomains, Function.comp_def, zeros]
  · simp [State.outStatus, State.tdStatus_length]
  · simp only [List.map_append, List.map_map, Function.comp_def, placed_append, placed_finRange s.tdStatus_length,
      flatten_finRange_length s.tdStatus_length]
    simp [placed]

/-! ## PTP_PORT (R422) -/

theorem exec_ptpPortWrite {c : Cp} {flags : BitVec 5} {ts : Fin 3} (hx : Executes false r s) (hf : r.flag0 = false)
    (hp : r.params = [byte c.val, flags.setWidth 8, byte ts.val, 0, 0, 0, 0, 0]) (hhas : s.hasLane c.val = true)
    (hholds : s.holdsPort r.port c = true) (hfree : s.portBusy c = false) :
    Writes 0x0E05 .ptpPortWrite r s fun s => s.updCport c fun p =>
      { p with params := { p.params with staged := { p.params.staged with
          ptp := { flags := flags.setWidth 8, tsDomain := byte ts.val } } } } := by
  have hform : badForm r 8 = false := formed_badForm ⟨hf, by simp [hp]⟩
  have hfield : field r.params 0 1 = c.val := field_client hp
  have hflags : u8 r.params 1 = flags.setWidth 8 := by simp [hp, u8, -BitVec.toNat_setWidth]
  have hdomain : u8 r.params 2 = byte ts.val := by simp [hp, u8]
  have hzero : zeroAt r.params 3 5 = true := by simp [hp]
  have hmost : (flags.setWidth 8).toNat ≤ 31 := by
    rw [BitVec.toNat_setWidth]
    omega
  have hts : (byte ts.val).toNat ≤ 2 := by
    rw [byte_toNat_of_lt (by omega)]
    omega
  refine opcode_ok hx ?_
  rw [ptpPortWriteBody, hfield, hflags, hdomain, cpOf_val]
  refine (guards_pastTenancy ?_ ?_ ?_ _ _).trans (guards_pass _ _ ?_)
  · simp [hform, hmost, hts, hzero, -BitVec.toNat_setWidth]
  · simp [hhas]
  · simp [State.takeRequest_holdsPort, hholds]
  · simpa using hfree

theorem exec_ptpPortRead {c : Cp} {cp : Bool} (hx : Executes false r s) (hf : r.flag0 = false)
    (hp : r.params = [byte c.val, byte cp.toNat, 0, 0]) (hhas : s.hasLane c.val = true)
    (hholds : s.holdsPort r.port c = true) {p : PtpPort}
    (hptp : p = (if cp then (s.cport c).params.staged else (s.cport c).params.active).ptp) :
    Reads 0x0E06 .ptpPortRead r s fun _ => [byte c.val, p.flags, p.tsDomain, 0, 0, 0, 0, 0] := by
  have hcopy : u8 r.params 1 = byte cp.toNat := by simp [hp, u8]
  refine opcode_cport hx rfl (badEngineCopy_formed hf hp) (field_client hp) hhas hholds ?_
  rw [hcopy, copyOf_toNat, takeRequest_cport, ← hptp]
  rfl

/-! ## TPO (R412, R423) -/

theorem finOfNat4_val (n : Fin 4) : Fin.ofNat 4 n.val = n := Fin.ext (Nat.mod_eq_of_lt n.isLt)

/-- What is left of TPO_WRITE's checks once form, range, tenancy and width have passed. -/
theorem tpoWrite_judged {n : Fin 4} {t : Tpo} (ht : parseTpo r.params = t) (hform : Formed r 32)
    (hn : u8 r.params 0 = byte n.val) (hbad : badTpo t = false) (hz : zeroAt r.params 10 2 = true)
    (hrange : tpoRangeOk t = true) (hholds : s.holdsTpo r.port n.val = true)
    (hwidth : t.period ≠ 0 → t.width.toNat < t.period.toNat) :
    tpoWriteBody r s = guards
      [(t.mode != 0 && !s.scaleSet t.scale, .notReady),
       (t.mode != 0 && (match s.scaleTime t.scale with
          | some now => decide (t.edge 0 < now + 10000 * unitsPerNs)
          | none => false), .past)]
      (.ok .ok [] (s.updTpo n fun old => { t with raised := old.raised })) := by
  have hfield : field r.params 0 1 = n.val := field_of_u8 hn (by omega)
  have hover : decide (n.val > 3) = false := decide_eq_false (by omega)
  have hfits : (t.period != 0 && decide (t.width.toNat ≥ t.period.toNat)) = false := by
    simpa using hwidth
  subst ht
  rw [tpoWriteBody]
  simp only [hfield, hover, hfits, formed_badForm hform, hbad, hz, hrange, hholds, finOfNat4_val, Bool.not_true,
    Bool.or_self, guards_false] <;> rfl

/-- What TPO_READ gives for the seconds and the nanoseconds of the next edge: free without one (log 16). -/
def State.nextEdge (s : State) (t : Tpo) : Nat × Nat :=
  if t.live then (secOf (t.edge t.next), nsOf (t.edge t.next)) else (s.free, Config.freeValue (s.fresh + 1))

theorem State.tpoStatus_eq (s : State) (t : Tpo) : s.tpoStatus t = [tpoCode t.state, 0] ++ be 2 t.missed
    ++ be 4 t.emitted ++ (beBytes 6 (s.nextEdge t).1 ++ [0, 0] ++ beBytes 4 (s.nextEdge t).2) := by
  unfold State.tpoStatus State.nextEdge
  split <;> rfl

theorem renderTpo_length (n : Byte) (t : Tpo) : (renderTpo n t).length = 32 := by
  simp [renderTpo]

theorem State.tpo_lays (s : State) (n : Byte) (t : Tpo) : Lays (renderTpo n t ++ s.tpoStatus t) 52
    [(0, renderTpo n t), (32, [tpoCode t.state]), (33, [0]), (34, be 2 t.missed), (36, be 4 t.emitted),
      (40, beBytes 6 (s.nextEdge t).1), (46, [0, 0]), (48, beBytes 4 (s.nextEdge t).2)] := by
  refine lays_of_flatten ?_ ?_ ?_
  · simp [State.tpoStatus_eq]
  · simp [State.tpoStatus_eq, renderTpo_length]
  · simp [placed, renderTpo_length]

theorem exec_tpoRead {n : Fin 4} (hx : Executes false r s) (hf : r.flag0 = false) (hp : r.params = [byte n.val, 0, 0, 0])
    (hholds : s.holdsTpo r.port n.val = true) : exec (.tpoRead r) s =
      answered 0x0E08 r .ok (renderTpo (byte n.val) s.time.tpo[n] ++ s.tpoStatus s.time.tpo[n])
        { s.takeRequest 0x0E08 r with fresh := s.fresh + 2 } := by
  have hfield : field r.params 0 1 = n.val := by
    rw [hp, field_cons_zero, byte_toNat_of_lt (by omega)]
  have hover : decide (n.val > 3) = false := decide_eq_false (by omega)
  refine opcode_ok hx ?_
  rw [tpoReadBody]
  simp only [badEngine3_formed hf hp, hfield, hover, takeRequest_holdsTpo, hholds, finOfNat4_val, Bool.not_true,
    guards_false]
  rfl

/-! ## Captures and the timestamp log (R414, R424) -/

theorem exec_captureRead {i : Fin 3} {max : Byte} (hx : Executes false r s) (hport : r.port = 0) (hf : r.flag0 = false)
    (hp : r.params = [byte i.val, max, 0, 0]) (hmax : max ≠ 0) (hmost : max.toNat ≤ 16) :
    exec (.captureRead r) s = answered 0x0E09 r .ok
      ([byte (min max.toNat (s.time.captures[i]).entries.length), 0, 0, 0] ++ be 4 (s.time.captures[i]).lost
        ++ (((s.time.captures[i]).entries.take max.toNat).map captureBytes).flatten)
      ((s.takeRequest 0x0E09 r).updCapture i fun q => { q with entries := q.entries.drop max.toNat }) := by
  have hfield : field r.params 0 1 = i.val := by
    rw [hp, field_cons_zero, byte_toNat_of_lt (by omega)]
  have hcount : field r.params 1 1 = max.toNat := by simp [hp]
  have hi : Fin.ofNat 3 i.val = i := Fin.ext (Nat.mod_eq_of_lt i.isLt)
  have hsome : (max.toNat == 0) = false := by
    simpa using fun h : max.toNat = 0 => hmax (BitVec.eq_of_toNat_eq h)
  have hover : decide (i.val > 2) = false ∧ decide (max.toNat > 16) = false :=
    ⟨decide_eq_false (by omega), decide_eq_false (by omega)⟩
  have hz : zeroAt r.params 2 2 = true := by simp [hp]
  have hform : badForm r 4 = false := formed_badForm ⟨hf, by simp [hp]⟩
  rw [List.take_eq_take_min]
  have hdrop : ((s.takeRequest 0x0E09 r).updCapture i fun q => { q with entries := q.entries.drop max.toNat }) =
      (s.takeRequest 0x0E09 r).updCapture i fun q => { q with
        entries := q.entries.drop (min max.toNat (s.time.captures[i]).entries.length) } := by
    rw [State.updCapture, List.drop_eq_drop_min]
    rfl
  rw [hdrop]
  refine opcode_ok hx ?_
  rw [captureReadBody]
  simp only [notPrincipal_of_zero hport, hform, hfield, hcount, hi, hsome, hover, hz,
    Bool.not_true, Bool.or_self, guards_false]
  rfl

theorem takeSome_all {α : Type} {p : α → Bool} {l : List α} {n : Nat} (hp : ∀ x ∈ l, p x = true) (hn : l.length ≤ n) :
    takeSome p n l = (l, []) := by
  induction l generalizing n with
  | nil => cases n <;> rfl
  | cons x xs ih =>
    cases n with
    | zero => exact absurd hn (by simp)
    | succ n =>
      rw [List.forall_mem_cons] at hp
      rw [takeSome, if_pos hp.1, ih hp.2 (by simpa using hn)]

theorem exec_tslogRead {max : Byte} (hx : Executes false r s) (hf : r.flag0 = false) (hp : r.params = [max, 0, 0, 0])
    (hmax : max ≠ 0) (hmost : max.toNat ≤ 169) (hholds : ∀ x ∈ s.time.log, s.holdsCport r.port x.port.val = true)
    (hall : s.time.log.length ≤ max.toNat) : exec (.tslogRead r) s = answered 0x0E0A r .ok
      ([byte s.time.log.length, 0, 0, 0] ++ be 4 s.time.logLost ++ (s.time.log.map tsBytes).flatten)
      { s.takeRequest 0x0E0A r with time := { s.time with log := [] } } := by
  have hcount : field r.params 0 1 = max.toNat := by simp [hp]
  have hsome : (max.toNat == 0) = false := by
    simpa using fun h : max.toNat = 0 => hmax (BitVec.eq_of_toNat_eq h)
  have hover : decide (max.toNat > 169) = false := decide_eq_false (by omega)
  have hz : zeroAt r.params 1 3 = true := by simp [hp]
  have hform : badForm r 4 = false := formed_badForm ⟨hf, by simp [hp]⟩
  have htake : takeSome (fun x : TsEntry => s.holdsCport r.port x.port.val) max.toNat s.time.log = (s.time.log, []) :=
    takeSome_all hholds hall
  refine opcode_ok hx ?_
  rw [tslogReadBody]
  simp only [takeRequest_holdsCport, show (s.takeRequest 0x0E0A r).time = s.time from rfl, hform, hcount, hsome, hover, hz,
    htake, Bool.not_true, Bool.or_self, guards_false]
  rfl

end

/-- Settles O41. -/
theorem timeRequests : Obligations.TimeRequests := by
  intro r s cp hx
  refine ⟨exec_tdConfigWrite hx, exec_tdConfigRead hx,
    fun d relative second sec ns frac hport hf hp hns hmode => exec_tdSet hx hport hf hp hns hmode,
    fun hform => ⟨_, exec_tdStatus hx hform, s.timeStatus_lays⟩,
    fun c flags ts hf hp hhas hholds hfree => exec_ptpPortWrite hx hf hp hhas hholds hfree,
    fun c hf hp hhas hholds => ⟨_, rfl, exec_ptpPortRead hx hf hp hhas hholds rfl⟩,
    fun n hform hn hbad hz hrange hholds hwidth hoff => ?off,
    fun n now hform hn hbad hz hrange hholds hon hwidth hset hnow => ?armed,
    fun n hf hp hholds => ⟨_, exec_tpoRead hx hf hp hholds, ?read⟩,
    fun i max hport hf hp hmax hmost => exec_captureRead hx hport hf hp hmax hmost,
    fun max hf hp hmax hmost hholds hall => exec_tslogRead hx hf hp hmax hmost hholds hall⟩
  case off =>
    refine opcode_ok hx ((tpoWrite_judged rfl hform hn hbad hz hrange (by rwa [takeRequest_holdsTpo]) hwidth).trans
      (guards_pass _ _ ?_))
    simp [hoff]
  case armed =>
    have hmode : ((parseTpo r.params).mode != 0) = true := by simpa using hon
    have hjudged := tpoWrite_judged (s := s.takeRequest 0x0E07 r) rfl hform hn hbad hz hrange
      (by rwa [takeRequest_holdsTpo]) hwidth
    rw [show (s.takeRequest 0x0E07 r).scaleSet (parseTpo r.params).scale = true from hset,
      show (s.takeRequest 0x0E07 r).scaleTime (parseTpo r.params).scale = some now from hnow, hmode,
      Bool.not_true, Bool.and_false, guards_false] at hjudged
    refine ⟨fun hsoon => opcode_fail hx ?_, fun hlater => opcode_ok hx ?_⟩
    · rw [hjudged]
      exact if_pos (by simpa using hsoon)
    · rw [hjudged]
      exact if_neg (by simpa using hlater)
  case read =>
    rintro x rfl
    have hlays := s.tpo_lays (byte n.val) s.time.tpo[n]
    refine ⟨hlays.mono (by simp), fun hlive => ?_⟩
    have hnext : s.nextEdge s.time.tpo[n] = (secOf ((s.time.tpo[n]).edge (s.time.tpo[n]).next),
      nsOf ((s.time.tpo[n]).edge (s.time.tpo[n]).next)) := if_pos hlive
    have hsec := hlays.slice_eq (o := 40) (b := beBytes 6 (s.nextEdge s.time.tpo[n]).1) (by simp)
    have hns := hlays.slice_eq (o := 48) (b := beBytes 4 (s.nextEdge s.time.tpo[n]).2) (by simp)
    rw [hnext] at hsec hns
    exact ⟨by simpa using hsec, by simpa using hns⟩

end Sys2Proof.Machine
end

section
/-! The opcodes of Headwater (R386, R394 to R398). -/

namespace Sys2Proof.Machine

section
variable {r : Request} {s : State}

/-! ## Configuration (R395) -/

theorem exec_hwConfigWrite (hx : Executes false r s) (hform : Formed r 56) (hport : r.port = 0)
    (hhw : HwFormed r.params s) (hfree : s.holdsModule 11 = false) :
    Writes 0x0D01 .hwConfigWrite r s fun s => { s with hw := { s.hw with
      config := { s.hw.config with staged := parseHw r.params } } } := by
  obtain ⟨hmode, hrefout, hflags, hrefin, hinputs, hsrc, hzeros, hz52, hrange⟩ := hhw
  rw [List.forall_mem_cons] at hinputs
  obtain ⟨⟨hforce, hforceOk⟩, hpriority⟩ := hinputs
  have hbad : (parseHw r.params).priority.toList.any badInput = false := by
    rw [List.any_eq_false]
    exact fun i hi => by simp [(hpriority i hi).1]
  have hok : ((parseHw r.params).priority.toList.any fun i => !s.inputOk i) = false := by
    rw [List.any_eq_false]
    exact fun i hi => by simp [(hpriority i hi).2]
  have hpps : ((parseHw r.params).ppsOut.toList.any fun o => decide (o.src.toNat > 2)) = false := by
    rw [List.any_eq_false]
    exact fun o ho => by simpa using hsrc o ho
  have htaken : (s.takeRequest 0x0D01 r).inputOk = s.inputOk := rfl
  have hz7 := hzeros 7 (by simp)
  have hz37 := hzeros 37 (by simp)
  have hz45 := hzeros 45 (by simp)
  refine opcode_ok hx (guards_pass _ _ ?_)
  simp only [htaken, takeRequest_holdsModule, notPrincipal_of_zero hport, formed_badForm hform, hforce, hforceOk, hbad,
    hok, hpps, hz7, hz37, hz45, hz52, hrange, hfree, List.forall_mem_cons, Bool.not_true, Bool.or_false, Bool.false_or,
    List.not_mem_nil, false_imp_iff, implies_true, and_true, true_and, Bool.or_eq_false_iff, decide_eq_false_iff_not]
  omega

theorem exec_hwConfigRead {cp : Bool} (hx : Executes false r s) (hf : r.flag0 = false)
    (hp : r.params = [byte cp.toNat, 0, 0, 0]) : Reads 0x0D02 .hwConfigRead r s fun s =>
      renderHw (if cp then s.hw.config.staged else s.hw.config.active) :=
  opcode_readsCopy (render := renderHw) (pick := fun s => s.hw.config) (body := hwConfigReadBody r) hx hf hp
    fun _ => rfl

/-! ## Written phase steps (R386, R396) -/

/-- What is left of HW_PHASE_STEP's checks once form, range and scope have passed. -/
theorem hwPhaseStep_judged {amount : BitVec 32} {commit : Bool} (hport : r.port = 0) (hf : r.flag0 = false)
    (hp : r.params = be 4 amount ++ [byte (1 + commit.toNat), 0, 0, 0]) (hlow : -500000 ≤ amount.toInt)
    (hhigh : amount.toInt ≤ 500000) (hfree : commit = true → s.holdsModule 11 = false) (hsome : amount ≠ 0) :
    hwPhaseStepBody r s = guards [(s.hw.stepping, .busy)] (.ok .ok [] { s with hw := { s.hw with
      pending := if commit then none else some amount.toInt,
      staged := if commit then some amount.toInt else none } }) := by
  have hamount : u32 r.params 0 = amount := by simp [hp, u32]
  have hwhen : field r.params 4 1 = 1 + commit.toNat := by
    cases commit <;> simp [hp]
  have hz : zeroAt r.params 5 3 = true := by simp [hp]
  have hform : badForm r 8 = false := formed_badForm ⟨hf, by simp [hp]⟩
  have hwithin : within amount.toInt 500000 = true := by
    simp only [within, decide_eq_true_eq]
    omega
  have hzero : (amount.toInt == 0) = false := by
    rw [beq_eq_false_iff_ne]
    exact fun h => hsome (BitVec.eq_of_toInt_eq h)
  have hscope : (commit && s.holdsModule 11) = false := by
    cases commit
    · rfl
    · exact hfree rfl
  obtain ⟨-, hchoice⟩ := flagCode commit
  have hfirst : (1 + commit.toNat == 1) = !commit := by cases commit <;> rfl
  rw [hwPhaseStepBody]
  simp only [hamount, hwhen, hz, hform, hwithin, hchoice, hfirst, hzero, hscope, notPrincipal_of_zero hport, bne,
    Bool.not_true, Bool.not_false, Bool.true_and, Bool.false_and, Bool.or_false, guards_false]
  cases commit <;> rfl

/-! ## HW_STATUS (R397) -/

theorem exec_hwStatus (hx : Executes false r s) (hform : Formed r 0) : exec (.hwStatus r) s =
    answered 0x0D04 r .ok s.hwStatus { s.takeRequest 0x0D04 r with fresh := s.fresh + 1 } := by
  refine opcode_ok hx ?_
  rw [hwStatusBody, formed_badForm hform]
  rfl

theorem State.hwStatus_lays (s : State) : Lays s.hwStatus 36 [(0, [hwModeCode s.hw.mode, s.hw.selected, s.hw.candidate]),
    (3, [byte (bit s.hw.ovenStable 0 + bit (s.hw.holding && s.hw.outOfSpec) 1 +
      bit (s.hw.holding && s.hw.hoFull && decide (s.ocxoDays ≥ 30)) 2 +
      bit (s.hw.pending.isSome || s.hw.staged.isSome) 3 + bit s.hw.slew.isSome 4 + bit s.hw.fallback 5)]),
    (4, be 4 s.hwFreqOff), (8, be 4 s.hwPhaseErr),
    (12, be 8 (satInt 64 (if phaseInput s.hw.selected then s.hw.buildOut else 0))), (20, be 4 s.hoBoundNs),
    (24, beBytes 4 (if s.hw.holding then s.hw.hoTime else 0)), (28, beBytes 2 s.wtrLeft),
    (30, be 2 (BitVec.ofInt 16 s.slewLeft)), (32, be 2 (sat 16 s.ocxoDays)), (34, [0, 0])] := by
  refine lays_of_flatten ?_ ?_ ?_
  · simp [State.hwStatus]
  · simp [State.hwStatus]
  · simp [placed]

theorem be4_zero : be 4 (0 : BitVec 32) = [0, 0, 0, 0] := by decide

theorem State.hwFreqOff_freerun (h : s.hw.steering = .freerun) : s.hwFreqOff = 0 := by
  rw [State.hwFreqOff, h]

theorem State.hwFreqOff_holdover (h : s.hw.steering = .holdover) : s.hwFreqOff = s.hw.hoFreq := by
  rw [State.hwFreqOff, h]

theorem State.hwFreqOff_loop {f : Int} (h : s.hw.steering = .acquiring ∨ s.hw.steering = .locked)
    (hf : s.hw.freqs.head? = some f) : s.hwFreqOff = BitVec.ofInt 32 f := by
  obtain ⟨fs, hfs⟩ := List.head?_eq_some_iff.mp hf
  rcases h with h | h <;> rw [State.hwFreqOff, h, hfs]

theorem State.hwPhaseErr_eq (s : State) : be 4 s.hwPhaseErr =
    if s.hw.mode = .acquiring ∨ s.hw.mode = .locked then be 4 (BitVec.ofInt 32 s.hw.phaseErr) else [0, 0, 0, 0] := by
  rw [State.hwPhaseErr]
  by_cases h : s.hw.mode = .acquiring ∨ s.hw.mode = .locked
  · rw [if_pos h, if_pos (by simpa using h)]
  · rw [if_neg h, if_neg (by simpa using h), be4_zero]

/-! ## HW_INPUT_STATUS (R398) -/

/-- STATE of an entry. -/
def State.inputState (s : State) (i : Fin 14) : Byte :=
  if !s.inputUsed i then 0 else if s.hw.selected == inputCode i then 4 else if (s.hw.inputs[i]).qualified then 3
  else if !s.inputOffered i then 1 else byte (1 + Config.freeValue (s.fresh + 2 * i.val) % 2)

/-- FREQ of an entry. -/
def State.inputFreq (s : State) (i : Fin 14) : BitVec 32 :=
  if !s.inputOffered i then 0
  else if (s.hw.inputs[i]).qualified && i.val < 12 then
    BitVec.ofInt 32 ((Config.freeValue (s.fresh + 2 * i.val + 1) % 24001 : Nat) - 12000)
  else BitVec.ofNat 32 (Config.freeValue (s.fresh + 2 * i.val + 1))

theorem State.inputEntry_eq (s : State) (i : Fin 14) : s.inputEntry i =
    [inputCode i, s.inputState i, (s.hw.inputs[i]).cause.setWidth 8, 0] ++ be 4 (s.inputFreq i) := rfl

theorem State.inputEntry_length (s : State) (i : Fin 14) : (s.inputEntry i).length = 8 := by
  simp [State.inputEntry_eq]

/-- The table of inputs. -/
def State.inputTable (s : State) : Bytes := [14, 0, 0, 0] ++ ((List.finRange 14).map s.inputEntry).flatten

theorem exec_hwInputStatus (hx : Executes false r s) (hform : Formed r 0) : exec (.hwInputStatus r) s =
    answered 0x0D05 r .ok s.inputTable { s.takeRequest 0x0D05 r with fresh := s.fresh + 28 } := by
  refine opcode_ok hx ?_
  rw [hwInputStatusBody, formed_badForm hform]
  rfl

theorem State.inputTable_lays (s : State) :
    Lays s.inputTable 116 ([(0, [14, 0, 0, 0])] ++ (List.finRange 14).map fun i => (4 + 8 * i.val, s.inputEntry i)) := by
  refine lays_of_flatten ?_ ?_ ?_
  · simp [State.inputTable, Function.comp_def]
  · simp only [State.inputTable, List.length_append, flatten_finRange_length s.inputEntry_length]
    rfl
  · simp only [List.map_append, List.map_map, Function.comp_def, placed_append, placed_finRange s.inputEntry_length]
    simp [placed]

/-- What lies within an entry of a table. -/
theorem slice_within {data b : Bytes} {o m a n : Nat} (h : slice data o m = b) (hfit : a + n ≤ m) :
    slice data (o + a) n = slice b a n := by
  rw [← h]
  simp only [slice, List.drop_take, List.drop_drop, List.take_take]
  rw [Nat.min_eq_left (by omega)]

theorem State.inputTable_entry (s : State) (i : Fin 14) {a n : Nat} (hfit : a + n ≤ 8) :
    slice s.inputTable (4 + 8 * i.val + a) n = slice (s.inputEntry i) a n := by
  refine slice_within ?_ hfit
  have h := s.inputTable_lays.slice_eq (o := 4 + 8 * i.val) (b := s.inputEntry i)
    (List.mem_append_right _ (List.mem_map_of_mem (List.mem_finRange i)))
  rwa [State.inputEntry_length] at h

theorem State.inputTable_state (s : State) (i : Fin 14) :
    slice s.inputTable (5 + 8 * i.val) 1 = [s.inputState i] := by
  rw [show 5 + 8 * i.val = 4 + 8 * i.val + 1 by omega, s.inputTable_entry i (by omega), State.inputEntry_eq]
  rfl

theorem State.inputTable_freq (s : State) (i : Fin 14) :
    slice s.inputTable (8 + 8 * i.val) 4 = be 4 (s.inputFreq i) := by
  rw [show 8 + 8 * i.val = 4 + 8 * i.val + 4 by omega, s.inputTable_entry i (by omega), State.inputEntry_eq]
  exact slice_all (by simp)

/-- An input that waits to qualify is idle or active: which is measured (log 13). -/
theorem State.inputState_waits (s : State) {i : Fin 14} (hused : s.inputUsed i = true)
    (hother : s.hw.selected ≠ inputCode i) (hnot : (s.hw.inputs[i]).qualified = false) :
    s.inputState i = 1 ∨ s.inputState i = 2 := by
  have hselected : (s.hw.selected == inputCode i) = false := beq_eq_false_iff_ne.mpr hother
  rw [State.inputState, hused, hselected, hnot]
  cases s.inputOffered i
  · exact .inl rfl
  · rcases Nat.mod_two_eq_zero_or_one (Config.freeValue (s.fresh + 2 * i.val)) with h | h <;> simp [h, byte]

theorem State.inputFreq_near (s : State) {i : Fin 14} (hoffered : s.inputOffered i = true)
    (hqualified : (s.hw.inputs[i]).qualified = true) (hi : i.val < 12) :
    ∃ v : Int, v.natAbs ≤ 12000 ∧ s.inputFreq i = BitVec.ofInt 32 v := by
  refine ⟨(Config.freeValue (s.fresh + 2 * i.val + 1) % 24001 : Nat) - 12000, by omega, ?_⟩
  simp only [State.inputFreq, hoffered, hqualified, hi]
  rfl

end

/-- Settles O39. -/
theorem headwaterRequests : Obligations.HeadwaterRequests := by
  intro r s hx
  refine ⟨exec_hwConfigWrite hx, fun cp hf hp => exec_hwConfigRead hx hf hp,
    fun amount commit hport hf hp hlow hhigh hfree hsome => ?step, fun hform =>
    ⟨⟨_, exec_hwStatus hx hform, s.hwStatus_lays.mono (by simp [State.hoBoundNs]), ?status⟩,
      _, exec_hwInputStatus hx hform, ?table, fun i => ?entry⟩⟩
  case step =>
    have hjudged := hwPhaseStep_judged (s := s.takeRequest 0x0D03 r) hport hf hp hlow hhigh
      (by simpa only [takeRequest_holdsModule] using hfree) hsome
    refine ⟨fun hbusy => opcode_fail hx ?_, fun hfree => opcode_ok hx ?_⟩
    · rw [hjudged]
      exact if_pos hbusy
    · rw [hjudged]
      exact if_neg (by rw [show (s.takeRequest 0x0D03 r).hw.stepping = false from hfree]; exact Bool.false_ne_true)
  case status =>
    have hfreq : slice s.hwStatus 4 4 = be 4 s.hwFreqOff := by
      simpa using s.hwStatus_lays.slice_eq (o := 4) (b := be 4 s.hwFreqOff) (by simp)
    have herr : slice s.hwStatus 8 4 = be 4 s.hwPhaseErr := by
      simpa using s.hwStatus_lays.slice_eq (o := 8) (b := be 4 s.hwPhaseErr) (by simp)
    refine ⟨fun h => ?_, fun h => ?_, fun h f hf => ?_, ?_⟩
    · rw [hfreq, State.hwFreqOff_freerun h, be4_zero]
    · rw [hfreq, State.hwFreqOff_holdover h]
    · rw [hfreq, State.hwFreqOff_loop h hf]
    · rw [herr, State.hwPhaseErr_eq]
  case table =>
    refine ⟨s.inputTable_lays.1, fun x hmem => ?_⟩
    simp only [List.mem_append, List.mem_singleton, List.mem_map, List.mem_finRange, true_and] at hmem
    rcases hmem with (rfl | ⟨i, rfl⟩) | ⟨i, rfl⟩
    · exact s.inputTable_lays.slice_eq (b := [14, 0, 0, 0]) (by simp)
    · exact (s.inputTable_entry i (a := 0) (n := 1) (by omega)).trans rfl
    · dsimp only
      rw [show 6 + 8 * i.val = 4 + 8 * i.val + 2 by omega]
      exact (s.inputTable_entry i (a := 2) (n := 2) (by omega)).trans rfl
  case entry =>
    rw [State.inputTable_state, State.inputTable_freq]
    refine ⟨fun hunused => ?_, fun hgone => ?_, fun hoffered hqualified hi => ?_, fun hused hsel => ?_,
      fun hused hother hqualified => ?_, fun hused hother hnot hgone => ?_, fun hused hother hnot => ?_⟩
    · simp [State.inputState, hunused]
    · rw [State.inputFreq, hgone]
      exact be4_zero
    · obtain ⟨v, hv, hfreq⟩ := s.inputFreq_near hoffered hqualified hi
      exact ⟨v, hv, by rw [hfreq]⟩
    · simp [State.inputState, hused, hsel]
    · rw [State.inputState, hused, beq_eq_false_iff_ne.mpr hother, hqualified]
      rfl
    · rw [State.inputState, hused, beq_eq_false_iff_ne.mpr hother, hnot, hgone]
      rfl
    · simpa using s.inputState_waits hused hother hnot

end Sys2Proof.Machine
end

section
/-! Headwater's own instants: qualification and loss, build-out, lock, steps, outputs and holdover (R379 to R390, R504). -/

namespace Sys2Proof.Machine

section
variable {s : State}

/-! ## Inputs by their number, and the evaluation of the selection (R381) -/

theorem State.inputs_updInput (s : State) (i j : Fin 14) (f : HwInput → HwInput) :
    (s.updInput i f).hw.inputs[j] = if j = i then f s.hw.inputs[i] else s.hw.inputs[j] := by
  simp only [State.updInput, Fin.getElem_fin, Vector.getElem_set, Fin.ext_iff, eq_comm]

/-- An evaluation may begin a build-out, and that alone. -/
theorem State.hwEvaluate_keeps (s : State) (commit : Bool) : (s.hwEvaluate commit).hw.inputs = s.hw.inputs ∧
    (s.hwEvaluate commit).hw.selected = s.hw.selected ∧ (s.hwEvaluate commit).hw.buildOut = s.hw.buildOut ∧
    (s.hwEvaluate commit).hw.config = s.hw.config := by
  unfold State.hwEvaluate
  split
  · exact ⟨rfl, rfl, rfl, rfl⟩
  · split <;> exact ⟨rfl, rfl, rfl, rfl⟩

/-- Without a qualified input none is due (R381). -/
theorem State.dueInput_none (h : ∀ j : Fin 14, (s.hw.inputs[j]).qualified = false) : s.dueInput = none := by
  have hnot (code : Byte) : (s.input code).qualified = false := h (inputOf code)
  unfold State.dueInput
  simp only [hnot, Bool.false_and, Bool.and_false, List.find?_eq_none.mpr fun _ _ => Bool.false_ne_true,
    Bool.false_eq_true, if_false, ite_self]

theorem State.hwEvaluate_none (commit : Bool) (h : ∀ j : Fin 14, (s.hw.inputs[j]).qualified = false) :
    s.hwEvaluate commit = s := by
  rw [State.hwEvaluate, State.dueInput_none h]
  exact ite_self s

/-! ## Qualification and loss (R379, R385, R387) -/

/-- An input has qualified, with its event, before the selection is evaluated. -/
def State.qualify (s : State) (i : Fin 14) : State :=
  (s.updInput i fun x => { x with qualified := true, since := s.moduleTime, waited := false }).raise 0x0D05 .module
    [inputCode i]

theorem exec_inputQualifyTimer {i : Fin 14} {freq : BitVec 32} (hr : s.ready = true)
    (hnot : (s.hw.inputs[i]).qualified = false) (hoffered : s.inputOffered i = true) (hnear : nearNominal i freq = true) :
    exec (.inputQualifyTimer i freq) s = .next ((s.qualify i).hwEvaluate false) := by
  rw [show exec (.inputQualifyTimer i freq) s = execInputQualifyTimer i freq s from rfl, execInputQualifyTimer,
    eventIf_true hr (by rw [hnot, hoffered, hnear]; rfl)]
  rfl

theorem State.qualify_hw (s : State) (i : Fin 14) : (s.qualify i).hw =
    (s.updInput i fun x => { x with qualified := true, since := s.moduleTime, waited := false }).hw :=
  State.raise_hw _ _ _ _

/-- An input is no longer qualified. -/
def State.unqualify (s : State) (i : Fin 14) (cause : BitVec 4) : State :=
  s.updInput i fun x => { x with qualified := false, cause := cause, waited := false }

theorem exec_inputLoss {i : Fin 14} {cause : BitVec 4} (hr : s.ready = true)
    (hqualified : (s.hw.inputs[i]).qualified = true) (hfits : s.lossFits i cause = true) :
    exec (.inputLoss i cause) s = .next (s.disqualify i cause) := by
  rw [show exec (.inputLoss i cause) s = execInputLoss i cause s from rfl, execInputLoss,
    eventIf_true hr (by rw [hqualified, hfits]; rfl)]

theorem State.disqualify_other {i : Fin 14} {cause : BitVec 4} (hmode : s.hw.mode ≠ .buildOut)
    (hother : s.hw.selected ≠ inputCode i) : s.disqualify i cause = s.unqualify i cause := by
  unfold State.disqualify
  exact (if_neg fun h => hmode (eq_of_beq h)).trans (if_neg fun h => hother (eq_of_beq h))

/-- The selected input is lost: Headwater holds over, before the selection is evaluated (R385, R387). -/
def State.losesSelected (s : State) (i : Fin 14) (cause : BitVec 4) : State :=
  let t := ((s.unqualify i cause).raise 0x0D06 .module [inputCode i, cause.setWidth 8]).toHoldover (inputCode i) 1
  { t with hw := { t.hw with fallback := t.hw.fallback || t.sup.headless } }

theorem State.disqualify_selected {i : Fin 14} {cause : BitVec 4} (hmode : s.hw.mode ≠ .buildOut)
    (hselected : s.hw.selected = inputCode i) : s.disqualify i cause = (s.losesSelected i cause).hwEvaluate false := by
  unfold State.disqualify
  exact (if_neg fun h => hmode (eq_of_beq h)).trans (if_pos (beq_iff_eq.mpr hselected))

/-- The entry to HOLDOVER leaves inputs and configuration alone (R387). -/
theorem State.toHoldover_hw (s : State) (lost lostBy : Byte) : (s.toHoldover lost lostBy).hw.inputs = s.hw.inputs ∧
    (s.toHoldover lost lostBy).hw.config = s.hw.config ∧ (s.toHoldover lost lostBy).hw.mode = .holdover ∧
    (s.toHoldover lost lostBy).hw.selected = 0 ∧ (s.toHoldover lost lostBy).hw.hoTime = 0 ∧
    (s.toHoldover lost lostBy).hw.lostBy = lostBy := by
  simp [State.toHoldover, State.enterHoldover]

theorem State.losesSelected_hw (s : State) (i : Fin 14) (cause : BitVec 4) :
    (s.losesSelected i cause).hw.inputs = (s.unqualify i cause).hw.inputs ∧
    (s.losesSelected i cause).hw.config = s.hw.config ∧ (s.losesSelected i cause).hw.mode = .holdover ∧
    (s.losesSelected i cause).hw.selected = 0 ∧ (s.losesSelected i cause).hw.hoTime = 0 ∧
    (s.losesSelected i cause).hw.lostBy = 1 := by
  obtain ⟨hinputs, hconfig, hmode, hselected, htime, hlost⟩ := State.toHoldover_hw
    ((s.unqualify i cause).raise 0x0D06 .module [inputCode i, cause.setWidth 8]) (inputCode i) 1
  rw [State.raise_hw] at hinputs hconfig
  exact ⟨hinputs, hconfig, hmode, hselected, htime, hlost⟩

/-! ## Build-out, lock and the wait to restore (R380, R381, R383) -/

theorem exec_buildOutWindowEnd (phase : Int) (hr : s.ready = true) (hmode : s.hw.mode = .buildOut) :
    exec (.buildOutWindowEnd phase) s = .next (s.windowEnd phase) := by
  rw [show exec (.buildOutWindowEnd phase) s = execBuildOutWindowEnd phase s from rfl, execBuildOutWindowEnd,
    eventIf_true hr (beq_iff_eq.mpr hmode)]

theorem State.windowEnd_hw (s : State) (phase : Int) : (s.windowEnd phase).hw.selected = s.hw.candidate ∧
    (s.windowEnd phase).hw.buildOut = (if phaseInput s.hw.candidate then phase -
      s.hw.config.active.compOf s.hw.candidate - s.hw.windowStep else 0) ∧
    (s.windowEnd phase).hw.config = s.hw.config := by
  unfold State.windowEnd
  extract_lets h code was t u v
  obtain ⟨-, hselected, hbuild, hconfig⟩ := v.hwEvaluate_keeps false
  have hv : v.hw = t.hw := by
    unfold v u
    split <;> simp
  rw [hselected, hbuild, hconfig, hv]
  exact ⟨rfl, rfl, rfl⟩

theorem exec_hwLockDeclared (hr : s.ready = true) (hmode : s.hw.mode = .acquiring)
    (hnear : s.hw.phaseErr.natAbs ≤ lockWindow s.hw.selected)
    (hlong : lockTicks s.hw.config.active s.hw.selected ≤ s.hw.within) :
    exec .hwLockDeclared s = .next { s with hw := { s.hw with mode := .locked, lockedFor := some 0 } } := by
  have hdue : (s.hw.mode == .acquiring && s.lockReached) = true := by
    rw [hmode, State.lockReached, decide_eq_true ⟨hnear, hlong⟩]
    rfl
  rw [show exec .hwLockDeclared s = execHwLockDeclared s from rfl, execHwLockDeclared, eventIf_true hr hdue]

theorem exec_wtrExpiry {i : Fin 14} (hr : s.ready = true) (hqualified : (s.hw.inputs[i]).qualified = true)
    (hrevertive : s.hw.config.active.revertive = true) :
    exec (.wtrExpiry i) s = .next ((s.updInput i fun x => { x with waited := true }).hwEvaluate false) := by
  rw [show exec (.wtrExpiry i) s = execWtrExpiry i s from rfl, execWtrExpiry,
    eventIf_true hr (by rw [hqualified, hrevertive]; rfl)]

/-! ## Written steps and outputs (R386, R389, R390) -/

theorem exec_phaseStepApply (hr : s.ready = true) (hsecond : s.secondHere = true) :
    exec .phaseStepApply s = .next s.applyPending := by
  rw [show exec .phaseStepApply s = execPhaseStepApply s from rfl, execPhaseStepApply, eventIf_true hr hsecond]

theorem State.applyPending_hw {a : Int} (h : s.hw.pending = some a) : s.applyPending.hw.pending = none ∧
    s.applyPending.hw.stepNext = s.hw.stepNext + 1000000 * a ∧ s.applyPending.hw.toSecond = s.hw.toSecond ∧
    s.applyPending.hw.selected = s.hw.selected ∧ s.applyPending.hw.buildOut =
      if phaseInput s.hw.selected then s.hw.buildOut - a else s.hw.buildOut := by
  rw [State.applyPending, h]
  dsimp only
  rw [State.phaseStep, State.raise_hw]
  exact ⟨rfl, congrArg (s.hw.stepNext + ·) (Int.mul_comm a 1000000), rfl, rfl, rfl⟩

theorem exec_phaseSlewEnd (hr : s.ready = true) (hslew : s.hw.slew ≠ none) :
    exec .phaseSlewEnd s = .next { s with hw := { s.hw with slew := none } } := by
  rw [show exec .phaseSlewEnd s = execPhaseSlewEnd s from rfl, execPhaseSlewEnd,
    eventIf_true hr (Option.isSome_iff_ne_none.mpr hslew)]

theorem exec_refoutRestart (hr : s.ready = true) (hstopped : s.hw.refoutStopped = true) :
    exec .refoutRestart s = .next { s with hw := { s.hw with refoutStopped := false } } := by
  rw [show exec .refoutRestart s = execRefoutRestart s from rfl, execRefoutRestart, eventIf_true hr hstopped]

theorem exec_ppsOutEdge {n : Fin 2} (hr : s.ready = true) (hdue : s.ppsDue n = true)
    (hnew : s.hw.ppsRise[n] ≠ some s.moduleTime) : exec (.ppsOutEdge n) s = .next (s.ppsEdge n) := by
  rw [show exec (.ppsOutEdge n) s = execPpsOutEdge n s from rfl, execPpsOutEdge,
    eventIf_true hr (by rw [hdue, bne_iff_ne.mpr hnew]; rfl)]

/-! ## Holdover (R388) -/

theorem exec_holdoverSecond (hr : s.ready = true) (hholding : s.hw.holding = true) :
    exec .holdoverSecond s = .next s.holdoverTick := by
  rw [show exec .holdoverSecond s = execHoldoverSecond s from rfl, execHoldoverSecond, if_neg (by simp [hr]),
    eventIf_true hr hholding]

theorem State.holdoverTick_hw (s : State) : s.holdoverTick.hw = { s.hw with
    hoTime := s.hw.hoTime + 1, hoBound := holdoverBound s.hw.hoPhase (s.hw.hoTime + 1) s.ocxoDays s.hw.hoFull
    outOfSpec := s.hw.outOfSpec || decide (holdoverBound s.hw.hoPhase (s.hw.hoTime + 1) s.ocxoDays s.hw.hoFull >
      864000 * s.hw.config.active.bound) } := by
  unfold State.holdoverTick
  dsimp only
  split
  · exact State.raise_hw _ _ _ _
  · rfl

end

/-- Settles O40: each instant by what it leaves of Headwater; an evaluation of the selection that follows begins at most
a build-out, and without a qualified input nothing. -/
theorem headwaterInstants : Obligations.HeadwaterInstants := by
  intro s i n freq cause phase
  refine ⟨fun hr => ⟨fun hnot hoffered hnear => ⟨_, exec_inputQualifyTimer hr hnot hoffered hnear, ?qualify⟩,
    fun hqualified hfits hmode hother => ?other, fun hqualified hfits hmode hselected hnone => ?selected,
    fun hmode => ⟨_, exec_buildOutWindowEnd phase hr hmode, s.windowEnd_hw phase⟩, exec_hwLockDeclared hr,
    fun hqualified hrevertive => ⟨_, exec_wtrExpiry hr hqualified hrevertive, ?wait⟩,
    fun a hpending hsecond => ⟨_, exec_phaseStepApply hr hsecond, State.applyPending_hw hpending⟩, exec_phaseSlewEnd hr,
    exec_refoutRestart hr, exec_ppsOutEdge hr, fun hholding => ⟨_, exec_holdoverSecond hr hholding, ?holds⟩⟩,
    fun haux => congrArg Host.Outcome.next (if_pos haux)⟩
  case qualify =>
    obtain ⟨hinputs, hselected, -, -⟩ := (s.qualify i).hwEvaluate_keeps false
    simp only [hinputs, hselected, State.qualify_hw, State.inputs_updInput, if_true]
    exact ⟨trivial, trivial, rfl, fun j hj => if_neg hj⟩
  case other => rw [exec_inputLoss hr hqualified hfits, State.disqualify_other hmode hother]; rfl
  case selected =>
    obtain ⟨hinputs, hconfig, hheld, hzero, htime, hlost⟩ := s.losesSelected_hw i cause
    have hlostAll (j : Fin 14) : ((s.losesSelected i cause).hw.inputs[j]).qualified = false := by
      simp only [hinputs, State.unqualify, State.inputs_updInput]
      split
      · rfl
      next hj => exact hnone j hj
    refine ⟨_, exec_inputLoss hr hqualified hfits, ?_⟩
    rw [State.disqualify_selected hmode hselected, State.hwEvaluate_none false hlostAll]
    exact ⟨hheld, hzero, htime, hlost, hlostAll i, hconfig⟩
  case wait =>
    obtain ⟨hinputs, hselected, -, -⟩ := (s.updInput i fun x => { x with waited := true }).hwEvaluate_keeps false
    simp only [hinputs, hselected, State.inputs_updInput, if_true]
    exact ⟨trivial, rfl⟩
  case holds =>
    rw [State.holdoverTick_hw]
    exact ⟨rfl, rfl, rfl, by simp⟩

end Sys2Proof.Machine
end

section
/-! The opcodes of the collector (R484 to R487, R493 to R500). -/

namespace Sys2Proof.Machine

/-! ## A store whose entries are rewritten in place -/

section
variable {α : Type} [DecidableEq α] {d : α}

/-- Each listed entry that a condition names is replaced by what `f` makes of what its address reads. -/
theorem readAt_foldl_writeAt {f : α → α} {named : Nat → Bool} {g : Nat → α} {l : List (Nat × α)}
    (hl : ∀ x ∈ l, x.2 = g x.1) {m : List (Nat × α)} (hm : canon d m = true) (a : Nat) :
    readAt d (l.foldl (fun m x => if named x.1 then writeAt d m x.1 (f x.2) else m) m) a =
      if a ∈ l.map (·.1) ∧ named a = true then f (g a) else readAt d m a := by
  induction l generalizing m with
  | nil => simp
  | cons x xs ih =>
    obtain ⟨hx, hxs⟩ := List.forall_mem_cons.mp hl
    have hcanon : canon d (if named x.1 then writeAt d m x.1 (f x.2) else m) = true := by
      split
      · exact canon_writeAt _ _ hm
      · exact hm
    rw [List.foldl_cons, ih hxs hcanon, List.map_cons]
    by_cases hmem : a ∈ xs.map (·.1) ∧ named a = true
    · rw [if_pos hmem, if_pos ⟨List.mem_cons_of_mem _ hmem.1, hmem.2⟩]
    · rw [if_neg hmem]
      by_cases heq : a = x.1
      · subst heq
        by_cases hnamed : named x.1 = true
        · rw [if_pos hnamed, if_pos ⟨List.mem_cons_self .., hnamed⟩, readAt_writeAt_same _ _ hm, hx]
        · have hnot : ¬(x.1 ∈ x.1 :: xs.map (·.1) ∧ named x.1 = true) := fun h => hnamed h.2
          rw [if_neg hnamed, if_neg hnot]
      · have hnot : ¬(a ∈ x.1 :: xs.map (·.1) ∧ named a = true) :=
          fun h => hmem ⟨(List.mem_cons.mp h.1).resolve_left heq, h.2⟩
        rw [if_neg hnot]
        split
        · exact readAt_writeAt_other _ _ heq
        · rfl

/-- A rewriting that keeps the default reaches every address that the condition names. -/
theorem readAt_rewritten {f : α → α} {named : Nat → Bool} {l : List (Nat × α)} (hl : canon d l = true) (hf : f d = d)
    {a : Nat} (ha : named a = true) :
    readAt d (l.foldl (fun m x => if named x.1 then writeAt d m x.1 (f x.2) else m) l) a = f (readAt d l a) := by
  rw [readAt_foldl_writeAt (g := readAt d l) (fun x hx => (readAt_of_mem hl hx).symm) hl]
  split
  · rfl
  next hnot =>
    have hdefault : readAt d l a = d := by
      by_contra hne
      exact hnot ⟨List.mem_map_of_mem (f := (·.1)) (mem_of_readAt_ne hne), ha⟩
    rw [hdefault, hf]

end

/-! ## Entries behind a head -/

/-- What stands in an entry behind the head of a table. -/
theorem slice_entry {head : Bytes} {o k n i : Nat} {f : Nat → Bytes} (hhead : head.length = o)
    (hf : ∀ i, (f i).length = k) (hi : i < n) :
    slice (head ++ ((List.range n).map f).flatten) (o + k * i) k = f i := by
  rw [slice_append_right (by omega), hhead, Nat.add_sub_cancel_left]
  refine slice_flatten ?_ ?_
  · simpa using fun i _ => hf i
  · simp [hi]

theorem flatten_range_length {k n : Nat} {f : Nat → Bytes} (hf : ∀ i, (f i).length = k) :
    ((List.range n).map f).flatten.length = k * n := by
  rw [flatten_length_of_uniform (n := k) (by simpa using fun i _ => hf i)]
  simp

theorem takeEntries_all {mine : TagEntry → Bool} {l : List TagEntry} {n : Nat} (hmine : ∀ x ∈ l, mine x = true) :
    takeEntries mine n l = (l.take n, l.drop n) := by
  induction l generalizing n with
  | nil => simp [takeEntries]
  | cons x xs ih =>
    obtain ⟨hx, hxs⟩ := List.forall_mem_cons.mp hmine
    cases n with
    | zero => rfl
    | succ n =>
      rw [takeEntries, if_neg (by simp), if_pos hx, Nat.add_sub_cancel, ih hxs]
      rfl

section
variable {r : Request} {s : State}

/-! ## Settings and snapshots (R484, R487, R496, R500) -/

theorem groupMaskOk_of_zero {mask : BitVec 32} (h : mask &&& 0xFFF00001 = 0) : groupMaskOk mask = true :=
  beq_iff_eq.mpr h

theorem exec_ctrConfigWrite {mask : BitVec 32} (hx : Executes false r s) (hf : r.flag0 = false) (hport : r.port = 0)
    (hp : r.params = be 4 mask ++ [0, 0, 0, 0]) (hmask : mask &&& 0xFFF00001 = 0) :
    Writes 0x1201 .ctrConfigWrite r s fun s => { s with collector := { s.collector with groupNext := some mask } } := by
  have hu : u32 r.params 0 = mask := by simp [hp, u32]
  have hz : zeroAt r.params 4 4 = true := by simp [hp]
  have hform : badForm r 8 = false := formed_badForm ⟨hf, by simp [hp]⟩
  refine opcode_ok hx ?_
  rw [ctrConfigWriteBody, notPrincipal_of_zero hport, hu, hz, hform, groupMaskOk_of_zero hmask]
  rfl

theorem exec_ctrConfigRead (hx : Executes false r s) (hf : r.flag0 = false) (hp : r.params = []) :
    Reads 0x1202 .ctrConfigRead r s fun s => be 4 (s.collector.groupNext.getD s.collector.groupEn)
      ++ [0, 0, 0, 0] ++ (s.collector.tagNext.getD s.collector.tag).bytes := by
  refine opcode_reads hx ?_
  rw [ctrConfigReadBody, formed_nil hf hp]
  rfl

theorem exec_ctrSnapshot {mask : BitVec 32} (hx : Executes false r s) (hf : r.flag0 = false) (hp : r.params = be 4 mask)
    (hmask : mask &&& 0xFFF00001 = 0) : exec (.ctrSnapshot r) s =
      answered 0x1203 r .ok (be 6 (s.moduleTime + 1) ++ [0, 0]) { s.takeRequest 0x1203 r with
        collector := { s.collector with
          snapDue := s.collector.snapDue.set r.port (s.collector.snapDue[r.port] ||| mask) } } := by
  have hu : u32 r.params 0 = mask := by simp [hp, u32]
  have hform : badForm r 4 = false := formed_badForm ⟨hf, by simp [hp]⟩
  refine opcode_ok hx ?_
  rw [ctrSnapshotBody, hu, hform, groupMaskOk_of_zero hmask]
  rfl

theorem exec_tagConfigWrite {a b binw : Byte} {stop : Bool} (hx : Executes false r s) (hf : r.flag0 = false)
    (hport : r.port = 0) (hp : r.params = [a, b, binw, byte stop.toNat, 0, 0, 0, 0]) (ha : a.toNat ≤ 20)
    (hb : b.toNat ≤ 20) : Writes 0x1207 .tagConfigWrite r s fun s => { s with collector := { s.collector with
      tagNext := some { expIn := a, expEg := b, binw := binw, logStop := stop } } } := by
  have hform : badForm r 8 = false := formed_badForm ⟨hf, by simp [hp]⟩
  have hz : zeroAt r.params 4 4 = true := by simp [hp]
  have hbytes : u8 r.params 0 = a ∧ u8 r.params 1 = b ∧ u8 r.params 2 = binw := by simp [hp, u8]
  have hranges : decide (field r.params 0 1 > 20) = false ∧ decide (field r.params 1 1 > 20) = false := by
    simp [hp, ha, hb]
  have hstop : decide (field r.params 3 1 > 1) = false ∧ (field r.params 3 1 == 1) = stop := by
    cases stop <;> simp [hp]
  obtain ⟨hu0, hu1, hu2⟩ := hbytes
  obtain ⟨hr0, hr1⟩ := hranges
  obtain ⟨hlow, hflag⟩ := hstop
  refine opcode_ok hx ?_
  rw [tagConfigWriteBody, notPrincipal_of_zero hport, hform, hz, hu0, hu1, hu2, hr0, hr1, hlow, hflag]
  rfl

/-! ## Reads of counters and of the flight recorder (R497, R499) -/

theorem State.takeRequest_holdsInstance (s : State) (op : BitVec 16) (r : Request) (p : Hp) (sc : CounterScope) (i : Nat) :
    (s.takeRequest op r).holdsInstance p sc i = s.holdsInstance p sc i := by
  have hserved (c : Cp) : (s.takeRequest op r).holdsServed p c = s.holdsServed p c := by
    simp only [State.holdsServed, takeRequest_holdsCport, takeRequest_holdsEngine]
    rfl
  cases sc <;> simp [State.holdsInstance, hserved]

theorem State.counterEntry_length (s : State) (p : Hp) (k : CounterKind) (i : Nat) :
    (s.counterEntry p k i).length = 9 := by
  simp [State.counterEntry]

/-- The 16 bytes before CTR_READ's entries. -/
def State.counterHead (s : State) (p : Hp) (k : CounterKind) (first count : Nat) : Bytes :=
  be 2 (s.kindNumber k) ++ [byte (kindInfo k).2.1.toNat, 0] ++ beBytes 4 first ++ beBytes 2 count
    ++ be 6 (readAt 0 s.collector.snapTimes[p] (kindInfo k).1)

theorem State.counterHead_length (s : State) (p : Hp) (k : CounterKind) (first count : Nat) :
    (s.counterHead p k first count).length = 16 := by
  simp [State.counterHead]

theorem State.counterReply_eq (s : State) (p : Hp) (k : CounterKind) (first count : Nat) :
    s.counterReply p k first count =
      s.counterHead p k first count ++ ((List.range count).map fun i => s.counterEntry p k (first + i)).flatten := rfl

theorem exec_ctrRead {k : CounterKind} {first : BitVec 32} {count : BitVec 16} (hx : Executes false r s)
    (hf : r.flag0 = false)
    (hp : r.params = be 2 (s.kindNumber k) ++ [0, 0] ++ be 4 first ++ be 2 count ++ [0, 0])
    (hkind : s.kindOf (s.kindNumber k) = some k) (hsome : count ≠ 0) (hmost : count.toNat ≤ 451)
    (hfits : first.toNat + count.toNat ≤ s.instances (kindInfo k).2.2.1)
    (hholds : s.holdsRun r.port (kindInfo k).2.2.1 first.toNat count.toNat = true) :
    Reads 0x1204 .ctrRead r s fun _ => s.counterReply r.port k first.toNat count.toNat := by
  have hfirst : field r.params 4 4 = first.toNat := by simp [hp]
  have hcount : field r.params 8 2 = count.toNat := by simp [hp]
  have hnumber : u16 r.params 0 = s.kindNumber k := by simp [hp, u16]
  have hform : badForm r 12 = false := formed_badForm ⟨hf, by simp [hp]⟩
  have hzeros : zeroAt r.params 2 2 = true ∧ zeroAt r.params 10 2 = true := by simp [hp]
  have hnonzero : (count.toNat == 0) = false := by
    simpa using fun h : count.toNat = 0 => hsome (BitVec.eq_of_toNat_eq h)
  obtain ⟨hz2, hz10⟩ := hzeros
  have hrange : (decide (count.toNat > 451) ||
      decide (first.toNat + count.toNat > (s.takeRequest 0x1204 r).instances (kindInfo k).2.2.1)) = false := by
    rw [decide_eq_false (by omega), Bool.false_or]
    exact decide_eq_false (Nat.not_lt.mpr hfits)
  have hrun : (s.takeRequest 0x1204 r).holdsRun r.port (kindInfo k).2.2.1 first.toNat count.toNat = true := by
    simp only [State.holdsRun, State.takeRequest_holdsInstance]
    exact hholds
  refine opcode_reads hx ?_
  rw [ctrReadBody]
  simp only [hfirst, hcount, hnumber, hform, hz2, hz10, hnonzero, Bool.not_true, Bool.or_self, guards_false, guards_nil,
    show (s.takeRequest 0x1204 r).kindOf (s.kindNumber k) = some k from hkind, hrange, hrun]
  rfl

/-- The 40 bytes before FR_READ's counters. -/
def State.flightHead (s : State) : Bytes := be 6 s.moduleTime ++ [0, 0] ++ be 32 s.stickyMap

theorem State.flightHead_length (s : State) : s.flightHead.length = 40 := by simp [State.flightHead]

theorem State.flightHead_time (s : State) : slice s.flightHead 0 8 = be 6 s.moduleTime ++ [0, 0] := by
  rw [State.flightHead, slice_append_left (by simp)]
  exact slice_all (by simp)

theorem State.flightHead_sticky (s : State) : slice s.flightHead 8 32 = be 32 s.stickyMap := by
  rw [State.flightHead, slice_append_right (by simp)]
  simpa using slice_all (a := be 32 s.stickyMap) (n := 32) (by simp)

theorem exec_frRead {first count : Byte} (hx : Executes false r s) (hf : r.flag0 = false)
    (hp : r.params = [first, count, 0, 0]) (hsome : count ≠ 0) (hfits : first.toNat + count.toNat ≤ 256) :
    Reads 0x1206 .frRead r s fun _ => s.flightHead ++
      ((List.range count.toNat).map fun i => be 4 (s.flightAt (first.toNat + i)).1).flatten := by
  have hfirst : field r.params 0 1 = first.toNat := by simp [hp]
  have hcount : field r.params 1 1 = count.toNat := by simp [hp]
  have hform : badForm r 4 = false := formed_badForm ⟨hf, by simp [hp]⟩
  have hz : zeroAt r.params 2 2 = true := by simp [hp]
  have hnonzero : (count.toNat == 0) = false := by
    simpa using fun h : count.toNat = 0 => hsome (BitVec.eq_of_toNat_eq h)
  refine opcode_reads hx ?_
  rw [frReadBody]
  simp only [hfirst, hcount, hform, hz, hnonzero, decide_eq_false (Nat.not_lt.mpr hfits), Bool.not_true, Bool.or_self,
    guards_false, guards_nil]
  rfl

/-! ## Clears and the tag log (R485, R493, R498) -/

theorem exec_ctrClear_all (hx : Executes false r s) (hf : r.flag0 = false)
    (hp : r.params = [0xFF, 0xFF, 0, 0, 0, 0, 0, 0, 0, 0, 0, 0]) : exec (.ctrClear r) s =
      answered 0x1205 r .ok [] ((s.takeRequest 0x1205 r).clearViews r.port fun k i =>
        (s.takeRequest 0x1205 r).holdsInstance r.port (scopeAt k) i) := by
  have hall : (u16 r.params 0 == 0xFFFF) = true := by rw [hp]; decide
  have hfields : field r.params 4 4 = 0 ∧ field r.params 8 4 = 0 := by rw [hp]; decide
  have hform : badForm r 12 = false := formed_badForm ⟨hf, by simp [hp]⟩
  have hz : zeroAt r.params 2 2 = true := by simp [hp]
  obtain ⟨hfirst, hcount⟩ := hfields
  refine opcode_ok hx ?_
  rw [ctrClearBody]
  simp only [hall, hfirst, hcount, hform, hz]
  rfl

theorem State.clearViews_other (s : State) {p q : Hp} (hq : q ≠ p) (named : Nat → Nat → Bool) (key : Nat) :
    (s.clearViews p named).view_ q key = s.view_ q key := by
  have hne : p.val ≠ q.val := fun h => hq (Fin.ext h.symm)
  simp only [State.view_, State.clearViews, State.setViews, Fin.getElem_fin, Vector.getElem_set_ne _ _ hne]

/-- B becomes S for every counter that the condition names, listed or not (R485). -/
theorem State.clearViews_named {p : Hp} (hcanon : canon {} s.collector.views[p] = true) (named : Nat → Nat → Bool)
    {key : Nat} (hkey : named (key / 4096) (key % 4096) = true) : (s.clearViews p named).view_ p key =
      { s.view_ p key with base := (s.view_ p key).snap, ovf := false } := by
  have h := readAt_rewritten (f := fun x : CounterView => { x with base := x.snap, ovf := false })
    (named := fun a => named (a / 4096) (a % 4096)) hcanon rfl hkey
  simpa only [State.view_, State.clearViews, State.setViews, Fin.getElem_fin, Vector.getElem_set_self] using h

theorem exec_tagLogRead {max : Byte} (hx : Executes false r s) (hf : r.flag0 = false) (hp : r.params = [max, 0, 0, 0])
    (hsome : max ≠ 0) (hmost : max.toNat ≤ 84) (hholds : ∀ x ∈ s.collector.log, s.holdsCport r.port x.port = true)
    (hall : max.toNat ≤ s.collector.log.length) : exec (.tagLogRead r) s = answered 0x1208 r .ok
      ([max, 0, 0, 0] ++ be 4 s.collector.logLost
        ++ ((s.collector.log.take max.toNat).map fun x => x.bytes).flatten)
      { s.takeRequest 0x1208 r with collector := { s.collector with
          log := s.collector.log.drop max.toNat
          logFull := s.collector.logFull && !(s.collector.log.drop max.toNat).isEmpty } } := by
  have hcount : field r.params 0 1 = max.toNat := by simp [hp]
  have hform : badForm r 4 = false := formed_badForm ⟨hf, by simp [hp]⟩
  have hz : zeroAt r.params 1 3 = true := by simp [hp]
  have hnonzero : (max.toNat == 0) = false := by
    simpa using fun h : max.toNat = 0 => hsome (BitVec.eq_of_toNat_eq h)
  have htake : takeEntries (fun x : TagEntry => s.holdsCport r.port x.port) max.toNat s.collector.log =
      (s.collector.log.take max.toNat, s.collector.log.drop max.toNat) := takeEntries_all hholds
  have hlength : byte (s.collector.log.take max.toNat).length = max := by
    rw [List.length_take, Nat.min_eq_left hall]
    simp [byte]
  refine opcode_ok hx ?_
  rw [tagLogReadBody]
  simp only [hcount, hform, hz, hnonzero, decide_eq_false (Nat.not_lt.mpr hmost), takeRequest_holdsCport,
    State.takeRequest_collector, htake, hlength, Bool.not_true, Bool.or_self, guards_false, guards_nil]

end

/-- Settles O49. -/
theorem counterRequests : Obligations.CounterRequests := by
  intro r s hx hf
  refine ⟨fun mask hport hp hmask => exec_ctrConfigWrite hx hf hport hp hmask, exec_ctrConfigRead hx hf,
    fun mask hp hmask => ⟨_, exec_ctrSnapshot hx hf hp hmask, rfl⟩,
    fun k first count hp hkind hsome hmost hfits hholds =>
      ⟨_, exec_ctrRead hx hf hp hkind hsome hmost hfits hholds, ?length, fun i hi => ?counter⟩,
    fun hp hcanon => ⟨_, exec_ctrClear_all hx hf hp, fun p hother key => State.clearViews_other _ hother _ _, rfl,
      fun key hkey => ?cleared⟩,
    fun first count hp hsome hfits => ⟨_, exec_frRead hx hf hp hsome hfits, ?flightLength, ?time, ?sticky, fun i hi => ?flight⟩,
    fun a b binw stop hport hp ha hb => exec_tagConfigWrite hx hf hport hp ha hb,
    fun max hp hsome hmost hholds hall => ⟨_, exec_tagLogRead hx hf hp hsome hmost hholds hall, rfl⟩⟩
  case length =>
    rw [State.counterReply_eq, List.length_append, State.counterHead_length,
      flatten_range_length fun i => s.counterEntry_length r.port k (first.toNat + i)]
  case counter =>
    exact slice_entry (s.counterHead_length ..) (fun i => s.counterEntry_length r.port k (first.toNat + i)) hi
  case cleared =>
    refine State.clearViews_named (s := s.takeRequest 0x1205 r) hcanon
      (fun k i => (s.takeRequest 0x1205 r).holdsInstance r.port (scopeAt k) i) ?_
    rwa [State.takeRequest_holdsInstance]
  case flightLength =>
    rw [List.length_append, State.flightHead_length, flatten_range_length (k := 4) fun i => by simp]
  case time => rw [slice_append_left (by simp [State.flightHead_length]), State.flightHead_time]
  case sticky => rw [slice_append_left (by simp [State.flightHead_length]), State.flightHead_sticky]
  case flight =>
    exact slice_entry s.flightHead_length (fun i => by simp) hi

end Sys2Proof.Machine
end
